-- ==== Sys2Proof/Word.lean ====
section
/-! DEFINITION. The words of the HYK8096: 32-bit registers (R8), bytes, 64-bit TB values. -/

namespace Sys2Proof

/-- A 32-bit register word (R8). -/
abbrev Word := BitVec 32
/-- A byte of a RAM window. -/
abbrev Byte := BitVec 8
/-- A 64-bit count of ticks, as TB holds (R4). -/
abbrev Time := BitVec 64

/-- The 32-bit word of a number, modulo 2^32. -/
abbrev w32 (n : Nat) : Word := BitVec.ofNat 32 n

end Sys2Proof
end

