-- ==== Sys2Proof/Syntax.lean ====
section
/-! DEFINITION. The commands of the HYK8096: one constructor of `Instr` for every row of the spec's opcode table, with the
operands that say which instance it concerns and what comes with it from outside. -/

namespace Sys2Proof

/-- Who makes an access or an offer: the host port, the supervisor port, one priority bank of one engine (R40, R74), a Newel
(R74), or the debug agent (R422). -/
inductive Agent where
  | host
  | sup
  | bank (e : Fin 8) (b : Fin 4)
  | newel (n : Fin 4)
  | debug
deriving DecidableEq, Repr

/-- A timestamped edge (R71): its channel, the level after it and its effective time, coarse and fine (R39). -/
structure EdgeInfo where
  ch : Fin 96
  level : Bool
  coarse : Time
  fine : BitVec 5
deriving DecidableEq, Repr

/-- The shadow registers of a channel (R66) and of a PWM group (R91). -/
inductive Shadow where
  | period
  | cmp (k : Fin 4)
  | cmpFine
deriving DecidableEq, Repr

/-- The four registers of an angle-event slot (R144). -/
inductive SlotReg where
  | ang
  | cfg
  | commit
  | late
deriving DecidableEq, Repr

/-- The source of an SRQ, by class and number (R199, CAUSEID). -/
inductive SrqSource where
  | ch (n : Fin 96)
  | pg (m : Fin 16)
  | nwl (n : Fin 4)
  | mbx (k : Fin 8)
  | sig (e : Fin 8)
  | wake (j : Fin 8)
deriving DecidableEq, Repr

/-- A record group (R292, R293): the principal record's SRC, TYPE, LVL, FINE and COARSE, the payloads of its extension
records, and the ring that a Banister, anchor or loss group names. -/
structure RecGroup where
  src : Nat
  typ : Nat
  lvl : Bool
  fine : Nat
  coarse : Nat
  ext : List Nat
  ring : Fin 64
deriving DecidableEq, Repr

/-- What every peer frame carries (R414): the originating device and the hop count. -/
structure FrameHead where
  dev : Fin 4
  hops : Fin 4
deriving DecidableEq, Repr

/-- The payload of a TOOTH0 frame (R415): the source Newel, the near time and fine of the tooth, the angle at it, its class, index,
state and REV. -/
structure Tooth0 where
  nwl : Fin 4
  near : Word
  fine : BitVec 5
  ang : BitVec 22
  cls : Fin 6
  idx : BitVec 7
  state : Fin 6
  rev : Bool
deriving DecidableEq, Repr

/-- The payload of a TOOTH1 frame (R415): the source Newel, the prediction and the interval that follows. -/
structure Tooth1 where
  nwl : Fin 4
  pred : BitVec 40
  anext : BitVec 22
deriving DecidableEq, Repr

/-- Who read a memory word that failed (R335): an engine, the Gallery for the descriptor or for the Landing entries of a ring, a Newel
at a slot, the landing of a transaction, a port or the debug agent, the scrubber, or a Chest read. -/
inductive Requester where
  | engine (e : Fin 8)
  | gallery (r : Fin 64)
  | entries (r : Fin 64)
  | slot (n : Fin 4) (k : Fin 512)
  | txn (t : Fin 8)
  | port (a : Agent)
  | scrub
  | chest
deriving DecidableEq, Repr

/-- The commands, one constructor for each row of the opcode table. An operand `a` is the agent whose access it is. -/
inductive Instr where
  -- Register access
  | registerWrite (a : Agent) (off : Nat) (size : Nat) (v : BitVec 64)
  | rcRead (a : Agent) (off : Nat) (size : Nat)
  | codeRamWrite (a : Agent) (off : Nat) (size : Nat) (v : BitVec 64)
  -- Clocks and the timebase
  | ltrimWindowEnd (counted : Nat)
  | tbStep (a : Agent)
  | fofsclr (a : Agent)
  | syncInEdge (level : Bool) (fine : BitVec 5) (held : Nat)
  | clkFrzWrite (a : Agent) (m : Fin 3) (v : Word)
  | channelFreeze (n : Fin 96)
  | channelRelease (n : Fin 96)
  -- Channels
  | counterBoundary (n : Fin 96)
  | counterPeak (n : Fin 96)
  | cascadeAdvance (n : Fin 96)
  | compareMatch (n : Fin 96) (k : Fin 4)
  | inputEdgeSampled (n : Fin 96) (level : Bool) (fine : BitVec 5)
  | glitchFilterExpiry (n : Fin 96)
  | capture (n : Fin 96)
  | aqOffer (a : Agent) (n : Fin 96) (v : Word)
  | aqFire (n : Fin 96)
  | flush (a : Agent) (n : Fin 96)
  | chStop (a : Agent) (n : Fin 96)
  | chStart (a : Agent) (n : Fin 96)
  | channelEnable (a : Agent) (n : Fin 96)
  | channelDisable (a : Agent) (n : Fin 96)
  | shadowWrite (a : Agent) (n : Fin 96) (r : Shadow) (v : Word)
  -- PWM groups
  | pgBoundary (m : Fin 16)
  | pgPeak (m : Fin 16)
  | pgStart (a : Agent) (m : Fin 16)
  | pgGroupStart (m : Fin 16)
  | pgStop (a : Agent) (m : Fin 16)
  | pgDisable (a : Agent) (m : Fin 16)
  | tripclr (a : Agent) (m : Fin 16)
  | force (a : Agent) (m : Fin 16)
  | deadTimeExpiry (n : Fin 96)
  | stretchClose (n : Fin 96)
  | tripAssert (m : Fin 16)
  -- Angle tracking
  | newelEnable (a : Agent) (n : Fin 4)
  | newelDisable (a : Agent) (n : Fin 4)
  | toothReceive (n : Fin 4) (e : EdgeInfo)
  | toothClassify (n : Fin 4)
  | predictionLoad (n : Fin 4)
  | holdAngleReached (n : Fin 4)
  | phaseInputEdge (n : Fin 4) (j : Fin 2) (e : EdgeInfo)
  | stallTimeout (n : Fin 4)
  | resync (a : Agent) (n : Fin 4)
  | phset (a : Agent) (n : Fin 4) (phval : Bool)
  | hold (a : Agent) (n : Fin 4)
  | encoderEdge (n : Fin 4) (e : EdgeInfo)
  | zEdge (n : Fin 4) (e : EdgeInfo)
  -- Angle events
  | latePass (n : Fin 4)
  | slotConversion (n : Fin 4) (k : Fin 512)
  | newelOffer (n : Fin 4) (k : Fin 512)
  | commitFreeze (n : Fin 4) (k : Fin 512)
  | reoffer (n : Fin 4) (k : Fin 512)
  | cancel (n : Fin 4)
  | cancelOffer (n : Fin 4)
  | slotWrite (a : Agent) (n : Fin 4) (k : Fin 512) (r : SlotReg) (v : Word)
  | reEvaluation (n : Fin 4)
  -- Engines
  | srqArrival (e : Fin 8) (t : Fin 32) (src : SrqSource)
  | threadDispatch (e : Fin 8)
  | preemption (e : Fin 8)
  | feStart (a : Agent) (e : Fin 8)
  | feStop (a : Agent) (e : Fin 8)
  | feStopComplete (e : Fin 8)
  | feGoWrite (a : Agent) (v : Word)
  | barrierRelease (b : Fin 8)
  | barrierTimeout (b : Fin 8)
  | wakeTimerFire (e : Fin 8) (j : Fin 8)
  | lwaitRelease (e : Fin 8) (b : Fin 4)
  -- Runner lanes
  | laneEnable (a : Agent) (k : Fin 16) (v : Word)
  | laneDisable (a : Agent) (k : Fin 16)
  | txbufWrite (a : Agent) (k : Fin 16) (v : Word)
  | laneWordStart (k : Fin 16)
  | laneWordComplete (k : Fin 16)
  | pulseEdge (k : Fin 16) (e : EdgeInfo)
  | laneStart (a : Agent) (k : Fin 16)
  | lanePause (k : Fin 16)
  -- Engine instructions
  | nop (e : Fin 8)
  | done (e : Fin 8)
  | yield (e : Fin 8)
  | ret (e : Fin 8)
  | rep (e : Fin 8) (n : Fin 16)
  | push (e : Fin 8) (r : Fin 16)
  | pop (e : Fin 8) (r : Fin 16)
  | mov (e : Fin 8) (rd rs : Fin 16)
  | add (e : Fin 8) (rd rs rt : Fin 16) (long : Bool)
  | sub (e : Fin 8) (rd rs rt : Fin 16) (long : Bool)
  | and (e : Fin 8) (rd rs rt : Fin 16) (long : Bool)
  | or (e : Fin 8) (rd rs rt : Fin 16) (long : Bool)
  | xor (e : Fin 8) (rd rs rt : Fin 16) (long : Bool)
  | shl (e : Fin 8) (rd rs rt : Fin 16) (long : Bool)
  | shr (e : Fin 8) (rd rs rt : Fin 16) (long : Bool)
  | sar (e : Fin 8) (rd rs rt : Fin 16) (long : Bool)
  | ror (e : Fin 8) (rd rs rt : Fin 16)
  | neg (e : Fin 8) (rd rs : Fin 16)
  | not (e : Fin 8) (rd rs : Fin 16)
  | slt (e : Fin 8) (rd rs rt : Fin 16) (long : Bool)
  | sltu (e : Fin 8) (rd rs rt : Fin 16) (long : Bool)
  | seq (e : Fin 8) (rd rs rt : Fin 16) (long : Bool)
  | sne (e : Fin 8) (rd rs rt : Fin 16) (long : Bool)
  | sbefore (e : Fin 8) (rd rs rt : Fin 16) (long : Bool)
  | tadd (e : Fin 8) (rd rs rt : Fin 16)
  | soadd (e : Fin 8) (rd rs rt : Fin 16)
  | sosub (e : Fin 8) (rd rs rt : Fin 16)
  | soneg (e : Fin 8) (rd rs : Fin 16)
  | min (e : Fin 8) (rd rs rt : Fin 16)
  | max (e : Fin 8) (rd rs rt : Fin 16)
  | minu (e : Fin 8) (rd rs rt : Fin 16)
  | maxu (e : Fin 8) (rd rs rt : Fin 16)
  | clz (e : Fin 8) (rd rs : Fin 16)
  | addi8 (e : Fin 8) (rd : Fin 16) (imm : BitVec 8)
  | li8 (e : Fin 8) (rd : Fin 16) (imm : BitVec 8)
  | lwsp (e : Fin 8) (rd : Fin 16) (u : BitVec 8)
  | swsp (e : Fin 8) (rs : Fin 16) (u : BitVec 8)
  | bz (e : Fin 8) (rs : Fin 16) (ofs : BitVec 16) (long : Bool)
  | bnz (e : Fin 8) (rs : Fin 16) (ofs : BitVec 16) (long : Bool)
  | br (e : Fin 8) (ofs : BitVec 16) (long : Bool)
  | shli (e : Fin 8) (rd : Fin 16) (amt : BitVec 6)
  | shri (e : Fin 8) (rd : Fin 16) (amt : BitVec 6)
  | sari (e : Fin 8) (rd : Fin 16) (amt : BitVec 6)
  | rori (e : Fin 8) (rd : Fin 16) (amt : BitVec 6)
  | lw4 (e : Fin 8) (rd rb : Fin 16) (u : BitVec 4)
  | sw4 (e : Fin 8) (rs rb : Fin 16) (u : BitVec 4)
  | mul (e : Fin 8) (rd rs rt : Fin 16)
  | mulh (e : Fin 8) (rd rs rt : Fin 16)
  | mulhu (e : Fin 8) (rd rs rt : Fin 16)
  | div (e : Fin 8) (rd rs rt : Fin 16)
  | divu (e : Fin 8) (rd rs rt : Fin 16)
  | rem (e : Fin 8) (rd rs rt : Fin 16)
  | remu (e : Fin 8) (rd rs rt : Fin 16)
  | mac (e : Fin 8) (a : Bool) (rs rt : Fin 16)
  | msu (e : Fin 8) (a : Bool) (rs rt : Fin 16)
  | macu (e : Fin 8) (a : Bool) (rs rt : Fin 16)
  | wra (e : Fin 8) (a : Bool) (rs rt : Fin 16)
  | rdal (e : Fin 8) (rd : Fin 16) (a : Bool)
  | rdah (e : Fin 8) (rd : Fin 16) (a : Bool)
  | shra (e : Fin 8) (rd rt : Fin 16) (a : Bool)
  | macd (e : Fin 8) (gx gy : Fin 16) (half a : Bool)
  | angadd (e : Fin 8) (rd rs rt : Fin 16)
  | angsub (e : Fin 8) (rd rs rt : Fin 16)
  | li (e : Fin 8) (rd : Fin 16) (imm : BitVec 16)
  | lui (e : Fin 8) (rd : Fin 16) (imm : BitVec 16)
  | addi (e : Fin 8) (rd rs : Fin 16) (imm : BitVec 16)
  | andi (e : Fin 8) (rd rs : Fin 16) (imm : BitVec 16)
  | ori (e : Fin 8) (rd rs : Fin 16) (imm : BitVec 16)
  | xori (e : Fin 8) (rd rs : Fin 16) (imm : BitVec 16)
  | slti (e : Fin 8) (rd rs : Fin 16) (imm : BitVec 16)
  | sltui (e : Fin 8) (rd rs : Fin 16) (imm : BitVec 16)
  | seqi (e : Fin 8) (rd rs : Fin 16) (imm : BitVec 16)
  | snei (e : Fin 8) (rd rs : Fin 16) (imm : BitVec 16)
  | lw (e : Fin 8) (rd rs : Fin 16) (imm : BitVec 16)
  | lh (e : Fin 8) (rd rs : Fin 16) (imm : BitVec 16)
  | lhu (e : Fin 8) (rd rs : Fin 16) (imm : BitVec 16)
  | lb (e : Fin 8) (rd rs : Fin 16) (imm : BitVec 16)
  | lbu (e : Fin 8) (rd rs : Fin 16) (imm : BitVec 16)
  | sw (e : Fin 8) (rs rb : Fin 16) (imm : BitVec 16)
  | sh (e : Fin 8) (rs rb : Fin 16) (imm : BitVec 16)
  | sb (e : Fin 8) (rs rb : Fin 16) (imm : BitVec 16)
  | lwpi (e : Fin 8) (rd rb : Fin 16) (imm : BitVec 16)
  | swpi (e : Fin 8) (rs rb : Fin 16) (imm : BitVec 16)
  | call (e : Fin 8) (target : BitVec 16)
  | jr (e : Fin 8) (rs : Fin 16)
  | callr (e : Fin 8) (rs : Fin 16)
  | repi (e : Fin 8) (n : BitVec 16)
  | repir (e : Fin 8) (rs : Fin 16)
  | inp (e : Fin 8) (rd rb : Fin 16) (imm : BitVec 16)
  | out (e : Fin 8) (rs rb : Fin 16) (imm : BitVec 16)
  | lwait (e : Fin 8) (rd lane : Fin 16) (cond : Fin 4)
  | bar (e : Fin 8) (rd : Fin 16) (b : Fin 8)
  | sig (e : Fin 8) (t : Fin 8) (th : Fin 32)
  | mfs (e : Fin 8) (rd : Fin 16) (sr : Fin 6)
  | mts (e : Fin 8) (sr : Fin 5) (rs : Fin 16)
  | illegalInstruction (e : Fin 8)
  -- Rings and descriptors
  | doorbell (a : Agent) (r : Fin 64) (v : Word)
  | descriptorArrival (r : Fin 64) (ok : Bool) (ws : List Word)
  | hostReadCompletion (g : Fin 16) (ok : Bool) (data : List Byte)
  | descNop (r : Fin 64)
  | descWrite (r : Fin 64)
  | writep (r : Fin 64)
  | descRead (r : Fin 64)
  | copy (r : Fin 64)
  | fill (r : Fin 64)
  | descFence (r : Fin 64)
  | txnBegin (r : Fin 64)
  | txnCommit (r : Fin 64)
  | txnRollback (r : Fin 64)
  | snapDescriptor (r : Fin 64)
  | descriptorComplete (r : Fin 64)
  | ringEnable (a : Agent) (r : Fin 64)
  | ringDisable (a : Agent) (r : Fin 64)
  | drainEnd (r : Fin 64)
  | abort (a : Agent) (r : Fin 64)
  | resume (a : Agent) (r : Fin 64)
  | attach (a : Agent) (r : Fin 64)
  | irqTimerExpiry (r : Fin 64)
  | entryPublish (r : Fin 64)
  | blockPublish (r : Fin 64)
  -- Capture streaming
  | recordEntry (g : RecGroup)
  | leaveDiscarding (r : Fin 64)
  | flushTimerExpiry (r : Fin 64)
  | blockWrite (r : Fin 64)
  | galMarkWrite (a : Agent) (v : Word)
  -- Transactions and SNAP
  | begin (a : Agent) (t : Fin 8)
  | rollback (a : Agent) (t : Fin 8)
  | commit (a : Agent) (t : Fin 8)
  | svalWrite (a : Agent) (t : Fin 8) (v : Word)
  | landing (t : Fin 8)
  -- Faults
  | readRetry (mem : Fin 10) (off : Nat) (q : Requester) (clean : Bool)
  -- Vestibule, background work, telemetry, Chest
  | selfTest (a : Agent) (v : Word)
  | recalibrate (a : Agent) (v : Word)
  | selfTestEnd (pass : Bool) (ofs : BitVec 20)
  | calibrationTurn (fl : Fin 8) (ok : Bool)
  | delayLineSwap (fl : Fin 8)
  | swapSkip (fl : Fin 8)
  | tempMeasure (t01 t23 : Word)
  | chestReadDone (ok : Bool)
  | chestRowDone (ok : Bool)
  | wearLevelMove (b : Nat)
  -- Power, reset and boot
  | supplyWarn (k : Fin 5)
  | dipRecovery (k : Fin 5) (minmv : BitVec 16) (dur : Word)
  | supplyReset (k : Fin 5)
  | wakePin (n : Fin 16)
  | lobbyWakeTimer (j : Fin 8)
  | vddGood (vio : BitVec 3)
  -- Ports
  | pcieError (k : Fin 3)
  | xspiRead (off : Nat) (len : Nat)
  | xspiWrite (off : Nat) (data : List Byte)
  | hbKick (a : Agent) (v : Word)
  | enumFrame (h : FrameHead)
  | timeFrame (h : FrameHead) (t : Time) (fine : BitVec 5) (arr : BitVec 5)
  | tooth0Frame (h : FrameHead) (t : Tooth0)
  | tooth1Frame (h : FrameHead) (t : Tooth1)
  | snapFrame (h : FrameHead) (round : Nat) (at' : Word)
  | commitFrame (h : FrameHead) (round : Nat) (t : Fin 8) (at' : Word)
  | statusFrame (h : FrameHead) (round : Nat) (acted : BitVec 4)
  | linkdnFrame (h : FrameHead)
  -- JTAG and debug
  | debugUpdateDr (dr : BitVec 54)
  | breakpointHit (e : Fin 8)
  -- Further events of the links, the supplies, the trips and the lanes
  | tripInputInactive (m : Fin 16)
  | configurationWrite (v : Word)
  | angleCyclePassage (n : Fin 4)
  | laneClockEdge (k : Fin 16) (level : Bool)
  | laneRxStartEdge (k : Fin 16) (e : EdgeInfo)
  -- Commands without an operand
  -- Clocks and the timebase
  | x32Lock
  | x32Stop
  | pllUnlock
  | xinLoss
  | pllLock
  | tbclkCountingReturn
  | slewAdjust
  | tbWrapPassage
  | syncoutEnable
  | syncoutActiveEdge
  | syncoutPulseEnd
  | syncoutDisable
  -- Engines
  | goAct
  -- Microcode
  | mcLoad
  | patchActivate
  | unload
  | advsvn
  | fuseStep
  | chestwr
  -- Rings and descriptors
  | perstN
  | linkDown
  | linkUp
  -- Capture streaming
  | entryQueueEntry
  -- Transactions and SNAP
  | snapStrobe
  | timedSnap
  | peerSnap
  | peerSnapLatch
  -- Faults
  | recordCreate
  | persistentLogWrite
  | faultReset
  | ffclr
  | logclr
  | pendclr
  -- Vestibule, background work, telemetry, Chest
  | evaluation
  | bgCancel
  | scrubPass
  | telemetrySample
  | lifetimeCommit
  -- Power, reset and boot
  | pfailN
  | lgs
  | lgsDone
  | doze
  | dozeEntry
  | run
  | dozeExit
  | dormant
  | powerOnReset
  | resetN
  | hostReset
  | supReset
  | peerReset
  | galReset
  | timingReset
  | xinRunning
  | bootPatchLoad
  | configImageApply
  | imageWaitExpiry
  | autogoStart
  | linkTrainingStart
  -- Ports
  | flr
  | l1Entry
  | readStatus
  | readId
  | heartbeatExpiry
  | hbLock
  | peerEnable
  | timeFrameSend
  | peerLinkDown
  -- JTAG and debug
  | extest
  | samplePreload
  | idcode
  | highz
  | clamp
  | bypass
  | debug
  -- Further events of the links, the supplies, the trips and the lanes
  | commaLock
  | perstNRelease
  | pfailNRelease
  | scrubPassEnd
  | peerFrameDiscard
  -- Accesses to a register that has a row of its own (their tags lie above those the compiler builds values for)
  -- Clocks and the timebase
  | tbSlewWrite (a : Agent) (v : Word)
  | tbLoRead (a : Agent)
  | syncinTsLoRead (a : Agent)
  -- Channels
  | capaRead (a : Agent) (n : Fin 96)
  | fifoTRead (a : Agent) (n : Fin 96)
  | cntRead (a : Agent) (n : Fin 96)
  | aqTWrite (a : Agent) (n : Fin 96) (v : Word)
  | chLoad (a : Agent) (n : Fin 96)
  | fifoclr (a : Agent) (n : Fin 96)
  | cntWrite (a : Agent) (n : Fin 96) (v : Word)
  -- PWM groups
  | pgLoad (a : Agent) (m : Fin 16)
  | stagger (a : Agent) (m : Fin 16)
  | pgCntWrite (a : Agent) (m : Fin 16) (v : Word)
  -- Angle tracking
  | errclr (a : Agent) (n : Fin 4)
  | toothtRead (a : Agent) (n : Fin 4)
  -- Angle events
  | evlastTRead (a : Agent) (n : Fin 4)
  -- Engines
  | threadConfigWrite (a : Agent) (e : Fin 8) (t : Fin 32) (v : Word)
  | feReset (a : Agent) (e : Fin 8)
  | barMaskWrite (a : Agent) (b : Fin 8) (v : Word)
  | mbxdb (a : Agent) (e : Fin 8) (v : Word)
  | mbxack (a : Agent) (e : Fin 8) (v : Word)
  -- Runner lanes
  | rxbufRead (a : Agent) (k : Fin 16)
  | laneReset (a : Agent) (k : Fin 16)
  | cont (a : Agent) (k : Fin 16)
  | divrst (a : Agent) (k : Fin 16)
  -- Rings and descriptors
  | rearm (a : Agent) (r : Fin 64)
  -- Transactions and SNAP
  | sofsWrite (a : Agent) (t : Fin 8) (v : Word)
  -- Faults
  | pendClear (a : Agent) (i : Fin 8) (v : Word)
  | inject (a : Agent) (v : Word)
  | safeclr (a : Agent) (v : Word)
  -- Vestibule, background work, telemetry, Chest
  | chestRead (a : Agent) (cnt : BitVec 7)
  | chestWrite (a : Agent) (cnt : BitVec 7)
  -- JTAG and debug
  | dbgHalt (a : Agent) (v : Word)
  | dbgResume (a : Agent) (v : Word)
  | dbgStep (a : Agent) (v : Word)
  | dbgDataWrite (a : Agent) (v : Word)
deriving DecidableEq, Repr

end Sys2Proof
end

