-- ==== Sys2Proof/Decode.lean ====
section
/-! DEFINITION. The words of the opcode table: the table gives bits to none of its rows, since the commands of a block come from
outside as register accesses, events and frames, so that no word spells a command. (The engines decode their own instructions from code
RAM in Machine/Fetch.lean.) -/

namespace Sys2Proof

/-- The command that a word spells by the bits of the opcode table: none, for the table gives bits to no row. -/
def decodeTableWord (_nbits _w : Nat) : Option Instr := none

end Sys2Proof
end

