-- ==== Sys2Proof/Config.lean ====
section
/-! DEFINITION. What an individual device fixes and what the spec leaves open: constants without a body, so that no proof can
see a value of them. Each has a row of the assumption log. -/

namespace Sys2Proof

/-- The fused LCLK_TRIM.TRIM of the device (R56): any of the 512 encodings. Free value (assumption 3). -/
opaque Config.lclkTrim : BitVec 9

/-- The fused MC_KEYS.REVOKED of the device (R259). Free value (assumption 3). -/
opaque Config.mcKeys : BitVec 4

/-- The fuse count as the device was made (R259). Free value (assumption 3). -/
opaque Config.fuseCount : Fin 65

/-- The coordinates of the public key whose hash is fused in a key slot (R253, R254). Free value (assumption 5). -/
opaque Config.slotKey (slot : Nat) : Nat × Nat

/-- The device's fused AES-256 key, its first byte the most significant (R253). Free value (assumption 5). -/
opaque Config.gcmKey : BitVec 256

/-- The flight delay in ps from the primary to a device of the peer ring, the receiving device's own PEER_RXDLY apart, as the link
hardware knows it (R417): the spec carries it in no frame. Free value (assumption 6). -/
opaque Config.peerFlight (dev rxdly : Nat) : Int

/-- The filter of the alignment difference, in ps: the filtered value from the one before and the new difference (R417). Free value
(assumption 6). -/
opaque Config.peerFilter (old new : Int) : Int

/-- The INTERVAL of the slew that the link hardware sets for a difference and its filtered value, in ps (R42, R417). Free value
(assumption 6). -/
opaque Config.peerInterval (new filtered : Int) : Nat

/-- The JEP106 manufacturer code of IDCODE (R420). Free value (assumption 3). -/
opaque Config.jep106 : BitVec 11

/-- The ROM entry address of a legal engine instruction (R241). Free value (assumption 7). -/
opaque Config.romEntry (i : Instr) : Fin 16384

/-- The microword at a ROM address (R240). Free value (assumption 7). -/
opaque Config.romWord (a : Nat) : BitVec 24

/-- The sum of the delays of a pin's output and input pads at 10 pF, in fine units above 32 and modulo 33 (R69, R434): 2.5 ns to 5.0 ns.
Free value (assumption 32). -/
opaque Config.padDelay (n : Fin 96) : BitVec 6

/-- The words, by memory and byte offset, in which a scrub pass finds a single-bit error (R360), fresh at each count of State.free. Free value
(assumption 90). -/
opaque Config.scrubErrors : Nat → List (Fin 10 × Nat)

/-- A free value, fresh at each count of State.free: what the spec leaves without a stated value (assumption 4). -/
opaque Config.freeWord : Nat → Word

end Sys2Proof
end

