-- ==== Sys2Proof/Machine/Crypto.lean ====
section
/-! DEFINITION. The checks that R253 names for a Brotis container: SHA-256, ECDSA over P-256 and AES-256-GCM, as their standards define
them. The keys are the device's own (Config). -/

namespace Sys2Proof.Machine

/-! ## SHA-256 -/

/-- The round constants. -/
def shaK : List Word :=
  [0x428a2f98, 0x71374491, 0xb5c0fbcf, 0xe9b5dba5, 0x3956c25b, 0x59f111f1, 0x923f82a4, 0xab1c5ed5]
    ++ [0xd807aa98, 0x12835b01, 0x243185be, 0x550c7dc3, 0x72be5d74, 0x80deb1fe, 0x9bdc06a7, 0xc19bf174]
    ++ [0xe49b69c1, 0xefbe4786, 0x0fc19dc6, 0x240ca1cc, 0x2de92c6f, 0x4a7484aa, 0x5cb0a9dc, 0x76f988da]
    ++ [0x983e5152, 0xa831c66d, 0xb00327c8, 0xbf597fc7, 0xc6e00bf3, 0xd5a79147, 0x06ca6351, 0x14292967]
    ++ [0x27b70a85, 0x2e1b2138, 0x4d2c6dfc, 0x53380d13, 0x650a7354, 0x766a0abb, 0x81c2c92e, 0x92722c85]
    ++ [0xa2bfe8a1, 0xa81a664b, 0xc24b8b70, 0xc76c51a3, 0xd192e819, 0xd6990624, 0xf40e3585, 0x106aa070]
    ++ [0x19a4c116, 0x1e376c08, 0x2748774c, 0x34b0bcb5, 0x391c0cb3, 0x4ed8aa4a, 0x5b9cca4f, 0x682e6ff3]
    ++ [0x748f82ee, 0x78a5636f, 0x84c87814, 0x8cc70208, 0x90befffa, 0xa4506ceb, 0xbef9a3f7, 0xc67178f2]

/-- The initial hash value. -/
def shaInit : List Word := [0x6a09e667, 0xbb67ae85, 0x3c6ef372, 0xa54ff53a, 0x510e527f, 0x9b05688c, 0x1f83d9ab, 0x5be0cd19]

/-- The number of a list of bytes, the first the most significant. -/
def beNat (bs : List Byte) : Nat := bs.foldl (fun n b => n * 256 + b.toNat) 0

/-- A number as `n` bytes, the most significant first. -/
def beBytes (n x : Nat) : List Byte := (List.range n).map (fun i => BitVec.ofNat 8 (x / 256 ^ (n - 1 - i)))

/-- A list cut into `n` pieces of `k` elements. -/
def pieces {α : Type} (k n : Nat) (l : List α) : List (List α) := (List.range n).map (fun i => (l.drop (k * i)).take k)

/-- The 64 words of the message schedule of a block: the word after the first sixteen, in turn. -/
def shaNext (w : List Word) : Word :=
  let s0 (x : Word) := x.rotateRight 7 ^^^ x.rotateRight 18 ^^^ (x >>> 3)
  let s1 (x : Word) := x.rotateRight 17 ^^^ x.rotateRight 19 ^^^ (x >>> 10)
  let g (k : Nat) := w.getD (w.length - k) 0
  s1 (g 2) + g 7 + s0 (g 15) + g 16

def shaSchedule (block : List Byte) : List Word :=
  (List.range 48).foldl (fun w _ => w ++ [shaNext w]) ((pieces 4 16 block).map (fun b => w32 (beNat b)))

/-- One round over the working variables a to h. -/
def shaRound (v : List Word) (kw : Word × Word) : List Word :=
  match v with
  | [a, b, c, d, e, f, g, h] =>
    let t1 := h + (e.rotateRight 6 ^^^ e.rotateRight 11 ^^^ e.rotateRight 25) + ((e &&& f) ^^^ (~~~e &&& g)) + kw.1 + kw.2
    let t2 := (a.rotateRight 2 ^^^ a.rotateRight 13 ^^^ a.rotateRight 22) + ((a &&& b) ^^^ (a &&& c) ^^^ (b &&& c))
    [t1 + t2, a, b, c, d + t1, e, f, g]
  | _ => v

/-- The hash value after a block. -/
def shaBlock (h : List Word) (block : List Byte) : List Word :=
  List.zipWith (· + ·) h ((shaK.zip (shaSchedule block)).foldl shaRound h)

/-- A message padded to whole blocks of 64 bytes. -/
def shaPad (m : List Byte) : List Byte := m ++ 0x80 :: List.replicate ((119 - m.length % 64) % 64) 0 ++ beBytes 8 (8 * m.length)

/-- SHA-256. -/
def sha256 (m : List Byte) : List Byte :=
  let p := shaPad m
  ((pieces 64 (p.length / 64) p).foldl shaBlock shaInit).flatMap (fun w => beBytes 4 w.toNat)

/-! ## ECDSA over P-256 -/

/-- The field prime, the coefficients of the curve, the base point and its order. -/
def p256P : Nat := 0xffffffff00000001000000000000000000000000ffffffffffffffffffffffff
def p256B : Nat := 0x5ac635d8aa3a93e7b3ebbd55769886bc651d06b0cc53b0f63bce3c3e27d2604b
def p256N : Nat := 0xffffffff00000000ffffffffffffffffbce6faada7179e84f3b9cac2fc632551
def p256G : Nat × Nat :=
  (0x6b17d1f2e12c4247f8bce6e563a440f277037d812deb33a0f4a13945d898c296,
   0x4fe342e2fe1a7f9b8ee7eb4a7c0f9e162bce33576b315ececbb6406837bf51f5)

/-- `b` to the power `e` modulo `m`, for `e` below 2 ^ 256. -/
def powMod (m b e : Nat) : Nat := (List.range 256).foldl (fun r i => r * r % m * (if e.testBit (255 - i) then b else 1) % m) 1

/-- The inverse modulo a prime. -/
def invMod (m a : Nat) : Nat := powMod m (a % m) (m - 2)

/-- The sum of two points of the curve; none is the point at infinity. -/
def p256Add (a b : Option (Nat × Nat)) : Option (Nat × Nat) :=
  match a, b with
  | none, q | q, none => q
  | some (x1, y1), some (x2, y2) =>
    let p := p256P
    if x1 = x2 && (y1 + y2) % p = 0 then none
    else
      let l := if x1 = x2 then (3 * x1 * x1 + (p - 3)) * invMod p (2 * y1) % p else (y2 + p - y1) * invMod p (x2 + p - x1) % p
      let x3 := (l * l + 2 * p - x1 - x2) % p
      some (x3, (l * (x1 + p - x3) + p - y1) % p)

/-- `k` times a point, for `k` below 2 ^ 256. -/
def p256Mul (k : Nat) (q : Nat × Nat) : Option (Nat × Nat) :=
  (List.range 256).foldl (fun r i =>
    let d := p256Add r r
    if k.testBit (255 - i) then p256Add d (some q) else d) none

/-- A point of the curve, infinity apart. -/
def p256On (q : Nat × Nat) : Bool :=
  decide (q.1 < p256P) && decide (q.2 < p256P) && q.2 * q.2 % p256P == (q.1 * q.1 * q.1 + (p256P - 3) * q.1 + p256B) % p256P

/-- The signature `r`, `s` over a message fits the public key `q`. -/
def ecdsaOk (q : Nat × Nat) (msg : List Byte) (r s : Nat) : Bool :=
  let n := p256N
  let w := invMod n s
  p256On q && decide (0 < r) && decide (r < n) && decide (0 < s) && decide (s < n)
    && match p256Add (p256Mul (beNat (sha256 msg) * w % n) p256G) (p256Mul (r * w % n) q) with
      | none => false
      | some (x, _) => x % n == r

/-! ## AES-256-GCM -/

/-- Multiplication by x, and the product, in the field of 256 elements of AES. -/
def aesX (b : Byte) : Byte := if b.msb then b <<< 1 ^^^ 0x1B else b <<< 1
def aesMul (a b : Byte) : Byte := (List.range 8).foldl (fun r i => aesX r ^^^ if a.getLsbD (7 - i) then b else 0) 0

/-- SubBytes of one byte: the inverse, which is the power 254, and the affine map. -/
def aesSub (b : Byte) : Byte :=
  let i := (List.range 6).foldl (fun r _ => aesMul (aesMul r r) b) b
  let i := aesMul i i
  i ^^^ i.rotateLeft 1 ^^^ i.rotateLeft 2 ^^^ i.rotateLeft 3 ^^^ i.rotateLeft 4 ^^^ 0x63

/-- The next word of the expanded key. -/
def aesNext (ws : List (List Byte)) : List Byte :=
  let i := ws.length
  let t := ws.getD (i - 1) []
  let t := if i % 8 = 0 then List.zipWith (· ^^^ ·) ((t.drop 1 ++ t.take 1).map aesSub) [(1 : Byte) <<< (i / 8 - 1), 0, 0, 0]
    else if i % 8 = 4 then t.map aesSub else t
  List.zipWith (· ^^^ ·) (ws.getD (i - 8) []) t

/-- The 15 round keys of a key of 32 bytes. -/
def aesKeys (key : List Byte) : List (List Byte) :=
  pieces 16 15 ((List.range 52).foldl (fun ws _ => ws ++ [aesNext ws]) (pieces 4 8 key)).flatten

/-- ShiftRows, on a state kept column by column. -/
def aesShift (st : List Byte) : List Byte := (List.range 16).map (fun i => st.getD ((i + 4 * (i % 4)) % 16) 0)

/-- MixColumns. -/
def aesMix (st : List Byte) : List Byte :=
  (List.range 16).map (fun i =>
    let g (k : Nat) := st.getD (i / 4 * 4 + (i + k) % 4) 0
    aesX (g 0) ^^^ (aesX (g 1) ^^^ g 1) ^^^ g 2 ^^^ g 3)

/-- One block under AES-256. -/
def aesBlock (key blk : List Byte) : List Byte :=
  let ks := aesKeys key
  let add (st : List Byte) (i : Nat) := List.zipWith (· ^^^ ·) st (ks.getD i [])
  let st := (List.range 13).foldl (fun st i => add (aesMix (aesShift (st.map aesSub))) (i + 1)) (add blk 0)
  add (aesShift (st.map aesSub)) 14

/-- The product in the field of GHASH, the first bit the most significant. -/
def ghashMul (x y : BitVec 128) : BitVec 128 :=
  ((List.range 128).foldl (fun (zv : BitVec 128 × BitVec 128) i =>
    (if x.getLsbD (127 - i) then zv.1 ^^^ zv.2 else zv.1,
     if zv.2.getLsbD 0 then zv.2 >>> 1 ^^^ 0xE1000000000000000000000000000000 else zv.2 >>> 1)) (0, y)).1

/-- The bytes filled with zeros to whole blocks, as blocks. -/
def ghashBlocks (bs : List Byte) : List (BitVec 128) :=
  (pieces 16 ((bs.length + 15) / 16) (bs ++ List.replicate 15 0)).map (fun b => BitVec.ofNat 128 (beNat b))

/-- GHASH of the additional data and the ciphertext under the hash key `h`. -/
def ghash (h : BitVec 128) (aad c : List Byte) : BitVec 128 :=
  (ghashBlocks aad ++ ghashBlocks c ++ [BitVec.ofNat 128 (8 * aad.length * 2 ^ 64 + 8 * c.length)]).foldl (fun y b => ghashMul (y ^^^ b) h) 0

/-- The key stream block `i` for a nonce of 12 bytes. -/
def gcmBlock (key iv : List Byte) (i : Nat) : List Byte := aesBlock key (iv ++ beBytes 4 i)

/-- The plaintext under AES-256-GCM; none where the tag does not fit. -/
def gcmOpen (key iv aad c tag : List Byte) : Option (List Byte) :=
  let h := BitVec.ofNat 128 (beNat (aesBlock key (List.replicate 16 0)))
  let t := List.zipWith (· ^^^ ·) (beBytes 16 (ghash h aad c).toNat) (gcmBlock key iv 1)
  if t == tag then
    some (List.zipWith (· ^^^ ·) c ((List.range ((c.length + 15) / 16)).flatMap (fun i => gcmBlock key iv (i + 2))))
  else none

end Sys2Proof.Machine
end

