-- ==== Sys2Proof/Machine/Bits.lean ====
section
/-! DEFINITION. Bit fields of words, modular time (R6), saturating counts and sign extension: the helpers every meaning uses. -/

namespace Sys2Proof

/-- The mask of `len` bits from bit `lo` on. -/
def fieldMask (lo len : Nat) : Word := BitVec.ofNat 32 ((2 ^ len - 1) * 2 ^ lo)

/-- A word with the field of `len` bits from bit `lo` on set to `v` modulo 2^len. -/
def setFld (w : Word) (lo len v : Nat) : Word :=
  (w &&& ~~~ fieldMask lo len) ||| BitVec.ofNat 32 (v % 2 ^ len * 2 ^ lo)

/-- A word with bit `i` set to `b`. -/
def setBit (w : Word) (i : Nat) (b : Bool) : Word := setFld w i 1 b.toNat

/-- The word whose only 1 is bit `i`. -/
def bitMask (i : Nat) : Word := BitVec.ofNat 32 (2 ^ i)

/-- The field of `len` bits from bit `lo` on, as a number. -/
def fld (w : Word) (lo len : Nat) : Nat := (w.toNat >>> lo) % 2 ^ len

/-- Bit `i` of a word. -/
def bit (w : Word) (i : Nat) : Bool := w.getLsbD i

/-- Near time `a` is before near time `b` (R6): the signed 32-bit difference is negative. -/
def before (a b : Word) : Bool := (a - b).msb

/-- A near-time target is satisfied at near time `now` (R37): it is before `now` or equal to it. -/
def reached (target now : Word) : Bool := target == now || before target now

/-- The number of a 32-bit word read as two's complement. -/
def sint (w : Word) : Int := w.toInt

/-- A number of `len` bits read as two's complement. -/
def sext (len v : Nat) : Int := if v % 2 ^ len < 2 ^ (len - 1) then (v % 2 ^ len : Nat) else (v % 2 ^ len : Nat) - (2 ^ len : Nat)

/-- The word of an integer modulo 2^32. -/
def wOfInt (i : Int) : Word := BitVec.ofInt 32 i

/-- `n` plus 1, saturating at `top`. -/
def satInc (top n : Nat) : Nat := min top (n + 1)

/-- The byte `i` (0 the least) of a word. -/
def byteOf (w : Word) (i : Nat) : Byte := BitVec.ofNat 8 (w.toNat >>> (8 * i))

/-- A word of four bytes, the first the least (the RAM windows are little-endian, R8). -/
def wordOfBytes (b0 b1 b2 b3 : Byte) : Word :=
  BitVec.ofNat 32 (b0.toNat + b1.toNat * 2 ^ 8 + b2.toNat * 2 ^ 16 + b3.toNat * 2 ^ 24)

end Sys2Proof
end

