-- ==== Sys2Proof/Machine/RegTable.lean ====
section
/-! DEFINITION. The register tables of the spec (R55, R56, R86, R87, R110, R111, R141 to R143, R163, R164, R197, R198, R200,
R201, R258, R259, R288, R311 to R313, R327, R328, R348 to R350, R371 to R373, R398, R399, R424): for every register its
place in its block, the bits of each type (R9), its reset value (R14) and its encodings whose write raises RSVD_WRITE. -/

namespace Sys2Proof.Machine

/-- One row of a register table: `cnt` registers from `off` on, `stride` bytes apart. A bit in none of the five masks is RO
or reserved (R9, R11). `rsvd` lists the fields (lowest bit, width) whose values from the third number on raise RSVD_WRITE. -/
structure RegRow where
  off : Nat
  cnt : Nat
  stride : Nat
  name : String
  rw : Nat
  wo : Nat
  w1c : Nat
  w1s : Nat
  rc : Nat
  reset : Nat
  rsvd : List (Nat × Nat × Nat)
deriving DecidableEq, Repr

/-- Identity, clocks, timebase (R55, R56) and power, reset, Lobby (R398, R399). Part 1. -/
def sysRows0 : List RegRow := [
  ⟨0, 1, 0x4, "SYS_ID", 0, 0, 0, 0, 0, 0x809600A1, []⟩,
  ⟨0x4, 1, 0x4, "CLK_STAT", 0, 0, 0, 0, 0, 0x10, []⟩,
  ⟨0x8, 1, 0x4, "CLK_CTRL", 0x3, 0, 0, 0, 0, 0x2, []⟩,
  ⟨0xC, 1, 0x4, "LCLK_TRIM", 0x1FF, 0, 0, 0, 0, 0, []⟩,
  ⟨0x10, 1, 0x4, "TB_LSTEP", 0, 0, 0, 0, 0, 0x17D7840, []⟩,
  ⟨0x20, 1, 0x4, "TB_LO", 0, 0, 0, 0, 0, 0, []⟩,
  ⟨0x24, 1, 0x4, "TB_HI", 0, 0, 0, 0, 0, 0, []⟩,
  ⟨0x28, 1, 0x4, "TB_FOFS", 0, 0, 0, 0, 0, 0, []⟩,
  ⟨0x2C, 1, 0x4, "TB_SLEW", 0xFFFFFF3, 0, 0, 0, 0, 0x100, [(0, 2, 3)]⟩,
  ⟨0x30, 1, 0x4, "TB_STEP_LO", 0xFFFFFFFF, 0, 0, 0, 0, 0, []⟩,
  ⟨0x34, 1, 0x4, "TB_STEP_HI", 0xFFFFFFFF, 0, 0, 0, 0, 0, []⟩,
  ⟨0x38, 1, 0x4, "TB_CMD", 0, 0x3, 0, 0, 0, 0, []⟩,
  ⟨0x3C, 1, 0x4, "TB_STAT", 0, 0, 0x3, 0, 0, 0, []⟩,
  ⟨0x40, 1, 0x4, "SYNCIN_CTRL", 0xFF0F, 0, 0, 0, 0, 0, []⟩,
  ⟨0x44, 1, 0x4, "SYNCIN_STAT", 0, 0, 0x200000, 0, 0, 0, []⟩,
  ⟨0x48, 1, 0x4, "SYNCIN_TS_LO", 0, 0, 0, 0, 0, 0, []⟩,
  ⟨0x4C, 1, 0x4, "SYNCIN_TS_HI", 0, 0, 0, 0, 0, 0, []⟩,
  ⟨0x50, 1, 0x4, "SYNCIN_PERIOD", 0, 0, 0, 0, 0, 0xFFFFFFFF, []⟩,
  ⟨0x60, 1, 0x4, "SYNCOUT_CTRL", 0x7, 0, 0, 0, 0, 0, []⟩,
  ⟨0x64, 1, 0x4, "SYNCOUT_START_LO", 0xFFFFFFFF, 0, 0, 0, 0, 0, []⟩]

/-- Identity, clocks, timebase (R55, R56) and power, reset, Lobby (R398, R399). Part 2. -/
def sysRows1 : List RegRow := [
  ⟨0x68, 1, 0x4, "SYNCOUT_START_HI", 0xFFFFFFFF, 0, 0, 0, 0, 0, []⟩,
  ⟨0x6C, 1, 0x4, "SYNCOUT_PERIOD", 0xFFFFFFFF, 0, 0, 0, 0, 0, []⟩,
  ⟨0x70, 1, 0x4, "SYNCOUT_WIDTH", 0xFFFFFFFF, 0, 0, 0, 0, 0, []⟩,
  ⟨0x74, 1, 0x4, "SYNCOUT_COUNT", 0xFFFF, 0, 0, 0, 0, 0, []⟩,
  ⟨0x78, 1, 0x4, "SYNCOUT_STAT", 0, 0, 0x20000, 0, 0, 0, []⟩,
  ⟨0x80, 1, 0x4, "CLK_FRZ0", 0xFFFFFFFF, 0, 0, 0, 0, 0, []⟩,
  ⟨0x84, 1, 0x4, "CLK_FRZ1", 0xFFFFFFFF, 0, 0, 0, 0, 0, []⟩,
  ⟨0x88, 1, 0x4, "CLK_FRZ2", 0xFFFFFFFF, 0, 0, 0, 0, 0, []⟩,
  ⟨0x100, 1, 0x4, "PWR_CTRL", 0x3F3F, 0, 0, 0, 0, 0x3C3F, []⟩,
  ⟨0x104, 1, 0x4, "PWR_CMD", 0, 0xF, 0, 0, 0, 0, []⟩,
  ⟨0x108, 1, 0x4, "PWR_STAT", 0, 0, 0, 0, 0, 0, []⟩,
  ⟨0x10C, 1, 0x4, "PWR_EVT", 0, 0, 0xFF, 0, 0, 0, []⟩,
  ⟨0x110, 1, 0x4, "PWR_DIP", 0, 0, 0, 0, 0, 0, []⟩,
  ⟨0x114, 1, 0x4, "PWR_DIPDUR", 0, 0, 0, 0, 0, 0, []⟩,
  ⟨0x118, 1, 0x4, "RST_CAUSE", 0, 0, 0x3F, 0, 0, 0x1, []⟩,
  ⟨0x11C, 1, 0x4, "RST_SW", 0, 0x1F, 0, 0, 0, 0, []⟩,
  ⟨0x120, 1, 0x4, "BOOT_STAT", 0, 0, 0, 0, 0, 0, []⟩,
  ⟨0x124, 1, 0x4, "BOOT_TIME", 0, 0, 0, 0, 0, 0, []⟩,
  ⟨0x128, 1, 0x4, "BOOT_IMGREL", 0, 0, 0, 0, 0, 0, []⟩,
  ⟨0x130, 1, 0x4, "LGS_STAT", 0, 0, 0, 0, 0, 0, []⟩]

/-- Identity, clocks, timebase (R55, R56) and power, reset, Lobby (R398, R399). Part 3. -/
def sysRows2 : List RegRow := [
  ⟨0x134, 1, 0x4, "LGS_TB_LO", 0, 0, 0, 0, 0, 0, []⟩,
  ⟨0x138, 1, 0x4, "LGS_TB_HI", 0, 0, 0, 0, 0, 0, []⟩,
  ⟨0x140, 1, 0x4, "LOB_WPIN", 0xFFFFFFFF, 0, 0, 0, 0, 0, []⟩,
  ⟨0x144, 1, 0x4, "LOB_WCTRL", 0x17F, 0, 0, 0, 0, 0x100, []⟩,
  ⟨0x148, 1, 0x4, "LOB_WSRC", 0, 0, 0, 0, 0, 0, []⟩,
  ⟨0x180, 8, 0x10, "LOB_WTj_T", 0xFFFFFFFF, 0, 0, 0, 0, 0, []⟩,
  ⟨0x184, 8, 0x10, "LOB_WTj_C", 0xFF01, 0, 0x10000, 0, 0, 0, []⟩]

/-- Identity, clocks, timebase (R55, R56) and power, reset, Lobby (R398, R399). -/
def sysRows : List RegRow := sysRows0 ++ sysRows1 ++ sysRows2

/-- The Banister (R348 to R350). Part 1. -/
def fltRows0 : List RegRow := [
  ⟨0x1000, 1, 0x4, "FLT_CTRL", 0x777, 0, 0, 0, 0, 0x222, []⟩,
  ⟨0x1004, 1, 0x4, "FLT_STAT", 0, 0, 0x4, 0, 0, 0, []⟩,
  ⟨0x1008, 1, 0x4, "FLT_CMD", 0, 0x7, 0, 0, 0, 0, []⟩,
  ⟨0x100C, 1, 0x4, "FLT_RING", 0x7F7F7F, 0, 0, 0, 0, 0x203F3D, []⟩,
  ⟨0x1010, 1, 0x4, "FLT_IRQ", 0xFF, 0, 0, 0, 0, 0x3E, []⟩,
  ⟨0x1014, 1, 0x4, "FLT_ISR", 0, 0, 0x3, 0, 0, 0, []⟩,
  ⟨0x1018, 1, 0x4, "FLT_INJ", 0, 0x80003FFF, 0, 0, 0, 0, []⟩,
  ⟨0x101C, 1, 0x4, "FLT_LOGSTAT", 0, 0, 0, 0, 0xFF0000, 0, []⟩,
  ⟨0x1020, 4, 0x4, "FLT_FIRST_Ww", 0, 0, 0, 0, 0, 0, []⟩,
  ⟨0x1040, 8, 0x4, "FLT_SAMEi", 0, 0, 0, 0, 0, 0, []⟩,
  ⟨0x1060, 8, 0x4, "FLT_PENDi", 0, 0, 0xFFFFFFFF, 0, 0, 0, []⟩,
  ⟨0x1080, 1, 0x4, "FLT_PLOGSEL", 0x3FF, 0, 0, 0, 0, 0, []⟩,
  ⟨0x1084, 6, 0x4, "FLT_PLOG_Ww", 0, 0, 0, 0, 0, 0, []⟩,
  ⟨0x109C, 1, 0x4, "FLT_PLOGSTAT", 0, 0, 0, 0, 0xFF000000, 0, []⟩,
  ⟨0x1100, 7, 0x10, "FLT_SAFEj_Mw", 0xFFFFFFFF, 0, 0, 0, 0, 0, []⟩,
  ⟨0x1104, 7, 0x10, "FLT_SAFEj_Mw", 0xFFFFFFFF, 0, 0, 0, 0, 0, []⟩,
  ⟨0x1108, 7, 0x10, "FLT_SAFEj_Mw", 0xFFFFFFFF, 0, 0, 0, 0, 0, []⟩,
  ⟨0x1170, 1, 0x4, "FLT_SAFEj_Mw", 0xFFFFFFFF, 0, 0, 0, 0, 0xFFFFFFFF, []⟩,
  ⟨0x1174, 1, 0x4, "FLT_SAFEj_Mw", 0xFFFFFFFF, 0, 0, 0, 0, 0xFFFFFFFF, []⟩,
  ⟨0x1178, 1, 0x4, "FLT_SAFEj_Mw", 0xFFFFFFFF, 0, 0, 0, 0, 0xFFFFFFFF, []⟩]

/-- The Banister (R348 to R350). Part 2. -/
def fltRows1 : List RegRow := [
  ⟨0x1180, 1, 0x4, "FLT_SAFEACT", 0, 0, 0, 0, 0, 0, []⟩,
  ⟨0x1184, 1, 0x4, "FLT_SAFECLR", 0, 0xFF, 0, 0, 0, 0, []⟩,
  ⟨0x1400, 256, 0x4, "FSRCk_CFG", 0x1FFF, 0, 0, 0, 0, 0, []⟩,
  ⟨0x1800, 256, 0x4, "FSRCk_STAT", 0, 0, 0, 0, 0, 0, []⟩,
  ⟨0x1C00, 256, 0x4, "FLT_LOGi_Ww", 0, 0, 0, 0, 0, 0, []⟩]

/-- The Banister (R348 to R350). -/
def fltRows : List RegRow := fltRows0 ++ fltRows1

/-- Vestibule, background work, telemetry (R371, R372). Part 1. -/
def vestRows0 : List RegRow := [
  ⟨0x2000, 1, 0x4, "VEST_CTRL", 0xFF1FFF, 0, 0, 0, 0, 0x101280, []⟩,
  ⟨0x2004, 1, 0x4, "VEST_STAT", 0, 0, 0, 0, 0, 0, []⟩,
  ⟨0x2008, 1, 0x4, "VEST_EVT", 0, 0, 0xF, 0, 0, 0, []⟩,
  ⟨0x200C, 1, 0x4, "VEST_CNT", 0, 0, 0, 0, 0xFFFFFFFF, 0, []⟩,
  ⟨0x2010, 1, 0x4, "VEST_PEAK", 0, 0, 0, 0, 0xFFF, 0, []⟩,
  ⟨0x2040, 1, 0x4, "BG_REQ", 0, 0x7F07, 0, 0, 0, 0, [(0, 2, 3)]⟩,
  ⟨0x2044, 1, 0x4, "BG_STAT", 0, 0, 0, 0, 0, 0, []⟩,
  ⟨0x2048, 1, 0x4, "BG_FAIL", 0, 0, 0, 0, 0, 0, []⟩,
  ⟨0x2080, 1, 0x4, "SCRUB_STAT", 0, 0, 0, 0, 0, 0, []⟩,
  ⟨0x2084, 1, 0x4, "CAL_STAT", 0, 0, 0, 0, 0, 0, []⟩,
  ⟨0x2088, 1, 0x4, "CAL_CNT", 0, 0, 0, 0, 0xFFFFFFFF, 0, []⟩,
  ⟨0x20C0, 1, 0x4, "TEL_CTRL", 0xFF3F01, 0, 0, 0, 0, 0x13E00, []⟩,
  ⟨0x20C4, 1, 0x4, "TEL_RMASK0", 0xFFFFFFFF, 0, 0, 0, 0, 0, []⟩,
  ⟨0x20C8, 1, 0x4, "TEL_RMASK1", 0xFFFFFFFF, 0, 0, 0, 0, 0, []⟩,
  ⟨0x20CC, 1, 0x4, "TEL_THR", 0xFFFFFFFF, 0, 0, 0, 0, 0x20801E0, []⟩,
  ⟨0x20D0, 1, 0x4, "TEL_TEMP01", 0, 0, 0, 0, 0, 0, []⟩,
  ⟨0x20D4, 1, 0x4, "TEL_TEMP23", 0, 0, 0, 0, 0, 0, []⟩,
  ⟨0x20D8, 1, 0x4, "TEL_SUP0", 0, 0, 0, 0, 0, 0, []⟩,
  ⟨0x20DC, 1, 0x4, "TEL_SUP1", 0, 0, 0, 0, 0, 0, []⟩,
  ⟨0x20E0, 1, 0x4, "TEL_SUP2", 0, 0, 0, 0, 0, 0, []⟩]

/-- Vestibule, background work, telemetry (R371, R372). Part 2. -/
def vestRows1 : List RegRow := [
  ⟨0x20E4, 1, 0x4, "TEL_STAT", 0, 0, 0, 0, 0, 0, []⟩,
  ⟨0x20E8, 1, 0x4, "TEL_LOST", 0, 0, 0, 0, 0xFFFF, 0, []⟩]

/-- Vestibule, background work, telemetry (R371, R372). -/
def vestRows : List RegRow := vestRows0 ++ vestRows1

/-- Chest control (R373). -/
def chestRows : List RegRow := [
  ⟨0x3000, 1, 0x4, "CHEST_ADDR", 0x3FFF8, 0, 0, 0, 0, 0, []⟩,
  ⟨0x3004, 1, 0x4, "CHEST_CMD", 0, 0x7F03, 0, 0, 0, 0, []⟩,
  ⟨0x3008, 1, 0x4, "CHEST_STAT", 0, 0, 0, 0, 0, 0, []⟩,
  ⟨0x300C, 1, 0x4, "CHEST_WEAR", 0, 0, 0, 0, 0, 0, []⟩,
  ⟨0x3010, 1, 0x4, "CHEST_MOVES", 0, 0, 0, 0, 0, 0, []⟩,
  ⟨0x3400, 1, 0x4, "LIFE_SECS", 0, 0, 0, 0, 0, 0, []⟩,
  ⟨0x3404, 1, 0x4, "LIFE_BOOTS", 0, 0, 0, 0, 0, 0, []⟩,
  ⟨0x3410, 4, 0x4, "LIFE_RPMn", 0, 0, 0, 0, 0, 0, []⟩,
  ⟨0x3420, 4, 0x4, "LIFE_OVSPDn", 0, 0, 0, 0, 0, 0, []⟩,
  ⟨0x3430, 4, 0x4, "LIFE_OVTHRn", 0xFFFF, 0, 0, 0, 0, 0, []⟩,
  ⟨0x3440, 16, 0x4, "LIFE_TRIPm", 0, 0, 0, 0, 0, 0, []⟩]

/-- Ring and Gallery globals (R288, R289, R311). -/
def galRows : List RegRow := [
  ⟨0x5000, 1, 0x4, "RING_ISR0", 0, 0, 0xFFFFFFFF, 0, 0, 0, []⟩,
  ⟨0x5004, 1, 0x4, "RING_ISR1", 0, 0, 0xFFFFFFFF, 0, 0, 0, []⟩,
  ⟨0x5008, 1, 0x4, "RING_SUPLOCK0", 0xFFFFFFFF, 0, 0, 0, 0, 0, []⟩,
  ⟨0x500C, 1, 0x4, "RING_SUPLOCK1", 0xFFFFFFFF, 0, 0, 0, 0, 0, []⟩,
  ⟨0x5010, 1, 0x4, "RING_EVTCFG", 0x7F, 0, 0, 0, 0, 0x3C, []⟩,
  ⟨0x5014, 1, 0x4, "RING_HOSTSTAT", 0, 0, 0x4, 0, 0, 0, []⟩,
  ⟨0x5100, 1, 0x4, "GAL_CTRL", 0x1, 0, 0, 0, 0, 0, []⟩,
  ⟨0x5104, 1, 0x4, "GAL_STAGE", 0, 0, 0, 0, 0, 0x40, []⟩,
  ⟨0x5108, 1, 0x4, "LAND_OCC", 0, 0, 0, 0, 0, 0, []⟩,
  ⟨0x510C, 1, 0x4, "LAND_PEAK", 0, 0, 0, 0, 0x1FFFF, 0, []⟩,
  ⟨0x5110, 1, 0x4, "LAND_ENTQ", 0, 0, 0, 0, 0, 0, []⟩,
  ⟨0x5114, 1, 0x4, "CAP_NORING", 0, 0, 0, 0, 0xFFFFFFFF, 0, []⟩,
  ⟨0x5118, 1, 0x4, "CAP_NORINGSRC", 0, 0, 0, 0, 0, 0, []⟩,
  ⟨0x511C, 1, 0x4, "GAL_MARK", 0, 0xFFFFFFFF, 0, 0, 0, 0, []⟩,
  ⟨0x5120, 1, 0x4, "GAL_RECCFG", 0x3F3F3F, 0, 0, 0, 0, 0x202020, []⟩]

/-- Transaction and SNAP globals (R327, R328). -/
def txnGlobRows : List RegRow := [
  ⟨0x9100, 1, 0x4, "TXN_FREE", 0, 0, 0, 0, 0, 0x1000, []⟩,
  ⟨0x9104, 1, 0x4, "TXN_EVT", 0, 0, 0xFFFFF, 0, 0, 0, []⟩,
  ⟨0x9200, 1, 0x4, "SNAP_CMD", 0, 0x7, 0, 0, 0, 0, []⟩,
  ⟨0x9204, 1, 0x4, "SNAP_STAT", 0, 0, 0xF20000, 0, 0xFF000000, 0, []⟩,
  ⟨0x9208, 1, 0x4, "SNAP_AT_LO", 0xFFFFFFFF, 0, 0, 0, 0, 0, []⟩,
  ⟨0x920C, 1, 0x4, "SNAP_AT_HI", 0xFFFFFFFF, 0, 0, 0, 0, 0, []⟩,
  ⟨0x9400, 138, 0x4, "Snapshot area", 0, 0, 0, 0, 0, 0, []⟩]

/-- Ports (R424). -/
def portRows : List RegRow := [
  ⟨0xD000, 1, 0x4, "PCIE_STAT", 0, 0, 0, 0, 0, 0, []⟩,
  ⟨0xD004, 1, 0x4, "PCIE_ERRCNT", 0, 0, 0, 0, 0xFFFFFFFF, 0, []⟩,
  ⟨0xD100, 1, 0x4, "SUP_CFG", 0x1F, 0, 0, 0, 0, 0x10, []⟩,
  ⟨0xD104, 1, 0x4, "SUP_STAT", 0, 0, 0x3, 0, 0, 0, []⟩,
  ⟨0xD108, 1, 0x4, "SUP_ISR", 0, 0, 0xD, 0, 0, 0, []⟩,
  ⟨0xD10C, 1, 0x4, "SUP_IEN", 0xF, 0, 0, 0, 0, 0x3, []⟩,
  ⟨0xD110, 1, 0x4, "SUP_HB_CTRL", 0xFFFF0003, 0, 0, 0x4, 0, 0x3E80002, []⟩,
  ⟨0xD114, 1, 0x4, "SUP_HB_KICK", 0, 0xFFFF, 0, 0, 0, 0, []⟩,
  ⟨0xD118, 1, 0x4, "SUP_HB_STAT", 0, 0, 0x1000000, 0, 0xFF0000, 0, []⟩,
  ⟨0xD200, 1, 0x4, "PEER_CFG", 0xF7, 0, 0, 0, 0, 0x4, []⟩,
  ⟨0xD204, 1, 0x4, "PEER_STAT", 0, 0, 0, 0, 0, 0, []⟩,
  ⟨0xD208, 1, 0x4, "PEER_RXDLY", 0xFFFF, 0, 0, 0, 0, 0, []⟩,
  ⟨0xD20C, 1, 0x4, "PEER_ERR", 0, 0, 0, 0, 0, 0, []⟩,
  ⟨0xD210, 1, 0x4, "PEER_CNT", 0, 0, 0, 0, 0xFFFFFFFF, 0, []⟩]

/-- Microcode control (R258, R259). -/
def mcRows : List RegRow := [
  ⟨0xE1000, 1, 0x4, "MC_VER", 0, 0, 0, 0, 0, 0x1000000, []⟩,
  ⟨0xE1004, 1, 0x4, "MC_STAT", 0, 0, 0, 0, 0, 0, []⟩,
  ⟨0xE1008, 1, 0x4, "MC_CMD", 0, 0xF, 0, 0, 0, 0, []⟩,
  ⟨0xE100C, 1, 0x4, "MC_KEYS", 0, 0, 0, 0, 0, 0, []⟩,
  ⟨0xE1010, 1, 0x4, "MC_UFAULT", 0, 0, 0, 0, 0x8003FFFF, 0, []⟩]

/-- Debug (R423, R424). -/
def dbgRows : List RegRow := [
  ⟨0xF0000, 1, 0x4, "DBG_CTRL", 0x1, 0, 0, 0, 0, 0x1, []⟩,
  ⟨0xF0004, 1, 0x4, "DBG_HALT", 0, 0xFF, 0, 0, 0, 0, []⟩,
  ⟨0xF0008, 1, 0x4, "DBG_RESUME", 0, 0xFF, 0, 0, 0, 0, []⟩,
  ⟨0xF000C, 1, 0x4, "DBG_STEP", 0, 0xFF, 0, 0, 0, 0, []⟩,
  ⟨0xF0010, 1, 0x4, "DBG_STAT", 0, 0, 0x1FF, 0, 0, 0, []⟩,
  ⟨0xF0020, 4, 0x4, "DBG_BPk", 0x80FFFFFF, 0, 0, 0, 0, 0, []⟩,
  ⟨0xF0030, 1, 0x4, "DBG_SEL", 0x1F1F, 0, 0, 0, 0, 0, []⟩,
  ⟨0xF0034, 1, 0x4, "DBG_DATA", 0xFFFFFFFF, 0, 0, 0, 0, 0, []⟩]

/-- One channel (R86, R87). Part 1. -/
def chRows0 : List RegRow := [
  ⟨0, 1, 0x4, "CHn_CTRL", 0xFF, 0, 0, 0, 0, 0, [(1, 3, 6), (4, 2, 3)]⟩,
  ⟨0x4, 1, 0x4, "CHn_OUTCFG", 0x3FFFF, 0, 0, 0, 0, 0, [(10, 2, 3), (12, 2, 3), (14, 2, 3), (16, 2, 3)]⟩,
  ⟨0x8, 1, 0x4, "CHn_CAPCFG", 0x1FF03, 0, 0, 0, 0, 0, []⟩,
  ⟨0xC, 1, 0x4, "CHn_REC", 0x3FFF1F, 0, 0, 0, 0, 0x20000C, [(0, 2, 3)]⟩,
  ⟨0x10, 1, 0x4, "CHn_ROUTE", 0x1F07, 0, 0, 0, 0, 0, []⟩,
  ⟨0x14, 1, 0x4, "CHn_SRQEN", 0x1FFF, 0, 0, 0, 0, 0, []⟩,
  ⟨0x18, 1, 0x4, "CHn_PWM", 0x37F, 0, 0, 0, 0, 0, [(5, 2, 3), (8, 2, 3)]⟩,
  ⟨0x1C, 1, 0x4, "CHn_CMD", 0, 0x1F, 0, 0, 0, 0, []⟩,
  ⟨0x20, 1, 0x4, "CHn_CNT", 0xFFFFFFFF, 0, 0, 0, 0, 0, []⟩,
  ⟨0x24, 1, 0x4, "CHn_CNTX", 0, 0, 0, 0, 0, 0, []⟩,
  ⟨0x28, 1, 0x4, "CHn_SNAPCNT", 0, 0, 0, 0, 0, 0, []⟩,
  ⟨0x2C, 1, 0x4, "CHn_EPOCH", 0, 0, 0, 0, 0, 0, []⟩,
  ⟨0x30, 1, 0x4, "CHn_PERIOD", 0xFFFFFFFF, 0, 0, 0, 0, 0xFFFFFFFF, []⟩,
  ⟨0x34, 1, 0x4, "CHn_CMPA", 0xFFFFFFFF, 0, 0, 0, 0, 0xFFFFFFFF, []⟩,
  ⟨0x38, 1, 0x4, "CHn_CMPB", 0xFFFFFFFF, 0, 0, 0, 0, 0xFFFFFFFF, []⟩,
  ⟨0x3C, 1, 0x4, "CHn_CMPC", 0xFFFFFFFF, 0, 0, 0, 0, 0xFFFFFFFF, []⟩,
  ⟨0x40, 1, 0x4, "CHn_CMPD", 0xFFFFFFFF, 0, 0, 0, 0, 0xFFFFFFFF, []⟩,
  ⟨0x44, 1, 0x4, "CHn_CMPFINE", 0x1F1F1F1F, 0, 0, 0, 0, 0, []⟩,
  ⟨0x50, 1, 0x4, "CHn_PERIOD_ACT", 0, 0, 0, 0, 0, 0xFFFFFFFF, []⟩,
  ⟨0x54, 1, 0x4, "CHn_CMPA_ACT", 0, 0, 0, 0, 0, 0xFFFFFFFF, []⟩]

/-- One channel (R86, R87). Part 2. -/
def chRows1 : List RegRow := [
  ⟨0x58, 1, 0x4, "CHn_CMPB_ACT", 0, 0, 0, 0, 0, 0xFFFFFFFF, []⟩,
  ⟨0x5C, 1, 0x4, "CHn_CMPC_ACT", 0, 0, 0, 0, 0, 0xFFFFFFFF, []⟩,
  ⟨0x60, 1, 0x4, "CHn_CMPD_ACT", 0, 0, 0, 0, 0, 0xFFFFFFFF, []⟩,
  ⟨0x64, 1, 0x4, "CHn_CMPFINE_ACT", 0, 0, 0, 0, 0, 0, []⟩,
  ⟨0x70, 1, 0x4, "CHn_CAPA", 0, 0, 0, 0, 0, 0, []⟩,
  ⟨0x74, 1, 0x4, "CHn_CAPB", 0, 0, 0, 0, 0, 0, []⟩,
  ⟨0x78, 1, 0x4, "CHn_CAPINFO", 0, 0, 0, 0, 0, 0, []⟩,
  ⟨0x7C, 1, 0x4, "CHn_EDGECNT", 0, 0, 0, 0, 0, 0, []⟩,
  ⟨0x80, 1, 0x4, "CHn_FIFO_T", 0, 0, 0, 0, 0, 0, []⟩,
  ⟨0x84, 1, 0x4, "CHn_FIFO_X", 0, 0, 0, 0, 0, 0, []⟩,
  ⟨0x88, 1, 0x4, "CHn_FIFOSTAT", 0, 0, 0, 0, 0xFF00, 0, []⟩,
  ⟨0x8C, 1, 0x4, "CHn_FILTCNT", 0, 0, 0, 0, 0xFFFF, 0, []⟩,
  ⟨0x90, 1, 0x4, "CHn_AQ_T", 0, 0xFFFFFFFF, 0, 0, 0, 0, []⟩,
  ⟨0x94, 1, 0x4, "CHn_AQ_A", 0, 0x1FF7F1F, 0, 0, 0, 0, []⟩,
  ⟨0x98, 1, 0x4, "CHn_AQSTAT", 0, 0, 0, 0, 0, 0, []⟩,
  ⟨0x9C, 1, 0x4, "CHn_AQHEAD", 0, 0, 0, 0, 0, 0, []⟩,
  ⟨0xA0, 1, 0x4, "CHn_EVT", 0, 0, 0x1FFF, 0, 0, 0, []⟩,
  ⟨0xA4, 1, 0x4, "CHn_STAT", 0, 0, 0, 0, 0, 0, []⟩,
  ⟨0xA8, 1, 0x4, "CHn_SHORTCNT", 0, 0, 0, 0, 0xFFFFFF, 0, []⟩]

/-- One channel (R86, R87). -/
def chRows : List RegRow := chRows0 ++ chRows1

/-- One PWM group (R110, R111). -/
def pgRows : List RegRow := [
  ⟨0, 1, 0x4, "PGm_CTRL", 0xF37F, 0, 0, 0, 0, 0x40, [(1, 2, 3), (3, 2, 3), (8, 2, 3)]⟩,
  ⟨0x4, 1, 0x4, "PGm_CMD", 0, 0x3F, 0, 0, 0, 0, []⟩,
  ⟨0x8, 1, 0x4, "PGm_STAT", 0, 0, 0, 0, 0, 0, []⟩,
  ⟨0xC, 1, 0x4, "PGm_EVT", 0, 0, 0x7F, 0, 0, 0, []⟩,
  ⟨0x10, 1, 0x4, "PGm_SRQEN", 0x7F, 0, 0, 0, 0, 0, []⟩,
  ⟨0x14, 1, 0x4, "PGm_ROUTE", 0x1F07, 0, 0, 0, 0, 0, []⟩,
  ⟨0x18, 1, 0x4, "PGm_CNT", 0xFFFFFFFF, 0, 0, 0, 0, 0, []⟩,
  ⟨0x1C, 1, 0x4, "PGm_EPOCH", 0, 0, 0, 0, 0, 0, []⟩,
  ⟨0x20, 1, 0x4, "PGm_PERIOD", 0xFFFFFFFF, 0, 0, 0, 0, 0xFFFFFFFF, []⟩,
  ⟨0x24, 1, 0x4, "PGm_PERIOD_ACT", 0, 0, 0, 0, 0, 0xFFFFFFFF, []⟩,
  ⟨0x28, 1, 0x4, "PGm_PHASE", 0xFFFFFFFF, 0, 0, 0, 0, 0, []⟩,
  ⟨0x2C, 1, 0x4, "PGm_START", 0xFFFFFFFF, 0, 0, 0, 0, 0, []⟩,
  ⟨0x30, 1, 0x4, "PGm_DT", 0xFFF, 0, 0, 0, 0, 0, []⟩,
  ⟨0x34, 1, 0x4, "PGm_MINPW", 0xFFF, 0, 0, 0, 0, 0, []⟩,
  ⟨0x38, 1, 0x4, "PGm_TRIP", 0xFFFFFFFF, 0, 0, 0, 0, 0x7F, []⟩,
  ⟨0x3C, 1, 0x4, "PGm_TRIPSTAT", 0, 0, 0, 0, 0xFFFF0000, 0, []⟩,
  ⟨0x80, 12, 0x4, "PGm_MCHk", 0xFF, 0, 0, 0, 0, 0, []⟩,
  ⟨0xC0, 12, 0x4, "PGm_MPHk", 0xFFFFFFFF, 0, 0, 0, 0, 0, []⟩]

/-- One Newel (R141 to R143, R163, R164). Part 1. -/
def nwlRows0 : List RegRow := [
  ⟨0, 1, 0x4, "NWLn_CTRL", 0x1FF, 0, 0, 0, 0, 0x10, [(1, 2, 3)]⟩,
  ⟨0x4, 1, 0x4, "NWLn_CMD", 0, 0x1F, 0, 0, 0, 0, []⟩,
  ⟨0x8, 1, 0x4, "NWLn_STATE", 0, 0, 0, 0, 0, 0, []⟩,
  ⟨0xC, 1, 0x4, "NWLn_EVT", 0, 0, 0xFFFF, 0, 0, 0, []⟩,
  ⟨0x10, 1, 0x4, "NWLn_SRQEN", 0xFFFF, 0, 0, 0, 0, 0, []⟩,
  ⟨0x14, 1, 0x4, "NWLn_ROUTE", 0x1F07, 0, 0, 0, 0, 0x1004, []⟩,
  ⟨0x18, 1, 0x4, "NWLn_INPUT", 0xFFFFFF, 0, 0, 0, 0, 0x7F7F7F, []⟩,
  ⟨0x1C, 1, 0x4, "NWLn_WHEEL", 0x3FFFFF, 0, 0, 0, 0, 0x112001, []⟩,
  ⟨0x20, 1, 0x4, "NWLn_OFS", 0x3FFFFF, 0, 0, 0, 0, 0, []⟩,
  ⟨0x24, 1, 0x4, "NWLn_CLASS", 0xFFFFFFFF, 0, 0, 0, 0, 0x4040204D, []⟩,
  ⟨0x28, 1, 0x4, "NWLn_HOLDANG", 0x3FFFFF, 0, 0, 0, 0, 0x1000, []⟩,
  ⟨0x2C, 1, 0x4, "NWLn_STALL", 0xFF, 0, 0, 0, 0, 0x10, []⟩,
  ⟨0x30, 1, 0x4, "NWLn_STALLMAX", 0xFFFFFFFF, 0, 0, 0, 0, 0x9896800, []⟩,
  ⟨0x34, 1, 0x4, "NWLn_CAMWIN", 0x3FFFFF, 0, 0, 0, 0, 0x3000, []⟩,
  ⟨0x38, 1, 0x4, "NWLn_CYCLEN", 0x3FFFFF, 0, 0, 0, 0, 0x168000, []⟩,
  ⟨0x3C, 1, 0x4, "NWLn_ENCCFG", 0x1FFFFFFF, 0, 0, 0, 0, 0x1001000, []⟩,
  ⟨0x40, 1, 0x4, "NWLn_ZCFG", 0xFFFFFFFF, 0, 0, 0, 0, 0, []⟩,
  ⟨0x44, 1, 0x4, "NWLn_PEER", 0xF, 0, 0, 0, 0, 0, []⟩,
  ⟨0x48, 1, 0x4, "NWLn_RECCFG", 0x3F01, 0, 0, 0, 0, 0x2C00, []⟩,
  ⟨0x80, 1, 0x4, "NWLn_ANGLE", 0, 0, 0, 0, 0, 0, []⟩]

/-- One Newel (R141 to R143, R163, R164). Part 2. -/
def nwlRows1 : List RegRow := [
  ⟨0x84, 1, 0x4, "NWLn_TOOTHT", 0, 0, 0, 0, 0, 0, []⟩,
  ⟨0x88, 1, 0x4, "NWLn_TOOTHINFO", 0, 0, 0, 0, 0, 0, []⟩,
  ⟨0x8C, 1, 0x4, "NWLn_PERIOD", 0, 0, 0, 0, 0, 0, []⟩,
  ⟨0x90, 1, 0x4, "NWLn_PRED", 0, 0, 0, 0, 0, 0, []⟩,
  ⟨0x94, 1, 0x4, "NWLn_RATIO", 0, 0, 0, 0, 0, 0x10000, []⟩,
  ⟨0x98, 1, 0x4, "NWLn_CNT", 0, 0, 0, 0, 0xFFFFFFFF, 0, []⟩,
  ⟨0x9C, 1, 0x4, "NWLn_ERRS", 0, 0, 0, 0, 0xFFFFFFFF, 0, []⟩,
  ⟨0xA0, 1, 0x4, "NWLn_ENCPOS", 0, 0, 0, 0, 0, 0, []⟩,
  ⟨0xA4, 1, 0x4, "NWLn_SNAPANG", 0, 0, 0, 0, 0, 0, []⟩,
  ⟨0xA8, 1, 0x4, "NWLn_REVCNT", 0, 0, 0, 0, 0, 0, []⟩,
  ⟨0xB0, 1, 0x4, "NWLn_EVCTRL", 0x3FFFFF0F, 0, 0, 0, 0, 0xA00003, []⟩,
  ⟨0xB4, 1, 0x4, "NWLn_EVEVT", 0, 0, 0x7F, 0, 0, 0, []⟩,
  ⟨0xB8, 1, 0x4, "NWLn_EVSRQEN", 0x7F, 0, 0, 0, 0, 0, []⟩,
  ⟨0xBC, 1, 0x4, "NWLn_EVCNT", 0, 0, 0, 0, 0xFFFFFFFF, 0, []⟩,
  ⟨0xC0, 1, 0x4, "NWLn_EVSTAT", 0, 0, 0, 0, 0, 0, []⟩,
  ⟨0xC4, 1, 0x4, "NWLn_EVLAST_T", 0, 0, 0, 0, 0, 0, []⟩,
  ⟨0xC8, 1, 0x4, "NWLn_EVLAST_X", 0, 0, 0, 0, 0, 0, []⟩,
  ⟨0x100, 16, 0x4, "NWLn_CAMjEk", 0xFFFFFF, 0, 0, 0, 0, 0, []⟩,
  ⟨0x200, 128, 0x4, "NWLn_WHLk", 0x7FFFFF, 0, 0, 0, 0, 0, []⟩]

/-- One Newel (R141 to R143, R163, R164). -/
def nwlRows : List RegRow := nwlRows0 ++ nwlRows1

/-- One angle-event slot (R144, R145). -/
def evRows : List RegRow := [
  ⟨0, 1, 0x4, "NWLn_EVs_ANG", 0x3FFFFF, 0, 0, 0, 0, 0, []⟩,
  ⟨0x4, 1, 0x4, "NWLn_EVs_CFG", 0x1FFF, 0, 0, 0, 0, 0, [(8, 4, 10)]⟩,
  ⟨0x8, 1, 0x4, "NWLn_EVs_COMMIT", 0x3FFFFF, 0, 0, 0, 0, 0, []⟩,
  ⟨0xC, 1, 0x4, "NWLn_EVs_LATE", 0x3FFFFF, 0, 0, 0, 0, 0, []⟩]

/-- One engine block (R197, R198). Part 1. -/
def feRows0 : List RegRow := [
  ⟨0, 1, 0x4, "FEe_CTRL", 0x1, 0, 0, 0, 0, 0, []⟩,
  ⟨0x4, 1, 0x4, "FEe_CMD", 0, 0x7, 0, 0, 0, 0, []⟩,
  ⟨0x8, 1, 0x4, "FEe_STAT", 0, 0, 0, 0, 0, 0, []⟩,
  ⟨0xC, 1, 0x4, "FEe_EVT", 0, 0, 0xFF, 0, 0, 0, []⟩,
  ⟨0x10, 1, 0x4, "FEe_CODE", 0xFFFFFFFF, 0, 0, 0, 0, 0xFFFF0000, []⟩,
  ⟨0x14, 1, 0x4, "FEe_PWIN", 0xFFFFFFFF, 0, 0, 0, 0, 0, []⟩,
  ⟨0x18, 1, 0x4, "FEe_BUSY", 0, 0, 0, 0, 0xFFFFFFFF, 0, []⟩,
  ⟨0x20, 1, 0x4, "FEe_WRAPLO", 0xFFFF, 0, 0, 0, 0, 0, []⟩,
  ⟨0x24, 1, 0x4, "FEe_WRAPHI", 0xFFFF, 0, 0, 0, 0, 0, []⟩,
  ⟨0x28, 1, 0x4, "FEe_WRAPACT", 0, 0, 0, 0, 0, 0, []⟩,
  ⟨0x40, 8, 0x8, "FEe_WAKEj_T", 0xFFFFFFFF, 0, 0, 0, 0, 0, []⟩,
  ⟨0x44, 8, 0x8, "FEe_WAKEj_C", 0x11F, 0, 0, 0, 0, 0, []⟩,
  ⟨0x80, 1, 0x4, "FEe_MBXDB", 0, 0xFF, 0, 0, 0, 0, []⟩,
  ⟨0x84, 1, 0x4, "FEe_MBXSTAT", 0, 0, 0xFF00, 0, 0, 0, []⟩,
  ⟨0x88, 1, 0x4, "FEe_MBXACK", 0, 0xFF, 0, 0, 0, 0, []⟩,
  ⟨0x8C, 1, 0x4, "FEe_MBXCFG", 0x11F, 0, 0, 0, 0, 0, []⟩,
  ⟨0x100, 64, 0x4, "FEe_MBXm_Wk", 0xFFFFFFFF, 0, 0, 0, 0, 0, []⟩,
  ⟨0x200, 32, 0x4, "FEe_THk", 0xFFFFF, 0, 0, 0, 0, 0, []⟩,
  ⟨0x280, 32, 0x4, "FEe_TSTATk", 0, 0, 0, 0, 0xFF00, 0, []⟩,
  ⟨0x300, 32, 0x4, "FEe_SPLIMk", 0xFFFFFFFF, 0, 0, 0, 0, 0, []⟩]

/-- One engine block (R197, R198). Part 2. -/
def feRows1 : List RegRow := [
  ⟨0x380, 1, 0x4, "FE_GO", 0, 0x1FFFFFF, 0, 0, 0, 0, []⟩,
  ⟨0x384, 1, 0x4, "FE_GOTIME", 0xFFFFFFFF, 0, 0, 0, 0, 0, []⟩,
  ⟨0x388, 1, 0x4, "FE_GOSTAT", 0, 0, 0x2, 0, 0, 0, []⟩,
  ⟨0x38C, 1, 0x4, "FE_CODEWR", 0, 0, 0, 0, 0x8003FFFF, 0, []⟩,
  ⟨0x390, 8, 0x4, "FE_BARb", 0xFFFF00FF, 0, 0, 0, 0, 0, []⟩,
  ⟨0x3B0, 1, 0x4, "FE_BAREVT", 0, 0, 0xFF, 0, 0, 0, []⟩]

/-- One engine block (R197, R198). -/
def feRows : List RegRow := feRows0 ++ feRows1

/-- One Runner lane (R200, R201). -/
def lnRows : List RegRow := [
  ⟨0, 1, 0x4, "LNk_CTRL", 0x7FFFF, 0, 0, 0, 0, 0x8000, [(1, 2, 3)]⟩,
  ⟨0x4, 1, 0x4, "LNk_PINS", 0xFFF, 0, 0, 0, 0, 0xFFF, []⟩,
  ⟨0x8, 1, 0x4, "LNk_DIV", 0xFFFF, 0, 0, 0, 0, 0x13, []⟩,
  ⟨0xC, 1, 0x4, "LNk_CMD", 0, 0xF, 0, 0, 0, 0, []⟩,
  ⟨0x10, 1, 0x4, "LNk_TXBUF", 0, 0xFFFFFFFF, 0, 0, 0, 0, []⟩,
  ⟨0x14, 1, 0x4, "LNk_RXBUF", 0, 0, 0, 0, 0, 0, []⟩,
  ⟨0x18, 1, 0x4, "LNk_CMP", 0xFFFFFFFF, 0, 0, 0, 0, 0, []⟩,
  ⟨0x1C, 1, 0x4, "LNk_CMPMSK", 0xFFFFFFFF, 0, 0, 0, 0, 0xFFFFFFFF, []⟩,
  ⟨0x20, 1, 0x4, "LNk_STAT", 0, 0, 0, 0, 0xFF0000, 0x4, []⟩,
  ⟨0x24, 1, 0x4, "LNk_EVT", 0, 0, 0xF, 0, 0, 0, []⟩]

/-- One ring (R288). -/
def ringRows : List RegRow := [
  ⟨0, 1, 0x4, "RINGr_CFG", 0x3FFFFF, 0, 0, 0, 0, 0x480, []⟩,
  ⟨0x4, 1, 0x4, "RINGr_BASE_LO", 0xFFFFFF00, 0, 0, 0, 0, 0, []⟩,
  ⟨0x8, 1, 0x4, "RINGr_BASE_HI", 0xFFFFFFFF, 0, 0, 0, 0, 0, []⟩,
  ⟨0xC, 1, 0x4, "RINGr_WB_LO", 0xFFFFFFF8, 0, 0, 0, 0, 0, []⟩,
  ⟨0x10, 1, 0x4, "RINGr_WB_HI", 0xFFFFFFFF, 0, 0, 0, 0, 0, []⟩,
  ⟨0x14, 1, 0x4, "RINGr_HEAD", 0, 0, 0, 0, 0, 0, []⟩,
  ⟨0x18, 1, 0x4, "RINGr_TAIL", 0, 0, 0, 0, 0, 0, []⟩,
  ⟨0x1C, 1, 0x4, "RINGr_DONE", 0, 0, 0, 0, 0, 0, []⟩,
  ⟨0x20, 1, 0x4, "RINGr_DB", 0, 0xFFFFFFFF, 0, 0, 0, 0, []⟩,
  ⟨0x24, 1, 0x4, "RINGr_IRQ", 0xFFFFF7F, 0, 0, 0, 0, 0x100, []⟩,
  ⟨0x28, 1, 0x4, "RINGr_CMD", 0, 0xF, 0, 0, 0, 0, []⟩,
  ⟨0x2C, 1, 0x4, "RINGr_STAT", 0, 0, 0x1F0000, 0, 0, 0, []⟩,
  ⟨0x30, 1, 0x4, "RINGr_ERRIDX", 0, 0, 0, 0, 0, 0, []⟩,
  ⟨0x34, 1, 0x4, "RINGr_LOST", 0, 0, 0, 0, 0xFFFFFFFF, 0, []⟩]

/-- One Gallery context (R312). -/
def gcRows : List RegRow := [
  ⟨0, 1, 0x4, "GCg_CFG", 0x1F3, 0, 0, 0, 0, 0x40, []⟩,
  ⟨0x4, 1, 0x4, "GCg_STAT", 0, 0, 0, 0, 0, 0, []⟩,
  ⟨0x8, 1, 0x4, "GCg_REM", 0, 0, 0, 0, 0, 0, []⟩,
  ⟨0xC, 1, 0x4, "GCg_BYTES", 0, 0, 0, 0, 0xFFFFFFFF, 0, []⟩,
  ⟨0x10, 1, 0x4, "GCg_PREEMPT", 0, 0, 0, 0, 0xFFFF, 0, []⟩]

/-- The capture registers of one ring (R313). -/
def capRows : List RegRow := [
  ⟨0, 1, 0x4, "CAPr_CFG", 0x3FFF0FFF, 0, 0, 0, 0, 0x7000800, []⟩,
  ⟨0x4, 1, 0x4, "CAPr_FLUSH", 0xFFFF, 0, 0, 0, 0, 0x64, []⟩,
  ⟨0x8, 1, 0x4, "CAPr_STAT", 0, 0, 0x40000, 0, 0, 0, []⟩,
  ⟨0xC, 1, 0x4, "CAPr_LOSS", 0, 0, 0, 0, 0xFFFFFFFF, 0, []⟩]

/-- One transaction (R327, R328). -/
def txnRows : List RegRow := [
  ⟨0, 1, 0x4, "TXNt_CMD", 0, 0x7, 0, 0, 0, 0, []⟩,
  ⟨0x4, 1, 0x4, "TXNt_BOUND", 0xF33, 0, 0, 0, 0, 0, []⟩,
  ⟨0x8, 1, 0x4, "TXNt_AT_LO", 0xFFFFFFFF, 0, 0, 0, 0, 0, []⟩,
  ⟨0xC, 1, 0x4, "TXNt_AT_HI", 0xFFFFFFFF, 0, 0, 0, 0, 0, []⟩,
  ⟨0x10, 1, 0x4, "TXNt_SOFS", 0, 0xFFFFF, 0, 0, 0, 0, [(0, 2, 1)]⟩,
  ⟨0x14, 1, 0x4, "TXNt_SVAL", 0, 0xFFFFFFFF, 0, 0, 0, 0, []⟩,
  ⟨0x18, 1, 0x4, "TXNt_STAT", 0, 0, 0, 0, 0, 0, []⟩,
  ⟨0x1C, 1, 0x4, "TXNt_LAND", 0, 0, 0, 0, 0, 0, []⟩]

/-- A place of MW0: a block, the number of its instance and the offset in the block (R23). -/
inductive Place where
  | glob (rows : List RegRow)
  | ch (n : Fin 96)
  | pg (m : Fin 16)
  | nwl (n : Fin 4)
  | ev (n : Fin 4) (k : Fin 512)
  | fe (e : Fin 8)
  | ln (k : Fin 16)
  | ring (r : Fin 64)
  | gc (g : Fin 16)
  | cap (r : Fin 64)
  | txn (t : Fin 8)
  | ram
  | hole

/-- The instance of a block of `k` instances, `stride` bytes apart from `base` on, that offset `o` lies in. -/
def instanceOf (k base stride : Nat) (o : Nat) : Option (Fin k) :=
  if h : base ≤ o ∧ (o - base) / stride < k then some ⟨(o - base) / stride, h.2⟩ else none

/-- The register tables of the pages without instances, by the page number of the offset (R23). -/
def globTable (page : Nat) : List RegRow :=
  if page = 0x0 then sysRows else if page = 0x1 then fltRows else if page = 0x2 then vestRows
  else if page = 0x3 then chestRows else if page = 0x5 then galRows else if page = 0x9 then txnGlobRows
  else if page = 0xD then portRows else if page = 0xE1 then mcRows else if page = 0xF0 then dbgRows else []

/-- Whether an offset lies in a RAM window, which takes narrow accesses (R8, R23): the mailbox RAM, code RAM, parameter RAM,
local RAMs, the microcode staging buffer and CHEST_BUF (R373). -/
def isRam (o : Nat) : Bool :=
  (0x18000 ≤ o && o < 0x20000) || (0x40000 ≤ o && o < 0xE0000) || (0xE0000 ≤ o && o < 0xE0800)
    || (0x3100 ≤ o && o < 0x3300)

/-- The block and instance that an MW0 offset lies in (R23). -/
def place (o : Nat) : Place :=
  if isRam o then .ram
  else match instanceOf 64 0x4000 0x40 o with
  | some r => .ring r
  | none => match instanceOf 16 0x5200 0x20 o with
  | some g => .gc g
  | none => match instanceOf 64 0x5600 0x10 o with
  | some r => .cap r
  | none => match instanceOf 4 0x8000 0x400 o with
  | some n => .nwl n
  | none => match instanceOf 8 0x9000 0x20 o with
  | some t => .txn t
  | none => match instanceOf 16 0xA000 0x100 o with
  | some m => .pg m
  | none => match instanceOf 16 0xC000 0x80 o with
  | some k => .ln k
  | none => match instanceOf 96 0x10000 0x100 o with
  | some n => .ch n
  | none => match instanceOf 8 0x20000 0x400 o with
  | some e => .fe e
  | none => match instanceOf 4 0x30000 0x2000 o with
  | some n => match instanceOf 512 (0x30000 + n.val * 0x2000) 0x10 o with
    | some k => .ev n k
    | none => .hole
  | none => match globTable (o / 0x1000) with
  | [] => .hole
  | rs => .glob rs

/-- The table of a place and the offset of its instance's first register. -/
def Place.table : Place → List RegRow × Nat
  | .glob rows => (rows, 0)
  | .ch n => (chRows, 0x10000 + n.val * 0x100)
  | .pg m => (pgRows, 0xA000 + m.val * 0x100)
  | .nwl n => (nwlRows, 0x8000 + n.val * 0x400)
  | .ev n k => (evRows, 0x30000 + n.val * 0x2000 + k.val * 0x10)
  | .fe e => (feRows, 0x20000 + e.val * 0x400)
  | .ln k => (lnRows, 0xC000 + k.val * 0x80)
  | .ring r => (ringRows, 0x4000 + r.val * 0x40)
  | .gc g => (gcRows, 0x5200 + g.val * 0x20)
  | .cap r => (capRows, 0x5600 + r.val * 0x10)
  | .txn t => (txnRows, 0x9000 + t.val * 0x20)
  | .ram => ([], 0)
  | .hole => ([], 0)

/-- Whether the row holds the register at offset `rel` of its block. -/
def RegRow.covers (r : RegRow) (rel : Nat) : Bool :=
  r.off ≤ rel && (rel - r.off) % r.stride == 0 && (rel - r.off) / r.stride < r.cnt

/-- The first row of a table that holds the register at offset `rel`. -/
def findRow (rel : Nat) : List RegRow → Option RegRow
  | [] => none
  | r :: rs => if r.covers rel then some r else findRow rel rs

/-- The row of a hole (R12): every bit is a reserved field. -/
def RegRow.hole : RegRow := ⟨0, 1, 4, "", 0, 0, 0, 0, 0, 0, []⟩

/-- The table row of the register at an MW0 offset, if one lies there. -/
def regRow? (o : Nat) : Option RegRow :=
  let t := (place o).table
  findRow (o - t.2) t.1

/-- The table row of an MW0 offset; an offset without a register behaves as one reserved field (R12). -/
def regRow (o : Nat) : RegRow := (regRow? o).getD RegRow.hole

/-- The class of each fault source as the source table gives it (R347): 0 INFO, 1 NOTICE, 2 DEGRADED, 3 SEVERE, 4 FATAL;
`none` for a reserved number. -/
def faultClass? (k : Nat) : Option Nat :=
  if k ≤ 1 then some 1 else if k ≤ 3 then some 3 else if k = 4 then some 1 else if k ≤ 6 then some 2
  else if k = 7 then some 3 else if k = 8 then some 2 else if k ≤ 10 then some 1 else if k = 11 then some 3
  else if k ≤ 14 then some 4 else if k = 15 then none else if k = 16 then some 0 else if k ≤ 32 then some 3
  else if k = 33 then some 1 else if k = 34 then some 0 else if k = 35 then some 3 else if k = 36 then some 2
  else if k ≤ 38 then some 1 else if k ≤ 47 then none else if k ≤ 49 then some 1 else if k = 50 then some 0
  else if k = 51 then some 2 else if k = 52 then some 3 else if k = 53 then some 1 else if k ≤ 63 then none
  else if k = 64 then some 2 else if k ≤ 67 then some 1 else if k = 68 then some 0 else if k ≤ 71 then some 1
  else if k = 72 then some 0 else if k ≤ 79 then none else if k ≤ 111 then some 2 else if k = 112 then some 0
  else if k ≤ 115 then some 1 else if k ≤ 127 then none else if k ≤ 143 then some 3 else if k ≤ 146 then some 1
  else if k = 147 then some 0 else if k = 148 then some 1 else if k = 149 then some 0 else if k = 150 then some 1
  else if k = 151 then none else if k ≤ 159 then some 2 else if k ≤ 161 then some 1 else if k = 162 then some 2
  else if k ≤ 169 then some 1 else if k ≤ 191 then none else if k = 192 then some 0 else if k = 193 then some 2
  else if k = 194 then some 3 else if k ≤ 196 then some 1 else if k ≤ 198 then some 2 else if k = 199 then some 1
  else if k = 200 then some 0 else none

/-- The reset value of FSRCk_CFG (R350). -/
def fsrcReset (k : Nat) : Nat :=
  if k = 11 then 0x683F else if 25 ≤ k && k ≤ 32 then 0x6883
  else match faultClass? k with
  | some 1 => 0x2801 | some 2 => 0x4803 | some 3 => 0x6803 | some 4 => 0x9803 | _ => 0x801

/-- The ring type that RINGr_CFG resets to (R288): t(r). -/
def ringTypeReset (r : Nat) : Nat :=
  if r < 16 then 0 else if r < 32 then 1 else if r < 56 then 2 else if r < 60 then 3 else 4

/-- The reset priority p(g) of a Gallery context (R312). -/
def gcPriReset (g : Nat) : Nat :=
  if g < 4 then 0 else if g < 8 then 3 else if g < 14 then 1 else 0

/-- The value of a register after power-on reset or RESET_N (R14): the Reset column of its table, with the formulas that
depend on the instance. -/
def regReset (o : Nat) : Nat :=
  match place o with
  | .ch n =>
    let x := o - (0x10000 + n.val * 0x100)
    if x = 0xC then 0x20000C + n.val / 4 * 0x10000
    else if x = 0x10 then n.val % 12 * 0x100 + n.val / 12
    else (regRow o).reset
  | .pg m =>
    if o - (0xA000 + m.val * 0x100) = 0x14 then (12 + m.val % 2) * 0x100 + m.val / 2 else (regRow o).reset
  | .nwl n => if o - (0x8000 + n.val * 0x400) = 0x14 then 0x1004 + n.val else (regRow o).reset
  | .ln k => if o - (0xC000 + k.val * 0x80) = 0 then 0x8000 + k.val / 2 * 0x10000 else (regRow o).reset
  | .ring r =>
    let x := o - (0x4000 + r.val * 0x40)
    if x = 0 then 0x480 + ringTypeReset r.val * 2 + r.val / 4 * 0x1000 + (56 + r.val % 16 / 4) * 0x10000
    else if x = 0x24 then 0x100 + r.val else (regRow o).reset
  | .gc g => if o - (0x5200 + g.val * 0x20) = 0 then 0x40 + gcPriReset g.val else (regRow o).reset
  | .glob _ =>
    if 0x1400 ≤ o && o < 0x1800 then fsrcReset ((o - 0x1400) / 4) else (regRow o).reset
  | _ => (regRow o).reset

end Sys2Proof.Machine
end

