-- ==== Sys2Proof/Machine/Regs.lean ====
section
/-! DEFINITION. Where each register lies: one name for each offset of the spec's register tables. The names of a per-instance
block are offsets inside that block; the functions at the end give the MW0 offset of an instance's register (R23). -/

namespace Sys2Proof.Machine


/-! Identity, clocks, timebase (R55, R56) and power, reset, Lobby (R398, R399). -/
abbrev R.SYS_ID : Nat := 0x0
abbrev R.CLK_STAT : Nat := 0x4
abbrev R.CLK_CTRL : Nat := 0x8
abbrev R.LCLK_TRIM : Nat := 0xC
abbrev R.TB_LSTEP : Nat := 0x10
abbrev R.TB_LO : Nat := 0x20
abbrev R.TB_HI : Nat := 0x24
abbrev R.TB_FOFS : Nat := 0x28
abbrev R.TB_SLEW : Nat := 0x2C
abbrev R.TB_STEP_LO : Nat := 0x30
abbrev R.TB_STEP_HI : Nat := 0x34
abbrev R.TB_CMD : Nat := 0x38
abbrev R.TB_STAT : Nat := 0x3C
abbrev R.SYNCIN_CTRL : Nat := 0x40
abbrev R.SYNCIN_STAT : Nat := 0x44
abbrev R.SYNCIN_TS_LO : Nat := 0x48
abbrev R.SYNCIN_TS_HI : Nat := 0x4C
abbrev R.SYNCIN_PERIOD : Nat := 0x50
abbrev R.SYNCOUT_CTRL : Nat := 0x60
abbrev R.SYNCOUT_START_LO : Nat := 0x64
abbrev R.SYNCOUT_START_HI : Nat := 0x68
abbrev R.SYNCOUT_PERIOD : Nat := 0x6C
abbrev R.SYNCOUT_WIDTH : Nat := 0x70
abbrev R.SYNCOUT_COUNT : Nat := 0x74
abbrev R.SYNCOUT_STAT : Nat := 0x78
abbrev R.CLK_FRZ0 : Nat := 0x80
abbrev R.CLK_FRZ1 : Nat := 0x84
abbrev R.CLK_FRZ2 : Nat := 0x88
abbrev R.PWR_CTRL : Nat := 0x100
abbrev R.PWR_CMD : Nat := 0x104
abbrev R.PWR_STAT : Nat := 0x108
abbrev R.PWR_EVT : Nat := 0x10C
abbrev R.PWR_DIP : Nat := 0x110
abbrev R.PWR_DIPDUR : Nat := 0x114
abbrev R.RST_CAUSE : Nat := 0x118
abbrev R.RST_SW : Nat := 0x11C
abbrev R.BOOT_STAT : Nat := 0x120
abbrev R.BOOT_TIME : Nat := 0x124
abbrev R.BOOT_IMGREL : Nat := 0x128
abbrev R.LGS_STAT : Nat := 0x130
abbrev R.LGS_TB_LO : Nat := 0x134
abbrev R.LGS_TB_HI : Nat := 0x138
abbrev R.LOB_WPIN : Nat := 0x140
abbrev R.LOB_WCTRL : Nat := 0x144
abbrev R.LOB_WSRC : Nat := 0x148
abbrev R.LOB_WT_T : Nat := 0x180
abbrev R.LOB_WT_C : Nat := 0x184

/-! The Banister (R348 to R350). -/
abbrev R.FLT_CTRL : Nat := 0x1000
abbrev R.FLT_STAT : Nat := 0x1004
abbrev R.FLT_CMD : Nat := 0x1008
abbrev R.FLT_RING : Nat := 0x100C
abbrev R.FLT_IRQ : Nat := 0x1010
abbrev R.FLT_ISR : Nat := 0x1014
abbrev R.FLT_INJ : Nat := 0x1018
abbrev R.FLT_LOGSTAT : Nat := 0x101C
abbrev R.FLT_FIRST_W : Nat := 0x1020
abbrev R.FLT_SAME : Nat := 0x1040
abbrev R.FLT_PEND : Nat := 0x1060
abbrev R.FLT_PLOGSEL : Nat := 0x1080
abbrev R.FLT_PLOG_W : Nat := 0x1084
abbrev R.FLT_PLOGSTAT : Nat := 0x109C
abbrev R.FLT_SAFE_M : Nat := 0x1100
abbrev R.FLT_SAFEACT : Nat := 0x1180
abbrev R.FLT_SAFECLR : Nat := 0x1184
abbrev R.FSRC_CFG : Nat := 0x1400
abbrev R.FSRC_STAT : Nat := 0x1800
abbrev R.FLT_LOG : Nat := 0x1C00

/-! Vestibule, background work, telemetry (R371, R372). -/
abbrev R.VEST_CTRL : Nat := 0x2000
abbrev R.VEST_STAT : Nat := 0x2004
abbrev R.VEST_EVT : Nat := 0x2008
abbrev R.VEST_CNT : Nat := 0x200C
abbrev R.VEST_PEAK : Nat := 0x2010
abbrev R.BG_REQ : Nat := 0x2040
abbrev R.BG_STAT : Nat := 0x2044
abbrev R.BG_FAIL : Nat := 0x2048
abbrev R.SCRUB_STAT : Nat := 0x2080
abbrev R.CAL_STAT : Nat := 0x2084
abbrev R.CAL_CNT : Nat := 0x2088
abbrev R.TEL_CTRL : Nat := 0x20C0
abbrev R.TEL_RMASK0 : Nat := 0x20C4
abbrev R.TEL_RMASK1 : Nat := 0x20C8
abbrev R.TEL_THR : Nat := 0x20CC
abbrev R.TEL_TEMP01 : Nat := 0x20D0
abbrev R.TEL_TEMP23 : Nat := 0x20D4
abbrev R.TEL_SUP0 : Nat := 0x20D8
abbrev R.TEL_SUP1 : Nat := 0x20DC
abbrev R.TEL_SUP2 : Nat := 0x20E0
abbrev R.TEL_STAT : Nat := 0x20E4
abbrev R.TEL_LOST : Nat := 0x20E8

/-! Chest control (R373). -/
abbrev R.CHEST_ADDR : Nat := 0x3000
abbrev R.CHEST_CMD : Nat := 0x3004
abbrev R.CHEST_STAT : Nat := 0x3008
abbrev R.CHEST_WEAR : Nat := 0x300C
abbrev R.CHEST_MOVES : Nat := 0x3010
abbrev R.LIFE_SECS : Nat := 0x3400
abbrev R.LIFE_BOOTS : Nat := 0x3404
abbrev R.LIFE_RPM : Nat := 0x3410
abbrev R.LIFE_OVSPD : Nat := 0x3420
abbrev R.LIFE_OVTHR : Nat := 0x3430
abbrev R.LIFE_TRIP : Nat := 0x3440

/-! Ring and Gallery globals (R288, R289, R311). -/
abbrev R.RING_ISR0 : Nat := 0x5000
abbrev R.RING_ISR1 : Nat := 0x5004
abbrev R.RING_SUPLOCK0 : Nat := 0x5008
abbrev R.RING_SUPLOCK1 : Nat := 0x500C
abbrev R.RING_EVTCFG : Nat := 0x5010
abbrev R.RING_HOSTSTAT : Nat := 0x5014
abbrev R.GAL_CTRL : Nat := 0x5100
abbrev R.GAL_STAGE : Nat := 0x5104
abbrev R.LAND_OCC : Nat := 0x5108
abbrev R.LAND_PEAK : Nat := 0x510C
abbrev R.LAND_ENTQ : Nat := 0x5110
abbrev R.CAP_NORING : Nat := 0x5114
abbrev R.CAP_NORINGSRC : Nat := 0x5118
abbrev R.GAL_MARK : Nat := 0x511C
abbrev R.GAL_RECCFG : Nat := 0x5120

/-! Transaction and SNAP globals (R327, R328). -/
abbrev R.TXN_FREE : Nat := 0x9100
abbrev R.TXN_EVT : Nat := 0x9104
abbrev R.SNAP_CMD : Nat := 0x9200
abbrev R.SNAP_STAT : Nat := 0x9204
abbrev R.SNAP_AT_LO : Nat := 0x9208
abbrev R.SNAP_AT_HI : Nat := 0x920C
abbrev R.SNAP_AREA : Nat := 0x9400

/-! Ports (R424). -/
abbrev R.PCIE_STAT : Nat := 0xD000
abbrev R.PCIE_ERRCNT : Nat := 0xD004
abbrev R.SUP_CFG : Nat := 0xD100
abbrev R.SUP_STAT : Nat := 0xD104
abbrev R.SUP_ISR : Nat := 0xD108
abbrev R.SUP_IEN : Nat := 0xD10C
abbrev R.SUP_HB_CTRL : Nat := 0xD110
abbrev R.SUP_HB_KICK : Nat := 0xD114
abbrev R.SUP_HB_STAT : Nat := 0xD118
abbrev R.PEER_CFG : Nat := 0xD200
abbrev R.PEER_STAT : Nat := 0xD204
abbrev R.PEER_RXDLY : Nat := 0xD208
abbrev R.PEER_ERR : Nat := 0xD20C
abbrev R.PEER_CNT : Nat := 0xD210

/-! Microcode control (R258, R259). -/
abbrev R.MC_VER : Nat := 0xE1000
abbrev R.MC_STAT : Nat := 0xE1004
abbrev R.MC_CMD : Nat := 0xE1008
abbrev R.MC_KEYS : Nat := 0xE100C
abbrev R.MC_UFAULT : Nat := 0xE1010

/-! Debug (R423, R424). -/
abbrev R.DBG_CTRL : Nat := 0xF0000
abbrev R.DBG_HALT : Nat := 0xF0004
abbrev R.DBG_RESUME : Nat := 0xF0008
abbrev R.DBG_STEP : Nat := 0xF000C
abbrev R.DBG_STAT : Nat := 0xF0010
abbrev R.DBG_BP : Nat := 0xF0020
abbrev R.DBG_SEL : Nat := 0xF0030
abbrev R.DBG_DATA : Nat := 0xF0034

/-! One channel (R86, R87). -/
abbrev CH.CTRL : Nat := 0x0
abbrev CH.OUTCFG : Nat := 0x4
abbrev CH.CAPCFG : Nat := 0x8
abbrev CH.REC : Nat := 0xC
abbrev CH.ROUTE : Nat := 0x10
abbrev CH.SRQEN : Nat := 0x14
abbrev CH.PWM : Nat := 0x18
abbrev CH.CMD : Nat := 0x1C
abbrev CH.CNT : Nat := 0x20
abbrev CH.CNTX : Nat := 0x24
abbrev CH.SNAPCNT : Nat := 0x28
abbrev CH.EPOCH : Nat := 0x2C
abbrev CH.PERIOD : Nat := 0x30
abbrev CH.CMPA : Nat := 0x34
abbrev CH.CMPB : Nat := 0x38
abbrev CH.CMPC : Nat := 0x3C
abbrev CH.CMPD : Nat := 0x40
abbrev CH.CMPFINE : Nat := 0x44
abbrev CH.PERIOD_ACT : Nat := 0x50
abbrev CH.CMPA_ACT : Nat := 0x54
abbrev CH.CMPB_ACT : Nat := 0x58
abbrev CH.CMPC_ACT : Nat := 0x5C
abbrev CH.CMPD_ACT : Nat := 0x60
abbrev CH.CMPFINE_ACT : Nat := 0x64
abbrev CH.CAPA : Nat := 0x70
abbrev CH.CAPB : Nat := 0x74
abbrev CH.CAPINFO : Nat := 0x78
abbrev CH.EDGECNT : Nat := 0x7C
abbrev CH.FIFO_T : Nat := 0x80
abbrev CH.FIFO_X : Nat := 0x84
abbrev CH.FIFOSTAT : Nat := 0x88
abbrev CH.FILTCNT : Nat := 0x8C
abbrev CH.AQ_T : Nat := 0x90
abbrev CH.AQ_A : Nat := 0x94
abbrev CH.AQSTAT : Nat := 0x98
abbrev CH.AQHEAD : Nat := 0x9C
abbrev CH.EVT : Nat := 0xA0
abbrev CH.STAT : Nat := 0xA4
abbrev CH.SHORTCNT : Nat := 0xA8

/-! One PWM group (R110, R111). -/
abbrev PG.CTRL : Nat := 0x0
abbrev PG.CMD : Nat := 0x4
abbrev PG.STAT : Nat := 0x8
abbrev PG.EVT : Nat := 0xC
abbrev PG.SRQEN : Nat := 0x10
abbrev PG.ROUTE : Nat := 0x14
abbrev PG.CNT : Nat := 0x18
abbrev PG.EPOCH : Nat := 0x1C
abbrev PG.PERIOD : Nat := 0x20
abbrev PG.PERIOD_ACT : Nat := 0x24
abbrev PG.PHASE : Nat := 0x28
abbrev PG.START : Nat := 0x2C
abbrev PG.DT : Nat := 0x30
abbrev PG.MINPW : Nat := 0x34
abbrev PG.TRIP : Nat := 0x38
abbrev PG.TRIPSTAT : Nat := 0x3C
abbrev PG.MCH : Nat := 0x80
abbrev PG.MPH : Nat := 0xC0

/-! One Newel (R141 to R143, R163, R164). -/
abbrev NWL.CTRL : Nat := 0x0
abbrev NWL.CMD : Nat := 0x4
abbrev NWL.STATE : Nat := 0x8
abbrev NWL.EVT : Nat := 0xC
abbrev NWL.SRQEN : Nat := 0x10
abbrev NWL.ROUTE : Nat := 0x14
abbrev NWL.INPUT : Nat := 0x18
abbrev NWL.WHEEL : Nat := 0x1C
abbrev NWL.OFS : Nat := 0x20
abbrev NWL.CLASS : Nat := 0x24
abbrev NWL.HOLDANG : Nat := 0x28
abbrev NWL.STALL : Nat := 0x2C
abbrev NWL.STALLMAX : Nat := 0x30
abbrev NWL.CAMWIN : Nat := 0x34
abbrev NWL.CYCLEN : Nat := 0x38
abbrev NWL.ENCCFG : Nat := 0x3C
abbrev NWL.ZCFG : Nat := 0x40
abbrev NWL.PEER : Nat := 0x44
abbrev NWL.RECCFG : Nat := 0x48
abbrev NWL.ANGLE : Nat := 0x80
abbrev NWL.TOOTHT : Nat := 0x84
abbrev NWL.TOOTHINFO : Nat := 0x88
abbrev NWL.PERIOD : Nat := 0x8C
abbrev NWL.PRED : Nat := 0x90
abbrev NWL.RATIO : Nat := 0x94
abbrev NWL.CNT : Nat := 0x98
abbrev NWL.ERRS : Nat := 0x9C
abbrev NWL.ENCPOS : Nat := 0xA0
abbrev NWL.SNAPANG : Nat := 0xA4
abbrev NWL.REVCNT : Nat := 0xA8
abbrev NWL.EVCTRL : Nat := 0xB0
abbrev NWL.EVEVT : Nat := 0xB4
abbrev NWL.EVSRQEN : Nat := 0xB8
abbrev NWL.EVCNT : Nat := 0xBC
abbrev NWL.EVSTAT : Nat := 0xC0
abbrev NWL.EVLAST_T : Nat := 0xC4
abbrev NWL.EVLAST_X : Nat := 0xC8
abbrev NWL.CAME : Nat := 0x100
abbrev NWL.WHL : Nat := 0x200

/-! One angle-event slot (R144, R145). -/
abbrev EV.ANG : Nat := 0x0
abbrev EV.CFG : Nat := 0x4
abbrev EV.COMMIT : Nat := 0x8
abbrev EV.LATE : Nat := 0xC

/-! One engine block (R197, R198). -/
abbrev FE.CTRL : Nat := 0x0
abbrev FE.CMD : Nat := 0x4
abbrev FE.STAT : Nat := 0x8
abbrev FE.EVT : Nat := 0xC
abbrev FE.CODE : Nat := 0x10
abbrev FE.PWIN : Nat := 0x14
abbrev FE.BUSY : Nat := 0x18
abbrev FE.WRAPLO : Nat := 0x20
abbrev FE.WRAPHI : Nat := 0x24
abbrev FE.WRAPACT : Nat := 0x28
abbrev FE.WAKE_T : Nat := 0x40
abbrev FE.WAKE_C : Nat := 0x44
abbrev FE.MBXDB : Nat := 0x80
abbrev FE.MBXSTAT : Nat := 0x84
abbrev FE.MBXACK : Nat := 0x88
abbrev FE.MBXCFG : Nat := 0x8C
abbrev FE.MBX_W : Nat := 0x100
abbrev FE.TH : Nat := 0x200
abbrev FE.TSTAT : Nat := 0x280
abbrev FE.SPLIM : Nat := 0x300
abbrev FE.GO : Nat := 0x380
abbrev FE.GOTIME : Nat := 0x384
abbrev FE.GOSTAT : Nat := 0x388
abbrev FE.CODEWR : Nat := 0x38C
abbrev FE.BAR : Nat := 0x390
abbrev FE.BAREVT : Nat := 0x3B0

/-! One Runner lane (R200, R201). -/
abbrev LN.CTRL : Nat := 0x0
abbrev LN.PINS : Nat := 0x4
abbrev LN.DIV : Nat := 0x8
abbrev LN.CMD : Nat := 0xC
abbrev LN.TXBUF : Nat := 0x10
abbrev LN.RXBUF : Nat := 0x14
abbrev LN.CMP : Nat := 0x18
abbrev LN.CMPMSK : Nat := 0x1C
abbrev LN.STAT : Nat := 0x20
abbrev LN.EVT : Nat := 0x24

/-! One ring (R288). -/
abbrev RING.CFG : Nat := 0x0
abbrev RING.BASE_LO : Nat := 0x4
abbrev RING.BASE_HI : Nat := 0x8
abbrev RING.WB_LO : Nat := 0xC
abbrev RING.WB_HI : Nat := 0x10
abbrev RING.HEAD : Nat := 0x14
abbrev RING.TAIL : Nat := 0x18
abbrev RING.DONE : Nat := 0x1C
abbrev RING.DB : Nat := 0x20
abbrev RING.IRQ : Nat := 0x24
abbrev RING.CMD : Nat := 0x28
abbrev RING.STAT : Nat := 0x2C
abbrev RING.ERRIDX : Nat := 0x30
abbrev RING.LOST : Nat := 0x34

/-! One Gallery context (R312). -/
abbrev GC.CFG : Nat := 0x0
abbrev GC.STAT : Nat := 0x4
abbrev GC.REM : Nat := 0x8
abbrev GC.BYTES : Nat := 0xC
abbrev GC.PREEMPT : Nat := 0x10

/-! The capture registers of one ring (R313). -/
abbrev CAP.CFG : Nat := 0x0
abbrev CAP.FLUSH : Nat := 0x4
abbrev CAP.STAT : Nat := 0x8
abbrev CAP.LOSS : Nat := 0xC

/-! One transaction (R327, R328). -/
abbrev TXN.CMD : Nat := 0x0
abbrev TXN.BOUND : Nat := 0x4
abbrev TXN.AT_LO : Nat := 0x8
abbrev TXN.AT_HI : Nat := 0xC
abbrev TXN.SOFS : Nat := 0x10
abbrev TXN.SVAL : Nat := 0x14
abbrev TXN.STAT : Nat := 0x18
abbrev TXN.LAND : Nat := 0x1C

/-- The MW0 offset of register `o` of channel `n` (R86). -/
def chOff (n : Fin 96) (o : Nat) : Nat := 0x10000 + n.val * 0x100 + o
/-- The MW0 offset of register `o` of PWM group `m` (R110). -/
def pgOff (m : Fin 16) (o : Nat) : Nat := 0xA000 + m.val * 0x100 + o
/-- The MW0 offset of register `o` of Newel `n` (R141). -/
def nwlOff (n : Fin 4) (o : Nat) : Nat := 0x8000 + n.val * 0x400 + o
/-- The MW0 offset of register `o` of slot `k` of Newel `n` (R144). -/
def evOff (n : Fin 4) (k : Fin 512) (o : Nat) : Nat := 0x30000 + n.val * 0x2000 + k.val * 0x10 + o
/-- The MW0 offset of register `o` of engine `e` (R197). -/
def feOff (e : Fin 8) (o : Nat) : Nat := 0x20000 + e.val * 0x400 + o
/-- The MW0 offset of a register shared by all engine blocks, in the block of FE0 (R197). -/
def feGlobOff (o : Nat) : Nat := 0x20000 + o
/-- The MW0 offset of register `o` of Runner lane `k` (R200). -/
def lnOff (k : Fin 16) (o : Nat) : Nat := 0xC000 + k.val * 0x80 + o
/-- The MW0 offset of register `o` of ring `r` (R288). -/
def ringOff (r : Fin 64) (o : Nat) : Nat := 0x4000 + r.val * 0x40 + o
/-- The MW0 offset of register `o` of Gallery context `g` (R312). -/
def gcOff (g : Fin 16) (o : Nat) : Nat := 0x5200 + g.val * 0x20 + o
/-- The MW0 offset of capture register `o` of ring `r` (R313). -/
def capOff (r : Fin 64) (o : Nat) : Nat := 0x5600 + r.val * 0x10 + o
/-- The MW0 offset of register `o` of transaction `t` (R327). -/
def txnOff (t : Fin 8) (o : Nat) : Nat := 0x9000 + t.val * 0x20 + o

end Sys2Proof.Machine
end

