-- ==== Sys2Proof/Machine/Store.lean ====
section
/-! DEFINITION. Sparse stores: a list of (address, value) pairs with strictly rising addresses in which no entry equals what an
unlisted address reads as. The registers, the latches, the RAM windows and the Chest array are held in this one form. -/

namespace Sys2Proof

/-- A sparse store of values of type `α`. What an unlisted address reads as is a function given to each operation. -/
abbrev Store (α : Type) := List (Nat × α)

/-- The value at address `k`; `d k` where the store lists none. -/
def Store.get {α : Type} (d : Nat → α) : Store α → Nat → α
  | [], k => d k
  | (a, v) :: m, k => if a = k then v else Store.get d m k

/-- The store without any entry at `k`. -/
def Store.erase {α : Type} : Store α → Nat → Store α
  | [], _ => []
  | (a, v) :: m, k => if a = k then Store.erase m k else (a, v) :: Store.erase m k

/-- The store with `v` listed at `k`, in address order. -/
def Store.insert {α : Type} : Store α → Nat → α → Store α
  | [], k, v => [(k, v)]
  | (a, u) :: m, k, v => if k < a then (k, v) :: (a, u) :: m else if k = a then (k, v) :: m else (a, u) :: Store.insert m k v

/-- The store with the value `v` at address `k`: the entry goes when `v` is what an unlisted address reads as. -/
def Store.set {α : Type} [DecidableEq α] (d : Nat → α) (m : Store α) (k : Nat) (v : α) : Store α :=
  if v = d k then Store.erase m k else Store.insert m k v

/-- Every address listed is above `b`, and the addresses rise. -/
def Store.rising {α : Type} : Nat → Store α → Bool
  | _, [] => true
  | b, (a, _) :: m => decide (b ≤ a) && Store.rising (a + 1) m

/-- The canonical form: rising addresses, and no entry equal to what an unlisted address reads as. -/
def Store.wf {α : Type} [DecidableEq α] (d : Nat → α) (m : Store α) : Bool :=
  Store.rising 0 m && m.all (fun p => decide (p.2 ≠ d p.1))

end Sys2Proof
end

