-- ==== Sys2Proof/Machine/State.lean ====
section
/-! DEFINITION. The state of the HYK8096 as plain data: every register, queue, buffer, counter, mode and pin that the spec gives
it, the queue of waiting commands, and what the model keeps beside them to pass time. -/

namespace Sys2Proof.Machine

/-! ## Timer channels (chapter 03) -/

/-- An entry of a channel's action queue (R74). `late` and `cancel` are set on offers of a late pass and of a cancel (R157). -/
structure AqEntry where
  coarse : Word
  fine : Nat
  act : Nat
  record : Bool
  frz : Bool
  tagv : Bool
  tag : Nat
  origin : Agent
  late : Bool
  cancel : Bool
deriving DecidableEq, Repr

/-- An entry of a capture FIFO (R72). -/
structure FifoEntry where
  coarse : Word
  fine : Nat
  level : Bool
  cnt16 : Nat
deriving DecidableEq, Repr

/-- A level change sampled at the pin, with its effective time and the count at the edge (R69, R71), and the tick of its
sampling on the model's own tick count. -/
structure PinEdge where
  level : Bool
  coarse : Time
  fine : Nat
  count : Word
  /-- Its moment, in fine units of the model's ticks (R70). -/
  real : Nat
deriving DecidableEq, Repr

/-- A placement in time on the model's tick count: a tick and a fine position in it. -/
structure Placement where
  tick : Nat
  fine : Nat
deriving DecidableEq, Repr

/-- The state of a channel that no register holds whole. The stamps are tick counts plus 1, with 0 for never. -/
structure Chan where
  /-- CHn_STAT.RUN. -/
  run : Bool
  /-- CHn_STAT.DIR: counting down. -/
  down : Bool
  /-- CHn_STAT.FROZEN (R52). -/
  frozen : Bool
  /-- A LOAD is armed (R66). -/
  loadArm : Bool
  /-- A transfer is held by the debug freeze (R53). -/
  xferHeld : Bool
  /-- A CHn_CNT write that sets the count in the next tick (R87). -/
  cntWr : Option Word
  /-- The count at the end of the preceding tick, valid with `took` (R71). -/
  prevCnt : Word
  /-- The tick in which the counter last took a value (R62). -/
  took : Nat
  /-- The tick in which a write last set the count (R87). -/
  cntSet : Nat
  /-- The tick of the last transfer point (R60). -/
  xferAt : Nat
  /-- The tick in which a queue entry last set the level (R82). -/
  aqPinAt : Nat
  /-- A change of the level inside an LCLK step, whose last one reaches the pin at the end of the step (R85): its fine value, cause and
  whether a compare made it. -/
  lcPend : Option (Nat × Nat × Bool)
  /-- The tick in which a compare action last set the level (R63). -/
  cmpPinAt : Nat
  /-- The letter of that compare action (R63). -/
  cmpLetter : Nat
  /-- The entry that fired last, and its tick (R75, R151). -/
  fired : Option AqEntry
  firedAt : Nat
  /-- The lane that owns the pin, if any, with the level it drives when it drives (R189). -/
  laneOwn : Bool
  laneOut : Option Bool
  /-- The action queue, in firing order (R76). -/
  aq : List AqEntry
  /-- The capture FIFO, oldest first (R72). -/
  fifo : List FifoEntry
  /-- The level sampled at the pin in the present tick (R69). -/
  pin : Bool
  /-- The filtered level, CHn_STAT.LEVEL. -/
  level : Bool
  /-- A sampled change inside the glitch filter (R69). -/
  filt : Option PinEdge
  /-- Accepted edges on their way to the capture registers (R69). -/
  caps : List PinEdge
  /-- The moment of the last timestamped edge, in fine units of the model's ticks (R70). -/
  lastTs : Option Nat
  /-- Recordable edges since RMODE was written (R73). -/
  decim : Nat
  /-- The level that the channel's own actions decide (R82). -/
  dec : Bool
  /-- CHn_STAT.OUTLVL (R81). -/
  out : Bool
  /-- The shaped reference level of the channel's output path (R99, R101). -/
  refLvl : Bool
  /-- The placement of the last reference change (R101). -/
  refAt : Option Placement
  /-- The present stretch is already counted as short (R104). -/
  counted : Bool
  /-- The closing change of a swallowed stretch is to be discarded (R102). -/
  swallow : Bool
  /-- The moved closing change of a stretched stretch (R102). -/
  closeAt : Option Placement
  /-- The end of a dead-time delay of this channel's rising edge (R99). -/
  riseAt : Option Placement
  /-- The pin as it was last driven: driver state and level. -/
  padDrv : Bool
  padLvl : Bool
  /-- The physical place of the last change of the pin, in fine units of the model's ticks (R39). -/
  padAt : Nat
  /-- The tick of the last edge that the delay line placed or timestamped (R98). -/
  edgeAt : Nat
deriving DecidableEq, Repr

/-- A channel after reset. -/
def Chan.reset : Chan :=
  { run := false, down := false, frozen := false, loadArm := false, xferHeld := false, cntWr := none, prevCnt := 0, took := 0,
    cntSet := 0, xferAt := 0, aqPinAt := 0, lcPend := none, cmpPinAt := 0, cmpLetter := 0, fired := none,
    firedAt := 0, laneOwn := false, laneOut := none, aq := [], fifo := [], pin := false, level := false, filt := none, caps := [],
    lastTs := none, decim := 0, dec := false, out := false, refLvl := false, refAt := none, counted := false, swallow := false,
    closeAt := none, riseAt := none, padDrv := false, padLvl := false, padAt := 0, edgeAt := 0 }

/-! ## PWM groups (chapter 04) -/

/-- The state of a PWM group that no register holds whole. -/
structure Pg where
  run : Bool
  down : Bool
  /-- PGm_STAT.ARMED (R89). -/
  armed : Bool
  /-- PGm_STAT.LOADARM (R92). -/
  loadArm : Bool
  /-- PGm_STAT.HELD (R93). -/
  held : Bool
  /-- PGm_STAT.TRIPPED. -/
  tripped : Bool
  /-- PGm_STAT.LATCHED. -/
  latched : Bool
  /-- PGm_STAT.TRIPIN: the filtered trip input. -/
  tripIn : Bool
  /-- The level that the trip filter has accepted, whose effect is up to 2 ticks under way (R105). -/
  tripLvl : Bool
  /-- A FORCE acts in the next tick (R105). -/
  forceNext : Bool
  /-- The tick in which a FORCE last acted, and in which a trip was last asserted (R105, R107). -/
  forcedAt : Nat
  assertAt : Nat
  /-- A TRIPCLR served with the input inactive acts in the next tick (R107). -/
  clrNext : Bool
  /-- A START served under STARTSRC command acts in the next tick (R89). -/
  startNext : Bool
  /-- PWRIT and CWRIT (R93). -/
  pwrit : Bool
  cwrit : Bool
  /-- A PGm_CNT write that sets the count in the next tick (R89). -/
  cntWr : Option Word
  /-- The tick (plus 1) in which the group last moved its count, and of its last transfer point, boundary and start. -/
  took : Nat
  xferAt : Nat
  boundAt : Nat
  /-- Whether the present period counts as tripped in the window, whether PGm_TRIPSTAT.TOTAL has counted it, and the earlier periods of the
  window, newest first (R107, R111). -/
  tripNow : Bool
  tripTot : Bool
  tripHist : List Bool
  /-- The active phases of the member slots (R91). -/
  mphAct : Vector Word 12
deriving DecidableEq, Repr

/-- A group after reset. -/
def Pg.reset : Pg :=
  { run := false, down := false, armed := false, loadArm := false, held := false, tripped := false, latched := false,
    tripIn := false, tripLvl := false, forceNext := false, forcedAt := 0, assertAt := 0, clrNext := false, startNext := false, pwrit := false, cwrit := false, cntWr := none, took := 0,
    xferAt := 0, boundAt := 0, tripNow := false, tripTot := false, tripHist := [], mphAct := Vector.replicate 12 0 }

/-! ## Newels (chapters 05 and 06) -/

/-- The sync states (R123), in the order of NWLn_STATE.STATE. -/
inductive Sync where
  | seek | candidate | confirm | sync | hold | lost
deriving DecidableEq, Repr

/-- The tooth classes (R118), in the order of NWLn_STATE.LASTCLS. -/
inductive Cls where
  | normal | early | late | gap | inserted | rejected
deriving DecidableEq, Repr

/-- An accepted period: its length in fine units, and whether it ends at an inserted tooth (R127). -/
structure Period where
  d : Nat
  ins : Bool
deriving DecidableEq, Repr

/-- What the prediction load of tick 8 + FILT brings into force (R122, R134): the tooth's time, the interval that follows and its
prediction, where there is one, and what NWLn_TOOTHINFO and NWLn_PERIOD will read. -/
structure Load where
  tlast : Nat
  anext : Nat
  ppred : Nat
  pred : Bool
  info : Word
  d : Nat
deriving DecidableEq, Repr

/-- An entry that a Newel is to offer: its slot, its target in fine units, the instance it stands for (R146), and its flags
(R147, R155). -/
structure SlotOffer where
  slot : Fin 512
  tgt : Nat
  inst : Nat
  frz : Bool
  late : Bool
  cancel : Bool
deriving DecidableEq, Repr

/-- The state of a Newel that no register holds whole. Times are effective times in fine units (R39). -/
structure Nwl where
  /-- The Newel runs: EN as it acts (R112). MODE and CYC as sampled at the enable. -/
  on : Bool
  mode : Nat
  cyc360 : Bool
  state : Sync
  fast : Bool
  phok : Bool
  rev : Bool
  idx : Nat
  dir : Bool
  errcnt : Nat
  /-- The class of the last edge classified, and of the last accepted tooth (R118). -/
  lastcls : Cls
  acls : Cls
  /-- The last accepted tooth as the angle clock uses it (R121), and whether there is a prediction (R119). -/
  tlast : Nat
  toothang : Nat
  anext : Nat
  ppred : Nat
  pred : Bool
  /-- A new prediction classified but not yet loaded (R122). -/
  load : Option Load
  /-- The last accepted tooth itself, once one is known, and NWLn_TOOTHINFO.SEQ. -/
  tooth : Option Nat
  seq : Nat
  /-- The previous period and its angle, and the ratio (R120). -/
  dprev : Nat
  aprev : Nat
  ratio : Nat
  rclamped : Bool
  /-- Accepted periods, newest first (R119, R127). -/
  hist : List Period
  /-- HOLDANG, STALLK and STALLMAX as they act since the last classification (R135). -/
  holdAng : Nat
  stallK : Nat
  stallMax : Nat
  /-- The speed is above LIFE_OVTHRn and has not fallen back (R370). -/
  overspeed : Bool
  /-- Accepted teeth since the last gap found, when one was found (R123). -/
  sinceGap : Option Nat
  /-- Index steps that remain of the CANDIDATE revolution (R123). -/
  candLeft : Nat
  /-- Teeth handled without a prediction in a fast CANDIDATE (R133). -/
  fastTeeth : Nat
  /-- Consecutive agreeing cam votes and the value they agree on (R129); the votes for and against the held REV (R133). -/
  votes : Nat
  voteRev : Bool
  fastFor : Nat
  fastAgainst : Nat
  /-- A sync error has occurred since the index last reached 0 (R124). -/
  errSince : Bool
  /-- The angle reported while no clock moves it: frozen at the entry of HOLD (R132), or the last one reported. -/
  frozenAng : Nat
  /-- The angle reported at the end of the preceding tick, to which CYCNUM belongs (R146); none after a move by a phase decision. -/
  aLast : Option Nat
  /-- Teeth received and not yet classified (R134). -/
  inbox : List EdgeInfo
  /-- The encoder's input levels, the time of the last count, the last count interval and the count before it (R136). -/
  encA : Bool
  encB : Bool
  encT : Option Nat
  encInt : Nat
  encOld : Nat
  /-- The coarse tick of an edge whose partner on the other input makes an illegal transition (R137). -/
  encSame : Option Nat
  /-- A command of NWLn_CMD, and a stop, that act in the next tick (R112, R123), and a SEEK that ends in the next tick (R137). -/
  cmd : Nat
  stop : Bool
  seekGo : Bool
  /-- The stamp of the last request among these. -/
  actAt : Nat
  /-- A tooth broadcast has been taken (R138). -/
  peerSeen : Bool
  /-- CYCNUM (R146). -/
  cycnum : Nat
  /-- The instances that the present entries of slots stand for, sparse by slot (R146). -/
  insts : Store Nat
  /-- The late pass (R147): the angle reported before the classification, the period just closed and its angle. -/
  aPrev : Nat
  passD : Nat
  passA : Nat
  /-- Slots whose late-pass offer, conversion, re-offer, cancel offer or re-evaluation is still to come (R148, R153, R155, R156). -/
  lateQ : List SlotOffer
  convQ : List (Fin 512)
  reofferQ : List SlotOffer
  cancelQ : List SlotOffer
  reevalQ : List (Fin 512)
  /-- The conversion computed in one tick and offered in the next, and the tick after which it may be offered (R148). -/
  conv : Option SlotOffer
  convAt : Nat
  /-- The stamp of the last offer, and of the classification whose pass runs. -/
  offerAt : Nat
  passAt : Nat
  /-- The hold angle has been reached in the present interval (R150). -/
  heldDone : Bool
  /-- A cancel has come since SYNC was entered: no slot converts until it is entered again (R155). -/
  barred : Bool
  /-- A pass is open whose conversions are not yet lined up: no slot is frozen (R149). -/
  waitConv : Bool
deriving DecidableEq, Repr

/-- A Newel after reset: EN = 0, SEEK, no history. -/
def Nwl.reset : Nwl :=
  { on := false, mode := 0, cyc360 := false, state := .seek, fast := false, phok := false, rev := false, idx := 0,
    dir := false, errcnt := 0, lastcls := .normal, acls := .normal, tlast := 0, toothang := 0, anext := 0, ppred := 1, pred := false,
    load := none, tooth := none, seq := 0, dprev := 1, aprev := 1, ratio := 65536, rclamped := false, hist := [], holdAng := 4096, stallK := 16, stallMax := 160000000,
    overspeed := false, sinceGap := none,
    candLeft := 0, fastTeeth := 0, votes := 0, voteRev := false, fastFor := 0, fastAgainst := 0, errSince := false, frozenAng := 0,
    aLast := none, inbox := [], encA := false, encB := false, encT := none, encInt := 0, encOld := 0, encSame := none, cmd := 0,
    stop := false, seekGo := false, actAt := 0, peerSeen := false, cycnum := 0, insts := [], aPrev := 0, passD := 1, passA := 1, lateQ := [],
    convQ := [], reofferQ := [], cancelQ := [], reevalQ := [], conv := none, convAt := 0, offerAt := 0, passAt := 0,
    heldDone := false, barred := false, waitConv := false }

/-! ## The Landing buffer (chapter 11) -/

/-- A group held in the Landing buffer: when it entered, and how many of its entries have been taken into blocks and how many
of those are published (R299, R303). -/
structure Held where
  g : RecGroup
  tick : Nat
  taken : Nat
  freed : Nat
  /-- The entries that had entered before this group (R382). -/
  no : Nat
deriving DecidableEq, Repr

/-- The tally of a source's discarded groups (R300). -/
structure Tally where
  src : Nat
  first : Nat
  last : Nat
  count : Nat
  cause : Nat
  ring : Fin 64
deriving DecidableEq, Repr

/-- The Landing buffer: the pool in order of entry, the groups that wait to enter, the open tallies, and
the entries that entered in the tick `tick`. -/
structure Landing where
  pool : List Held
  entq : List RecGroup
  reserve : List RecGroup
  tallies : List Tally
  tick : Nat
  entered : Nat
  /-- The 4 096 entries that entered last, newest first (R382). -/
  recent : List (BitVec 64)
  /-- The entries that have entered since reset. -/
  total : Nat
deriving DecidableEq, Repr

def Landing.reset : Landing :=
  { pool := [], entq := [], reserve := [], tallies := [], tick := 0, entered := 0, recent := [], total := 0 }

/-! ## The Banister (chapter 13) -/

/-- A raise of a fault source (R329): its cycle and TB, source, DETAIL, whether it is injected and with which reactions allowed, and
whether it is transient (R335). -/
structure Raise where
  tick : Nat
  tb : Nat
  src : Fin 256
  detail : Word
  injected : Bool
  rmask : Nat
  transient : Bool
deriving DecidableEq, Repr

/-- What the Banister keeps of the record of one source beside FSRCk_STAT: the sequence number and effective class, TB of the raise,
DETAIL, the reactions applied with their safe set (R331, R341, R342), and the stamps of the last merge and of the last clear
(R334). -/
structure FltRec where
  seq : Nat
  cls : Nat
  tb : Nat
  detail : Word
  react : Nat
  set : Nat
  last : Nat
  cleared : Nat
  /-- A real fault is part of the record; REAL shows where one coincides with an injected one (R294, R341). -/
  real : Bool
deriving DecidableEq, Repr

/-- A source without a record. -/
def FltRec.none : FltRec := { seq := 0, cls := 0, tb := 0, detail := 0, react := 0, set := 0, last := 0, cleared := 0, real := false }

/-- A record on its way to the persistent log: its six words, and whether a fault reset follows the write (R339, R343). -/
structure PlogWait where
  words : List Word
  thenReset : Bool
deriving DecidableEq, Repr

/-- The Banister beside its registers. -/
structure Flt where
  /-- Raises of sources that are not pending, until their record appears. -/
  raised : List Raise
  /-- The next sequence number (R331). -/
  seq : Nat
  /-- The records of the sources, sparse by source. -/
  recs : Store FltRec
  /-- Persistent log entries waiting to be written, at most 16 (R343). -/
  plogQ : List PlogWait
  /-- The source of the first-fault record (R333). -/
  firstSrc : Nat
  /-- The ERR_N pin is driven low (R338). -/
  errnPin : Bool
  /-- ERR_N is held low by a boot-sequence reset until the configuration image is loaded (R338). -/
  errnBoot : Bool
deriving DecidableEq, Repr

def Flt.reset : Flt :=
  { raised := [], seq := 0, recs := [], plogQ := [], firstSrc := 0, errnPin := true, errnBoot := true }

/-! ## The timebase (chapter 02) -/

structure Tb where
  /-- TB (R35). -/
  tb : Time
  /-- TB and FOFS in the preceding tick. -/
  prev : Time
  prevFofs : Nat
  /-- The Lobby's fraction accumulator (16 bits). -/
  frac : Nat
  /-- The tick of the present or next LCLK edge, and the fraction of a tick in 1/65 536 by which the edge follows it (R31, R33). -/
  lclkAt : Nat
  lclkFrac : Nat
  /-- The PLL has unlocked, and TB changes to LCLK counting at the next LCLK edge (R34). -/
  dropping : Bool
  /-- The ticks that the device has counted: those of TBCLK, and the steps of LCLK counting (R85). -/
  counted : Nat
  /-- The count of a slew adjustment (R45). -/
  slewCnt : Nat
  /-- A step, and a FOFS clear, that act in the next tick (R44, R46). -/
  stepNext : Bool
  fofsNext : Bool
  /-- The return to TBCLK counting under way after PLL lock (R41): 3 before its last LCLK edge, then the ticks that remain. -/
  returnIn : Option Nat
  /-- SYNC_IN as its sampler saw it last, and the change that its glitch filter holds: its level, its effective time in fine units, and
  the moment of the edge in fine units of the model's ticks (R47). -/
  syncPin : Bool
  syncFilt : Option (Bool × Nat × Nat)
  /-- The moment of the last timestamped SYNC_IN edge in fine units of the model's ticks, and whether the host has not read it (R47, R48). -/
  syncPrev : Option Nat
  syncUnread : Bool
  /-- The SYNC_OUT train: running, the base of its pulse times, the number of the next pulse from there, the PERIOD in use, the
  TB at which the present pulse ends, and the stamp of the last active edge (R49 to R51). -/
  soRun : Bool
  soStart : Nat
  soK : Nat
  soPeriod : Nat
  soEnd : Option Nat
  soEdge : Nat
  /-- The tick in which a single pulse falls whose START was past (R50). -/
  soSoon : Option Nat
deriving DecidableEq, Repr

def Tb.reset : Tb :=
  { tb := 0, prev := 0, prevFofs := 0, frac := 0, lclkAt := 381, lclkFrac := 30784, dropping := false, counted := 0, slewCnt := 0, stepNext := false, fofsNext := false, returnIn := none,
    syncPin := false, syncFilt := none, syncPrev := none, syncUnread := false, soRun := false, soStart := 0, soK := 0, soPeriod := 0, soEnd := none, soEdge := 0, soSoon := none }

/-- What the device sends to the host over the link, in order (R279): memory writes, messages and read requests. -/
inductive HostMsg where
  /-- A memory write of the bytes at an address, with or without Relaxed Ordering. -/
  | write (addr : Nat) (bytes : List Byte) (ro : Bool)
  /-- An MSI-X message of a vector, or the one MSI (R284). -/
  | msi (vec : Nat)
  /-- A memory read request of a ring's descriptors or of a context's data. -/
  | read (addr len : Nat)
deriving DecidableEq, Repr

/-- A frame that the device puts on the peer ring (R415), with its originating device and hop count. -/
inductive PeerFrame where
  | enum (h : FrameHead)
  | time (h : FrameHead) (t : Time) (fine : BitVec 5)
  | tooth0 (h : FrameHead) (t : Tooth0)
  | tooth1 (h : FrameHead) (t : Tooth1)
  | snap (h : FrameHead) (round : Nat) (at' : Word)
  | commit (h : FrameHead) (round : Nat) (t : Fin 8) (at' : Word)
  | status (h : FrameHead) (round : Nat) (acted : BitVec 4)
  | linkdn (h : FrameHead)
deriving DecidableEq, Repr

/-- Happenings inside the device that fall in a later tick and have no row of their own in the table. -/
inductive Later where
  /-- A channel event raised in a later tick: AQEMPTY (R77), CLOSE (R70). -/
  | chEvt (n : Fin 96) (bit : Nat)
  /-- An edge-counted advance of a channel counter in tick 1 + FILT (R57). -/
  | chCount (n : Fin 96)
  /-- A timestamped edge enters the capture FIFO behind the pops of its tick (R72). -/
  | fifoPush (n : Fin 96) (e : FifoEntry)
  /-- The level sources of the Lobby arrive at the Banister (R21, R329). -/
  | lobbyLevels
  /-- The glitch filter of SYNC_IN passes the change that it holds (R47). -/
  | syncFilter
  /-- SYNC_OUT returns to its inactive level in the tick after EN was cleared (R51). -/
  | soOff
  /-- A group's trip filter accepts a level (R105). -/
  | tripAccept (m : Fin 16) (on : Bool)
  /-- A group's trip input is looked at anew after a write of PGm_TRIP (R105). -/
  | tripInput (m : Fin 16)
  /-- A thread with an SRQ shows READY (R171). -/
  | threadReady (e : Fin 8) (k : Fin 32)
  /-- A written MASK of a barrier acts (R184). -/
  | barMask (b : Fin 8)
  /-- The shadows of the wrap registers of a stopped engine become active (R188). -/
  | wrapLoad (e : Fin 8)
  /-- The ERR_N pin follows its level (R338). -/
  | errn
  /-- An EVT entry of a record for a ring: its time and payload (R336, R344). -/
  | faultEvt (r : Fin 64) (time : Word) (payload : List Word)
  /-- The message of an IRQ reaction (R336). -/
  | faultMsg
  /-- A safe set is released (R337). -/
  | safeRelease (j : Fin 8)
  /-- A real raise merged into an injected record applies what was not applied (R341). -/
  | react (k : Fin 256)
  /-- An injected raise (R340). -/
  | injected (k : Fin 256) (rmask : Nat)
  /-- The interrupt of a ring is sent (R279, R283). -/
  | irqSend (r : Fin 64)
  /-- A frame goes out on the peer ring: the device's own in the tick after its serving (R418), another's 64 ns after it arrived
  (R414). -/
  | peerSend (f : PeerFrame)
  /-- The primary numbers a ring that is not up once more (R413, R419). -/
  | enumSend
  /-- A ring that has not come up by now does not come up (R413). -/
  | peerCheck
  /-- The core is held in reset at the end of the entry into DORMANT (R388). -/
  | dormantEnter
  /-- The header of a snapshot is rewritten with RECOVERED = 1 (R384). -/
  | lgsRecovered
deriving DecidableEq, Repr

/-! ## Rings and the Gallery (chapters 10 and 11) -/

/-- An entry that a device-produced ring is to write (R279): its words without the phase bit, and whether it triggers the interrupt at
once (R267). -/
structure Entry where
  ws : List Word
  irq : Bool
deriving DecidableEq, Repr

/-- A descriptor that has started (R270): its words and index, what it has done so far, and how it ended. -/
structure Desc where
  ws : List Word
  idx : Word
  /-- Registers served, or words read so far. -/
  prog : Nat
  /-- The checks of R269 are passed and its data may move. -/
  moving : Bool
  /-- Source bytes requested, the sizes of the outstanding read requests, and bytes staged and not yet written (R306). -/
  asked : Nat
  reads : List Nat
  inb : List Byte
  /-- Bytes written, and the write TLP being assembled: its address and bytes (R305). -/
  dn : Nat
  tlpAt : Nat
  tlp : List Byte
  /-- The status and RESULT so far; whether it has ended and only its completion is left; a commit that waits. -/
  status : Nat
  result : Word
  ended : Bool
  waits : Bool
  /-- DONE has it still to count: no abort has taken DONE to TAIL (R276). -/
  counts : Bool
deriving DecidableEq, Repr

/-- The state of a ring that no register holds. -/
structure Ring where
  /-- Entries held on chip, oldest first (R282), and the one whose writes are issued and not yet published. -/
  q : List Entry
  issued : Option Entry
  /-- A run of discarded EVT entries: how many, and the near times of the first and the last (R281). -/
  lost : Option (Nat × Word × Word)
  /-- Entries published since the last interrupt (R283), and whether the timer runs. -/
  cnt : Nat
  /-- Descriptors fetched and not started, with their indices, and how many a read request has asked for (R265). -/
  fetched : List (Word × List Word)
  asked : Nat
  /-- The tick in which descriptors last arrived at a ring that had none left to start. -/
  arrAt : Nat
  cur : Option Desc
  /-- The capture block whose writes are under way (R303): its 32 entries and the beats moved. -/
  blk : Option (List (BitVec 64) × Nat)
  /-- The oldest held entry has waited for CAPr_FLUSH (R303). -/
  flushDue : Bool
  /-- CAPr_FLUSH as it acts for the present block (R313). -/
  flush : Nat
  /-- The tick in which the last write of the block under way has left the Gallery (R303). -/
  leaveAt : Nat
  /-- A writeback waits until the device may issue requests (R279, R402). -/
  wbDue : Bool
deriving DecidableEq, Repr

def Ring.reset : Ring :=
  { q := [], issued := none, lost := none, cnt := 0, fetched := [], asked := 0, arrAt := 0, cur := none, blk := none, flushDue := false, flush := 100,
    leaveAt := 0, wbDue := false }

/-- What a Gallery context works on (R304). -/
inductive Work where
  | entry | block | desc
deriving DecidableEq, Repr

/-- A Gallery context: its piece of work, and the ring it served last. -/
structure Gc where
  work : Option (Fin 64 × Work)
  last : Nat
deriving DecidableEq, Repr

/-- The datapath (R305): the context that moved the last beat, and when the capture stream's writes are all away, in thirds of a tick
(R303). -/
structure Gallery where
  turn : Fin 16
  wire : Nat
  /-- The stamp of the tick in which a ring's register access was served last (R270). -/
  regAt : Nat
deriving DecidableEq, Repr

/-! ## Transactions and snapshots (chapter 12) -/

/-- A transaction beside its registers: the agent that owns it, a pending commit's boundary as it was served (R317: 0 immediate, 1 TB
time, 2 angle, 3 period end; 4 the tick T of a peer commit, R321) with its unit, time or angle and the stamp of its serving, and the
ring whose TXN_COMMIT waits for it. For an angle commit (R319): the instance of its passage, its latest target in fine units, and the
stamp of the conversion that computed it. -/
structure Txn where
  owner : Agent
  bound : Nat
  unit : Nat
  at' : Nat
  servedAt : Nat
  ring : Option (Fin 64)
  inst : Nat
  tgt : Option Nat
  convAt : Nat
deriving DecidableEq, Repr

def Txn.reset : Txn :=
  { owner := .host, bound := 0, unit := 0, at' := 0, servedAt := 0, ring := none, inst := 0, tgt := none, convAt := 0 }

/-- A staged write: the transaction, the MW0 offset and the value (R316). -/
structure Staged where
  txn : Fin 8
  off : Nat
  v : Word
deriving DecidableEq, Repr

/-- The snapshot area (R324): its banks, which one is the latest, and the banks that read-outs are copying with their rings. -/
structure Snap where
  bankA : List Word
  bankB : List Word
  latestB : Bool
  copying : List (Fin 64 × Bool)
  /-- The strobes to come, by their origin and the tick at whose end they fall, and the origin of those deferred by a read-out (R324). -/
  strobe : List (Nat × Nat)
  waiting : Option Nat
  /-- The rings whose SNAP descriptors wait for their SNAP, and the tick of its strobe (R324). -/
  rings : List (Fin 64 × Nat)
  /-- Cascaded channels latch at the end of this tick, into this bank (R65). -/
  late : Option (Nat × Bool)
  /-- The TB of an armed timed strobe (R323). -/
  timed : Option Nat
deriving DecidableEq, Repr

def Snap.reset : Snap :=
  { bankA := [], bankB := [], latestB := false, copying := [], strobe := [], waiting := none, rings := [], late := none,
    timed := none }

/-! ## The peer link (chapter 16) -/

/-- What the device does at T of a peer round (R418): the TB of T, the round's initiator and number, and the transaction of a commit
or none for a SNAP. -/
structure PeerDuty where
  at' : Nat
  dev : Fin 4
  round : Nat
  txn : Option (Fin 8)
deriving DecidableEq, Repr

/-- The peer link beside its registers: the inbound link's comma lock, the frames sent, oldest first, the last TOOTH0 held for each
source until its TOOTH1, the loop delay in fine units with the effective time of the TIME frame that measures it, whether the joining
comparison is still to come, the filtered difference in fine units, the next round number, the rounds that this device has opened,
what is to be done at T, and the rounds in which it has acted. -/
structure Peer where
  lock : Bool
  tx : List PeerFrame
  held : List (Fin 4 × Fin 4 × Tooth0)
  loop : Nat
  sentAt : Option Nat
  joining : Bool
  filt : Int
  round : Nat
  opened : List (Nat × Option (Fin 8))
  duties : List PeerDuty
  acted : List (Fin 4 × Nat)
deriving DecidableEq, Repr

def Peer.reset : Peer :=
  { lock := false, tx := [], held := [], loop := 0, sentAt := none, joining := false, filt := 0, round := 0, opened := [],
    duties := [], acted := [] }

/-! ## The host port (chapter 16) -/

/-- The configuration state of the PCI Express function that the device acts on (R402, R403). -/
structure Pcie where
  bme : Bool
  d3 : Bool
  pmeEn : Bool
  msi : Bool
  msix : Bool
  fmask : Bool
  /-- The Pending Bit Array. -/
  pba : Nat
  /-- Messages deferred by D3hot, L2 or a clear Bus Master Enable. -/
  deferred : List Nat
  /-- WAKE_N pulled low; the link in L1; PERST_N low. -/
  wake : Bool
  l1 : Bool
  perst : Bool
  /-- Device Control: Relaxed Ordering is enabled (R309). -/
  ro : Bool
  /-- The deepest L1 substate that the host enables: 0 none, 1 L1.1, 2 L1.2. -/
  l1ss : Nat
  /-- The link trains or is up, so that LINK_UP can come (R394). -/
  training : Bool
deriving DecidableEq, Repr

def Pcie.reset : Pcie :=
  { bme := false, d3 := false, pmeEn := false, msi := false, msix := false, fmask := false, pba := 0, deferred := [], wake := false,
    l1 := false, perst := true, ro := true, l1ss := 0, training := false }

/-! ## Flight engines (chapters 07 and 08) -/

/-- What a thread waits for in the WAITING state (R176): a lane condition or a barrier, with the destination of the result. -/
inductive Wait where
  | lane (k : Fin 16) (cond : Fin 4) (rd : Fin 16)
  | bar (b : Fin 8) (rd : Fin 16)
deriving DecidableEq, Repr

/-- A repetition in progress: a REP with the executions that remain and its own parcel (R231), or a REPI, whose count is rc (R232). -/
inductive Rep where
  | rep (left : Nat) (at' : BitVec 16)
  | repi
deriving DecidableEq, Repr

/-- What a routine sees of its instruction (R244): fields A, B and rt, the immediate as encoded with its width, the accumulator bit, and
the length in parcels. -/
structure Fields where
  ra : Fin 16
  rb : Fin 16
  rt : Fin 16
  imm : Nat
  wid : Nat
  a : Bool
  len : Nat
deriving DecidableEq, Repr

/-- A patched routine under way (R248): the address of its next microword, the microwords run before the commit microword, whether that has
run and the microwords after it, the operands that DUALLD has fetched, the deferred load, the PC written, whether a repetition begins, which
context has been written (1 DONE, 2 YIELD) or that a barrier arrival was recorded (3), and, while it waits, the selector of the result and whether the waiting microword is the
last. -/
structure Run where
  f : Fields
  at' : Nat
  pre : Nat
  committed : Bool
  post : Nat
  dual : Word × Word
  load : Option (Fin 16 × Word)
  pc : Option (BitVec 16)
  rep : Bool
  ctx : Nat
  sel : Nat
  last : Bool
deriving DecidableEq, Repr

/-- What the tail microword of a ROM routine still does (R224): the release of the bank by DONE or YIELD, the result of BAR, or the
redirection of a call. -/
inductive RomTail where
  | done
  | yield
  | result (rd : Fin 16) (v : Word)
  | redirect
deriving DecidableEq, Repr

/-- A priority bank (R202) with its own registers of R199, the thread that holds it, what that thread waits for, the value of a load
still to be written (R209), a repetition in progress, and what the sequencer holds for it (R242). -/
structure Bank where
  g : Vector Word 16
  pc : BitVec 16
  sp : BitVec 16
  splim : BitVec 16
  acc0 : BitVec 64
  acc1 : BitVec 64
  rc : BitVec 16
  st : Word
  acyc : BitVec 22
  cause : Word
  causeid : Word
  slotwin : BitVec 2
  thread : Option (Fin 32)
  wait : Option Wait
  /-- The tick in which the wait began (R192). -/
  waitAt : Nat
  load : Option (Fin 16 × Word)
  rep : Option Rep
  /-- The micro-temporaries T0 to T3, and the divide unit: its operands, whether they are signed, and the steps done (R242). -/
  t : Vector Word 4
  dividend : Word
  divisor : Word
  signed : Bool
  steps : Nat
  /-- The patched routine under way, and the tail of a ROM routine still to run (R224, R248). -/
  run : Option Run
  tail : Option RomTail
deriving DecidableEq, Repr

/-- A bank after reset (R204). -/
def Bank.reset : Bank :=
  { g := Vector.replicate 16 0, pc := 0, sp := 0, splim := 0, acc0 := 0, acc1 := 0, rc := 0, st := 0, acyc := 2949120, cause := 0,
    causeid := 0, slotwin := 0, thread := none, wait := none, waitAt := 0, load := none, rep := none, t := Vector.replicate 4 0, dividend := 0, divisor := 0,
    signed := false, steps := 0, run := none, tail := none }

/-- An engine beside its registers. Ticks are the model's own. -/
structure Eng where
  banks : Vector Bank 4
  /-- The first cause of each thread since its last dispatch, as CAUSEID holds it, and the stamp of its arrival (R172). -/
  first : Vector (Word × Nat) 32
  /-- The level selected (R173), and, until it executes, the tick in which it is dispatched or resumed. -/
  level : Option (Fin 4)
  disp : Option Nat
  /-- The tick in which the next instruction or microword may start, that of the commit microword of the ROM routine begun, the tick of the
  first instruction of the level selected (R174), and the cycles that a pre-emption has waited for a tail (R175). -/
  next : Nat
  commit : Option Nat
  startAt : Nat
  waited : Nat
  /-- A START that acts in the next tick (R178), and the stamp of the STOP under way. -/
  startNext : Bool
  stopAt : Nat
  /-- One instruction is to execute before the engine halts again (R423). -/
  stepOne : Bool
  /-- The stop under way is a debugger halt; the engine ran when it was halted, or was started since; the breakpoint at the next
  instruction does not act, because the engine has halted there (R423). -/
  haltReq : Bool
  wasRun : Bool
  bpSkip : Bool
  /-- Executing cycles in the Vestibule's window, and in the telemetry period (R353, R364). -/
  win : Nat
  tel : Nat
deriving DecidableEq, Repr

def Eng.reset : Eng :=
  { banks := Vector.replicate 4 Bank.reset, first := Vector.replicate 32 (0, 0), level := none, disp := none, next := 0,
    commit := none, startAt := 0, waited := 0, startNext := false, stopAt := 0, stepOne := false, haltReq := false, wasRun := false, bpSkip := false,
    win := 0, tel := 0 }

/-- The armed GO (R182): its command word, whether the Vestibule has still to grant it, and the tick fixed for it (none with AT = 1
until then). -/
structure Go where
  v : Word
  waits : Bool
  at' : Option Nat
deriving DecidableEq, Repr

/-! ## Runner lanes (chapter 07) -/

/-- A lane beside its registers: enabled as it acts, the transmit buffer, the shift register (the word to send, or the bits received
so far), the receive buffer, and the half-bit sequence of R190: the index of the next half-bit boundary and its tick. -/
structure Lane where
  on : Bool
  txb : Option Word
  sh : Option Word
  rx : List Word
  half : Nat
  at' : Nat
  /-- CMD.START waits for the next tick (R191). -/
  start : Bool
  /-- Levels the lane drives on its clock, frame and data pins. -/
  clk : Bool
  frm : Bool
  dat : Bool
  /-- The engine has stopped, so that the lane pauses at the next clock return (R193); paused; held by DOZE (R195). -/
  stop : Bool
  paused : Bool
  held : Bool
  /-- Bits done in the present word, and bits driven in it with an external or partner clock. -/
  bits : Nat
  driven : Nat
  /-- The word is complete at the end of the tick; the next boundary only drives a bit (R193, R195). -/
  done : Bool
  drv : Bool
  /-- A bit sampled by the partner's clock is done at the clock's return (R190). -/
  smp : Bool
  /-- The last accepted falling edge, in the ticks that the device has counted (R191, R195). -/
  fall : Option Nat
deriving DecidableEq, Repr

def Lane.reset : Lane :=
  { on := false, txb := none, sh := none, rx := [], half := 0, at' := 0, start := false, clk := false, frm := false, dat := false,
    stop := false, paused := false, held := false, bits := 0, driven := 0, done := false, drv := false,
    smp := false, fall := none }

/-! ## Microcode (chapter 09) -/

/-- A container in steps 1 to 6 of R254: for CHESTWR or for a load, whether it comes from the Chest, and the tick of their end. -/
structure Check where
  btc : List Byte
  chestwr : Bool
  fromChest : Bool
  ends : Nat
deriving DecidableEq, Repr

/-- The patch store: match registers as (ROM address, patch address) pairs, the patch RAM, PFEAT with the container's SVN and release
in MC_VER; the containers being verified and the operations under way. -/
structure Patch where
  match' : List (Nat × Nat)
  words : List Nat
  /-- The containers being verified, by the tick in which that ends: at most one load and one CHESTWR (R256, R257). -/
  checks : List Check
  /-- CHESTWR waits for its grant or writes its rows (R257). -/
  chestwr : Bool
  /-- FEe_CMD.START writes held during a load (R256). -/
  heldStart : List (Fin 8)
  pfeat : Nat
  /-- Fuse steps programmed since manufacture; a fuse operation runs (R257). -/
  fuses : Nat
  fusing : Bool
deriving DecidableEq, Repr

def Patch.reset : Patch :=
  { match' := [], words := [], checks := [], chestwr := false, heldStart := [], pfeat := 0, fuses := 0, fusing := false }

/-! ## The Vestibule, background work and the Chest (chapter 14) -/

/-- What asks the Vestibule for leave (R351). -/
inductive Heavy where
  | go
  | chest
  | recal (f : Fin 8)
  | selfTest (b : Nat)
  | gal (g : Fin 16)
  | dozeExit
deriving DecidableEq, Repr

/-- A queued request: what asks, its units and the stamp of the tick in which it joined the queue (R354). -/
structure VReq where
  kind : Heavy
  units : Nat
  stamp : Nat
deriving DecidableEq, Repr

/-- A grant: its units, and the tick in which it ends, where that is known. -/
structure Grant where
  kind : Heavy
  units : Nat
  ends : Option Nat
deriving DecidableEq, Repr

structure Vest where
  queue : List VReq
  /-- Contexts whose bulk burst runs throttled until it is granted (R356). -/
  gal : List (Fin 16)
  grants : List Grant
  /-- Beats and pin edges in the present window, and whether background work was done in it (R353). -/
  beats : Nat
  edges : Nat
  bg : Bool
  /-- Background work is paused (R359). -/
  paused : Bool
  /-- F was above BUDGET at the last evaluation (R357). -/
  overBudget : Bool
  /-- TB at the last evaluation in DOZE. -/
  lastTb : Nat
  /-- The highest F and F + G of the telemetry period. -/
  telF : Nat
  telFG : Nat
  /-- The highest LAND_OCC of the telemetry period (R364), and the tick in which the period began. -/
  telLand : Nat
  telAt : Nat
deriving DecidableEq, Repr

def Vest.reset : Vest :=
  { queue := [], gal := [], grants := [], beats := 0, edges := 0, bg := false, paused := false, overBudget := false, lastTb := 0, telF := 0, telFG := 0,
    telLand := 0, telAt := 0 }

/-- Background work: the request of BG_REQ with its target and DEFER, the scrubber, and for each Flight the position that its
rotation is at, whether a calibration runs (with its end), and whether BG_REQ asked for it (R358 to R363). -/
structure Calib where
  pos : Nat
  /-- The turn of the present 10 ms has not begun, since background work pauses (R359). -/
  due : Bool
  ends : Option Nat
  /-- The tick after which a swap that has found no quiet tick is skipped (R98). -/
  swapBy : Option Nat
  forced : Bool
deriving DecidableEq, Repr

structure Bg where
  target : Nat
  defer : Bool
  scrubOn : Bool
  scrubAt : Nat
  /-- The 2 s have passed and the pass under way has not ended. -/
  scrubLate : Bool
  cal : Vector Calib 8
deriving DecidableEq, Repr

def Bg.reset : Bg :=
  { target := 0, defer := false, scrubOn := false, scrubAt := 0, scrubLate := false, cal := Vector.replicate 8 ⟨0, false, none, none, false⟩ }

/-- A Chest command under way (R367): a read, or a burst with its rows: the words still to write and their address. -/
inductive ChestOp where
  | read (addr cnt : Nat)
  | write (addr : Nat) (ws : List Word) (patch : Bool)
deriving DecidableEq, Repr

/-- The Chest beside its array: the command under way, whether it has begun, the byte addresses of words that failed to
read in the present command, the writes counted for each physical 64-bit word, the writes of each logical
block since it was placed, the physical block of each logical one, and the blocks that are never used again (R366 to R369). -/
structure ChestCtl where
  op : Option ChestOp
  begun : Bool
  /-- A burst is to end at its present row (R381). -/
  cut : Bool
  /-- Retries of the present row (R335). -/
  tries : Nat
  errs : List Nat
  words : Store Nat
  since : Store Nat
  map : Store Nat
  bad : List Nat
deriving DecidableEq, Repr

def ChestCtl.reset : ChestCtl := { op := none, begun := false, cut := false, tries := 0, errs := [], words := [], since := [], map := [], bad := [] }

/-! ## Power, reset and start-up (chapter 15) -/

/-- Where the boot sequence stands (R394). -/
inductive Boot where
  /-- Held in reset until VDD good. -/
  | held
  | crystal
  | pll
  | sram
  | patch
  | image
  | done
deriving DecidableEq, Repr

/-- A supply in a dip (R378, R379): TB of the qualifying fall, and whether a snapshot was triggered during it. -/
structure Dip where
  tb : Nat
  lgs : Bool
deriving DecidableEq, Repr

structure Power where
  boot : Boot
  /-- The tick of VDD good. -/
  goodAt : Nat
  /-- The core is in DORMANT; VDD has fallen below its reset level since. -/
  dormant : Bool
  vddFell : Bool
  /-- PFAIL_N is low; RESET_N is low; a power-on reset or DORMANT holds the wake-out and WAKE_N pins. -/
  pfail : Bool
  /-- Dips of VDD, VIO_A, VIO_B, VIO_C. -/
  dips : Vector (Option Dip) 4
  /-- The last-gasp snapshot: the content latched at its trigger while it runs, its trigger code, and whether a completed one
  bars further triggers (R381). -/
  lgs : Option (List Word)
  trig : Nat
  barred : Bool
  /-- The dip of the running or last snapshot has recovered (R384), and snapshots taken so far. -/
  recovered : Bool
  taken : Nat
  /-- DOZE has been left, and the restart of the PLL waits for the Vestibule's refusal to end (R355). -/
  exitWaits : Bool
  /-- A wake from DORMANT has been taken (R389). -/
  woken : Bool
  /-- Lobby wake timers that have counted a passage of SKIP and whose target is still satisfied (R390). -/
  wtSkip : List (Fin 8)
  /-- Entries of the configuration image still to apply, and IMGREL (R396). -/
  image : List (Word × Word)
  imgrel : Word
  /-- The level of WAKE_N (low) and of the wake-out pin as the Lobby drives it (R389). -/
  wakeLow : Bool
  woutActive : Bool
deriving DecidableEq, Repr

def Power.reset : Power :=
  { boot := .held, goodAt := 0, dormant := false, vddFell := false, pfail := false, dips := Vector.replicate 4 none, lgs := none,
    trig := 0, barred := false, recovered := false, taken := 0, exitWaits := false, woken := false, wtSkip := [], image := [], imgrel := 0,
    wakeLow := false, woutActive := false }

/-! ## The supervisor port, JTAG and debug (chapter 16) -/

/-- The instruction that the TAP holds (R420). -/
inductive TapIr where
  | extest | sample | idcode | highz | clamp | debug | bypass
deriving DecidableEq, Repr

/-- The supervisor port and the TAP beside their registers. -/
structure Ports where
  /-- The words that the last supervisor READ, READ STATUS or READ ID sent (R406, R407). -/
  supData : List Word
  /-- The tick in which the heartbeat timer expires, while it runs, and whether a kick has been accepted since EN went to 1 (R411). -/
  hbAt : Option Nat
  hbKicked : Bool
  /-- The instruction of the TAP, and the boundary-scan register: the levels last captured, and those that EXTEST and CLAMP drive (R421). -/
  ir : TapIr
  bscan : BitVec 116
  bdrive : BitVec 116
  /-- DEBUG has been selected since the last boot-sequence reset; OK of its register (R422). -/
  dbgSeen : Bool
  dbgOk : Bool
  /-- The length of `out` when the link entered L1 (R403). -/
  l1Out : Nat
  /-- SINT_N is driven low: its level follows its cause in the tick after (R336, R410). -/
  sint : Bool
deriving DecidableEq, Repr

def Ports.reset : Ports :=
  { supData := [], hbAt := none, hbKicked := false, ir := .idcode, bscan := 0, bdrive := 0, dbgSeen := false,
    dbgOk := false, l1Out := 0, sint := false }

/-! ## The whole machine -/

/-- A command that the spec dates some ticks after its cause. -/
structure Due where
  tick : Nat
  cmd : Instr
deriving DecidableEq, Repr

/-- What the device has recorded in the W1C and RC fields of a register in the present tick, and the word that the register held before
the first of it (R10). -/
structure Mark where
  off : Nat
  new : Word
  old : Word
deriving DecidableEq, Repr

/-- The state of the device. Registers live in `regs` (MW0 offset to word, R8), the values latched or staged per agent in
`lat`, the RAM windows in `mem` and the Chest array in `chest`; everything no register holds stands in its own field. -/
structure State where
  /-- The commands that wait, first in, first out. -/
  pending : List Instr
  /-- Commands that fall due in later ticks, in order of their ticks. -/
  agenda : List Due
  /-- Happenings without a row of their own that fall in later ticks. -/
  later : List (Nat × Later)
  /-- TBCLK periods since reset, the model's own count (R38). -/
  ticks : Nat
  /-- How far the present tick has been worked through when the queue is empty. -/
  phase : Nat
  /-- Ticks of an LCLK step still to be applied to the counters (R85). -/
  sub : Nat
  /-- The model's own count of free values used. -/
  free : Nat
  regs : Store Word
  /-- The events recorded in W1C and RC fields in the present tick (R10). -/
  marks : List Mark
  /-- What registers of channels, groups and Newels held before a write whose effect is still to come, with the tick of the write: it acts in the
  next tick (R61, R84), at a Newel behind the inputs of that tick (R135). -/
  old : List (Nat × Nat × Word)
  lat : Store Word
  mem : List Host.Cell
  chest : List Host.Cell
  tb : Tb
  ch : Vector Chan 96
  pg : Vector Pg 16
  nwl : Vector Nwl 4
  land : Landing
  flt : Flt
  /-- What has been sent to the host, oldest first. -/
  out : List HostMsg
  /-- The word that the last read returned, for each kind of agent that reads: host, supervisor, debug. -/
  rdHost : Word
  rdSup : Word
  rdDebug : Word
  ring : Vector Ring 64
  gc : Vector Gc 16
  gal : Gallery
  txn : Vector Txn 8
  /-- The staged writes of the open and pending transactions (R316). -/
  staged : List Staged
  snap : Snap
  pcie : Pcie
  peer : Peer
  eng : Vector Eng 8
  go : Option Go
  /-- The agents that parameter RAM has served in the present tick, with that tick, and the engine that it served last (R167). -/
  pram : List (Fin 11) × Nat
  pramLast : Fin 8
  lane : Vector Lane 16
  patch : Patch
  vest : Vest
  bg : Bg
  chestCtl : ChestCtl
  power : Power
  ports : Ports
deriving DecidableEq, Repr

/-- The reasons for which the machine stops: none. The spec gives every command an effect in every state. -/
inductive Fault where
deriving DecidableEq, Repr

/-- The reasons a command is refused. -/
inductive Refusal where
  /-- The command has no meaning in the model yet. Raised by exec alone. Safe: nothing is claimed of the command. -/
  | notModelled (mnemonic : String)
deriving DecidableEq, Repr

/-- The device right after power-on reset (R14): TB 0, every register at its Reset value, every queue empty, the core held in
reset until the boot sequence runs (R394). -/
def State.reset : State :=
  { pending := [], agenda := [], later := [], ticks := 0, phase := 0, sub := 0, free := 0, regs := [], marks := [], old := [], lat := [], mem := [],
    chest := [], tb := Tb.reset, ch := Vector.replicate 96 Chan.reset, pg := Vector.replicate 16 Pg.reset,
    nwl := Vector.replicate 4 Nwl.reset, land := Landing.reset, flt := Flt.reset, out := [], rdHost := 0, rdSup := 0,
    rdDebug := 0,
    ring := Vector.replicate 64 Ring.reset, gc := Vector.replicate 16 ⟨none, 0⟩, gal := ⟨0, 0, 0⟩, txn := Vector.replicate 8 Txn.reset,
    staged := [], snap := Snap.reset, pcie := Pcie.reset, peer := Peer.reset,
    eng := Vector.replicate 8 Eng.reset, go := none, pram := ([], 0), pramLast := 7, lane := Vector.replicate 16 Lane.reset,
    patch := Patch.reset, vest := Vest.reset, bg := Bg.reset, chestCtl := ChestCtl.reset, power := Power.reset,
    ports := Ports.reset }

end Sys2Proof.Machine
end

