-- ==== Sys2Proof/Machine/Ops.lean ====
section
/-! DEFINITION. The operations that every meaning shares: reading and writing a register's stored word, the per-agent latches,
RAM bytes, happenings that fall in later ticks, raising a fault source, sending an SRQ and offering a record group. -/

namespace Sys2Proof.Machine

/-! ## Registers, latches and memory -/

/-- The word a register holds that the store does not list: its reset value (R14), with the fused trim (R56). -/
def regDefault (o : Nat) : Word :=
  if o = R.LCLK_TRIM then Config.lclkTrim.setWidth 32
  else if o = R.MC_KEYS then Config.mcKeys.setWidth 32
  else w32 (regReset o)

/-- The word stored for the register at MW0 offset `o`, without any effect of reading it. -/
def State.rd (s : State) (o : Nat) : Word := Store.get regDefault s.regs o

/-- The state with the word `v` stored for the register at `o`. -/
def State.wr (s : State) (o : Nat) (v : Word) : State := { s with regs := Store.set regDefault s.regs o v }

/-- The state with the stored word of the register at `o` passed through `f`. -/
def State.upd (s : State) (o : Nat) (f : Word → Word) : State := s.wr o (f (s.rd o))

/-- The field of `len` bits from bit `lo` on of the register at `o`. -/
def State.fl (s : State) (o lo len : Nat) : Nat := fld (s.rd o) lo len

/-- Bit `i` of the register at `o`. -/
def State.bt (s : State) (o i : Nat) : Bool := bit (s.rd o) i

/-- The state with a field of the register at `o` set. -/
def State.setFl (s : State) (o lo len v : Nat) : State := s.upd o (fun w => setFld w lo len v)

/-- The state with bit `i` of the register at `o` set to `b`. -/
def State.setBt (s : State) (o i : Nat) (b : Bool) : State := s.upd o (fun w => setBit w i b)

/-- The device records an event in a W1C or RC field of the register at `o` (R10): its word passes through `f`, and so does the word of
what the present tick has brought, which a clear of this tick does not remove. -/
def State.note (s : State) (o : Nat) (f : Word → Word) : State :=
  let m := (s.marks.find? (fun m => m.off == o)).getD ⟨o, 0, s.rd o⟩
  { s.upd o f with marks := { m with new := f m.new } :: s.marks.filter (fun m => m.off != o) }

/-- A write reaches the register at `o` in this tick: what it held before stays known until the tick ends (R61, R84). -/
def State.journal (s : State) (o : Nat) : State :=
  { s with old := if s.old.any (fun x => x.2.1 == o) then s.old else (s.ticks, o, s.rd o) :: s.old }

/-- The word that the register at `o` held before the writes whose effect is still to come (R61, R84, R135). -/
def State.was (s : State) (o : Nat) : Word := ((s.old.find? (fun x => x.2.1 == o)).map (·.2.2)).getD (s.rd o)

/-- A field and a bit of a register before the writes whose effect is still to come. -/
def State.wasFl (s : State) (o lo len : Nat) : Nat := fld (s.was o) lo len
def State.wasBt (s : State) (o i : Nat) : Bool := bit (s.was o) i

/-- What the present tick has brought in the W1C and RC fields of the register at `o`. -/
def State.noted (s : State) (o : Nat) : Word := ((s.marks.find? (fun m => m.off == o)).map (·.new)).getD 0

/-- The device sets W1C bit `i` of the register at `o`. -/
def State.setEv (s : State) (o i : Nat) : State := s.note o (fun w => setBit w i true)

/-- A count field of `len` bits is raised by 1, saturating. -/
def State.satFl (s : State) (o lo len : Nat) : State := s.note o (fun w => setFld w lo len (satInc (2 ^ len - 1) (fld w lo len)))

/-- The number of an agent among those that hold latches of their own (R40, R48, R64, R71 to R74). -/
def agentIdx : Agent → Nat
  | .host => 0
  | .sup => 1
  | .bank e b => 2 + 4 * e.val + b.val
  | .newel n => 34 + n.val
  | .debug => 38

/-- The key of an agent's latch of the register at `o`. -/
def latKey (a : Agent) (o : Nat) : Nat := agentIdx a * 0x100000 + o

/-- What an agent's latch of a register holds; after power-on its reset value (R40). -/
def State.lat? (s : State) (a : Agent) (o : Nat) : Word :=
  Store.get (fun k => regDefault (k % 0x100000)) s.lat (latKey a o)

/-- The state with an agent's latch of a register set. -/
def State.setLat (s : State) (a : Agent) (o : Nat) (v : Word) : State :=
  { s with lat := Store.set (fun k => regDefault (k % 0x100000)) s.lat (latKey a o) v }

/-- What a byte of memory that nothing has written reads as: the boot sequence writes every SRAM to zero (R394). The MSI-X table,
which the model keeps beyond MW0 at 0x200000, starts with every vector masked. -/
def memDefault (o : Nat) : Byte := if 0x200000 ≤ o && o < 0x200400 && o % 16 == 12 then 1 else 0

/-- The canonical form of a memory (the RAM windows, the Chest): rising addresses and no listed byte that an unlisted address
would read as. -/
def Memory.wf (m : List Host.Cell) : Bool := Store.wf memDefault m

/-- The byte of the RAM windows at MW0 offset `o`. -/
def State.byte (s : State) (o : Nat) : Byte := Store.get memDefault s.mem o

/-- Whether a byte belongs to bits [31:16] of word 0 of a thread's context entry, which read 0 (R170). -/
def ctxZero (o : Nat) : Bool := 0xA0000 ≤ o && o < 0xE0000 && 0x7F00 ≤ o % 0x8000 && (o % 8 == 2 || o % 8 == 3)

/-- The state with the byte at MW0 offset `o` written. -/
def State.setByte (s : State) (o : Nat) (b : Byte) : State :=
  { s with mem := if ctxZero o then s.mem else Store.set memDefault s.mem o b }

/-- The little-endian word of the RAM windows at MW0 offset `o`. -/
def State.memWord (s : State) (o : Nat) : Word := wordOfBytes (s.byte o) (s.byte (o + 1)) (s.byte (o + 2)) (s.byte (o + 3))

/-- The state with the bytes of `v` chosen by the first four bits of `be` written at the word of MW0 offset `o`. -/
def State.setMem (s : State) (o : Nat) (be : Nat) (v : Word) : State :=
  let put (s : State) (i : Nat) : State := if be.testBit i then s.setByte (o + i) (byteOf v i) else s
  put (put (put (put s 0) 1) 2) 3

/-- The agents that parameter RAM has served in the present cycle: 0 the host port, 1 the supervisor port, 2 the Gallery, and from 3 on the
engines (R167). -/
def State.pramServed (s : State) : List (Fin 11) := if s.pram.2 = s.ticks then s.pram.1 else []

/-- Parameter RAM serves an agent. -/
def State.servePram (s : State) (a : Fin 11) : State := { s with pram := (s.pramServed.filter (· != a) ++ [a], s.ticks) }

/-- The byte of the Chest array at a logical byte address (R366). -/
def State.chestByte (s : State) (o : Nat) : Byte := Store.get memDefault s.chest o

/-- The state with a byte of the Chest array written. -/
def State.setChestByte (s : State) (o : Nat) (b : Byte) : State := { s with chest := Store.set memDefault s.chest o b }

/-- The little-endian 32-bit word of the Chest array at a logical byte address. -/
def State.chestWord (s : State) (o : Nat) : Word :=
  wordOfBytes (s.chestByte o) (s.chestByte (o + 1)) (s.chestByte (o + 2)) (s.chestByte (o + 3))

/-- The state with a 32-bit word of the Chest array written. -/
def State.setChestWord (s : State) (o : Nat) (v : Word) : State :=
  (((s.setChestByte o (byteOf v 0)).setChestByte (o + 1) (byteOf v 1)).setChestByte (o + 2) (byteOf v 2)).setChestByte (o + 3)
    (byteOf v 3)

/-- The word that an agent's read returned, where its port keeps it (an engine takes it into a register). -/
def State.keep (s : State) (a : Agent) (v : Word) : State :=
  match a with
  | .host => { s with rdHost := v }
  | .sup => { s with rdSup := v }
  | .debug => { s with rdDebug := v }
  | _ => s

/-! ## Time -/

/-- Near time (R4). -/
def State.near (s : State) : Word := s.tb.tb.setWidth 32

/-- FOFS (R39). -/
def State.fofs (s : State) : Nat := s.fl R.TB_FOFS 0 5

/-- The effective time of the start of the present tick, in fine units (R39). -/
def State.eff (s : State) : Nat := s.tb.tb.toNat * 32 + s.fofs

/-- Whether TB counts TBCLK (R36). -/
def State.tbclk (s : State) : Bool := s.fl R.CLK_STAT 4 2 == 0

/-- The fine value of what falls at fine 0 of a tick: FOFS in effective time, and 0 under LCLK counting (R39, R85). -/
def State.fine0 (s : State) : Nat := if s.tbclk then s.fofs else 0

/-- The LCLK period in 1/65 536 tick: 32 times the crystal's frequency while X32 disciplines LCLK (R32), else the last measurement, TB_LSTEP
(R31). DESIGN CHOICE (assumption 20): the last measurement is exact. -/
def State.lclkStep (s : State) : Nat := if s.bt R.CLK_STAT 2 then 25000000 else max 65536 (s.rd R.TB_LSTEP).toNat

/-- Whether an LCLK edge falls in the present tick. -/
def State.lclkEdge (s : State) : Bool := s.tb.lclkAt == s.ticks

/-- The tick of the `k`-th LCLK edge after the present tick, for `k` from 1 on. -/
def State.edgeTick (s : State) (k : Nat) : Nat :=
  s.tb.lclkAt + (s.tb.lclkFrac + (if s.tb.lclkAt ≤ s.ticks then k else k - 1) * s.lclkStep) / 65536

/-- How many LCLK edges fall after the present tick and up to tick `t`. -/
def State.edgesTo (s : State) (t : Nat) : Nat :=
  if t < s.edgeTick 1 then 0
  else
    let j := ((t - s.tb.lclkAt + 1) * 65536 - 1 - s.tb.lclkFrac) / s.lclkStep
    if s.tb.lclkAt ≤ s.ticks then j else j + 1

/-- The ticks until the `k`-th clock edge of the core from now: its clocks are TBCLK, ECLK and FCLK, and LCLK while LCLK counts (R21, R34,
R85, R385). -/
def State.samples (s : State) (k : Nat) : Nat := if s.tbclk || k == 0 then k else s.edgeTick k - s.ticks

/-- An edge sampled in the present tick at `fine` (R39, R69): its effective time and its moment in fine units of the model's ticks. With a
fine value above 0 it lies in the tick before. Under LCLK counting it carries the TB of the LCLK edge that samples it, with fine 0. -/
def edgeTimes (s : State) (fine : BitVec 5) : Nat × Nat :=
  if !s.tbclk then (s.tb.tb.toNat * 32, s.ticks * 32)
  else if fine == 0 then (s.eff, s.ticks * 32)
  else (s.tb.prev.toNat * 32 + s.tb.prevFofs + fine.toNat, (s.ticks - 1) * 32 + fine.toNat)

/-- Whether a sample waits for the next LCLK edge (R85). -/
def sampleWaits (s : State) : Bool := !s.tbclk && !s.lclkEdge

/-- The stamp of the present tick. -/
def State.now (s : State) : Nat := s.ticks + 1

/-- A fresh free value, and the state in which it is used. -/
def State.fresh (s : State) : Word × State := (Config.freeWord s.free, { s with free := s.free + 1 })

/-! ## Happenings in later ticks -/

/-- The place of a record group among those offered in one tick (R296): anchors, losses, then ascending SRC with event-fired
groups, input edges, output changes, tooth groups, fault groups and markers in this order. -/
def recOrder (g : RecGroup) : Nat :=
  match g.typ with
  | 3 => 0
  | 2 => 1 + g.src
  | 4 => 200 + g.src * 8
  | 0 => 200 + g.src * 8 + (if g.ext.isEmpty then 1 else 2)
  | 1 => 200 + g.src * 8 + 3
  | 5 => 200 + g.src * 8 + 4
  | _ => 200 + g.src * 8 + 5

/-- The place of a command among those of its tick: landings before other writes (R318), the work of a Newel in the order of R135,
record groups last. -/
def cmdOrder : Instr → Nat
  | .recordCreate => 0
  | .landing t => 1 + t.val
  | .toothClassify _ => 20
  | .phaseInputEdge _ j _ => 21 + j.val
  | .encoderEdge _ _ => 24
  | .zEdge _ _ => 25
  | .predictionLoad _ => 26
  | .cancel _ => 27
  | .latePass _ => 28
  | .glitchFilterExpiry _ | .tripAssert _ | .tripInputInactive _ => 40
  | .recordEntry g => 50 + recOrder g
  | _ => 10

/-- The state in which a command joins the queue. -/
def State.enq (s : State) (c : Instr) : State := { s with pending := s.pending ++ [c] }

/-- The state in which commands join the queue in order. -/
def State.enqAll (s : State) (cs : List Instr) : State := { s with pending := s.pending ++ cs }

/-- A due command put into its place in the agenda: behind every earlier one of the same tick and order. -/
def insertDue (d : Due) : List Due → List Due
  | [] => [d]
  | x :: xs =>
    if x.tick < d.tick || (x.tick == d.tick && cmdOrder x.cmd ≤ cmdOrder d.cmd) then x :: insertDue d xs else d :: x :: xs

/-- The state in which command `c` falls due `d` ticks of real time from now. -/
def State.afterTicks (s : State) (d : Nat) (c : Instr) : State := { s with agenda := insertDue ⟨s.ticks + d, c⟩ s.agenda }

/-- The state in which command `c` falls due `d` clock periods of the core from now. -/
def State.after (s : State) (d : Nat) (c : Instr) : State := s.afterTicks (s.samples d) c

/-- The state without the agenda's commands that satisfy `p`. -/
def State.dropDue (s : State) (p : Instr → Bool) : State := { s with agenda := s.agenda.filter (fun d => !p d.cmd) }

/-- Whether the agenda holds command `c`. -/
def State.hasDue (s : State) (c : Instr) : Bool := s.agenda.any (fun d => d.cmd == c)

/-- The state in which the happening `l` falls `d` ticks of real time from now. -/
def State.laterTicks (s : State) (d : Nat) (l : Later) : State := { s with later := s.later ++ [(s.ticks + d, l)] }

/-- The state in which the happening `l` falls `d` clock periods of the core from now. -/
def State.later' (s : State) (d : Nat) (l : Later) : State := s.laterTicks (s.samples d) l

/-- Whether the agenda dates a command by real time and not by clock periods of the core. -/
def timeDated : Instr → Bool
  | .persistentLogWrite | .configImageApply | .bootPatchLoad | .imageWaitExpiry | .linkTrainingStart | .lifetimeCommit => true
  | .chestRowDone _ | .patchActivate | .fuseStep | .lgsDone | .irqTimerExpiry _ | .timeFrameSend => true
  | .deadTimeExpiry _ | .stretchClose _ => true
  | _ => false

/-- Whether a later happening is dated by real time. -/
def laterTimeDated : Later → Bool
  | .peerSend _ | .enumSend | .peerCheck | .lgsRecovered | .dormantEnter => true
  | _ => false

/-- The core's clock changes (R34, R38, R41, R85): what was dated in periods of the old clock has as many periods of the new one left;
`f` gives the new date of an old one. -/
def State.redate (s : State) (f : Nat → Nat) : State :=
  let eng (x : Eng) : Eng := { x with disp := x.disp.map f, next := f x.next, commit := x.commit.map f, startAt := f x.startAt }
  { s with
    agenda := (s.agenda.map (fun d => if timeDated d.cmd then d else ⟨f d.tick, d.cmd⟩)).foldl (fun q d => insertDue d q) []
    later := s.later.map (fun x => if laterTimeDated x.2 then x else (f x.1, x.2))
    eng := s.eng.map eng }

/-- The core goes on with LCLK: what lay `k` ticks ahead lies `k` LCLK edges ahead. -/
def State.toLclk (s : State) : State := s.redate (fun t => if t ≤ s.ticks then t else s.edgeTick (t - s.ticks))

/-- The core goes on with TBCLK: what lay `k` LCLK edges ahead lies `k` ticks ahead. -/
def State.fromLclk (s : State) : State := s.redate (fun t => if t ≤ s.ticks then t else s.ticks + s.edgesTo t)

/-- An output edge or a timestamped edge counts toward the pin activity of the Vestibule's window (R353). -/
def State.noteEdge (s : State) : State := { s with vest := { s.vest with edges := s.vest.edges + 1 } }

/-! ## Faults (R329 to R331) -/

/-- FLT_PENDi and the bit of source `k`. -/
def State.fltPend (s : State) (k : Nat) : Bool := s.bt (R.FLT_PEND + 4 * (k / 32)) (k % 32)

/-- The state with PEND of source `k` set to `b`. -/
def State.setFltPend (s : State) (k : Nat) (b : Bool) : State := s.setBt (R.FLT_PEND + 4 * (k / 32)) (k % 32) b

/-- The offset of FSRCk_STAT. -/
def fsrcStat (k : Nat) : Nat := R.FSRC_STAT + 4 * k

/-- The offset of FSRCk_CFG. -/
def fsrcCfg (k : Nat) : Nat := R.FSRC_CFG + 4 * k

/-- The record of a source. -/
def State.rec? (s : State) (k : Nat) : FltRec := Store.get (fun _ => FltRec.none) s.flt.recs k

/-- The state with the record of a source passed through `f`. -/
def State.updRec (s : State) (k : Nat) (f : FltRec → FltRec) : State :=
  { s with flt := { s.flt with recs := Store.set (fun _ => FltRec.none) s.flt.recs k (f (s.rec? k)) } }

/-- A raise of a source whose record is in handling merges (R331); a real raise into an injected record brings its DETAIL and the
reactions not yet applied, an injected one into a real record sets INJ (R341); REAL shows that both kinds have come together. The volatile
log entry follows while LOGV = 1, and the first-fault record while it is this record's. -/
def State.mergeRaise (s : State) (r : Raise) : State :=
  let k := r.src.val
  let st := fsrcStat k
  let m := satInc 0xFFFF (s.fl st 0 16)
  let s := (s.setFl st 0 16 m).updRec k (fun x => { x with last := s.ticks + 1 })
  let log := R.FLT_LOG + 0x10 * s.fl st 22 6
  let first := s.bt R.FLT_STAT 1 && s.flt.firstSrc == k
  let both (s : State) (f : State → Nat → State) : State :=
    let s := if s.bt st 21 then f s log else s
    if first then f s R.FLT_FIRST_W else s
  let s := both s (fun s o => s.setFl (o + 12) 0 16 m)
  let real := (s.rec? k).real
  if r.injected then
    let s := both (s.setBt st 18 true) (fun s o => s.setBt o 11 true)
    if real then both (s.setBt st 19 true) (fun s o => s.setBt o 12 true) else s
  else if real then s
  else
    let s := (s.setBt st 19 true).updRec k (fun x => { x with detail := r.detail, real := true })
    let s := both s (fun s o => (s.setBt o 12 true).wr (o + 8) r.detail)
    s.later' 2 (.react r.src)

/-- A raise reaches the Banister in this cycle (R329, R331): it merges into a record in handling, also into one that is cleared in this
very cycle (R334), or it waits for its record, which appears two cycles later. -/
def State.raiseWith (s : State) (r : Raise) : State :=
  let k := r.src.val
  if s.fltPend k then s.mergeRaise r
  else if (s.rec? k).cleared = s.ticks + 1 then (s.setFltPend k true).mergeRaise r
  else
    let s := { s with flt := { s.flt with raised := s.flt.raised ++ [r] } }
    if s.agenda.any (fun d => d.cmd == .recordCreate && d.tick == s.ticks + 2) then s else s.after 2 .recordCreate

/-- A real raise of source `k` with DETAIL `d` (R329). -/
def State.raise (s : State) (k : Nat) (d : Word := 0) : State :=
  s.raiseWith ⟨s.ticks, s.tb.tb.toNat, Fin.ofNat 256 k, d, false, 0x3F, false⟩

/-- The condition of level source `k` becomes true (R330): ACTIVE reads 1, and the source is raised when it did not. -/
def State.raiseLevel (s : State) (k : Nat) (d : Word := 0) : State :=
  if s.bt (fsrcStat k) 17 then s else (s.setBt (fsrcStat k) 17 true).raise k d

/-- The condition of level source `k` ends (R330). -/
def State.endLevel (s : State) (k : Nat) : State := s.setBt (fsrcStat k) 17 false

/-- The fault sources by name (R347). -/
abbrev FS.RSVD_WRITE : Nat := 0
abbrev FS.ACCESS_WIDTH : Nat := 1
abbrev FS.PLL_UNLOCK : Nat := 2
abbrev FS.XIN_LOSS : Nat := 3
abbrev FS.TB_STEP_REFUSED : Nat := 4
abbrev FS.SUPPLY_WARN : Nat := 5
abbrev FS.TEMP_WARN : Nat := 6
abbrev FS.TEMP_CRIT : Nat := 7
abbrev FS.PFAIL : Nat := 8
abbrev FS.LTRIM_LOSS : Nat := 9
abbrev FS.X32_LOSS : Nat := 10
abbrev FS.HEARTBEAT_TMO : Nat := 11
abbrev FS.ECC_COR : Nat := 16
abbrev FS.ECC_CODE : Nat := 17
abbrev FS.ECC_LOCAL : Nat := 25
abbrev FS.SCRUB_LATE : Nat := 33
abbrev FS.CHEST_COR : Nat := 34
abbrev FS.CHEST_UNC : Nat := 35
abbrev FS.CHEST_WRFAIL : Nat := 36
abbrev FS.CHEST_WEAR : Nat := 37
abbrev FS.PLOG_WRAP : Nat := 38
abbrev FS.VEST_REFUSED : Nat := 48
abbrev FS.VEST_OVER : Nat := 49
abbrev FS.CAL_SKIP : Nat := 50
abbrev FS.CAL_FAIL : Nat := 51
abbrev FS.BIST_FAIL : Nat := 52
abbrev FS.TELEM_LOST : Nat := 53
abbrev FS.MC_LOAD_FAIL : Nat := 64
abbrev FS.MC_LOAD_REFUSED : Nat := 65
abbrev FS.FE_CODE_WR : Nat := 66
abbrev FS.FE_BAR_TIMEOUT : Nat := 67
abbrev FS.FE_SRQ_DISCARD : Nat := 68
abbrev FS.FE_CFG : Nat := 69
abbrev FS.FE_MBX_BUSY : Nat := 70
abbrev FS.LN_CFG : Nat := 71
abbrev FS.LN_OVR : Nat := 72
abbrev FS.FE_ILLEGAL : Nat := 80
abbrev FS.FE_FETCH_RANGE : Nat := 88
abbrev FS.FE_STACK : Nat := 96
abbrev FS.MC_UFAULT : Nat := 104
abbrev FS.CAPFIFO_OVF : Nat := 112
abbrev FS.AQ_REFUSED : Nat := 113
abbrev FS.SPLIT : Nat := 114
abbrev FS.PG_TRIP : Nat := 115
abbrev FS.PG_LATCHOFF : Nat := 128
abbrev FS.NWL_DESC : Nat := 144
abbrev FS.NWL_GAPERR : Nat := 145
abbrev FS.NWL_CAMERR : Nat := 146
abbrev FS.NWL_STALL : Nat := 147
abbrev FS.NWL_ENCERR : Nat := 148
abbrev FS.NWL_NOISE : Nat := 149
abbrev FS.NWL_EVDROP : Nat := 150
abbrev FS.NWL_LOST : Nat := 152
abbrev FS.NWL_PEERLOSS : Nat := 156
abbrev FS.RING_DB : Nat := 160
abbrev FS.RING_CFG : Nat := 161
abbrev FS.RING_HOSTERR : Nat := 162
abbrev FS.RING_EVTLOST : Nat := 163
abbrev FS.CAPT_NORING : Nat := 164
abbrev FS.CAPT_LOSS : Nat := 165
abbrev FS.GAL_CFG : Nat := 166
abbrev FS.TXN_FAIL : Nat := 167
abbrev FS.TXN_REFUSED : Nat := 168
abbrev FS.LAND_ENTQ : Nat := 169
abbrev FS.PCIE_CORR : Nat := 192
abbrev FS.PCIE_LINK : Nat := 195
abbrev FS.XSPI_PROTO : Nat := 196
abbrev FS.PEER_LINK : Nat := 197
abbrev FS.PEER_ALIGN : Nat := 198
abbrev FS.PEER_FRAME : Nat := 199
abbrev FS.DEBUG_ACCESS : Nat := 200

/-- The I/O address at which an engine reaches an MW0 offset (R168). -/
def ioOf (o : Nat) : Nat :=
  if o < 0x1000 then 0x9000 + o
  else if 0x10000 ≤ o && o < 0x16000 then o - 0x10000
  else if 0xA000 ≤ o && o < 0xB000 then o - 0xA000 + 0x6000
  else if 0x8000 ≤ o && o < 0x9000 then o - 0x8000 + 0x7000
  else if 0xC000 ≤ o && o < 0xC800 then o - 0xC000 + 0x8000
  else if 0x20000 ≤ o && o < 0x22000 then 0x8800 + (o - 0x20000) % 0x400
  else if 0x9000 ≤ o && o < 0xA000 then 0xA000 + (o - 0x9000)
  else if 0x30000 ≤ o && o < 0x38000 then 0xC000 + (o - 0x30000) % 0x2000
  else o

/-- DETAIL of the sources that name an access (R346): the MW0 offset, or the I/O address for an engine, in [19:0] and the agent in
[23:20]: 0 host, 1 supervisor, 2 to 9 the engines. The debug agent counts as the host, which the field has no code for. -/
def accessDetail (a : Agent) (o : Nat) : Word :=
  match a with
  | .bank e _ => w32 (ioOf o % 0x100000 + (2 + e.val) * 0x100000)
  | .sup => w32 (o % 0x100000 + 0x100000)
  | _ => w32 (o % 0x100000)

/-- NOTICE RSVD_WRITE of an access (R11). -/
def State.rsvd (s : State) (a : Agent) (o : Nat) : State := s.raise FS.RSVD_WRITE (accessDetail a o)

/-! ## SRQs (R84, R172) -/

/-- The state in which an SRQ reaches an engine's scheduler `d` ticks from now. -/
def State.srq (s : State) (e : Fin 8) (t : Fin 32) (src : SrqSource) (d : Nat) : State := s.after d (.srqArrival e t src)

/-- The SRQ of an event whose routing register at `route` names the engine and thread; a write of the register acts from the next tick (R84). -/
def State.srqVia (s : State) (route : Nat) (src : SrqSource) (d : Nat) : State :=
  s.srq (Fin.ofNat 8 (s.wasFl route 0 3)) (Fin.ofNat 32 (s.wasFl route 8 5)) src d

/-! ## Record groups (R292) -/

/-- The state in which a record group is offered to the Landing buffer `d` ticks from now. -/
def State.offer (s : State) (d : Nat) (g : RecGroup) : State := s.after d (.recordEntry g)

/-- The low 48 bits of a coarse time, as COARSE holds them (R290). -/
def coarse48 (t : Nat) : Nat := t % 2 ^ 48

/-- A group's ring before routing, for groups that R297 routes at entry. -/
def noRing : Fin 64 := 0

end Sys2Proof.Machine
end

