-- ==== Sys2Proof/Machine/Slots.lean ====
section
/-! DEFINITION. The Newel's angle clock (R121) and the settling of angle-event slots (R144 to R146, R154, R157, R158): what both
the channels and the Newels do to a slot. -/

namespace Sys2Proof.Machine

/-! ## The angle clock -/

/-- Whether a Newel runs: a write of 0 to EN stops it in the following tick (R112). -/
def nwlEn (s : State) (n : Fin 4) : Bool := s.nwl[n].on

/-- The acting NWLn_CYCLEN (R143). -/
def encCycle (s : State) (n : Fin 4) : Nat := max 4096 (min 2949120 (s.fl (nwlOff n NWL.CYCLEN) 0 22))

/-- The cycle length C (R114). -/
def nwlC (s : State) (n : Fin 4) : Nat :=
  let w := s.nwl[n]
  if w.mode = 1 then encCycle s n else if w.cyc360 then 1474560 else 2949120

/-- The forward distance from one angle to another (R147). -/
def fwd (c frm dst : Nat) : Nat := (dst + c - frm) % c

/-- Whether the angle is valid (R123). -/
def Sync.valid : Sync → Bool
  | .candidate | .confirm | .sync | .hold => true
  | .seek | .lost => false

/-- NWLn_STATE.STATE of a sync state. -/
def Sync.code : Sync → Nat
  | .seek => 0 | .candidate => 1 | .confirm => 2 | .sync => 3 | .hold => 4 | .lost => 5

/-- NWLn_STATE.LASTCLS of a class. -/
def Cls.code : Cls → Nat
  | .normal => 0 | .early => 1 | .late => 2 | .gap => 3 | .inserted => 4 | .rejected => 5

/-- CPC and PPAIRS as they act (R143). -/
def encCpc (s : State) (n : Fin 4) : Nat := max 4 (s.fl (nwlOff n NWL.ENCCFG) 0 24)
def encPp (s : State) (n : Fin 4) : Nat := max 1 (s.fl (nwlOff n NWL.ENCCFG) 24 5)

/-- The angle of an encoder count (R136). -/
def encAngle (s : State) (n : Fin 4) (pos : Nat) : Nat := pos * nwlC s n * encPp s n / encCpc s n % nwlC s n

/-- How far the angle clock has moved past the last tooth at effective time `t`, before the hold limit (R121). -/
def advRaw (w : Nwl) (t : Nat) : Nat := if w.pred && w.load.isNone then (t - w.tlast) * w.anext / max 1 w.ppred else 0

/-- The limit of the advance: HOLDANG short of the next tooth (R121). -/
def advLim (s : State) (n : Fin 4) : Nat :=
  let w := s.nwl[n]
  w.anext - min w.holdAng w.anext

/-- The angle of the toothed-wheel clock at effective time `t` (R121); from a tooth's classification to its prediction load, and
without a prediction, the tooth's own angle (R122). -/
def angleAt (s : State) (n : Fin 4) (t : Nat) : Nat :=
  let w := s.nwl[n]
  (w.toothang + min (advRaw w t) (advLim s n)) % nwlC s n

/-- The encoder angle at effective time `t`: the count's own, with ENCIP moved toward the next count at the rate of the last
count interval and never closer than 1 as to it (R136). -/
def encAngleAt (s : State) (n : Fin 4) (t : Nat) : Nat :=
  let w := s.nwl[n]
  let pos := s.fl (nwlOff n NWL.ENCPOS) 0 24
  let a := encAngle s n pos
  let c := nwlC s n
  match w.encT with
  | none => a
  | some t0 =>
    if s.bt (nwlOff n NWL.CTRL) 8 && 0 < w.encInt then
      let cpc := encCpc s n
      let a' := if w.dir then encAngle s n ((pos + cpc - 1) % cpc) else encAngle s n ((pos + 1) % cpc)
      let step := if w.dir then fwd c a' a else fwd c a a'
      let adv := min ((t - t0) * step / w.encInt) (step - 1)
      if w.dir then (a + c - adv) % c else (a + adv) % c
    else a

/-- The angle that the Newel reports at effective time `t`: frozen outside the states in which its clock runs (R132). -/
def angleOf (s : State) (n : Fin 4) (t : Nat) : Nat :=
  let w := s.nwl[n]
  if !w.on || !w.state.valid || w.state == .hold then w.frozenAng % nwlC s n
  else if w.mode = 1 then encAngleAt s n t
  else angleAt s n t

/-- The angle that the Newel reports in the present tick. -/
def angleNow (s : State) (n : Fin 4) : Nat := angleOf s n s.eff

/-- NWLn_ANGLE.CLAMP: the angle waits at the hold angle (R121); in HOLD it stays where it was (R132), which may be there. -/
def clampNow (s : State) (n : Fin 4) : Bool :=
  let w := s.nwl[n]
  w.on && w.mode != 1 && w.state.valid && w.pred
    && (if w.state == .hold then w.frozenAng % nwlC s n == (w.toothang + advLim s n) % nwlC s n else w.load.isNone && decide (advLim s n ≤ advRaw w s.eff))

/-! ## Slots -/

/-- STATE of a slot (R145): 0 IDLE, 1 ARMED, 2 QUEUED, 3 FROZEN. -/
def slotState (s : State) (n : Fin 4) (k : Fin 512) : Nat := s.fl (evOff n k EV.ANG) 22 3

/-- The state with STATE of a slot set. -/
def setSlotState (s : State) (n : Fin 4) (k : Fin 512) (v : Nat) : State := s.setFl (evOff n k EV.ANG) 22 3 v

/-- The event angle as it acts: ANG mod C (R145). -/
def slotAng (s : State) (n : Fin 4) (k : Fin 512) : Nat := s.fl (evOff n k EV.ANG) 0 22 % nwlC s n

/-- Whether a slot is enabled, names a channel and holds an action (R145). -/
def slotLive (s : State) (n : Fin 4) (k : Fin 512) : Bool :=
  let cfg := s.rd (evOff n k EV.CFG)
  bit cfg 7 && decide (fld cfg 0 7 < 96) && decide (fld cfg 8 4 < 10)

/-- The channel of a live slot. -/
def slotCh (s : State) (n : Fin 4) (k : Fin 512) : Fin 96 := Fin.ofNat 96 (s.fl (evOff n k EV.CFG) 0 7)

/-- The enabled slots of a Newel, in ascending number: those whose CFG the register store lists with EN = 1. -/
def slotsOn (s : State) (n : Fin 4) : List (Fin 512) :=
  s.regs.filterMap (fun p =>
    let base := 0x30000 + n.val * 0x2000
    if base ≤ p.1 && p.1 < base + 0x2000 && (p.1 - base) % 16 == 4 && bit p.2 7 then
      some (Fin.ofNat 512 ((p.1 - base) / 16))
    else none)

/-- The state of a Newel with `f` applied. -/
def State.updNwl (s : State) (n : Fin 4) (f : Nwl → Nwl) : State := { s with nwl := s.nwl.set n (f s.nwl[n]) }

/-- An event of a Newel's scheduler (R157): its bit in NWLn_EVEVT, the SRQ in the same tick, and NWL_EVDROP when DROP goes
from 0 to 1. -/
def evEvent (s : State) (n : Fin 4) (k : Fin 512) (b : Nat) : State :=
  let o := nwlOff n NWL.EVEVT
  let was := s.bt o b
  let s := s.setEv o b
  let s := if b = 2 && !was then s.raise FS.NWL_EVDROP (w32 (n.val + k.val * 256)) else s
  if s.wasBt (nwlOff n NWL.EVSRQEN) b then s.srqVia (nwlOff n NWL.ROUTE) (.nwl n) 0 else s

/-- The angle to which CYCNUM belongs: that of the end of the preceding tick (R146). -/
def refAngle (s : State) (n : Fin 4) : Nat := match s.nwl[n].aLast with | some a => a | none => angleNow s n

/-- CYCNUM as it was at the last tooth, from which the angle has moved on by less than a cycle. -/
def toothCyc (s : State) (n : Fin 4) : Nat :=
  let w := s.nwl[n]
  if refAngle s n < w.toothang then (w.cycnum + 255) % 256 else w.cycnum

/-- The instance of an event at angle `a` ahead of the last tooth (R146). -/
def instAhead (s : State) (n : Fin 4) (a : Nat) : Nat :=
  if a ≤ s.nwl[n].toothang then (toothCyc s n + 1) % 256 else toothCyc s n

/-- The instance of an event at angle `a` that the angle passed up to the last tooth. -/
def instPassed (s : State) (n : Fin 4) (a : Nat) : Nat :=
  if s.nwl[n].toothang < a then (toothCyc s n + 255) % 256 else toothCyc s n

/-- The next instance of an event at angle `a` after the present angle. -/
def instNext (s : State) (n : Fin 4) (a : Nat) : Nat :=
  if a ≤ refAngle s n then (s.nwl[n].cycnum + 1) % 256 else s.nwl[n].cycnum

/-- Whether the angle has passed an event at angle `a` in its instance `i`. -/
def instGone (s : State) (n : Fin 4) (a i : Nat) : Bool :=
  let d := (i + 256 - s.nwl[n].cycnum % 256) % 256
  decide (128 ≤ d) || (d == 0 && decide (a ≤ refAngle s n))

/-- Whether instance `i` of a slot is already completed (R146). -/
def slotDone (s : State) (n : Fin 4) (k : Fin 512) (i : Nat) : Bool := s.fl (evOff n k EV.LATE) 22 8 == i

/-- The instance that the present entry of a slot stands for. -/
def slotInst (s : State) (n : Fin 4) (k : Fin 512) : Nat := Store.get (fun _ => 0) s.nwl[n].insts k.val

/-- The state in which the entry of a slot stands for instance `i`. -/
def setInst (s : State) (n : Fin 4) (k : Fin 512) (i : Nat) : State :=
  s.updNwl n (fun w => { w with insts := Store.set (fun _ => 0) w.insts k.val i })

/-- Completion of an instance (R146): DONECYC and LAST, and the slot waits ARMED again, or IDLE when no longer live. No offer of it that is
lined up is made any more. -/
def completeSlot (s : State) (n : Fin 4) (k : Fin 512) (i last : Nat) : State :=
  let s := s.setFl (evOff n k EV.LATE) 22 8 i
  let s := s.setFl (evOff n k EV.ANG) 25 2 last
  let s := s.updNwl n (fun w => { w with
    reofferQ := w.reofferQ.filter (fun o => o.slot != k), lateQ := w.lateQ.filter (fun o => o.slot != k || o.inst != i)
    conv := w.conv.filter (fun o => o.slot != k || o.inst != i) })
  setSlotState s n k (if slotLive s n k then 1 else 0)

/-- A drop counts in DROPCNT (R157). -/
def countDrop (s : State) (n : Fin 4) : State := s.satFl (nwlOff n NWL.EVCNT) 16 16

/-- A late firing counts in LATECNT (R157). -/
def countLate (s : State) (n : Fin 4) : State := s.satFl (nwlOff n NWL.EVCNT) 0 16

/-- The payload of an event-fired group (R294). -/
def firedPayload (slot : Nat) (nwl : Option (Fin 4)) (late cancel drop : Bool) (act lateness : Nat) : Nat :=
  slot + (match nwl with | some n => 512 + n.val * 1024 | none => 0) + late.toNat * 2 ^ 12 + cancel.toNat * 2 ^ 13
    + drop.toNat * 2 ^ 14 + act * 2 ^ 16 + min lateness 0xFFFFFFF * 2 ^ 20

/-- The channel whose queue holds the entry of a slot. -/
def entryCh (s : State) (n : Fin 4) (k : Fin 512) : Option (Fin 96) :=
  (List.finRange 96).find? (fun c => s.ch[c].aq.any (fun e => e.origin == .newel n && e.tag == k.val))

/-- A withdrawal (R151): the unfrozen entry of the slot leaves its queue without firing, and the slot returns to ARMED, or to IDLE when
no longer live. -/
def withdraw (s : State) (n : Fin 4) (k : Fin 512) : State :=
  if slotState s n k = 2 then
    let s := match entryCh s n k with
      | some c =>
        let q := s.ch[c].aq.filter (fun e => !(e.origin == .newel n && e.tag == k.val && !e.frz))
        { s with ch := s.ch.set c { s.ch[c] with aq := q } }
      | none => s
    setSlotState s n k (if slotLive s n k then 1 else 0)
  else s

/-- A drop (R157): an entry is withdrawn, the instance completes, DROPCNT counts it, EVEVT.DROP is set and a drop record is written
with the decision tick minus the estimated target (fine units) as lateness. -/
def dropSlot (s : State) (n : Fin 4) (k : Fin 512) (i tgt : Nat) : State :=
  let act := s.fl (evOff n k EV.CFG) 8 4
  let s := withdraw s n k
  let s := completeSlot s n k i 3
  let s := countDrop s n
  let s := evEvent s n k 2
  s.offer 0 { src := 104 + n.val, typ := 4, lvl := false, fine := 0, coarse := coarse48 s.tb.tb.toNat,
              ext := [firedPayload k.val (some n) false false true act (s.tb.tb.toNat - tgt / 32)], ring := noRing }

/-- A Newel entry fires (R158, R152): the slot completes as fired, EVLAST is loaded, and a late firing is counted. A cancel
completes with LAST = 2 (R155). -/
def newelFired (s : State) (n : Fin 4) (k : Fin 512) (e : AqEntry) (isLate : Bool) (lateness : Nat) : State :=
  let s := completeSlot s n k (slotInst s n k) (if isLate || e.cancel then 2 else 1)
  let s := s.wr (nwlOff n NWL.EVLAST_T) e.coarse
  let s := s.wr (nwlOff n NWL.EVLAST_X)
    (w32 (e.fine + isLate.toNat * 32 + k.val * 128 + min lateness 0xFFFF * 65536))
  let s := evEvent s n k 0
  if isLate then countLate s n else s

/-- A FLUSH or an EN clear discards a Newel entry (R154): the slot returns to ARMED, the instance completes as dropped,
EVEVT.FLUSHED is set and DROPCNT counts it. -/
def newelFlushed (s : State) (n : Fin 4) (k : Fin 512) : State :=
  let s := completeSlot s n k (slotInst s n k) 3
  let s := countDrop s n
  evEvent s n k 6

end Sys2Proof.Machine
end

