-- ==== Sys2Proof/Machine/Output.lean ====
section
/-! DEFINITION. A channel's way to its pin: events and SRQs (R84), the trip, freeze and lane overrides (R82), output records
(R73), complementary pairs and dead time (R99, R100), and the minimum-pulse rule with its foresight (R101 to R104). -/

namespace Sys2Proof.Machine

/-! ## Access to one channel and one group -/

/-- The state of a channel with `f` applied. -/
def State.updCh (s : State) (n : Fin 96) (f : Chan → Chan) : State := { s with ch := s.ch.set n (f s.ch[n]) }

/-- The state of a group with `f` applied. -/
def State.updPg (s : State) (m : Fin 16) (f : Pg → Pg) : State := { s with pg := s.pg.set m (f s.pg[m]) }

/-- The word of a channel's register. -/
def State.rdCh (s : State) (n : Fin 96) (o : Nat) : Word := s.rd (chOff n o)

/-- The Flight of a channel (R16). -/
def flightOf (n : Fin 96) : Nat := n.val / 12

/-- CHn_CTRL.EN. -/
def chEn (s : State) (n : Fin 96) : Bool := s.bt (chOff n CH.CTRL) 0

/-- The acting counter mode (R87, R59): 0 hold, 1 up, 2 down, 3 up-down, 4 follow, 5 cascade; 6 and 7, and cascade on CH0, hold. -/
def cntMode (s : State) (n : Fin 96) : Nat :=
  let m := s.fl (chOff n CH.CTRL) 1 3
  if m = 5 then (if n.val = 0 then 0 else 5) else if m ≤ 4 then m else 0

/-- The group that a channel follows, when its mode is follow (R57). -/
def follows (s : State) (n : Fin 96) : Option (Fin 16) :=
  if cntMode s n = 4 then some (Fin.ofNat 16 (s.fl (chOff n CH.PWM) 0 4)) else none

/-- The channel before and after one, when there is one. -/
def prevCh (n : Fin 96) : Option (Fin 96) := if 0 < n.val then some ⟨n.val - 1, by omega⟩ else none
def nextCh (n : Fin 96) : Option (Fin 96) := if h : n.val + 1 < 96 then some ⟨n.val + 1, h⟩ else none

/-! ## Events (R84) -/

/-- The delay of an SRQ of a channel: none to the engine of its own Flight, 2 cycles to any other (R19). -/
def srqDelay (s : State) (n : Fin 96) : Nat := if s.wasFl (chOff n CH.ROUTE) 0 3 = flightOf n then 0 else 2

/-- An event of a channel: its bit in CHn_EVT, and in the same tick an SRQ when CHn_SRQEN enables it. -/
def chEvent (s : State) (n : Fin 96) (b : Nat) : State :=
  let s := s.setEv (chOff n CH.EVT) b
  if s.wasBt (chOff n CH.SRQEN) b then s.srqVia (chOff n CH.ROUTE) (.ch n) (srqDelay s n) else s

/-! ## The pin (R81, R82) -/

/-- Whether a forced safe set holds the channel (R337). -/
def safeForced (s : State) (n : Fin 96) : Bool :=
  (List.range 8).any (fun j => s.bt R.FLT_SAFEACT j && s.bt (R.FLT_SAFE_M + 0x10 * j + 4 * (n.val / 32)) (n.val % 32))

/-- CHn_STAT.TRIPPED: a trip of the followed group or a safe set forces the pin (R82, R337). -/
def chForced (s : State) (n : Fin 96) : Bool :=
  (match follows s n with | some m => s.pg[m].tripped | none => false) || safeForced s n

/-- The pin as resolved in the present tick (R82): whether it is driven, and its level. DESIGN CHOICE (assumption 27): a frozen pin that a
trip or a safe set has forced stays at that level when the force ends, until it resumes (R53). -/
def padOf (s : State) (n : Fin 96) : Bool × Bool :=
  let c := s.ch[n]
  if chForced s n then
    match s.fl (chOff n CH.PWM) 8 2 with
    | 1 => (true, true)
    | 2 => (false, c.padLvl)
    | _ => (true, false)
  else if c.frozen then (c.padDrv, c.padLvl)
  else match c.laneOut with
    | some l => (true, l)
    | none => (s.bt (chOff n CH.OUTCFG) 0, c.out)

/-- The physical place of a change at the effective fine value `fine` of the tick `dt` ticks from now (R39), in fine units: FOFS earlier, which
can lie in the tick before; under LCLK counting at the tick itself. -/
def physAt (s : State) (fine dt : Nat) : Nat := (s.ticks + dt) * 32 + (if s.tbclk then fine else s.fofs) - s.fofs

/-- A pin that its own driver changes at the physical place `q` reaches its sampler through both pads (R69, R434): it is sampled in the first
tick that begins at or after its arrival, 1 or 2 ticks after the placement tick, or at the first LCLK edge there (R85). A change sampled
with a later one is not seen. -/
def ownEdge (s : State) (n : Fin 96) (lvl : Bool) (q : Nat) : State :=
  let u := min (q + 32 + (Config.padDelay n).toNat % 33) ((q / 32 + 2) * 32)
  let k := (u + 31) / 32
  let k := if s.tbclk then k else s.edgeTick (s.edgesTo (k - 1) + 1)
  let other (d : Due) : Bool := match d.cmd with | .inputEdgeSampled m _ _ => m != n || d.tick != k | _ => true
  { s with agenda := s.agenda.filter other }.afterTicks (k - s.ticks)
    (.inputEdgeSampled n lvl (BitVec.ofNat 5 (if s.tbclk then u % 32 else 0)))

/-- Whether the supply bank of a channel's pin was found present at VDD good; the pins of an absent bank are neither driven nor sampled (R376). -/
def pinUsable (s : State) (n : Fin 96) : Bool := s.bt R.PWR_STAT (8 + n.val / 32)

/-- The pin takes its resolved state, at the physical place of the change (R39). A level that it drives is sampled as any other. A change is
recorded when CHn_REC.ROUT = 1, 3 ticks after the tick in which it is made (R73, R294): `dt` is how many ticks after the present one the change
falls, `cause` its CAUSE. A forced edge does not pass the delay line (R98). -/
def updPad (s : State) (n : Fin 96) (cause fine dt : Nat) : State :=
  let c := s.ch[n]
  let p := padOf s n
  if p = (c.padDrv, c.padLvl) then s
  else
    let q := physAt s fine dt
    let s := s.noteEdge.updCh n (fun c => { c with padDrv := p.1, padLvl := p.2, padAt := q, edgeAt := if chForced s n then c.edgeAt else q / 32 })
    let s := if p.1 && pinUsable s n then ownEdge s n p.2 q else s
    if s.bt (chOff n CH.REC) 4 then
      s.offer (3 + dt) { src := n.val, typ := 0, lvl := p.2, fine := fine, coarse := coarse48 (s.tb.tb.toNat + dt),
                         ext := [cause + p.1.toNat * 16], ring := noRing }
    else s

/-! ## Pairs, dead time and the minimum pulse (R99 to R104) -/

/-- Whether an odd channel is the complementary partner of the one before it (R99). -/
def isPartner (s : State) (n : Fin 96) : Bool := n.val % 2 == 1 && s.bt (chOff n CH.PWM) 4

/-- The partner of the base channel of a pair. -/
def partnerOf (s : State) (n : Fin 96) : Option (Fin 96) :=
  match nextCh n with
  | some k => if n.val % 2 == 0 && isPartner s k then some k else none
  | none => none

/-- DT and MINPW of an output path (R99): a pair takes both from the group that its base follows, an unpaired member only MINPW. -/
def dtMinpw (s : State) (n : Fin 96) : Nat × Nat :=
  match follows s n with
  | some m => (if (partnerOf s n).isSome then s.fl (pgOff m PG.DT) 0 12 else 0, s.fl (pgOff m PG.MINPW) 0 12)
  | none => (0, 0)

/-- The acting MINPOLICY (R87): 0 swallow, 1 stretch, 2 pass; pass acts as swallow while DT is not 0. -/
def minPolicy (s : State) (n : Fin 96) (dt : Nat) : Nat :=
  match s.fl (chOff n CH.PWM) 5 2 with
  | 1 => 1
  | 2 => if dt = 0 then 2 else 0
  | _ => 0

/-- A placement in fine units. -/
def Placement.units (p : Placement) : Nat := p.tick * 32 + p.fine

/-- An output moves to a level (R99): a rise waits for DT with its fine value, a fall is not delayed. It cancels a waiting rise,
but for one placed before it, which reaches the pin first; of an LCLK step only the last change does (R85). -/
def driveTo (s : State) (n : Fin 96) (lvl : Bool) (at' : Placement) (dt cause : Nat) : State :=
  if lvl then
    if s.ch[n].out then s
    else if dt = 0 then updPad (s.updCh n (fun c => { c with out := true, riseAt := none })) n cause at'.fine (at'.tick - s.ticks)
    else
      let r : Placement := ⟨at'.tick + dt, at'.fine⟩
      (s.updCh n (fun c => { c with riseAt := some r })).dropDue (· == .deadTimeExpiry n)
        |>.afterTicks (r.tick - s.ticks) (.deadTimeExpiry n)
  else
    let s := match s.ch[n].riseAt with
      | some r => if s.tbclk && r.units < at'.units then updPad (s.updCh n (fun c => { c with out := true })) n 6 r.fine (r.tick - s.ticks) else s
      | none => s
    let s := (s.updCh n (fun c => { c with out := false, riseAt := none })).dropDue (· == .deadTimeExpiry n)
    updPad s n cause at'.fine (at'.tick - s.ticks)

/-- The reference level changes (R99): the base drives it, and an enabled partner its inverse. -/
def setRef (s : State) (n : Fin 96) (lvl : Bool) (at' : Placement) (cause : Nat) : State :=
  let dt := (dtMinpw s n).1
  let s := s.updCh n (fun c => { c with refLvl := lvl, refAt := some at' })
  let s := driveTo s n lvl at' dt cause
  match partnerOf s n with
  | some k => if chEn s k then driveTo s k (!lvl) at' dt cause else s
  | none => s

/-- The level after an action code of CHn_OUTCFG (R87): 1 high, 2 low, 3 toggle. -/
def actLevel (act : Nat) (l : Bool) : Bool := if act = 1 then true else if act = 2 then false else if act = 3 then !l else l

/-- The acting group mode (R111): 0 up, 1 down, 2 up-down; 3 acts as up. -/
def pgMode (s : State) (m : Fin 16) : Nat := match s.fl (pgOff m PG.CTRL) 1 2 with | 1 => 1 | 2 => 2 | _ => 0

/-- The period length L for a period P in a mode (R88). -/
def periodLen (mode p : Nat) : Nat := if mode = 2 then 2 * p else p + 1

/-- The position of a group (R90): the ticks since its last boundary, as its count gives them. DEDUCED (assumption 39): for a count above the
period too the rule's difference holds, taken modulo L as it stands. -/
def pgPos (mode p cnt : Nat) (down : Bool) : Int :=
  if mode = 0 then cnt else if mode = 1 then (p : Int) - cnt else if down then 2 * (p : Int) - cnt else cnt

/-- The member count and direction at position `q0` with phase `ph` (R90): the count, and whether it counts down. -/
def memberAt (mode p : Nat) (q0 : Int) (ph : Nat) : Nat × Bool :=
  let l := periodLen mode p
  if l = 0 then (0, false)
  else
    let q := ((q0 + ph) % l).toNat
    if mode = 0 then (q, false) else if mode = 1 then (p - q, true) else if q ≤ p then (q, false) else (2 * p - q, true)

/-- The member slot of a channel in a group (R90): the first enabled slot that names it. -/
def memberSlot (s : State) (m : Fin 16) (n : Fin 96) : Option (Fin 12) :=
  (List.finRange 12).find? (fun k =>
    let w := s.rd (pgOff m (PG.MCH + 4 * k.val))
    bit w 7 && fld w 0 7 == n.val)

/-- The slope on which a count is taken: true for up. In up-down mode p is taken on the up slope and 0 on the down slope (R62). -/
def slopeUp (mode p cnt : Nat) (down : Bool) : Bool :=
  if mode = 0 then true else if mode = 1 then false else if cnt = 0 then false else if cnt = p then true else !down

/-- Whether compare value `v` of letter `k` matches a count (R62): equal, not above the period, not 0xFFFF_FFFF, and on a slope
that its slope field admits in up-down mode. -/
def matchesAt (outcfg : Word) (upDown : Bool) (k v p cnt : Nat) (up : Bool) : Bool :=
  v == cnt && v ≤ p && v != 0xFFFFFFFF
    && (!upDown || (match fld outcfg (10 + 2 * k) 2 with | 1 => up | 2 => !up | _ => true))

/-- The fine value of letter `k` in a CMPFINE word. -/
def cmpFineOf (w : Word) (k : Nat) : Nat := fld w (8 * k) 5

/-- The result of one advance of a counter (R58): the count, the direction, and whether a boundary and a peak fell in it, each
with its SHORT mark. -/
structure Advance where
  cnt : Nat
  down : Bool
  bound : Bool
  boundShort : Bool
  peak : Bool
  peakShort : Bool
deriving DecidableEq, Repr

/-- One advance of a counter in up (0), down (1) or up-down (2) mode with period `p` (R58). Only up-down mode moves the direction. -/
def countStep (mode cnt p : Nat) (down : Bool) : Advance :=
  if mode = 0 then
    if p ≤ cnt then ⟨0, down, true, p < cnt, false, false⟩ else ⟨cnt + 1, down, false, false, false, false⟩
  else if mode = 1 then
    if cnt = 0 then ⟨p, down, true, false, false, false⟩ else ⟨cnt - 1, down, false, false, false, false⟩
  else if p = 0 then ⟨0, false, true, false, false, false⟩
  else
    let rev := !down && p ≤ cnt
    let revShort := rev && p < cnt
    if down || rev then
      let c := if cnt = 0 then 0xFFFFFFFF else cnt - 1
      if c = 0 then ⟨0, false, true, false, rev, revShort⟩ else ⟨c, true, false, false, rev, revShort⟩
    else if cnt + 1 = p then ⟨cnt + 1, true, false, false, true, false⟩
    else ⟨cnt + 1, false, false, false, false, false⟩

/-- What the foresight of R102 carries from tick to tick: the group's count, direction and period, the member's phase, and the transfer state
(R92, R93): whether a transfer point transfers, whether it keeps the period, whether it brings a held one, and whether one has transferred, so
that the shadows count. -/
structure Foresee where
  cnt : Nat
  down : Bool
  p : Nat
  ph : Nat
  xfer : Bool
  hold : Bool
  held : Bool
  moved : Bool

/-- One tick of the foresight: the group advances (R88), and a transfer point brings what the shadows `shP` and `shPh` and the transfer state
say (R91 to R93); `auto` is auto mode, in which every transfer point transfers. -/
def foreseeStep (mode : Nat) (pk auto : Bool) (shP shPh : Nat) (f : Foresee) : Foresee :=
  let a := countStep mode f.cnt f.p f.down
  let f := { f with cnt := a.cnt, down := a.down }
  if a.bound || (a.peak && pk) then
    { f with
      p := if f.hold then f.p else if f.xfer || f.held then shP else f.p
      ph := if f.xfer then shPh else f.ph
      xfer := f.xfer && auto, hold := false, held := f.hold, moved := f.moved || f.xfer }
  else f

/-- The closing change of a stretch at level `lvl` within `fuel` ticks (R102): how many ticks ahead, and its fine value. -/
def foreseeFrom (s : State) (n : Fin 96) (lvl : Bool) (mode : Nat) (step : Foresee → Foresee) : Nat → Nat → Foresee → Option (Nat × Nat)
  | 0, _, _ => none
  | fuel + 1, d, f =>
    let f := step f
    let c := memberAt mode f.p (pgPos mode f.p f.cnt f.down) f.ph
    let outcfg := s.rdCh n CH.OUTCFG
    let base := if f.moved then CH.CMPA else CH.CMPA_ACT
    let fine := s.rdCh n (if f.moved then CH.CMPFINE else CH.CMPFINE_ACT)
    let hit := [3, 2, 1, 0].find? (fun k =>
      fld outcfg (2 + 2 * k) 2 != 0
        && matchesAt outcfg (mode == 2) k (s.rdCh n (base + 4 * k)).toNat f.p c.1 (slopeUp mode f.p c.1 c.2))
    match hit with
    | some k =>
      if actLevel (fld outcfg (2 + 2 * k) 2) lvl != lvl then some (d, cmpFineOf fine k)
      else foreseeFrom s n lvl mode step fuel (d + 1) f
    | none => foreseeFrom s n lvl mode step fuel (d + 1) f

/-- The transfer state of a group as the foresight of a member starts from it (R92, R93, R102). -/
def foreseeStart (s : State) (n : Fin 96) (m : Fin 16) : Foresee :=
  let g := s.pg[m]
  let tmode := s.fl (pgOff m PG.CTRL) 3 2
  let auto := tmode != 1 && tmode != 2
  { cnt := (s.rd (pgOff m PG.CNT)).toNat, down := g.down, p := (s.rd (pgOff m PG.PERIOD_ACT)).toNat
    ph := match memberSlot s m n with | some k => (g.mphAct[k]).toNat | none => 0
    xfer := auto || (tmode == 1 && g.loadArm)
    hold := auto && g.pwrit && !g.cwrit && s.bt (pgOff m PG.CTRL) 6 && !g.held
    held := g.held, moved := false }

/-- The length in fine units of the stretch that a compare action opens now at `fine`, when its closing change falls within the
limit DT + MINPW (R101, R102). -/
def foreseeLen (s : State) (n : Fin 96) (lvl : Bool) (fine : Nat) : Option Nat :=
  match follows s n with
  | none => none
  | some m =>
    if s.pg[m].run && s.bt (pgOff m PG.CTRL) 0 then
      let (dt, mp) := dtMinpw s n
      let mode := pgMode s m
      let tmode := s.fl (pgOff m PG.CTRL) 3 2
      let shPh := match memberSlot s m n with | some k => (s.rd (pgOff m (PG.MPH + 4 * k.val))).toNat | none => 0
      let step := foreseeStep mode (s.bt (pgOff m PG.CTRL) 5) (tmode != 1 && tmode != 2) (s.rd (pgOff m PG.PERIOD)).toNat shPh
      match foreseeFrom s n lvl mode step (dt + mp + 1) 1 (foreseeStart s n m) with
      | some (d, f) => some (32 * d + f - fine)
      | none => none
    else none

/-- Whether a stretch of `r` fine units is short (R101). -/
def isShort (r dt mp : Nat) : Bool := (0 < dt + mp) && (r ≤ 32 * dt || r - 32 * dt < 32 * mp)

/-- A short stretch counted in the field of CHn_SHORTCNT of its outcome: 0 SWALLOW, 1 STRETCH, 2 PASS (R104). -/
def countShort (s : State) (n : Fin 96) (pol : Nat) : State := s.satFl (chOff n CH.SHORTCNT) (8 * pol) 8

/-- The closing change is moved to the opening change plus DT + MINPW, with the opening fine (R102). -/
def holdClose (s : State) (n : Fin 96) (open' : Placement) (dt mp : Nat) : State :=
  let c : Placement := ⟨open'.tick + dt + mp, open'.fine⟩
  (s.updCh n (fun x => { x with closeAt := some c })).dropDue (· == .stretchClose n) |>.afterTicks (c.tick - s.ticks) (.stretchClose n)

/-- A reference change opens a stretch (R101, R102). Opened by a compare action, its close is foreseen: a short one is swallowed,
stretched or passed by MINPOLICY. `soon` is the length where the closing change falls in this tick. -/
def openStretch (s : State) (n : Fin 96) (lvl : Bool) (at' : Placement) (cause : Nat) (byCompare : Bool) (soon : Option Nat) : State :=
  let (dt, mp) := dtMinpw s n
  let s := s.updCh n (fun c => { c with counted := false })
  let ahead := match soon with | some r => some r | none => foreseeLen s n lvl at'.fine
  let short := byCompare && (match ahead with | some r => isShort r dt mp | none => false)
  if !short then setRef s n lvl at' cause
  else
    let pol := minPolicy s n dt
    let s := countShort (s.updCh n (fun c => { c with counted := true })) n pol
    if pol = 0 then s.updCh n (fun c => { c with swallow := true })
    else
      let s := setRef s n lvl at' cause
      if pol = 1 then holdClose s n at' dt mp else s

/-- The moved closing change falls at `p` (R102): the reference takes the other level, and the next stretch starts there and is
foreseen in its turn. -/
def closeMoved (s : State) (n : Fin 96) (p : Placement) (soon : Option Nat) : State :=
  let lvl := !s.ch[n].refLvl
  openStretch (s.updCh n (fun c => { c with closeAt := none })) n lvl p 7 true soon

/-- A change of the decided level, with no moved closing change due before it: see `refChange`. While a closing change is moved,
a compare action ahead of it is discarded (R102), and an unforeseen close has the same moved place (R103). DESIGN CHOICE (assumption
28): a queue action that repeats the swallowed level opens the stretch anew. -/
def refStep (s : State) (n : Fin 96) (lvl : Bool) (at' : Placement) (cause : Nat) (byCompare : Bool) : State :=
  let c := s.ch[n]
  let (dt, mp) := dtMinpw s n
  if c.swallow then
    if byCompare || lvl == c.refLvl then s.updCh n (fun c => { c with swallow := false })
    else openStretch (s.updCh n (fun c => { c with swallow := false })) n lvl at' cause byCompare none
  else if c.closeAt.isSome then s
  else if lvl == c.refLvl then s
  else
    let r := match c.refAt with | some o => at'.units - o.units | none => 32 * (dt + mp) + 1
    if !c.counted && isShort r dt mp then
      let pol := minPolicy s n dt
      let open' := c.refAt.getD at'
      if pol = 2 then openStretch (countShort s n 2) n lvl at' cause byCompare none
      else if pol = 0 && r ≤ 32 * dt then openStretch (countShort s n 0) n lvl at' cause byCompare none
      else
        let s := countShort (s.updCh n (fun c => { c with counted := true })) n 1
        if at'.tick < open'.tick + dt + mp then holdClose s n open' dt mp
        else openStretch s n lvl ⟨at'.tick, open'.fine⟩ 7 byCompare none
    else openStretch s n lvl at' cause byCompare none

/-- The level decided at step 4 or 5 of R82 changes the output path (R99 to R104). With DT = 0 and MINPW = 0 no stretch is
short. A closing change that was not foreseen ends a short stretch under R103. A moved closing change placed at or before this
change in the same tick falls first, and a compare action behind it closes the stretch that starts there. -/
def refChange (s : State) (n : Fin 96) (lvl : Bool) (at' : Placement) (cause : Nat) (byCompare : Bool) : State :=
  match s.ch[n].closeAt with
  | some p =>
    if p.units ≤ at'.units then
      refStep (closeMoved s n p (if byCompare && lvl == s.ch[n].refLvl then some (at'.units - p.units) else none)) n lvl at' cause byCompare
    else s
  | none => refStep s n lvl at' cause byCompare

/-- The level that a channel's own actions decide changes (R82 steps 4 and 5). The partner of a pair decides nothing of its
pin (R99). Inside an LCLK step the change waits for the step's last one (R85). -/
def decide' (s : State) (n : Fin 96) (lvl : Bool) (fine cause : Nat) (byCompare : Bool) : State :=
  let s := s.updCh n (fun c => { c with dec := lvl, lcPend := none })
  if isPartner s n then s
  else if s.sub != 0 then s.updCh n (fun c => { c with lcPend := some (fine, cause, byCompare) })
  else refChange s n lvl ⟨s.ticks, fine⟩ cause byCompare

/-- At the end of an LCLK step its last pin action reaches the pin (R85). -/
def flushPend (s : State) (n : Fin 96) : State :=
  match s.ch[n].lcPend with
  | some (fine, cause, byCompare) =>
    refChange (s.updCh n (fun c => { c with lcPend := none })) n s.ch[n].dec ⟨s.ticks, fine⟩ cause byCompare
  | none => s

/-- The output path takes a level without the stretch rules, in the next tick: the IDLE level of a disabled channel (R83), and a pair made or
undone. The reference level of a pair reaches both outputs with the dead time (R99). -/
def forceRef (s : State) (n : Fin 96) (lvl : Bool) (cause : Nat) : State :=
  let s := (s.updCh n (fun c => { c with dec := lvl, swallow := false, closeAt := none, counted := false })).dropDue
    (· == .stretchClose n)
  let at' : Placement := ⟨s.ticks + 1, s.fine0⟩
  if isPartner s n then driveTo s n lvl at' 0 cause
  else
    let c := s.ch[n]
    if c.refLvl == lvl && (c.out == lvl || c.riseAt.isSome) then s.updCh n (fun c => { c with refAt := none })
    else
      let dt := (dtMinpw s n).1
      let s := driveTo (s.updCh n (fun c => { c with refLvl := lvl, refAt := none })) n lvl at' dt cause
      match partnerOf s n with
      | some k => if chEn s k then driveTo s k (!lvl) at' dt cause else s
      | none => s

/-- A disabled channel takes its IDLE level (R83, R99). -/
def idleOut (s : State) (n : Fin 96) (cause : Nat) : State :=
  if chEn s n then s else forceRef s n (s.bt (chOff n CH.OUTCFG) 1) cause

/-- A disabled channel of a pair drives its IDLE as it stands (R83, R99). An unpaired one keeps the level that it took when EN was cleared
(R87). -/
def pairIdle (s : State) (n : Fin 96) : State := if isPartner s n || (partnerOf s n).isSome then idleOut s n 11 else s

/-- A rise delayed by the dead time ends (R99): the output rises with the fine value of the reference change. -/
def execDeadTimeExpiry (n : Fin 96) (s : State) : Host.Outcome State Fault Refusal :=
  match s.ch[n].riseAt with
  | none => .next s
  | some p => .next (updPad (s.updCh n (fun c => { c with out := true, riseAt := none })) n 6 p.fine 0)

/-- A moved closing change falls (R102). -/
def execStretchClose (n : Fin 96) (s : State) : Host.Outcome State Fault Refusal :=
  match s.ch[n].closeAt with
  | none => .next s
  | some p =>
    .next (closeMoved (s.updCh n (fun c => { c with dec := !c.refLvl })) n p none)

end Sys2Proof.Machine
end

