-- ==== Sys2Proof/Machine/Channel.lean ====
section
/-! DEFINITION. The timer channels (chapter 03): counting and transfers (R57 to R68), captures and the capture FIFO (R69 to R73),
the action queue (R74 to R80), enabling and disabling (R83), and the debug freeze of a channel (R52 to R54). -/

namespace Sys2Proof.Machine

/-! ## Counting (R57 to R61) -/

/-- Whether the boundaries of a channel move a cascaded neighbour down (R59), searched down the chain for at most `fuel`
channels. -/
def cascadeDown (s : State) : Nat → Fin 96 → Bool
  | 0, _ => false
  | fuel + 1, n =>
    match cntMode s n with
    | 2 => true
    | 4 => match follows s n with | some m => pgMode s m == 1 | none => false
    | 5 => match prevCh n with | some k => cascadeDown s fuel k | none => false
    | _ => false

/-- The mode of R58 in which a channel advances: 0 up, 1 down, 2 up-down; none when it holds or follows. -/
def stepMode (s : State) (n : Fin 96) : Option Nat :=
  match cntMode s n with
  | 1 => some 0
  | 2 => some 1
  | 3 => some 2
  | 5 => match prevCh n with | some k => some (if cascadeDown s 96 k then 1 else 0) | none => none
  | _ => none

/-- The advance that the counter of a channel would make now (R57, R58), if it may advance: enabled, running, not frozen and in a
counting mode. -/
def chAdvance (s : State) (n : Fin 96) : Option Advance :=
  let c := s.ch[n]
  if chEn s n && c.run && !c.frozen then
    (stepMode s n).map (fun m => countStep m (s.rdCh n CH.CNT).toNat (s.rdCh n CH.PERIOD_ACT).toNat c.down)
  else none

/-- The counter takes a value (R62): the value it held stays known for the captures of this tick (R71). -/
def takeCount (s : State) (n : Fin 96) (cnt : Nat) (down : Bool) : State :=
  let old := s.rdCh n CH.CNT
  let s := s.wr (chOff n CH.CNT) (w32 cnt)
  s.updCh n (fun c => { c with prevCnt := old, took := s.now, down := down })

/-- The shadows of a channel are copied to its active registers (R66), and PEND clears (R68). -/
def copyShadows (s : State) (n : Fin 96) (withPeriod : Bool) : State :=
  let cp (s : State) (o : Nat) : State := s.wr (chOff n (o + 0x20)) (s.rdCh n o)
  let s := if withPeriod then cp s CH.PERIOD else s
  let s := cp (cp (cp (cp (cp s CH.CMPA) CH.CMPB) CH.CMPC) CH.CMPD) CH.CMPFINE
  s.setBt (chOff n CH.EPOCH) 16 false

/-- The acting update mode (R66): 0 auto, 1 armed, 2 immediate; 3 acts as auto. -/
def updMode (s : State) (n : Fin 96) : Nat := match s.fl (chOff n CH.CTRL) 4 2 with | 1 => 1 | 2 => 2 | _ => 0

/-- A transfer point of a channel outside follow mode (R60, R66): EPOCH and BOUND once in a tick, and a transfer as UPD
allows. `load` is a LOAD action, which is a LOAD itself (R79): a pending write that waits for one lands with it (R68). -/
def transferPoint (s : State) (n : Fin 96) (load : Bool) : State :=
  let c := s.ch[n]
  let s :=
    if c.xferAt = s.now then s
    else
      let s := s.upd (chOff n CH.EPOCH) (fun w => setFld w 0 8 (fld w 0 8 + 1))
      let s := s.updCh n (fun c => { c with xferAt := s.now })
      chEvent s n 4
  match updMode s n with
  | 0 => copyShadows s n true
  | 1 =>
    let s := if load && !c.loadArm then s.upd (chOff n CH.EPOCH) (fun w => if bit w 16 then setFld w 8 8 (fld w 0 8) else w) else s
    if load || c.loadArm then copyShadows (s.updCh n (fun c => { c with loadArm := false })) n true else s
  | _ => s

/-- A boundary moves the cascaded channel above (R59): in the same tick inside a Flight, in the following tick across Flights. -/
def cascadeFrom (s : State) (n : Fin 96) : State :=
  match nextCh n with
  | some k => if cntMode s k = 5 then s.after (if n.val % 12 = 11 then 1 else 0) (.cascadeAdvance k) else s
  | none => s

/-- The effects of one advance of a channel's counter (R58, R60): the count, SHORT, transfer points and the carry into a cascaded
channel. -/
def applyAdvance (s : State) (n : Fin 96) (a : Advance) : State :=
  let s := takeCount s n a.cnt a.down
  let s := if a.boundShort || a.peakShort then chEvent s n 5 else s
  let xfer := a.bound || (a.peak && s.bt (chOff n CH.CTRL) 6)
  let s := if xfer then transferPoint s n false else s
  if a.bound then cascadeFrom s n else s

/-- COUNTER_BOUNDARY: the advance of R58 that ends in a boundary. Without one the state stays. -/
def execCounterBoundary (n : Fin 96) (s : State) : Host.Outcome State Fault Refusal :=
  match chAdvance s n with
  | some a => if a.bound then .next (applyAdvance s n a) else .next s
  | none => .next s

/-- COUNTER_PEAK: the advance of R58 in which an up-down counter reverses at its peak. -/
def execCounterPeak (n : Fin 96) (s : State) : Host.Outcome State Fault Refusal :=
  match chAdvance s n with
  | some a => if a.peak && !a.bound then .next (applyAdvance s n a) else .next s
  | none => .next s

/-- CASCADE_ADVANCE: one up or down advance of a cascaded channel for a boundary of the channel below (R59); a count written for this
tick stands in its place (R87). -/
def execCascadeAdvance (n : Fin 96) (s : State) : Host.Outcome State Fault Refusal :=
  if cntMode s n = 5 && s.ch[n].cntSet != s.now then
    match chAdvance s n with
    | some a => .next (applyAdvance s n a)
    | none => .next s
  else .next s

/-! ## Compares (R62, R63) -/

/-- The period that bounds a channel's compares: that of its group in follow mode. -/
def comparePeriod (s : State) (n : Fin 96) : Nat :=
  match follows s n with
  | some m => (s.rd (pgOff m PG.PERIOD_ACT)).toNat
  | none => (s.rdCh n CH.PERIOD_ACT).toNat

/-- CHn_STAT.DIR: counting down. Up and down modes give the direction, up-down and follow keep it, a cascaded channel has that of
its neighbour's chain. -/
def dirDown (s : State) (n : Fin 96) : Bool :=
  match cntMode s n with
  | 1 => false
  | 2 => true
  | 3 => s.ch[n].down
  | 4 => s.ch[n].down
  | 5 => match prevCh n with | some k => cascadeDown s 96 k | none => false
  | _ => s.ch[n].down

/-- Whether compare letter `k` of a channel matches the value that the counter took in this tick (R62). Up and down mode allow the slope of the
mode; a count written in hold mode lies on the slope of the present direction. -/
def compareDue (s : State) (n : Fin 96) (k : Fin 4) : Bool :=
  let c := s.ch[n]
  let p := comparePeriod s n
  let cnt := (s.rdCh n CH.CNT).toNat
  let mode := match follows s n with
    | some m => pgMode s m
    | none => match cntMode s n with | 3 => 2 | 2 => 1 | 5 => (if dirDown s n then 1 else 0) | _ => 0
  let hold := cntMode s n == 0
  chEn s n && !c.frozen && c.took == s.now
    && matchesAt (s.rdCh n CH.OUTCFG) (mode == 2 || hold) k.val (s.rdCh n (CH.CMPA_ACT + 4 * k.val)).toNat p cnt
      (if hold then !c.down else slopeUp mode p cnt c.down)

/-- COMPARE_MATCH (R62, R63, R82): the event of the letter, and its action at its fine position. An action of a higher letter in
the same tick stands, and an action of the queue in the same tick discards it with COLL. -/
def execCompareMatch (n : Fin 96) (k : Fin 4) (s : State) : Host.Outcome State Fault Refusal :=
  if chEn s n && !s.ch[n].frozen then
    let s := chEvent s n k.val
    let act := fld (s.rdCh n CH.OUTCFG) (2 + 2 * k.val) 2
    let c := s.ch[n]
    if act = 0 then .next s
    else if c.aqPinAt = s.now then .next (chEvent s n 10)
    else if c.cmpPinAt = s.now && k.val < c.cmpLetter then .next s
    else
      let s := s.updCh n (fun c => { c with cmpPinAt := s.now, cmpLetter := k.val })
      .next (decide' s n (actLevel act s.ch[n].dec) (cmpFineOf (s.rdCh n CH.CMPFINE_ACT) k.val) (1 + k.val) true)
  else .next s

/-! ## Shadow writes and commands (R66 to R68, R87) -/

/-- The offset of a shadow in a channel's block. -/
def shadowOffset : Shadow → Nat
  | .period => CH.PERIOD
  | .cmp k => CH.CMPA + 4 * k.val
  | .cmpFine => CH.CMPFINE

/-- The fields of CHn_EPOCH after a shadow write that lands at a later transfer point (R68). -/
def epochPending (w : Word) (landed : Bool) : Word :=
  let w := setBit w 16 true
  if landed then setFld w 8 8 (fld w 0 8 + 1) else w

/-- The acting transfer mode of a group (R92, R111): 0 auto, 1 armed, 2 immediate; 3 acts as auto. -/
def tMode (s : State) (m : Fin 16) : Nat := match s.fl (pgOff m PG.CTRL) 3 2 with | 1 => 1 | 2 => 2 | _ => 0

/-- A write to a shadow of a channel (R66 to R68, R92 to R94): the shadow takes the value; LANDED and PEND follow the update mode,
or the transfer mode of the group that the channel follows. A member's period is no shadow of its group. -/
def writeShadow (s : State) (n : Fin 96) (r : Shadow) (v : Word) : State :=
  let o := shadowOffset r
  let s := s.wr (chOff n o) v
  match follows s n with
  | some m =>
    if r = .period then s
    else
      let s := s.updPg m (fun g => { g with cwrit := true })
      match tMode s m with
      | 2 => (s.wr (chOff n (o + 0x20)) v).upd (chOff n CH.EPOCH) (fun w => setFld w 8 8 (fld w 0 8))
      | 1 => s.upd (chOff n CH.EPOCH) (fun w => epochPending w s.pg[m].loadArm)
      | _ => s.upd (chOff n CH.EPOCH) (fun w => epochPending w true)
  | none =>
    match updMode s n with
    | 2 => (s.wr (chOff n (o + 0x20)) v).upd (chOff n CH.EPOCH) (fun w => setFld w 8 8 (fld w 0 8))
    | 1 => s.upd (chOff n CH.EPOCH) (fun w => epochPending w s.ch[n].loadArm)
    | _ => s.upd (chOff n CH.EPOCH) (fun w => epochPending w true)

/-- CHn_CMD.LOAD (R66, R67, R68): in armed mode it arms the next transfer point and, when a write is pending, sets LANDED. -/
def chLoadCmd (s : State) (n : Fin 96) : State :=
  if (follows s n).isNone && updMode s n = 1 then
    let s := s.updCh n (fun c => { c with loadArm := true })
    s.upd (chOff n CH.EPOCH) (fun w => if bit w 16 then setFld w 8 8 (fld w 0 8 + 1) else w)
  else s

/-- A write to CHn_CNT (R87): it sets the count in the following tick; in follow mode it is ignored. -/
def chCntWrite (s : State) (n : Fin 96) (v : Word) : State :=
  if cntMode s n = 4 then s else s.updCh n (fun c => { c with cntWr := some v })

/-- CHn_CMD.START and STOP (R87). -/
def chStartCmd (s : State) (n : Fin 96) : State := if chEn s n then s.updCh n (fun c => { c with run := true }) else s
def chStopCmd (s : State) (n : Fin 96) : State := s.updCh n (fun c => { c with run := false })

/-! ## The action queue (R74 to R80) -/

/-- Whether entry `a` fires before entry `b` by target (R76): coarse in modular order around the present near time, then fine. -/
def aqLess (now : Word) (a b : AqEntry) : Bool :=
  let x := (a.coarse - now).toInt
  let y := (b.coarse - now).toInt
  decide (x < y) || (decide (x = y) && decide (a.fine < b.fine))

/-- An entry put into its place: behind every entry that does not fire after it (R76). -/
def aqInsert (now : Word) (e : AqEntry) : List AqEntry → List AqEntry
  | [] => [e]
  | x :: xs => if aqLess now e x then e :: x :: xs else x :: aqInsert now e xs

/-- What a channel does with an offered entry (R75). -/
inductive OfferResult where
  | accepted
  | refused
  | absorbed
deriving DecidableEq, Repr

/-- A refused offer (R75): EVT.AQREF and NOTICE AQ_REFUSED. -/
def aqRefuse (s : State) (n : Fin 96) : State := (chEvent s n 9).raise FS.AQ_REFUSED (w32 n.val)

/-- An entry offered to a channel's queue (R75): refused when the channel is disabled or the code reserved; absorbed when the entry
it names fired in this tick; it replaces an unfrozen entry of the same origin and tag, is refused by a frozen one, and else goes
in unless the queue holds 8. -/
def aqOfferEntry (s : State) (n : Fin 96) (e : AqEntry) : State × OfferResult :=
  let c := s.ch[n]
  let same (x : AqEntry) : Bool := x.tagv && x.origin == e.origin && x.tag == e.tag
  if !chEn s n || 10 ≤ e.act then (aqRefuse s n, .refused)
  else if e.tagv && c.firedAt == s.now && (match c.fired with | some x => same x | none => false) then (s, .absorbed)
  else if e.tagv && c.aq.any same then
    if c.aq.any (fun x => same x && x.frz) then (aqRefuse s n, .refused)
    else (s.updCh n (fun c => { c with aq := aqInsert s.near e (c.aq.filter (fun x => !same x)) }), .accepted)
  else if c.aq.length < 8 then (s.updCh n (fun c => { c with aq := aqInsert s.near e c.aq }), .accepted)
  else (aqRefuse s n, .refused)

/-- The entry that a write of CHn_AQ_A offers: the agent's staged target and the written fields (R74, R87). -/
def aqEntryOf (a : Agent) (t v : Word) : AqEntry :=
  { coarse := t, fine := fld v 0 5, act := fld v 8 4, record := bit v 12, frz := bit v 13, tagv := bit v 14, tag := fld v 16 9,
    origin := a, late := false, cancel := false }

/-- A write of CHn_AQ_A (R74, R75). A reserved code also raises RSVD_WRITE. -/
def writeAqA (s : State) (a : Agent) (n : Fin 96) (v : Word) : State :=
  let e := aqEntryOf a (s.lat? a (chOff n CH.AQ_T)) v
  let s := if 10 ≤ e.act then s.rsvd a (chOff n CH.AQ_A) else s
  (aqOfferEntry s n e).1

/-- Every entry is discarded (R80): no action, no record, no AQEMPTY. Newel entries lose their instances (R154). -/
def flushQueue (s : State) (n : Fin 96) : State :=
  let q := s.ch[n].aq
  let s := s.updCh n (fun c => { c with aq := [] })
  q.foldl (fun s e => match e.origin with | .newel w => newelFlushed s w (Fin.ofNat 512 e.tag) | _ => s) s

/-- The action of a firing entry (R79, R81, R82) at a fine position. -/
def aqAct (s : State) (n : Fin 96) (act fine : Nat) : State :=
  let lvl (l : Bool) : State :=
    let s := s.updCh n (fun c => { c with aqPinAt := s.now })
    decide' s n l fine 5 false
  let fol := (follows s n).isSome
  match act with
  | 1 => lvl true
  | 2 => lvl false
  | 3 => lvl (!s.ch[n].dec)
  | 4 => updPad (s.setBt (chOff n CH.OUTCFG) 0 false) n 12 fine 0
  | 5 => updPad (s.setBt (chOff n CH.OUTCFG) 0 true) n 12 fine 0
  | 6 => if fol then s else chStartCmd s n
  | 7 => if fol then s else chStopCmd s n
  | 8 => if fol then s else chCntWrite s n 0
  | 9 => if fol then s else transferPoint s n true
  | _ => s

/-- AQ_FIRE (R77 to R79, R53): the head entry fires when its target is satisfied: on time at its fine value, or late at fine 0 with
EVT.LATE; it acts, leaves the queue and is recorded; AQEMPTY follows in the next tick. -/
def execAqFire (n : Fin 96) (s : State) : Host.Outcome State Fault Refusal :=
  match s.ch[n].aq with
  | [] => .next s
  | e :: q =>
    if s.ch[n].frozen || !reached e.coarse s.near then .next s
    else
      let isLate := e.coarse != s.near
      let lateness := (s.near - e.coarse).toNat
      let fine := if isLate || !s.tbclk then 0 else e.fine
      let at' := if isLate || !s.tbclk then s.fine0 else e.fine
      let s := s.updCh n (fun c => { c with aq := q, fired := some e, firedAt := s.now })
      let s := if isLate then chEvent s n 12 else s
      let s := aqAct s n e.act at'
      let nwl := match e.origin with | .newel w => some w | _ => none
      let slot := if e.tagv then e.tag else 0
      let s := if nwl.isSome || e.record then
          s.offer 3 { src := n.val, typ := 4, lvl := s.ch[n].out, fine := fine, coarse := coarse48 s.tb.tb.toNat,
                      ext := [firedPayload slot nwl e.late e.cancel false e.act lateness], ring := noRing }
        else s
      let s := match nwl with | some w => newelFired s w (Fin.ofNat 512 e.tag) e isLate lateness | none => s
      .next (if q.isEmpty then s.later' 1 (.chEvt n 8) else s)

/-- A CHn_AQ_T write stages the target for the agent (R74). -/
def execAqTWrite (a : Agent) (n : Fin 96) (v : Word) (s : State) : Host.Outcome State Fault Refusal :=
  .next (s.setLat a (chOff n CH.AQ_T) v)

/-- AQ_OFFER: a CHn_AQ_A write (R75). -/
def execAqOffer (a : Agent) (n : Fin 96) (v : Word) (s : State) : Host.Outcome State Fault Refusal := .next (writeAqA s a n v)

/-! ## The input path (R69 to R73) -/

/-- Whether edges in a direction are timestamped by CHn_CAPCFG.EDGE (R70). -/
def edgeSelected (s : State) (n : Fin 96) (rising : Bool) : Bool :=
  match s.wasFl (chOff n CH.CAPCFG) 0 2 with | 0 => rising | 1 => !rising | 2 => true | _ => false

/-- Whether a level is active at a group's trip input (R105). -/
def tripActive (s : State) (m : Fin 16) (lvl : Bool) : Bool := lvl != s.wasBt (pgOff m PG.TRIP) 7

/-- A trip input sees a level sampled in the present tick (R105), through a glitch filter that works as R69: a level that differs from the
accepted one is accepted when it has lasted FILT ticks more, and rejected when it has not. -/
def tripSample (s : State) (m : Fin 16) (lvl : Bool) : State :=
  let on := tripActive s m lvl
  let running := s.later.any (fun x => match x.2 with | .tripAccept k _ => k == m | _ => false)
  if on == s.pg[m].tripLvl then
    { s with later := s.later.filter (fun x => match x.2 with | .tripAccept k _ => k != m | _ => true) }
  else if running then s
  else s.later' (s.wasFl (pgOff m PG.TRIP) 8 8) (.tripAccept m on)

/-- The trip filter accepts a level: its effect comes 2 ticks later (R105), under LCLK counting at the LCLK edge of the sample (R109). -/
def tripAccept (s : State) (m : Fin 16) (on : Bool) : State :=
  (s.updPg m (fun g => { g with tripLvl := on })).after (if s.tbclk then 2 else 0) (if on then .tripAssert m else .tripInputInactive m)

/-- A group looks at its trip input anew in the tick after a write of PGm_TRIP (R61, R105). -/
def tripInput (s : State) (m : Fin 16) : State :=
  let src := s.fl (pgOff m PG.TRIP) 0 7
  tripSample s m (if h : src < 96 then s.ch[src].pin else s.bt (pgOff m PG.TRIP) 7)

/-- The groups whose trip input names a pin. -/
def tripGroups (s : State) (n : Fin 96) : List (Fin 16) :=
  (List.finRange 16).filter (fun m => s.wasFl (pgOff m PG.TRIP) 0 7 == n.val)

/-- A change of a channel's filtered level goes to the lanes of its Flight that read the pin (R189 to R191): a clock edge of an external
clock, a falling edge of the data pin in PULSE mode, and one that starts a word received without a clock. -/
def feedLanes (s : State) (n : Fin 96) (level : Bool) (coarse : Time) (fine : BitVec 5) : State :=
  let feed (s : State) (k : Fin 16) : State :=
    let w := s.rd (lnOff k LN.CTRL)
    let pins := s.rd (lnOff k LN.PINS)
    let at' (lo : Nat) : Bool := fld pins lo 4 == n.val % 12
    let e : EdgeInfo := ⟨n, level, coarse, fine⟩
    if !s.lane[k].on then s
    else if fld w 1 2 = 2 then (if at' 0 && !level then s.after 0 (.pulseEdge k e) else s)
    else if fld w 3 2 = 1 then (if at' 4 then s.after 0 (.laneClockEdge k level) else s)
    else if fld w 3 2 = 3 && fld w 1 2 == 1 && at' 0 && !level then s.after 0 (.laneRxStartEdge k e)
    else s
  feed (feed s (Fin.ofNat 16 (2 * flightOf n))) (Fin.ofNat 16 (2 * flightOf n + 1))

/-- The state in which the sample of a pin waits for the next LCLK edge (R85), in place of an earlier one that waits. -/
def deferSample (s : State) (n : Fin 96) (level : Bool) : State :=
  (s.dropDue (fun c => match c with | .inputEdgeSampled m _ _ => m == n | _ => false)).after 1 (.inputEdgeSampled n level 0)

/-- INPUT_EDGE_SAMPLED (R69): the pin takes a level, with the edge `fine` after the start of the tick that contains it; under LCLK counting it
is sampled at an LCLK edge (R85). A disabled channel's LEVEL follows; an enabled one starts its glitch filter, or rejects the change that the
new one undoes. Trip inputs on the pin see the same sample. -/
def execInputEdgeSampled (n : Fin 96) (level : Bool) (fine : BitVec 5) (s : State) : Host.Outcome State Fault Refusal :=
  let c := s.ch[n]
  if !pinUsable s n then .next s
  else if sampleWaits s then .next (deferSample s n level)
  else if c.pin == level then .next s
  else
    let s := s.updCh n (fun c => { c with pin := level })
    let s := (tripGroups s n).foldl (fun s m => tripSample s m level) s
    if !chEn s n then .next (feedLanes (s.updCh n (fun c => { c with level := level })) n level s.tb.tb (BitVec.ofNat 5 s.fofs))
    else if c.filt.isSome then
      .next ((s.dropDue (· == .glitchFilterExpiry n)).after 0 (.glitchFilterExpiry n))
    else if level == c.level then .next s
    else
      let inTick := fine == 0 || !s.tbclk
      let (t, real) := edgeTimes s fine
      let cnt := if inTick || c.took != s.now then s.rdCh n CH.CNT else c.prevCnt
      let s := s.updCh n (fun c => { c with filt := some ⟨level, BitVec.ofNat 64 (t / 32), t % 32, cnt, real⟩ })
      .next (s.after (s.wasFl (chOff n CH.CAPCFG) 8 8) (.glitchFilterExpiry n))

/-- GLITCH_FILTER_EXPIRY (R69, R57): a change that lasted is accepted: LEVEL, EDGECNT, the edge-counted advance of the next tick
and, in a selected direction, the capture of tick 3 + FILT. One that did not is rejected and counted in FILTCNT. -/
def execGlitchFilterExpiry (n : Fin 96) (s : State) : Host.Outcome State Fault Refusal :=
  match s.ch[n].filt with
  | none => .next s
  | some e =>
    let s := (s.updCh n (fun c => { c with filt := none })).dropDue (· == .glitchFilterExpiry n)
    if s.ch[n].pin != e.level then .next (s.satFl (chOff n CH.FILTCNT) 0 16)
    else
      let s := s.updCh n (fun c => { c with level := e.level })
      let s := feedLanes s n e.level e.coarse (BitVec.ofNat 5 e.fine)
      let s := s.upd (chOff n CH.EDGECNT) (· + 1)
      let sel := edgeSelected s n e.level
      let counts := s.wasBt (chOff n CH.CTRL) 7 && (sel || s.wasFl (chOff n CH.CAPCFG) 0 2 == 3)
      let s := if counts then s.later' 1 (.chCount n) else s
      if sel then .next ((s.updCh n (fun c => { c with caps := c.caps ++ [e] })).after 3 (.capture n)) else .next s

/-- A timestamped edge enters the capture FIFO (R72). -/
def fifoPush (s : State) (n : Fin 96) (e : FifoEntry) : State :=
  let q := s.ch[n].fifo
  if q.length < 8 then s.updCh n (fun c => { c with fifo := q ++ [e] })
  else
    let s := s.satFl (chOff n CH.FIFOSTAT) 8 8
    let was := s.bt (chOff n CH.EVT) 7
    let s := chEvent s n 7
    let s := if was then s else s.raise FS.CAPFIFO_OVF (w32 n.val)
    if s.bt (chOff n CH.CAPCFG) 16 then s.updCh n (fun c => { c with fifo := q.tail ++ [e] }) else s

/-- Whether a recordable edge is recorded by RMODE (R73), and the state in which it is counted. -/
def recordEdge (s : State) (n : Fin 96) (rising : Bool) : Bool × State :=
  let w := s.rdCh n CH.REC
  if bit w (if rising then 2 else 3) then
    let k := s.ch[n].decim
    let s := s.updCh n (fun c => { c with decim := k + 1 })
    match fld w 0 2 with
    | 1 => (true, s)
    | 2 => (k % (fld w 8 8 + 1) == 0, s)
    | _ => (false, s)
  else (false, s)

/-- A timestamped edge goes to every Newel that names the channel (R71, R113, R134): a tooth or encoder edge arrives in the next
tick; phase and encoder edges are evaluated two ticks after that. -/
def feedNewels (s : State) (n : Fin 96) (e : EdgeInfo) : State :=
  (List.finRange 4).foldl (fun s w =>
    let inp := s.rd (nwlOff w NWL.INPUT)
    let mode := s.nwl[w].mode
    if !nwlEn s w || mode = 2 then s
    else if mode = 1 then
      let s := if fld inp 0 7 = n.val || (fld inp 8 7 = n.val) then s.after 3 (.encoderEdge w e) else s
      if fld inp 16 7 = n.val then s.after 3 (.zEdge w e) else s
    else
      let s := if fld inp 0 7 = n.val && e.level != bit inp 7 then s.after 1 (.toothReceive w e) else s
      let s := if fld inp 8 7 = n.val && bit inp 15 then s.after 3 (.phaseInputEdge w 0 e) else s
      if fld inp 16 7 = n.val && bit inp 23 then s.after 3 (.phaseInputEdge w 1 e) else s) s

/-- CAPTURE (R70 to R73): an edge less than 16 ticks of time after the last timestamped one only sets CLOSE; any other is timestamped into CAPA,
CAPB and CAPINFO, raises CAP, enters the FIFO behind the pops of the tick, is recorded under RMODE and goes to the Newels. -/
def execCapture (n : Fin 96) (s : State) : Host.Outcome State Fault Refusal :=
  match s.ch[n].caps with
  | [] => .next s
  | e :: rest =>
    let s := s.updCh n (fun c => { c with caps := rest })
    let t := e.coarse.toNat * 32 + e.fine
    let close := s.tbclk && (match s.ch[n].lastTs with | some l => decide (e.real < l + 16 * 32) | none => false)
    if close then .next (chEvent s n 11)
    else
      let coarse : Time := BitVec.ofNat 64 (t / 32)
      let fine := t % 32
      let s := s.noteEdge.updCh n (fun c => { c with lastTs := some e.real, edgeAt := s.ticks })
      let s := s.wr (chOff n CH.CAPA) (coarse.setWidth 32)
      let s := s.wr (chOff n CH.CAPB) e.count
      let s := s.upd (chOff n CH.CAPINFO) (fun w => w32 (fine + e.level.toNat * 256 + (fld w 16 16 + 1) % 65536 * 65536))
      let s := chEvent s n 6
      let s := s.later' 0 (.fifoPush n ⟨coarse.setWidth 32, fine, e.level, e.count.toNat % 65536⟩)
      let (rec', s) := recordEdge s n e.level
      let s := if rec' then
          s.offer 1 { src := n.val, typ := 0, lvl := e.level, fine := fine, coarse := coarse48 coarse.toNat, ext := [], ring := noRing }
        else s
      .next (feedNewels s n ⟨n, e.level, coarse, BitVec.ofNat 5 fine⟩)

/-! ## Reads with effects (R64, R71, R72) -/

/-- A read of CHn_CAPA (R71): it latches CAPB and CAPINFO for the agent. -/
def readCapa (s : State) (a : Agent) (n : Fin 96) : Word × State :=
  let s := (s.setLat a (chOff n CH.CAPB) (s.rdCh n CH.CAPB)).setLat a (chOff n CH.CAPINFO) (s.rdCh n CH.CAPINFO)
  (s.rdCh n CH.CAPA, s)

/-- A read of CHn_FIFO_T (R72): it pops the head and latches its fields, or zeros. -/
def readFifoT (s : State) (a : Agent) (n : Fin 96) : Word × State :=
  match s.ch[n].fifo with
  | [] => (0, s.setLat a (chOff n CH.FIFO_X) 0)
  | e :: q =>
    let s := s.updCh n (fun c => { c with fifo := q })
    (e.coarse, s.setLat a (chOff n CH.FIFO_X) (w32 (e.fine + e.level.toNat * 256 + 2 ^ 15 + e.cnt16 * 65536)))

/-- A read of CHn_CNT (R64): the count; when the next channel cascades, its count is latched for the agent. -/
def readCnt (s : State) (a : Agent) (n : Fin 96) : Word × State :=
  let v := s.rdCh n CH.CNT
  match nextCh n with
  | some k => if cntMode s k = 5 then (v, s.setLat a (chOff n CH.CNTX) (s.rdCh k CH.CNT)) else (v, s)
  | none => (v, s)

def execCapaRead (a : Agent) (n : Fin 96) (s : State) : Host.Outcome State Fault Refusal := .next ((readCapa s a n).2.keep a (readCapa s a n).1)
def execFifoTRead (a : Agent) (n : Fin 96) (s : State) : Host.Outcome State Fault Refusal := .next ((readFifoT s a n).2.keep a (readFifoT s a n).1)
def execCntRead (a : Agent) (n : Fin 96) (s : State) : Host.Outcome State Fault Refusal := .next ((readCnt s a n).2.keep a (readCnt s a n).1)

/-- CHn_STAT as read (R87). -/
def chStat (s : State) (n : Fin 96) : Word :=
  let c := s.ch[n]
  w32 (c.run.toNat + (dirDown s n).toNat * 2 + c.level.toNat * 4 + c.out.toNat * 8 + (s.bt (chOff n CH.OUTCFG) 0).toNat * 16
    + c.frozen.toNat * 32 + c.laneOwn.toNat * 64 + (chForced s n).toNat * 128)

/-- CHn_AQSTAT and CHn_AQHEAD as read (R87). -/
def chAqStat (s : State) (n : Fin 96) : Word :=
  let q := s.ch[n].aq
  w32 (q.length + (q.filter (·.frz)).length * 256 + (if q.length = 8 then 65536 else 0))
def chAqHead (s : State) (n : Fin 96) : Word := match s.ch[n].aq with | [] => 0 | e :: _ => e.coarse

/-! ## Enable, disable and configuration (R83) -/

/-- EN goes from 0 to 1 (R83): RUN = 1, counting from CHn_CNT, and the filtered level starts at the pin's. -/
def chEnable (s : State) (n : Fin 96) : State :=
  let s := s.setBt (chOff n CH.CTRL) 0 true
  let s := s.updCh n (fun c => { c with run := true, level := c.pin, filt := none, caps := [] })
  if isPartner s n then
    match prevCh n with
    | some b => driveTo s n (!s.ch[b].refLvl) ⟨s.ticks + 1, s.fine0⟩ (dtMinpw s b).1 11
    | none => s
  else s

/-- A write of 0 to EN (R83): the counter holds, the queue is flushed, filtering and capture stop, and the output level becomes IDLE. -/
def chDisable (s : State) (n : Fin 96) : State :=
  let s := s.setBt (chOff n CH.CTRL) 0 false
  let s := flushQueue s n
  let s := s.updCh n (fun c => { c with run := false, level := c.pin, filt := none, caps := [] })
  idleOut (s.dropDue (fun i => i == .glitchFilterExpiry n || i == .capture n)) n 11

/-- A write of CHn_CTRL: the stored word, then EN's change (R83). Cascade mode on CH0 raises RSVD_WRITE (R59). -/
def writeChCtrl (s : State) (a : Agent) (n : Fin 96) (v : Word) : State :=
  let o := chOff n CH.CTRL
  let was := chEn s n
  let s := s.wr o (setBit (v &&& 0xFF) 0 was)
  let s := if n.val = 0 && fld v 1 3 = 5 then s.rsvd a o else s
  if !bit v 0 then chDisable s n else if was then s else chEnable s n

/-- A write of CHn_OUTCFG: OE changes the driver (R81), and a disabled channel of a pair drives the IDLE that it brings (R83). -/
def writeOutcfg (s : State) (n : Fin 96) (v : Word) : State :=
  let s := s.wr (chOff n CH.OUTCFG) (v &&& 0x3FFFF)
  pairIdle (updPad s n 12 s.fine0 1) n

/-- A write of CHn_PWM: COMPL on an even channel raises RSVD_WRITE and acts as 0 (R87); making or undoing a pair, another group or
another safe level acts on the pin. -/
def writeChPwm (s : State) (a : Agent) (n : Fin 96) (v : Word) : State :=
  let o := chOff n CH.PWM
  let was := isPartner s n
  let s := s.wr o (v &&& 0x37F)
  let s := if n.val % 2 == 0 && bit v 4 then s.rsvd a o else s
  let s := match prevCh n with
    | some b =>
      if !was && isPartner s n then
        let s := pairIdle s b
        if chEn s n then driveTo s n (!s.ch[b].refLvl) ⟨s.ticks + 1, s.fine0⟩ (dtMinpw s b).1 11 else s
      else if was && !isPartner s n then forceRef s n s.ch[n].dec 11
      else s
    | none => s
  pairIdle (updPad s n 8 s.fine0 1) n

/-- A write of CHn_CMD (R87): each bit acts; STOP and START both 1 leave RUN unchanged. -/
def writeChCmd (s : State) (n : Fin 96) (v : Word) : State :=
  let s := if bit v 0 then chLoadCmd s n else s
  let s := if bit v 1 then flushQueue s n else s
  let s := if bit v 2 then s.updCh n (fun c => { c with fifo := [] }) else s
  if bit v 3 && bit v 4 then s else if bit v 3 then chStopCmd s n else if bit v 4 then chStartCmd s n else s

def execChLoad (_ : Agent) (n : Fin 96) (s : State) : Host.Outcome State Fault Refusal := .next (chLoadCmd s n)
def execFlush (_ : Agent) (n : Fin 96) (s : State) : Host.Outcome State Fault Refusal := .next (flushQueue s n)
def execFifoclr (_ : Agent) (n : Fin 96) (s : State) : Host.Outcome State Fault Refusal :=
  .next (s.updCh n (fun c => { c with fifo := [] }))
def execChStop (_ : Agent) (n : Fin 96) (s : State) : Host.Outcome State Fault Refusal := .next (chStopCmd s n)
def execChStart (_ : Agent) (n : Fin 96) (s : State) : Host.Outcome State Fault Refusal := .next (chStartCmd s n)
/-- CHANNEL_ENABLE: a write of 1 to EN (R83). -/
def execChannelEnable (_ : Agent) (n : Fin 96) (s : State) : Host.Outcome State Fault Refusal :=
  .next (if chEn s n then s else chEnable s n)
/-- CHANNEL_DISABLE: a write of 0 to EN (R83). -/
def execChannelDisable (_ : Agent) (n : Fin 96) (s : State) : Host.Outcome State Fault Refusal :=
  .next (chDisable s n)
def execCntWrite (_ : Agent) (n : Fin 96) (v : Word) (s : State) : Host.Outcome State Fault Refusal := .next (chCntWrite s n v)

/-- A write of a shadow: CMPFINE keeps its defined bits, a nonzero reserved bit raises RSVD_WRITE (R11). -/
def shadowWriteBy (s : State) (a : Agent) (n : Fin 96) (r : Shadow) (v : Word) : State :=
  let m : Word := if r = .cmpFine then 0x1F1F1F1F else 0xFFFFFFFF
  let s := if v &&& ~~~m = 0 then s else s.rsvd a (chOff n (shadowOffset r))
  writeShadow s n r (v &&& m)

/-- SHADOW_WRITE (R67). -/
def execShadowWrite (a : Agent) (n : Fin 96) (r : Shadow) (v : Word) (s : State) : Host.Outcome State Fault Refusal :=
  .next (shadowWriteBy s a n r v)

/-! ## Debug freeze (R52 to R54) -/

/-- CHANNEL_FREEZE (R52, R53). -/
def execChannelFreeze (n : Fin 96) (s : State) : Host.Outcome State Fault Refusal :=
  .next (s.updCh n (fun c => { c with frozen := true }))

end Sys2Proof.Machine
end

