-- ==== Sys2Proof/Machine/TxnBase.lean ====
section
/-! DEFINITION. The ends of commits and descriptors that other blocks bring about (R274, R320): failing a commit whose boundary cannot
come, and ending a descriptor with a status. -/

namespace Sys2Proof.Machine

/-- The status codes of R274. -/
abbrev ST.OK : Nat := 0
abbrev ST.BADOPC : Nat := 1
abbrev ST.BADFIELD : Nat := 2
abbrev ST.RANGE : Nat := 3
abbrev ST.OVERLAP : Nat := 4
abbrev ST.CODEWR : Nat := 5
abbrev ST.HOSTERR : Nat := 6
abbrev ST.ECC : Nat := 7
abbrev ST.CONFLICT : Nat := 8
abbrev ST.TXNSTATE : Nat := 9
abbrev ST.TXNFULL : Nat := 10
abbrev ST.TXNFAIL : Nat := 11
abbrev ST.ABORT : Nat := 12

/-- The state of a transaction with `f` applied. -/
def State.updTxn (s : State) (t : Fin 8) (f : Txn → Txn) : State := { s with txn := s.txn.set t (f s.txn[t]) }

/-- TXNt_STAT.STATE: 0 IDLE, 1 OPEN, 2 PENDING. -/
def txnState (s : State) (t : Fin 8) : Nat := s.fl (txnOff t TXN.STAT) 0 2

/-- The descriptor under way on a ring ends with a status; its completion is left (R277). -/
def endDesc (s : State) (r : Fin 64) (st : Nat) (result : Word) : State :=
  match s.ring[r].cur with
  | some d =>
    let d' : Desc := { d with status := st, result := result, ended := true, waits := false }
    { s with ring := s.ring.set r { s.ring[r] with cur := some d' } }
  | none => s

/-- The TXN_COMMIT that waits for a transaction, if any, ends with a status. -/
def endCommit (s : State) (t : Fin 8) (st : Nat) (result : Word) : State :=
  let s' := s.updTxn t (fun x => { x with ring := none })
  match s.txn[t].ring with
  | some r => endDesc s' r st result
  | none => s'

/-- NOTICE TXN_FAIL and its bits (R320). -/
def txnFailed (s : State) (t : Fin 8) : State :=
  let s := s.setEv R.TXN_EVT (8 + t.val)
  (s.setFl (txnOff t TXN.STAT) 8 8 ST.TXNFAIL).raise FS.TXN_FAIL

/-- A pending commit that cannot land returns its transaction to OPEN (R320). -/
def failCommit (s : State) (t : Fin 8) : State :=
  if txnState s t = 2 then
    let s := (s.setFl (txnOff t TXN.STAT) 0 2 1).dropDue (· == .landing t)
    endCommit (txnFailed s t) t ST.TXNFAIL 0
  else s

/-- The pending commits of a boundary and unit fail: those of a group that stops (R317), those of a Newel that cancels (R319). One whose
landing falls in this tick lands. -/
def failCommits (s : State) (bound unit : Nat) : State :=
  (List.finRange 8).foldl (fun s t =>
    let now := s.agenda.any (fun d => d.cmd == .landing t && d.tick ≤ s.ticks)
    if txnState s t = 2 && s.txn[t].bound == bound && s.txn[t].unit == unit && !now then failCommit s t else s) s

end Sys2Proof.Machine
end

