-- ==== Sys2Proof/Machine/Pwm.lean ====
section
/-! DEFINITION. PWM groups (chapter 04): the master count and its starts (R88 to R90), transfer points and the SPLIT rule (R91 to
R94), the stagger command (R95), and trips (R105 to R108). -/

namespace Sys2Proof.Machine

/-- The word of a group's register. -/
def State.rdPg (s : State) (m : Fin 16) (o : Nat) : Word := s.rd (pgOff m o)

/-- PGm_CTRL.EN. -/
def pgEn (s : State) (m : Fin 16) : Bool := s.bt (pgOff m PG.CTRL) 0

/-- The members of a group: the channels in follow mode that name it. -/
def members (s : State) (m : Fin 16) : List (Fin 96) := (List.finRange 96).filter (fun n => follows s n == some m)

/-- The state with `f` applied for every member of a group in turn. -/
def eachMember (s : State) (m : Fin 16) (f : State → Fin 96 → State) : State := (members s m).foldl f s

/-- An event of a group: its bit in PGm_EVT, and in the same tick an SRQ when PGm_SRQEN enables it (R108). -/
def pgEvent (s : State) (m : Fin 16) (b : Nat) : State :=
  let s := s.setEv (pgOff m PG.EVT) b
  if s.bt (pgOff m PG.SRQEN) b then s.srqVia (pgOff m PG.ROUTE) (.pg m) 0 else s

/-! ## Counts (R88 to R90) -/

/-- The count and direction of a member (R90). -/
def memberCount (s : State) (m : Fin 16) (n : Fin 96) : Nat × Bool :=
  let mode := pgMode s m
  let p := (s.rdPg m PG.PERIOD_ACT).toNat
  let ph := match memberSlot s m n with | some k => (s.pg[m].mphAct[k]).toNat | none => 0
  memberAt mode p (pgPos mode p (s.rdPg m PG.CNT).toNat s.pg[m].down) ph

/-- Whether the counter of a member counts: enabled, running and not frozen (R53, R57, R83). -/
def memberCounts (s : State) (n : Fin 96) : Bool := chEn s n && s.ch[n].run && !s.ch[n].frozen

/-- Every member that counts takes its count (R90). -/
def countMembers (s : State) (m : Fin 16) : State :=
  eachMember s m (fun s n =>
    if memberCounts s n then
      let c := memberCount s m n
      takeCount s n c.1 c.2
    else s)

/-- A member whose count or direction moved without its group's count, by joining a group or by a new phase, takes it (R90). DEDUCED
(assumption 39): its compares match on it. -/
def settleMember (s : State) (n : Fin 96) : State :=
  match follows s n with
  | some m =>
    let c := memberCount s m n
    if memberCounts s n && s.ch[n].took != s.now && ((s.rdCh n CH.CNT).toNat != c.1 || s.ch[n].down != c.2) then takeCount s n c.1 c.2 else s
  | none => s

/-- The group's count and direction become these. -/
def setGroupCount (s : State) (m : Fin 16) (cnt : Nat) (down : Bool) : State :=
  (s.wr (pgOff m PG.CNT) (w32 cnt)).updPg m (fun g => { g with down := down, took := s.now })

/-- The advance that a running group makes in this tick (R88). -/
def pgAdvance (s : State) (m : Fin 16) : Option Advance :=
  if pgEn s m && s.pg[m].run then
    some (countStep (pgMode s m) (s.rdPg m PG.CNT).toNat (s.rdPg m PG.PERIOD_ACT).toNat s.pg[m].down)
  else none

/-! ## Transfer points (R91 to R94) -/

/-- The phase shadows are copied to the active phases. -/
def copyPhases (s : State) (m : Fin 16) : State :=
  s.updPg m (fun g => { g with mphAct := Vector.ofFn (fun k : Fin 12 => s.rdPg m (PG.MPH + 4 * k.val)) })

/-- A member's part in a transfer point: EPOCH, BOUND, and the transfer of its compares. A frozen member counts no transfer point
and its transfer is held until the first one after its release (R53, R54, R91). -/
def memberXfer (s : State) (xfer : Bool) (n : Fin 96) : State :=
  if s.ch[n].frozen then (if xfer then s.updCh n (fun c => { c with xferHeld := true }) else s)
  else
    let s := s.upd (chOff n CH.EPOCH) (fun w => setFld w 0 8 (fld w 0 8 + 1))
    let s := chEvent (s.updCh n (fun c => { c with xferAt := s.now })) n 4
    let s := if s.ch[n].xferHeld then s.upd (chOff n CH.EPOCH) (fun w => setFld w 8 8 (fld w 0 8)) else s
    if xfer || s.ch[n].xferHeld then copyShadows (s.updCh n (fun c => { c with xferHeld := false })) n false else s

/-- The period shadow is copied, and PEND of the group clears. -/
def copyPeriod (s : State) (m : Fin 16) : State :=
  (s.wr (pgOff m PG.PERIOD_ACT) (s.rdPg m PG.PERIOD)).setBt (pgOff m PG.EPOCH) 16 false

/-- A transfer point of a group (R91 to R94): the epochs step, members raise BOUND, and the transfer takes place as TMODE allows. In
auto mode a period written without compares raises SPLIT and, under HOLDSPLIT, waits for the next transfer point, which brings it in any
mode. -/
def pgTransferPoint (s : State) (m : Fin 16) : State :=
  let g := s.pg[m]
  let mode := tMode s m
  let s := s.upd (pgOff m PG.EPOCH) (fun w => setFld w 0 8 (fld w 0 8 + 1))
  let split := mode = 0 && g.pwrit && !g.cwrit && !g.held
  let hold := split && s.bt (pgOff m PG.CTRL) 6
  let xfer := mode = 0 || (mode = 1 && g.loadArm)
  let s := s.updPg m (fun g => { g with pwrit := false, cwrit := false, held := hold, xferAt := s.now,
                                        loadArm := g.loadArm && !xfer })
  let s := if split then (pgEvent s m 3).raise FS.SPLIT (w32 m.val) else s
  let s := if xfer then copyPhases s m else s
  let s := if hold then s.upd (pgOff m PG.EPOCH) (fun w => setBit (setFld w 8 8 (fld w 0 8 + 1)) 16 true)
    else if xfer || g.held then copyPeriod s m else s
  eachMember s m (fun s n => memberXfer s xfer n)

/-! ## Trips (R105 to R108) -/

/-- How many periods of the window are tripped, the present one included (R107). -/
def tripCount (s : State) (m : Fin 16) : Nat :=
  let win := max 1 (s.fl (pgOff m PG.TRIP) 24 8)
  (s.pg[m].tripHist.take (win - 1)).countP id + s.pg[m].tripNow.toNat

/-- The members follow the forced state of their group at their pins. -/
def padMembers (s : State) (m : Fin 16) (cause : Nat) : State := eachMember s m (fun s n => updPad s n cause s.fine0 0)

/-- A trip is asserted (R107, R108): members are forced, EVT.TRIP is set with NOTICE PG_TRIP when it was 0, the present period is
tripped, counted once in PGm_TRIPSTAT.TOTAL (R111), and the group latches off when the window's count reaches N. -/
def tripFire (s : State) (m : Fin 16) : State :=
  let was := s.bt (pgOff m PG.EVT) 4
  let s := pgEvent s m 4
  let s := if was then s else s.raise FS.PG_TRIP (w32 m.val)
  let s := if s.pg[m].tripTot then s
    else (s.satFl (pgOff m PG.TRIPSTAT) 16 16).upd (R.LIFE_TRIP + 4 * m.val) (fun w => w32 (satInc 0xFFFFFFFF w.toNat))
  let s := s.updPg m (fun g => { g with tripped := true, tripNow := true, tripTot := true, assertAt := s.now })
  let n := s.fl (pgOff m PG.TRIP) 16 8
  let s := if n != 0 && !s.pg[m].latched && n ≤ tripCount s m then
      (pgEvent (s.updPg m (fun g => { g with latched := true })) m 5).raiseLevel (FS.PG_LATCHOFF + m.val) (w32 m.val)
    else s
  padMembers s m 8

/-- The members return to their decided levels (R106): an active output starts its dead time, the others follow at once. -/
def releaseMembers (s : State) (m : Fin 16) : State :=
  let s := s.updPg m (fun g => { g with tripped := false })
  eachMember s m (fun s n =>
    let base := if isPartner s n then (prevCh n).getD n else n
    let dt := (dtMinpw s base).1
    if 0 < dt && (s.ch[n].out || s.ch[n].riseAt.isSome) then
      let s := (s.updCh n (fun c => { c with out := false, riseAt := some ⟨s.ticks + dt, s.fine0⟩ })).dropDue (· == .deadTimeExpiry n)
      updPad (s.afterTicks dt (.deadTimeExpiry n)) n 9 s.fine0 0
    else updPad s n 9 s.fine0 0)

/-- Whether an agenda command falls due in the present tick. -/
def dueNow (s : State) (c : Instr) : Bool := s.agenda.any (fun d => d.cmd == c && d.tick ≤ s.ticks)

/-- The filtered trip input in the present tick, with the changes that fall in it. -/
def tripLevel (s : State) (m : Fin 16) : Bool :=
  (s.pg[m].tripIn && !dueNow s (.tripInputInactive m)) || dueNow s (.tripAssert m)

/-- A boundary's effect on trips (R106, R107): a new period enters the window, an input still active asserts the trip again, and
with the input inactive a group that is not latched releases its members. A FORCE that acts in this tick counts as an active input, and
its trip belongs to the new period. -/
def tripBoundary (s : State) (m : Fin 16) : State :=
  let s := s.updPg m (fun g => { g with tripHist := (g.tripNow :: g.tripHist).take 254, tripNow := false, tripTot := false })
  let g := s.pg[m]
  if tripLevel s m || g.forceNext then
    if g.tripIn && !dueNow s (.tripInputInactive m) then tripFire s m else s
  else if g.tripped && !g.latched then releaseMembers s m
  else s

/-- TRIP_ASSERT (R105, R107): the filtered input becomes active, or FORCE acts in this tick. -/
def execTripAssert (m : Fin 16) (s : State) : Host.Outcome State Fault Refusal :=
  .next (tripFire (s.updPg m (fun g => { g with tripIn := true })) m)

/-- TRIP_INPUT_INACTIVE (R106): TRIPIN clears; the next boundary or a TRIPCLR can release the members. -/
def execTripInputInactive (m : Fin 16) (s : State) : Host.Outcome State Fault Refusal :=
  .next (s.updPg m (fun g => { g with tripIn := false }))

/-- A TRIPCLR acts in the tick after it is served (R107): the latch and the window count clear, and a group that does not run releases its
members. -/
def actTripclr (s : State) (m : Fin 16) : State :=
  let g := s.pg[m]
  if g.clrNext then
    let s := (s.updPg m (fun g => { g with clrNext := false, latched := false, tripHist := [], tripNow := false })).endLevel
      (FS.PG_LATCHOFF + m.val)
    if !g.run && g.tripped then releaseMembers s m else s
  else s

/-- A FORCE acts in the tick after it is served, behind the boundary of that tick (R105, R107); one tick asserts a trip once. -/
def actForce (s : State) (m : Fin 16) : State :=
  if s.pg[m].forceNext then
    let s := s.updPg m (fun g => { g with forceNext := false, forcedAt := s.now })
    if s.pg[m].assertAt == s.now then s else tripFire s m
  else s

/-! ## Boundaries, peaks and starts -/

/-- Groups that wait for a boundary of group `m` start in this tick (R89). -/
def startFollowers (s : State) (m : Fin 16) : State :=
  (List.finRange 16).foldl (fun s k =>
    if k != m && pgEn s k && s.pg[k].armed && !s.pg[k].run && s.fl (pgOff k PG.CTRL) 8 2 == 2
        && s.fl (pgOff k PG.CTRL) 12 4 == m.val then s.after 0 (.pgGroupStart k) else s) s

/-- The effects of one advance of a group (R88, R91): count and direction, its events, a transfer point, the boundary's effect on
trips and on groups that wait, the members' counts, and the carries into channels above members that count (R59). -/
def pgApply (s : State) (m : Fin 16) (a : Advance) : State :=
  let s := setGroupCount s m a.cnt a.down
  let pkx := a.peak && s.bt (pgOff m PG.CTRL) 5
  let s := if a.peak then pgEvent s m 1 else s
  let s := if a.bound || pkx then pgEvent s m 0 else s
  let s := if a.boundShort || a.peakShort then eachMember (pgEvent s m 2) m (fun s n => chEvent s n 5) else s
  let s := if a.bound || pkx then pgTransferPoint s m else s
  let s := countMembers s m
  let s := if a.bound then startFollowers (tripBoundary (s.updPg m (fun g => { g with boundAt := s.now })) m) m else s
  if a.bound then eachMember s m (fun s n => if memberCounts s n then cascadeFrom s n else s) else s

/-- PG_BOUNDARY (R88, R91): the advance that ends in a boundary. Without one the state stays. -/
def execPgBoundary (m : Fin 16) (s : State) : Host.Outcome State Fault Refusal :=
  match pgAdvance s m with
  | some a => if a.bound then .next (pgApply s m a) else .next s
  | none => .next s

/-- PG_PEAK (R88): the advance that reaches the peak of an up-down count. -/
def execPgPeak (m : Fin 16) (s : State) : Host.Outcome State Fault Refusal :=
  match pgAdvance s m with
  | some a => if a.peak && !a.bound then .next (pgApply s m a) else .next s
  | none => .next s

/-- PGm_CMD.START (R89): it arms an enabled group that does not run; under STARTSRC command, a reserved code, or a reference to
itself, the start follows in the next tick. -/
def pgStartCmd (s : State) (m : Fin 16) : State :=
  if pgEn s m && !s.pg[m].run then
    let src := s.fl (pgOff m PG.CTRL) 8 2
    let self := src = 2 && s.fl (pgOff m PG.CTRL) 12 4 = m.val
    s.updPg m (fun g => { g with armed := true, startNext := g.startNext || src = 0 || src = 3 || self })
  else s

/-- PGm_CMD.STOP, and the clearing of EN (R89): the count holds. A period-end commit that waits on the group fails (R317). -/
def pgStopCmd (s : State) (m : Fin 16) : State :=
  failCommits (s.updPg m (fun g => { g with run := false, armed := false, startNext := false })) 3 m.val

/-- PG_START (R89). -/
def execPgStart (_ : Agent) (m : Fin 16) (s : State) : Host.Outcome State Fault Refusal := .next (pgStartCmd s m)

/-- PG_STOP (R89). -/
def execPgStop (_ : Agent) (m : Fin 16) (s : State) : Host.Outcome State Fault Refusal := .next (pgStopCmd s m)

/-- PG_DISABLE (R89): EN clears, which acts as STOP. -/
def execPgDisable (_ : Agent) (m : Fin 16) (s : State) : Host.Outcome State Fault Refusal :=
  .next (pgStopCmd (s.setBt (pgOff m PG.CTRL) 0 false) m)

/-- PG_GROUP_START (R89): RUN and STARTED, a transfer point that is no boundary, then position PHASE modulo L and the count and
direction that follow from it. -/
def execPgGroupStart (m : Fin 16) (s : State) : Host.Outcome State Fault Refusal :=
  if pgEn s m && s.pg[m].armed && !s.pg[m].run then
    let s := pgEvent (s.updPg m (fun g => { g with run := true, armed := false, startNext := false })) m 6
    let s := pgTransferPoint s m
    let c := memberAt (pgMode s m) (s.rdPg m PG.PERIOD_ACT).toNat (s.rdPg m PG.PHASE).toNat 0
    .next (countMembers (setGroupCount s m c.1 c.2) m)
  else .next s

/-- CHANNEL_RELEASE (R54): the pin is resolved again, and a member takes its group's count, also that of a stopped group; passed entries
fire one per tick from here on, and held transfers take place at the next transfer point. -/
def execChannelRelease (n : Fin 96) (s : State) : Host.Outcome State Fault Refusal :=
  let s := s.updCh n (fun c => { c with frozen := false })
  let s := match follows s n with
    | some m =>
      if chEn s n && s.ch[n].run && !s.pg[m].run then
        let c := memberCount s m n
        (s.wr (chOff n CH.CNT) (w32 c.1)).updCh n (fun x => { x with down := c.2 })
      else s
    | none => s
  .next (updPad s n 12 s.fine0 0)

/-! ## Shadows and commands (R92 to R95) -/

/-- PGm_EPOCH after a write to a shadow of the group (R68, R94). -/
def pgEpochWrite (s : State) (m : Fin 16) : State :=
  match tMode s m with
  | 2 => s.upd (pgOff m PG.EPOCH) (fun w => setFld w 8 8 (fld w 0 8))
  | 1 => s.upd (pgOff m PG.EPOCH) (fun w => epochPending w s.pg[m].loadArm)
  | _ => s.upd (pgOff m PG.EPOCH) (fun w => epochPending w true)

/-- A write to PGm_PERIOD (R92, R93, R94). -/
def writePgPeriod (s : State) (m : Fin 16) (v : Word) : State :=
  let s := (s.wr (pgOff m PG.PERIOD) v).updPg m (fun g => { g with pwrit := true })
  let s := if tMode s m = 2 then s.wr (pgOff m PG.PERIOD_ACT) v else s
  pgEpochWrite s m

/-- A write to PGm_MPHk (R91, R92). -/
def writePgPhase (s : State) (m : Fin 16) (k : Fin 12) (v : Word) : State :=
  let s := s.wr (pgOff m (PG.MPH + 4 * k.val)) v
  let s := if tMode s m = 2 then s.updPg m (fun g => { g with mphAct := g.mphAct.set k v }) else s
  pgEpochWrite s m

/-- PGm_CMD.LOAD (R92, R94): in armed mode it arms the next transfer point of the group and names the epoch of what waits for
it. -/
def pgLoadCmd (s : State) (m : Fin 16) : State :=
  if tMode s m = 1 then
    let mark (w : Word) : Word := if bit w 16 then setFld w 8 8 (fld w 0 8 + 1) else w
    let s := (s.updPg m (fun g => { g with loadArm := true })).upd (pgOff m PG.EPOCH) mark
    eachMember s m (fun s n => s.upd (chOff n CH.EPOCH) mark)
  else s

/-- PG_LOAD (R92). -/
def execPgLoad (_ : Agent) (m : Fin 16) (s : State) : Host.Outcome State Fault Refusal := .next (pgLoadCmd s m)

/-- PGm_CMD.STAGGER (R95): the enabled member slots receive floor(r L / N), r being their rank, as shadow writes. -/
def staggerCmd (s : State) (m : Fin 16) : State :=
  let on := (List.finRange 12).filter (fun k => s.bt (pgOff m (PG.MCH + 4 * k.val)) 7)
  let l := periodLen (pgMode s m) (s.rdPg m PG.PERIOD).toNat
  on.zipIdx.foldl (fun s x => writePgPhase s m x.1 (w32 (min (x.2 * l / on.length) 0xFFFFFFFF))) s

/-- STAGGER (R95). -/
def execStagger (_ : Agent) (m : Fin 16) (s : State) : Host.Outcome State Fault Refusal := .next (staggerCmd s m)

/-- PGm_CMD.TRIPCLR (R107): served with the input inactive it acts in the next tick, else it has no effect. In a tick in which FORCE acts the
input counts as active (R105). -/
def tripclrCmd (s : State) (m : Fin 16) : State :=
  if s.pg[m].tripIn || s.pg[m].forcedAt == s.now then s else s.updPg m (fun g => { g with clrNext := true })

/-- TRIPCLR (R107). -/
def execTripclr (_ : Agent) (m : Fin 16) (s : State) : Host.Outcome State Fault Refusal := .next (tripclrCmd s m)

/-- FORCE (R105): a trip asserted in the next tick. -/
def execForce (_ : Agent) (m : Fin 16) (s : State) : Host.Outcome State Fault Refusal :=
  .next (s.updPg m (fun g => { g with forceNext := true }))

/-- PG_CNT_WRITE (R89): the count of the following tick, in place of that tick's advance. -/
def execPgCntWrite (_ : Agent) (m : Fin 16) (v : Word) (s : State) : Host.Outcome State Fault Refusal :=
  .next (s.updPg m (fun g => { g with cntWr := some v }))

/-- A write of PGm_CTRL (R89, R111). -/
def writePgCtrl (s : State) (m : Fin 16) (v : Word) : State :=
  let s := s.wr (pgOff m PG.CTRL) (v &&& 0xF37F)
  if bit v 0 then s else pgStopCmd s m

/-- A write of PGm_CMD: each bit acts; START and STOP both 1 change neither RUN nor ARMED (R111). -/
def writePgCmd (s : State) (m : Fin 16) (v : Word) : State :=
  let s := if bit v 0 && !bit v 1 then pgStartCmd s m else if bit v 1 && !bit v 0 then pgStopCmd s m else s
  let s := if bit v 2 then pgLoadCmd s m else s
  let s := if bit v 3 then staggerCmd s m else s
  let s := if bit v 4 then tripclrCmd s m else s
  if bit v 5 then s.updPg m (fun g => { g with forceNext := true }) else s

/-- A write of PGm_TRIP: the input it names is sampled from the next tick on (R105). -/
def writePgTrip (s : State) (m : Fin 16) (v : Word) : State :=
  (s.wr (pgOff m PG.TRIP) v).laterTicks 1 (.tripInput m)

/-- PGm_STAT as read (R111). -/
def pgStat (s : State) (m : Fin 16) : Word :=
  let g := s.pg[m]
  let down := match pgMode s m with | 0 => false | 1 => true | _ => g.down
  w32 (g.run.toNat + down.toNat * 2 + g.armed.toNat * 4 + g.loadArm.toNat * 8 + g.held.toNat * 16 + g.tripped.toNat * 32
    + g.latched.toNat * 64 + g.tripIn.toNat * 128)

/-- PGm_TRIPSTAT as read: WCNT beside the total (R111). -/
def pgTripstat (s : State) (m : Fin 16) : Word := setFld (s.rdPg m PG.TRIPSTAT) 0 8 (tripCount s m)

end Sys2Proof.Machine
end

