-- ==== Sys2Proof/Machine/Landing.lean ====
section
/-! DEFINITION. Record groups and the Landing buffer (chapter 11): encoding (R290 to R294), anchors (R295), entry and routing (R296,
R297), quotas, tallies and loss groups (R299 to R302), and markers. -/

namespace Sys2Proof.Machine

/-! ## Groups and their entries -/

/-- A record of 64 bits (R290). -/
def record (src : Nat) (lvl : Bool) (fine typ coarse : Nat) : BitVec 64 :=
  BitVec.ofNat 64 (src % 128 * 2 ^ 57 + lvl.toNat * 2 ^ 56 + fine % 32 * 2 ^ 51 + typ % 8 * 2 ^ 48 + coarse % 2 ^ 48)

/-- The pad record (R292). -/
def padRecord : BitVec 64 := BitVec.allOnes 64

/-- The records of a group: the principal, then its extensions (R292). -/
def groupRecords (g : RecGroup) : List (BitVec 64) :=
  record g.src g.lvl g.fine g.typ g.coarse :: g.ext.map (fun p => record g.src false 0 7 p)

/-- The entries that a group takes (R293). -/
def groupSize (g : RecGroup) : Nat := 1 + g.ext.length

/-- An ordinary group is neither an anchor nor a loss group (R299). -/
def ordinary (g : RecGroup) : Bool := g.typ != 2 && g.typ != 3

/-! ## Rings as the Landing buffer sees them -/

/-- The state of a ring: RINGr_STAT.STATE (R266): 0 OFF, 1 IDLE, 2 ACTIVE, 3 DRAIN, 4 HALT, 5 DETACHED. -/
def ringState (s : State) (r : Fin 64) : Nat := s.fl (ringOff r RING.STAT) 0 3

/-- RINGr_CFG.EN. -/
def ringEn (s : State) (r : Fin 64) : Bool := s.bt (ringOff r RING.CFG) 0

/-- RINGr_CFG.TYPE: 0 CMD, 1 WAVE, 2 CAPT, 3 CMPL, 4 EVT. -/
def ringType (s : State) (r : Fin 64) : Nat := s.fl (ringOff r RING.CFG) 1 3

/-- Whether a ring takes records (R297): a CAPT ring that is IDLE, ACTIVE or DETACHED. -/
def takesRecords (s : State) (r : Fin 64) : Bool :=
  ringType s r == 2 && (let st := ringState s r; st == 1 || st == 2 || st == 5)

/-- The ring a group is routed to (R297). Loss, anchor and fault groups name their own. -/
def groupRing (s : State) (g : RecGroup) : Fin 64 :=
  if g.typ = 2 || g.typ = 3 || g.typ = 5 then g.ring
  else if h : g.src < 96 then Fin.ofNat 64 (s.fl (chOff ⟨g.src, h⟩ CH.REC) 16 6)
  else if g.src = 96 then Fin.ofNat 64 (s.fl R.GAL_RECCFG 0 6)
  else if g.src = 97 then Fin.ofNat 64 (s.fl R.GAL_RECCFG 8 6)
  else if g.src < 108 then Fin.ofNat 64 (s.fl (nwlOff (Fin.ofNat 4 (g.src - 104)) NWL.RECCFG) 8 6)
  else if g.src < 114 then Fin.ofNat 64 (s.fl R.GAL_RECCFG 16 6)
  else g.ring

/-- The entries that a held group still takes. -/
def heldSize (h : Held) : Nat := groupSize h.g - h.freed

/-- LAND_OCC: the entries held. -/
def landOcc (s : State) : Nat := (s.land.pool.map heldSize).sum

/-- Free entries of the pool (R296). -/
def poolRoom (s : State) : Nat := 65536 - landOcc s

/-- The room that is left for groups other than anchors: freed entries go to waiting anchor groups first (R295). -/
def freeRoom (s : State) : Nat := poolRoom s - 2 * (s.land.reserve.filter (fun g => g.typ == 3)).length

/-- The occupancy of a ring: entries of its ordinary groups (R299). -/
def ringOcc (s : State) (r : Fin 64) : Nat :=
  ((s.land.pool.filter (fun h => h.g.ring == r && ordinary h.g)).map heldSize).sum

/-- QUOTA in entries as it acts (R313). -/
def quotaEntries (s : State) (r : Fin 64) : Nat := 32 * max 1 (min 2048 (s.fl (capOff r CAP.CFG) 0 12))

/-- RESUME in entries as it acts (R313). -/
def resumeEntries (s : State) (r : Fin 64) : Nat := min (32 * s.fl (capOff r CAP.CFG) 16 12) (quotaEntries s r - 32)

/-- CAPr_CFG.POLICY: DROPOLD. -/
def dropOld (s : State) (r : Fin 64) : Bool := s.bt (capOff r CAP.CFG) 28

/-- CAPr_STAT.DISC. -/
def discarding (s : State) (r : Fin 64) : Bool := s.bt (capOff r CAP.STAT) 17

/-- The state of a ring with `f` applied. -/
def State.updRing (s : State) (r : Fin 64) (f : Ring → Ring) : State := { s with ring := s.ring.set r (f s.ring[r]) }

/-- The state with the Landing buffer passed through `f`. -/
def State.updLand (s : State) (f : Landing → Landing) : State := { s with land := f s.land }

/-! ## Discards -/

/-- CAPr_LOSS of a ring raised by `k`, saturating (R300). -/
def countLoss (s : State) (r : Fin 64) (k : Nat) : State :=
  s.note (capOff r CAP.LOSS) (fun w => w32 (min 0xFFFFFFFF (w.toNat + k)))

/-- A discarded group joins its source's tally, opened if none is (R300). -/
def tallyGroup (s : State) (g : RecGroup) (r : Fin 64) (cause : Nat) : State :=
  match s.land.tallies.find? (fun t => t.src == g.src) with
  | some t =>
    let t' := { t with last := g.coarse, count := satInc 0xFFFFFFFF t.count }
    countLoss (s.updLand (fun l => { l with tallies := l.tallies.map (fun x => if x.src == g.src then t' else x) })) t.ring 1
  | none =>
    let t : Tally := { src := g.src, first := g.coarse, last := g.coarse, count := 1, cause := cause, ring := r }
    countLoss (s.updLand (fun l => { l with tallies := l.tallies ++ [t] })) r 1

/-- The loss group of a tally (R292, R294). -/
def lossGroup (t : Tally) : RecGroup :=
  { src := t.src, typ := 2, lvl := false, fine := 0, coarse := t.first, ext := [t.last, t.count + t.cause * 2 ^ 32], ring := t.ring }

/-- The held groups of a ring that still have entries not taken into a block. -/
def untaken (s : State) (r : Fin 64) : List Held := s.land.pool.filter (fun h => h.g.ring == r && h.taken < groupSize h.g)

/-- A group appended to the pool. The first entry held by a ring begins its next block, for which CAPr_FLUSH acts as it stands
(R313). -/
def appendPool (s : State) (g : RecGroup) : State :=
  let s := if (untaken s g.ring).isEmpty then s.updRing g.ring (fun x => { x with flush := s.fl (capOff g.ring CAP.FLUSH) 0 16 }) else s
  let s := s.updLand (fun l =>
    { l with
      pool := l.pool ++ [⟨g, s.ticks, 0, 0, l.total⟩]
      entered := l.entered + groupSize g
      total := l.total + groupSize g
      recent := ((groupRecords g).reverse ++ l.recent).take 4096 })
  let o := landOcc s
  if s.fl R.LAND_PEAK 0 17 < o then s.note R.LAND_PEAK (fun w => setFld w 0 17 o) else s

/-- A tally is written into its ring as a loss group and closed (R301). -/
def writeTally (s : State) (t : Tally) : State :=
  appendPool (s.updLand (fun l => { l with tallies := l.tallies.filter (fun x => x.src != t.src) })) (lossGroup t)

/-- A ring enters discarding (R299): DISC, QEV, and NOTICE CAPT_LOSS when QEV was 0. -/
def enterDiscarding (s : State) (r : Fin 64) : State :=
  if discarding s r then s
  else
    let o := capOff r CAP.STAT
    let was := s.bt o 18
    let s := (s.setBt o 17 true).setEv o 18
    if was then s else s.raise FS.CAPT_LOSS (w32 r.val)

/-- Whether the held group at a position may be discarded for its ring `r`: an ordinary group not yet taken into a block. -/
def droppable (r : Fin 64) (h : Held) : Bool := h.g.ring == r && ordinary h.g && h.taken == 0

/-- The oldest droppable group of a ring, and the pool without it. -/
def takeOldest (r : Fin 64) : List Held → Option (RecGroup × List Held)
  | [] => none
  | h :: hs =>
    if droppable r h then some (h.g, hs)
    else (takeOldest r hs).map (fun x => (x.1, h :: x.2))

/-- The newest droppable group of a ring, and the pool without it. -/
def takeNewest (r : Fin 64) (pool : List Held) : Option (RecGroup × List Held) :=
  (takeOldest r pool.reverse).map (fun x => (x.1, x.2.reverse))

/-- Under DROPOLD the oldest held groups of the ring are discarded until `need` entries fit; none when none are left (R299). -/
def dropUntilFits (r : Fin 64) (need cause : Nat) : Nat → State → Option State
  | 0, _ => none
  | fuel + 1, s =>
    if ringOcc s r + need ≤ quotaEntries s r && need ≤ freeRoom s then some s
    else match takeOldest r s.land.pool with
      | none => none
      | some (g, pool) => dropUntilFits r need cause fuel (tallyGroup (s.updLand (fun l => { l with pool := pool })) g r cause)

/-! ## Entry into the pool -/

/-- An anchor enters (R295): it replaces its ring's anchor while no later group of the ring follows that and it is not yet taken;
two of one tick leave the higher REASON. With the pool full it displaces ordinary groups of its ring, and waits when there are
none. -/
def displaceFor (r : Fin 64) : Nat → State → Option State
  | 0, _ => none
  | fuel + 1, s =>
    if 2 ≤ poolRoom s then some s
    else match (if dropOld s r then takeOldest r s.land.pool else takeNewest r s.land.pool) with
      | none => none
      | some (g, pool) => displaceFor r fuel (tallyGroup (s.updLand (fun l => { l with pool := pool })) g r 4)

/-- REASON of an anchor group. -/
def anchorReason (g : RecGroup) : Nat := g.ext.headD 0 / 2 ^ 16 % 8

/-- The last held group of a ring. -/
def lastOfRing (s : State) (r : Fin 64) : Option Held := s.land.pool.reverse.find? (fun h => h.g.ring == r)

/-- The pool with the last group of ring `r` replaced. -/
def replaceLast (r : Fin 64) (g : RecGroup) (pool : List Held) : List Held :=
  match takeIdx pool.reverse with
  | some l => l.reverse
  | none => pool
where
  /-- The reversed pool with its first group of the ring replaced. -/
  takeIdx : List Held → Option (List Held)
    | [] => none
    | h :: hs => if h.g.ring == r then some ({ h with g := g } :: hs) else (takeIdx hs).map (h :: ·)

/-- An anchor group waits in the reserve, in the place of its ring's one that waits there (R296). -/
def reserveAnchor (s : State) (g : RecGroup) : State :=
  let mine (x : RecGroup) : Bool := x.typ == 3 && x.ring == g.ring
  s.updLand (fun l => { l with reserve := if l.reserve.any mine then l.reserve.map (fun x => if mine x then g else x) else l.reserve ++ [g] })

/-- Whether an anchor group of a ring waits in the reserve. -/
def anchorWaits (s : State) (r : Fin 64) : Bool := s.land.reserve.any (fun x => x.typ == 3 && x.ring == r)

/-- An anchor group enters the pool or the reserve (R295, R296). -/
def enterAnchor (s : State) (g : RecGroup) : State :=
  let better (old : RecGroup) (tick : Nat) : RecGroup :=
    if tick = s.ticks && anchorReason g < anchorReason old then old else g
  match lastOfRing s g.ring with
  | some h =>
    if h.g.typ == 3 && h.taken == 0 then
      s.updLand (fun l => { l with pool := replaceLast g.ring (better h.g h.tick) l.pool })
    else letIn s
  | none => letIn s
where
  /-- A new anchor group: into the pool, in place of ordinary groups, or into the reserve. -/
  letIn (s : State) : State :=
    match displaceFor g.ring 3 s with
    | some s => appendPool s g
    | none => reserveAnchor s g

/-- A group without a ring that takes it (R297). -/
def noRingFor (s : State) (g : RecGroup) (r : Fin 64) : State :=
  let was := s.rd R.CAP_NORING
  let s := s.note R.CAP_NORING (fun w => w32 (satInc 0xFFFFFFFF w.toNat))
  let s := s.wr R.CAP_NORINGSRC (w32 (g.src % 128 + r.val * 256))
  if was = 0 then s.raise FS.CAPT_NORING (w32 r.val) else s

/-- A group discarded by its own ring (R299, R300). -/
def refuseGroup (s : State) (g : RecGroup) (r : Fin 64) (cause : Nat) : State := tallyGroup (enterDiscarding s r) g r cause

/-- A group that its ring admits enters, behind the loss group of its source's open tally where that ring is not discarding; without room
for both its own ring enters discarding (R301). -/
def letIn (s : State) (g : RecGroup) : State :=
  match s.land.tallies.find? (fun t => t.src == g.src) with
  | some t =>
    if discarding s t.ring then appendPool s g
    else if groupSize g + 3 ≤ freeRoom s then appendPool (writeTally s t) g
    else refuseGroup s g g.ring 2
  | none => appendPool s g

/-- An ordinary group enters (R299 to R301): refused by its ring's quota or a full pool, or admitted. -/
def enterOrdinary (s : State) (g : RecGroup) : State :=
  let r := g.ring
  let n := groupSize g
  let waits := anchorWaits s r
  let room := if waits then 0 else freeRoom s
  let overQuota := quotaEntries s r < ringOcc s r + n
  let old := dropOld s r
  let quotaCause := if old then 1 else 0
  if overQuota || room < n || discarding s r then
    let cause := if overQuota || (discarding s r && n ≤ room) then quotaCause else 2
    let s := enterDiscarding s r
    if old && !waits then
      match dropUntilFits r n cause 65536 s with
      | some s => letIn s g
      | none => tallyGroup s g r cause
    else tallyGroup s g r cause
  else letIn s g

/-- A group enters the pool in this tick (R297): routed, and refused when no ring takes it. -/
def enterPool (s : State) (g : RecGroup) : State :=
  let r := groupRing s g
  let g := { g with ring := r }
  if !takesRecords s r then noRingFor s g r
  else if g.typ = 3 then enterAnchor s g
  else if g.typ = 2 then appendPool s g
  else enterOrdinary s g

/-- The count of entries that have entered in the present tick (R296). -/
def enteredNow (s : State) : Nat := if s.land.tick = s.ticks then s.land.entered else 0

/-- The state with the count of the present tick opened. -/
def openTick (s : State) : State :=
  if s.land.tick = s.ticks then s else s.updLand (fun l => { l with tick := s.ticks, entered := 0 })

/-- LAND_ENTQ.DEPTH. -/
def entqDepth (s : State) : Nat := (s.land.entq.map groupSize).sum

/-- RECORD_ENTRY (R296): a group offered in this tick enters the pool, or waits in the entry queue or its reserve when the tick's 32
entries are taken; one that finds the entry queue full is discarded with cause 3 and NOTICE LAND_ENTQ. -/
def execRecordEntry (g : RecGroup) (s : State) : Host.Outcome State Fault Refusal :=
  let s := openTick s
  let special := !ordinary g
  let busy := 32 < enteredNow s + groupSize g || (!special && !s.land.entq.isEmpty)
  if g.typ = 3 && anchorWaits s g.ring then .next (reserveAnchor s g)
  else if !busy then .next (enterPool s g)
  else if special then .next (s.updLand (fun l => { l with reserve := l.reserve ++ [g] }))
  else if entqDepth s + groupSize g ≤ 512 then .next (s.updLand (fun l => { l with entq := l.entq ++ [g] }))
  else
    let r := groupRing s g
    if takesRecords s r then .next ((tallyGroup s { g with ring := r } r 3).raise FS.LAND_ENTQ) else .next (noRingFor s g r)

/-- Whether a group of the reserve finds room in the pool, or an ordinary group of its ring to displace (R295). -/
def reserveFits (s : State) (g : RecGroup) : Bool := 2 ≤ poolRoom s || s.land.pool.any (droppable g.ring)

/-- The waiting group that enters next in this tick (R295, R296), of the reserve before the entry queue, and whether it is of the reserve. -/
def waitingNext (s : State) : Option (RecGroup × Bool) :=
  let next := match s.land.reserve.find? (reserveFits s) with
    | some g => some (g, true)
    | none => s.land.entq.head?.map (fun g => (g, false))
  next.filter (fun x => decide (enteredNow s + groupSize x.1 ≤ 32))

/-- Whether a waiting group can enter in this tick. -/
def waitingEnters (s : State) : Bool := (waitingNext s).isSome

/-- ENTRY_QUEUE_ENTRY (R296): the group that waits first, of the reserve before the entry queue, enters in a tick with room. -/
def execEntryQueueEntry (s : State) : Host.Outcome State Fault Refusal :=
  let s := openTick s
  match waitingNext s with
  | some (g, true) => .next (enterPool (s.updLand (fun l => { l with reserve := l.reserve.erase g })) g)
  | some (g, false) => .next (enterPool (s.updLand (fun l => { l with entq := l.entq.drop 1 })) g)
  | none => .next s

/-! ## Leaving discarding (R299, R301) -/

/-- The open tallies of a ring in ascending SRC. -/
def talliesOf (s : State) (r : Fin 64) : List Tally :=
  (List.range 128).filterMap (fun k => s.land.tallies.find? (fun t => t.src == k && t.ring == r))

/-- Whether a ring leaves discarding in this tick (R299). -/
def leavesDiscarding (s : State) (r : Fin 64) : Bool :=
  discarding s r && ringOcc s r ≤ resumeEntries s r && 3 * (talliesOf s r).length ≤ freeRoom s

/-- LEAVE_DISCARDING (R299, R301): DISC clears, and every open tally of the ring is written in ascending SRC. -/
def execLeaveDiscarding (r : Fin 64) (s : State) : Host.Outcome State Fault Refusal :=
  if leavesDiscarding s r then
    let s := openTick s
    .next ((talliesOf s r).foldl writeTally (s.setBt (capOff r CAP.STAT) 17 false))
  else .next s

/-- What is left of a held group of ring `r` when its held entries are discarded: those in a block whose writes have begun (R444). -/
def keepTaken (r : Fin 64) (h : Held) : Option Held :=
  if h.g.ring != r then some h
  else if h.taken ≤ h.freed then none
  else some { h with g := { h.g with ext := h.g.ext.take (h.taken - 1) } }

/-- The held groups and open tallies of a ring go (R302): each ordinary group that is not wholly in a block counts once in CAPr_LOSS. -/
def discardRing (s : State) (r : Fin 64) : State :=
  let s := countLoss s r ((untaken s r).filter (fun h => ordinary h.g)).length
  let s := s.updLand (fun l => { l with pool := l.pool.filterMap (keepTaken r), tallies := l.tallies.filter (fun t => t.ring != r),
                                        reserve := l.reserve.filter (fun g => g.ring != r) })
  s.setBt (capOff r CAP.STAT) 17 false

/-! ## Anchors (R295) -/

/-- An anchor group of a ring (R292, R294). -/
def anchorGroup (s : State) (r : Fin 64) (reason : Nat) : RecGroup :=
  { src := 115, typ := 3, lvl := false, fine := s.fofs, coarse := coarse48 s.tb.tb.toNat,
    ext := [s.tb.tb.toNat / 2 ^ 48 + reason * 2 ^ 16 + (!s.tbclk).toNat * 2 ^ 19], ring := r }

/-- An anchor group is offered to every enabled CAPT ring in this tick (R295). -/
def anchorAll (s : State) (reason : Nat) : State :=
  (List.finRange 64).foldl (fun s r => if takesRecords s r then s.offer 0 (anchorGroup s r reason) else s) s

/-- TB_WRAP_PASSAGE (R295): TB, counting, reached or passed a multiple of 2^32 in this tick. -/
def execTbWrapPassage (s : State) : Host.Outcome State Fault Refusal := .next (anchorAll s 2)

/-! ## Markers (R311) -/

/-- A write to GAL_MARK: a marker group enters in the following tick, with the tick of the write as its time. Engines cannot write
it. DESIGN CHOICE (assumption 19): a write by the debug agent makes a host marker. -/
def galMark (s : State) (a : Agent) (v : Word) : State :=
  let go (src : Nat) : State :=
    s.offer 1 { src := src, typ := 6, lvl := false, fine := s.fofs, coarse := coarse48 s.tb.tb.toNat, ext := [v.toNat], ring := noRing }
  match a with
  | .host | .debug => go 96
  | .sup => go 97
  | _ => s

/-- GAL_MARK_WRITE (R311). -/
def execGalMarkWrite (a : Agent) (v : Word) (s : State) : Host.Outcome State Fault Refusal := .next (galMark s a v)

end Sys2Proof.Machine
end

