-- ==== Sys2Proof/Machine/RingOut.lean ====
section
/-! DEFINITION. What the device writes to its rings (chapter 10): entries with their phase bit, publication and writeback (R278, R279),
interrupts (R283 to R285), event entries and their losses (R281, R282), and capture blocks (R303). -/

namespace Sys2Proof.Machine

/-- The host port's state with `f` applied. -/
def State.updPcie (s : State) (f : Pcie → Pcie) : State := { s with pcie := f s.pcie }

/-- RING_HOSTSTAT.LINK. -/
def linkUp (s : State) : Bool := s.bt R.RING_HOSTSTAT 0

/-- Whether the device may issue requests to the host (R402). -/
def hostOk (s : State) : Bool := linkUp s && s.pcie.bme && !s.pcie.d3

/-- The word of a ring's register. -/
def State.rdRing (s : State) (r : Fin 64) (o : Nat) : Word := s.rd (ringOff r o)

/-- RINGr_CFG.PORT is 0. -/
def hostOwned (s : State) (r : Fin 64) : Bool := !s.bt (ringOff r RING.CFG) 9

/-- CMD and WAVE rings are owner-produced (R260). -/
def ownerProduced (s : State) (r : Fin 64) : Bool := ringType s r ≤ 1

/-- N of a ring. -/
def ringN (s : State) (r : Fin 64) : Nat := 2 ^ s.fl (ringOff r RING.CFG) 4 5

/-- The bytes of an entry (R260). -/
def entrySize (s : State) (r : Fin 64) : Nat :=
  match ringType s r with | 2 => 256 | 3 => 16 | _ => 32

/-- The address of entry `i` in its owner's memory (R260, R261). -/
def entryAddr (s : State) (r : Fin 64) (i : Nat) : Nat :=
  let lo := (s.rdRing r RING.BASE_LO).toNat
  let base := if hostOwned s r then (s.rdRing r RING.BASE_HI).toNat * 2 ^ 32 + lo else lo
  base + i % ringN s r * entrySize s r

/-- (TAIL - HEAD) mod 2^32: the occupancy of a device-produced ring. -/
def deviceOcc (s : State) (r : Fin 64) : Nat := (s.rdRing r RING.TAIL - s.rdRing r RING.HEAD).toNat

/-- The state with STATE of a ring set. -/
def setRingState (s : State) (r : Fin 64) (v : Nat) : State := s.setFl (ringOff r RING.STAT) 0 3 v

/-- IDLE or ACTIVE by the indices (R266). -/
def settleRing (s : State) (r : Fin 64) : State :=
  let st := ringState s r
  if st = 1 || st = 2 then
    let busy := if ownerProduced s r then s.rdRing r RING.DONE != s.rdRing r RING.TAIL else s.rdRing r RING.TAIL != s.rdRing r RING.HEAD
    setRingState s r (if busy then 2 else 1)
  else s

/-- The bytes of words, little-endian. -/
def wordsBytes (ws : List Word) : List Byte := ws.flatMap (fun w => [byteOf w 0, byteOf w 1, byteOf w 2, byteOf w 3])

/-- A memory write to the host. -/
def hostWrite (s : State) (addr : Nat) (bytes : List Byte) (ro : Bool) : State := { s with out := s.out ++ [.write addr bytes ro] }

/-- Bytes written into the RAM windows from MW0 offset `o` on. -/
def memWrite (s : State) (o : Nat) (bytes : List Byte) : State := bytes.zipIdx.foldl (fun s b => s.setByte (o + b.2) b.1) s

/-- A write into the memory of a ring's owner (R261). -/
def ownerWrite (s : State) (r : Fin 64) (addr : Nat) (bytes : List Byte) (ro : Bool) : State :=
  if hostOwned s r then hostWrite s addr bytes ro else memWrite s (0x18000 + addr % 0x8000) bytes

/-! ## Messages and interrupts -/

/-- Bit 0 of the vector control of an MSI-X table entry (R401): masked. The table lies beyond MW0 in the model's address space. -/
def vecMasked (s : State) (vec : Nat) : Bool := s.pcie.fmask || (s.byte (0x200000 + 16 * vec + 12)).getLsbD 0

/-- A message leaves, or is deferred while the device may not issue one (R402, R403): in D3hot under PME_En WAKE_N is pulled low. -/
def issueMsi (s : State) (vec : Nat) : State :=
  if hostOk s then { s with out := s.out ++ [.msi vec] }
  else s.updPcie (fun p => { p with deferred := p.deferred ++ [vec], wake := p.wake || (p.d3 && p.pmeEn) })

/-- An interrupt message of a vector (R283, R284): MSI-X, or the one MSI, or none; a masked vector becomes pending. -/
def sendMsi (s : State) (vec : Nat) : State :=
  if s.pcie.msix then
    if vecMasked s vec then s.updPcie (fun p => { p with pba := p.pba ||| 2 ^ vec }) else issueMsi s vec
  else if s.pcie.msi then issueMsi s 0
  else s

/-- The interrupt of a ring goes out (R283, R285, R410): its bit in RING_ISR, and the message of a host-owned ring, or SUP_ISR.RING. -/
def irqSent (s : State) (r : Fin 64) : State :=
  let s := s.setEv (R.RING_ISR0 + 4 * (r.val / 32)) (r.val % 32)
  if hostOwned s r then sendMsi s (s.fl (ringOff r RING.IRQ) 0 6) else s.setEv R.SUP_ISR 0

/-- The ring sends its interrupt and holds further ones (R283). -/
def ringIrq (s : State) (r : Fin 64) : State :=
  let s := (s.updRing r (fun x => { x with cnt := 0 })).dropDue (· == .irqTimerExpiry r)
  (s.setBt (ringOff r RING.STAT) 3 true).later' 1 (.irqSend r)

/-- An entry published is counted for the interrupt (R283). -/
def countEntry (s : State) (r : Fin 64) (irq : Bool) : State :=
  if !s.bt (ringOff r RING.IRQ) 6 then s
  else
    let s := s.updRing r (fun x => { x with cnt := x.cnt + 1 })
    let c := s.ring[r].cnt
    if s.bt (ringOff r RING.STAT) 3 then s
    else if irq || max 1 (s.fl (ringOff r RING.IRQ) 8 8) ≤ c then ringIrq s r
    else
      let tmr := s.fl (ringOff r RING.IRQ) 16 12
      if c = 1 && tmr != 0 then s.afterTicks (tmr * 400) (.irqTimerExpiry r) else s

/-- A hold is released by a HEAD doorbell or REARM (R283). -/
def releaseHold (s : State) (r : Fin 64) : State :=
  if !s.bt (ringOff r RING.STAT) 3 then s
  else
    let s := s.setBt (ringOff r RING.STAT) 3 false
    if s.rdRing r RING.TAIL != s.rdRing r RING.HEAD then ringIrq s r
    else (s.updRing r (fun x => { x with cnt := 0 })).dropDue (· == .irqTimerExpiry r)

/-- IRQ_TIMER_EXPIRY (R283). -/
def execIrqTimerExpiry (r : Fin 64) (s : State) : Host.Outcome State Fault Refusal :=
  .next (if 0 < s.ring[r].cnt && !s.bt (ringOff r RING.STAT) 3 && s.bt (ringOff r RING.IRQ) 6 then ringIrq s r else s)

/-- REARM (R283). -/
def execRearm (_ : Agent) (r : Fin 64) (s : State) : Host.Outcome State Fault Refusal := .next (releaseHold s r)

/-- The writeback of a ring (R279): its DONE and the low half of its status. It waits while the device may issue no request (R402). -/
def writeback (s : State) (r : Fin 64) : State :=
  if !s.bt (ringOff r RING.CFG) 11 then s
  else if hostOwned s r && !hostOk s then s.updRing r (fun x => { x with wbDue := true })
  else
    let s := s.updRing r (fun x => { x with wbDue := false })
    let a := (s.rdRing r RING.WB_HI).toNat * 2 ^ 32 + (s.rdRing r RING.WB_LO).toNat
    ownerWrite s r a (wordsBytes [s.rdRing r RING.DONE, s.rdRing r RING.STAT &&& 0xFFFF]) false

/-- An entry or block of a device-produced ring is published (R262, R279, R444): TAIL and DONE rise; outside DRAIN the writeback and
the interrupt follow. -/
def publish (s : State) (r : Fin 64) (irq : Bool) : State :=
  let s := (s.upd (ringOff r RING.TAIL) (· + 1)).upd (ringOff r RING.DONE) (· + 1)
  if ringState s r = 3 then s
  else countEntry (writeback (settleRing s r) r) r irq

/-! ## CMPL and EVT entries -/

/-- The words of entry `i` of a CMPL or EVT ring with its phase bit (R278). -/
def withPhase (s : State) (r : Fin 64) (i : Nat) (ws : List Word) : List Word :=
  match ws with
  | [] => []
  | w :: rest => setBit w 31 (i / ringN s r % 2 == 0) :: rest

/-- W0 of an EVT entry (R281). -/
def evtHead (kind len : Nat) : Word := w32 (kind + len * 256)

/-- The eight words of an EVT entry. -/
def evtWords (kind : Nat) (time : Word) (payload : List Word) : List Word :=
  evtHead kind payload.length :: time :: (payload ++ List.replicate (6 - payload.length) 0)

/-- Whether a ring can take the writes of one more entry now: IDLE or ACTIVE, space left, and its owner reachable. -/
def canIssue (s : State) (r : Fin 64) : Bool :=
  let st := ringState s r
  (st == 1 || st == 2) && deviceOcc s r < ringN s r && (!hostOwned s r || hostOk s) && s.ring[r].issued.isNone

/-- The Gallery context of a ring. -/
def ringGc (s : State) (r : Fin 64) : Fin 16 := Fin.ofNat 16 (s.fl (ringOff r RING.CFG) 12 4)

/-- A context moves a beat of `n` bytes (R305, R312, R353). -/
def galMoves (s : State) (g : Fin 16) (n : Nat) : State :=
  let s := s.note (gcOff g GC.BYTES) (fun w => w32 (min 0xFFFFFFFF (w.toNat + n)))
  { s with vest := { s.vest with beats := s.vest.beats + 1 } }

/-- A Gallery context takes a piece of work. -/
def setWork (s : State) (g : Fin 16) (w : Option (Fin 64 × Work)) : State :=
  { s with gc := s.gc.set g { work := w, last := match w with | some (r, _) => r.val | none => s.gc[g].last } }

/-- An entry's writes are issued on the context of its ring, which holds it until it is published (R304). -/
def putEntry (s : State) (r : Fin 64) (e : Entry) : State :=
  let i := (s.rdRing r RING.TAIL).toNat
  let s := ownerWrite (s.updRing r (fun x => { x with issued := some e })) r (entryAddr s r i) (wordsBytes (withPhase s r i e.ws)) false
  galMoves (setWork s (ringGc s r) (some (r, .entry))) (ringGc s r) (4 * e.ws.length)

/-- The next entry of a CMPL or EVT ring is issued (R279, R282): the account of a run of losses before the held entries. -/
def issueEntry (s : State) (r : Fin 64) : State :=
  if !canIssue s r then s
  else
    match s.ring[r].lost with
    | some (n, first, last) =>
      putEntry (s.updRing r (fun x => { x with lost := none })) r ⟨evtWords 5 s.near [w32 (min n 0xFFFFFFFF), first, last], false⟩
    | none => match s.ring[r].q with
      | e :: rest => putEntry (s.updRing r (fun x => { x with q := rest })) r e
      | [] => s

/-- ENTRY_PUBLISH (R279): the entry whose writes are issued, or the next one, is published. -/
def execEntryPublish (r : Fin 64) (s : State) : Host.Outcome State Fault Refusal :=
  let s := if s.ring[r].issued.isNone && 3 ≤ ringType s r then issueEntry s r else s
  match s.ring[r].issued with
  | some e =>
    let g := ringGc s r
    let s := if s.gc[g].work == some (r, .entry) then setWork s g none else s
    .next (publish (s.updRing r (fun x => { x with issued := none })) r e.irq)
  | none => .next s

/-- Whether a ring is an enabled EVT ring. -/
def evtEnabled (s : State) (r : Fin 64) : Bool := ringType s r == 4 && (let st := ringState s r; st == 1 || st == 2 || st == 5)

/-- An EVT entry for an enabled EVT ring (R282): held on chip while the ring is full, at most 16; a further one is discarded, counted
in RINGr_LOST, and the first of a run raises RING_EVTLOST. -/
def evtPost (s : State) (r : Fin 64) (kind : Nat) (time : Word) (payload : List Word) : State :=
  let x := s.ring[r]
  let full := ringN s r ≤ deviceOcc s r || ringState s r = 5
  if full && 16 ≤ x.q.length then
    let s := s.note (ringOff r RING.LOST) (fun w => w32 (satInc 0xFFFFFFFF w.toNat))
    match x.lost with
    | none => (s.updRing r (fun x => { x with lost := some (1, time, time) })).raise FS.RING_EVTLOST (w32 r.val)
    | some (n, first, _) => s.updRing r (fun x => { x with lost := some (n + 1, first, time) })
  else s.updRing r (fun x => { x with q := x.q ++ [⟨evtWords kind time payload, false⟩] })

/-- A ring event (R281), written when RING_EVTCFG.EN = 1; the DETACHED event of a host-owned ring only to a supervisor-owned ring. -/
def ringEvent (s : State) (r : Fin 64) : State :=
  let e := Fin.ofNat 64 (s.fl R.RING_EVTCFG 0 6)
  let st := ringState s r
  if s.bt R.RING_EVTCFG 6 && evtEnabled s e && !(st == 5 && hostOwned s r && hostOwned s e) then
    evtPost s e 4 s.near [w32 (r.val + st * 256 + s.fl (ringOff r RING.STAT) 8 8 * 65536), s.rdRing r RING.ERRIDX]
  else s

/-- The held entries of an EVT ring are discarded and counted in RINGr_LOST (R282). -/
def discardEntries (s : State) (r : Fin 64) : State :=
  let n := s.ring[r].q.length
  let s := if ringType s r = 4 then s.note (ringOff r RING.LOST) (fun w => w32 (min 0xFFFFFFFF (w.toNat + n))) else s
  s.updRing r (fun x => { x with q := [], lost := none })

/-! ## Capture blocks (R303) -/

/-- The number of those entries. -/
def untakenCount (s : State) (r : Fin 64) : Nat := ((untaken s r).map (fun h => groupSize h.g - h.taken)).sum

/-- Whether a block of a ring is due (R303): 32 entries held, or the flush time over; the ring IDLE or ACTIVE with a free entry and
its owner reachable. -/
def blockDue (s : State) (r : Fin 64) : Bool :=
  ringType s r == 2 && canIssue s r && s.ring[r].blk.isNone
    && (32 ≤ untakenCount s r || (s.ring[r].flushDue && 0 < untakenCount s r))

/-- Up to `n` entries of ring `r` are taken from the pool in order: their records, and the pool with them marked. -/
def takeEntries (r : Fin 64) : Nat → List Held → List (BitVec 64) × List Held
  | _, [] => ([], [])
  | n, h :: hs =>
    if h.g.ring == r && h.taken < groupSize h.g && 0 < n then
      let k := min n (groupSize h.g - h.taken)
      let rs := ((groupRecords h.g).drop h.taken).take k
      let (more, hs') := takeEntries r (n - k) hs
      (rs ++ more, { h with taken := h.taken + k } :: hs')
    else
      let (more, hs') := takeEntries r n hs
      (more, h :: hs')

/-- BLOCK_WRITE (R303): a due block takes the ring's next 32 entries, padded, and its writes begin. -/
def execBlockWrite (r : Fin 64) (s : State) : Host.Outcome State Fault Refusal :=
  if blockDue s r && (s.gc[ringGc s r].work.isNone) then
    let (rs, pool) := takeEntries r 32 s.land.pool
    let blk := rs ++ List.replicate (32 - rs.length) padRecord
    let s := s.updLand (fun l => { l with pool := pool })
    let s := s.updRing r (fun x => { x with blk := some (blk, 0), flushDue := false, flush := s.fl (capOff r CAP.FLUSH) 0 16 })
    .next (setWork s (ringGc s r) (some (r, .block)))
  else .next s

/-- The bytes of a capture record, little-endian. -/
def recordBytes (v : BitVec 64) : List Byte := (List.range 8).map (fun i => BitVec.ofNat 8 (v.toNat >>> (8 * i)))

/-- The last write of a block leaves the Gallery: its 256 bytes go to the ring's next entry. -/
def blockLeaves (s : State) (r : Fin 64) (blk : List (BitVec 64)) : State :=
  ownerWrite s r (entryAddr s r (s.rdRing r RING.TAIL).toNat) (blk.flatMap recordBytes) (s.bt (capOff r CAP.CFG) 29 && s.pcie.ro)

/-- The entries taken into the block of a ring are freed. -/
def freeTaken (s : State) (r : Fin 64) : State :=
  s.updLand (fun l => { l with pool :=
    (l.pool.map (fun h => if h.g.ring == r then { h with freed := h.taken } else h)).filter (fun h => h.freed < groupSize h.g) })

/-- BLOCK_PUBLISH (R303): the last write of the block leaves, and it is published: its entries are freed and TAIL rises. A block still
moving is completed first. -/
def execBlockPublish (r : Fin 64) (s : State) : Host.Outcome State Fault Refusal :=
  match s.ring[r].blk with
  | none => .next s
  | some (blk, _) =>
    let s := blockLeaves s r blk
    let s := freeTaken (s.updRing r (fun x => { x with blk := none })) r
    let g := ringGc s r
    let s := if s.gc[g].work == some (r, .block) then setWork s g none else s
    .next (publish s r false)

/-- FLUSH_TIMER_EXPIRY (R303): a partial block becomes due. -/
def execFlushTimerExpiry (r : Fin 64) (s : State) : Host.Outcome State Fault Refusal :=
  .next (if 0 < untakenCount s r then s.updRing r (fun x => { x with flushDue := true }) else s)

/-- Whether the flush time of a ring's oldest held entry ends in this tick (R303). -/
def flushExpires (s : State) (r : Fin 64) : Bool :=
  match untaken s r with
  | h :: _ => s.ring[r].flush != 0 && !s.ring[r].flushDue && h.tick + 400 * s.ring[r].flush ≤ s.ticks
  | [] => false

end Sys2Proof.Machine
end

