-- ==== Sys2Proof/Machine/Banister.lean ====
section
/-! DEFINITION. The Banister (chapter 13): records and their order (R331 to R333), reactions (R336 to R339), clears (R334), injection
(R340, R341), and the logs (R342 to R345). -/

namespace Sys2Proof.Machine

/-- The Banister with `f` applied. -/
def State.updFlt (s : State) (f : Flt → Flt) : State := { s with flt := f s.flt }

/-- The registers whose writes act on records created after them (R333, R350): FLT_CTRL and the reactions of the sources. -/
def fltKept (o : Nat) : Bool := o == R.FLT_CTRL || (fsrcCfg 0 ≤ o && o < fsrcCfg 0 + 0x400)

/-- The class of a source (R329): INFO 0, NOTICE 1, DEGRADED 2, SEVERE 3, FATAL 4. -/
def srcClass (s : State) (k : Nat) : Nat := s.fl (fsrcCfg k) 13 3

/-- The reactions of a source in the bit order of REACT (R342): LOG, IRQ, SAFE, ERRN, STOP, RESET. -/
def cfgReact (s : State) (k : Nat) : Nat :=
  let w := s.was (fsrcCfg k)
  fld w 0 3 + (bit w 6).toNat * 8 + (bit w 7).toNat * 16 + (bit w 12).toNat * 32

/-- The sources in handling: those whose PEND is 1. -/
def pendingSrcs (s : State) : List Nat := (List.range 256).filter s.fltPend

/-! ## ERR_N (R338) -/

/-- Whether the device drives ERR_N low. -/
def errnLevel (s : State) : Bool :=
  let thr := s.fl R.FLT_CTRL 0 3
  s.flt.errnBoot || s.bt R.FLT_STAT 2
    || (pendingSrcs s).any (fun k => let x := s.rec? k; (thr ≤ x.cls && thr ≤ 4) || x.react.testBit 3)

/-- FLT_STAT as read (R349). -/
def fltStat (s : State) : Word :=
  let p := pendingSrcs s
  let hi := (p.map (fun k => (s.rec? k).cls)).foldl max 0
  (s.rd R.FLT_STAT &&& 6) ||| w32 ((errnLevel s).toNat + hi * 16 + (!p.isEmpty).toNat * 128 + p.length * 256)

/-- FSRCk_STAT as read: PEND as FLT_PENDi. -/
def fsrcStatWord (s : State) (k : Nat) : Word := setBit (s.rd (fsrcStat k)) 16 (s.fltPend k)

/-! ## The log entry of a record (R342) -/

/-- W0 of the log entry of a source's record. -/
def logW0 (s : State) (k : Nat) : Word :=
  let x := s.rec? k
  let st := s.rd (fsrcStat k)
  w32 (k + x.cls * 256 + (bit st 18).toNat * 2 ^ 11 + (bit st 19).toNat * 2 ^ 12 + (bit st 20).toNat * 2 ^ 13 + 2 ^ 15 + x.seq * 65536)

/-- W3: merged raises and the reactions applied. -/
def logW3 (s : State) (k : Nat) : Word := w32 (s.fl (fsrcStat k) 0 16 + (s.rec? k).react * 65536)

/-- The four words of the log entry. -/
def logWords (s : State) (k : Nat) : List Word := [logW0 s k, w32 (s.rec? k).tb, (s.rec? k).detail, logW3 s k]

/-- Words written from a register offset on. -/
def wrWords (s : State) (o : Nat) (ws : List Word) : State := ws.zipIdx.foldl (fun s w => s.wr (o + 4 * w.2) w.1) s

/-- The volatile log entry of a record (R342): an entry overwritten loses its source's LOGV and counts in WRAPS. -/
def volatileLog (s : State) (k : Nat) : State :=
  let i := s.fl R.FLT_LOGSTAT 0 6
  let o := R.FLT_LOG + 0x10 * i
  let s :=
    if s.bt o 15 then
      let old := s.fl o 0 8
      let s := s.satFl R.FLT_LOGSTAT 8 8
      if s.bt (fsrcStat old) 21 && s.fl (fsrcStat old) 22 6 == i then s.setBt (fsrcStat old) 21 false else s
    else s
  let s := wrWords s o (logWords s k)
  let s := (s.setBt (fsrcStat k) 21 true).setFl (fsrcStat k) 22 6 i
  s.setFl R.FLT_LOGSTAT 0 6 (i + 1)

/-- A record goes to the persistent log (R343): at most 16 entries wait, further ones count in PDROP. A fault reset comes all the same
(R339). -/
def persistentLog (s : State) (k : Nat) (thenReset : Bool) : State :=
  if s.flt.plogQ.length < 16 then
    let ws := logWords s k ++ [w32 ((s.rec? k).tb / 2 ^ 32), w32 ((s.rd R.LIFE_BOOTS).toNat % 65536)]
    let s := s.updFlt (fun f => { f with plogQ := f.plogQ ++ [⟨ws, thenReset⟩] })
    s.afterTicks 400 .persistentLogWrite
  else
    let s := s.satFl R.FLT_PLOGSTAT 24 8
    if thenReset then s.after 1 .faultReset else s

/-- An EVT entry of a record goes to a ring, or counts in NORING (R344). -/
def faultEvtNow (s : State) (r : Fin 64) (time : Word) (payload : List Word) : State :=
  if evtEnabled s r then evtPost s r 1 time payload else s.satFl R.FLT_LOGSTAT 16 8

/-- One EVT entry of a record for a ring, in the cycle after its logs (R336). -/
def faultEvt (s : State) (k : Nat) (ring : Nat) : State :=
  let x := s.rec? k
  s.later' 1 (.faultEvt (Fin.ofNat 64 ring) (w32 x.tb) [logW0 s k, x.detail, logW3 s k, w32 (x.tb / 2 ^ 32)])

/-- Whether EVT entries stand before the message of an IRQ reaction on a ring (R336): held ones that the ring can take. -/
def entriesFirst (s : State) (r : Fin 64) : Bool :=
  let st := ringState s r
  evtEnabled s r && !s.ring[r].q.isEmpty && (st == 1 || st == 2) && decide (deviceOcc s r + s.ring[r].issued.toList.length < ringN s r)
    && (!hostOwned s r || hostOk s)

/-- The message of an IRQ reaction goes out behind the EVT entries (R336). -/
def faultMessage (s : State) : State :=
  let ring := s.rd R.FLT_RING
  let wait (en lo : Nat) : Bool := bit ring en && entriesFirst s (Fin.ofNat 64 (fld ring lo 6))
  if wait 6 0 || wait 14 8 then s.later' 1 .faultMsg else sendMsi s (s.fl R.FLT_IRQ 0 6)

/-- The capture fault group of a record (R294, R345) with a merge count. -/
def faultGroup (s : State) (k merged : Nat) : RecGroup :=
  let x := s.rec? k
  let st := s.rd (fsrcStat k)
  { src := 114, typ := 5, lvl := false, fine := 0, coarse := coarse48 x.tb,
    ext := [k + x.cls * 256 + (bit st 18).toNat * 2 ^ 11 + (bit st 19).toNat * 2 ^ 12 + merged * 65536],
    ring := Fin.ofNat 64 (s.fl R.FLT_RING 16 6) }

/-- The LOG reaction (R336): the volatile entry, the persistent one by PMIN, the EVT entries and the capture fault group. -/
def logRecord (s : State) (k : Nat) (reset : Bool) : State :=
  let s := volatileLog s k
  let s := if reset then s else
    (let pmin := s.fl R.FLT_CTRL 8 3; if pmin ≤ (s.rec? k).cls && pmin ≤ 4 then persistentLog s k false else s)
  let ring := s.rd R.FLT_RING
  let s := if bit ring 6 then faultEvt s k (fld ring 0 6) else s
  let s := if bit ring 14 then faultEvt s k (fld ring 8 6) else s
  if bit ring 22 then s.offer 0 (faultGroup s k 0) else s

/-! ## Reactions (R336 to R339) -/

/-- The channels of a safe set follow it at their pins (R337). -/
def padSafe (s : State) (j : Fin 8) (cause : Nat) : State :=
  (List.finRange 96).foldl (fun s n =>
    if s.bt (R.FLT_SAFE_M + 0x10 * j.val + 4 * (n.val / 32)) (n.val % 32) then updPad s n cause s.fine0 0 else s) s

/-- Safe set `j` is forced. -/
def forceSafe (s : State) (j : Fin 8) : State := padSafe (s.setBt R.FLT_SAFEACT j.val true) j 8

/-- Safe set `j` is released (R337, R106): active outputs of pairs start their dead time, the others follow at once. -/
def releaseSafe (s : State) (j : Fin 8) : State :=
  let s := s.setBt R.FLT_SAFEACT j.val false
  (List.finRange 96).foldl (fun s n =>
    if !s.bt (R.FLT_SAFE_M + 0x10 * j.val + 4 * (n.val / 32)) (n.val % 32) || chForced s n then s
    else
      let base := if isPartner s n then (prevCh n).getD n else n
      let dt := (dtMinpw s base).1
      if 0 < dt && (s.ch[n].out || s.ch[n].riseAt.isSome) then
        let s := (s.updCh n (fun c => { c with out := false, riseAt := some ⟨s.ticks + dt, s.fine0⟩ })).dropDue
          (· == .deadTimeExpiry n)
        updPad (s.afterTicks dt (.deadTimeExpiry n)) n 9 s.fine0 0
      else updPad s n 9 s.fine0 0) s

/-- The engine named in a DETAIL (R346), for the sources whose DETAIL names one. -/
def originEngine (k : Nat) (d : Word) : Option (Fin 8) :=
  let agent := fld d 20 4
  if k ∈ [0, 1, 4, 69, 71, 161, 166, 168] then (if 2 ≤ agent then some (Fin.ofNat 8 (agent - 2)) else none)
  else if (16 ≤ k && k ≤ 32) || (34 ≤ k && k ≤ 36) then (if bit d 27 then some (Fin.ofNat 8 (fld d 24 3)) else none)
  else if 80 ≤ k && k ≤ 111 then some (Fin.ofNat 8 (fld d 21 3))
  else none

/-- The engines that STOP names (R350). -/
def stopEngines (s : State) (k : Nat) : List (Fin 8) :=
  let e := s.wasFl (fsrcCfg k) 8 4
  if e < 8 then [Fin.ofNat 8 e]
  else if e = 15 then List.finRange 8
  else match originEngine k (s.rec? k).detail with | some e => [e] | none => []

/-- The reactions of a record in the cycle in which they act (R336): LOG, IRQ, SAFE, STOP, RESET, and ERR_N one cycle later. -/
def applyReact (s : State) (k : Nat) (react : Nat) : State :=
  let s := if react.testBit 0 then logRecord s k (react.testBit 5) else s
  let irq := s.rd R.FLT_IRQ
  let s := if react.testBit 1 && bit irq 6 && !s.bt R.FLT_ISR 0 then (s.setEv R.FLT_ISR 0).later' 1 .faultMsg else s
  let s := if react.testBit 1 && bit irq 7 then s.setEv R.FLT_ISR 1 else s
  let set := Fin.ofNat 8 (s.wasFl (fsrcCfg k) 3 3)
  let s := if react.testBit 2 then forceSafe (s.updRec k (fun x => { x with set := set.val })) set else s
  let s := if react.testBit 4 then (stopEngines s k).foldl (fun s e => s.after 0 (.feStop .host e)) s else s
  let s := if react.testBit 5 then persistentLog s k true else s
  s.later' 1 .errn

/-- What was not applied to an injected record is applied at a real raise (R341). -/
def reactRest (s : State) (k : Nat) : State :=
  let x := s.rec? k
  let rest := cfgReact s k &&& (0x3F ^^^ (x.react &&& 0x3F))
  if s.fltPend k then applyReact (s.updRec k (fun x => { x with react := x.react ||| rest })) k rest else s

/-! ## Records (R331 to R333) -/

/-- The raises of one source in one cycle as a record: its class, reactions, marks and DETAIL. REAL marks a real fault that coincides with an
injected one (R294, R341); a record of real raises alone shows neither INJ nor REAL. -/
def makeRecord (s : State) (k : Nat) (rs : List Raise) (more : Nat) : State :=
  let real := rs.filter (fun r => !r.injected)
  let inj := rs.any (·.injected)
  let trans := match real with | r :: _ => r.transient | [] => false
  let cls := if trans then 1 else srcClass s k
  let cfg := cfgReact s k
  let mask := rs.foldl (fun m r => m ||| r.rmask) 0
  let react := if trans then cfg &&& 1 else if real.isEmpty then cfg &&& mask else cfg
  let detail := match real with | r :: _ => r.detail | [] => 0
  let tb := match rs with | r :: _ => r.tb | [] => 0
  let st := fsrcStat k
  let s := (s.upd st (fun w => w &&& 0x20000)).setFl st 0 16 (min 0xFFFF (rs.length - 1 + more))
  let s := ((s.setBt st 18 inj).setBt st 19 (inj && !real.isEmpty)).setBt st 20 trans
  let s := s.updRec k (fun _ => { seq := s.flt.seq, cls := cls, tb := tb, detail := detail, react := react, set := 0,
                                  last := 0, cleared := 0, real := !real.isEmpty })
  (s.setFltPend k true).updFlt (fun f => { f with seq := (f.seq + 1) % 65536 })

/-- The effective class that a group of raises will have. -/
def raiseClass (s : State) (k : Nat) (rs : List Raise) : Nat :=
  match rs.find? (fun r => !r.injected) with
  | some r => if r.transient then 1 else srcClass s k
  | none => srcClass s k

/-- FFMIN as it acts (R349). -/
def ffMin (s : State) : Nat := min 4 (s.wasFl R.FLT_CTRL 4 3)

/-- The sources of a list of raises in the order of R332: effective class, highest first, then ascending source. -/
def recordSources (s : State) (rs : List Raise) : List Nat :=
  [4, 3, 2, 1, 0].flatMap (fun c => (List.range 256).filter (fun k =>
    let mine := rs.filter (fun r => r.src.val == k)
    !mine.isEmpty && raiseClass s k mine == c))

/-- The first-fault record and the same-cycle bitmap (R333): `opened` says that the first fault is of this cycle. -/
def firstFault (x : State × Bool) (k : Nat) : State × Bool :=
  let (s, opened) := x
  if (s.rec? k).cls < ffMin s then (s, opened)
  else if !s.bt R.FLT_STAT 1 then
    ((wrWords (s.setBt R.FLT_STAT 1 true) R.FLT_FIRST_W (logWords s k)).updFlt (fun f => { f with firstSrc := k }), true)
  else if opened then (s.setBt (R.FLT_SAME + 4 * (k / 32)) (k % 32) true, opened)
  else (s, opened)

/-- RECORD_CREATE (R331 to R333, R336): the raises two cycles old become records, in the order of R332, when those become visible;
raises of the same sources one cycle later merge; then each record's reactions act in that order. -/
def execRecordCreate (s : State) : Host.Outcome State Fault Refusal :=
  match s.flt.raised.find? (fun r => r.tick + 2 ≤ s.ticks) with
  | none => .next s
  | some r0 =>
    let mine := s.flt.raised.filter (fun r => r.tick == r0.tick)
    let ks := recordSources s mine
    let later := s.flt.raised.filter (fun r => r.tick != r0.tick)
    let merged := later.filter (fun r => ks.contains r.src.val)
    let s := s.updFlt (fun f => { f with raised := later.filter (fun r => !ks.contains r.src.val) })
    let s := ks.foldl (fun s k => makeRecord s k (mine.filter (fun r => r.src.val == k)) 0) s
    let s := merged.foldl (fun s r => s.mergeRaise r) s
    let s := (ks.foldl firstFault (s, false)).1
    .next (ks.foldl (fun s k => applyReact s k (s.rec? k).react) s)

/-! ## Clears and commands (R333, R334, R337, R342) -/

/-- A write of ones to FLT_PENDi (R334): each PEND clears unless its level is active or it was raised in this cycle; a record that had
merged raises offers a last fault group in the next tick. -/
def clearPend (s : State) (i : Fin 8) (v : Word) : State :=
  let s := (List.range 32).foldl (fun s b =>
    let k := 32 * i.val + b
    if bit v b && s.fltPend k && !s.bt (fsrcStat k) 17 && (s.rec? k).last != s.now then
      let m := s.fl (fsrcStat k) 0 16
      let s := (s.setFltPend k false).updRec k (fun x => { x with cleared := s.now })
      if m != 0 && s.bt (fsrcCfg k) 0 && s.bt R.FLT_RING 22 then s.offer 1 (faultGroup s k m) else s
    else s) s
  s.later' 2 .errn

/-- FLT_CMD.FFCLR (R333). -/
def ffclrCmd (s : State) : State :=
  let s := wrWords (s.setBt R.FLT_STAT 1 false) R.FLT_FIRST_W [0, 0, 0, 0]
  wrWords s R.FLT_SAME (List.replicate 8 0)

/-- FLT_CMD.LOGCLR (R342). -/
def logclrCmd (s : State) : State :=
  let s := wrWords s R.FLT_LOG (List.replicate 256 0)
  let s := s.upd R.FLT_LOGSTAT (fun w => w &&& 0xFFFF0000)
  (List.range 256).foldl (fun s k => if s.bt (fsrcStat k) 21 then s.setBt (fsrcStat k) 21 false else s) s

/-- FLT_CMD.PENDCLR (R334). -/
def pendclrCmd (s : State) : State := (List.finRange 8).foldl (fun s i => clearPend s i 0xFFFFFFFF) s

/-- A write of FLT_INJ (R340): with GO the source is raised as injected in the next cycle. -/
def injectCmd (s : State) (v : Word) : State :=
  if bit v 31 then s.later' 1 (.injected (Fin.ofNat 256 (fld v 0 8)) (fld v 8 6)) else s

/-- The injected raise itself. -/
def injectRaise (s : State) (k : Fin 256) (rmask : Nat) : State := s.raiseWith ⟨s.ticks, s.tb.tb.toNat, k, 0, true, rmask, false⟩

/-- Whether an active level holds a safe set (R337). -/
def safeHeld (s : State) (j : Fin 8) : Bool :=
  (pendingSrcs s).any (fun k => s.bt (fsrcStat k) 17 && (s.rec? k).react.testBit 2 && (s.rec? k).set == j.val)

/-- A write of FLT_SAFECLR (R337): each set is released in the next tick unless an active level holds it. -/
def safeclrCmd (s : State) (v : Word) : State :=
  (List.finRange 8).foldl (fun s j =>
    if bit v j.val && s.bt R.FLT_SAFEACT j.val && !safeHeld s j then s.later' 1 (.safeRelease j) else s) s

/-- A write of FLT_CMD: each bit acts. -/
def writeFltCmd (s : State) (v : Word) : State :=
  let s := if bit v 0 then ffclrCmd s else s
  let s := if bit v 1 then logclrCmd s else s
  if bit v 2 then pendclrCmd s else s

/-- A write of a mask register of a safe set: while the set is forced the pins follow from the next tick (R337). -/
def writeSafeMask (s : State) (o : Nat) (v : Word) : State :=
  let j := Fin.ofNat 8 ((o - R.FLT_SAFE_M) / 0x10)
  let w := (o - R.FLT_SAFE_M) % 0x10 / 4
  let s := s.wr o v
  if s.bt R.FLT_SAFEACT j.val then
    (List.range 32).foldl (fun s b => updPad s (Fin.ofNat 96 (32 * w + b)) (if bit v b then 8 else 9) s.fine0 1) s
  else s

/-- PEND_CLEAR (R334). -/
def execPendClear (_ : Agent) (i : Fin 8) (v : Word) (s : State) : Host.Outcome State Fault Refusal := .next (clearPend s i v)
/-- FFCLR (R333). -/
def execFfclr (s : State) : Host.Outcome State Fault Refusal := .next (ffclrCmd s)
/-- LOGCLR (R342). -/
def execLogclr (s : State) : Host.Outcome State Fault Refusal := .next (logclrCmd s)
/-- PENDCLR (R334). -/
def execPendclr (s : State) : Host.Outcome State Fault Refusal := .next (pendclrCmd s)
/-- INJECT (R340). -/
def execInject (_ : Agent) (v : Word) (s : State) : Host.Outcome State Fault Refusal := .next (injectCmd s v)
/-- SAFECLR (R337). -/
def execSafeclr (_ : Agent) (v : Word) (s : State) : Host.Outcome State Fault Refusal := .next (safeclrCmd s v)

end Sys2Proof.Machine
end

