-- ==== Sys2Proof/Machine/Vestibule.lean ====
section
/-! DEFINITION. The Vestibule (R351 to R357): requests of heavy operations, their grants, refusals and what each requester sees of
its outcome. -/

namespace Sys2Proof.Machine

/-- The Vestibule with `f` applied. -/
def State.updVest (s : State) (f : Vest → Vest) : State := { s with vest := f s.vest }

/-- BUDGET as it acts (R372). -/
def vestBudget (s : State) : Nat := max 1 (s.fl R.VEST_CTRL 0 12)

/-- The units held by grants: G (R353). -/
def vestG (s : State) : Nat := (s.vest.grants.map (·.units)).sum

/-- F at the last evaluation. -/
def vestF (s : State) : Nat := s.fl R.VEST_STAT 0 12

/-- Whether the Vestibule refuses (R355). -/
def vestRefusing (s : State) : Bool :=
  s.bt (fsrcStat FS.SUPPLY_WARN) 17 || (s.bt R.VEST_CTRL 12 && s.bt (fsrcStat FS.TEMP_CRIT) 17)

/-- VEST_STAT as it reads (R372). -/
def vestStat (s : State) : Word :=
  setBit (w32 (vestF s + min 4095 (vestG s) * 2 ^ 12 + s.vest.queue.length * 2 ^ 24)) 28 (vestRefusing s)

/-- The place of a request among those of one tick (R354). -/
def Heavy.order : Heavy → Nat
  | .go => 0 | .chest => 1 | .recal _ => 2 | .selfTest _ => 3 | .gal _ => 4 | .dozeExit => 5

/-- A request joins the queue behind every earlier one, and in the order of R354 among those of its tick. -/
def joinQueue (q : VReq) : List VReq → List VReq
  | [] => [q]
  | x :: xs => if x.stamp < q.stamp || x.kind.order ≤ q.kind.order then x :: joinQueue q xs else q :: x :: xs

/-- A Chest command or a CHESTWR that is refused ends (R356, R257). -/
def chestRefused (s : State) : State :=
  let patch := match s.chestCtl.op with | some (.write _ _ p) => p | _ => false
  let s := { s with chestCtl := { s.chestCtl with op := none, begun := false, cut := false, tries := 0 } }
  if patch then
    { s.setFl R.MC_STAT 4 4 0xB with patch := { s.patch with chestwr := false } }.setFl R.CHEST_STAT 0 2 0
  else (s.setFl R.CHEST_STAT 0 2 0).setFl R.CHEST_STAT 4 4 2

/-- What a refused requester sees (R356). -/
def refuseAct (s : State) (k : Heavy) : State :=
  match k with
  | .go => { s.setBt (feGlobOff FE.GOSTAT) 0 false with go := none }
  | .chest => chestRefused s
  | .recal _ | .selfTest _ => (s.setFl R.BG_STAT 0 2 0).setFl R.BG_STAT 4 4 4
  | .gal _ | .dozeExit => s

/-- A refusal (R355): counted, reported, and seen by the requester. -/
def refuse (s : State) (k : Heavy) : State :=
  refuseAct (((s.setEv R.VEST_EVT 0).satFl R.VEST_CNT 16 16).raise FS.VEST_REFUSED) k

/-- What a granted requester does (R356, R362): a GO keeps its tick when that lies ahead and else acts 2 ticks later; a Chest burst
begins; a request of BG_REQ runs. -/
def grantAct (s : State) (k : Heavy) : State :=
  match k with
  | .go => match s.go with
    | none => s
    | some g =>
      let late := match g.at' with | some t => decide (t ≤ s.ticks) | none => false
      { s with go := some { g with waits := false, at' := if late then some (s.ticks + 2) else g.at' } }
        |> fun s => if late then s.setEv R.VEST_EVT 2 else s
  | .chest => { s.setBt R.CHEST_STAT 1 false with chestCtl := { s.chestCtl with begun := true } }
  | .recal f => { s.setFl R.BG_STAT 0 2 3 with
      bg := { s.bg with cal := s.bg.cal.set f { s.bg.cal[f] with ends := some (s.ticks + 160000), forced := true } } }
  | .selfTest _ => s.setFl R.BG_STAT 0 2 3
  | .gal _ | .dozeExit => s

/-- A grant (R351): its units are held until it ends; the declared duration starts here for a DOZE exit and a recalibration. -/
def grant (s : State) (k : Heavy) (u : Nat) : State :=
  let ends := match k with | .dozeExit => some (s.ticks + 8000) | .recal _ => some (s.ticks + 160000) | _ => none
  grantAct ((s.updVest (fun v => { v with grants := v.grants ++ [⟨k, u, ends⟩] })).satFl R.VEST_CNT 0 16) k

/-- Whether a request of `u` units fits (R354). -/
def fits (s : State) (u : Nat) : Bool := decide (vestF s + vestG s + u ≤ vestBudget s)

/-- A request (R354, R355): refused while the Vestibule refuses, granted at once when the queue is empty and it fits, queued, or refused
when the queue is full. A Gallery burst is never queued or refused: it waits throttled. -/
def request (s : State) (k : Heavy) (u : Nat) : State :=
  match k with
  | .gal g =>
    if !vestRefusing s && s.vest.queue.isEmpty && fits s u then grant s k u
    else (s.updVest (fun v => { v with gal := v.gal ++ [g] })).setEv R.VEST_EVT 3
  | _ =>
    if vestRefusing s then refuse s k
    else if s.vest.queue.isEmpty && fits s u then grant s k u
    else if 8 ≤ s.vest.queue.length then refuse s k
    else s.updVest (fun v => { v with queue := joinQueue ⟨k, u, s.ticks⟩ v.queue })

/-- A queued request is withdrawn (R356, R362). -/
def withdrawReq (s : State) (p : Heavy → Bool) : State := s.updVest (fun v => { v with queue := v.queue.filter (fun q => !p q.kind) })

/-- The operation of a grant has ended, and its units are released. -/
def endGrant (s : State) (p : Heavy → Bool) : State := s.updVest (fun v => { v with grants := v.grants.filter (fun g => !p g.kind) })

/-- Grants whose declared duration is over end (R354). -/
def expireGrants (s : State) : State :=
  s.updVest (fun v => { v with grants := v.grants.filter (fun g => match g.ends with | some t => decide (s.ticks < t) | none => true) })

/-- Refusal begins (R355): every queued request is refused. -/
def startRefusing (s : State) : State :=
  if vestRefusing s then s.vest.queue.foldl (fun s q => refuse s q.kind) (s.updVest (fun v => { v with queue := [] })) else s

/-- The queue is served from its head while the head fits (R354). -/
def serveQueue : Nat → State → State
  | 0, s => s
  | n + 1, s => match s.vest.queue with
    | q :: qs => if fits s q.units then serveQueue n (grant (s.updVest (fun v => { v with queue := qs })) q.kind q.units) else s
    | [] => s

/-- The units of a bulk burst (R351). -/
abbrev galUnits : Nat := 64

/-- The waiting Gallery bursts are tested in ascending context number when the queue is empty (R354). -/
def serveBursts (s : State) : State :=
  if !s.vest.queue.isEmpty then s
  else (List.finRange 16).foldl (fun s g =>
    if s.vest.gal.contains g && s.vest.queue.isEmpty && fits s galUnits then
      grant (s.updVest (fun v => { v with gal := v.gal.filter (· != g) })) (.gal g) galUnits
    else s) s

/-- A context's bulk burst ends: its grant or its place among the waiting ones goes. -/
def endBurst (s : State) (g : Fin 16) : State :=
  (endGrant s (· == .gal g)).updVest (fun v => { v with gal := v.gal.filter (· != g) })

end Sys2Proof.Machine
end

