-- ==== Sys2Proof/Machine/Chest.lean ====
section
/-! DEFINITION. The Chest (R366 to R370, R373): its commands, rows, wear and moves, the persistent log (R339, R343) and the lifetime
counters. -/

namespace Sys2Proof.Machine

/-- The Chest's control state with `f` applied. -/
def State.updChest (s : State) (f : ChestCtl → ChestCtl) : State := { s with chestCtl := f s.chestCtl }

/-- The areas of the Chest that software may write: CONFIG and USER (R366). -/
def chestArea (addr : Nat) : Option (Nat × Nat) :=
  if 0x2000 ≤ addr && addr < 0x22000 then some (0x2000, 0x22000)
  else if 0x22000 ≤ addr && addr < 0x24000 then some (0x22000, 0x24000) else none

/-! ## Wear (R368, R369) -/

/-- The physical block of a logical 1 KiB block (R369): its own number until it is moved. -/
def physBlock (s : State) (b : Nat) : Nat := Store.get id s.chestCtl.map b

/-- The writes counted for a physical 64-bit word. -/
def wordWrites (s : State) (p : Nat) : Nat := Store.get (fun _ => 0) s.chestCtl.words p

/-- The highest write count of the words of a physical block (R368). -/
def blockWear (s : State) (p : Nat) : Nat := ((List.range 128).map (fun i => wordWrites s (p * 128 + i))).foldl max 0

/-- A logical 64-bit word is programmed once more (R368): its physical word is counted, and CHEST_WEAR follows. -/
def countWrite (s : State) (addr : Nat) : State :=
  let p := physBlock s (addr / 1024) * 128 + addr % 1024 / 8
  let n := wordWrites s p + 1
  let s := s.updChest (fun c => { c with words := Store.set (fun _ => 0) c.words p n })
  s.setFl R.CHEST_WEAR 0 27 (max (s.fl R.CHEST_WEAR 0 27) (min n (2 ^ 27 - 1)))

/-- CHEST_WEAR is active while a block in use holds a count of 90 000 000 or more (R369). -/
def wearLevel (s : State) : State :=
  if (List.range 220).any (fun b => 90000000 ≤ blockWear s (physBlock s b)) then s.raiseLevel FS.CHEST_WEAR
  else s.endLevel FS.CHEST_WEAR

/-- The writes that a logical block has taken since it was placed. -/
def sinceOf (s : State) (b : Nat) : Nat := Store.get (fun _ => 0) s.chestCtl.since b

/-- A logical block takes one more write: past 2^20 of them it is due to move (R369). -/
def blockWrite (s : State) (b : Nat) : State :=
  let n := sinceOf s b + 1
  let s := s.updChest (fun c => { c with since := Store.set (fun _ => 0) c.since b n })
  if n = 2 ^ 20 then s.after 1 (.wearLevelMove b) else s

/-- A row of 64-bit words is programmed at a logical address: each word is counted, and so is the row for each block that it reaches. -/
def programRow (s : State) (addr words : Nat) : State :=
  let s := (List.range words).foldl (fun s i => countWrite s (addr + 8 * i)) s
  let b := addr / 1024
  let c := (addr + 8 * (words - 1)) / 1024
  let s := blockWrite s b
  wearLevel (if c = b then s else blockWrite s c)

/-- The spare physical blocks: not in use and not withdrawn. -/
def spareBlocks (s : State) : List Nat :=
  (List.range 256).filter (fun p => !(List.range 220).any (fun b => physBlock s b == p) && !s.chestCtl.bad.contains p)

/-- The spare block with the lowest count, the lowest number among equals. -/
def leastWorn (s : State) : Option Nat :=
  (spareBlocks s).foldl (fun best p =>
    match best with
    | some q => if blockWear s p < blockWear s q then some p else best
    | none => some p) none

/-- WEAR_LEVEL_MOVE (R369): a logical block past 2^20 writes, or in a physical block that failed, is placed in the least-worn spare block;
its 16 rows are programmed there. It waits while the Chest is armed (R381), and with background work (R359) but for a failed block. -/
def execWearLevelMove (b : Nat) (s : State) : Host.Outcome State Fault Refusal :=
  if s.bt R.PWR_STAT 11 || (s.vest.paused && !s.chestCtl.bad.contains (physBlock s b)) then .next (s.afterTicks 400 (.wearLevelMove b))
  else if 220 ≤ b || !(2 ^ 20 ≤ sinceOf s b || s.chestCtl.bad.contains (physBlock s b)) then .next s
  else match leastWorn s with
    | none => .next s
    | some p =>
      let s := s.updChest (fun c => { c with map := Store.set id c.map b p, since := Store.set (fun _ => 0) c.since b 0 })
      let s := (List.range 128).foldl (fun s i => countWrite s (b * 1024 + 8 * i)) s
      let s := wearLevel (s.updVest (fun v => { v with bg := true }))
      .next (s.satFl R.CHEST_MOVES 0 32)

/-! ## Commands (R367, R373) -/

/-- The result codes of CHEST_STAT. -/
abbrev CR.OK : Nat := 1
abbrev CR.REFUSED : Nat := 2
abbrev CR.PROT : Nat := 3
abbrev CR.RANGE : Nat := 4
abbrev CR.ECC : Nat := 5
abbrev CR.WRFAIL : Nat := 6
abbrev CR.BUSY : Nat := 7
abbrev CR.BADCMD : Nat := 8

/-- CHEST_STAT.RESULT. -/
def chestResult (s : State) (r : Nat) : State := s.setFl R.CHEST_STAT 4 4 r

/-- CHEST_STAT.BUSY. -/
def chestBusy (s : State) : Bool := s.bt R.CHEST_STAT 0

/-- CNT as it acts: 0 acts as 1, 65 to 127 as 64. -/
def chestCount (v : Word) : Nat := max 1 (min 64 (fld v 8 7))

/-- A burst asks the Vestibule for leave (R351): WAITV while it waits. -/
def beginBurst (s : State) (addr : Nat) (ws : List Word) (patch : Bool) : State :=
  let s := s.updChest (fun c => { c with op := some (.write addr ws patch), begun := false, cut := false, tries := 0 })
  request ((s.setBt R.CHEST_STAT 0 true).setBt R.CHEST_STAT 1 true) .chest 24

/-- The words of CHEST_BUF as 32-bit words. -/
def chestBufWords (s : State) (cnt : Nat) : List Word := (List.range (2 * cnt)).map (fun i => s.memWord (0x3100 + 4 * i))

/-- CHEST_CMD.READ (R367). -/
def chestReadCmd (s : State) (cnt : Nat) : State :=
  let addr := s.fl R.CHEST_ADDR 3 15 * 8
  if chestBusy s then chestResult s CR.BUSY
  else if 0x37000 < addr + 8 * cnt then chestResult s CR.RANGE
  else (chestResult (s.updChest (fun c => { c with op := some (.read addr cnt), begun := true, errs := [] })) 0).setBt R.CHEST_STAT 0 true

/-- CHEST_CMD.WRITE (R366, R367). -/
def chestWriteCmd (s : State) (cnt : Nat) : State :=
  let addr := s.fl R.CHEST_ADDR 3 15 * 8
  if chestBusy s then chestResult s CR.BUSY
  else if 0x37000 < addr + 8 * cnt then chestResult s CR.RANGE
  else match chestArea addr with
    | none => chestResult s CR.PROT
    | some (_, hi) =>
      if hi < addr + 8 * cnt then chestResult s CR.PROT
      else beginBurst (chestResult s 0) addr (chestBufWords s cnt) false

/-- A write of CHEST_CMD (R373). -/
def writeChestCmd (s : State) (v : Word) : State :=
  match bit v 0, bit v 1 with
  | true, true => chestResult s (if chestBusy s then CR.BUSY else CR.BADCMD)
  | true, false => chestReadCmd s (chestCount v)
  | false, true => chestWriteCmd s (chestCount v)
  | false, false => s

/-- CHEST_READ (R367). -/
def execChestRead (_ : Agent) (cnt : BitVec 7) (s : State) : Host.Outcome State Fault Refusal :=
  .next (writeChestCmd s (w32 (1 + cnt.toNat * 256)))

/-- CHEST_WRITE (R367). -/
def execChestWrite (_ : Agent) (cnt : BitVec 7) (s : State) : Host.Outcome State Fault Refusal :=
  .next (writeChestCmd s (w32 (2 + cnt.toNat * 256)))

/-- CHEST_READ_DONE (R367): the words arrive in CHEST_BUF; a word that failed reads 0 and gives RESULT ECC. -/
def execChestReadDone (ok : Bool) (s : State) : Host.Outcome State Fault Refusal :=
  match s.chestCtl.op with
  | some (.read addr cnt) =>
    let errs := s.chestCtl.errs
    let s := (List.range cnt).foldl (fun s i =>
      let a := addr + 8 * i
      let z := errs.any (fun e => e / 8 == a / 8)
      let get (o : Nat) : Word := if z then 0 else s.chestWord o
      (s.setMem (0x3100 + 8 * i) 15 (get a)).setMem (0x3104 + 8 * i) 15 (get (a + 4))) s
    let s := s.updChest (fun c => { c with op := none, begun := false, errs := [] })
    .next ((chestResult s (if ok && errs.isEmpty then CR.OK else CR.ECC)).setBt R.CHEST_STAT 0 false)
  | _ => .next s

/-- A burst ends (R367, R257). -/
def endChestBurst (s : State) (patch : Bool) (res : Nat) : State :=
  let s := s.updChest (fun c => { c with op := none, begun := false, cut := false, tries := 0 })
  let s := endGrant (s.setFl R.CHEST_STAT 0 2 0) (· == .chest)
  if patch then
    { s.setFl R.MC_STAT 4 4 (if res = CR.OK then 1 else 0xB) with patch := { s.patch with chestwr := false } }
  else chestResult s res

/-- DETAIL of a Chest source (R346). -/
def chestDetail (addr : Nat) : Word := w32 (addr % 2 ^ 20 + 9 * 2 ^ 20)

/-- A raise of a source by a read or verify that its retry mended (R335). -/
def State.raiseTransient (s : State) (k : Nat) (d : Word) : State :=
  s.raiseWith ⟨s.ticks, s.tb.tb.toNat, Fin.ofNat 256 k, d, false, 0x3F, true⟩

/-- CHEST_ROW_DONE (R367, R335): the row of a burst is programmed and verified. A first failed verify repeats the row; a second one ends the
burst with WRFAIL and withdraws the block. A burst cut by a last-gasp trigger ends here with REFUSED. -/
def execChestRowDone (ok : Bool) (s : State) : Host.Outcome State Fault Refusal :=
  match s.chestCtl.op with
  | some (.write addr ws patch) =>
    if !s.chestCtl.begun then .next s
    else
      let row := ws.take 16
      let s := programRow s addr (row.length / 2)
      if ok then
        let s := if s.chestCtl.tries = 0 then s else s.raiseTransient FS.CHEST_WRFAIL (chestDetail addr)
        let s := row.zipIdx.foldl (fun s w => s.setChestWord (addr + 4 * w.2) w.1) s
        let rest := ws.drop 16
        if rest.isEmpty then .next (endChestBurst s patch CR.OK)
        else if s.chestCtl.cut then .next (endChestBurst s patch CR.REFUSED)
        else .next (s.updChest (fun c => { c with op := some (.write (addr + 64) rest patch), tries := 0 }))
      else if s.chestCtl.tries = 0 then .next (s.updChest (fun c => { c with tries := 1 }))
      else
        let b := addr / 1024
        let s := s.raise FS.CHEST_WRFAIL (chestDetail addr)
        let s := s.updChest (fun c => { c with bad := c.bad ++ [physBlock s b] })
        .next (endChestBurst (s.after 1 (.wearLevelMove b)) patch CR.WRFAIL)
  | _ => .next s

/-! ## The persistent log (R339, R343) -/

/-- The record that waits first is written into the next entry of the persistent log (R343); the log's wrap raises PLOG_WRAP. A record
whose reactions include RESET starts the fault reset in the next cycle (R339). -/
def plogWrite (s : State) : State :=
  match s.flt.plogQ with
  | [] => s
  | p :: rest =>
    let i := s.fl R.FLT_PLOGSTAT 0 10
    let o := 0x30000 + 24 * i
    let s := s.updFlt (fun f => { f with plogQ := rest })
    let s := p.words.zipIdx.foldl (fun s w => s.setChestWord (o + 4 * w.2) w.1) s
    let s := programRow s o 3
    let s := s.setFl R.FLT_PLOGSTAT 0 10 (i + 1)
    let s := if i = 1023 then (s.satFl R.FLT_PLOGSTAT 16 8).raise FS.PLOG_WRAP else s
    if p.thenReset then s.after 1 .faultReset else s

/-- Whether a last-gasp snapshot runs (R382): persistent-log writes and lifetime commits wait until it has ended. -/
def lgsRuns (s : State) : Bool := s.power.lgs.isSome

/-- Whether a fault reset waits longer for its log entry than R339 allows: nearly 20 µs since the raise. -/
def resetOverdue (s : State) : Bool :=
  s.flt.plogQ.any (fun p => p.thenReset && decide (7200 ≤ (s.near - p.words.getD 1 0).toNat))

/-- PERSISTENT_LOG_WRITE (R343): it waits for a last-gasp snapshot, a fault reset not beyond its 20 µs (R339). -/
def execPersistentLogWrite (s : State) : Host.Outcome State Fault Refusal :=
  .next (if !lgsRuns s then plogWrite s
    else if resetOverdue s then s.after 1 .faultReset
    else s.afterTicks 400 .persistentLogWrite)

/-- FLT_PLOG_W0 to W5 as read (R343). -/
def plogRead (s : State) (w : Nat) : Word := s.chestWord (0x30000 + 24 * s.fl R.FLT_PLOGSEL 0 10 + 4 * w)

/-! ## Lifetime counters (R370) -/

/-- The lifetime counters and the log's position as the Chest keeps them, in MW0 order. -/
def lifeRegs : List Nat :=
  [R.LIFE_SECS, R.LIFE_BOOTS] ++ (List.range 4).map (fun n => R.LIFE_RPM + 4 * n) ++ (List.range 4).map (fun n => R.LIFE_OVSPD + 4 * n)
    ++ (List.range 4).map (fun n => R.LIFE_OVTHR + 4 * n) ++ (List.range 16).map (fun m => R.LIFE_TRIP + 4 * m)

/-- The lifetime counters are written into their area of the Chest. -/
def commitLife (s : State) : State :=
  let s := lifeRegs.foldl (fun s o => s.setChestWord (0x36000 + (o - R.LIFE_SECS)) (s.rd o)) s
  (programRow (programRow s 0x36000 8) 0x36040 8).updVest (fun v => { v with bg := true })

/-- LIFETIME_COMMIT (R370): it waits for a last-gasp snapshot (R382), and while background work pauses (R359). -/
def execLifetimeCommit (s : State) : Host.Outcome State Fault Refusal :=
  .next (if lgsRuns s || s.vest.paused then s.afterTicks 400 .lifetimeCommit else commitLife s)

/-- A second of RUN or DOZE passes (R370): LIFE_SECS counts it, and every 60th commits the counters. -/
def lifeSecond (s : State) : State :=
  let s := s.satFl R.LIFE_SECS 0 32
  if (s.rd R.LIFE_SECS).toNat % 60 = 0 then s.after 0 .lifetimeCommit else s

end Sys2Proof.Machine
end

