-- ==== Sys2Proof/Machine/Newel.lean ====
section
/-! DEFINITION. The Newels (chapter 05): the wheel description, classification and prediction of teeth, the sync states, cam votes,
the stall guard, encoder and peer follower mode, records and commands. -/

namespace Sys2Proof.Machine

/-! ## Settings as they act (R143) -/

/-- NTEETH: 129 to 255 act as 128. -/
def nTeeth (s : State) (n : Fin 4) : Nat := min 128 (s.fl (nwlOff n NWL.WHEEL) 0 8)

/-- NWLn_WHLk of a tooth index taken modulo NTEETH. -/
def whl (s : State) (n : Fin 4) (k : Nat) : Word := s.rd (nwlOff n (NWL.WHL + 4 * (k % max 1 (nTeeth s n))))

/-- POS(k) and GAPEND of tooth k (R115). -/
def whlPos (s : State) (n : Fin 4) (k : Nat) : Nat := fld (whl s n k) 0 22
def gapEnd (s : State) (n : Fin 4) (k : Nat) : Bool := bit (whl s n k) 22

/-- One revolution in angle steps (R114). -/
abbrev revLen : Nat := 1474560
/-- The 720 °CA cycle (R114). -/
abbrev cycle720 : Nat := 2949120

/-- A(k), the interval that ends at tooth k (R115). -/
def whlA (s : State) (n : Fin 4) (k : Nat) : Nat :=
  let k := k % max 1 (nTeeth s n)
  if k = 0 then revLen - whlPos s n (nTeeth s n - 1) else whlPos s n k - whlPos s n (k - 1)

/-- The angle of tooth k in the cycle (R115). -/
def toothAngle (s : State) (n : Fin 4) (k : Nat) (rev : Bool) : Nat :=
  (s.fl (nwlOff n NWL.OFS) 0 22 + (if rev then revLen else 0) + whlPos s n k) % nwlC s n

/-- GAPRAT, ERRMAX and CAMVOTE as they act. -/
def gapRat (s : State) (n : Fin 4) : Nat := max 20 (s.fl (nwlOff n NWL.WHEEL) 8 8)
def errMax (s : State) (n : Fin 4) : Nat := max 1 (s.fl (nwlOff n NWL.WHEEL) 16 4)
def camVote (s : State) (n : Fin 4) : Nat := max 1 (s.fl (nwlOff n NWL.WHEEL) 20 2)

/-- REJ, NTOL, INSTOL and ACL as they act: a write acts behind the inputs of the tick after it (R135). -/
def rejF (s : State) (n : Fin 4) : Nat := max 32 (min 128 (s.wasFl (nwlOff n NWL.CLASS) 0 8))
def ntolF (s : State) (n : Fin 4) : Nat := min 64 (s.wasFl (nwlOff n NWL.CLASS) 8 8)
def instolF (s : State) (n : Fin 4) : Nat := min 64 (s.wasFl (nwlOff n NWL.CLASS) 16 8)
def aclF (s : State) (n : Fin 4) : Nat := min 128 (s.wasFl (nwlOff n NWL.CLASS) 24 8)

/-- HOLDANG, STALL and STALLMAX take effect at a classification, where writes of the tick before have not yet acted (R135). -/
def takeLimits (s : State) (n : Fin 4) : State :=
  s.updNwl n (fun w => { w with
    holdAng := s.wasFl (nwlOff n NWL.HOLDANG) 0 22, stallK := max 12 (s.wasFl (nwlOff n NWL.STALL) 0 8),
    stallMax := max 4000 (s.was (nwlOff n NWL.STALLMAX)).toNat })

/-! ## Events, records and state changes -/

/-- An event of a Newel (R139): its bit in NWLn_EVT and, when enabled, its SRQ; NWL_NOISE when REJ goes from 0 to 1. The SRQ of TOOTH
waits for the prediction load (R134). -/
def nwlEvent (s : State) (n : Fin 4) (b : Nat) : State :=
  let o := nwlOff n NWL.EVT
  let was := s.bt o b
  let s := s.setEv o b
  let s := if b = 1 && !was then s.raise FS.NWL_NOISE (w32 n.val) else s
  if b != 0 && s.wasBt (nwlOff n NWL.SRQEN) b then s.srqVia (nwlOff n NWL.ROUTE) (.nwl n) 0 else s

/-- NWLn_STATE as read (R143). -/
def nwlStateWord (s : State) (n : Fin 4) : Word :=
  let w := s.nwl[n]
  w32 (w.state.code + (w.fast && w.state == .candidate).toNat * 8 + w.phok.toNat * 16 + w.rev.toNat * 32
    + w.state.valid.toNat * 64 + (clampNow s n).toNat * 128 + w.idx % 128 * 256 + (w.dir && w.mode == 1).toNat * 2 ^ 15
    + min 15 w.errcnt * 2 ^ 16 + w.lastcls.code * 2 ^ 20)

/-- NWLn_ANGLE as read (R143). -/
def nwlAngleWord (s : State) (n : Fin 4) : Word :=
  w32 (angleNow s n % 2 ^ 22 + (clampNow s n).toNat * 2 ^ 30 + s.nwl[n].state.valid.toNat * 2 ^ 31)

/-- NWLn_SNAPANG as a SNAP strobe latches it (R140). -/
def nwlSnapWord (s : State) (n : Fin 4) : Word :=
  w32 (angleNow s n % 2 ^ 22 + s.nwl[n].state.code * 2 ^ 22 + s.nwl[n].state.valid.toNat * 2 ^ 31)

/-- The record pair of a classified edge (R139, R294), in the classification tick. -/
def toothRecord (s : State) (n : Fin 4) (t : Nat) (cls : Cls) : State :=
  if s.wasBt (nwlOff n NWL.RECCFG) 0 then
    let w := s.nwl[n]
    s.offer 0 { src := 104 + n.val, typ := 1, lvl := false, fine := t % 32, coarse := coarse48 (t / 32),
                ext := [cls.code + w.idx % 128 * 16 + w.rev.toNat * 2 ^ 11 + w.state.code * 2 ^ 12 + w.ratio % 2 ^ 18 * 2 ^ 16],
                ring := noRing }
  else s

/-- A cancel follows in the next tick (R155), and the passes under way end. -/
def cancelNext (s : State) (n : Fin 4) : State :=
  let s := s.dropDue (· == .latePass n)
  let s := s.updNwl n (fun w => { w with lateQ := [], convQ := [], conv := none, reofferQ := [], reevalQ := [] })
  if s.hasDue (.cancel n) then s else s.after 1 (.cancel n)

/-- SYNC is entered (R146, R123, R155): DONECYC of every slot is set to CYCNUM + 128, and slots convert again. -/
def syncEntered (s : State) (n : Fin 4) : State :=
  let d := (s.nwl[n].cycnum + 128) % 256
  let s := s.updNwl n (fun w => { w with barred := false })
  nwlEvent ((List.finRange 512).foldl (fun s k => s.setFl (evOff n k EV.LATE) 22 8 d) s) n 8

/-- A transition of the sync state (R123), with the effects of its row: STATECHG, SYNCED, LOSTEV with NWL_LOST, and STALL with
NWL_STALL. A peer follower's own sources are raised where its rows say so. -/
def goto (s : State) (n : Fin 4) (st : Sync) : State :=
  let old := s.nwl[n].state
  let own := s.nwl[n].mode != 2
  let a := angleNow s n
  let s := if old == .sync && st != .sync then cancelNext s n else s
  let s := if old == .lost && st != .lost then s.endLevel (FS.NWL_LOST + n.val) else s
  let s := s.updNwl n (fun w => { w with state := st, fast := w.fast && st == .candidate, frozenAng := a })
  let s := nwlEvent s n 7
  let s := if st == .sync && old != .sync then syncEntered s n else s
  let s := if st == .lost && old != .lost then
      let s := nwlEvent s n 9
      if own then s.raiseLevel (FS.NWL_LOST + n.val) (w32 n.val) else s
    else s
  if st == .hold && own then (nwlEvent s n 10).raise FS.NWL_STALL (w32 n.val) else s

/-- The history of periods is cleared (R123). -/
def clearHist (w : Nwl) : Nwl := { w with hist := [], tooth := none, sinceGap := none, pred := false, load := none }

/-! ## Classification and prediction (R118 to R120, R127) -/

/-- The last accepted tooth, the interval after it and its prediction as the next classification uses them. -/
def curAnext (w : Nwl) : Nat := match w.load with | some l => l.anext | none => w.anext
def curPpred (w : Nwl) : Nat := match w.load with | some l => l.ppred | none => w.ppred
def curPred (w : Nwl) : Bool := match w.load with | some l => l.pred | none => w.pred

/-- The class of a period `d` (R118). -/
def classOf (s : State) (n : Fin 4) (d : Nat) : Cls :=
  let w := s.nwl[n]
  let p := curPpred w
  let a1 := curAnext w
  let p2 := p * (a1 + whlA s n (w.idx + 2)) / max 1 a1
  let d2 := if p2 < d then d - p2 else p2 - d
  let k := instolF s n
  if d * 256 < rejF s n * p then .rejected
  else if d * 256 < (256 - ntolF s n) * p then .early
  else if d * 256 ≤ (256 + ntolF s n) * p then (if gapEnd s n (w.idx + 1) then .gap else .normal)
  else if k != 0 && (w.acls == .normal || w.acls == .gap) && decide (d2 * 256 < k * p2) then .inserted
  else .late

/-- The ratio of R120 before the clamp, and after it with whether it was clamped. -/
def ratioOf (acl d a dprev aprev : Nat) : Nat × Bool :=
  let r := d * aprev * 65536 / max 1 (dprev * a)
  let lo := 65536 - 256 * acl
  let hi := 65536 + 256 * acl
  (max lo (min hi r), decide (r < lo) || decide (hi < r))

/-- The prediction of R120. -/
def predOf (d a anext r : Nat) : Nat := max 1 (d * anext * r / max 1 (a * 65536))

/-- The gap test (R127) for the tooth before the present one, on the three newest periods; none where it is skipped. -/
def gapTest (s : State) (n : Fin 4) (hist : List Period) : Option Bool :=
  match hist with
  | h0 :: h1 :: h2 :: _ =>
    if h0.ins || h1.ins || h2.ins then none
    else some (decide (gapRat s n * h2.d ≤ 16 * h1.d) && decide (gapRat s n * h0.d ≤ 16 * h1.d))
  | _ => none

/-- The described gaps: the indices of the teeth with GAPEND. -/
def gapsOf (s : State) (n : Fin 4) : List Nat := (List.range (nTeeth s n)).filter (gapEnd s n)

/-- The teeth from the gap before `g` to it. -/
def teethBefore (s : State) (n : Fin 4) (g : Nat) : Nat :=
  let nt := nTeeth s n
  ((gapsOf s n).foldl (fun best x => let d := (g + nt - x) % nt; if 0 < d && d < best then d else best) nt)

/-- R116: whether a wheel description is accepted. -/
def descOk (s : State) (n : Fin 4) : Bool :=
  let nt := nTeeth s n
  let gaps := gapsOf s n
  let before' := gaps.map (teethBefore s n)
  3 ≤ nt && whlPos s n 0 == 0 && (List.range (nt - 1)).all (fun k => decide (whlPos s n k < whlPos s n (k + 1)))
    && (List.range nt).all (fun k => decide (whlPos s n k < revLen)) && decide (1 ≤ gaps.length) && decide (gaps.length ≤ 8)
    && decide before'.Nodup

/-- A new prediction after an accepted tooth (R120): period `d` over angle `a`, then interval `an`. -/
def predict (s : State) (n : Fin 4) (d a an : Nat) : State × Nat :=
  let w := s.nwl[n]
  let r := ratioOf (aclF s n) d a w.dprev w.aprev
  (s.updNwl n (fun w => { w with dprev := d, aprev := a, ratio := r.1, rclamped := r.2 }), predOf d a an r.1)

/-- The phase is decided (R129): REV, PHOK and EVT.PHASE; the angle moves by a revolution when REV changes, which is no passage (R146).
In toothed-wheel mode CONFIRM ends in SYNC (R123). -/
def decidePhase (s : State) (n : Fin 4) (v : Bool) : State :=
  let v := v && nwlC s n == cycle720
  let w := s.nwl[n]
  let move (a : Nat) : Nat := (a + revLen) % nwlC s n
  let s := if v != w.rev then s.updNwl n (fun w => { w with rev := v, toothang := move w.toothang, aLast := none }) else s
  let s := nwlEvent (s.updNwl n (fun w => { w with phok := true })) n 11
  if w.state == .confirm && w.mode == 0 then goto s n .sync else s

/-- A sync error (R128): of kind 1 or 2, of kind 3, or of kind 4, whose events are set where it is found. -/
def syncError (s : State) (n : Fin 4) (kind : Nat) : State :=
  let s := s.updNwl n (fun w => { w with errSince := true })
  let s := match kind with
    | 3 => (nwlEvent s n 6).raise FS.NWL_CAMERR (w32 n.val)
    | 4 => s
    | _ => ((nwlEvent s n 5).raise FS.NWL_GAPERR (w32 n.val)).satFl (nwlOff n NWL.ERRS) 0 8
  let w := s.nwl[n]
  if w.state == .confirm || w.state == .sync then
    let e := min 15 (w.errcnt + 1)
    let s := s.updNwl n (fun w => { w with errcnt := e })
    if errMax s n ≤ e then goto s n .lost else s
  else s

/-- The index moves on (R124): past the end of the wheel REV toggles in a cycle of two revolutions, REVCNT counts, and ERRCNT clears
without a sync error since the last time. -/
def stepIndex (s : State) (n : Fin 4) (stp : Nat) : State :=
  let w := s.nwl[n]
  let nt := max 1 (nTeeth s n)
  if w.idx + stp < nt then s.updNwl n (fun w => { w with idx := w.idx + stp })
  else
    let s := s.upd (nwlOff n NWL.REVCNT) (· + 1)
    let rev := if nwlC s n = cycle720 then !w.rev else w.rev
    s.updNwl n (fun w => { w with idx := (w.idx + stp) % nt, rev := rev, errcnt := if w.errSince then w.errcnt else 0, errSince := false })

/-- The angle takes that of the tooth at the present index (R122). -/
def toToothAngle (s : State) (n : Fin 4) : State :=
  s.updNwl n (fun w => { w with toothang := toothAngle s n w.idx w.rev })

/-- A CANDIDATE starts at the tooth after gap `g` (R123, R125): index, REV, PHOK, and the first prediction from the last two
periods. The prediction is the second part. -/
def establish (s : State) (n : Fin 4) (g : Nat) : State × Nat :=
  let nt := max 1 (nTeeth s n)
  let s := goto (s.updNwl n (fun w => { w with fast := false })) n .candidate
  let s := s.updNwl n (fun w => { w with
    idx := (g + 1) % nt, rev := false, phok := false, candLeft := nt, errSince := false, votes := 0, sinceGap := some 1, aLast := none })
  let s := toToothAngle s n
  match s.nwl[n].hist with
  | h0 :: h1 :: _ =>
    let s := s.updNwl n (fun w => { w with dprev := max 1 h1.d, aprev := whlA s n g })
    predict s n h0.d (whlA s n (g + 1)) (whlA s n (g + 2))
  | _ => (s, 1)

/-- The gap that a true gap test shows, by the teeth since the gap found before it: the only one described, or the one that this
number identifies (R123). -/
def identifyGap (s : State) (n : Fin 4) : Option Nat :=
  match gapsOf s n with
  | [g] => some g
  | gs => match s.nwl[n].sinceGap with
    | some d => gs.find? (fun g => teethBefore s n g + 1 == d)
    | none => none

/-! ## Accepted and rejected teeth -/

/-- A rejected edge (R118): REJCNT, EVT.REJ and its record, and LASTCLS. -/
def rejectTooth (s : State) (n : Fin 4) (t : Nat) : State :=
  let s := s.satFl (nwlOff n NWL.CNT) 0 16
  let s := nwlEvent (s.updNwl n (fun w => { w with lastcls := .rejected })) n 1
  toothRecord s n t .rejected

/-- An accepted tooth at effective time `t` (R134, R139): its class, EVT.TOOTH, its record, and the load of the new interval and
prediction two ticks later. -/
def acceptTooth (s : State) (n : Fin 4) (t : Nat) (cls : Cls) (d an p : Nat) (pred : Bool) : State :=
  let s := s.updNwl n (fun w => { w with
    lastcls := cls, acls := cls, seq := (w.seq + 1) % 65536, tooth := some t, heldDone := false })
  let w := s.nwl[n]
  let info := w32 (t % 32 + cls.code * 32 + w.idx % 128 * 256 + w.rev.toNat * 2 ^ 15 + w.seq * 65536)
  let s := s.updNwl n (fun w => { w with load := some ⟨t, an, p, pred, info, d⟩ })
  toothRecord ((nwlEvent s n 0).after 2 (.predictionLoad n)) n t cls

/-- The period from the last accepted tooth enters the history. -/
def pushPeriod (w : Nwl) (d : Nat) (ins : Bool) : Nwl :=
  { w with hist := (⟨d, ins⟩ :: w.hist).take 4, sinceGap := w.sinceGap.map (fun k => min 1000 (k + if ins then 2 else 1)) }

/-- A pass over the slots opens at a tooth in SYNC (R147), and bars freezing until its conversions (R149); at the tooth of entry there is no
late pass (R155). -/
def openPass (s : State) (n : Fin 4) (d a aPrev : Nat) (entry : Bool) : State :=
  let s := s.updNwl n (fun w => { w with
    passD := d, passA := max 1 a, aPrev := aPrev, lateQ := [], convQ := [], conv := none, passAt := s.now, waitConv := true })
  if entry then s else s.after 1 (.latePass n)

/-- A gap has been found where the Newel knows no index, or another one (R123, R133): CANDIDATE restarts there, or with several gaps
described and none before it the gap is remembered and SEEK goes on. The prediction, if any, is the second part. -/
def gapFound (s : State) (n : Fin 4) : State × Option Nat :=
  match identifyGap s n with
  | some g => let r := establish s n g; (r.1, some r.2)
  | none =>
    let s := if s.nwl[n].state == .seek then s else goto s n .seek
    (s.updNwl n (fun w => { w with sinceGap := some 1 }), none)

/-- A tooth edge without a prediction (R119): in SEEK, HOLD and LOST, and the first two teeth of a fast CANDIDATE. -/
def seekTooth (s : State) (n : Fin 4) (t : Nat) : State :=
  let w := s.nwl[n]
  let d := match w.tooth with | some l => t - l | none => 0
  let short := w.tooth.isSome && (match w.hist with | h0 :: h1 :: _ => decide (d * 256 < rejF s n * min h0.d h1.d) | _ => false)
  let push (s : State) : State := if w.tooth.isSome then s.updNwl n (fun w => pushPeriod w d false) else s
  if short then rejectTooth s n t
  else match w.state with
    | .hold =>
      let s := s.updNwl n clearHist
      if s.wasBt (nwlOff n NWL.CTRL) 5 then
        let s := goto s n .candidate
        let s := s.updNwl n (fun w => { w with
          fast := true, fastTeeth := 1, fastFor := 0, fastAgainst := 0, votes := 0, errSince := false, candLeft := nTeeth s n })
        let s := toToothAngle (stepIndex s n 1) n
        acceptTooth s n t .normal d (whlA s n (s.nwl[n].idx + 1)) 1 false
      else acceptTooth (goto s n .seek) n t .normal d 0 1 false
    | .lost =>
      if s.wasBt (nwlOff n NWL.CTRL) 4 then acceptTooth (goto (s.updNwl n clearHist) n .seek) n t .normal d 0 1 false
      else acceptTooth (push s) n t .normal d 0 1 false
    | .seek =>
      let s := push s
      if gapTest s n s.nwl[n].hist = some true then
        match gapFound s n with
        | (s, some p) => acceptTooth s n t .gap d (whlA s n (s.nwl[n].idx + 1)) p true
        | (s, none) => acceptTooth s n t .gap d 0 1 false
      else acceptTooth s n t .normal d 0 1 false
    | _ =>
      let s := (push s).updNwl n (fun w => { w with fastTeeth := w.fastTeeth + 1 })
      let s := toToothAngle (stepIndex s n 1) n
      let a := whlA s n s.nwl[n].idx
      let s := s.updNwl n (fun w => { w with dprev := max 1 d, aprev := a })
      let r := predict s n d a (whlA s n (s.nwl[n].idx + 1))
      acceptTooth r.1 n t .normal d (whlA s n (s.nwl[n].idx + 1)) r.2 true

/-- What the gap test of an accepted tooth leads to (R127, R128, R133): the state after it, and the prediction where CANDIDATE restarts at
a gap. `ge` says whether the tooth before has GAPEND. -/
def gapOutcome (s : State) (n : Fin 4) (g : Option Bool) (ge : Bool) : State × Option Nat :=
  let w := s.nwl[n]
  let s := if g == some true then s.updNwl n (fun w => { w with sinceGap := w.sinceGap.map (fun k => min 1000 k) }) else s
  match g with
  | some true =>
    if ge then
      let s := s.updNwl n (fun w => { w with sinceGap := some 1 })
      if w.state == .candidate && w.fast then
        let ok := camVote s n ≤ w.fastFor && w.fastAgainst == 0
        let s := s.updNwl n (fun w => { w with fast := false, phok := ok, votes := if ok then w.votes else 0 })
        (goto s n (if ok then .sync else .confirm), none)
      else (s, none)
    else
      let s := syncError s n 1
      if w.state == .candidate then gapFound s n else (s.updNwl n (fun w => { w with sinceGap := some 1 }), none)
  | some false =>
    if ge then
      let s := syncError s n 2
      if w.state == .candidate then (goto s n .seek, none) else (s, none)
    else (s, none)
  | none => (s, none)

/-- A tooth edge in CANDIDATE, CONFIRM or SYNC (R118, R120, R122 to R124, R127, R128). -/
def trackTooth (s : State) (n : Fin 4) (t : Nat) : State :=
  let w := s.nwl[n]
  let d := t - w.tooth.getD w.tlast
  let cls := classOf s n d
  if cls == .rejected then rejectTooth s n t
  else
    let ins := cls == .inserted
    let stp := if ins then 2 else 1
    let a := curAnext w + (if ins then whlA s n (w.idx + 2) else 0)
    let aPrev := refAngle s n
    let s := match cls with
      | .inserted => (nwlEvent s n 2).satFl (nwlOff n NWL.CNT) 16 16
      | .early => nwlEvent s n 3
      | .late => nwlEvent s n 4
      | _ => s
    let s := s.updNwl n (fun w => pushPeriod w d ins)
    match gapOutcome s n (gapTest s n s.nwl[n].hist) (gapEnd s n w.idx) with
    | (s, some p) => acceptTooth s n t cls d (whlA s n (s.nwl[n].idx + 1)) p true
    | (s, none) =>
      let s := toToothAngle (stepIndex s n stp) n
      let an := whlA s n (s.nwl[n].idx + 1)
      if s.nwl[n].state == .seek || s.nwl[n].state == .lost then acceptTooth s n t cls d an 1 false
      else
        let r := predict s n d a an
        let s := r.1
        let s :=
          if w.state == .candidate && s.nwl[n].state == .candidate && !s.nwl[n].fast then
            if w.candLeft ≤ stp then goto s n (if w.phok || nwlC s n == revLen then .sync else .confirm)
            else s.updNwl n (fun w => { w with candLeft := w.candLeft - stp })
          else s
        let s := acceptTooth s n t cls d an r.2 true
        if s.nwl[n].state == .sync then openPass s n d a aPrev (w.state != .sync) else s

/-- TOOTH_RECEIVE (R113, R134): an edge in the TPOL direction arrives, and is classified two ticks later. -/
def execToothReceive (n : Fin 4) (e : EdgeInfo) (s : State) : Host.Outcome State Fault Refusal :=
  if s.nwl[n].on && s.nwl[n].mode = 0 then
    .next ((s.updNwl n (fun w => { w with inbox := w.inbox ++ [e] })).after 2 (.toothClassify n))
  else .next s

/-- TOOTH_CLASSIFY (R118 to R128, R134). -/
def execToothClassify (n : Fin 4) (s : State) : Host.Outcome State Fault Refusal :=
  let w := s.nwl[n]
  match w.inbox with
  | [] => .next s
  | e :: rest =>
    let s := s.updNwl n (fun w => { w with inbox := rest })
    if !(w.on && w.mode = 0) then .next s
    else
      let s := takeLimits s n
      let t := e.coarse.toNat * 32 + e.fine.toNat
      let track := match w.state with
        | .candidate | .confirm | .sync => !(w.fast && w.fastTeeth < 2) && curPred w
        | _ => false
      .next (if track then trackTooth s n t else seekTooth s n t)

/-! ## The prediction load and the windows (R122, R134, R147, R159) -/

/-- Whether the Newel schedules (chapter 06): SYNC with no cancel since it was entered (R155), and EVEN = 1; an encoder not while its direction
is down (R160). -/
def schedOn (s : State) (n : Fin 4) : Bool :=
  let w := s.nwl[n]
  w.on && w.state == .sync && !w.barred && s.wasBt (nwlOff n NWL.EVCTRL) 0 && !(w.mode == 1 && w.dir)

/-- The window of the present tooth in angle steps (R147, R159, R164). -/
def windowOf (s : State) (n : Fin 4) : Nat :=
  let w := s.nwl[n]
  let win := max 1 (min 4 (s.wasFl (nwlOff n NWL.EVCTRL) 1 3))
  if w.mode = 1 then max 1 (s.wasFl (nwlOff n NWL.EVCTRL) 8 22)
  else if nTeeth s n < 3 then curAnext w
  else curAnext w + ((List.range (win - 1)).map (fun i => whlA s n (w.idx + 2 + i))).sum

/-- A list with an element put in before the first that is not smaller by `f`. -/
def insertBy {α : Type} (f : α → Nat) (x : α) : List α → List α
  | [] => [x]
  | y :: ys => if f x < f y then x :: y :: ys else y :: insertBy f x ys

/-- A list in ascending order of `f`; equal ones keep their order. -/
def sortBy {α : Type} (f : α → Nat) (xs : List α) : List α := xs.foldl (fun acc x => insertBy f x acc) []

/-- The distance of a slot's event ahead of the last tooth (R147). -/
def slotAhead (s : State) (n : Fin 4) (k : Fin 512) : Nat := fwd (nwlC s n) (s.nwl[n].toothang) (slotAng s n k)

/-- Whether a slot is to be converted in the present pass: ARMED or QUEUED, in the window, its instance open (R146, R147). -/
def inWindow (s : State) (n : Fin 4) (k : Fin 512) : Bool :=
  let d := slotAhead s n k
  slotLive s n k && (slotState s n k == 1 || slotState s n k == 2) && decide (1 ≤ d) && decide (d ≤ windowOf s n)
    && !slotDone s n k (instAhead s n (slotAng s n k))

/-- The slots of the pass in the order of conversion (R147). -/
def passSlots (s : State) (n : Fin 4) : List (Fin 512) := sortBy (slotAhead s n) ((slotsOn s n).filter (inWindow s n))

/-- A speed in SYNC updates the lifetime counters of the Newel (R370). -/
def lifeSpeed (s : State) (n : Fin 4) (rpm : Nat) : State :=
  let o := R.LIFE_RPM + 4 * n.val
  let s := s.setFl o 0 16 (max (s.fl o 0 16) (min rpm 65535))
  let thr := s.fl (R.LIFE_OVTHR + 4 * n.val) 0 16
  if thr = 0 then s
  else if thr < rpm && !s.nwl[n].overspeed then
    (s.satFl (R.LIFE_OVSPD + 4 * n.val) 0 32).updNwl n (fun w => { w with overspeed := true })
  else if rpm ≤ thr - thr / 64 then s.updNwl n (fun w => { w with overspeed := false }) else s

/-- The device puts a frame on the peer ring (R413), while the ring is up. -/
def peerSend (s : State) (f : PeerFrame) : State := { s with peer := { s.peer with tx := s.peer.tx ++ [f] } }

/-- The frame head of this device's own frames (R414). -/
def ownHead (s : State) : FrameHead := ⟨Fin.ofNat 4 (s.fl R.PEER_STAT 0 2), 0⟩

/-- The tooth broadcast of a Newel (R416). -/
def toothFrames (s : State) (n : Fin 4) (l : Load) : State :=
  if s.bt R.PEER_STAT 4 && s.bt R.PEER_CFG (4 + n.val) then
    let w := s.nwl[n]
    let t0 : Tooth0 := { nwl := n, near := w32 (l.tlast / 32), fine := BitVec.ofNat 5 l.tlast, ang := BitVec.ofNat 22 w.toothang,
                         cls := Fin.ofNat 6 w.acls.code, idx := BitVec.ofNat 7 w.idx, state := Fin.ofNat 6 w.state.code, rev := w.rev }
    let s := peerSend s (.tooth0 (ownHead s) t0)
    peerSend s (.tooth1 (ownHead s) ⟨n, BitVec.ofNat 40 l.ppred, BitVec.ofNat 22 l.anext⟩)
  else s

/-- The tooth's registers take their values (R143). -/
def loadTooth (s : State) (n : Fin 4) (l : Load) : State :=
  let s := s.updNwl n (fun w => { w with tlast := l.tlast, anext := l.anext, ppred := l.ppred, pred := l.pred, load := none })
  let s := s.wr (nwlOff n NWL.TOOTHT) (w32 (l.tlast / 32))
  let s := s.wr (nwlOff n NWL.TOOTHINFO) l.info
  let s := s.wr (nwlOff n NWL.PERIOD) (w32 (min l.d 0xFFFFFFFF))
  if l.pred then
    let w := s.nwl[n]
    let s := s.wr (nwlOff n NWL.PRED) (w32 (min l.ppred 0xFFFFFFFF))
    let s := s.wr (nwlOff n NWL.RATIO) (w32 (w.ratio % 2 ^ 18 + w.rclamped.toNat * 2 ^ 18))
    let s := if w.rclamped && w.mode == 0 then nwlEvent s n 14 else s
    if w.state == .sync then lifeSpeed s n (l.anext * 12800000000 / (l.ppred * 24576)) else s
  else s

/-- PREDICTION_LOAD (R122, R134): the tooth's time, interval and prediction come into force, the tooth SRQ goes out, and the window's
slots are lined up for conversion from the next tick on. -/
def execPredictionLoad (n : Fin 4) (s : State) : Host.Outcome State Fault Refusal :=
  let w := s.nwl[n]
  if !w.on then .next s
  else
    let s := match w.load with
      | some l => toothFrames (loadTooth s n l) n l
      | none => s
    let s := if w.mode != 1 && s.wasBt (nwlOff n NWL.SRQEN) 0 then s.srqVia (nwlOff n NWL.ROUTE) (.nwl n) 0 else s
    let s := s.updNwl n (fun w => { w with waitConv := false })
    .next (if schedOn s n && s.nwl[n].pred then s.updNwl n (fun w => { w with convQ := passSlots s n, convAt := s.now }) else s)

/-! ## Phase inputs (R129) -/

/-- Whether a cam-edge entry of phase input `j` matches angle `a` with the level after the edge (R117, R129). -/
def camMatches (s : State) (n : Fin 4) (j : Fin 2) (a : Nat) (lvl : Bool) : Bool :=
  (List.range 8).any (fun k =>
    let e := s.rd (nwlOff n (NWL.CAME + 0x20 * j.val + 4 * k))
    let ang := fld e 0 22
    let d := fwd cycle720 ang (a % cycle720)
    bit e 23 && decide (ang < cycle720) && bit e 22 == lvl && decide (min d (cycle720 - d) ≤ s.wasFl (nwlOff n NWL.CAMWIN) 0 22))

/-- PHASE_INPUT_EDGE (R129, R133): votes, the phase decision, CAMERRCNT and the sync error of kind 3, in CANDIDATE and the states after it. In
HOLD, where REV keeps its value (R132), an edge decides no phase. -/
def execPhaseInputEdge (n : Fin 4) (j : Fin 2) (e : EdgeInfo) (s : State) : Host.Outcome State Fault Refusal :=
  let w := s.nwl[n]
  if !(w.on && w.mode = 0 && w.state != .seek) then .next s
  else
    let a := angleAt s n (e.coarse.toNat * 32 + e.fine.toNat)
    let c := nwlC s n
    let other := (a + revLen) % c
    let m0 := camMatches s n j (if w.rev then other else a) e.level
    let m1 := camMatches s n j (if w.rev then a else other) e.level
    let s :=
      if !m0 && !m1 then s.satFl (nwlOff n NWL.ERRS) 8 8
      else if m0 == m1 then s
      else
        let s := if w.fast then
            s.updNwl n (fun w => if m1 == w.rev then { w with fastFor := w.fastFor + 1 } else { w with fastAgainst := w.fastAgainst + 1 })
          else s
        if w.phok then s
        else
          let k := if w.votes != 0 && w.voteRev == m1 then w.votes + 1 else 1
          let s := s.updNwl n (fun w => { w with votes := k, voteRev := m1 })
          if camVote s n ≤ k && w.state != .hold then decidePhase s n m1 else s
    let ok := if w.rev then m1 else m0
    .next (if w.state == .sync && s.wasBt (nwlOff n NWL.CTRL) 6 && !ok then syncError s n 3 else s)

/-! ## Stall (R131, R132, R138) -/

/-- The stall limit of the present interval in fine units (R131); without a prediction only STALLMAX. -/
def stallLimit (s : State) (n : Fin 4) : Nat :=
  let w := s.nwl[n]
  if curPred w then min (curPpred w * w.stallK / 4) (w.stallMax * 32) else w.stallMax * 32

/-- Whether the stall timeout of the present interval is satisfied (R131, R138). -/
def stallDue (s : State) (n : Fin 4) : Bool :=
  let w := s.nwl[n]
  let st := match w.mode with
    | 0 => w.state != .hold
    | 2 => w.state != .lost
    | _ => false
  w.on && st && (match w.tooth with | some t => decide (t + stallLimit s n ≤ s.eff) | none => false)

/-- A peer follower is lost (R123, R138). -/
def peerLost (s : State) (n : Fin 4) : State :=
  let s := goto s n .lost
  (s.updNwl n clearHist).raiseLevel (FS.NWL_PEERLOSS + n.val) (w32 n.val)

/-- STALL_TIMEOUT (R123, R131): HOLD from CANDIDATE, CONFIRM and SYNC; in SEEK and LOST the history is cleared; a peer follower is
lost. -/
def execStallTimeout (n : Fin 4) (s : State) : Host.Outcome State Fault Refusal :=
  if !stallDue s n then .next s
  else
    let s := s.satFl (nwlOff n NWL.ERRS) 24 8
    if s.nwl[n].mode = 2 then .next (peerLost s n)
    else match s.nwl[n].state with
      | .seek => .next (nwlEvent (goto (s.updNwl n clearHist) n .seek) n 10)
      | .lost => .next (goto (s.updNwl n clearHist) n .lost)
      | _ => .next (goto s n .hold)

/-! ## Encoder mode (R136, R137, R159, R160) -/

/-- An error of kind 4 in encoder mode (R128, R137). -/
def encError (s : State) (n : Fin 4) (b : Nat) : State :=
  let s := (nwlEvent s n b).satFl (nwlOff n NWL.ERRS) 16 8
  let s := if b = 12 then s.raise FS.NWL_ENCERR (w32 n.val) else s
  syncError s n 4

/-- Every unfrozen entry is withdrawn (R160). -/
def withdrawAll (s : State) (n : Fin 4) : State :=
  (List.finRange 512).foldl (fun s k => if slotState s n k = 2 then withdraw s n k else s) s

/-- LOST ends at the first count step or Z edge with AUTORES = 1 (R123). -/
def encResume (s : State) (n : Fin 4) : State :=
  if s.nwl[n].state == .lost && s.wasBt (nwlOff n NWL.CTRL) 4 then
    (goto s n .seek).updNwl n (fun w => { w with seekGo := true, actAt := s.now })
  else s

/-- One count step at effective time `t` (R136, R159, R160). -/
def encStep (s : State) (n : Fin 4) (up : Bool) (t : Nat) : State :=
  let o := nwlOff n NWL.ENCPOS
  let w := s.nwl[n]
  let cpc := encCpc s n
  let pos := s.fl o 0 24
  let pos' := if up then (pos + 1) % cpc else (pos + cpc - 1) % cpc
  let a0 := encAngle s n pos
  let a1 := encAngle s n pos'
  let aPrev := refAngle s n
  let d := match w.encT with | some t0 => t - t0 | none => 0
  let wraps := if up then decide (pos' < pos) else decide (pos < pos')
  let s := encResume s n
  let s := s.setFl o 0 24 pos'
  let s := s.updNwl n (fun w => { w with
    dir := !up, encOld := pos, encT := some t, encInt := if w.dir == !up then d else 0 })
  let s := if wraps && !s.wasBt (nwlOff n NWL.CTRL) 7 then
      s.updNwl n (fun w => { w with errcnt := if w.errSince then w.errcnt else 0, errSince := false })
    else s
  if s.nwl[n].state == .sync then
    let s := if 0 < d then lifeSpeed s n (768000000000 / (d * cpc)) else s
    if up then
      let s := s.updNwl n (fun w => { w with
        toothang := a1, tlast := t, anext := max 1 (fwd (nwlC s n) a1 (encAngle s n ((pos' + 1) % cpc))), ppred := max 1 d, pred := decide (0 < d) })
      let s := openPass s n d (fwd (nwlC s n) a0 a1) (if w.dir then a0 else aPrev) (d == 0)
      s.after 2 (.predictionLoad n)
    else
      let s := s.updNwl n (fun w => { w with lateQ := [], convQ := [], conv := none, reofferQ := [] })
      if w.dir then s else withdrawAll s n
  else s

/-- ENCODER_EDGE (R136, R137): the quadrature step of an edge of A or B, or an illegal transition when both were timestamped in one
tick. An edge of B that meets one of A in its tick goes behind it (R135). DEDUCED (assumption 45): where the filters of A and B differ, the
second edge of an illegal pair takes the count of the first one back, and DIR and the interval of that step stay. -/
def execEncoderEdge (n : Fin 4) (e : EdgeInfo) (s : State) : Host.Outcome State Fault Refusal :=
  let w := s.nwl[n]
  if !(w.on && w.mode = 1) then .next s
  else
    let s := takeLimits s n
    let isA := s.fl (nwlOff n NWL.INPUT) 0 7 == e.ch.val
    let c := e.coarse.toNat
    let first := s.agenda.any (fun d => d.tick ≤ s.ticks && (match d.cmd with | .encoderEdge m x => m == n && x.ch != e.ch | _ => false))
    if !isA && first then .next (s.after 0 (.encoderEdge n e))
    else
    let t := c * 32 + e.fine.toNat
    let s := s.updNwl n (fun w => if isA then { w with encA := e.level } else { w with encB := e.level })
    let partner := s.agenda.any (fun d => match d.cmd with
      | .encoderEdge m x => m == n && x.ch != e.ch && x.coarse == e.coarse
      | _ => false)
    if w.encSame == some c then .next (encError (s.updNwl n (fun w => { w with encSame := none })) n 12)
    else if partner then .next (s.updNwl n (fun w => { w with encSame := some c }))
    else if w.encT.isSome && (w.encT.getD 0) / 32 == c then .next (encError (s.setFl (nwlOff n NWL.ENCPOS) 0 24 w.encOld) n 12)
    else
      let w := s.nwl[n]
      let up := if isA then w.encA != w.encB else w.encA == w.encB
      .next (encStep s n up t)

/-- Z_EDGE (R137): a rising Z edge sets the count to ZPOS, checks it against ZTOL, ends SEEK or a LOST that it finds, and is recorded as a
tooth. -/
def execZEdge (n : Fin 4) (e : EdgeInfo) (s : State) : Host.Outcome State Fault Refusal :=
  let w := s.nwl[n]
  if !(w.on && w.mode = 1 && e.level) then .next s
  else
    let t := e.coarse.toNat * 32 + e.fine.toNat
    let s := s.updNwl n (fun w => { w with lastcls := .normal })
    let s :=
      if s.wasBt (nwlOff n NWL.CTRL) 7 then
        let o := nwlOff n NWL.ENCPOS
        let cpc := encCpc s n
        let z := s.fl (nwlOff n NWL.ZCFG) 0 24 % cpc
        let d := fwd cpc z (s.fl o 0 24 % cpc)
        let off := min d (cpc - d)
        let c := nwlC s n
        let a0 := refAngle s n
        let s := s.setFl o 0 24 z
        let a1 := encAngle s n z
        let ahead := 2 * fwd c a0 a1 ≤ c
        let cyc := if ahead && a1 < a0 then (w.cycnum + 1) % 256 else if !ahead && a0 < a1 then (w.cycnum + 255) % 256 else w.cycnum
        let s := s.updNwl n (fun w => { w with cycnum := cyc, aLast := some a1, encInt := 0 })
        let s := if s.fl (nwlOff n NWL.ZCFG) 24 8 < off then encError s n 13
          else s.updNwl n (fun w => { w with errcnt := 0, errSince := false })
        match w.state with
        | .seek => goto s n .sync
        | .lost => encResume s n
        | _ => s
      else encResume s n
    .next (toothRecord s n t .normal)

/-! ## Peer follower mode (R138, R161) -/

/-- The sync state of a code of NWLn_STATE.STATE, and the class of a code. -/
def syncOf (k : Fin 6) : Sync := match k with | 0 => .seek | 1 => .candidate | 2 => .confirm | 3 => .sync | 4 => .hold | 5 => .lost
def clsOf (k : Fin 6) : Cls := match k with | 0 => .normal | 1 => .early | 2 => .late | 3 => .gap | 4 => .inserted | 5 => .rejected

/-- The 64-bit time of a near time within half a modulus of the present (R6). -/
def farTime (s : State) (near : Word) : Nat := (s.tb.tb - (s.near - near).signExtend 64).toNat

/-- A tooth broadcast takes effect in its arrival tick (R123, R138, R161): state, angle and prediction become those of the source. The index
counts revolutions (R124), and a move of REV that no passage of the index explains is a phase decision of the source, which is no passage of
the cycle (R146). -/
def applyBroadcast (s : State) (n : Fin 4) (t0 : Tooth0) (t1 : Tooth1) : State :=
  let s := s.endLevel (FS.NWL_PEERLOSS + n.val)
  let w := s.nwl[n]
  if w.state == .lost && !s.bt (nwlOff n NWL.CTRL) 4 then s
  else
    let s := takeLimits s n
    let t := farTime s t0.near * 32 + t0.fine.toNat
    let c := nwlC s n
    let aPrev := angleOf s n (s.tb.prev.toNat * 32 + s.tb.prevFofs)
    let d := if w.peerSeen then t - w.tlast else 0
    let tooth := t0.ang.toNat % c
    let a := fwd c (w.toothang % c) tooth
    let cls := clsOf t0.cls
    let st := syncOf t0.state
    let track := w.state == .candidate || w.state == .confirm || w.state == .sync
    let wraps := w.peerSeen && t0.idx.toNat < w.idx
    let moved := w.peerSeen && ((t0.rev != w.rev) != (wraps && c == cycle720))
    let s := if track && wraps then s.upd (nwlOff n NWL.REVCNT) (· + 1) else s
    let s := if st == w.state then s else goto s n st
    let s := s.updNwl n (fun w => { w with
      rev := t0.rev, idx := t0.idx.toNat, phok := true, toothang := tooth, frozenAng := tooth, peerSeen := true,
      aLast := if moved then none else w.aLast })
    let s := match cls with
      | .inserted => (nwlEvent s n 2).satFl (nwlOff n NWL.CNT) 16 16
      | .early => nwlEvent s n 3
      | .late => nwlEvent s n 4
      | _ => s
    let s := acceptTooth s n t cls d t1.anext.toNat (max 1 t1.pred.toNat) (t1.anext.toNat != 0)
    let s := match s.nwl[n].load with | some l => loadTooth s n l | none => s
    if st == .sync then openPass s n d a aPrev (w.state != .sync || d == 0) else s

/-- The Newels that follow Newel `src` of device `dev` (R138). -/
def followersOf (s : State) (dev src : Fin 4) : List (Fin 4) :=
  (List.finRange 4).filter (fun n =>
    s.nwl[n].on && s.nwl[n].mode == 2 && s.fl (nwlOff n NWL.PEER) 0 2 == dev.val && s.fl (nwlOff n NWL.PEER) 2 2 == src.val)

/-! ## Enable, disable and commands (R112, R116, R123) -/

/-- The Newel stops (R112): SEEK, no angle, nothing under way. -/
def newelStop (s : State) (n : Fin 4) : State :=
  let s := s.endLevel (FS.NWL_LOST + n.val)
  let s := s.dropDue (fun c => c == .toothClassify n || c == .predictionLoad n || c == .latePass n)
  s.updNwl n (fun w => { clearHist w with
    on := false, stop := false, frozenAng := angleNow s n, state := .seek, fast := false, inbox := [], aLast := none, cmd := 0,
    seekGo := false, waitConv := false })

/-- EN goes from 0 to 1 (R112, R116): MODE and CYC are sampled and a toothed-wheel description is checked; on refusal EN stays 0 with
DESCERR and NWL_DESC. -/
def newelEnable (s : State) (n : Fin 4) : State :=
  let s := if s.nwl[n].stop then newelStop s n else s
  let ctrl := s.rd (nwlOff n NWL.CTRL)
  let mode := match fld ctrl 1 2 with | 1 => 1 | 2 => 2 | _ => 0
  if mode = 0 && !descOk s n then (nwlEvent s n 15).raise FS.NWL_DESC (w32 n.val)
  else
    let inp := s.rd (nwlOff n NWL.INPUT)
    let lvl (k : Nat) : Bool := if h : k < 96 then s.ch[(⟨k, h⟩ : Fin 96)].level else false
    let s := s.setBt (nwlOff n NWL.CTRL) 0 true
    let s := s.updNwl n (fun w => { clearHist w with
      on := true, mode := mode, cyc360 := bit ctrl 3, state := .seek, fast := false, phok := false, rev := false, dir := false,
      errcnt := if mode = 2 then 0 else w.errcnt, tooth := if mode = 2 then some s.eff else none, votes := 0, errSince := false, inbox := [], aLast := none,
      encA := lvl (fld inp 0 7), encB := lvl (fld inp 8 7), encT := none, encInt := 0, encSame := none, cmd := w.cmd &&& 8,
      seekGo := mode != 0, actAt := s.now, peerSeen := false, heldDone := false })
    takeLimits s n

/-- EN is written 0 (R112, R155): the register reads 0, a Newel that runs stops in the next tick, and a cancel follows. -/
def newelDisable (s : State) (n : Fin 4) : State :=
  let s := s.setBt (nwlOff n NWL.CTRL) 0 false
  let s := cancelNext s n
  if s.nwl[n].on then s.updNwl n (fun w => { w with stop := true, actAt := s.now }) else s

/-- A write of NWLn_CTRL (R112): MODE 0b11 raises RSVD_WRITE by the register table. -/
def writeNwlCtrl (s : State) (n : Fin 4) (v : Word) : State :=
  let o := nwlOff n NWL.CTRL
  let was := s.bt o 0
  let s := s.wr o (setBit (v &&& 0x1FF) 0 was)
  if !bit v 0 then newelDisable s n else if was then s else newelEnable s n

/-- A write of NWLn_CMD: its commands act in the next tick (R123, R135); ERRCLR clears the count of a Newel that does not run too (R143). -/
def writeNwlCmd (s : State) (n : Fin 4) (v : Word) : State :=
  s.updNwl n (fun w => { w with cmd := w.cmd ||| (if w.on then fld v 0 5 else fld v 3 1 * 8), actAt := s.now })

/-- Whether commands served in an earlier tick are to act now. -/
def nwlActsDue (s : State) (n : Fin 4) : Bool :=
  let w := s.nwl[n]
  (w.cmd != 0 || w.stop || w.seekGo) && decide (w.actAt < s.now)

/-- The commands of the previous tick act (R123, R129, R135): RESYNC, PHSET, ERRCLR, HOLD, the stop, and the SEEK of an encoder
without Z; a peer follower whose link reports loss goes to LOST (R138). -/
def nwlActs (s : State) (n : Fin 4) : State :=
  let w := s.nwl[n]
  let c := w.cmd
  let track (st : Sync) : Bool := st == .candidate || st == .confirm || st == .sync
  let s := s.updNwl n (fun w => { w with cmd := 0, seekGo := false })
  let s := if w.seekGo && w.state == .seek && w.mode == 1 && !s.bt (nwlOff n NWL.CTRL) 7 then goto s n .sync else s
  let s := if w.seekGo && w.mode == 2 && w.state != .lost && !s.bt R.PEER_STAT 4 then peerLost s n else s
  let s :=
    if c.testBit 0 then
      let s := goto (s.updNwl n clearHist) n .seek
      s.updNwl n (fun x => { x with tooth := if w.mode = 2 then some s.eff else none, peerSeen := false, seekGo := w.mode != 0, actAt := s.now })
    else
      let s := if c.testBit 1 && w.mode != 1 && (w.state == .candidate || w.state == .confirm) then decidePhase s n (c.testBit 2) else s
      if c.testBit 4 && w.mode == 0 && track s.nwl[n].state then goto s n .hold else s
  let s := if c.testBit 3 then s.updNwl n (fun w => { w with errcnt := 0 }) else s
  if w.stop then newelStop s n else s

/-- NEWEL_ENABLE: a write of 1 to EN (R116). -/
def execNewelEnable (_ : Agent) (n : Fin 4) (s : State) : Host.Outcome State Fault Refusal :=
  .next (if s.bt (nwlOff n NWL.CTRL) 0 then s else newelEnable s n)
/-- NEWEL_DISABLE: a write of 0 to EN (R112). -/
def execNewelDisable (_ : Agent) (n : Fin 4) (s : State) : Host.Outcome State Fault Refusal :=
  .next (newelDisable s n)
/-- RESYNC, PHSET, ERRCLR and HOLD: writes of NWLn_CMD, which act in the next tick (R123). -/
def execResync (_ : Agent) (n : Fin 4) (s : State) : Host.Outcome State Fault Refusal := .next (writeNwlCmd s n 1)
def execPhset (_ : Agent) (n : Fin 4) (phval : Bool) (s : State) : Host.Outcome State Fault Refusal :=
  .next (writeNwlCmd s n (if phval then 6 else 2))
def execErrclr (_ : Agent) (n : Fin 4) (s : State) : Host.Outcome State Fault Refusal := .next (writeNwlCmd s n 8)
def execHold (_ : Agent) (n : Fin 4) (s : State) : Host.Outcome State Fault Refusal := .next (writeNwlCmd s n 16)

/-- A read of NWLn_TOOTHT (R143): it latches the tooth's other registers for the agent. -/
def readToothT (s : State) (a : Agent) (n : Fin 4) : Word × State :=
  let lat (s : State) (o : Nat) : State := s.setLat a (nwlOff n o) (s.rd (nwlOff n o))
  (s.rd (nwlOff n NWL.TOOTHT), lat (lat (lat (lat s NWL.TOOTHINFO) NWL.PERIOD) NWL.PRED) NWL.RATIO)

/-- TOOTHT_READ. -/
def execToothtRead (a : Agent) (n : Fin 4) (s : State) : Host.Outcome State Fault Refusal :=
  .next ((readToothT s a n).2.keep a (readToothT s a n).1)

/-- Whether a register of a Newel is protected while EN = 1 (R116): WHEEL, OFS, INPUT, CYCLEN, ENCCFG, ZCFG, PEER, the cam entries and
the wheel description. -/
def nwlLocked (o : Nat) : Bool :=
  o == NWL.INPUT || o == NWL.WHEEL || o == NWL.OFS || o == NWL.CYCLEN || o == NWL.ENCCFG || o == NWL.ZCFG || o == NWL.PEER
    || (NWL.CAME ≤ o && o < 0x400)

end Sys2Proof.Machine
end

