-- ==== Sys2Proof/Machine/AngleEvents.lean ====
section
/-! DEFINITION. Scheduling in crank degrees (chapter 06): the late pass and the conversions of a tooth, offers, commit points, the hold
angle, refusals, cancels, slot writes, and the angle commits of transactions that a Newel handles like slots (R319). -/

namespace Sys2Proof.Machine

/-! ## Offers (R147, R151 to R153) -/

/-- The time of the last accepted tooth. -/
def toothTime (s : State) (n : Fin 4) : Nat := match s.nwl[n].load with | some l => l.tlast | none => s.nwl[n].tlast

/-- The target of an event at distance `d` ahead of the last accepted tooth (R147), by its own prediction. -/
def convTarget (s : State) (n : Fin 4) (d : Nat) : Nat :=
  let w := s.nwl[n]
  toothTime s n + d * curPpred w / max 1 (curAnext w)

/-- The advance of the angle past the tooth (R147). -/
def advNow (s : State) (n : Fin 4) : Nat := fwd (nwlC s n) (s.nwl[n].toothang) (angleNow s n)

/-- COMMIT and LATEMAX of a slot (R145). -/
def slotCommit (s : State) (n : Fin 4) (k : Fin 512) : Nat := s.fl (evOff n k EV.COMMIT) 0 22
def slotLatemax (s : State) (n : Fin 4) (k : Fin 512) : Nat := s.fl (evOff n k EV.LATE) 0 22

/-- Whether the commit point of a slot is reached (R149); COMMIT = 0 never freezes (R145). -/
def commitReached (s : State) (n : Fin 4) (k : Fin 512) : Bool :=
  slotCommit s n k != 0 && slotAhead s n k ≤ advNow s n + slotCommit s n k

/-- The offer of a slot as converted now (R147). -/
def convOffer (s : State) (n : Fin 4) (k : Fin 512) : SlotOffer :=
  { slot := k, tgt := convTarget s n (slotAhead s n k), inst := instAhead s n (slotAng s n k), frz := commitReached s n k, late := false,
    cancel := false }

/-- The action-queue entry of an offer (R74, R147). -/
def offerEntry (s : State) (n : Fin 4) (o : SlotOffer) : AqEntry :=
  { coarse := w32 (o.tgt / 32), fine := o.tgt % 32, act := s.fl (evOff n o.slot EV.CFG) 8 4, record := true, frz := o.frz, tagv := true,
    tag := o.slot.val, origin := .newel n, late := o.late, cancel := o.cancel }

/-- An offer of an instance that is not completed (R146) is made (R75, R147, R148, R153, R155): accepted, the slot is QUEUED or FROZEN; refused, it is ARMED with EVEVT.REFUSED
and waits to be offered again, unless a cancel's offer met a disabled channel, which drops the instance. -/
def makeOffer (s : State) (n : Fin 4) (o : SlotOffer) : State :=
  let k := o.slot
  if !slotLive s n k || slotState s n k == 3 || slotDone s n k o.inst then s
  else
    let ch := slotCh s n k
    let s := s.updNwl n (fun w => { w with offerAt := s.now })
    let s := if slotState s n k == 2 && entryCh s n k != some ch then withdraw s n k else s
    match aqOfferEntry s ch (offerEntry s n o) with
    | (s, .accepted) =>
      let s := setInst (setSlotState s n k (if o.frz then 3 else 2)) n k o.inst
      let s := s.updNwl n (fun w => { w with reofferQ := w.reofferQ.filter (fun x => x.slot != k) })
      if o.late then evEvent s n k 1 else s
    | (s, .absorbed) => s
    | (s, .refused) =>
      let s := evEvent (setSlotState s n k 1) n k 4
      if !o.cancel then
        s.updNwl n (fun w => { w with reofferQ := w.reofferQ.filter (fun x => x.slot != k) ++ [o] })
      else if chEn s ch then s.updNwl n (fun w => { w with cancelQ := w.cancelQ ++ [o] })
      else countDrop (completeSlot s n k o.inst 3) n

/-! ## The passes of a tooth (R147, R148) -/

/-- The lateness in angle steps of a slot's event at the last tooth (R147). -/
def slotBehind (s : State) (n : Fin 4) (k : Fin 512) : Nat := fwd (nwlC s n) (slotAng s n k) (s.nwl[n].toothang)

/-- Whether the last tooth has passed a slot's event in an open instance (R147). -/
def passedNow (s : State) (n : Fin 4) (k : Fin 512) : Bool :=
  let span := fwd (nwlC s n) s.nwl[n].aPrev s.nwl[n].toothang
  slotLive s n k && (slotState s n k == 1 || slotState s n k == 2) && slotBehind s n k < span
    && !slotDone s n k (instPassed s n (slotAng s n k))

/-- The estimated crossing of an event that lies `l` angle steps behind the tooth (R147). -/
def crossing (s : State) (n : Fin 4) (l : Nat) : Nat := toothTime s n - l * s.nwl[n].passD / max 1 s.nwl[n].passA

/-- A transaction whose angle commit waits on a Newel (R319). -/
def angleCommit (s : State) (n : Fin 4) (t : Fin 8) : Bool :=
  txnState s t == 2 && s.txn[t].bound == 2 && s.txn[t].unit == n.val

/-- LATE_PASS (R147, R148): passed events beyond LATEMAX, and those that wait for a re-offer, are dropped; the others are lined up for
offers by descending lateness; angle commits that were jumped past land in this tick (R319). -/
def execLatePass (n : Fin 4) (s : State) : Host.Outcome State Fault Refusal :=
  if !schedOn s n then .next s
  else
    let passed := (slotsOn s n).filter (passedNow s n)
    let waits (k : Fin 512) : Bool := s.nwl[n].reofferQ.any (fun o => o.slot == k)
    let goes (k : Fin 512) : Bool := !waits k && slotBehind s n k ≤ slotLatemax s n k
    let mk (k : Fin 512) : SlotOffer :=
      { slot := k, tgt := crossing s n (slotBehind s n k), inst := instPassed s n (slotAng s n k), frz := false, late := true,
        cancel := false }
    let offers := (sortBy (fun k => nwlC s n - slotBehind s n k) (passed.filter goes)).map mk
    let drops := (passed.filter (fun k => !goes k)).map mk
    let c := nwlC s n
    let w := s.nwl[n]
    let span := fwd c w.aPrev w.toothang
    let lands := (List.finRange 8).filter (fun t =>
      angleCommit s n t && (let a := s.txn[t].at' % c; fwd c a w.toothang < span && instPassed s n a == s.txn[t].inst))
    let s := drops.foldl (fun s o => dropSlot s n o.slot o.inst o.tgt) s
    let s := lands.foldl (fun s t => s.after 0 (.landing t)) s
    .next (s.updNwl n (fun w => { w with lateQ := offers }))

/-- The next slot of the pass that still is to be converted (R147). -/
def nextConv (s : State) (n : Fin 4) : Option (Fin 512) := s.nwl[n].convQ.find? (inWindow s n)

/-- Whether a conversion is computed in this tick (R148). -/
def convDue (s : State) (n : Fin 4) : Bool :=
  let w := s.nwl[n]
  schedOn s n && w.lateQ.isEmpty && w.convAt < s.now && (nextConv s n).isSome

/-- SLOT_CONVERSION (R147): the target of the slot is computed, and offered in the next tick. -/
def execSlotConversion (n : Fin 4) (k : Fin 512) (s : State) : Host.Outcome State Fault Refusal :=
  if schedOn s n && s.nwl[n].pred && s.nwl[n].load.isNone && inWindow s n k then
    let rest := s.nwl[n].convQ.filter (· != k)
    .next (s.updNwl n (fun w => { w with conv := some (convOffer s n k), convQ := rest, convAt := s.now }))
  else .next s

/-- NEWEL_OFFER (R148): the offer of slot `k` that the late pass or the conversion of the tick before has lined up. -/
def execNewelOffer (n : Fin 4) (k : Fin 512) (s : State) : Host.Outcome State Fault Refusal :=
  let w := s.nwl[n]
  match w.lateQ with
  | o :: rest =>
    if o.slot == k then .next (makeOffer (s.updNwl n (fun w => { w with lateQ := rest, convAt := s.now })) n o) else .next s
  | [] =>
    match w.conv with
    | some o => if o.slot == k then .next (makeOffer (s.updNwl n (fun w => { w with conv := none })) n o) else .next s
    | none => .next s

/-! ## Commit points and the hold angle (R149, R150) -/

/-- Whether a slot is frozen in this tick (R149). -/
def freezeDue (s : State) (n : Fin 4) (k : Fin 512) : Bool :=
  let w := s.nwl[n]
  slotState s n k == 2 && schedOn s n && !w.waitConv && !w.convQ.contains k && !(match w.conv with | some o => o.slot == k | none => false)
    && !instGone s n (slotAng s n k) (slotInst s n k) && commitReached s n k

/-- The entry of a slot is frozen in its queue (R149). -/
def freezeEntry (s : State) (n : Fin 4) (k : Fin 512) : State :=
  match entryCh s n k with
  | some c =>
    let mark (e : AqEntry) : AqEntry := if e.origin == .newel n && e.tag == k.val then { e with frz := true } else e
    setSlotState (s.updCh c (fun x => { x with aq := x.aq.map mark })) n k 3
  | none => s

/-- COMMIT_FREEZE (R149): the entry of a QUEUED slot takes FRZ. -/
def execCommitFreeze (n : Fin 4) (k : Fin 512) (s : State) : Host.Outcome State Fault Refusal :=
  .next (if slotState s n k = 2 then freezeEntry s n k else s)

/-- Whether the angle clock reaches the hold angle in this tick (R150). -/
def holdReached (s : State) (n : Fin 4) : Bool := clampNow s n && s.nwl[n].state != .hold && !s.nwl[n].heldDone

/-- HOLD_ANGLE_REACHED (R121, R150, R319): the entries of QUEUED slots beyond the hold angle are withdrawn, and angle commits beyond it
wait again. -/
def execHoldAngleReached (n : Fin 4) (s : State) : Host.Outcome State Fault Refusal :=
  if !holdReached s n then .next s
  else
    let s := s.updNwl n (fun w => { w with heldDone := true })
    if !schedOn s n then .next s
    else
      let lim := advLim s n
      let out (k : Fin 512) : Bool :=
        slotState s n k == 2 && decide (lim < slotAhead s n k) && !instGone s n (slotAng s n k) (slotInst s n k)
      let ks := (List.finRange 512).filter out
      let c := nwlC s n
      let s := (List.finRange 8).foldl (fun s t =>
        if angleCommit s n t && decide (lim < fwd c s.nwl[n].toothang (s.txn[t].at' % c)) then s.updTxn t (fun x => { x with tgt := none }) else s) s
      let s := ks.foldl (fun s k => withdraw s n k) s
      .next (if ks.isEmpty then s else evEvent s n 0 3)

/-! ## Refusals (R153) -/

/-- Whether the angle has passed the event of a refused offer (R153). -/
def offerGone (s : State) (n : Fin 4) (o : SlotOffer) : Bool := o.late || instGone s n (slotAng s n o.slot) o.inst

/-- REOFFER (R153): the slot is offered again from the present tooth, or dropped once the angle has passed its event. -/
def execReoffer (n : Fin 4) (k : Fin 512) (s : State) : Host.Outcome State Fault Refusal :=
  match s.nwl[n].reofferQ.find? (fun o => o.slot == k) with
  | none => .next s
  | some o =>
    let s' := s.updNwl n (fun w => { w with reofferQ := w.reofferQ.filter (fun x => x.slot != k) })
    if !slotLive s n k || slotState s n k != 1 then .next s'
    else if offerGone s n o then .next (dropSlot s' n k o.inst o.tgt)
    else .next (makeOffer s' n { convOffer s n k with inst := o.inst })

/-! ## Cancels (R155) -/

/-- CANCEL (R155, R123, R319): unfrozen entries are withdrawn; slots with ONCANCEL = 0 complete as dropped, those with ONCANCEL = 1 whose
instance is open are lined up to fire once; the angle commits of the Newel fail, and nothing converts until SYNC is entered again. -/
def execCancel (n : Fin 4) (s : State) : Host.Outcome State Fault Refusal :=
  let onCancel (k : Fin 512) : Bool := s.bt (evOff n k EV.CFG) 12
  let queued := (List.finRange 512).filter (fun k => slotState s n k == 2)
  let s := queued.foldl (fun s k =>
    let i := slotInst s n k
    let s := withdraw s n k
    if onCancel k then s else countDrop (completeSlot s n k i 3) n) s
  let s := s.updNwl n (fun w => { w with
    lateQ := [], convQ := [], conv := none, reofferQ := [], reevalQ := [], waitConv := false, barred := true })
  let s := failCommits (evEvent s n 0 5) 2 n.val
  let open' (k : Fin 512) : Bool :=
    slotLive s n k && slotState s n k == 1 && onCancel k && !slotDone s n k (instNext s n (slotAng s n k))
  let mk (k : Fin 512) : SlotOffer :=
    { slot := k, tgt := 0, inst := instNext s n (slotAng s n k), frz := false, late := false, cancel := true }
  .next (s.updNwl n (fun w => { w with cancelQ := ((slotsOn s n).filter open').map mk }))

/-- CANCEL_OFFER (R155): the first waiting slot is offered with the present near time as target. -/
def execCancelOffer (n : Fin 4) (s : State) : Host.Outcome State Fault Refusal :=
  match s.nwl[n].cancelQ with
  | [] => .next s
  | o :: rest =>
    let s := s.updNwl n (fun w => { w with cancelQ := rest })
    .next (makeOffer s n { o with tgt := s.tb.tb.toNat * 32 })

/-! ## Slot writes (R145, R156) -/

/-- The offset of a slot register. -/
def slotOffset : SlotReg → Nat
  | .ang => EV.ANG | .cfg => EV.CFG | .commit => EV.COMMIT | .late => EV.LATE

/-- The writable bits of a slot register (R145). -/
def slotMask : SlotReg → Word
  | .ang => 0x3FFFFF | .cfg => 0x1FFF | .commit => 0x3FFFFF | .late => 0x3FFFFF

/-- A write of a slot register (R145, R146, R156): stored; EN going to 1 sets DONECYC; EN going to 0 withdraws an unfrozen entry; ANG,
CFG and COMMIT of an ARMED or QUEUED slot in SYNC are re-evaluated. -/
def writeSlot (s : State) (n : Fin 4) (k : Fin 512) (r : SlotReg) (v : Word) : State :=
  let o := evOff n k (slotOffset r)
  let m := slotMask r
  let was := s.bt (evOff n k EV.CFG) 7
  let st := slotState s n k
  let s := s.wr o ((s.rd o &&& ~~~m) ||| (v &&& m))
  let s :=
    if r == .cfg && !was && bit v 7 then
      (s.setFl (evOff n k EV.LATE) 22 8 ((s.nwl[n].cycnum + 128) % 256)).setFl (evOff n k EV.ANG) 25 2 0
    else s
  if st = 3 || r == .late then s
  else if !slotLive s n k then
    let s := withdraw s n k
    let s := s.updNwl n (fun w => { w with
      reofferQ := w.reofferQ.filter (fun x => x.slot != k), cancelQ := w.cancelQ.filter (fun x => x.slot != k),
      reevalQ := w.reevalQ.filter (· != k) })
    setSlotState s n k 0
  else
    let s := if st = 0 then setSlotState s n k 1 else s
    if s.nwl[n].on && s.nwl[n].state == .sync then
      s.updNwl n (fun w => { w with reevalQ := if w.reevalQ.contains k then w.reevalQ else w.reevalQ ++ [k], actAt := s.now })
    else s

/-- A slot write by an agent: bits that take no value, and a reserved action, raise RSVD_WRITE (R11, R145). -/
def slotWriteBy (s : State) (a : Agent) (n : Fin 4) (k : Fin 512) (r : SlotReg) (v : Word) : State :=
  let o := evOff n k (slotOffset r)
  let bad := v &&& ~~~slotMask r != 0 || (r == .cfg && 10 ≤ fld v 8 4)
  let s := if bad then s.rsvd a o else s
  writeSlot s n k r v

/-- SLOT_WRITE (R145, R156). -/
def execSlotWrite (a : Agent) (n : Fin 4) (k : Fin 512) (r : SlotReg) (v : Word) (s : State) : Host.Outcome State Fault Refusal :=
  .next (slotWriteBy s a n k r v)

/-- The re-evaluation of one slot against the last tooth (R156). -/
def reevaluate (s : State) (n : Fin 4) (k : Fin 512) : State :=
  let d := slotAhead s n k
  let adv := advNow s n
  let i := instAhead s n (slotAng s n k)
  if !slotLive s n k || slotState s n k == 3 || slotState s n k == 0 then s
  else if 0 < d && d ≤ adv then
    let i := i
    if slotDone s n k i then withdraw s n k
    else if adv - d ≤ slotLatemax s n k then
      makeOffer s n { slot := k, tgt := convTarget s n d, inst := i, frz := false, late := true, cancel := false }
    else dropSlot s n k i (convTarget s n d)
  else if inWindow s n k then makeOffer s n (convOffer s n k)
  else withdraw s n k

/-- Waiting slots are re-evaluated until one of them makes an offer (R148, R156). -/
def reevaluateAll (n : Fin 4) : List (Fin 512) → State → State
  | [], s => s.updNwl n (fun w => { w with reevalQ := [] })
  | k :: ks, s =>
    let s' := reevaluate s n k
    if s'.nwl[n].offerAt == s'.now then s'.updNwl n (fun w => { w with reevalQ := ks }) else reevaluateAll n ks s'

/-- Whether re-evaluations are to be made in this tick (R156): after the tick of the write, with no offer of the pass. -/
def reevalDue (s : State) (n : Fin 4) : Bool :=
  let w := s.nwl[n]
  !w.reevalQ.isEmpty && decide (w.actAt < s.now) && schedOn s n && curPred w && w.offerAt != s.now

/-- RE_EVALUATION (R156), in a tick that carries no pass offer. -/
def execReEvaluation (n : Fin 4) (s : State) : Host.Outcome State Fault Refusal :=
  if schedOn s n && curPred s.nwl[n] && s.nwl[n].offerAt != s.now then .next (reevaluateAll n s.nwl[n].reevalQ s) else .next s

/-- A write of NWLn_EVCTRL (R155, R164): EVEN written 0 cancels in the next tick. -/
def writeEvctrl (s : State) (n : Fin 4) (v : Word) : State :=
  let s := s.wr (nwlOff n NWL.EVCTRL) (v &&& 0x3FFFFF0F)
  if bit v 0 then s else cancelNext s n

/-! ## Cycles and angle commits (R146, R319) -/

/-- Whether the angle passes between C - 1 and 0 in this tick, and whether forward (R146). -/
def cyclePass (s : State) (n : Fin 4) : Option Bool :=
  let w := s.nwl[n]
  match w.aLast with
  | some a =>
    if !(w.on && w.state.valid) then none
    else if w.mode = 1 && w.dir then (if a < angleNow s n then some false else none)
    else if angleNow s n < a then some true else none
  | none => none

/-- The angle of this tick is the one to which CYCNUM belongs. -/
def takeAngle (s : State) (n : Fin 4) : State :=
  s.updNwl n (fun w => { w with aLast := if w.on && w.state.valid then some (angleNow s n) else none })

/-- CYCNUM counts a passage of the angle, and belongs to the angle that the Newel has now (R146). -/
def passCycle (s : State) (n : Fin 4) : State :=
  match cyclePass s n with
  | some up => takeAngle (s.updNwl n (fun w => { w with cycnum := if up then (w.cycnum + 1) % 256 else (w.cycnum + 255) % 256 })) n
  | none => takeAngle s n

/-- ANGLE_CYCLE_PASSAGE (R146): CYCNUM counts the passage. -/
def execAngleCyclePassage (n : Fin 4) (s : State) : Host.Outcome State Fault Refusal :=
  .next (if (cyclePass s n).isSome then passCycle s n else s)

/-- The angle commits of a Newel that are to be converted in this tick (R319): in the window, ahead of the present angle and not beyond
a hold angle already reached. -/
def commitConvs (s : State) (n : Fin 4) : List (Fin 8) :=
  let w := s.nwl[n]
  let c := nwlC s n
  if schedOn s n && w.pred && w.load.isNone && w.passAt + 3 ≤ s.now then
    (List.finRange 8).filter (fun t =>
      let x := s.txn[t]
      let a := x.at' % c
      let d := fwd c w.toothang a
      angleCommit s n t && (x.tgt.isNone || x.convAt < w.passAt) && decide (advNow s n < d) && decide (d ≤ windowOf s n)
        && instAhead s n a == x.inst && !(w.heldDone && decide (advLim s n < d)))
  else []

/-- The conversion of an angle commit (R319): its target, or the next tick where that is not later. -/
def convCommit (s : State) (n : Fin 4) (t : Fin 8) : State :=
  let c := nwlC s n
  let tgt := convTarget s n (fwd c s.nwl[n].toothang (s.txn[t].at' % c))
  s.updTxn t (fun x => { x with tgt := some (max (tgt / 32) (s.tb.tb.toNat + 1)), convAt := s.now })

/-- Whether an angle commit lands in this tick: TB has reached its latest target (R319). -/
def commitLands (s : State) (n : Fin 4) (t : Fin 8) : Bool :=
  angleCommit s n t && (match s.txn[t].tgt with | some k => decide (k ≤ s.tb.tb.toNat) | none => false)

/-! ## Registers with a value of their own (R158, R164) -/

/-- NWLn_EVSTAT as read (R164). -/
def evStat (s : State) (n : Fin 4) : Word :=
  let count (v : Nat) : Nat := ((List.finRange 512).filter (fun k => slotState s n k == v)).length
  let f := count 3
  w32 (count 2 + f + f * 2 ^ 10 + s.nwl[n].cycnum % 256 * 2 ^ 24)

/-- A read of NWLn_EVLAST_T (R158): it latches NWLn_EVLAST_X for the agent. -/
def readEvlastT (s : State) (a : Agent) (n : Fin 4) : Word × State :=
  (s.rd (nwlOff n NWL.EVLAST_T), s.setLat a (nwlOff n NWL.EVLAST_X) (s.rd (nwlOff n NWL.EVLAST_X)))

/-- EVLAST_T_READ. -/
def execEvlastTRead (a : Agent) (n : Fin 4) (s : State) : Host.Outcome State Fault Refusal :=
  .next ((readEvlastT s a n).2.keep a (readEvlastT s a n).1)

end Sys2Proof.Machine
end

