-- ==== Sys2Proof/Machine/Lanes.lean ====
section
/-! DEFINITION. The Runner lanes (R189 to R195, R200, R201): their pins, the half-bit sequence of the internal clock, words shifted by an
external or partner clock, intervals of PULSE mode, pauses and the divider. -/

namespace Sys2Proof.Machine

/-- A lane with `f` applied. -/
def State.updLane (s : State) (k : Fin 16) (f : Lane → Lane) : State := { s with lane := s.lane.set k (f s.lane[k]) }

/-- MODE as it acts (R201): 0 TX, 1 RX, 2 PULSE. -/
def laneMode (s : State) (k : Fin 16) : Nat := match s.fl (lnOff k LN.CTRL) 1 2 with | 1 => 1 | 2 => 2 | _ => 0

/-- CLK: 0 internal, 1 external, 2 partner, 3 none. -/
def laneClk (s : State) (k : Fin 16) : Nat := s.fl (lnOff k LN.CTRL) 3 2

def laneCpol (s : State) (k : Fin 16) : Bool := s.bt (lnOff k LN.CTRL) 5
def laneCpha (s : State) (k : Fin 16) : Bool := s.bt (lnOff k LN.CTRL) 6
def laneMsbf (s : State) (k : Fin 16) : Bool := s.bt (lnOff k LN.CTRL) 7
def laneFpol (s : State) (k : Fin 16) : Bool := s.bt (lnOff k LN.CTRL) 14

/-- The bits of a word (R201). -/
def laneWidth (s : State) (k : Fin 16) : Nat := let w := s.fl (lnOff k LN.CTRL) 8 5; if w = 0 then 32 else w

/-- The half-bit time H (R190). -/
def laneH (s : State) (k : Fin 16) : Nat := max 3 (s.fl (lnOff k LN.DIV) 0 16) + 1

/-- The channel of a pin field of LNk_PINS (R189). -/
def lanePin (s : State) (k : Fin 16) (lo : Nat) : Option (Fin 96) :=
  let i := s.fl (lnOff k LN.PINS) lo 4
  if i < 12 then some (Fin.ofNat 96 (12 * (k.val / 2) + i)) else none

/-- Whether the lane drives its data, clock and frame pins (R189, R190). -/
def laneDrivesData (s : State) (k : Fin 16) : Bool := laneMode s k == 0
def laneDrivesClk (s : State) (k : Fin 16) : Bool := laneMode s k != 2 && laneClk s k == 0
def laneDrivesFrame (s : State) (k : Fin 16) : Bool :=
  s.bt (lnOff k LN.CTRL) 13 && ((laneMode s k == 0 && (laneClk s k == 0 || laneClk s k == 3)) || (laneMode s k == 1 && laneClk s k == 0))

/-- The pins that the lane owns when enabled. -/
def lanePins (s : State) (k : Fin 16) : List (Fin 96) :=
  ((if laneDrivesData s k then lanePin s k 0 else none).toList ++ (if laneDrivesClk s k then lanePin s k 4 else none).toList)
    ++ (if laneDrivesFrame s k then lanePin s k 8 else none).toList

/-- A pin owned by a lane takes a level at fine 0 (R190). -/
def lanePad (s : State) (n : Option (Fin 96)) (lvl : Bool) : State :=
  match n with
  | some n => updPad (s.updCh n (fun c => { c with laneOwn := true, laneOut := some lvl })) n 0xA s.fine0 0
  | none => s

/-- The pins of an enabled lane follow what it drives. -/
def laneDrive (s : State) (k : Fin 16) : State :=
  let l := s.lane[k]
  let s := if laneDrivesData s k then lanePad s (lanePin s k 0) l.dat else s
  let s := if laneDrivesClk s k then lanePad s (lanePin s k 4) l.clk else s
  if laneDrivesFrame s k then lanePad s (lanePin s k 8) (l.frm == laneFpol s k) else s

/-- The pins of a lane are released in the next tick (R189). -/
def laneRelease (s : State) (k : Fin 16) : State :=
  (lanePins s k).foldl (fun s n => updPad (s.updCh n (fun c => { c with laneOwn := false, laneOut := none })) n 0xA s.fine0 1) s

/-- The other lane of the Flight. -/
def laneTwin (k : Fin 16) : Fin 16 := Fin.ofNat 16 (if k.val % 2 = 0 then k.val + 1 else k.val - 1)

/-- LNk_STAT as it reads (R201): BITCNT and OVRCNT are stored. -/
def laneStat (s : State) (k : Fin 16) : Word :=
  let l := s.lane[k]
  let w := s.rd (lnOff k LN.STAT) &&& 0x00FF1F00
  let w := setBit (setBit (setBit w 0 l.sh.isSome) 1 l.paused) 2 l.txb.isNone
  setBit (setFld w 3 2 l.rx.length) 5 (l.on && !(lanePins s k).isEmpty)

/-- An enable of a lane whose CTRL is already written (R189): refused when it would own a pin of the other lane, or asks for a partner
clock on an even lane. -/
def laneEnableCmd (s : State) (a : Agent) (k : Fin 16) : State :=
  let j := laneTwin k
  let clash := s.lane[j].on && (lanePins s k).any (fun n => (lanePins s j).contains n)
  if clash || (laneClk s k == 2 && k.val % 2 == 0) then
    ((s.setBt (lnOff k LN.CTRL) 0 false).setEv (lnOff k LN.EVT) 3).raise FS.LN_CFG (accessDetail a (lnOff k LN.CTRL))
  else
    laneDrive (s.updLane k (fun l => { l with on := true, clk := laneCpol s k, frm := false })) k

/-- Clearing EN (R189): the lane stops and its pins are released in the next tick. -/
def laneDisableCmd (s : State) (k : Fin 16) : State :=
  let s := laneRelease s k
  (s.updLane k (fun l => { l with on := false, sh := none, paused := false, held := false, stop := false, start := false, done := false,
                                   drv := false, smp := false, bits := 0, driven := 0, fall := none })).setFl (lnOff k LN.STAT) 8 5 0

/-- A write of LNk_CTRL (R189, R201). -/
def writeLnCtrl (s : State) (a : Agent) (k : Fin 16) (v : Word) : State :=
  let was := s.lane[k].on
  if was && !bit v 0 then (laneDisableCmd s k).wr (lnOff k LN.CTRL) (v &&& 0x7FFFF)
  else
    let s := if was then laneRelease s k else s
    let s := s.wr (lnOff k LN.CTRL) (v &&& 0x7FFFF)
    if was then laneDrive s k else if bit v 0 then laneEnableCmd s a k else s

/-- A write of LNk_PINS: an enabled lane leaves its old pins and takes the new ones. -/
def writeLnPins (s : State) (k : Fin 16) (v : Word) : State :=
  if s.lane[k].on then laneDrive ((laneRelease s k).wr (lnOff k LN.PINS) (v &&& 0xFFF)) k else s.wr (lnOff k LN.PINS) (v &&& 0xFFF)

/-- LANE_ENABLE (R189): CTRL is written with EN = 1. -/
def execLaneEnable (a : Agent) (k : Fin 16) (v : Word) (s : State) : Host.Outcome State Fault Refusal :=
  .next (writeLnCtrl s a k (setBit v 0 true))

/-- LANE_DISABLE (R189). -/
def execLaneDisable (a : Agent) (k : Fin 16) (s : State) : Host.Outcome State Fault Refusal :=
  .next (writeLnCtrl s a k (setBit (s.rd (lnOff k LN.CTRL)) 0 false))

/-- A word lost to overflow or to a full buffer sets EVT.OVR, and INFO LN_OVR when the bit goes from 0 to 1 (R201). -/
def laneOvr (s : State) (k : Fin 16) : State :=
  let was := s.bt (lnOff k LN.EVT) 2
  let s := s.setEv (lnOff k LN.EVT) 2
  if was then s else s.raise FS.LN_OVR

/-- A write of LNk_TXBUF (R191). -/
def writeTxbuf (s : State) (k : Fin 16) (v : Word) : State :=
  if s.lane[k].txb.isSome then laneOvr s k else s.updLane k (fun l => { l with txb := some v })

/-- TXBUF_WRITE (R191). -/
def execTxbufWrite (_ : Agent) (k : Fin 16) (v : Word) (s : State) : Host.Outcome State Fault Refusal := .next (writeTxbuf s k v)

/-- A read of LNk_RXBUF pops the oldest word; an empty buffer returns 0 (R191). -/
def readRxbuf (s : State) (k : Fin 16) : Word × State :=
  match s.lane[k].rx with
  | [] => (0, s)
  | w :: ws => (w, s.updLane k (fun l => { l with rx := ws }))

/-- RXBUF_READ (R191). -/
def execRxbufRead (a : Agent) (k : Fin 16) (s : State) : Host.Outcome State Fault Refusal :=
  .next ((readRxbuf s k).2.keep a (readRxbuf s k).1)

/-! ## Shifting -/

/-- Bit `i` in order of sending of a word. -/
def laneBit (s : State) (k : Fin 16) (w : Word) (i : Nat) : Bool := bit w (if laneMsbf s k then laneWidth s k - 1 - i else i)

/-- The shift register of a receiving lane after bit number `i`. -/
def laneShiftIn (s : State) (k : Fin 16) (w : Word) (i : Nat) (b : Bool) : Word :=
  if laneMsbf s k then w32 (w.toNat * 2 + b.toNat) else setBit w i b

/-- The filtered level of a pin, low where none is named (R189). -/
def laneIn (s : State) (n : Option (Fin 96)) : Bool := match n with | some n => s.ch[n].level | none => false

/-- One more bit is done: BITCNT moves, and the last bit of a word completes it at the end of the tick. -/
def laneBitDone (s : State) (k : Fin 16) : State :=
  let n := s.lane[k].bits + 1
  (s.updLane k (fun l => { l with bits := n, done := n == laneWidth s k })).setFl (lnOff k LN.STAT) 8 5 n

/-- A receiving lane samples its data pin. -/
def laneSample (s : State) (k : Fin 16) : State :=
  let l := s.lane[k]
  let w := laneShiftIn s k (l.sh.getD 0) l.bits (laneIn s (lanePin s k 0))
  s.updLane k (fun l => { l with sh := some w })

/-- A bit of an external or partner clock has been sampled: with the partner's clock it is done at the clock's return, which increments
BITCNT (R190). -/
def laneSampled (s : State) (k : Fin 16) (away : Bool) : State :=
  if laneClk s k = 2 && away then s.updLane k (fun l => { l with smp := true }) else laneBitDone s k

/-- The clock returns: a bit that its move away has sampled is done. -/
def laneReturn (s : State) (k : Fin 16) (away : Bool) : State :=
  if !away && s.lane[k].smp then laneBitDone (s.updLane k (fun l => { l with smp := false })) k else s

/-- An edge of an external or partner clock (R190): the chosen edge samples, and in TX the other one drives the next bit. Received words
are gated by the frame when FRAME = 1. -/
def laneEdge (s : State) (k : Fin 16) (level : Bool) : State :=
  let away := level != laneCpol s k
  let samples := away != laneCpha s k
  let s := laneReturn s k away
  let l := s.lane[k]
  if laneMode s k = 1 then
    let open' := !s.bt (lnOff k LN.CTRL) 13
      || (if laneClk s k = 2 then s.lane[laneTwin k].frm else laneIn s (lanePin s k 8) == laneFpol s k)
    if open' && samples && !l.done then laneSampled (laneSample s k) k away else s
  else match l.sh with
    | none => s
    | some w =>
      if l.done then s
      else if samples then (if l.bits < l.driven then laneSampled s k away else s)
      else if l.driven < laneWidth s k then
        laneDrive (s.updLane k (fun l => { l with dat := laneBit s k w l.driven, driven := l.driven + 1 })) k
      else s

/-- LANE_CLOCK_EDGE (R190). -/
def execLaneClockEdge (k : Fin 16) (level : Bool) (s : State) : Host.Outcome State Fault Refusal :=
  .next (if s.lane[k].on && laneClk s k == 1 && laneMode s k != 2 then laneEdge s k level else s)

/-- The internal clock moves: its pin, the lane's own sampling in RX, and the partner lane (R190). -/
def laneClkMove (s : State) (k : Fin 16) (away : Bool) : State :=
  let lvl := away != laneCpol s k
  let s := laneDrive (s.updLane k (fun l => { l with clk := lvl })) k
  let s := if laneMode s k = 1 && away != laneCpha s k then laneSample s k else s
  let j := laneTwin k
  if k.val % 2 = 0 && s.lane[j].on && laneClk s j == 2 && laneMode s j != 2 && laneClk s k == 0 then laneEdge s j lvl else s

/-- A bit is driven at its boundary (R190). -/
def laneDriveBit (s : State) (k : Fin 16) : State :=
  let l := s.lane[k]
  match laneMode s k, l.sh with
  | 0, some w => laneDrive (s.updLane k (fun l => { l with dat := laneBit s k w l.bits })) k
  | _, _ => s

/-- The next boundary lies H ticks on. -/
def laneStep (s : State) (k : Fin 16) : State := s.updLane k (fun l => { l with half := l.half + 1, at' := l.at' + laneH s k })

/-- A half-bit boundary of a word with the internal clock, or sent without a clock (R190): boundary 1 + 2i drives bit i, 2 + 2i moves the
clock away, 3 + 2i returns it and ends bit i, and 2W + 2 ends the frame. After a return the lane may pause (R193) or be held by
DOZE (R195). -/
def laneHalf (s : State) (k : Fin 16) : State :=
  let l := s.lane[k]
  let w := laneWidth s k
  if l.drv then laneStep (laneDriveBit (s.updLane k (fun l => { l with drv := false })) k) k
  else if l.half = 2 * w + 2 then laneDrive (s.updLane k (fun l => { l with sh := none, frm := false, half := 0 })) k
  else if l.half % 2 = 0 then laneStep (laneClkMove s k true) k
  else if l.half = 1 then laneStep (laneDriveBit s k) k
  else
    let s := laneBitDone (laneClkMove s k false) k
    let l := s.lane[k]
    if l.done then laneStep s k
    else if l.stop then (s.updLane k (fun l => { l with drv := true })).after 0 (.lanePause k)
    else if !s.tbclk then s.updLane k (fun l => { l with drv := true, held := true })
    else laneStep (laneDriveBit s k) k

/-- A boundary of a word received without a clock (R190): bit i is sampled at boundary 1 + 2i after the start edge. -/
def laneAsync (s : State) (k : Fin 16) : State :=
  laneStep (if s.lane[k].half % 2 = 1 && !s.lane[k].done then laneBitDone (laneSample s k) k else s) k

/-- Whether a half-bit boundary of the lane falls in this tick. -/
def laneDue (s : State) (k : Fin 16) : Bool :=
  let l := s.lane[k]
  l.on && l.sh.isSome && !l.paused && decide (l.at' ≤ s.ticks) && (if l.held then s.tbclk else true)
    && (laneClk s k == 0 || laneClk s k == 3) && laneMode s k != 2 && 0 < l.half

/-- The boundary of this tick is worked through. -/
def laneBoundary (s : State) (k : Fin 16) : State :=
  let s := if s.lane[k].held then s.updLane k (fun l => { l with held := false, at' := s.ticks }) else s
  if laneMode s k = 1 && laneClk s k = 3 then laneAsync s k else laneHalf s k

/-- Whether a word can start in this tick (R190, R191). -/
def laneCanStart (s : State) (k : Fin 16) : Bool :=
  let l := s.lane[k]
  l.on && l.sh.isNone && !l.done && !l.paused && (s.tbclk || laneClk s k != 0)
    && ((laneMode s k == 0 && l.txb.isSome) || (laneMode s k == 1 && laneClk s k == 0 && l.start))

/-- LANE_WORD_START (R190): the word enters the shift register and the frame goes active. -/
def execLaneWordStart (k : Fin 16) (s : State) : Host.Outcome State Fault Refusal :=
  if laneCanStart s k then
    .next (laneDrive (s.updLane k (fun l =>
      { l with sh := some (if laneMode s k = 0 then l.txb.getD 0 else 0)
               txb := if laneMode s k = 0 then none else l.txb
               start := false, frm := laneClk s k == 0 || laneClk s k == 3, half := 1, at' := s.ticks + laneH s k
               bits := 0, driven := 0, drv := false, smp := false, stop := false })) k)
  else .next s

/-- LANE_RX_START_EDGE (R190): an idle lane in RX without a clock starts a word at the falling edge. -/
def execLaneRxStartEdge (k : Fin 16) (e : EdgeInfo) (s : State) : Host.Outcome State Fault Refusal :=
  if s.lane[k].on && laneMode s k == 1 && laneClk s k == 3 && s.lane[k].sh.isNone && !e.level then
    .next (s.updLane k (fun l => { l with sh := some 0, half := 1, at' := s.ticks + laneH s k, bits := 0, smp := false }))
  else .next s

/-- A completed word enters the receive buffer, or is lost when it holds 2 (R191). -/
def laneDeliver (s : State) (k : Fin 16) (w : Word) (hit : Bool) : State :=
  let s := if s.lane[k].rx.length < 2 then s.updLane k (fun l => { l with rx := l.rx ++ [w] })
    else laneOvr (s.satFl (lnOff k LN.STAT) 16 8) k
  let s := if hit then s.setEv (lnOff k LN.EVT) 1 else s
  s.setEv (lnOff k LN.EVT) 0

/-- LANE_WORD_COMPLETE (R191): DONE, BITCNT back to 0, and in RX the word delivered and compared. -/
def execLaneWordComplete (k : Fin 16) (s : State) : Host.Outcome State Fault Refusal :=
  let l := s.lane[k]
  if !l.done then .next s
  else
    let rx := laneMode s k == 1
    let w := l.sh.getD 0
    let hit := (w ^^^ s.rd (lnOff k LN.CMP)) &&& s.rd (lnOff k LN.CMPMSK) == 0
    let s := if rx then laneDeliver s k w hit else s.setEv (lnOff k LN.EVT) 0
    let keeps := laneClk s k == 0 || (!rx && laneClk s k == 3)
    .next ((s.updLane k (fun l => { l with done := false, smp := false, bits := 0, driven := 0, sh := if keeps then l.sh else none })).setFl
      (lnOff k LN.STAT) 8 5 0)

/-- PULSE_EDGE (R191): the interval since the last falling edge, in the ticks that the device has counted (R195), becomes a word. -/
def execPulseEdge (k : Fin 16) (e : EdgeInfo) (s : State) : Host.Outcome State Fault Refusal :=
  if !(s.lane[k].on && laneMode s k == 2 && !e.level) then .next s
  else
    let s' := s.updLane k (fun l => { l with fall := some s.tb.counted })
    match s.lane[k].fall with
    | none => .next s'
    | some t =>
      let d := s.tb.counted - t
      let n := min 0xFFFFFF d
      let big := decide (s.fl (lnOff k LN.CMP) 0 24 ≤ n)
      .next (laneDeliver s' k (setBit (setBit (w32 n) 24 big) 25 (decide (0xFFFFFF < d))) big)

/-! ## Commands, pauses and the divider (R193, R194) -/

/-- LANE_START (R201): in RX with the internal clock, one word is shifted in. -/
def laneStartCmd (s : State) (k : Fin 16) : State :=
  if s.lane[k].on && laneMode s k == 1 && laneClk s k == 0 then s.updLane k (fun l => { l with start := true }) else s

/-- CMD.RESET (R193). -/
def laneResetCmd (s : State) (k : Fin 16) : State :=
  let s := s.updLane k (fun l =>
    { l with txb := none, rx := [], sh := none, frm := false, clk := laneCpol s k, start := false, paused := false, held := false,
             stop := false, drv := false, done := false, smp := false, bits := 0, driven := 0, half := 0 })
  let s := s.setFl (lnOff k LN.STAT) 8 5 0
  if s.lane[k].on then laneDrive s k else s

/-- CMD.CONT (R193): the next bit is driven in the next tick. -/
def laneCont (s : State) (k : Fin 16) : State :=
  if s.lane[k].paused then s.updLane k (fun l => { l with paused := false, at' := s.ticks + 1 }) else s

/-- The divider restarts at phase 0 in the tick `t`: the present half-bit begins anew (R194). -/
def divRestart (s : State) (k : Fin 16) (t : Nat) : State :=
  if s.lane[k].sh.isSome && !s.lane[k].drv then s.updLane k (fun l => { l with at' := t + laneH s k }) else s

/-- A write of LNk_CMD (R201). -/
def writeLnCmd (s : State) (k : Fin 16) (v : Word) : State :=
  let s := if bit v 1 then laneResetCmd s k else if bit v 2 then laneCont s k else s
  let s := if bit v 0 then laneStartCmd s k else s
  if bit v 3 then divRestart s k (s.ticks + 1) else s

def execLaneStart (_ : Agent) (k : Fin 16) (s : State) : Host.Outcome State Fault Refusal := .next (laneStartCmd s k)
def execLaneReset (_ : Agent) (k : Fin 16) (s : State) : Host.Outcome State Fault Refusal := .next (laneResetCmd s k)
def execCont (_ : Agent) (k : Fin 16) (s : State) : Host.Outcome State Fault Refusal := .next (laneCont s k)
def execDivrst (_ : Agent) (k : Fin 16) (s : State) : Host.Outcome State Fault Refusal := .next (divRestart s k (s.ticks + 1))

/-- An engine has stopped or halted (R193): its lanes with PAUSE and the internal clock pause after the bit in progress. -/
def lanesStop (s : State) (e : Fin 8) : State :=
  (List.finRange 16).foldl (fun s k =>
    let w := s.rd (lnOff k LN.CTRL)
    if s.lane[k].on && bit w 15 && fld w 16 3 == e.val && laneClk s k == 0 && laneMode s k != 2 && s.lane[k].sh.isSome
        && s.lane[k].bits < laneWidth s k && !s.lane[k].paused then
      s.updLane k (fun l => { l with stop := true })
    else s) s

/-- LANE_PAUSE (R193): the lane holds after the clock return. -/
def execLanePause (k : Fin 16) (s : State) : Host.Outcome State Fault Refusal :=
  if s.lane[k].stop && s.lane[k].drv then .next (s.updLane k (fun l => { l with stop := false, paused := true })) else .next s

/-- The condition of an LWAIT (R192): TXE, RXNE, IDLE or MATCH; a paused lane satisfies any. -/
def laneCond (s : State) (k : Fin 16) (cond : Fin 4) : Bool :=
  let l := s.lane[k]
  l.paused || (match cond with
    | 0 => l.txb.isNone
    | 1 => !l.rx.isEmpty
    | 2 => l.txb.isNone && l.sh.isNone
    | 3 => s.bt (lnOff k LN.EVT) 1)

end Sys2Proof.Machine
end

