-- ==== Sys2Proof/Machine/Timebase.lean ====
section
/-! DEFINITION. Clocks and the timebase (chapter 02): LCLK trimming (R31, R32), loss and return of TBCLK counting (R34, R41), steps
and slews (R44 to R46), SYNC_IN and SYNC_OUT (R47 to R51), and the debug freeze of channels (R52). -/

namespace Sys2Proof.Machine

/-- The timebase with `f` applied. -/
def State.updTb (s : State) (f : Tb → Tb) : State := { s with tb := f s.tb }

/-- TB advances by `k` by counting (R36). When it reaches or passes a multiple of 2^32, that is a passage of this tick (R295). -/
def advanceTb (s : State) (k : Nat) : State :=
  let t := s.tb.tb.toNat
  let s := s.updTb (fun b => { b with tb := BitVec.ofNat 64 (t + k) })
  if t / 2 ^ 32 < (t + k) / 2 ^ 32 then s.after 0 .tbWrapPassage else s

/-! ## LCLK trimming and the crystals -/

/-- The level sources of the Lobby as they arrive at the Banister (R329, R347): LTRIM_LOSS, X32_LOSS and PFAIL. -/
def lobbyLevels (s : State) : State :=
  let s := if s.bt R.CLK_CTRL 1 && !s.bt R.CLK_STAT 3 then s.raiseLevel FS.LTRIM_LOSS else s.endLevel FS.LTRIM_LOSS
  let s := if s.bt R.CLK_CTRL 0 && !s.bt R.CLK_STAT 2 then s.raiseLevel FS.X32_LOSS else s.endLevel FS.X32_LOSS
  if s.power.pfail then s.raiseLevel FS.PFAIL else s.endLevel FS.PFAIL

/-- A level of the Lobby passes the synchroniser of 2 periods toward the core (R21, R329). -/
def clockLevels (s : State) : State := s.later' 2 .lobbyLevels

/-- The trim one step of 0.05 % toward nominal (R31): up when a window of 1 024 LCLK periods takes more than the nominal 390 625
ticks, so that LCLK is slow, down when it takes fewer; kept in its range. -/
def trimStep (trim counted : Nat) : Nat :=
  let t := sext 9 trim
  let t := if 390625 < counted then min 255 (t + 1) else if counted < 390625 then max (-256) (t - 1) else t
  (t % 512).toNat

/-- LTRIM_WINDOW_END (R31, R32): TB_LSTEP is the ticks counted times 64, LCLK_TRIM moves one step unless X32 disciplines LCLK, and
LTRIMOK says whether the measurement lay within 0.1 %. Without XIN or LTRIMEN nothing is measured. -/
def execLtrimWindowEnd (counted : Nat) (s : State) : Host.Outcome State Fault Refusal :=
  if s.bt R.CLK_CTRL 1 && s.bt R.CLK_STAT 1 then
    let s := { s.wr R.TB_LSTEP (w32 (counted * 64)) with vest := { s.vest with bg := true } }
    let s := if s.bt R.CLK_STAT 2 then s else s.setFl R.LCLK_TRIM 0 9 (trimStep (s.fl R.LCLK_TRIM 0 9) counted)
    let d := if counted < 390625 then 390625 - counted else counted - 390625
    .next (clockLevels (s.setBt R.CLK_STAT 3 (decide (d * 1000 ≤ 390625))))
  else .next s

/-- X32_LOCK (R32). -/
def execX32Lock (s : State) : Host.Outcome State Fault Refusal :=
  .next (if s.bt R.CLK_CTRL 0 then clockLevels (s.setBt R.CLK_STAT 2 true) else s)

/-- X32_STOP (R32). -/
def execX32Stop (s : State) : Host.Outcome State Fault Refusal := .next (clockLevels (s.setBt R.CLK_STAT 2 false))

/-- A write of CLK_CTRL: without X32EN the oscillator stops (R32). -/
def writeClkCtrl (s : State) (v : Word) : State :=
  let s := s.wr R.CLK_CTRL (v &&& 3)
  clockLevels (if bit v 0 then s else s.setBt R.CLK_STAT 2 false)

/-! ## The PLL (R34, R41) -/

/-- TB changes to LCLK counting at an LCLK edge (R34, R386): the fraction starts at 0, slews stop, and what the core had dated in ticks
goes on in LCLK periods. -/
def startLclk (s : State) : State :=
  ((s.setFl R.CLK_STAT 4 2 1).updTb (fun b => { b with frac := 0, slewCnt := 0, returnIn := none, dropping := false })).toLclk

/-- PLL_UNLOCK (R34): SEVERE PLL_UNLOCK is raised, and TB changes to LCLK counting at the next LCLK edge. -/
def execPllUnlock (s : State) : Host.Outcome State Fault Refusal :=
  let s := s.setBt R.CLK_STAT 0 false
  if s.tbclk then .next ((s.updTb (fun b => { b with dropping := true })).raiseLevel FS.PLL_UNLOCK)
  else .next (s.updTb (fun b => { b with returnIn := none }))

/-- XIN_LOSS (R34): SEVERE XIN_LOSS, and a locked PLL then unlocks. -/
def execXinLoss (s : State) : Host.Outcome State Fault Refusal :=
  let s := (s.setBt R.CLK_STAT 1 false).raiseLevel FS.XIN_LOSS
  .next (if s.bt R.CLK_STAT 0 then s.after 1 .pllUnlock else s)

/-- Whether the PLL runs: from step 2 of the boot on, outside DOZE, and not while its restart waits (R355, R394). -/
def pllOn (s : State) : Bool :=
  s.power.boot != .held && s.power.boot != .crystal && s.bt R.CLK_STAT 1 && s.fl R.PWR_STAT 0 2 != 1 && !s.power.exitWaits

/-- PLL_LOCK (R41): with LCLK counting, TBCLK counting returns after the next LCLK edge. In the boot, step 3 begins: it zeroes the
SRAMs, the patch RAM and the match registers, which a boot-sequence reset of the model has left at zero (R394). -/
def execPllLock (s : State) : Host.Outcome State Fault Refusal :=
  if !pllOn s then .next s
  else
    let s := s.setBt R.CLK_STAT 0 true
    let s := if s.power.boot = .pll then ({ s with power := { s.power with boot := .sram } }).afterTicks 1400000 .bootPatchLoad else s
    .next (if s.tbclk then (if s.tb.dropping then (s.updTb (fun b => { b with dropping := false })).endLevel FS.PLL_UNLOCK else s)
      else s.updTb (fun b => { b with returnIn := some 3 }))

/-- TBCLK_COUNTING_RETURN (R41, R45): TB counts TBCLK, the fraction is discarded, the slew count restarts, the core goes on with its own
clocks, and an anchor with REASON 3 goes to every enabled capture ring. -/
def execTbclkCountingReturn (s : State) : Host.Outcome State Fault Refusal :=
  if s.bt R.CLK_STAT 0 && !s.tbclk then
    let s := ((s.setFl R.CLK_STAT 4 2 0).setBt R.CLK_STAT 6 false).endLevel FS.PLL_UNLOCK
    .next (anchorAll (s.fromLclk.updTb (fun b => { b with frac := 0, slewCnt := 1, returnIn := none })) 3)
  else .next s

/-! ## Steps and slews (R44 to R46) -/

/-- Timing is idle (R44). DESIGN CHOICE (assumption 25): a PWM group that is armed and does not yet run is stopped; a transaction that is
committed and waits to land is not open. -/
def timingIdle (s : State) : Bool :=
  (List.finRange 96).all (fun n => !s.bt (chOff n CH.CTRL) 0) && (List.finRange 16).all (fun m => !s.pg[m].run)
    && (List.finRange 4).all (fun n => !s.bt (nwlOff n NWL.CTRL) 0) && (List.finRange 8).all (fun e => !s.bt (feOff e FE.STAT) 0)
    && (List.finRange 8).all (fun t => s.fl (txnOff t TXN.STAT) 0 2 != 1) && !s.bt R.SYNCOUT_CTRL 0

/-- A refused TB_CMD (R44). -/
def tbRefuse (s : State) (a : Agent) : State := (s.setEv R.TB_STAT 1).raise FS.TB_STEP_REFUSED (accessDetail a R.TB_CMD)

/-- A write of TB_CMD (R44, R46): each command acts in the next tick when timing is idle, else it is refused. -/
def writeTbCmd (s : State) (a : Agent) (v : Word) : State :=
  if !bit v 0 && !bit v 1 then s
  else if timingIdle s then
    s.updTb (fun b => { b with stepNext := b.stepNext || bit v 0, fofsNext := b.fofsNext || bit v 1 })
  else tbRefuse s a

/-- TB_STEP (R44). -/
def execTbStep (a : Agent) (s : State) : Host.Outcome State Fault Refusal := .next (writeTbCmd s a 1)

/-- FOFSCLR (R46). -/
def execFofsclr (a : Agent) (s : State) : Host.Outcome State Fault Refusal := .next (writeTbCmd s a 2)

/-- The direction of a slew as it acts (R56): 1 add, 2 drop, else none. -/
def slewDir (s : State) : Nat := let d := s.fl R.TB_SLEW 0 2; if d = 3 then 0 else d

/-- INTERVAL as it acts (R56). -/
def slewInterval (s : State) : Nat := max 16 (s.fl R.TB_SLEW 4 24)

/-- FOFS after one adjustment, and the TB advance of its tick (R45). -/
def slewStep (dir fofs : Nat) : Nat × Nat :=
  if dir = 1 then (if fofs = 31 then (0, 2) else (fofs + 1, 1))
  else if dir = 2 then (if fofs = 0 then (31, 0) else (fofs - 1, 1))
  else (fofs, 1)

/-- SLEW_ADJUST (R45): in its tick FOFS moves one fine step and TB advances by 0, 1 or 2. -/
def execSlewAdjust (s : State) : Host.Outcome State Fault Refusal :=
  if slewDir s = 0 then .next s
  else
    let r := slewStep (slewDir s) s.fofs
    .next (advanceTb (s.setFl R.TB_FOFS 0 5 r.1) r.2)

/-- The fields of TB_SLEW take `v` (R45): a change of DIR or INTERVAL restarts the count in the next tick, whose own count is the
first. -/
def setSlew (s : State) (v : Word) : State :=
  let old := s.rd R.TB_SLEW
  let s := s.wr R.TB_SLEW ((v &&& 0x0FFFFFF3) ||| (old &&& 8))
  if fld old 0 2 = fld v 0 2 && fld old 4 24 = fld v 4 24 then s else s.updTb (fun b => { b with slewCnt := 0 })

/-- A write of TB_SLEW (R45, R56): DIR and INTERVAL are ignored without a fault while the peer link owns them; else DIR 0b11 raises
RSVD_WRITE. -/
def writeTbSlew (s : State) (a : Agent) (v : Word) : State :=
  let peer := s.bt R.TB_SLEW 3
  let s := if v &&& 0xF000000C != 0 || (!peer && fld v 0 2 = 3) then s.rsvd a R.TB_SLEW else s
  if peer then s else setSlew s v

/-- A write of LCLK_TRIM (R56): ignored while LCLK is trimmed or disciplined. -/
def writeLclkTrim (s : State) (v : Word) : State :=
  if s.bt R.CLK_CTRL 1 || s.bt R.CLK_STAT 2 then s else s.wr R.LCLK_TRIM (v &&& 0x1FF)

/-- TB_SLEW_WRITE (R45). -/
def execTbSlewWrite (a : Agent) (v : Word) (s : State) : Host.Outcome State Fault Refusal := .next (writeTbSlew s a v)

/-! ## Reads (R40, R48) -/

/-- A read of TB_LO (R40): near time, with the upper half latched for the agent. -/
def readTbLo (s : State) (a : Agent) : Word × State := (s.near, s.setLat a R.TB_HI (BitVec.ofNat 32 (s.tb.tb.toNat / 2 ^ 32)))

/-- A read of SYNCIN_TS_LO (R48): TS_HI, FINE and COUNT are latched for the agent; the host's read makes the timestamp read. -/
def readSyncTs (s : State) (a : Agent) : Word × State :=
  let s := (s.setLat a R.SYNCIN_TS_HI (s.rd R.SYNCIN_TS_HI)).setLat a R.SYNCIN_STAT (s.rd R.SYNCIN_STAT &&& 0x1FFFFF)
  (s.rd R.SYNCIN_TS_LO, if a = .host then s.updTb (fun b => { b with syncUnread := false }) else s)

/-- SYNCIN_STAT as an agent reads it: FINE and COUNT from its latch (R48), MISS and LEVEL as they stand. -/
def syncinStat (s : State) (a : Agent) : Word :=
  (s.lat? a R.SYNCIN_STAT &&& 0x1FFFFF) ||| (s.rd R.SYNCIN_STAT &&& 0x600000)

/-- TB_LO_READ (R40). -/
def execTbLoRead (a : Agent) (s : State) : Host.Outcome State Fault Refusal :=
  let r := readTbLo s a
  .next (r.2.keep a r.1)

/-- SYNCIN_TS_LO_READ (R48). -/
def execSyncinTsLoRead (a : Agent) (s : State) : Host.Outcome State Fault Refusal :=
  let r := readSyncTs s a
  .next (r.2.keep a r.1)

/-! ## SYNC_IN (R47, R48) -/

/-- An edge of SYNC_IN that its filter has passed (R47, R48): one that EDGE selects counts, and unless it follows the last timestamped one
by less than 40 ns it is timestamped and may be recorded. `t` is its effective time, `real` its moment in fine units of the model's
ticks. -/
def syncAccept (s : State) (level : Bool) (t real : Nat) : State :=
  let ctrl := s.rd R.SYNCIN_CTRL
  let s := (s.setBt R.SYNCIN_STAT 22 level).updTb (fun b => { b with syncFilt := none })
  let sel := match fld ctrl 1 2 with | 0 => level | 1 => !level | 2 => true | _ => false
  if !(bit ctrl 0 && sel) then s
  else
    let s := s.upd R.SYNCIN_STAT (fun w => setFld w 0 16 (fld w 0 16 + 1))
    if (match s.tb.syncPrev with | some p => decide (real < p + 16 * 32) | none => false) then s
    else
      let s := if s.tb.syncUnread then s.setEv R.SYNCIN_STAT 21 else s
      let s := match s.tb.syncPrev with
        | some p => s.wr R.SYNCIN_PERIOD (w32 (min 0xFFFFFFFF ((real + s.fofs) / 32 - (p + s.fofs) / 32)))
        | none => s
      let s := (s.wr R.SYNCIN_TS_LO (w32 (t / 32))).wr R.SYNCIN_TS_HI (w32 (t / 2 ^ 37))
      let s := s.setFl R.SYNCIN_STAT 16 5 (t % 32)
      let s := s.updTb (fun b => { b with syncPrev := some real, syncUnread := true })
      if bit ctrl 3 then
        s.offer 1 { src := 112, typ := 0, lvl := level, fine := t % 32, coarse := coarse48 (t / 32), ext := [], ring := noRing }
      else s

/-- The glitch filter of SYNC_IN passes the change that it holds (R47). -/
def syncFilterEnds (s : State) : State :=
  match s.tb.syncFilt with
  | some (level, t, real) => syncAccept s level t real
  | none => s

/-- SYNC_IN has been sampled at a new level, its edge at `fine` (R47). The filter passes the change when it has lasted FILT ticks more, and
drops it when the level returns before. -/
def syncSample (s : State) (level : Bool) (fine : BitVec 5) : State :=
  let s := s.updTb (fun b => { b with syncPin := level, syncFilt := none })
  let s := { s with later := s.later.filter (fun x => x.2 != .syncFilter) }
  let (t, real) := edgeTimes s fine
  if level == s.bt R.SYNCIN_STAT 22 then s
  else if s.fl R.SYNCIN_CTRL 8 8 = 0 then syncAccept s level t real
  else (s.updTb (fun b => { b with syncFilt := some (level, t, real) })).later' (s.fl R.SYNCIN_CTRL 8 8) .syncFilter

/-- SYNC_IN_EDGE (R47): the pin is at a new level in this tick, its edge at `fine`. A pulse of `held` samples returns by itself; with
`held` = 0 the level stays until the next edge. Under LCLK counting the sample falls at the next LCLK edge. The pin is one of bank C, which
must be present (R376). -/
def execSyncInEdge (level : Bool) (fine : BitVec 5) (held : Nat) (s : State) : Host.Outcome State Fault Refusal :=
  if !s.bt R.PWR_STAT 10 then .next s
  else if sampleWaits s then
    .next ((s.dropDue (fun c => match c with | .syncInEdge _ _ _ => true | _ => false)).after 1 (.syncInEdge level 0 held))
  else if s.tb.syncPin == level then .next s
  else
    let s := syncSample s level fine
    .next (if held = 0 then s else s.after held (.syncInEdge (!level) 0 0))

/-! ## SYNC_OUT (R49 to R51) -/

/-- An edge of SYNC_OUT is recorded when REC = 1 (R49). -/
def soRecord (s : State) (lvl : Bool) : State :=
  if s.bt R.SYNCOUT_CTRL 2 then
    s.offer 3 { src := 113, typ := 0, lvl := lvl, fine := s.fofs, coarse := coarse48 s.tb.tb.toNat, ext := [], ring := noRing }
  else s

/-- SYNC_OUT goes to its active or inactive level. -/
def soDrive (s : State) (active : Bool) : State :=
  if s.bt R.SYNCOUT_STAT 16 == active then s
  else soRecord (s.setBt R.SYNCOUT_STAT 16 active) (active != s.bt R.SYNCOUT_CTRL 1)

/-- The train starts (R49, R50): with START not reached it waits for it, else it keeps its phase from the first pulse not yet
reached, with SKIP; a single pulse then falls in the next tick. DESIGN CHOICE (assumption 26): SKIP is not set for a single pulse. -/
def soStart (s : State) : State :=
  let st := (s.rd R.SYNCOUT_START_HI).toNat * 2 ^ 32 + (s.rd R.SYNCOUT_START_LO).toNat
  let p := (s.rd R.SYNCOUT_PERIOD).toNat
  let t := s.tb.tb.toNat
  let s := s.setFl R.SYNCOUT_STAT 0 16 0
  let go (s : State) (b k : Nat) (soon : Option Nat) : State :=
    s.updTb (fun x => { x with soRun := true, soStart := b, soK := k, soPeriod := p, soEnd := none, soSoon := soon })
  if t < st then go s st 0 none
  else if p = 0 then go s st 0 (some (s.ticks + s.samples 1))
  else go (s.setEv R.SYNCOUT_STAT 17) st ((t - st) / p + 1) none

/-- The end of the train, with the pin at its inactive level: COUNT pulses are done, or it is the tick after EN was cleared. -/
def soStop (s : State) : State := soDrive (s.updTb (fun b => { b with soRun := false, soEnd := none, soSoon := none })) false

/-- Whether COUNT pulses have been emitted (R49, R51). -/
def soDone (s : State) : Bool := let c := s.fl R.SYNCOUT_COUNT 0 16; c != 0 && c ≤ s.fl R.SYNCOUT_STAT 0 16

/-- TB at which the next pulse begins. -/
def soNext (s : State) : Nat := s.tb.soStart + s.tb.soK * s.tb.soPeriod

/-- WIDTH as it acts (R49). -/
def soWidth (s : State) : Nat :=
  let w := (s.rd R.SYNCOUT_WIDTH).toNat
  let p := (s.rd R.SYNCOUT_PERIOD).toNat
  if p = 0 then w else min w (p - 1)

/-- The pulse of the present active edge takes its width. -/
def soPulse (s : State) : State :=
  let w := soWidth s
  if w = 0 then soDrive (s.updTb (fun b => { b with soEnd := none })) false
  else soDrive (s.updTb (fun b => { b with soEnd := some (b.tb.toNat + w) })) true

/-- Whether an active edge falls in this tick (R37, R49, R50). -/
def soEdgeDue (s : State) : Bool :=
  s.tb.soRun && (match s.tb.soSoon with | some k => decide (k ≤ s.ticks) | none => decide (soNext s ≤ s.tb.tb.toNat))

/-- Whether the present pulse ends in this tick. -/
def soEndDue (s : State) : Bool := match s.tb.soEnd with | some t => decide (t ≤ s.tb.tb.toNat) | none => false

/-- SYNCOUT_ACTIVE_EDGE (R49, R51): the pulse is counted, and PERIOD and WIDTH as written take effect from here. -/
def execSyncoutActiveEdge (s : State) : Host.Outcome State Fault Refusal :=
  if !soEdgeDue s then .next s
  else if soDone s then .next (soStop s)
  else
    let at' := soNext s
    let p := (s.rd R.SYNCOUT_PERIOD).toNat
    let s := s.satFl R.SYNCOUT_STAT 0 16
    let s := if p = s.tb.soPeriod then s.updTb (fun b => { b with soK := b.soK + 1 })
      else s.updTb (fun b => { b with soStart := at', soK := 1, soPeriod := p })
    let s := s.updTb (fun b => { b with soRun := p != 0, soEdge := s.now, soSoon := none })
    let s := soPulse s
    .next (if s.tb.soEnd.isNone && soDone s then soStop s else s)

/-- SYNCOUT_PULSE_END (R49): the pin returns inactive, and the train ends when COUNT pulses are done. -/
def execSyncoutPulseEnd (s : State) : Host.Outcome State Fault Refusal :=
  if !soEndDue s then .next s
  else
    let s := soDrive (s.updTb (fun b => { b with soEnd := none })) false
    .next (if soDone s then soStop s else s)

/-- The tick after EN was cleared: the pin is inactive, but for a pulse of a train started since (R51). -/
def soOff (s : State) : State := if s.tb.soEnd.isSome then s else soDrive s false

/-- The level of the SYNC_OUT pin, none while it is not driven: in DORMANT (R51). -/
def syncOutPin (s : State) : Option Bool :=
  if s.power.dormant then none else some (s.bt R.SYNCOUT_STAT 16 != s.bt R.SYNCOUT_CTRL 1)

/-- A write of SYNCOUT_CTRL: EN starts or ends the train, whose pin is inactive from the next tick (R49 to R51). -/
def writeSyncoutCtrl (s : State) (v : Word) : State :=
  let was := s.bt R.SYNCOUT_CTRL 0
  let s := s.wr R.SYNCOUT_CTRL (v &&& 7)
  if bit v 0 && !was then soStart s
  else if !bit v 0 && was then (s.updTb (fun b => { b with soRun := false, soEnd := none, soSoon := none })).later' 1 .soOff
  else s

/-- A write of SYNCOUT_WIDTH: in the tick of an active edge it applies to that pulse (R51). -/
def writeSyncoutWidth (s : State) (v : Word) : State :=
  let s := s.wr R.SYNCOUT_WIDTH v
  if s.tb.soEdge = s.now && s.bt R.SYNCOUT_CTRL 0 then soPulse s else s

/-- SYNCOUT_ENABLE (R50). -/
def execSyncoutEnable (s : State) : Host.Outcome State Fault Refusal := .next (writeSyncoutCtrl s (setBit (s.rd R.SYNCOUT_CTRL) 0 true))

/-- SYNCOUT_DISABLE (R51). -/
def execSyncoutDisable (s : State) : Host.Outcome State Fault Refusal :=
  .next (writeSyncoutCtrl s (setBit (s.rd R.SYNCOUT_CTRL) 0 false))

/-! ## Debug freeze (R52) -/

/-- FEe_STAT.HALTED of the engine that a channel is routed to. -/
def engineHalted (s : State) (n : Fin 96) : Bool := s.bt (feOff (Fin.ofNat 8 (s.fl (chOff n CH.ROUTE) 0 3)) FE.STAT) 2

/-- A write of CLK_FRZm (R52): while the named engine is halted, a bit set freezes its channel and a bit cleared releases it two
ticks later. -/
def writeClkFrz (s : State) (m : Fin 3) (v : Word) : State :=
  let s := s.wr (R.CLK_FRZ0 + 4 * m.val) v
  (List.finRange 32).foldl (fun s k =>
    let n := Fin.ofNat 96 (32 * m.val + k.val)
    if !engineHalted s n then s
    else if bit v k.val && (!s.ch[n].frozen || s.hasDue (.channelRelease n)) then s.after 2 (.channelFreeze n)
    else if !bit v k.val && (s.ch[n].frozen || s.hasDue (.channelFreeze n)) then s.after 2 (.channelRelease n)
    else s) s

/-- CLK_FRZ_WRITE (R52). -/
def execClkFrzWrite (_ : Agent) (m : Fin 3) (v : Word) (s : State) : Host.Outcome State Fault Refusal := .next (writeClkFrz s m v)

/-- HALTED of an engine changes (R52): its channels, by their routing as it then stands, whose freeze bit is 1
freeze, or resume, two ticks later. DESIGN CHOICE (assumption 27): a route changed during a halt is not tested again. -/
def freezeRouted (s : State) (e : Fin 8) (halted : Bool) : State :=
  (List.finRange 96).foldl (fun s n =>
    if s.fl (chOff n CH.ROUTE) 0 3 == e.val && s.bt (R.CLK_FRZ0 + 4 * (n.val / 32)) (n.val % 32) then
      s.after 2 (if halted then .channelFreeze n else .channelRelease n)
    else s) s

end Sys2Proof.Machine
end

