-- ==== Sys2Proof/Machine/Bank.lean ====
section
/-! DEFINITION. The priority banks of the engines (R202 to R206): their registers, the special registers, and the operand selectors of
microwords (R244). -/

namespace Sys2Proof.Machine

/-! ## Access to the state -/

def State.updEng (s : State) (e : Fin 8) (f : Eng → Eng) : State := { s with eng := s.eng.set e (f s.eng[e]) }

/-- A bank of an engine, and the state with a function applied to it. -/
def State.bank (s : State) (e : Fin 8) (b : Fin 4) : Bank := s.eng[e].banks[b]
def State.updBank (s : State) (e : Fin 8) (b : Fin 4) (f : Bank → Bank) : State :=
  s.updEng e (fun x => { x with banks := x.banks.set b (f x.banks[b]) })

/-- General register `r` of a bank; g0 reads 0 (R203). -/
def Bank.get (b : Bank) (r : Fin 16) : Word := if r = 0 then 0 else b.g[r]

/-- A bank with a general register written; a write of g0 is discarded (R203). -/
def Bank.put (b : Bank) (r : Fin 16) (v : Word) : Bank := if r = 0 then b else { b with g := b.g.set r v }

/-- A pending load value is written (R209, R210). -/
def Bank.flush (b : Bank) : Bank :=
  match b.load with
  | some (r, v) => { b.put r v with load := none }
  | none => b

/-- The offset of FEe_TSTATk, FEe_THk and FEe_SPLIMk. -/
def tstatOff (e : Fin 8) (k : Fin 32) : Nat := feOff e (FE.TSTAT + 4 * k.val)
def thOff (e : Fin 8) (k : Fin 32) : Nat := feOff e (FE.TH + 4 * k.val)
def splimOff (e : Fin 8) (k : Fin 32) : Nat := feOff e (FE.SPLIM + 4 * k.val)

/-- General register `r` of a bank. -/
def reg (s : State) (e : Fin 8) (b : Fin 4) (r : Fin 16) : Word := (s.bank e b).get r

/-- The state with general register `r` of a bank written. -/
def setReg (s : State) (e : Fin 8) (b : Fin 4) (r : Fin 16) (v : Word) : State := s.updBank e b (fun x => x.put r v)

/-- Accumulator `a` of a bank, and the state with it written. -/
def acc (s : State) (e : Fin 8) (b : Fin 4) (a : Bool) : BitVec 64 := if a then (s.bank e b).acc1 else (s.bank e b).acc0
def setAcc (s : State) (e : Fin 8) (b : Fin 4) (a : Bool) (v : BitVec 64) : State :=
  s.updBank e b (fun x => if a then { x with acc1 := v } else { x with acc0 := v })

/-- A bit of ST set where `c` holds (R206). -/
def stickST (s : State) (e : Fin 8) (b : Fin 4) (i : Nat) (c : Bool) : State :=
  if c then s.updBank e b (fun x => { x with st := setBit x.st i true }) else s

/-- sp of a bank as a data address, and the state with sp moved. -/
def spWord (s : State) (e : Fin 8) (b : Fin 4) : Word := (s.bank e b).sp.setWidth 32
def setSp (s : State) (e : Fin 8) (b : Fin 4) (v : BitVec 16) : State := s.updBank e b (fun x => { x with sp := v })

/-- An accumulator with its low or its high half replaced. -/
def accLow (a : BitVec 64) (v : Word) : BitVec 64 := (a >>> 32 <<< 32) ||| v.setWidth 64
def accHigh (a : BitVec 64) (v : Word) : BitVec 64 := (a.setWidth 32).setWidth 64 ||| (v.setWidth 64 <<< 32)

/-- ACYC holds what it acts as (R205). -/
def acycOf (v : Word) : BitVec 22 := BitVec.ofNat 22 (max 4096 (min 2949120 (fld v 0 22)))

/-- NOTICE RSVD_WRITE of an I/O access at an address that no MW0 offset stands for. -/
def ioRsvd (s : State) (e : Fin 8) (a : Nat) : State := s.raise FS.RSVD_WRITE (w32 (a + (2 + e.val) * 0x100000))

/-- A special register as MFS returns it (R205). -/
def readSpec (s : State) (e : Fin 8) (b : Fin 4) (n : Nat) : Word :=
  let x := s.bank e b
  match n with
  | 0 => x.sp.setWidth 32
  | 1 => x.splim.setWidth 32
  | 2 => x.rc.setWidth 32
  | 3 => x.st
  | 4 => x.acyc.setWidth 32
  | _ => x.pc.setWidth 32

/-- The effect of MTS on a special register (R205, R206): SPLIM goes to the thread's word of the stack-limit area as well, and a
nonzero write of ST's reserved bits is ignored there and reported. -/
def writeSpec (s : State) (e : Fin 8) (b : Fin 4) (n : Nat) (v : Word) : State :=
  match n with
  | 0 => setSp s e b (v.setWidth 16)
  | 1 =>
    let s := s.updBank e b (fun x => { x with splim := v.setWidth 16 })
    match (s.bank e b).thread with | some k => s.wr (splimOff e k) ((v.setWidth 16).setWidth 32) | none => s
  | 2 => s.updBank e b (fun x => { x with rc := v.setWidth 16 })
  | 3 =>
    let s := s.updBank e b (fun x => { x with st := v &&& 7 })
    if v &&& 0xFFFFFFF8 = 0 then s else ioRsvd s e 3
  | 4 => s.updBank e b (fun x => { x with acyc := acycOf v })
  | _ => s

/-! ## Operand selectors of microwords (R244) -/

/-- The immediate of an instruction, sign-extended and zero-extended from its width (R244). DEDUCED (assumption 57): also an unsigned one is
extended by its top bit. -/
def Fields.simm (f : Fields) : Word := wOfInt (sext f.wid f.imm)
def Fields.zimm (f : Fields) : Word := w32 f.imm

/-- The value of an operand selector (R244). -/
def sel (q : Run) (s : State) (e : Fin 8) (b : Fin 4) (k : Nat) : Word :=
  match k with
  | 0 => reg s e b q.f.ra
  | 1 => reg s e b q.f.rb
  | 2 => reg s e b q.f.rt
  | 3 => q.f.simm
  | 4 => q.f.zimm
  | 5 => spWord s e b
  | 6 => ((q.pc.getD (s.bank e b).pc)).setWidth 32
  | 7 => (acc s e b q.f.a).setWidth 32
  | 8 => (acc s e b q.f.a >>> 32).setWidth 32
  | 9 => (s.bank e b).rc.setWidth 32
  | 10 => (s.bank e b).t[0]
  | 11 => (s.bank e b).t[1]
  | 12 => (s.bank e b).t[2]
  | 13 => (s.bank e b).t[3]
  | 14 => 0
  | _ => readSpec s e b (q.f.imm % 16)

/-- Whether a write to a selector changes visible state. -/
def selVisible (k : Nat) : Bool := k ≤ 2 || (5 ≤ k && k ≤ 9) || k == 15

/-- A write to an operand selector; IMMS, IMMZ and ZERO discard it. -/
def putSel (q : Run) (s : State) (e : Fin 8) (b : Fin 4) (k : Nat) (v : Word) : Run × State :=
  match k with
  | 0 => (q, setReg s e b q.f.ra v)
  | 1 => (q, setReg s e b q.f.rb v)
  | 2 => (q, setReg s e b q.f.rt v)
  | 5 => (q, setSp s e b (v.setWidth 16))
  | 6 => ({ q with pc := some (v.setWidth 16) }, s)
  | 7 => (q, setAcc s e b q.f.a (accLow (acc s e b q.f.a) v))
  | 8 => (q, setAcc s e b q.f.a (accHigh (acc s e b q.f.a) v))
  | 9 => (q, s.updBank e b (fun x => { x with rc := v.setWidth 16 }))
  | 10 => (q, s.updBank e b (fun x => { x with t := x.t.set 0 v }))
  | 11 => (q, s.updBank e b (fun x => { x with t := x.t.set 1 v }))
  | 12 => (q, s.updBank e b (fun x => { x with t := x.t.set 2 v }))
  | 13 => (q, s.updBank e b (fun x => { x with t := x.t.set 3 v }))
  | 15 => (q, writeSpec s e b (q.f.imm % 16) v)
  | _ => (q, s)

/-- The general register that a selector names, g0 for another. -/
def selReg (f : Fields) (k : Nat) : Fin 16 := if k = 0 then f.ra else if k = 1 then f.rb else if k = 2 then f.rt else 0

/-- Whether a routine past its commit microword has still to run its tail (R175, R224, R248). -/
def Bank.inTail (x : Bank) : Bool := x.tail.isSome || (match x.run with | some q => q.committed | none => false)

end Sys2Proof.Machine
end

