-- ==== Sys2Proof/Machine/Engine.lean ====
section
/-! DEFINITION. The Flight engines around their instructions: threads and SRQs (R170 to R172), dispatch and pre-emption (R173 to R175),
run control (R178 to R180), the synchronous start, barriers, wake timers and mailboxes (R182 to R186), and the loop wrap (R187, R188). -/

namespace Sys2Proof.Machine

/-! ## Threads -/

/-- The states of a thread (R171). -/
abbrev TS.DISABLED : Nat := 0
abbrev TS.IDLE : Nat := 1
abbrev TS.READY : Nat := 2
abbrev TS.RUNNING : Nat := 3
abbrev TS.PREEMPTED : Nat := 4
abbrev TS.WAITING : Nat := 5

def thState (s : State) (e : Fin 8) (k : Fin 32) : Nat := s.fl (tstatOff e k) 0 3
def setThState (s : State) (e : Fin 8) (k : Fin 32) (v : Nat) : State := s.setFl (tstatOff e k) 0 3 v
def thPend (s : State) (e : Fin 8) (k : Fin 32) : Bool := s.bt (tstatOff e k) 3
def thEn (s : State) (e : Fin 8) (k : Fin 32) : Bool := s.bt (thOff e k) 18
def thPri (s : State) (e : Fin 8) (k : Fin 32) : Fin 4 := Fin.ofNat 4 (s.fl (thOff e k) 16 2)

/-- FEe_STAT.RUN, STOPPING and HALTED. -/
def feRun (s : State) (e : Fin 8) : Bool := s.bt (feOff e FE.STAT) 0
def feStopping (s : State) (e : Fin 8) : Bool := s.bt (feOff e FE.STAT) 1
def feHalted (s : State) (e : Fin 8) : Bool := s.bt (feOff e FE.STAT) 2

/-- The MW0 offset of word `w` of a thread's context-table entry (R170). -/
def ctxOff (e : Fin 8) (k : Fin 32) (w : Nat) : Nat := 0xA0000 + e.val * 0x8000 + 0x7F00 + 8 * k.val + 4 * w

/-- A word of a context entry written: 16 bits, the rest 0 (R170). -/
def setCtx (s : State) (e : Fin 8) (k : Fin 32) (w : Nat) (v : BitVec 16) : State := s.setMem (ctxOff e k w) 15 (v.setWidth 32)

/-- ENTRY of a thread. -/
def thEntry (s : State) (e : Fin 8) (k : Fin 32) : BitVec 16 := BitVec.ofNat 16 (s.fl (thOff e k) 0 16)

/-- The bank that executes: the engine runs, and the level selected is dispatched and holds a thread that does not wait (R173). -/
def executing (s : State) (e : Fin 8) : Option (Fin 4) :=
  if feRun s e then
    match s.eng[e].level, s.eng[e].disp with
    | some b, none => if (s.bank e b).thread.isSome && (s.bank e b).wait.isNone then some b else none
    | _, _ => none
  else none

/-- Whether the executing bank has a tail to run, or is past its commit microword (R175, R248). -/
def inTail (s : State) (e : Fin 8) : Bool :=
  match s.eng[e].level, s.eng[e].disp with
  | some b, none => (s.bank e b).wait.isNone && (s.bank e b).inTail
  | _, _ => false

/-- The bank that FEe_STAT and FEe_BUSY show as executing: from the first instruction of its level on (R198). -/
def shown (s : State) (e : Fin 8) : Option (Fin 4) := if s.eng[e].startAt ≤ s.ticks then executing s e else none

/-- FEe_STAT as it reads (R198). -/
def feStat (s : State) (e : Fin 8) : Word :=
  let w := s.rd (feOff e FE.STAT) &&& 7
  match shown s e with
  | some b => w ||| w32 (8 + b.val * 16 + ((s.bank e b).thread.getD 0).val * 256)
  | none => w

/-- SELF of a bank (R199). -/
def bankSelf (s : State) (e : Fin 8) (b : Fin 4) : Word :=
  w32 (e.val + ((s.bank e b).thread.getD 0).val * 256 + b.val * 65536)

/-! ## Service requests (R172) -/

/-- The class and number of a source as CAUSEID holds them (R199). -/
def srqId : SrqSource → Nat × Nat
  | .ch n => (0, n.val) | .pg m => (1, m.val) | .nwl n => (2, n.val) | .mbx k => (3, k.val) | .sig e => (4, e.val)
  | .wake j => (5, j.val)

/-- A thread's PEND, MERGED and cause word cleared. -/
def clearThread (s : State) (e : Fin 8) (k : Fin 32) : State := s.upd (tstatOff e k) (fun w => w &&& 7)

/-- SRQ_ARRIVAL (R172): a disabled thread discards it; any other becomes pending, merges further ones and keeps the first cause. In
DOZE it ends DOZE (R387). -/
def execSrqArrival (e : Fin 8) (k : Fin 32) (src : SrqSource) (s : State) : Host.Outcome State Fault Refusal :=
  let s := if s.fl R.PWR_STAT 0 2 = 1 then s.after 0 .dozeExit else s
  if thState s e k = TS.DISABLED then
    let was := s.bt (feOff e FE.EVT) 4
    let s := s.setEv (feOff e FE.EVT) 4
    .next (if was then s else s.raise FS.FE_SRQ_DISCARD)
  else
    let (c, n) := srqId src
    let id := w32 (n + c * 256)
    let (f, at') := s.eng[e].first[k]
    let new := s.fl (tstatOff e k) 16 6 == 0
    let better := at' == s.now && decide (c * 256 + n < f.toNat)
    let s := if new || better then s.updEng e (fun x => { x with first := x.first.set k (id, s.now) }) else s
    let s := if thPend s e k then s.satFl (tstatOff e k) 8 8 else s.setBt (tstatOff e k) 3 true
    let s := s.setBt (tstatOff e k) (16 + c) true
    .next (if thState s e k = TS.IDLE then s.later' 1 (.threadReady e k) else s)

/-- A thread whose SRQ came in the cycle before shows READY. -/
def threadReady (s : State) (e : Fin 8) (k : Fin 32) : State :=
  if thState s e k = TS.IDLE && thPend s e k then setThState s e k TS.READY else s

/-! ## The scheduler (R173 to R175) -/

/-- Whether the scheduler may dispatch a thread: it is READY, or an SRQ has come for it in this cycle (R173, R174). -/
def dispatchable (s : State) (e : Fin 8) (k : Fin 32) : Bool :=
  let st := thState s e k
  st == TS.READY || (st == TS.IDLE && thPend s e k)

/-- The lowest-numbered READY thread of a priority. -/
def readyThread (s : State) (e : Fin 8) (b : Fin 4) : Option (Fin 32) :=
  (List.finRange 32).find? (fun k => dispatchable s e k && thPri s e k == b)

/-- Whether the scheduler may select a level (R173). -/
def eligible (s : State) (e : Fin 8) (b : Fin 4) : Bool :=
  if (s.bank e b).thread.isSome then (s.bank e b).wait.isNone else (readyThread s e b).isSome

/-- The level that the scheduler selects. -/
def pick (s : State) (e : Fin 8) : Option (Fin 4) := (List.finRange 4).find? (eligible s e)

/-- Whether the first SRQ of the thread that a level would dispatch has come in this cycle. -/
def newReady (s : State) (e : Fin 8) (b : Fin 4) : Bool :=
  match readyThread s e b with
  | some k => (s.eng[e].first[k]).2 == s.now
  | none => false

/-- A level is selected while none executes: a thread that holds its bank resumes so that its first instruction starts `res` cycles
from now, and a thread is dispatched so that it starts `dis` cycles from now, or 5 where its SRQ comes now, 3 cycles after its context is
loaded (R174). -/
def schedule (s : State) (e : Fin 8) (res dis : Nat) : State :=
  if feRun s e && !feStopping s e then
    match pick s e with
    | none => s.updEng e (fun x => { x with level := none, disp := none, commit := none })
    | some b =>
      let held := (s.bank e b).thread.isSome
      let n := if held then res else if newReady s e b then max dis 5 else dis
      let d := if held then n - 1 else n - 3
      let t := s.ticks + s.samples n
      s.updEng e (fun x => { x with level := some b, disp := some (s.ticks + s.samples d), next := t, startAt := t, commit := none })
  else s.updEng e (fun x => { x with level := none, disp := none, commit := none })

/-- A thread that held a lower level while it executed is PREEMPTED when another level executes (R171). -/
def suspendOthers (s : State) (e : Fin 8) (b : Fin 4) : State :=
  (List.finRange 4).foldl (fun s c =>
    match (s.bank e c).thread with
    | some k => if c != b && (s.bank e b).thread != some k && thState s e k = TS.RUNNING then setThState s e k TS.PREEMPTED else s
    | none => s) s

/-- THREAD_DISPATCH (R173): the level selected resumes the thread that holds its bank, or dispatches its lowest-numbered READY thread:
PEND clears, CAUSE and CAUSEID are loaded and the cause word cleared, PC and sp come from the context table and SPLIM from the
stack-limit area. -/
def execThreadDispatch (e : Fin 8) (s : State) : Host.Outcome State Fault Refusal :=
  match s.eng[e].level, s.eng[e].disp with
  | some b, some _ =>
    if !feRun s e then .next s
    else match (s.bank e b).thread with
      | some k =>
        if (s.bank e b).wait.isSome then .next (schedule s e 3 5)
        else .next (suspendOthers (setThState (s.updEng e (fun x => { x with disp := none })) e k TS.RUNNING) e b)
      | none => match readyThread s e b with
        | none => .next (schedule s e 3 5)
        | some k =>
          let cause := w32 (s.fl (tstatOff e k) 16 6)
          let id := (s.eng[e].first[k]).1
          let s := s.updBank e b (fun x =>
            { x with
              thread := some k
              cause := cause
              causeid := if cause = 0 then 0 else id
              pc := (s.memWord (ctxOff e k 0)).setWidth 16
              sp := (s.memWord (ctxOff e k 1)).setWidth 16
              splim := (s.rd (splimOff e k)).setWidth 16
              wait := none
              rep := none
              run := none
              tail := none })
          let s := (s.upd (tstatOff e k) (fun w => w &&& 0xFF00)).updEng e (fun x => { x with disp := none })
          .next (suspendOthers (setThState s e k TS.RUNNING) e b)
  | _, _ => .next s

/-- Whether the executing bank is inside a REP sequence, which nothing interrupts (R231). -/
def inRep (s : State) (e : Fin 8) : Bool :=
  match executing s e with
  | some b => (match (s.bank e b).rep with | some (.rep _ _) => true | _ => false)
  | none => false

/-- Whether a higher level asks to execute in place of the one executing (R175). -/
def outranked (s : State) (e : Fin 8) : Bool :=
  feRun s e && !feStopping s e && !inRep s e
    && (match executing s e, pick s e with | some q, some p => decide (p.val < q.val) | _, _ => false)

/-- Whether a higher level is to pre-empt the one executing now: past the commit point the tail runs first (R175). -/
def preempts (s : State) (e : Fin 8) : Bool := outranked s e && !inTail s e

/-- The bank that loses its engine: a pending load is written (R210), and a routine before its commit microword is abandoned (R225). -/
def Bank.abandon (x : Bank) : Bank :=
  { x.flush with run := match x.run with | some q => if q.committed then some q else none | none => none }

/-- PREEMPTION (R175, R174): the routine under way is abandoned, and the higher level is selected; what a tail has delayed it counts toward
its latency, so that of T microwords T - 1 add to it. -/
def execPreemption (e : Fin 8) (s : State) : Host.Outcome State Fault Refusal :=
  if preempts s e then
    match executing s e with
    | some q =>
      let s := match (s.bank e q).thread with | some k => setThState s e k TS.PREEMPTED | none => s
      let w := s.eng[e].waited
      let s := (s.updBank e q Bank.abandon).updEng e (fun x => { x with waited := 0 })
      .next (schedule s e (max 2 (3 - w)) (max 4 (5 - w)))
    | none => .next s
  else .next s

/-- A cycle in which a higher level waits for a tail is counted (R174). -/
def countWait (s : State) (e : Fin 8) : State :=
  if outranked s e then (if inTail s e then s.updEng e (fun x => { x with waited := x.waited + 1 }) else s)
  else if s.eng[e].waited = 0 then s else s.updEng e (fun x => { x with waited := 0 })

/-- The level selected and not yet executing gives way to a higher one, or a level is selected where none was (R173, R174). -/
def reselect (s : State) (e : Fin 8) : State :=
  if !feRun s e || feStopping s e then s
  else match s.eng[e].level, s.eng[e].disp, pick s e with
    | none, _, some _ => schedule s e 3 5
    | some q, some _, some p => if p.val < q.val then schedule s e 3 5 else s
    | _, _, _ => s

/-- A bank is free of the thread that held it, with its pending load written (R237). -/
def freeBank (s : State) (e : Fin 8) (b : Fin 4) : State :=
  s.updBank e b (fun x => { x.flush with thread := none, wait := none, rep := none, tail := none })

/-- A bank is released by the thread that held it, and its engine executes no level. -/
def releaseBank (s : State) (e : Fin 8) (b : Fin 4) : State :=
  ((freeBank s e b).updBank e b (fun x => { x with run := none })).updEng e (fun x =>
    { x with level := none, disp := none, commit := none })

/-- A thread leaves the state of holding a bank at the end of its service (R176, R177). -/
def settleThread (s : State) (e : Fin 8) (k : Fin 32) : State :=
  if !thEn s e k then setThState (clearThread s e k) e k TS.DISABLED
  else setThState s e k (if thPend s e k then TS.READY else TS.IDLE)

/-- A thread fault (R222): EN, PEND, MERGED and the cause word clear, the context records a parcel and sp, the bank is released, and the
engine goes on with its other threads. -/
def disableThread (s : State) (e : Fin 8) (b : Fin 4) (parcel : BitVec 16) : State :=
  match (s.bank e b).thread with
  | some k =>
    let s := setThState (clearThread (s.setBt (thOff e k) 18 false) e k) e k TS.DISABLED
    let s := setCtx (setCtx s e k 0 parcel) e k 1 (s.bank e b).sp
    schedule (releaseBank s e b) e 3 5
  | none => s

/-- A thread fault with its event bit and its source (R180, R212, R222, R249). -/
def threadFault (s : State) (e : Fin 8) (b : Fin 4) (parcel : BitVec 16) (evt : Option Nat) (src : Nat) : State :=
  let k := ((s.bank e b).thread.getD 0).val
  let s := match evt with | some i => s.setEv (feOff e FE.EVT) i | none => s
  (disableThread s e b parcel).raise (src + e.val) (w32 (parcel.toNat + k * 65536 + e.val * 2 ^ 21))

/-! ## Loop wrap (R187, R188) -/

/-- The active WRAPLO and WRAPHI. -/
def wrapLo (s : State) (e : Fin 8) : BitVec 16 := BitVec.ofNat 16 (s.fl (feOff e FE.WRAPACT) 0 16)
def wrapHi (s : State) (e : Fin 8) : BitVec 16 := BitVec.ofNat 16 (s.fl (feOff e FE.WRAPACT) 16 16)

/-- The parcel after the instruction of `len` parcels at the bank's PC: past it, or at WRAPLO when it lies at WRAPHI (R187). -/
def nextPc (s : State) (e : Fin 8) (b : Fin 4) (len : Nat) : BitVec 16 :=
  let x := s.bank e b
  let wraps := 6 ≤ e.val && (match x.thread with | some k => s.bt (thOff e k) 19 | none => false) && x.pc == wrapHi s e
  if wraps then wrapLo s e else x.pc + BitVec.ofNat 16 len

/-- The shadows of the wrap registers become active (R188). -/
def wrapShadows (s : State) (e : Fin 8) : State :=
  s.wr (feOff e FE.WRAPACT) (w32 (s.fl (feOff e FE.WRAPHI) 0 16 * 65536 + s.fl (feOff e FE.WRAPLO) 0 16))

/-- The instruction at `pc` has completed: at WRAPHI the shadows become active. A REP sequence counts as one instruction (R225). -/
def wrapPass (s : State) (e : Fin 8) (pc : BitVec 16) : State := if 6 ≤ e.val && pc == wrapHi s e then wrapShadows s e else s

/-! ## Waits (R176, R179, R184, R192) -/

/-- The result word of an LWAIT (R192). -/
def lwaitResult (s : State) (k : Fin 16) (abn : Bool) : Word := setBit (laneStat s k &&& 0xFFFF) 16 abn

/-- A wait of a bank at an end: the thread no longer waits. -/
def leaveWait (s : State) (e : Fin 8) (b : Fin 4) : State :=
  let s := s.updBank e b (fun x => { x with wait := none })
  match (s.bank e b).thread with | some k => setThState s e k TS.PREEMPTED | none => s

/-- The instruction that waited is over: the thread continues at the next parcel. -/
def passWait (s : State) (e : Fin 8) (b : Fin 4) : State :=
  let n := nextPc s e b 2
  let pc := (s.bank e b).pc
  wrapPass (s.updBank e b (fun x => { x.flush with pc := n, run := none })) e pc

/-- A wait ends with a result in its destination, and the thread continues at the next parcel; a patched routine has its result in the
operand that its microword names, and goes on with the microwords that follow. -/
def endWait (s : State) (e : Fin 8) (b : Fin 4) (v : Word) : State :=
  match (s.bank e b).wait with
  | none => s
  | some w =>
    match (s.bank e b).run with
    | none =>
      let rd := match w with | .lane _ _ rd => rd | .bar _ rd => rd
      passWait (leaveWait (setReg s e b rd v) e b) e b
    | some q =>
      let p := putSel q s e b q.sel v
      let s := leaveWait (p.2.updBank e b (fun x => { x with run := some p.1 })) e b
      if q.last then passWait s e b else s

/-- The bank starts to wait and the scheduler selects another level. -/
def beginWait (s : State) (e : Fin 8) (b : Fin 4) (w : Wait) : State :=
  let s := s.updBank e b (fun x => { x with wait := some w, waitAt := s.ticks })
  let s := match (s.bank e b).thread with | some k => setThState s e k TS.WAITING | none => s
  schedule (s.updEng e (fun x => { x with level := none, disp := none, commit := none })) e 3 5

/-- Whether the condition of a waiting LWAIT holds in a cycle that tests it: every cycle, or every third for a lane of another
Flight (R192, R236). -/
def lwaitDue (s : State) (e : Fin 8) (b : Fin 4) : Bool :=
  match (s.bank e b).wait with
  | some (.lane k c _) =>
    (k.val / 2 == e.val || (s.ticks - (s.bank e b).waitAt) % 3 == 0) && laneCond s k c
  | _ => false

/-- LWAIT_RELEASE (R192, R174). -/
def execLwaitRelease (e : Fin 8) (b : Fin 4) (s : State) : Host.Outcome State Fault Refusal :=
  match (s.bank e b).wait with
  | some (.lane k c _) =>
    if laneCond s k c && feRun s e then .next (reselect (endWait s e b (lwaitResult s k false)) e) else .next s
  | _ => .next s

/-- The offset of FE_BARb. -/
def barOff (b : Fin 8) : Nat := feGlobOff (FE.BAR + 4 * b.val)

/-- The banks that wait at a barrier, over all engines. -/
def barWaiters (s : State) (b : Fin 8) : List (Fin 8 × Fin 4) :=
  (List.finRange 8).flatMap (fun e => ((List.finRange 4).filter (fun l =>
    match (s.bank e l).wait with | some (.bar j _) => j == b | _ => false)).map (fun l => (e, l)))

/-- Waiters of a barrier are released with a result code, and continue `res` ticks from now (R174, R184). -/
def releaseWaiters (s : State) (ws : List (Fin 8 × Fin 4)) (code : Nat) : State :=
  ws.foldl (fun s w => reselect (endWait s w.1 w.2 (w32 code)) w.1) s

/-- Whether every engine in MASK has arrived. -/
def barComplete (s : State) (b : Fin 8) : Bool :=
  let m := s.fl (barOff b) 0 8
  m != 0 && m &&& s.fl (barOff b) 8 8 == m

/-- The barrier is tested: when every engine in MASK has arrived, its waiters are released 3 cycles from now (R184). -/
def barTest (s : State) (b : Fin 8) : State :=
  if barComplete s b then (if s.hasDue (.barrierRelease b) then s else s.after 3 (.barrierRelease b))
  else s.dropDue (· == .barrierRelease b)

/-- All waiters of a barrier are released with a result, and ARRIVED clears. -/
def barClear (s : State) (b : Fin 8) (code : Nat) : State :=
  let s := (s.setFl (barOff b) 8 8 0).dropDue (fun c => c == .barrierTimeout b || c == .barrierRelease b)
  releaseWaiters s (barWaiters s b) code

/-- BARRIER_RELEASE (R184): all waiters are released with result 0. -/
def execBarrierRelease (b : Fin 8) (s : State) : Host.Outcome State Fault Refusal := .next (barClear s b 0)

/-- BARRIER_TIMEOUT (R184): a barrier that is still incomplete releases its waiters with result 1. One that is complete keeps its timeout,
in case it becomes incomplete again before its release. -/
def execBarrierTimeout (b : Fin 8) (s : State) : Host.Outcome State Fault Refusal :=
  if barComplete s b && s.hasDue (.barrierRelease b) then .next (s.after 1 (.barrierTimeout b))
  else
    let s := (s.setEv (feGlobOff FE.BAREVT) b.val).raise FS.FE_BAR_TIMEOUT (w32 b.val)
    .next (barClear s b 1)

/-- A write of FE_BARb (R184): MASK acts from the next cycle, and TMO from the next first arrival. -/
def writeBar (s : State) (b : Fin 8) (v : Word) : State :=
  ((s.journal (barOff b)).setFl (barOff b) 0 8 (fld v 0 8)).setFl (barOff b) 16 16 (fld v 16 16) |>.later' 1 (.barMask b)

/-- A written MASK acts (R184): waiters that it no longer names are released with result 3, and the remaining arrivals are tested. -/
def barMask (s : State) (b : Fin 8) : State :=
  let m := s.fl (barOff b) 0 8
  let out := (barWaiters s b).filter (fun w => !m.testBit w.1.val)
  let s := s.setFl (barOff b) 8 8 (s.fl (barOff b) 8 8 &&& m)
  let s := if s.fl (barOff b) 8 8 = 0 then s.dropDue (· == .barrierTimeout b) else s
  barTest (releaseWaiters s out 3) b

/-- Whether an engine takes part in a barrier: by MASK as it stood before a write of this cycle (R184). -/
def participates (s : State) (b e : Fin 8) : Bool := s.wasBt (barOff b) e.val

/-- BAR_MASK_WRITE (R184). -/
def execBarMaskWrite (_ : Agent) (b : Fin 8) (v : Word) (s : State) : Host.Outcome State Fault Refusal := .next (writeBar s b v)

/-- An arrival at a barrier (R184): recorded, with the timeout started by the first one. -/
def barArrive (s : State) (e : Fin 8) (b : Fin 8) : State :=
  let first := s.fl (barOff b) 8 8 == 0
  let tmo := s.fl (barOff b) 16 16
  let s := if first && tmo != 0 then s.after tmo (.barrierTimeout b) else s
  barTest (s.setBt (barOff b) (8 + e.val) true) b

/-- The arrival of an engine is withdrawn (R179). -/
def barWithdraw (s : State) (e : Fin 8) (b : Fin 8) : State :=
  let s := s.setBt (barOff b) (8 + e.val) false
  let s := if s.fl (barOff b) 8 8 = 0 then s.dropDue (· == .barrierTimeout b) else s
  barTest s b

/-! ## Run control (R178, R179) -/

/-- NOTICE FE_CFG with EVT.CFGERR (R177, R178). -/
def feCfgErr (s : State) (a : Agent) (e : Fin 8) (o : Nat) : State :=
  (s.setEv (feOff e FE.EVT) 6).raise FS.FE_CFG (accessDetail a (feOff e o))

/-- Whether START is refused: LIM below BASE (R178), or a self-test holds the engine idle (R362). -/
def startRefused (s : State) (e : Fin 8) : Bool :=
  s.fl (feOff e FE.CODE) 16 16 < s.fl (feOff e FE.CODE) 0 16
    || (s.fl R.BG_STAT 0 2 == 3 && (s.bg.target == e.val || s.bg.target == 8 || s.bg.target == 9))

/-- CMD.START (R178, R256): RUN in the next cycle; refused; or held while a microcode load runs. -/
def startCmd (s : State) (a : Agent) (e : Fin 8) : State :=
  if feRun s e && !feStopping s e then s
  else if startRefused s e then feCfgErr s a e FE.CMD
  else if s.patch.checks.any (fun c => !c.chestwr) then { s with patch := { s.patch with heldStart := s.patch.heldStart ++ [e] } }
  else if feHalted s e then s.updEng e (fun x => { x with wasRun := true })
  else s.updEng e (fun x => { x with startNext := true })

/-- The engine runs from this tick on (R178). -/
def beginRun (s : State) (e : Fin 8) : State :=
  let s := (s.setBt (feOff e FE.STAT) 0 true).updEng e (fun x => { x with startNext := false, level := none, disp := none, commit := none })
  schedule s e 3 5

/-- CMD.STOP (R178). -/
def stopCmd (s : State) (e : Fin 8) : State :=
  if feRun s e && !feStopping s e then
    (s.setBt (feOff e FE.STAT) 1 true).updEng e (fun x => { x with stopAt := s.now, startNext := false, wasRun := false })
  else s.updEng e (fun x => { x with startNext := false, wasRun := false })

def execFeStart (a : Agent) (e : Fin 8) (s : State) : Host.Outcome State Fault Refusal := .next (startCmd s a e)
def execFeStop (_ : Agent) (e : Fin 8) (s : State) : Host.Outcome State Fault Refusal := .next (stopCmd s e)

/-- Whether a stop has reached an instruction boundary (R178): the tail of the last instruction is over and no REP sequence runs. -/
def stopReady (s : State) (e : Fin 8) : Bool :=
  feRun s e && feStopping s e && s.eng[e].stopAt < s.now && !inRep s e && !inTail s e

/-- A wait is abandoned (R179): the thread continues at the next parcel, so that a patched routine goes no further. -/
def abandonWait (s : State) (e : Fin 8) (b : Fin 4) : State :=
  let quit (s : State) (v : Word) : State :=
    let s := endWait s e b v
    (if (s.bank e b).run.isSome then passWait s e b else s).setEv (feOff e FE.EVT) 5
  match (s.bank e b).wait with
  | none => s
  | some (.lane k _ _) => quit s (lwaitResult s k true)
  | some (.bar j _) => barWithdraw (quit s 2) e j

/-- FE_STOP_COMPLETE (R178, R179, R193, R210): RUN clears, a routine before its commit point is abandoned, pending loads are written,
and every wait is abandoned. -/
def execFeStopComplete (e : Fin 8) (s : State) : Host.Outcome State Fault Refusal :=
  if !(feRun s e && feStopping s e) then .next s
  else
    let s := (s.setBt (feOff e FE.STAT) 0 false).setBt (feOff e FE.STAT) 1 false
    let s := s.updEng e (fun x => { x with level := none, disp := none, commit := none, stopAt := 0 })
    let s := (List.finRange 4).foldl (fun s b => if (s.bank e b).wait.isSome then abandonWait s e b else s.updBank e b Bank.abandon) s
    let s := lanesStop s e
    if s.eng[e].haltReq then
      let was := feHalted s e
      let s := (s.setBt (feOff e FE.STAT) 2 true).updEng e (fun x => { x with haltReq := false, stepOne := false })
      .next (if was then s else freezeRouted s e true)
    else .next s

/-- A debugger halt (R178, R423): a stop whose end sets HALTED; an engine that does not run is halted at once. -/
def haltCmd (s : State) (e : Fin 8) : State :=
  if feRun s e then
    let was := s.eng[e].wasRun || !feStopping s e
    let s := (s.setBt (feOff e FE.STAT) 1 true).updEng e (fun x =>
      { x with haltReq := true, wasRun := was, stopAt := if x.stopAt = 0 then s.now else x.stopAt })
    s
  else if feHalted s e then
    if s.eng[e].startNext then s.updEng e (fun x => { x with startNext := false, stepOne := false }) else s
  else freezeRouted (lanesStop ((s.setBt (feOff e FE.STAT) 2 true).updEng e (fun x =>
    { x with wasRun := x.startNext, startNext := false, stopAt := s.now })) e) e true

/-- A release of a halted engine (R423): HALTED clears, and an engine that ran goes on in the next tick. A halt of the same cycle
prevails (R424). -/
def resumeCmd (s : State) (e : Fin 8) : State :=
  if feHalted s e && !feRun s e && s.eng[e].stopAt != s.now then
    let s := s.setBt (feOff e FE.STAT) 2 false
    freezeRouted (s.updEng e (fun x => { x with startNext := x.wasRun, wasRun := false, bpSkip := true })) e false
  else s

/-- A single step (R423): the halted engine runs until one instruction has executed. -/
def stepCmd (s : State) (e : Fin 8) : State :=
  if feHalted s e && !feRun s e && s.eng[e].stopAt != s.now then
    s.updEng e (fun x => { x with startNext := true, stepOne := true, bpSkip := true }) else s

/-- An instruction has executed: a single step ends there (R423). -/
def stepEnds (s : State) (e : Fin 8) : State := if s.eng[e].stepOne && !inRep s e then haltCmd s e else s

/-- A breakpoint that names the engine matches the parcel about to execute (R423). -/
def bpMatch (s : State) (e : Fin 8) (pc : BitVec 16) : Bool :=
  !s.eng[e].bpSkip && (List.range 4).any (fun k =>
    let w := s.rd (R.DBG_BP + 4 * k)
    bit w 31 && bit w (16 + e.val) && fld w 0 16 == pc.toNat)

/-- BREAKPOINT_HIT (R423): the engine halts before the instruction at its PC. -/
def execBreakpointHit (e : Fin 8) (s : State) : Host.Outcome State Fault Refusal :=
  match executing s e with
  | some b => if bpMatch s e (s.bank e b).pc then .next (haltCmd (s.setEv R.DBG_STAT e.val) e) else .next s
  | none => .next s

/-- CMD.RESET (R178). -/
def resetCmd (s : State) (a : Agent) (e : Fin 8) : State :=
  if feRun s e || feStopping s e then feCfgErr s a e FE.CMD
  else
    let s := (List.finRange 4).foldl (fun s b =>
      s.updBank e b (fun x => { x with thread := none, wait := none, rep := none, load := none, run := none, tail := none })) s
    (List.finRange 32).foldl (fun s k =>
      let s := clearThread s e k
      if thEn s e k then setThState (setCtx s e k 0 (thEntry s e k)) e k TS.IDLE else setThState s e k TS.DISABLED) s

def execFeReset (a : Agent) (e : Fin 8) (s : State) : Host.Outcome State Fault Refusal := .next (resetCmd s a e)

/-- A write of FEe_CMD (R198): START and STOP both 1 have no effect. -/
def writeFeCmd (s : State) (a : Agent) (e : Fin 8) (v : Word) : State :=
  let s := if bit v 2 then resetCmd s a e else s
  if bit v 0 && bit v 1 then s else if bit v 0 then startCmd s a e else if bit v 1 then stopCmd s e else s

/-- A write of FEe_THk (R170, R177): ENTRY, PRI and WRAP only while the engine does not run, and else with CFGERR; EN always. -/
def writeTh (s : State) (a : Agent) (e : Fin 8) (k : Fin 32) (v : Word) : State :=
  let o := thOff e k
  let keep : Word := if 6 ≤ e.val then 0xBFFFF else 0x3FFFF
  let was := thEn s e k
  let s := if feRun s e then feCfgErr s a e (FE.TH + 4 * k.val)
    else s.upd o (fun w => (w &&& ~~~ keep) ||| (v &&& keep))
  let s := s.setBt o 18 (bit v 18)
  if bit v 18 && !was then
    let s := setCtx s e k 0 (thEntry s e k)
    if thState s e k = TS.DISABLED then setThState s e k TS.IDLE else s
  else if !bit v 18 && was && (thState s e k = TS.IDLE || thState s e k = TS.READY) then setThState (clearThread s e k) e k TS.DISABLED
  else s

/-- THREAD_CONFIG_WRITE (R177). -/
def execThreadConfigWrite (a : Agent) (e : Fin 8) (k : Fin 32) (v : Word) (s : State) : Host.Outcome State Fault Refusal :=
  .next (writeTh s a e k v)

/-- A write of FEe_CODE (R198): ignored while the engine runs. -/
def writeFeCode (s : State) (a : Agent) (e : Fin 8) (v : Word) : State :=
  if feRun s e then feCfgErr s a e FE.CODE else s.wr (feOff e FE.CODE) v

/-! ## Synchronous start (R182, R351, R356) -/

/-- The stopped engines that a GO names. -/
def goStopped (s : State) (v : Word) : Nat := ((List.finRange 8).filter (fun e => bit v e.val && !feRun s e)).length

/-- A GO that is replaced gives up the grant that it has not used. -/
def dropGoGrant (s : State) : State := s.updVest (fun v => { v with grants := v.grants.filter (fun g => !(g.kind == .go && g.ends.isNone)) })

/-- A write of FE_GO (R182): it arms the GO, in place of one armed before; more than two engines to start ask the Vestibule. -/
def writeGo (s : State) (v : Word) : State :=
  let s := dropGoGrant s
  let n := goStopped s v
  let heavy := decide (2 < n)
  let queued := s.vest.queue.any (fun q => q.kind == .go)
  let s := { s.setBt (feGlobOff FE.GOSTAT) 0 true with go := some ⟨v &&& 0x1FFFFFF, heavy, if bit v 24 then none else some (s.ticks + 2)⟩ }
  if !heavy then withdrawReq s (· == .go)
  else if queued then
    if vestRefusing s then refuse (withdrawReq s (· == .go)) .go
    else s.updVest (fun x => { x with queue := x.queue.map (fun q => if q.kind == .go then { q with units := 28 * n } else q) })
  else request s .go (28 * n)

/-- FE_GO_WRITE (R182). -/
def execFeGoWrite (_ : Agent) (v : Word) (s : State) : Host.Outcome State Fault Refusal := .next (writeGo s v)

/-- Whether the armed GO acts in this tick. -/
def goDue (s : State) : Bool :=
  match s.go with
  | some g => !g.waits && (match g.at' with
    | some t => decide (t ≤ s.ticks)
    | none => reached (s.rd (feGlobOff FE.GOTIME)) s.near)
  | none => false

/-- A GO with AT = 1 that has not been granted in its tick keeps that tick, so that the grant makes it late (R356). -/
def goMiss (s : State) : State :=
  match s.go with
  | some g =>
    if g.waits && g.at'.isNone && reached (s.rd (feGlobOff FE.GOTIME)) s.near then { s with go := some { g with at' := some s.ticks } } else s
  | none => s

/-- GO_ACT (R182): the named engines start, and the dividers of the named lanes restart. -/
def execGoAct (s : State) : Host.Outcome State Fault Refusal :=
  match s.go with
  | none => .next s
  | some g =>
    if g.waits then .next s
    else
      let s := { (s.setBt (feGlobOff FE.GOSTAT) 0 false).setEv (feGlobOff FE.GOSTAT) 1 with go := none }
      let s := s.updVest (fun v => { v with grants := v.grants.map (fun x => if x.kind == .go && x.ends.isNone then { x with ends := some (s.ticks + 4000) } else x) })
      let s := (List.finRange 8).foldl (fun s e =>
        if !bit g.v e.val || (feRun s e && !feStopping s e) then s
        else if startRefused s e then s.setEv (feOff e FE.EVT) 6
        else if feHalted s e then s.updEng e (fun x => { x with wasRun := true })
        else if feStopping s e then s.updEng e (fun x => { x with startNext := true })
        else beginRun s e) s
      .next ((List.finRange 16).foldl (fun s k => if bit g.v (8 + k.val) then divRestart s k s.ticks else s) s)

/-! ## Wake timers and mailboxes (R185, R186) -/

/-- The offset of FEe_WAKEj_T and FEe_WAKEj_C. -/
def wakeT (e j : Fin 8) : Nat := feOff e (FE.WAKE_T + 8 * j.val)
def wakeC (e j : Fin 8) : Nat := feOff e (FE.WAKE_C + 8 * j.val)

/-- Whether a wake timer's target is satisfied. -/
def wakeDue (s : State) (e j : Fin 8) : Bool := s.bt (wakeC e j) 8 && reached (s.rd (wakeT e j)) s.near

/-- WAKE_TIMER_FIRE (R185). -/
def execWakeTimerFire (e j : Fin 8) (s : State) : Host.Outcome State Fault Refusal :=
  if wakeDue s e j then
    .next ((s.setBt (wakeC e j) 8 false).srq e (Fin.ofNat 32 (s.fl (wakeC e j) 0 5)) (.wake j) 0)
  else .next s

/-- Whether an agent is a port: the host, the supervisor, or the debug agent in the host's place. -/
def isPort : Agent → Bool
  | .host | .sup | .debug => true
  | _ => false

/-- A doorbell write of a port (R186). -/
def writeMbxdb (s : State) (a : Agent) (e : Fin 8) (v : Word) : State :=
  if !isPort a then s
  else (List.finRange 8).foldl (fun s m =>
    if !bit v m.val then s
    else
      let s := s.setBt (feOff e FE.MBXSTAT) m.val true
      let c := feOff e FE.MBXCFG
      if s.bt c 8 then s.srq e (Fin.ofNat 32 (s.fl c 0 5)) (.mbx m) 0 else s) s

/-- A write of FEe_MBXACK by any agent (R186). -/
def writeMbxack (s : State) (e : Fin 8) (v : Word) : State :=
  (List.finRange 8).foldl (fun s m =>
    if bit v m.val then (s.setBt (feOff e FE.MBXSTAT) m.val false).setEv (feOff e FE.MBXSTAT) (8 + m.val) else s) s

def execMbxdb (a : Agent) (e : Fin 8) (v : Word) (s : State) : Host.Outcome State Fault Refusal := .next (writeMbxdb s a e v)
def execMbxack (_ : Agent) (e : Fin 8) (v : Word) (s : State) : Host.Outcome State Fault Refusal := .next (writeMbxack s e v)

/-- A port's write to a mailbox word (R186): ignored while the mailbox is pending. -/
def writeMbxWord (s : State) (a : Agent) (e : Fin 8) (o : Nat) (v : Word) : State :=
  let m := (o - FE.MBX_W) / 0x20
  if isPort a && s.bt (feOff e FE.MBXSTAT) m then (s.setEv (feOff e FE.EVT) 7).raise FS.FE_MBX_BUSY else s.wr (feOff e o) v

/-! ## Writes into code RAM (R181) -/

/-- The port number of FE_CODEWR. -/
abbrev CodePort.host : Nat := 0
abbrev CodePort.sup : Nat := 1
abbrev CodePort.gallery : Nat := 2
abbrev CodePort.debug : Nat := 3

/-- The engines that run or stop and whose code region holds a parcel. -/
def codeUsers (s : State) (parcel : Nat) : List (Fin 8) :=
  (List.finRange 8).filter (fun e => (feRun s e || feStopping s e)
    && s.fl (feOff e FE.CODE) 0 16 ≤ parcel && parcel ≤ s.fl (feOff e FE.CODE) 16 16)

/-- Whether a write of a parcel is refused: an engine runs in it, or a self-test of code RAM runs (R362). -/
def codeRefused (s : State) (parcel : Nat) : Bool := !(codeUsers s parcel).isEmpty || (s.fl R.BG_STAT 0 2 == 3 && s.bg.target == 8)

/-- A refused write of a parcel by a port (R181). -/
def codeRefuse (s : State) (parcel port : Nat) : State :=
  let s := (codeUsers s parcel).foldl (fun s e => s.setEv (feOff e FE.EVT) 3) s
  let v := w32 (parcel + port * 65536)
  (s.note (feGlobOff FE.CODEWR) (fun _ => v ||| 0x80000000)).raise FS.FE_CODE_WR v

/-- A write of the bytes of `v` chosen by `be` at the code RAM word at MW0 offset `o`, parcel by parcel (R181). -/
def writeCode (s : State) (o be : Nat) (v : Word) (port : Nat) : State :=
  let one (s : State) (h : Nat) : State :=
    let m := (be / 4 ^ h) % 4
    let parcel := (o - 0x40000) / 2 + h
    if m = 0 then s
    else if codeRefused s parcel then codeRefuse s parcel port
    else s.setMem o (m * 4 ^ h) v
  one (one s 0) 1

end Sys2Proof.Machine
end

