-- ==== Sys2Proof/Machine/Rings.lean ====
section
/-! DEFINITION. Rings as their owners drive them (R260 to R266, R275 to R280, R286 to R288): enabling and disabling, doorbells, descriptor
fetch, completion, halting, aborting, and the loss and return of the host. -/

namespace Sys2Proof.Machine

/-! ## Configuration (R266, R288) -/

/-- RING_SUPLOCK of a ring. -/
def supLocked (s : State) (r : Fin 64) : Bool := s.bt (R.RING_SUPLOCK0 + 4 * (r.val / 32)) (r.val % 32)

/-- NOTICE RING_CFG of an access. -/
def ringCfgNotice (s : State) (a : Agent) (r : Fin 64) (o : Nat) : State := s.raise FS.RING_CFG (accessDetail a (ringOff r o))

/-- How many supervisor-owned rings are enabled (R261). -/
def supRings (s : State) : Nat := ((List.finRange 64).filter (fun r => !hostOwned s r && ringEn s r)).length

/-- Whether a self-test of BG_REQ holds the ring's target idle (R362). -/
def ringHeldIdle (s : State) (r : Fin 64) : Bool :=
  s.fl R.BG_STAT 0 2 == 3 &&
    ((s.bg.target == 10 && ringType s r == 2) || (s.bg.target == 11 && !hostOwned s r)
      || s.bg.target == 16 + s.fl (ringOff r RING.CFG) 12 4)

/-- The checks of an enable (R288, R261). -/
def ringEnableOk (s : State) (r : Fin 64) : Bool :=
  let cfg := s.rdRing r RING.CFG
  let t := fld cfg 1 3
  let ln := fld cfg 4 5
  let c := Fin.ofNat 64 (fld cfg 16 6)
  decide (t ≤ 4) && decide (4 ≤ ln) && decide (ln ≤ 16)
    && (hostOwned s r || (decide ((s.rdRing r RING.BASE_LO).toNat + ringN s r * entrySize s r ≤ 0x8000) && decide (supRings s < 4)))
    && (!bit cfg 11 || s.fl (ringOff r RING.WB_LO) 0 3 == 0)
    && (decide (2 ≤ t) || (ringType s c == 3 && hostOwned s c == hostOwned s r))
    && !ringHeldIdle s r

/-- A ring starts (R266, R295): its indices are 0; a CAPT ring takes an anchor. -/
def ringStart (s : State) (r : Fin 64) : State :=
  let s := ((s.wr (ringOff r RING.HEAD) 0).wr (ringOff r RING.TAIL) 0).wr (ringOff r RING.DONE) 0
  let s := s.updRing r (fun _ => { Ring.reset with flush := s.fl (capOff r CAP.FLUSH) 0 16 })
  let s := setRingState ((s.setBt (ringOff r RING.STAT) 3 false).setBt (ringOff r RING.STAT) 4 false) r 1
  if ringType s r = 2 then s.offer 0 (anchorGroup s r 0) else s

/-- An enable (R266): IDLE, or refused with EN 0, CFGERR and RING_CFG. -/
def enableRing (s : State) (a : Agent) (r : Fin 64) : State :=
  if ringEnableOk s r then ringStart (s.setBt (ringOff r RING.CFG) 0 true) r
  else ringCfgNotice ((s.setBt (ringOff r RING.CFG) 0 false).setEv (ringOff r RING.STAT) 16) a r RING.CFG

/-- Descriptors that have not started are discarded, and DONE and HEAD become TAIL; the one that has started runs on, counted already; a
waiting TXN_COMMIT ends with ABORT, and its transaction stays open (R276). -/
def abortRing (s : State) (r : Fin 64) : State :=
  let s := s.updRing r (fun x => { x with fetched := [], asked := 0, cur := x.cur.map (fun d => { d with counts := false }) })
  let tail := s.rdRing r RING.TAIL
  let s := (s.wr (ringOff r RING.HEAD) tail).wr (ringOff r RING.DONE) tail
  match s.ring[r].cur with
  | none => s
  | some d =>
    if d.waits then
      (List.finRange 8).foldl (fun s t =>
        if s.txn[t].ring == some r then
          let s := (s.setFl (txnOff t TXN.STAT) 0 2 1).dropDue (· == .landing t)
          endCommit s t ST.ABORT 0
        else s) s
    else s

/-- Entries of a device-produced ring that no write has begun are discarded (R282, R302). -/
def discardHeld (s : State) (r : Fin 64) : State := if ringType s r = 2 then discardRing s r else discardEntries s r

/-- The interrupt count, timer and hold of a ring clear, and no writeback is left (R444). -/
def clearIrq (s : State) (r : Fin 64) : State :=
  ((s.updRing r (fun x => { x with cnt := 0, wbDue := false })).dropDue (· == .irqTimerExpiry r)).setBt (ringOff r RING.STAT) 3 false

/-- The context of a ring's descriptor is free: its burst is over. -/
def freeDesc (s : State) (r : Fin 64) : State :=
  let g := ringGc s r
  if s.gc[g].work == some (r, .desc) then (endBurst (setWork s g none) g).wr (gcOff g GC.REM) 0 else s

/-- The descriptor of a ring is dropped without an account: its context is free, its burst over, and neither a commit nor a SNAP has to
report to it. -/
def dropCur (s : State) (r : Fin 64) : State :=
  let s := { s with txn := s.txn.map (fun t => if t.ring == some r then { t with ring := none } else t)
                    snap := { s.snap with rings := s.snap.rings.filter (·.1 != r), copying := s.snap.copying.filter (·.1 != r) } }
  (freeDesc s r).updRing r (fun x => { x with cur := none })

/-- EN written 0 (R266): DRAIN from IDLE, ACTIVE and HALT, OFF from DETACHED. -/
def disableRing (s : State) (r : Fin 64) : State :=
  let s := s.setBt (ringOff r RING.CFG) 0 false
  let st := ringState s r
  let s := if ownerProduced s r then s else discardHeld s r
  if st = 5 then setRingState (clearIrq ((dropCur s r).updRing r (fun x => { x with fetched := [], asked := 0, q := [], lost := none })) r) r 0
  else if st = 1 || st = 2 || st = 4 then
    let s := if ownerProduced s r then abortRing s r else s
    setRingState (clearIrq s r) r 3
  else s

/-- A write of RINGr_CFG (R288): ignored for a host write under SUPLOCK; outside OFF only EN acts. -/
def writeRingCfg (s : State) (a : Agent) (r : Fin 64) (v : Word) : State :=
  let v := v &&& 0x3FFFFF
  let old := s.rdRing r RING.CFG
  if a = .host && supLocked s r then ringCfgNotice s a r RING.CFG
  else if ringState s r = 0 then
    let s := s.wr (ringOff r RING.CFG) (setBit v 0 false)
    if bit v 0 then enableRing s a r else s
  else
    let s := if (v ^^^ old) &&& 0x3FFFFE = 0 then s else ringCfgNotice s a r RING.CFG
    if bit v 0 then s else disableRing s r

/-- A write of a BASE or WB register (R288). -/
def writeRingAddr (s : State) (a : Agent) (r : Fin 64) (o : Nat) (v : Word) : State :=
  let v := if o = RING.BASE_LO then v &&& 0xFFFFFF00 else if o = RING.WB_LO then v &&& 0xFFFFFFF8 else v
  if a = .host && supLocked s r then ringCfgNotice s a r o
  else if ringState s r = 0 then s.wr (ringOff r o) v
  else if v = s.rdRing r o then s else ringCfgNotice s a r o

/-- RING_ENABLE (R266). -/
def execRingEnable (a : Agent) (r : Fin 64) (s : State) : Host.Outcome State Fault Refusal :=
  .next (writeRingCfg s a r (setBit (s.rdRing r RING.CFG) 0 true))

/-- RING_DISABLE (R266). -/
def execRingDisable (a : Agent) (r : Fin 64) (s : State) : Host.Outcome State Fault Refusal :=
  .next (writeRingCfg s a r (setBit (s.rdRing r RING.CFG) 0 false))

/-- Whether the writes in flight of a draining ring have finished (R444). -/
def drained (s : State) (r : Fin 64) : Bool :=
  ringState s r == 3 && s.ring[r].cur.isNone && s.ring[r].issued.isNone && s.ring[r].blk.isNone

/-- DRAIN_END (R444): the ring becomes OFF. -/
def execDrainEnd (r : Fin 64) (s : State) : Host.Outcome State Fault Refusal :=
  .next (if drained s r then setRingState s r 0 else s)

/-! ## Doorbells and fetch (R263 to R265) -/

/-- Whether the agent is the port that owns a ring (R261). -/
def ownsRing (s : State) (a : Agent) (r : Fin 64) : Bool :=
  match a with
  | .host => hostOwned s r
  | .sup => !hostOwned s r
  | _ => false

/-- A doorbell (R264): the new TAIL of an owner-produced ring, the new HEAD of a device-produced one; refused changes nothing. -/
def ringDoorbell (s : State) (a : Agent) (r : Fin 64) (v : Word) : State :=
  let n := ringN s r
  let st := ringState s r
  let head := s.rdRing r RING.HEAD
  let tail := s.rdRing r RING.TAIL
  let own := ownerProduced s r
  let fits := if own then decide ((v - s.rdRing r RING.DONE).toNat ≤ n) && decide ((v - tail).toNat ≤ n)
    else decide ((v - head).toNat ≤ (tail - head).toNat)
  if !ownsRing s a r || st = 0 || st = 5 || !fits then
    (s.setEv (ringOff r RING.STAT) 17).raise FS.RING_DB (w32 r.val)
  else if own then settleRing (s.wr (ringOff r RING.TAIL) v) r
  else if v = head then s
  else releaseHold (settleRing (s.wr (ringOff r RING.HEAD) v) r) r

/-- DOORBELL (R264). -/
def execDoorbell (a : Agent) (r : Fin 64) (v : Word) (s : State) : Host.Outcome State Fault Refusal := .next (ringDoorbell s a r v)

/-- The descriptors that the next read request of a ring covers (R265): at most 16, none beyond the end of the ring, and at most 16
fetched and not started. A ring that holds none asks for its first ones when its context is free. -/
def fetchCount (s : State) (r : Fin 64) : Nat :=
  let x := s.ring[r]
  let st := ringState s r
  let first := x.fetched.isEmpty && x.cur.isNone
  if !ownerProduced s r || !(st == 1 || st == 2) || x.asked != 0 || (hostOwned s r && !hostOk s)
    || (first && s.gc[ringGc s r].work.isSome) then 0
  else
    let head := s.rdRing r RING.HEAD
    let left := (s.rdRing r RING.TAIL - head).toNat
    min (min left (16 - x.fetched.length)) (ringN s r - head.toNat % ringN s r)

/-- The read request for a ring's next descriptors is issued (R265); the mailbox RAM answers in the next cycle. -/
def fetchRing (s : State) (r : Fin 64) : State :=
  let k := fetchCount s r
  let at' := entryAddr s r (s.rdRing r RING.HEAD).toNat
  let s := s.updRing r (fun x => { x with asked := k })
  if hostOwned s r then { s with out := s.out ++ [.read at' (32 * k)] }
  else s.after 1 (.descriptorArrival r true ((List.range (8 * k)).map (fun i => s.memWord (0x18000 + (at' + 4 * i) % 0x8000))))

/-- The descriptors in a list of words, with their indices. -/
def splitDescs : Nat → Word → List Word → List (Word × List Word)
  | 0, _, _ => []
  | n + 1, i, ws => (i, ws.take 8) :: splitDescs n (i + 1) (ws.drop 8)

/-- A ring enters HALT (R266, R281, R283): HALTEV, a ring event, and the interrupt of an owner-produced ring. -/
def haltRing (s : State) (r : Fin 64) : State :=
  let s := (setRingState s r 4).setEv (ringOff r RING.STAT) 19
  let s := ringEvent s r
  if s.bt (ringOff r RING.IRQ) 6 then s.later' 1 (.irqSend r) else s

/-- HEAD behind the descriptor under way, or at DONE where none is: the ring goes on at DONE (R266, R287). -/
def headToDone (s : State) (r : Fin 64) : State :=
  let n : Word := match s.ring[r].cur with | some d => if d.counts then 1 else 0 | none => 0
  s.wr (ringOff r RING.HEAD) (s.rdRing r RING.DONE + n)

/-- DESCRIPTOR_ARRIVAL (R265, R266): the descriptors asked for arrive and HEAD rises, or their read failed and the ring halts, where it is
not halted already. -/
def execDescriptorArrival (r : Fin 64) (ok : Bool) (ws : List Word) (s : State) : Host.Outcome State Fault Refusal :=
  let k := s.ring[r].asked
  let st := ringState s r
  if k = 0 || !(st == 1 || st == 2 || st == 4) then .next s
  else
    let s := s.updRing r (fun x => { x with asked := 0 })
    if ok then
      let i := s.rdRing r RING.HEAD
      let s := s.updRing r (fun x => { x with fetched := x.fetched ++ splitDescs k i ws, arrAt := if x.fetched.isEmpty then s.ticks else x.arrAt })
      .next (s.wr (ringOff r RING.HEAD) (i + BitVec.ofNat 32 k))
    else
      let s := s.updRing r (fun x => { x with fetched := [] })
      let s := s.wr (ringOff r RING.HEAD) (s.rdRing r RING.DONE)
      let s := (s.setEv (ringOff r RING.STAT) 18).raise FS.RING_HOSTERR (w32 (r.val + ST.HOSTERR * 256))
      .next (if st = 4 then s else haltRing s r)

/-! ## Completion (R275 to R280) -/

/-- W0 of a descriptor. -/
def Desc.w0 (d : Desc) : Word := d.ws.headD 0

/-- The four words of a completion record (R277), without its phase bit. -/
def cmplWords (s : State) (r : Fin 64) (d : Desc) : List Word :=
  [w32 (fld d.w0 16 16 + d.status * 2 ^ 16 + r.val * 2 ^ 24), d.idx, d.result, s.near]

/-- The CMPL ring of a ring. -/
def cring (s : State) (r : Fin 64) : Fin 64 := Fin.ofNat 64 (s.fl (ringOff r RING.CFG) 16 6)

/-- Whether a descriptor that has ended needs a completion record (R275, R286). -/
def needsRecord (s : State) (r : Fin 64) (d : Desc) : Bool := (d.status != 0 || bit d.w0 8) && ringState s r != 5

/-- The account of a descriptor that has ended (R262, R275): DONE, LASTERR and ERRIDX, the writeback, and HALT with STOPERR = 1. -/
def accountDesc (s : State) (r : Fin 64) (d : Desc) : State :=
  let s := (freeDesc s r).updRing r (fun x => { x with cur := none })
  let s :=
    if d.counts then
      let done := s.rdRing r RING.DONE
      let s := s.wr (ringOff r RING.DONE) (done + 1)
      if s.rdRing r RING.HEAD = done then s.wr (ringOff r RING.HEAD) (done + 1) else s
    else s
  let s := s.setBt (ringOff r RING.STAT) 4 false
  let s := if d.status = 0 then s else (s.setFl (ringOff r RING.STAT) 8 8 d.status).wr (ringOff r RING.ERRIDX) d.idx
  let st := ringState s r
  let s := if st = 3 || st = 5 then s else writeback s r
  if d.status != 0 && s.bt (ringOff r RING.CFG) 10 && (st == 1 || st == 2) then haltRing s r else settleRing s r

/-- Whether a CMPL ring cannot take a record: full, or neither IDLE nor ACTIVE (R280). -/
def cmplBlocked (s : State) (c : Fin 64) : Bool := !(ringState s c == 1 || ringState s c == 2) || ringN s c ≤ deviceOcc s c

/-- Whether the context of a CMPL ring can write a record of ring `r` now (R304): it is free, holds the entry, or held the descriptor. -/
def contextFor (s : State) (r c : Fin 64) : Bool :=
  match s.gc[ringGc s c].work with
  | none => true
  | some w => w == (c, .entry) || w == (r, .desc)

/-- DESCRIPTOR_COMPLETE (R275, R277, R280): the record is issued into the CMPL ring, or the source ring waits for its space. -/
def execDescriptorComplete (r : Fin 64) (s : State) : Host.Outcome State Fault Refusal :=
  match s.ring[r].cur with
  | none => .next s
  | some d =>
    if !d.ended then .next s
    else if !needsRecord s r d then .next (accountDesc s r d)
    else
      let c := cring s r
      if canIssue s c && contextFor s r c then
        .next (accountDesc (putEntry (freeDesc s r) c ⟨cmplWords s r d, bit d.w0 9⟩) r d)
      else .next (if cmplBlocked s c then s.setBt (ringOff r RING.STAT) 4 true else s)

/-! ## Commands (R276, R287) -/

/-- CMD.ABORT (R276, R266). -/
def abortCmd (s : State) (r : Fin 64) : State :=
  let st := ringState s r
  if ownerProduced s r && (st == 1 || st == 2 || st == 4) then
    let s := abortRing s r
    settleRing (setRingState s r 1) r
  else s

/-- CMD.RESUME (R266): execution goes on at DONE. -/
def resumeRing (s : State) (r : Fin 64) : State :=
  if ringState s r = 4 then
    let s := if ownerProduced s r && s.rdRing r RING.HEAD == s.rdRing r RING.DONE then headToDone s r else s
    settleRing (setRingState s r 1) r
  else s

/-- CMD.ATTACH (R287): accepted when DETACHED with the link up and Bus Master Enable set; a CAPT ring takes an anchor. -/
def attachRing (s : State) (r : Fin 64) : State :=
  if ringState s r == 5 && linkUp s && s.pcie.bme then
    let s := s.updRing r (fun x => { x with fetched := [], asked := 0 })
    let s := if ownerProduced s r then headToDone s r else s
    let s := ringEvent (settleRing (setRingState s r 1) r) r
    let s := if (List.finRange 64).any (fun x => ringState s x == 5) then s else s.setBt R.RING_HOSTSTAT 3 false
    if ringType s r = 2 then s.offer 0 (anchorGroup s r 1) else s
  else s.setEv (ringOff r RING.STAT) 16

/-- A write of RINGr_CMD (R288): only the lowest set bit acts. -/
def writeRingCmd (s : State) (r : Fin 64) (v : Word) : State :=
  if bit v 0 then abortCmd s r else if bit v 1 then resumeRing s r else if bit v 2 then attachRing s r
  else if bit v 3 then releaseHold s r else s

def execAbort (_ : Agent) (r : Fin 64) (s : State) : Host.Outcome State Fault Refusal := .next (abortCmd s r)
def execResume (_ : Agent) (r : Fin 64) (s : State) : Host.Outcome State Fault Refusal := .next (resumeRing s r)
def execAttach (_ : Agent) (r : Fin 64) (s : State) : Host.Outcome State Fault Refusal := .next (attachRing s r)

/-- A write of RING_SUPLOCKn (R289): the supervisor's alone. -/
def writeSuplock (s : State) (a : Agent) (i : Fin 2) (v : Word) : State :=
  let o := R.RING_SUPLOCK0 + 4 * i.val
  match a with
  | .sup => s.wr o v
  | _ => s.raise FS.RING_CFG (accessDetail a o)

/-! ## The loss and return of the host (R286, R402) -/

/-- A host-owned ring loses its owner (R266, R286). -/
def detachRing (s : State) (r : Fin 64) : State :=
  let st := ringState s r
  if !hostOwned s r || st = 0 || st = 5 then s
  else
    let unpub (s : State) : State :=
      let s := s.updLand (fun l => { l with pool := l.pool.map (fun h => if h.g.ring == r then { h with taken := h.freed } else h) })
      let g := ringGc s r
      let s := if s.gc[g].work == some (r, .block) then setWork s g none else s
      s.updRing r (fun x => { x with blk := none, fetched := [], asked := 0, issued := none,
                                     q := if ringType s r = 4 then x.issued.toList ++ x.q else [] })
    if st = 3 then setRingState ((dropCur (unpub s) r).updRing r (fun x => { x with q := [] })) r 0
    else
      let s := unpub s
      let s := if ownerProduced s r then s.wr (ringOff r RING.HEAD) (s.rdRing r RING.DONE) else s
      let s := (setRingState s r 5).setEv (ringOff r RING.STAT) 20
      let s := clearIrq (s.setBt (ringOff r RING.STAT) 4 false) r
      ringEvent (s.setBt R.RING_HOSTSTAT 3 true) r

/-- The configuration space and the MSI-X table reset (R286): every vector is masked. -/
def resetConfig (s : State) : State :=
  let s := (List.range 0x400).foldl (fun s i => s.setByte (0x200000 + i) (memDefault (0x200000 + i))) s
  { s with pcie := { Pcie.reset with perst := s.pcie.perst, wake := s.pcie.wake, training := s.pcie.training } }

/-- The host is gone (R286): host-owned rings detach, BME reads 0, PERSTEV is set, and configuration space resets. -/
def hostGone (s : State) : State :=
  let s := (s.setBt R.RING_HOSTSTAT 1 false).setEv R.RING_HOSTSTAT 2
  resetConfig ((List.finRange 64).foldl detachRing s)

/-- The host link is lost, or PERST_N falls (R286): LINK reads 0 too, and the level source PCIE_LINK is active (R404). -/
def hostLost (s : State) : State :=
  let s := hostGone (s.setBt R.RING_HOSTSTAT 0 false)
  (s.wr R.PCIE_STAT 0x100).raiseLevel FS.PCIE_LINK

/-- HOST_RESET (R393): as PERST_N, with retraining at once. -/
def execHostReset (s : State) : Host.Outcome State Fault Refusal := .next (hostLost s)

/-- FLR (R405): as HOST_RESET, with the link kept up. -/
def execFlr (s : State) : Host.Outcome State Fault Refusal :=
  .next (if linkUp s then (hostGone s).setFl R.PCIE_STAT 4 5 0 else s)

/-- LINK_DOWN (R286): the link trains again from here. -/
def execLinkDown (s : State) : Host.Outcome State Fault Refusal := .next (if linkUp s then hostLost s else s)

/-- PERST_N falls (R286). -/
def execPerstN (s : State) : Host.Outcome State Fault Refusal :=
  .next ((hostLost (s.updPcie (fun p => { p with perst := true, training := false }))).dropDue (· == .linkTrainingStart))

/-- PERST_N rises (R394): link training starts 1 ms later, or 1 ms after the end of step 5 where that is later. -/
def execPerstNRelease (s : State) : Host.Outcome State Fault Refusal :=
  let was := s.pcie.perst
  let s := s.updPcie (fun p => { p with perst := false })
  .next (if was && s.power.boot = .done then s.afterTicks 400000 .linkTrainingStart else s)

/-- LINK_TRAINING_START (R394). -/
def execLinkTrainingStart (s : State) : Host.Outcome State Fault Refusal :=
  .next (if s.power.boot = .done && !s.pcie.perst then s.updPcie (fun p => { p with training := true }) else s)

/-- LINK_UP (R289): the data link is active, at Gen3 x2 in L0. -/
def execLinkUp (s : State) : Host.Outcome State Fault Refusal :=
  if s.pcie.perst || !s.pcie.training then .next s
  else .next (((s.setBt R.RING_HOSTSTAT 0 true).wr R.PCIE_STAT 0xB).endLevel FS.PCIE_LINK)

/-- Messages deferred while none could be issued are sent (R402, R403). -/
def sendDeferred (s : State) : State :=
  if hostOk s then
    let v := s.pcie.deferred
    (v.foldl (fun s k => { s with out := s.out ++ [.msi k] }) (s.updPcie (fun p => { p with deferred := [], wake := false })))
  else s

/-- The host's traffic takes the link out of L1 (R403); out of L1.2 it ends DOZE (R387). -/
def wakeLink (s : State) : State :=
  let s := if s.pcie.l1 then (s.updPcie (fun p => { p with l1 := false })).setFl R.PCIE_STAT 6 3 0 else s
  if s.fl R.PWR_STAT 0 2 = 1 then s.after 0 .dozeExit else s

/-- Pending vectors that are no longer masked are sent, and leave the Pending Bit Array. -/
def pbaSend (s : State) : State :=
  let free := if s.pcie.fmask then [] else (List.range 64).filter (fun k => s.pcie.pba.testBit k && !vecMasked s k)
  free.foldl (fun s k => issueMsi (s.updPcie (fun p => { p with pba := p.pba ^^^ 2 ^ k })) k) s

/-- CONFIGURATION_WRITE (R402, R403, R309): Bus Master Enable, the D-state, PME_En, the MSI and MSI-X enables, the function mask of
MSI-X, whether L1.1 and L1.2 are enabled, and Relaxed Ordering. -/
def execConfigurationWrite (v : Word) (s : State) : Host.Outcome State Fault Refusal :=
  if !linkUp s then .next s
  else
    let s := wakeLink s
    let d3 := fld v 1 2 == 3
    let sub := if bit v 8 then 2 else if bit v 7 then 1 else 0
    let s := s.updPcie (fun p => { p with bme := bit v 0, d3 := d3, pmeEn := bit v 3, msi := bit v 4, msix := bit v 5, fmask := bit v 6,
                                          l1ss := sub, ro := bit v 9 })
    let s := (s.setBt R.RING_HOSTSTAT 1 (bit v 0)).setFl R.PCIE_STAT 4 2 (if d3 then 3 else 0)
    let s := if d3 then s else s.updPcie (fun p => { p with wake := false })
    .next (sendDeferred (pbaSend s))

end Sys2Proof.Machine
end

