-- ==== Sys2Proof/Machine/Txn.lean ====
section
/-! DEFINITION. Transactions (R314 to R322) as far as their landing, peer rounds (R321, R325, R418), and snapshots (R323 to R325). -/

namespace Sys2Proof.Machine

/-! ## Owners and states (R314) -/

/-- TXNt_STAT.OWNER of an agent (R328): the four banks of an engine count as one. -/
def ownerCode : Agent → Nat
  | .host => 0
  | .sup => 1
  | .bank e _ => 2 + e.val
  | .newel _ => 0
  | .debug => 0

/-- Whether a transaction is OPEN and the agent owns it. -/
def txnOpenFor (s : State) (a : Agent) (t : Fin 8) : Bool := txnState s t == 1 && ownerCode s.txn[t].owner == ownerCode a

/-- The staged writes of a transaction. -/
def stagedOf (s : State) (t : Fin 8) : List Staged := s.staged.filter (fun x => x.txn == t)

/-- Every entry of a transaction returns to the pool. -/
def freeStaged (s : State) (t : Fin 8) : State :=
  let n := (stagedOf s t).length
  let s := { s with staged := s.staged.filter (fun x => x.txn != t) }
  (s.setFl R.TXN_FREE 0 13 (s.fl R.TXN_FREE 0 13 + n)).setFl (txnOff t TXN.STAT) 16 13 0

/-- BEGIN (R314): the status, and the state with the transaction OPEN and the issuer its owner. -/
def beginTxn (s : State) (a : Agent) (t : Fin 8) : Nat × State :=
  if txnState s t = 0 then
    (ST.OK, (s.wr (txnOff t TXN.STAT) (w32 (1 + ownerCode a * 4))).updTxn t (fun _ => { Txn.reset with owner := a }))
  else (ST.TXNSTATE, s)

/-- ROLLBACK (R314): the status, the entries freed, and the state; a pending commit ends with ABORT. -/
def rollbackTxn (s : State) (a : Agent) (t : Fin 8) : Nat × Word × State :=
  if txnState s t != 0 && ownerCode s.txn[t].owner == ownerCode a then
    let n := (stagedOf s t).length
    let s := (freeStaged s t).setFl (txnOff t TXN.STAT) 0 2 0
    let s := endCommit (s.dropDue (· == .landing t)) t ST.ABORT 0
    (ST.OK, w32 n, s)
  else (ST.TXNSTATE, 0, s)

/-! ## Staging (R315, R316) -/

/-- Whether a register is transactable (R315): in one of the regions, and each of its fields RW or RO. -/
def transactable (o : Nat) : Bool :=
  let region := (0x10000 ≤ o && o < 0x16000) || (0xA000 ≤ o && o < 0xB000) || (0x8000 ≤ o && o < 0x9000)
    || (0x30000 ≤ o && o < 0x38000) || (0xC000 ≤ o && o < 0xC800)
  if o % 4 != 0 then false
  else if 0x60000 ≤ o && o < 0xA0000 then true
  else region && (match regRow? o with
    | some r => r.wo == 0 && r.w1c == 0 && r.w1s == 0 && r.rc == 0
    | none => false)

/-- A staged value replaces an earlier one of the same register (R316). -/
def stageOne (t : Fin 8) (xs : List Staged) (w : Nat × Word) : List Staged :=
  if xs.any (fun x => x.txn == t && x.off == w.1) then xs.map (fun x => if x.txn == t && x.off == w.1 then { x with v := w.2 } else x)
  else xs ++ [{ txn := t, off := w.1, v := w.2 }]

/-- A staged write of offsets and values, checked as a whole (R316). -/
def stageWrites (s : State) (a : Agent) (t : Fin 8) (ws : List (Nat × Word)) : Nat × State :=
  if !txnOpenFor s a t then (ST.TXNSTATE, s)
  else if !ws.all (fun w => transactable w.1) then (ST.RANGE, s)
  else if ws.any (fun w => s.staged.any (fun x => x.txn != t && x.off == w.1)) then (ST.CONFLICT, s)
  else
    let xs := ws.foldl (stageOne t) s.staged
    if 4096 < xs.length then (ST.TXNFULL, s)
    else
      let new := xs.length - s.staged.length
      let s := { s with staged := xs }
      (ST.OK, (s.setFl R.TXN_FREE 0 13 (s.fl R.TXN_FREE 0 13 - new)).setFl (txnOff t TXN.STAT) 16 13 (stagedOf s t).length)

/-! ## Commit (R317, R319, R321) -/

/-- PEER_STAT.RINGUP. -/
def ringUp (s : State) : Bool := s.bt R.PEER_STAT 4

/-- This device opens a peer round (R418): its frame goes out in the tick after, and it acts itself at T. -/
def openRound (s : State) (t : Option (Fin 8)) (at' : Nat) : State :=
  let n := s.peer.round
  let h := ownHead s
  let f : PeerFrame := match t with
    | some t => .commit h n t (w32 at')
    | none => .snap h n (w32 at')
  let d : PeerDuty := { at' := at', dev := h.dev, round := n, txn := t }
  let s := { s with peer := { s.peer with round := n + 1, opened := s.peer.opened ++ [(n, t)], duties := s.peer.duties ++ [d] } }
  s.later' 1 (.peerSend f)

/-- A transaction becomes PENDING with a boundary. -/
def makePending (s : State) (t : Fin 8) (ring : Option (Fin 64)) (bound unit at' inst : Nat) : State :=
  (s.setFl (txnOff t TXN.STAT) 0 2 2).updTxn t (fun x =>
    { x with bound := bound, unit := unit, at' := at', servedAt := s.now, ring := ring, inst := inst, tgt := none, convAt := 0 })

/-- COMMIT (R317): refused unless OPEN and its owner's; otherwise PENDING until the boundary, or failed at once. -/
def commitTxn (s : State) (a : Agent) (t : Fin 8) (ring : Option (Fin 64)) : Nat × State :=
  if !txnOpenFor s a t then (ST.TXNSTATE, s)
  else
    let b := s.rd (txnOff t TXN.BOUND)
    let unit := fld b 8 4
    let lo := (s.rd (txnOff t TXN.AT_LO)).toNat
    let tgt := (s.rd (txnOff t TXN.AT_HI)).toNat * 2 ^ 32 + lo
    let tb := s.tb.tb.toNat
    let fail := (ST.TXNFAIL, txnFailed s t)
    match fld b 0 2 with
    | 0 =>
      if bit b 4 then
        if ringUp s then (ST.OK, openRound (makePending s t ring 4 0 (tb + 128) 0) (some t) (tb + 128)) else fail
      else (ST.OK, (makePending s t ring 0 0 0 0).after 1 (.landing t))
    | 1 =>
      if bit b 4 then
        if ringUp s && tb + 128 ≤ tgt then (ST.OK, openRound (makePending s t ring 4 0 tgt 0) (some t) tgt) else fail
      else if tgt ≤ tb then fail
      else (ST.OK, makePending s t ring 1 0 tgt 0)
    | 2 =>
      if 4 ≤ unit then fail
      else
        let n := Fin.ofNat 4 unit
        let a := lo % max 1 (nwlC s n)
        if s.nwl[n].on && s.nwl[n].state == .sync then (ST.OK, makePending s t ring 2 unit a (instNext s n a)) else fail
    | _ =>
      let m := Fin.ofNat 16 unit
      if pgEn s m && s.pg[m].run then (ST.OK, makePending s t ring 3 unit 0 0) else fail

/-- Whether TB has reached the target of a TB-time commit (R317). -/
def timeLands (s : State) (t : Fin 8) : Bool :=
  let x := s.txn[t]
  txnState s t == 2 && x.bound == 1 && decide (x.at' ≤ s.tb.tb.toNat)

/-- Whether a period-end commit lands before the next advance of its group (R317): that advance is a boundary, at least two ticks after
the serving. -/
def periodLands (s : State) (t : Fin 8) : Bool :=
  let x := s.txn[t]
  let m := Fin.ofNat 16 x.unit
  txnState s t == 2 && x.bound == 3 && decide (x.servedAt < s.now) && s.pg[m].cntWr.isNone
    && (match pgAdvance s m with | some adv => adv.bound | none => false)

/-! ## The registers of a transaction (R328) -/

/-- The refusal of a register command or of a TXNt_SVAL write (R320). -/
def txnRefuse (s : State) (a : Agent) (t : Fin 8) (o st : Nat) : State :=
  (s.setFl (txnOff t TXN.STAT) 8 8 st).raise FS.TXN_REFUSED (accessDetail a (txnOff t o))

/-- A register command with its status. -/
def txnAnswer (s : State) (a : Agent) (t : Fin 8) (st : Nat) : State :=
  if st = ST.OK || st = ST.TXNFAIL then s else txnRefuse s a t TXN.CMD st

def beginReg (s : State) (a : Agent) (t : Fin 8) : State := let (st, s) := beginTxn s a t; txnAnswer s a t st
def rollbackReg (s : State) (a : Agent) (t : Fin 8) : State := let (st, _, s) := rollbackTxn s a t; txnAnswer s a t st
def commitReg (s : State) (a : Agent) (t : Fin 8) : State := let (st, s) := commitTxn s a t none; txnAnswer s a t st

/-- A write of TXNt_CMD (R328). -/
def writeTxnCmd (s : State) (a : Agent) (t : Fin 8) (v : Word) : State :=
  match fld v 0 3 with
  | 0 => s
  | 1 => beginReg s a t
  | 2 => rollbackReg s a t
  | 4 => commitReg s a t
  | _ => txnRefuse s a t TXN.CMD ST.BADFIELD

/-- A write of TXNt_SOFS (R328), held per agent; an offset that is no multiple of 4 acts as the one below. -/
def writeSofs (s : State) (a : Agent) (t : Fin 8) (v : Word) : State :=
  let s := s.setLat a (txnOff t TXN.SOFS) (v &&& 0xFFFFC)
  if v &&& 0xFFF00003 = 0 then s else s.rsvd a (txnOff t TXN.SOFS)

/-- A write of TXNt_SVAL (R316, R328): the value is staged at the agent's SOFS, which then rises by 4. -/
def writeSval (s : State) (a : Agent) (t : Fin 8) (v : Word) : State :=
  let o := s.lat? a (txnOff t TXN.SOFS)
  let (st, s) := stageWrites s a t [(o.toNat, v)]
  let s := s.setLat a (txnOff t TXN.SOFS) ((o + 4) &&& 0xFFFFC)
  if st = ST.OK then s else txnRefuse s a t TXN.SVAL st

/-- BEGIN (R314). -/
def execBegin (a : Agent) (t : Fin 8) (s : State) : Host.Outcome State Fault Refusal := .next (beginReg s a t)
/-- ROLLBACK (R314). -/
def execRollback (a : Agent) (t : Fin 8) (s : State) : Host.Outcome State Fault Refusal := .next (rollbackReg s a t)
/-- COMMIT (R317). -/
def execCommit (a : Agent) (t : Fin 8) (s : State) : Host.Outcome State Fault Refusal := .next (commitReg s a t)
/-- SOFS_WRITE (R328). -/
def execSofsWrite (a : Agent) (t : Fin 8) (v : Word) (s : State) : Host.Outcome State Fault Refusal := .next (writeSofs s a t v)
/-- SVAL_WRITE (R316). -/
def execSvalWrite (a : Agent) (t : Fin 8) (v : Word) (s : State) : Host.Outcome State Fault Refusal := .next (writeSval s a t v)

/-- The end of a landing (R318): IDLE, the entries freed, LANDED, TXNt_LAND, and the descriptor that waited. -/
def landed (s : State) (t : Fin 8) : State :=
  let s := (freeStaged s t).setFl (txnOff t TXN.STAT) 0 2 0
  let s := (s.setEv R.TXN_EVT t.val).wr (txnOff t TXN.LAND) s.near
  endCommit s t ST.OK s.near

/-! ## Snapshots (R323 to R325) -/

/-- The origin code of a SNAP by its agent (R324). -/
def snapOrigin : Agent → Nat
  | .host => 0
  | .sup => 1
  | .bank _ _ => 2
  | .newel _ => 2
  | .debug => 0

/-- A strobe at the end of the tick `d` ticks from now. -/
def strobeIn (s : State) (o d : Nat) : State := { s with snap := { s.snap with strobe := s.snap.strobe ++ [(o, s.ticks + d)] } }

/-- The strobes of commands and descriptors that fall at the end of this tick, and those to come later. -/
def strobesNow (s : State) : List (Nat × Nat) := s.snap.strobe.filter (fun x => decide (x.2 ≤ s.ticks))
def strobesLater (s : State) : List (Nat × Nat) := s.snap.strobe.filter (fun x => decide (s.ticks < x.2))

/-- Strobes in one tick make one SNAP (R323): the lowest origin stays. -/
def firstOrigin (xs : List (Nat × Nat)) : Nat := (xs.map (·.1)).foldl min 4

/-- Whether a cascaded channel's lower neighbour lies in the preceding Flight (R65). -/
def snapsLate (s : State) (n : Fin 96) : Bool := n.val % 12 == 0 && n.val != 0 && cntMode s n == 5

/-- A channel latches its count (R65). -/
def snapChannel (s : State) (n : Fin 96) : State := s.wr (chOff n CH.SNAPCNT) (s.rdCh n CH.CNT)

/-- The words of a snapshot (R324). -/
def snapWords (s : State) (seq origin : Nat) : List Word :=
  [w32 (seq + origin * 65536), s.near, w32 (s.tb.tb.toNat / 2 ^ 32), w32 s.fofs]
    ++ (List.finRange 96).map (fun n => s.rdCh n CH.SNAPCNT)
    ++ (List.finRange 16).map (fun m => s.rdPg m PG.CNT)
    ++ [w32 ((List.finRange 16).map (fun m => s.pg[m].down.toNat * 2 ^ m.val + s.pg[m].run.toNat * 2 ^ (16 + m.val))).sum]
    ++ (List.finRange 4).map (fun n => s.rd (nwlOff n NWL.SNAPANG))
    ++ (List.finRange 8).map (fun e => feStat s e)
    ++ (List.range 8).map (fun j =>
        w32 ((laneStat s (Fin.ofNat 16 (2 * j))).toNat % 65536 + (laneStat s (Fin.ofNat 16 (2 * j + 1))).toNat % 65536 * 65536))
    ++ [w32 seq]

/-- A bank of the snapshot area. -/
def setSnapBank (s : State) (b : Bool) (ws : List Word) : State :=
  { s with snap := if b then { s.snap with bankB := ws } else { s.snap with bankA := ws } }

/-- The words of a bank. -/
def snapBank (s : State) (b : Bool) : List Word := if b then s.snap.bankB else s.snap.bankA

/-- Word `i` of the latest bank (R324). -/
def snapRead (s : State) (i : Nat) : Word := (snapBank s s.snap.latestB).getD i 0

/-- The device's state is latched into the bank that does not hold the latest snapshot (R323, R324). -/
def takeSnap (s : State) (origin : Nat) : State :=
  let seq := (s.fl R.SNAP_STAT 0 16 + 1) % 65536
  let b := !s.snap.latestB
  let s := s.setFl R.SNAP_STAT 0 16 seq
  let s := (List.finRange 96).foldl (fun s n => if snapsLate s n then s else snapChannel s n) s
  let s := (List.finRange 4).foldl (fun s n => s.wr (nwlOff n NWL.SNAPANG) (nwlSnapWord s n)) s
  let s := setSnapBank s b (snapWords s seq origin)
  let rs := (s.snap.rings.filter (fun x => decide (x.2 ≤ s.ticks))).map (·.1)
  let reads := rs.filter (fun r => match s.ring[r].cur with | some d => bit (d.ws.getD 1 0) 0 | none => false)
  let s := { s with snap := { s.snap with latestB := b, late := some (s.ticks + 1, b), waiting := none,
                                          rings := s.snap.rings.filter (fun x => decide (s.ticks < x.2)),
                                          copying := s.snap.copying ++ reads.map (fun r => (r, b)) } }
  rs.foldl (fun s r =>
    match s.ring[r].cur with
    | some d =>
      if bit (d.ws.getD 1 0) 0 then s.updRing r (fun x => { x with cur := some { d with result := s.near, moving := true } })
      else endDesc s r ST.OK s.near
    | none => s) s

/-- Cross-Flight cascaded channels latch one tick later, into the same bank (R65). -/
def snapLate (s : State) : State :=
  match s.snap.late with
  | some (x, b) =>
    if x ≤ s.ticks then
      let late := (List.finRange 96).filter (snapsLate s)
      let s := late.foldl snapChannel s
      let ws := late.foldl (fun ws n => ws.set (4 + n.val) (s.rdCh n CH.SNAPCNT)) (snapBank s b)
      let s := setSnapBank s b ws
      { s with snap := { s.snap with late := none } }
    else s
  | none => s

/-- Whether the bank that the next SNAP would overwrite is being copied (R324). -/
def snapBlocked (s : State) : Bool := s.snap.copying.any (fun c => c.2 != s.snap.latestB)

/-- A strobe is taken, or waits for the read-out of its bank (R324). -/
def strobeNow (s : State) (origin : Nat) : State :=
  if snapBlocked s then
    let s := s.satFl R.SNAP_STAT 24 8
    { s with snap := { s.snap with waiting := match s.snap.waiting with | some o => some (min o origin) | none => some origin } }
  else takeSnap s (match s.snap.waiting with | some o => min o origin | none => origin)

/-- Whether a strobe of a command or a descriptor falls at the end of the present tick. -/
def strobeSet (s : State) : Bool := !(strobesNow s).isEmpty

/-- Whether a strobe falls at the end of the present tick: one that is due, or a deferred one whose read-out has ended. -/
def strobeDue (s : State) : Bool := strobeSet s || (s.snap.waiting.isSome && !snapBlocked s)

/-- SNAP_STROBE (R323): the strobe that falls at the end of this tick. -/
def execSnapStrobe (s : State) : Host.Outcome State Fault Refusal :=
  if strobeSet s then .next (strobeNow { s with snap := { s.snap with strobe := strobesLater s } } (firstOrigin (strobesNow s)))
  else match s.snap.waiting with
    | some o => if snapBlocked s then .next s else .next (takeSnap s o)
    | none => .next s

/-- Whether TB has reached an armed timed strobe (R323). -/
def timedDue (s : State) : Bool := match s.snap.timed with | some t => decide (t ≤ s.tb.tb.toNat) | none => false

/-- A peer round closes without an answer from the others: the ring is down (R419). -/
def snapFails (s : State) : State :=
  let own := s.fl R.PEER_STAT 0 2
  ((List.range 4).foldl (fun s d => if d = own then s else s.setEv R.SNAP_STAT (20 + d)) s).setEv R.SNAP_STAT 17

/-- SNAP_CMD with PEER (R325, R418): broadcast at T, 128 ticks after the serving; without a ring it fails here. -/
def peerSnapCmd (s : State) : State :=
  if ringUp s then openRound s none (s.tb.tb.toNat + 128) else snapFails s

/-- PEER_SNAP (R325). -/
def execPeerSnap (s : State) : Host.Outcome State Fault Refusal := .next (peerSnapCmd s)

/-- A write of SNAP_CMD (R323, R328). -/
def writeSnapCmd (s : State) (a : Agent) (v : Word) : State :=
  if !bit v 0 then s
  else if bit v 1 then
    let tgt := (s.rd R.SNAP_AT_HI).toNat * 2 ^ 32 + (s.rd R.SNAP_AT_LO).toNat
    if tgt ≤ s.tb.tb.toNat then
      strobeIn (({ s with snap := { s.snap with timed := none } }).setBt R.SNAP_STAT 16 false) 4 1
    else ({ s with snap := { s.snap with timed := some tgt } }).setBt R.SNAP_STAT 16 true
  else if bit v 2 then peerSnapCmd s
  else strobeIn s (snapOrigin a) 1

/-! ## What this device does at T of a peer round (R321, R325, R418) -/

/-- The duties of a kind that fall in the present tick. -/
def dutiesNow (s : State) (snap : Bool) : List PeerDuty :=
  s.peer.duties.filter (fun d => d.txn.isNone == snap && decide (d.at' ≤ s.tb.tb.toNat))

/-- The duties that the present tick does not end. -/
def dropDuties (s : State) (ds : List PeerDuty) : State :=
  { s with peer := { s.peer with duties := s.peer.duties.filter (fun d => !ds.contains d) } }

/-- The STATUS frame that the initiator sends at T (R418). -/
def sendStatus (s : State) (d : PeerDuty) (acted : Bool) : State :=
  if d.dev == (ownHead s).dev then
    peerSend s (.status (ownHead s) d.round (BitVec.ofNat 4 (if acted then 2 ^ d.dev.val else 0)))
  else s

/-- The device has acted at T of a round. -/
def noteActed (s : State) (d : PeerDuty) : State := { s with peer := { s.peer with acted := s.peer.acted ++ [(d.dev, d.round)] } }

/-- A peer commit at its T (R321): the initiator lands its pending transaction in every case, and its STATUS frame (R418) goes out even if
that has gone; another device lands its own when it is OPEN with PEERRX. -/
def commitDuty (s : State) (d : PeerDuty) : State :=
  match d.txn with
  | some t =>
    if d.dev == (ownHead s).dev then
      if txnState s t = 2 && s.txn[t].bound = 4 then sendStatus (noteActed (s.after 0 (.landing t)) d) d true
      else sendStatus s d false
    else if txnState s t = 1 && s.bt (txnOff t TXN.BOUND) 5 then
      noteActed ((makePending s t none 4 0 0 0).after 0 (.landing t)) d
    else s
  | none => s

/-- The peer commits whose T has come. -/
def commitDuties (s : State) : State :=
  let ds := dutiesNow s false
  ds.foldl commitDuty (dropDuties s ds)

/-- TIMED_SNAP (R323): the SNAP of an armed strobe whose TB has come; another strobe of this tick takes it with its own. -/
def execTimedSnap (s : State) : Host.Outcome State Fault Refusal :=
  if timedDue s then
    let s := (s.setBt R.SNAP_STAT 16 false)
    let s := { s with snap := { s.snap with timed := none } }
    .next (if strobeSet s || !(dutiesNow s true).isEmpty then strobeIn s 4 0 else strobeNow s 4)
  else .next s

/-- PEER_SNAP_LATCH (R325): the peer SNAPs whose T has come are taken; one that has to wait has not acted at T. -/
def execPeerSnapLatch (s : State) : Host.Outcome State Fault Refusal :=
  let ds := dutiesNow s true
  if ds.isEmpty then .next s
  else
    let ok := !snapBlocked s
    let s := dropDuties s ds
    let s := ds.foldl (fun s d => sendStatus (if ok then noteActed s d else s) d ok) s
    .next (if strobeSet s then strobeIn s 3 0 else strobeNow s 3)

end Sys2Proof.Machine
end

