-- ==== Sys2Proof/Machine/Background.lean ====
section
/-! DEFINITION. The Vestibule's evaluation (R353, R357, R359), background work (R358 to R361), self-test and recalibration on request
(R362, R363), telemetry (R364) and the temperature sensors (R365). -/

namespace Sys2Proof.Machine

/-- Background work with `f` applied. -/
def State.updBg (s : State) (f : Bg → Bg) : State := { s with bg := f s.bg }

/-- The calibration state of a Flight with `f` applied. -/
def State.updCal (s : State) (fl : Fin 8) (f : Calib → Calib) : State := s.updBg (fun b => { b with cal := b.cal.set fl (f b.cal[fl]) })

/-! ## Self-test and recalibration on request (R362, R363) -/

/-- BG_STAT.STATE and RESULT. -/
def bgState (s : State) : Nat := s.fl R.BG_STAT 0 2
def setBgState (s : State) (v : Nat) : State := s.setFl R.BG_STAT 0 2 v
def bgResult (s : State) (v : Nat) : State := s.setFl R.BG_STAT 4 4 v

/-- Whether a target belongs to the operation (R362). -/
def bgTargetOk (op t : Nat) : Bool :=
  if op = 1 then t ≤ 12 || (16 ≤ t && t ≤ 35) else 64 ≤ t && t ≤ 71

/-- Whether an engine is stopped. -/
def feStopped (s : State) (e : Fin 8) : Bool := !feRun s e && !feStopping s e

/-- Whether a target is idle (R362). -/
def bgIdle (s : State) (t : Nat) : Bool :=
  let allStopped := (List.finRange 8).all (feStopped s)
  if t < 8 then (let e := Fin.ofNat 8 t; feStopped s e && !feHalted s e)
  else if t = 8 then allStopped
  else if t = 9 then allStopped && (List.finRange 16).all (fun g => s.gc[g].work.isNone)
  else if t = 10 then (List.finRange 64).all (fun r => ringType s r != 2 || !ringEn s r) && landOcc s == 0
  else if t = 11 then (List.finRange 64).all (fun r => hostOwned s r || !ringEn s r)
  else if t = 12 then (List.finRange 8).all (fun x => txnState s x == 0)
  else if 16 ≤ t && t < 32 then
    let g := Fin.ofNat 16 (t - 16)
    s.gc[g].work.isNone && (List.finRange 64).all (fun r => !ringEn s r || ringGc s r != g)
  else if 32 ≤ t && t < 36 then !nwlEn s (Fin.ofNat 4 (t - 32))
  else
    let c := s.bg.cal[Fin.ofNat 8 (t - 64)]
    c.ends.isNone && c.swapBy.isNone

/-- An idle target asks the Vestibule for leave (R362, R351). -/
def bgAsk (s : State) : State :=
  let t := s.bg.target
  let s := setBgState s 2
  if t < 64 then request s (.selfTest t) 20 else request s (.recal (Fin.ofNat 8 (t - 64))) 6

/-- BG_REQ with OP 0b00 (R362): a deferred or queued request ends with CANCEL. -/
def bgCancelCmd (s : State) : State :=
  if bgState s = 1 || bgState s = 2 then
    bgResult (setBgState (withdrawReq s (fun k => match k with | .selfTest _ | .recal _ => true | _ => false)) 0) 7
  else s

/-- A request of BG_REQ (R362). -/
def bgRequest (s : State) (op t : Nat) (defer : Bool) : State :=
  if bgState s != 0 then bgResult s 3
  else if !bgTargetOk op t then bgResult s 5
  else
    let s := (bgResult s 0).updBg (fun b => { b with target := t, defer := defer })
    if bgIdle s t then bgAsk s
    else if defer then setBgState s 1
    else bgResult s 3

/-- A write of BG_REQ (R372). -/
def writeBgReq (s : State) (v : Word) : State :=
  let op := fld v 0 2
  if op = 1 || op = 2 then bgRequest s op (fld v 8 7) (bit v 2) else bgCancelCmd s

/-- SELF_TEST (R362). -/
def execSelfTest (_ : Agent) (v : Word) (s : State) : Host.Outcome State Fault Refusal :=
  .next (writeBgReq s (setFld v 0 2 1))
/-- RECALIBRATE (R362). -/
def execRecalibrate (_ : Agent) (v : Word) (s : State) : Host.Outcome State Fault Refusal :=
  .next (writeBgReq s (setFld v 0 2 2))
/-- BG_CANCEL (R362). -/
def execBgCancel (s : State) : Host.Outcome State Fault Refusal := .next (bgCancelCmd s)

/-- The RAM windows from `lo` up to `hi` become zero. -/
def zeroMem (s : State) (lo hi : Nat) : State := { s with mem := s.mem.filter (fun c => !(decide (lo ≤ c.1) && decide (c.1 < hi))) }

/-- The bank of a self-test is left with every word zero (R363). -/
def zeroBank (s : State) (t : Nat) : State :=
  if t < 8 then zeroMem s (0xA0000 + t * 0x8000) (0xA8000 + t * 0x8000)
  else if t = 8 then zeroMem s 0x40000 0x60000
  else if t = 9 then zeroMem s 0x60000 0xA0000
  else if t = 10 then s.updLand (fun l => { l with recent := [] })
  else if t = 11 then zeroMem s 0x18000 0x20000
  else if 32 ≤ t && t < 36 then
    let lo := 0x30000 + (t - 32) * 0x2000
    { s with regs := s.regs.filter (fun c => !(decide (lo ≤ c.1) && decide (c.1 < lo + 0x2000))) }
  else s

/-- SELF_TEST_END (R363): PASS, or FAIL with the first failing offset and SEVERE BIST_FAIL. -/
def execSelfTestEnd (pass : Bool) (ofs : BitVec 20) (s : State) : Host.Outcome State Fault Refusal :=
  if bgState s = 3 && s.bg.target < 64 then
    let s := zeroBank s s.bg.target
    let s := endGrant (setBgState s 0) (fun k => match k with | .selfTest _ => true | _ => false)
    .next (if pass then bgResult s 1 else ((bgResult s 2).wr R.BG_FAIL (ofs.setWidth 32)).raise FS.BIST_FAIL)
  else .next s

/-! ## Delay-line calibration (R98, R361) -/

/-- The channel whose line a Flight's rotation is at, or none for the SYNC_IN line of F0. -/
def calChannel (s : State) (fl : Fin 8) : Option (Fin 96) :=
  let p := s.bg.cal[fl].pos
  if p < 12 then some (Fin.ofNat 96 (12 * fl.val + p)) else none

/-- The next position of a Flight's rotation: 13 in F0, 12 elsewhere. -/
def calNext (fl : Fin 8) (p : Nat) : Nat := (p + 1) % (if fl.val = 0 then 13 else 12)

/-- A Flight's turn begins (R361): its spare is calibrated for 400 µs. While background work pauses, the turn waits (R359). -/
def calStart (s : State) (fl : Fin 8) : State :=
  let c := s.bg.cal[fl]
  if c.ends.isSome || c.swapBy.isSome then s
  else if s.vest.paused then s.updCal fl (fun c => { c with due := true })
  else s.updCal fl (fun c => { c with due := false, ends := some (s.ticks + 160000) })

/-- A recalibration that BG_REQ asked for ends with a result (R363). -/
def calForcedEnd (s : State) (fl : Fin 8) (res : Nat) : State :=
  if s.bg.cal[fl].forced then
    let s := s.updCal fl (fun c => { c with forced := false })
    if bgState s = 3 && s.bg.target = 64 + fl.val then bgResult (setBgState s 0) res else s
  else s

/-- CALIBRATION_TURN (R361): the calibration of a Flight's spare ends, and it waits for a quiet tick; or it fails, and the channel keeps its
line. -/
def execCalibrationTurn (fl : Fin 8) (ok : Bool) (s : State) : Host.Outcome State Fault Refusal :=
  if s.bg.cal[fl].swapBy.isSome then .next s
  else
    let s := (s.updVest (fun v => { v with bg := true })).updCal fl (fun c => { c with ends := none })
    if ok then .next (s.updCal fl (fun c => { c with swapBy := some (s.ticks + 40000) }))
    else .next (calForcedEnd ((s.satFl R.CAL_CNT 16 16).raise FS.CAL_FAIL) fl 6)

/-- Whether the tick two before the present one was quiet for the channel of a waiting swap, with two ticks on either side (R98). -/
def swapQuiet (s : State) (fl : Fin 8) : Bool :=
  match calChannel s fl with
  | some n => decide (s.ch[n].edgeAt + 4 < s.ticks)
  | none => true

/-- DELAY_LINE_SWAP (R98, R361). -/
def execDelayLineSwap (fl : Fin 8) (s : State) : Host.Outcome State Fault Refusal :=
  if s.bg.cal[fl].swapBy.isSome && swapQuiet s fl then
    let p := s.bg.cal[fl].pos
    let s := s.wr R.CAL_STAT (w32 (fl.val + p * 16))
    let s := s.updCal fl (fun c => { c with swapBy := none, pos := calNext fl p })
    .next (calForcedEnd (s.updVest (fun v => { v with bg := true })) fl 1)
  else .next s

/-- SWAP_SKIP (R98, R361): the 100 µs have passed without a quiet tick. -/
def execSwapSkip (fl : Fin 8) (s : State) : Host.Outcome State Fault Refusal :=
  match s.bg.cal[fl].swapBy with
  | some t =>
    if t ≤ s.ticks then
      .next (((s.updCal fl (fun c => { c with swapBy := none })).satFl R.CAL_CNT 0 16).raise FS.CAL_SKIP)
    else .next s
  | none => .next s

/-! ## The scrubber (R360) -/

/-- The memories by the numbers of DETAIL (R346), and the sources of their uncorrectable errors (R347). -/
def eccSource (mem : Fin 10) (off : Nat) : Nat :=
  match mem with
  | 0 => FS.ECC_CODE
  | 1 => FS.ECC_CODE + 1
  | 2 => FS.ECC_LOCAL + off / 0x8000 % 8
  | 3 => FS.ECC_CODE + 2
  | 4 => FS.ECC_CODE + 3
  | 5 => FS.ECC_CODE + 4
  | 6 => FS.ECC_CODE + 5
  | 7 => FS.ECC_CODE + 6
  | 8 => FS.ECC_CODE + 7
  | 9 => FS.CHEST_UNC

/-- DETAIL of a failed read (R346): the byte offset in the memory, the memory, and the engine: of a local RAM its own, else the
requester. The scrubber is no engine (R360). -/
def eccDetail (mem : Fin 10) (off : Nat) (q : Requester) : Word :=
  let m := mem.val * 2 ^ 20
  if mem = 2 then w32 (off % 0x8000 + m + off / 0x8000 % 8 * 2 ^ 24 + if q = .scrub then 0 else 2 ^ 27)
  else match q with
    | .engine e => w32 (off % 2 ^ 20 + m + e.val * 2 ^ 24 + 2 ^ 27)
    | _ => w32 (off % 2 ^ 20 + m)

/-- Whether the 2 s of a pass are over: the next one is due (R360). -/
def scrubDue (s : State) : Bool := !s.bg.scrubLate && decide (s.bg.scrubAt + 800000000 ≤ s.ticks)

/-- SCRUB_PASS (R360): a pass starts; one that has not ended is late, and is finished first. -/
def execScrubPass (s : State) : Host.Outcome State Fault Refusal :=
  if s.bg.scrubOn then .next (if scrubDue s then (s.updBg (fun b => { b with scrubLate := true })).raise FS.SCRUB_LATE else s)
  else .next (s.updBg (fun b => { b with scrubOn := true, scrubAt := s.ticks }))

/-- The words with a single-bit error that a pass has corrected each raise ECC_COR (R360); which they are is free. -/
def scrubFixes (s : State) : State :=
  (Config.scrubErrors s.free).foldl (fun s x => s.raise FS.ECC_COR (eccDetail x.1 x.2 .scrub)) { s with free := s.free + 1 }

/-- SCRUB_PASS_END (R360): SCRUB_STAT and the corrections; after an overrun the next pass starts at once. A pass that pauses does not end
(R359). -/
def execScrubPassEnd (s : State) : Host.Outcome State Fault Refusal :=
  if s.bg.scrubOn && !s.vest.paused then
    let s := scrubFixes s
    let s := s.setFl R.SCRUB_STAT 0 16 (min 65535 ((s.ticks - s.bg.scrubAt) / 400000))
    let s := s.setFl R.SCRUB_STAT 16 16 (s.fl R.SCRUB_STAT 16 16 + 1)
    .next (s.updBg (fun b => { b with scrubOn := b.scrubLate, scrubAt := s.ticks, scrubLate := false }))
  else .next s

/-! ## The evaluation (R353, R354, R357, R359) -/

/-- The window's length in ticks: 400, or in DOZE the TB advance of the LCLK edge. -/
def evalSpan (s : State) : Nat := if s.fl R.PWR_STAT 0 2 == 1 then max 1 (s.tb.tb.toNat - s.vest.lastTb) else 400

/-- Whether a background task worked in the window. -/
def bgWorked (s : State) : Bool :=
  s.vest.bg || (s.bg.scrubOn && !s.vest.paused) || (List.finRange 8).any (fun fl => s.bg.cal[fl].ends.isSome)

/-- The foreground estimate F (R353). -/
def foreground (s : State) : Nat :=
  let w := evalSpan s
  let core := if s.bt R.CLK_STAT 0 then 180 else 8
  core + ((List.finRange 8).map (fun e => 28 * s.eng[e].win / w)).sum + 64 * s.vest.beats / w
    + min 48 (s.vest.edges * 400 / (8 * w)) + (if bgWorked s then 12 else 0)

/-- The counts of the window start again. -/
def newWindow (s : State) : State :=
  let s := s.updVest (fun v => { v with beats := 0, edges := 0, bg := false, lastTb := s.tb.tb.toNat })
  { s with eng := s.eng.map (fun x => { x with win := 0 }) }

/-- EVALUATION (R353, R354): F, ended grants, the queue and the waiting bursts, the deferred request, and the pause of background work. -/
def execEvaluation (s : State) : Host.Outcome State Fault Refusal :=
  let f := min 4095 (foreground s)
  let s := expireGrants (s.setFl R.VEST_STAT 0 12 f)
  let above := decide (vestBudget s < f)
  let s := if above && !s.vest.overBudget then (s.setEv R.VEST_EVT 1).raise FS.VEST_OVER else s
  let s := if vestRefusing s then startRefusing s else serveBursts (serveQueue 8 s)
  let fg := f + vestG s
  let s := s.note R.VEST_PEAK (fun w => setFld w 0 12 (max (fld w 0 12) (min 4095 fg)))
  let s := s.updVest (fun v => { v with telF := max v.telF f, telFG := max v.telFG (min 4095 fg), overBudget := above, paused := decide (vestBudget s < fg) })
  let s := if bgState s = 1 && bgIdle s s.bg.target then bgAsk s else s
  .next (newWindow s)

/-! ## Temperature and telemetry (R364, R365) -/

/-- The four sensors, signed, in units of 0.25 °C. -/
def sensors (s : State) : List Int :=
  let a := (s.rd R.TEL_TEMP01).toNat
  let b := (s.rd R.TEL_TEMP23).toNat
  [sext 16 a, sext 16 (a / 65536), sext 16 b, sext 16 (b / 65536)]

/-- A temperature level against its threshold (R365): active from the threshold on, inactive 2 °C below. -/
def tempLevel (s : State) (src : Nat) (thr : Int) : State :=
  let hot := (sensors s).zipIdx.filter (fun x => decide (thr ≤ x.1))
  match hot with
  | (_, k) :: _ => s.raiseLevel src (w32 k)
  | [] => if (sensors s).all (fun x => decide (x ≤ thr - 8)) then s.endLevel src else s

/-- TEMP_MEASURE (R365): the sensors are measured, and TEMP_WARN and TEMP_CRIT follow. -/
def execTempMeasure (t01 t23 : Word) (s : State) : Host.Outcome State Fault Refusal :=
  let s := (s.wr R.TEL_TEMP01 t01).wr R.TEL_TEMP23 t23
  let thr := s.rd R.TEL_THR
  let s := tempLevel s FS.TEMP_WARN (sext 16 thr.toNat)
  .next (startRefusing (tempLevel s FS.TEMP_CRIT (sext 16 (thr.toNat / 65536))))

/-- The rings of TEL_RMASK0 and TEL_RMASK1, ascending. -/
def telRings (s : State) : List (Fin 64) := (List.finRange 64).filter (fun r => s.bt (R.TEL_RMASK0 + 4 * (r.val / 32)) (r.val % 32))

/-- The occupancy of a ring (R262). -/
def ringOccupancy (s : State) (r : Fin 64) : Nat :=
  if ownerProduced s r then (s.rdRing r RING.TAIL - s.rdRing r RING.DONE).toNat else deviceOcc s r

/-- Four bytes as a word, the first lowest. -/
def bytesWord (bs : List Nat) : Word := w32 (bs.getD 0 0 + bs.getD 1 0 * 2 ^ 8 + bs.getD 2 0 * 2 ^ 16 + bs.getD 3 0 * 2 ^ 24)

/-- A part of a telemetry sample (R364). -/
def telPart (s : State) (part npart cycles : Nat) (rings : List Nat) : List Word :=
  let head := w32 (part + npart * 256 + s.fl R.TEL_STAT 0 16 * 65536)
  let load (e : Fin 8) : Nat := min 255 (256 * s.eng[e].tel / max 1 cycles)
  let loads := (List.finRange 8).map load
  if part = 0 then
    [head, s.rd R.TEL_TEMP01, s.rd R.TEL_TEMP23, s.rd R.TEL_SUP0, s.rd R.TEL_SUP1, s.rd R.TEL_SUP2]
  else if part = 1 then
    [head, bytesWord loads, bytesWord (loads.drop 4), w32 (landOcc s), w32 s.vest.telLand, w32 (s.vest.telF + s.vest.telFG * 4096)]
  else
    let bs := rings.drop (20 * (part - 2))
    head :: (List.range 5).map (fun i => bytesWord ((bs.drop (4 * i)).take 4))

/-- The supplies averaged over the period: what the monitors measured, which no command brings. -/
def telSupplies (s : State) : State :=
  let (a, s) := s.fresh
  let (b, s) := s.fresh
  let (c, s) := s.fresh
  ((s.wr R.TEL_SUP0 a).wr R.TEL_SUP1 b).wr R.TEL_SUP2 (c &&& 0xFFFF)

/-- TELEMETRY_SAMPLE (R364): the sample's parts are written into the telemetry ring, or it counts as lost; its period starts again. -/
def execTelemetrySample (s : State) : Host.Outcome State Fault Refusal :=
  if !s.bt R.TEL_CTRL 0 then .next s
  else
    let s := telSupplies s
    let r := Fin.ofNat 64 (s.fl R.TEL_CTRL 8 6)
    let rs := telRings s
    let npart := 2 + (rs.length + 19) / 20
    let occ := rs.map (fun r => min 255 (256 * ringOccupancy s r / ringN s r))
    let cycles := s.ticks - s.vest.telAt
    let parts := (List.range npart).map (fun p => telPart s p npart cycles occ)
    let s := if evtEnabled s r then parts.foldl (fun s ws => evtPost s r 2 s.near ws) s
      else (s.satFl R.TEL_LOST 0 16).raise FS.TELEM_LOST
    let s := s.setFl R.TEL_STAT 0 16 (s.fl R.TEL_STAT 0 16 + 1)
    let s := s.updVest (fun v => { v with telF := 0, telFG := 0, telLand := landOcc s, telAt := s.ticks })
    .next { s with eng := s.eng.map (fun x => { x with tel := 0 }) }

end Sys2Proof.Machine
end

