-- ==== Sys2Proof/Machine/Power.lean ====
section
/-! DEFINITION. Supplies and dips (R376 to R380), the last-gasp snapshot (R381 to R384), the power modes (R385 to R390) and the
resets (R391 to R393). The boot sequence is in Boot. -/

namespace Sys2Proof.Machine

/-- The power state with `f` applied. -/
def State.updPower (s : State) (f : Power → Power) : State := { s with power := f s.power }

/-- PWR_STAT.MODE: 0 RUN, 1 DOZE, 2 DOZE entry awaited, 3 DORMANT entry in progress. -/
def pwrMode (s : State) : Nat := s.fl R.PWR_STAT 0 2

/-- Whether the core works: it is not held in reset (R388, R394). -/
def coreOn (s : State) : Bool := s.power.boot != .held && !s.power.dormant

/-- The state with MODE set. -/
def setMode (s : State) (m : Nat) : State := s.setFl R.PWR_STAT 0 2 m

/-- A bit of PWR_EVT is set. -/
def pwrEvt (s : State) (b : Nat) : State := s.setEv R.PWR_EVT b

/-! ## The boot-sequence resets (R391, R392) -/

/-- The Lobby's registers: what R392 keeps beside TB. -/
def lobbyReg (o : Nat) : Bool :=
  o == R.CLK_CTRL || o == R.LCLK_TRIM || o == R.TB_LSTEP || o == R.RST_CAUSE || (0x140 ≤ o && o < 0x200)

/-- A boot-sequence reset (R391, R392): every register at its reset value but those that R392 keeps; TB and the Lobby's registers too with
`lobby`. The Chest, what has been sent to the host and the pins' levels outside the device remain. The core is held until VDD good. -/
def coreReset (s : State) (lobby : Bool) : State :=
  let keep (o : Nat) : Bool :=
    o == R.RST_CAUSE || o == R.CHEST_WEAR || o == R.CHEST_MOVES || o == R.FLT_PLOGSTAT || (!lobby && lobbyReg o)
  let z := State.reset
  let fatal := s.bt R.FLT_STAT 2
  let z : State := { z with
    pending := s.pending, ticks := s.ticks, free := s.free, out := s.out, rdHost := s.rdHost, rdSup := s.rdSup, rdDebug := s.rdDebug
    regs := s.regs.filter (fun c => keep c.1), chest := s.chest
    tb := if lobby then { Tb.reset with lclkAt := s.tb.lclkAt, lclkFrac := s.tb.lclkFrac, syncPin := s.tb.syncPin }
      else { Tb.reset with tb := s.tb.tb, prev := s.tb.prev, frac := s.tb.frac, lclkAt := s.tb.lclkAt, lclkFrac := s.tb.lclkFrac,
                           syncPin := s.tb.syncPin }
    chestCtl := { s.chestCtl with op := none, begun := false, cut := false, tries := 0, errs := [] }
    pcie := { Pcie.reset with perst := s.pcie.perst }
    patch := { Patch.reset with fuses := s.patch.fuses }
    bg := { Bg.reset with scrubAt := s.ticks }
    power := { Power.reset with pfail := s.power.pfail, taken := s.power.taken, wtSkip := if lobby then [] else s.power.wtSkip } }
  let z := (z.setFl R.FLT_PLOGSTAT 24 8 0).setBt R.FLT_STAT 2 fatal
  -- X32OK follows the oscillator (R32).
  let z := z.setBt R.CLK_STAT 2 (!lobby && s.bt R.CLK_STAT 2)
  -- An interrupted fuse step reads either programmed or not (R257).
  if s.patch.fusing then
    let (w, z) := z.fresh
    { z with patch := { z.patch with fuses := z.patch.fuses + (bit w 0).toNat } }
  else z

/-- POWER_ON_RESET (R391): RST_CAUSE.POR, every other cause clear. -/
def execPowerOnReset (s : State) : Host.Outcome State Fault Refusal := .next ((coreReset s true).wr R.RST_CAUSE 1)

/-- RESET_N low (R391). -/
def execResetN (s : State) : Host.Outcome State Fault Refusal := .next ((coreReset s true).setBt R.RST_CAUSE 1 true)

/-- FAULT_RESET (R339, R391). -/
def execFaultReset (s : State) : Host.Outcome State Fault Refusal :=
  .next (((coreReset s false).setBt R.RST_CAUSE 4 true).setBt R.FLT_STAT 2 true)

/-- Whether the monitor of supply `k` (R346: 0 VDD, 1 to 3 the VIO banks) acts in the core (R376). -/
def monitored (s : State) (k : Fin 5) : Bool :=
  s.power.boot != .held
    && (k == 0 || (k.val ≤ 3 && s.bt R.PWR_STAT (7 + k.val) && s.bt R.PWR_CTRL (k.val - 1)))

/-- SUPPLY_RESET (R377, R380): VAON takes a power-on reset, VDD and a present, monitored bank a supply reset. In DORMANT a VDD below its
level is noted, for the wake of R389. -/
def execSupplyReset (k : Fin 5) (s : State) : Host.Outcome State Fault Refusal :=
  if k = 4 then execPowerOnReset s
  else if s.power.dormant then .next (if k = 0 then s.updPower (fun p => { p with vddFell := true }) else s)
  else if monitored s k then .next ((coreReset s false).setBt R.RST_CAUSE (if k = 0 then 2 else 3) true)
  else .next s

/-! ## The last-gasp snapshot (R381 to R384) -/

/-- Whether any supply is in a dip. -/
def dipping (s : State) : Bool := s.power.dips.toList.any (·.isSome)

/-- Whether the header of a recovered snapshot is still to be rewritten (R384). -/
def rewriteDue (s : State) : Bool := s.later.any (fun x => x.2 == .lgsRecovered)

/-- PWR_STAT.ARMED as it stands, and triggers act again once every warning has cleared and PFAIL_N is high (R381). -/
def setArmed (s : State) : State :=
  let calm := !dipping s && !s.power.pfail
  let s := s.setBt R.PWR_STAT 11 (!calm || s.power.lgs.isSome || rewriteDue s)
  if calm then s.updPower (fun p => { p with barred := false }) else s

/-- The Chest is armed (R381): a running burst ends at its present row. -/
def arm (s : State) : State :=
  setArmed (s.updChest (fun c => { c with cut := match c.op with | some (.write _ _ _) => c.begun | _ => false }))

/-- Words and zeros up to `n` words. -/
def padTo (n : Nat) (ws : List Word) : List Word := ws ++ List.replicate (n - ws.length) 0

/-- Entries that the pool holds among the 4 096 that entered last. -/
def heldRecent (s : State) : Nat :=
  (s.land.pool.map (fun h => h.no + groupSize h.g - max (h.no + h.freed) (s.land.total - 4096))).sum

/-- The capture entries that a snapshot takes (R382): all of the last 4 096 while the pool holds at most 61 440 others. -/
def lgsCount (s : State) : Nat := min s.land.recent.length (65536 - (landOcc s - heldRecent s))

/-- The content of the snapshot area from 0x0200 on (R383). -/
def lgsContent (s : State) : List Word :=
  let ch (n : Fin 96) : List Word :=
    [CH.CTRL, CH.CNT, CH.PERIOD_ACT, CH.CMPA_ACT, CH.CMPB_ACT, CH.CMPC_ACT, CH.CMPD_ACT, CH.CMPFINE_ACT, CH.EPOCH].map (s.rdCh n)
      ++ [chStat s n, chAqStat s n, chAqHead s n] ++ [CH.CAPA, CH.CAPINFO, CH.EDGECNT, CH.EVT].map (s.rdCh n)
  let pg (m : Fin 16) : List Word :=
    [s.rdPg m PG.CTRL, s.rdPg m PG.CNT, s.rdPg m PG.PERIOD_ACT, pgStat s m, s.rdPg m PG.EPOCH, pgTripstat s m, s.rdPg m PG.EVT, 0]
  let nwl (n : Fin 4) : List Word :=
    padTo 64 ([nwlStateWord s n, nwlAngleWord s n]
      ++ [NWL.TOOTHT, NWL.TOOTHINFO, NWL.PERIOD, NWL.PRED, NWL.RATIO, NWL.REVCNT].map (fun o => s.rd (nwlOff n o))
      ++ [evStat s n, s.rd (nwlOff n NWL.EVCNT)])
  let fe (e : Fin 8) : List Word := padTo 16 [feStat s e, s.rd (feOff e FE.EVT), s.rd (feOff e FE.BUSY)]
  let flt := padTo 128 (fltStat s :: (List.range 4).map (fun i => s.rd (R.FLT_FIRST_W + 4 * i))
      ++ (List.range 8).map (fun i => s.rd (R.FLT_SAME + 4 * i)) ++ (List.range 8).map (fun i => s.rd (R.FLT_PEND + 4 * i)))
  let log := (List.range 256).map (fun i => s.rd (R.FLT_LOG + 4 * i))
  let life := (List.range 64).map (fun i => s.rd (R.LIFE_SECS + 4 * i))
  let caps := ((s.land.recent.take (lgsCount s)).reverse).flatMap (fun (v : BitVec 64) => [v.setWidth 32, (v >>> 32).setWidth 32])
  (List.finRange 96).flatMap ch ++ (List.finRange 16).flatMap pg ++ (List.finRange 4).flatMap nwl ++ (List.finRange 8).flatMap fe
    ++ flt ++ log ++ life ++ padTo 8192 caps

/-- LGS_STAT of a snapshot taken now: VALID, the trigger and the entries held. -/
def lgsHead (s : State) (trig : Nat) : Word := w32 (1 + trig * 4 + lgsCount s * 256)

/-- The snapshot area of the Chest (R383). -/
abbrev lgsArea : Nat := 0x24000

/-- The heartbeat timer starts over (R411): TMO × 10 µs. -/
def hbRestart (s : State) : State :=
  { s with ports := { s.ports with hbAt := some (s.ticks + 4000 * max 1 (s.fl R.SUP_HB_CTRL 16 16)) } }

/-- DOZE ends (R387): MODE becomes RUN and the PLL restarts at once, with a grant (R351), or once the Vestibule no longer refuses. A
last-gasp trigger does not wait (R355). -/
def leaveDoze (s : State) (lgs : Bool) : State :=
  if pwrMode s != 1 then s
  else
    let s := pwrEvt (setMode s 0) 4
    let s := if s.bt R.SUP_HB_CTRL 0 && s.bt R.SUP_HB_CTRL 1 then hbRestart s else s
    if vestRefusing s && !lgs then s.updPower (fun p => { p with exitWaits := true })
    else grant s .dozeExit 100

/-- A trigger of the last-gasp snapshot (R381, R382): with LGSEN = 1, none running and none completed since, the state is latched, the
header is invalidated, and DOZE ends. An entry into DORMANT is abandoned (R388). -/
def lgsTrigger (s : State) (trig : Nat) : State :=
  if !s.bt R.PWR_CTRL 4 || s.power.lgs.isSome || s.power.barred then s
  else
    let s := if pwrMode s = 3 then pwrEvt (setMode s 0) 5 else s
    let dozing := pwrMode s == 1
    let ws := [lgsHead s trig, s.near, w32 (s.tb.tb.toNat / 2 ^ 32), s.rd R.LIFE_BOOTS] ++ lgsContent s
    let s := (s.setChestWord lgsArea 0).setBt R.PWR_STAT 12 true
    let s := s.updPower (fun p => { p with lgs := some ws, trig := trig, recovered := false,
                                           dips := p.dips.map (fun d => d.map (fun d => { d with lgs := true })) })
    arm ((leaveDoze s true).afterTicks (if dozing then 42800 else 34800) .lgsDone)

/-- Words written into the Chest from an address on, their rows counted. -/
def chestWords (s : State) (addr : Nat) (ws : List Word) : State :=
  let s := ws.zipIdx.foldl (fun s w => s.setChestWord (addr + 4 * w.2) w.1) s
  (List.range ((ws.length + 15) / 16)).foldl (fun s i => programRow s (addr + 64 * i) 8) s

/-- The dip that triggered a snapshot has recovered: the header is rewritten 1 µs later (R384). -/
def lgsRewrite (s : State) : State := s.laterTicks 400 .lgsRecovered

/-- LGS_DONE (R382, R383): the content, and then the header with VALID = 1, stand in the Chest; no trigger acts again until every warning has
cleared. -/
def execLgsDone (s : State) : Host.Outcome State Fault Refusal :=
  match s.power.lgs with
  | none => .next s
  | some ws =>
    let n := s.power.taken + 1
    let s := chestWords s (lgsArea + 0x200) (ws.drop 4)
    let s := chestWords s lgsArea ([0x4853474C] ++ ws.take 4 ++ [w32 n])
    let s := ((s.wr R.LGS_STAT (ws.getD 0 0)).wr R.LGS_TB_LO (ws.getD 1 0)).wr R.LGS_TB_HI (ws.getD 2 0)
    let s := (pwrEvt s 1).setBt R.PWR_STAT 12 false
    let s := s.updPower (fun p => { p with lgs := none, taken := n, barred := true })
    .next (setArmed (if s.power.recovered then lgsRewrite s else s))

/-- The header of the snapshot is rewritten with RECOVERED = 1 (R384). -/
def lgsRecovered (s : State) : State :=
  let w := s.rd R.LGS_STAT ||| 2
  setArmed (pwrEvt ((s.setChestWord (lgsArea + 4) w).wr R.LGS_STAT w) 2)

/-- PWR_CMD.LGS (R381). -/
def execLgs (s : State) : Host.Outcome State Fault Refusal := .next (lgsTrigger s 4)

/-! ## Warnings and dips (R378, R379) -/

/-- SUPPLY_WARN (R378): the warning, the refusal of the Vestibule, the armed Chest, for a VIO bank the snapshot, and the end of DOZE (R387). -/
def execSupplyWarn (k : Fin 5) (s : State) : Host.Outcome State Fault Refusal :=
  if !monitored s k || s.bt R.PWR_STAT (3 + k.val) then .next s
  else
    let s := s.setBt R.PWR_STAT (3 + k.val) true
    let s := s.updPower (fun p => { p with dips := p.dips.set (k.val % 4) (some ⟨s.tb.tb.toNat, false⟩) (Nat.mod_lt _ (by decide)) })
    let d := w32 k.val
    let s := if s.bt (fsrcStat FS.SUPPLY_WARN) 17 then s.raise FS.SUPPLY_WARN d else s.raiseLevel FS.SUPPLY_WARN d
    let s := arm (startRefusing s)
    let s := if k = 0 then s else lgsTrigger s k.val
    .next (leaveDoze s false)

/-- The DIP record of a dip that has recovered (R379). -/
def dipRecord (s : State) (k : Fin 5) (d : Dip) (minmv : BitVec 16) (dur : Word) : State :=
  if !s.bt R.PWR_CTRL 5 then s
  else
    let r := Fin.ofNat 64 (s.fl R.PWR_CTRL 8 6)
    if evtEnabled s r then
      evtPost s r 3 (w32 d.tb) [w32 (k.val + d.lgs.toNat * 8), minmv.setWidth 32, dur, w32 (d.tb / 2 ^ 32)]
    else pwrEvt s 7

/-- DIP_RECOVERY (R379, R384): the warning clears, the dip is recorded, and the snapshot that it triggered is marked. -/
def execDipRecovery (k : Fin 5) (minmv : BitVec 16) (dur : Word) (s : State) : Host.Outcome State Fault Refusal :=
  match s.power.dips[k.val % 4]'(Nat.mod_lt _ (by decide)) with
  | none => .next s
  | some d =>
    if k = 4 then .next s
    else
      let s := s.setBt R.PWR_STAT (3 + k.val) false
      let s := s.updPower (fun p => { p with dips := p.dips.set (k.val % 4) none (Nat.mod_lt _ (by decide)) })
      let s := if dipping s then s else s.endLevel FS.SUPPLY_WARN
      let s := (s.wr R.PWR_DIP (w32 (minmv.toNat + k.val * 2 ^ 16 + d.lgs.toNat * 2 ^ 19))).wr R.PWR_DIPDUR dur
      let s := dipRecord (pwrEvt s 0) k d minmv dur
      let s := if d.lgs && k != 0 && s.power.trig == k.val then
          (if s.power.lgs.isSome then s.updPower (fun p => { p with recovered := true }) else lgsRewrite s)
        else s
      .next (setArmed s)

/-- PFAIL_N falls (R381): the Chest is armed, and with PFEN = 1 the snapshot is triggered. -/
def execPfailN (s : State) : Host.Outcome State Fault Refusal :=
  let was := s.power.pfail
  let s := s.updPower (fun p => { p with pfail := true })
  if was || s.power.boot = .held then .next s
  else
    let s := arm (clockLevels s)
    let s := if s.bt R.PWR_CTRL 3 then lgsTrigger s 0 else s
    .next (leaveDoze s false)

/-- PFAIL_N rises (R381). -/
def execPfailNRelease (s : State) : Host.Outcome State Fault Refusal :=
  .next (setArmed (clockLevels (s.updPower (fun p => { p with pfail := false }))))

/-! ## DOZE (R386, R387) -/

/-- PWR_CMD.DOZE (R386). -/
def dozeCmd (s : State) : State :=
  if s.bt (fsrcStat FS.SUPPLY_WARN) 17 || s.power.pfail then pwrEvt s 6
  else if pwrMode s = 0 then setMode s 2 else s

/-- DOZE (R386). -/
def execDoze (s : State) : Host.Outcome State Fault Refusal := .next (dozeCmd s)

/-- Whether the conditions of R386 hold. -/
def dozeReady (s : State) : Bool :=
  pwrMode s == 2
    && (List.finRange 8).all (fun e => (List.finRange 32).all (fun k => thState s e k ≤ 1))
    && (List.finRange 16).all (fun g => s.gc[g].work.isNone)
    && (List.finRange 64).all (fun r => !ownerProduced s r || ringState s r == 0 || s.rdRing r RING.DONE == s.rdRing r RING.TAIL)
    && s.chestCtl.op.isNone && bgState s == 0 && s.patch.checks.isEmpty && !s.patch.fusing && !s.patch.chestwr && s.vest.queue.isEmpty
    && (!linkUp s || s.fl R.PCIE_STAT 6 3 == 3)

/-- DOZE_ENTRY (R386): at an LCLK edge the PLL stops, and TB counts LCLK. -/
def execDozeEntry (s : State) : Host.Outcome State Fault Refusal :=
  if dozeReady s then
    let s := pwrEvt (setMode s 1) 3
    let s := startLclk (s.setBt R.CLK_STAT 0 false)
    -- With DOZEHOLD = 1 the heartbeat timer stops (R411).
    let s := if s.bt R.SUP_HB_CTRL 1 then
        { s with ports := { s.ports with hbAt := none } } else s
    .next (s.updVest (fun v => { v with lastTb := s.tb.tb.toNat }))
  else .next s

/-- DOZE_EXIT (R387). -/
def execDozeExit (s : State) : Host.Outcome State Fault Refusal := .next (leaveDoze s false)

/-- PWR_CMD.RUN (R399): a wait for DOZE is cancelled, or DOZE ends. -/
def runCmd (s : State) : State := if pwrMode s = 2 then setMode s 0 else leaveDoze s false

/-- RUN (R399). -/
def execRun (s : State) : Host.Outcome State Fault Refusal := .next (runCmd s)

/-- A refused exit's PLL restarts when the refusal has ended (R355). -/
def exitReady (s : State) : State :=
  if s.power.exitWaits && !vestRefusing s then grant (s.updPower (fun p => { p with exitWaits := false })) .dozeExit 100 else s

/-- Whether a cause that stands ends DOZE (R387): a CAPT ring that holds 32 entries, a supply warning or PFAIL_N low. -/
def dozeEnds (s : State) : Bool :=
  pwrMode s == 1 && (s.bt (fsrcStat FS.SUPPLY_WARN) 17 || s.power.pfail
    || (List.finRange 64).any (fun r => ringType s r == 2 && ringState s r != 0 && 32 ≤ untakenCount s r))

/-! ## DORMANT and wakes (R388 to R390) -/

/-- Every waiting entry of the persistent log is written. -/
def flushPlog : Nat → State → State
  | 0, s => s
  | n + 1, s => if s.flt.plogQ.isEmpty then s else flushPlog n (plogWrite s)

/-- PWR_CMD.DORMANT (R388): accepted with timing idle and every ring OFF; 1 µs later the device enters. -/
def dormantCmd (s : State) : State :=
  if pwrMode s = 3 then s
  else if timingIdle s && (List.finRange 64).all (fun r => ringState s r == 0) then (setMode s 3).laterTicks 400 .dormantEnter
  else pwrEvt s 5

/-- DORMANT (R388). -/
def execDormant (s : State) : Host.Outcome State Fault Refusal := .next (dormantCmd s)

/-- DORMANT is entered (R388): the pending log entries are written and the lifetime counters committed, once a running snapshot has ended
(R382); then the core is held in reset, TB in the Lobby's hands, FOFS holding its value (R41), ERR_N released (R426). With WOEN = 1 the
wake-out pin is driven inactive. -/
def dormantEnter (s : State) : State :=
  if pwrMode s != 3 then s
  else if lgsRuns s then s.laterTicks 400 .dormantEnter
  else
    let s := commitLife (flushPlog 16 s)
    let z := ((coreReset s false).setFl R.TB_FOFS 0 5 s.fofs).updPower (fun p => { p with dormant := true })
    { z with flt := { z.flt with errnPin := false } }

/-- A wake (R389): recorded in LOB_WSRC; the first one pulls WAKE_N and drives the wake-out pin active. -/
def wake (s : State) (kind idx : Nat) : State :=
  if !s.power.dormant then s
  else
    let s := s.wr R.LOB_WSRC (w32 (kind + idx * 256))
    if s.power.woken then s
    else
      let c := s.rd R.LOB_WCTRL
      (s.updPower (fun p => { p with woken := true, wakeLow := bit c 8, woutActive := bit c 5 })).setBt R.RST_CAUSE 5 true

/-- WAKE_PIN (R389): an enabled pin has changed in its direction; the wake-out pin is no wake input. -/
def execWakePin (n : Fin 16) (s : State) : Host.Outcome State Fault Refusal :=
  .next (if s.bt R.LOB_WPIN n.val && s.fl R.LOB_WCTRL 0 5 != n.val then wake s 2 n.val else s)

/-- The registers of a Lobby wake timer. -/
def lobT (j : Fin 8) : Nat := R.LOB_WT_T + 0x10 * j.val
def lobC (j : Fin 8) : Nat := R.LOB_WT_C + 0x10 * j.val

/-- Whether the target of a Lobby wake timer is satisfied (R390, R37). -/
def lobReached (s : State) (j : Fin 8) : Bool := reached (s.rd (lobT j)) s.near

/-- Whether a Lobby wake timer acts in this tick: armed, satisfied, and not waiting for the next passage. -/
def lobDue (s : State) (j : Fin 8) : Bool := s.bt (lobC j) 0 && lobReached s j && !s.power.wtSkip.contains j

/-- LOBBY_WAKE_TIMER (R390): a passage is skipped, or the timer fires, wakes the device and ends DOZE. -/
def execLobbyWakeTimer (j : Fin 8) (s : State) : Host.Outcome State Fault Refusal :=
  if !lobDue s j then .next s
  else
    let skip := s.fl (lobC j) 8 8
    if skip != 0 then
      .next ((s.setFl (lobC j) 8 8 (skip - 1)).updPower (fun p => { p with wtSkip := p.wtSkip ++ [j] }))
    else .next (leaveDoze (wake ((s.setBt (lobC j) 0 false).setEv (lobC j) 16) 1 j.val) false)

/-- Timers whose target is no longer satisfied wait for it again. -/
def lobRearm (s : State) : State := s.updPower (fun p => { p with wtSkip := p.wtSkip.filter (lobReached s) })

/-- A write of a Lobby wake timer's register (R390): the timer is armed anew; an expiry of this tick stays (R10). -/
def writeLob (s : State) (j : Fin 8) (o : Nat) (v : Word) : State :=
  let s := if o = lobT j then s.wr o v
    else s.upd o (fun w => (v &&& 0xFF01) ||| (w &&& 0x10000 &&& ~~~ (v &&& ~~~ s.noted o)))
  s.updPower (fun p => { p with wtSkip := p.wtSkip.filter (· != j) })

/-- A write of PWR_CMD (R399): more than one bit, and none acts. -/
def writePwrCmd (s : State) (v : Word) : State :=
  match fld v 0 4 with
  | 0 => s
  | 1 => dozeCmd s
  | 2 => runCmd s
  | 4 => dormantCmd s
  | 8 => lgsTrigger s 4
  | _ => pwrEvt s 6

/-! ## Domain resets (R393) -/

/-- A write of RST_SW (R393): the domains reset in the tick after. -/
def writeRstSw (s : State) (v : Word) : State :=
  let at' (s : State) (b : Nat) (c : Instr) : State := if bit v b then s.after 1 c else s
  at' (at' (at' (at' (at' s 0 .hostReset) 1 .supReset) 2 .peerReset) 3 .galReset) 4 .timingReset

/-- The registers of the offsets that `p` selects return to their reset values. -/
def resetRegs (s : State) (p : Nat → Bool) : State :=
  { s with regs := s.regs.filter (fun c => !p c.1), marks := s.marks.filter (fun m => !p m.off), lat := s.lat.filter (fun c => !p (c.1 % 0x100000)) }

/-- A ring becomes OFF without DRAIN (R393): its held groups count once in CAPr_LOSS, its held entries in RINGr_LOST, its descriptor ends
without completion, and a commit that it waited for stays with the transaction. -/
def ringGone (s : State) (r : Fin 64) : State :=
  let s := if ringType s r = 2 then countLoss s r (s.land.pool.filter (fun h => h.g.ring == r && ordinary h.g)).length
    else discardEntries s r
  let s := s.updLand (fun l => { l with pool := l.pool.filter (fun h => h.g.ring != r), tallies := l.tallies.filter (fun t => t.ring != r),
                                        reserve := l.reserve.filter (fun g => g.ring != r) })
  let s := { s with txn := s.txn.map (fun t => if t.ring == some r then { t with ring := none } else t)
                    snap := { s.snap with rings := s.snap.rings.filter (·.1 != r), copying := s.snap.copying.filter (·.1 != r) }
                    later := s.later.filter (fun x => x.2 != .irqSend r) }
  let g := ringGc s r
  let s := match s.gc[g].work with | some (q, _) => if q = r then endBurst (setWork s g none) g else s | none => s
  let s := (s.updRing r (fun _ => Ring.reset)).dropDue (fun c => match c with
    | .irqTimerExpiry q | .descriptorArrival q _ _ => q == r | _ => false)
  ((s.setBt (ringOff r RING.CFG) 0 false).wr (ringOff r RING.STAT) 0).setBt (capOff r CAP.STAT) 17 false

/-- SUP_RESET (R393, R412): the supervisor port's registers return to reset values, a locked SUP_HB_CTRL stays, and its rings become OFF. -/
def execSupReset (s : State) : Host.Outcome State Fault Refusal :=
  let s := (List.finRange 64).foldl (fun s r => if hostOwned s r || ringState s r = 0 then s else ringGone s r) s
  let lock := s.bt R.SUP_HB_CTRL 2
  let s := resetRegs s (fun o => 0xD100 ≤ o && o < 0xD200 && !(lock && o == R.SUP_HB_CTRL))
  .next (if lock then s else { s with ports := { s.ports with hbAt := none, hbKicked := false } })

/-- GAL_RESET (R393, R302, R282): every ring OFF, the Landing buffer empty, the registers of rings and Gallery at reset values but the loss
counts and the state of the host's link. -/
def execGalReset (s : State) : Host.Outcome State Fault Refusal :=
  let s := (List.finRange 64).foldl ringGone s
  let s := s.updLand (fun l => { l with reserve := [], tallies := [] })
  let keep (o : Nat) : Bool :=
    o == R.CAP_NORING || o == R.CAP_NORINGSRC || o == R.RING_HOSTSTAT
      || (0x4000 ≤ o && o < 0x5000 && o % 0x40 == RING.LOST) || (0x5600 ≤ o && o < 0x5A00 && o % 0x10 == CAP.LOSS)
  let s := resetRegs s (fun o => 0x4000 ≤ o && o < 0x6000 && !keep o)
  let s := s.setBt R.RING_HOSTSTAT 3 false
  .next { s with gc := Vector.replicate 16 ⟨none, 0⟩, gal := ⟨0, 0, 0⟩ }

/-- Whether an offset lies in the TIMING domain (R393): channels, PWM groups, Newels and slots, lanes, transactions and SNAP. -/
def timingReg (o : Nat) : Bool :=
  (0x10000 ≤ o && o < 0x16000) || (0xA000 ≤ o && o < 0xB000) || (0x8000 ≤ o && o < 0xA000) || (0x30000 ≤ o && o < 0x38000)
    || (0xC000 ≤ o && o < 0xC800)

/-- Whether a command that waits in the agenda belongs to the TIMING domain. -/
def timingCmd (c : Instr) : Bool :=
  match c with
  | .glitchFilterExpiry _ | .capture _ | .deadTimeExpiry _ | .stretchClose _ | .tripAssert _ | .tripInputInactive _ => true
  | .toothReceive _ _ | .toothClassify _ | .predictionLoad _ | .holdAngleReached _ | .phaseInputEdge _ _ _ | .stallTimeout _ => true
  | .encoderEdge _ _ | .zEdge _ _ | .latePass _ | .slotConversion _ _ | .newelOffer _ _ | .commitFreeze _ _ | .reoffer _ _ => true
  | .cancel _ | .cancelOffer _ | .reEvaluation _ | .angleCyclePassage _ | .aqFire _ | .compareMatch _ _ => true
  | .laneWordStart _ | .laneWordComplete _ | .pulseEdge _ _ | .lanePause _ | .laneClockEdge _ _ | .laneRxStartEdge _ _ => true
  | .landing _ | .snapStrobe | .timedSnap | .peerSnapLatch | .cascadeAdvance _ => true
  | _ => false

/-- TIMING_RESET (R393, R322): the blocks of the domain return to their reset states, the pins with them; what the pins carry is still
sampled. Every transaction is IDLE with the pool free; a TXN_COMMIT or SNAP descriptor that waits ends with TXNFAIL. -/
def execTimingReset (s : State) : Host.Outcome State Fault Refusal :=
  let s := (List.finRange 8).foldl (fun s t => endCommit s t ST.TXNFAIL 0) s
  let s := s.snap.rings.foldl (fun s x => endDesc s x.1 ST.TXNFAIL 0) s
  let s := resetRegs s timingReg
  let s := { s with
    ch := s.ch.map (fun (c : Chan) => { Chan.reset with pin := c.pin, level := c.pin, edgeAt := c.edgeAt })
    pg := Vector.replicate 16 Pg.reset
    nwl := Vector.replicate 4 Nwl.reset
    lane := Vector.replicate 16 Lane.reset
    txn := Vector.replicate 8 Txn.reset
    staged := [], snap := Snap.reset
    later := s.later.filter (fun x => match x.2 with
      | .chEvt _ _ | .chCount _ | .fifoPush _ _ | .tripAccept _ _ | .tripInput _ => false
      | _ => true) }
  .next ((List.range 32).foldl (fun s k => s.endLevel (128 + k)) (s.dropDue timingCmd))

end Sys2Proof.Machine
end

