-- ==== Sys2Proof/Machine/Micro.lean ====
section
/-! DEFINITION. Brotis containers and the patch store (R251 to R259): checking and loading a container, unloading, fuse steps and the write of
a container into the Chest. -/

namespace Sys2Proof.Machine

/-- The patch store with `f` applied. -/
def State.updPatch (s : State) (f : Patch → Patch) : State := { s with patch := f s.patch }

/-- The little-endian number of `n` bytes from offset `o` of a list of bytes. -/
def leAt (bs : List Byte) (o n : Nat) : Nat := ((bs.drop o).take n).foldr (fun b k => b.toNat + 256 * k) 0

/-- The result codes of MC_STAT (R259). -/
abbrev MC.OK : Nat := 1
abbrev MC.BUSY : Nat := 2
abbrev MC.FORMAT : Nat := 3
abbrev MC.PART : Nat := 4
abbrev MC.ROLLBACK : Nat := 5
abbrev MC.KEY : Nat := 6
abbrev MC.SIG : Nat := 7
abbrev MC.AUTH : Nat := 8
abbrev MC.CONTENT : Nat := 9
abbrev MC.FUSE : Nat := 10
abbrev MC.CHEST : Nat := 11

/-- The fuse count (R257), saturating at 64. -/
def fuseCnt (s : State) : Nat := min 64 (Config.fuseCount.val + s.patch.fuses)

/-- MC_STAT.PHASE (R259): verifying, else writing fuses or the Chest. -/
def mcPhase (s : State) : Nat := if !s.patch.checks.isEmpty then 1 else if s.patch.fusing || s.patch.chestwr then 2 else 0

/-- MC_STAT as read: PHASE, and FUSECNT as the fuses stand. -/
def mcStat (s : State) : Word := setFld (setFld (s.rd R.MC_STAT) 0 2 (mcPhase s)) 8 7 (fuseCnt s)

/-- MC_STAT.RESULT. -/
def mcResult (s : State) (r : Nat) : State := s.setFl R.MC_STAT 4 4 r

/-! ## The container (R251, R252) -/

/-- NMATCH, NWORDS and PAYLEN of a container. -/
def btcMatch (c : List Byte) : Nat := leAt c 0x14 2
def btcWords (c : List Byte) : Nat := leAt c 0x16 2
def btcPay (c : List Byte) : Nat := leAt c 0x18 4

/-- The length of a container. -/
def btcLen (c : List Byte) : Nat := 128 + btcPay c + 64

/-- The header fields against R251, PART apart. -/
def btcFormat (c : List Byte) : Bool :=
  leAt c 0 4 == 0x01435442 && leAt c 4 2 == 1 && leAt c 6 2 == 128 && leAt c 0x0E 2 == 0 && decide (leAt c 0x10 1 ≤ 64)
    && decide (leAt c 0x11 1 ≤ 3) && decide (btcMatch c ≤ 32) && decide (btcWords c ≤ 256)
    && btcPay c == 4 * (btcMatch c + btcWords c) && leAt c 0x28 8 == 0 && ((c.drop 0x40).take 64).all (· == 0)

/-- The words of a decrypted payload. -/
def btcPlain (c : List Byte) : Option (List Nat) :=
  let hdr := c.take 128
  let aad := hdr.take 0x30 ++ List.replicate 16 0 ++ hdr.drop 0x40
  (gcmOpen (beBytes 32 Config.gcmKey.toNat) ((c.drop 0x1C).take 12) aad ((c.drop 128).take (btcPay c)) ((c.drop 0x30).take 16)).map (fun p =>
    (List.range (btcMatch c + btcWords c)).map (fun i => leAt p (4 * i) 4))

/-- The signature of a container against its key slot (R253). -/
def btcSigned (c : List Byte) : Bool :=
  let sig := c.drop (128 + btcPay c)
  ecdsaOk (Config.slotKey (leAt c 0x11 1)) (c.take (128 + btcPay c)) (beNat (sig.take 32)) (beNat ((sig.drop 32).take 32))

/-- A match entry meets R252 and R254. -/
def matchOk (nwords w : Nat) : Bool := w == 2 ^ 31 + w / 2 ^ 16 % 256 * 2 ^ 16 + w % 2 ^ 14 && decide (w / 2 ^ 16 % 256 < nwords)

/-- The content checks (R254 step 6): every entry and word of the form of R252, ROM addresses unique. -/
def btcContent (c : List Byte) (ws : List Nat) : Bool :=
  let ms := ws.take (btcMatch c)
  ms.all (matchOk (btcWords c)) && decide ((ms.map (· % 2 ^ 14)).Nodup) && (ws.drop (btcMatch c)).all (fun w => decide (w < 2 ^ 24))

/-- Steps 1 to 6 of R254: the code of the first failed check, or the words of the payload. -/
def btcCheck (s : State) (c : List Byte) : Except Nat (List Nat) :=
  if !btcFormat c then .error MC.FORMAT
  else if leAt c 8 4 != 0x809600A1 then .error MC.PART
  else if leAt c 0x10 1 < fuseCnt s then .error MC.ROLLBACK
  else if s.bt R.MC_KEYS (leAt c 0x11 1) then .error MC.KEY
  else if !btcSigned c then .error MC.SIG
  else match btcPlain c with
    | none => .error MC.AUTH
    | some ws => if btcContent c ws then .ok ws else .error MC.CONTENT

/-- The bytes of the staging buffer, and of the patch container area of the Chest. -/
def stagedBtc (s : State) : List Byte := (List.range 2048).map (fun i => s.byte (0xE0000 + i))
def chestBtc (s : State) : List Byte := (List.range 2048).map (fun i => s.chestByte (0x1000 + i))

/-! ## Loading (R254 to R256) -/

/-- Whether an engine runs, stops or is halted (R256). -/
def anyEngine (s : State) : Bool := (List.finRange 8).any (fun e => feRun s e || feStopping s e || feHalted s e)

/-- Whether a load is in progress (R256). -/
def loading (s : State) : Bool := s.patch.checks.any (fun c => !c.chestwr)

/-- Whether a CHESTWR is under way, in its checks or in the Chest (R257). -/
def chestWriting (s : State) : Bool := s.patch.chestwr || s.patch.checks.any (·.chestwr)

/-- An attempt is refused with BUSY and NOTICE MC_LOAD_REFUSED (R256). -/
def mcRefuse (s : State) (r : Nat) : State := (mcResult s r).raise FS.MC_LOAD_REFUSED (w32 r)

/-- The checks with `c` put in by the tick of its end. -/
def putCheck (c : Check) (cs : List Check) : List Check := cs.filter (fun x => decide (x.ends ≤ c.ends)) ++ c :: cs.filter (fun x => decide (c.ends < x.ends))

/-- A container is checked for `d` ticks. -/
def mcCheck (s : State) (d : Nat) (c : Check) : State :=
  (s.updPatch (fun p => { p with checks := putCheck { c with ends := s.ticks + d } p.checks })).afterTicks d .patchActivate

/-- A verification begins: 2.5 ms at most. -/
def mcVerify (s : State) (c : List Byte) (fromChest chestwr : Bool) : State := mcCheck s 1000000 ⟨c, chestwr, fromChest, 0⟩

/-- MC_CMD.LOAD (R256). -/
def mcLoadCmd (s : State) : State :=
  if anyEngine s || loading s || s.patch.fusing then mcRefuse s MC.BUSY else mcVerify s (stagedBtc s) false false

/-- MC_LOAD (R256). -/
def execMcLoad (s : State) : Host.Outcome State Fault Refusal := .next (mcLoadCmd s)

/-- A load ends: starts held during it act in the next cycle (R256). -/
def loadEnds (s : State) : State :=
  s.patch.heldStart.foldl (fun s e => s.after 1 (.feStart .host e)) (s.updPatch (fun p => { p with heldStart := [] }))

/-- The container takes effect (R254 step 7). -/
def activate (s : State) (c : Check) (ws : List Nat) : State :=
  let ms := (ws.take (btcMatch c.btc)).map (fun w => (w % 2 ^ 14, w / 2 ^ 16 % 256))
  let s := s.updPatch (fun p => { p with match' := ms, words := ws.drop (btcMatch c.btc), pfeat := leAt c.btc 0x12 2 })
  let src := if c.fromChest then 1 else 2
  s.wr R.MC_VER (w32 (leAt c.btc 0x0C 2 + leAt c.btc 0x10 1 * 2 ^ 16 + 2 ^ 24 + src * 2 ^ 30))

/-- PATCH_ACTIVATE (R254, R257): the verification of a container ends. It takes effect, or for CHESTWR it goes to the Chest once a
command under way has ended; a failed check loads nothing. -/
def execPatchActivate (s : State) : Host.Outcome State Fault Refusal :=
  match s.patch.checks with
  | [] => .next s
  | c :: rest =>
    let s := { s.updPatch (fun p => { p with checks := rest }) with agenda := s.agenda.erase ⟨c.ends, .patchActivate⟩ }
    match btcCheck s c.btc, c.chestwr with
    | .error r, true => .next (mcRefuse s r)
    | .error r, false => .next (loadEnds (if c.fromChest then (mcResult s r).raise FS.MC_LOAD_FAIL (w32 r) else mcRefuse s r))
    | .ok ws, false => .next (loadEnds (mcResult (activate s c ws) MC.OK))
    | .ok _, true =>
      if chestBusy s then .next (mcCheck s 400 c)
      else
        let n := (btcLen c.btc + 7) / 8 * 2
        let bs := c.btc.take (btcLen c.btc) ++ List.replicate 8 0
        let s := s.updPatch (fun p => { p with chestwr := true })
        .next (beginBurst s 0x1000 ((List.range n).map (fun i => w32 (leAt bs (4 * i) 4))) true)

/-- MC_CMD.UNLOAD (R257). -/
def unloadCmd (s : State) : State :=
  if anyEngine s then mcRefuse s MC.BUSY
  else mcResult ((s.updPatch (fun p => { p with match' := [], pfeat := 0 })).wr R.MC_VER 0x01000000) MC.OK

/-- UNLOAD (R257). -/
def execUnload (s : State) : Host.Outcome State Fault Refusal := .next (unloadCmd s)

/-! ## Fuses and the Chest (R257) -/

/-- MC_CMD.ADVSVN (R257). BUSY while fuse steps are programmed already: DESIGN CHOICE, log 5. -/
def advsvnCmd (s : State) : State :=
  if s.patch.fusing then mcResult s MC.BUSY
  else if s.bt (fsrcStat FS.SUPPLY_WARN) 17 || s.fl R.MC_VER 16 7 ≤ fuseCnt s then mcResult s MC.FUSE
  else (s.updPatch (fun p => { p with fusing := true })).afterTicks 80000 .fuseStep

/-- ADVSVN (R257). -/
def execAdvsvn (s : State) : Host.Outcome State Fault Refusal := .next (advsvnCmd s)

/-- FUSE_STEP (R257): a step is programmed; the operation ends when the count has reached the SVN of the active container. -/
def execFuseStep (s : State) : Host.Outcome State Fault Refusal :=
  if !s.patch.fusing then .next s
  else
    let s := (s.updPatch (fun p => { p with fuses := p.fuses + 1 })).dropDue (· == .fuseStep)
    if fuseCnt s < s.fl R.MC_VER 16 7 then .next (s.afterTicks 80000 .fuseStep)
    else .next (mcResult (s.updPatch (fun p => { p with fusing := false })) MC.OK)

/-- MC_CMD.CHESTWR (R257). BUSY while another CHESTWR is under way: DESIGN CHOICE, log 5. -/
def chestwrCmd (s : State) : State := if chestWriting s then mcResult s MC.BUSY else mcVerify s (stagedBtc s) false true

/-- CHESTWR (R257). -/
def execChestwr (s : State) : Host.Outcome State Fault Refusal := .next (chestwrCmd s)

/-- A write of MC_CMD (R259): more than one bit acts on none and records BUSY. -/
def writeMcCmd (s : State) (v : Word) : State :=
  match fld v 0 4 with
  | 0 => s
  | 1 => mcLoadCmd s
  | 2 => unloadCmd s
  | 4 => advsvnCmd s
  | 8 => chestwrCmd s
  | _ => mcResult s MC.BUSY

end Sys2Proof.Machine
end

