-- ==== Sys2Proof/Machine/Ports.lean ====
section
/-! DEFINITION. The ports (chapter 16) beside the registers that pass through them: the heartbeat (R411, R412), the supervisor's status
commands (R406), link power and errors (R403, R404), the peer ring (R413 to R419) and the TAP (R420 to R422). -/

namespace Sys2Proof.Machine

/-- The ports with `f` applied. -/
def State.updPorts (s : State) (f : Ports → Ports) : State := { s with ports := f s.ports }

/-- The peer link with `f` applied. -/
def State.updPeer (s : State) (f : Peer → Peer) : State := { s with peer := f s.peer }

/-! ## The heartbeat (R411, R412) -/

/-- A write of SUP_HB_CTRL: the supervisor's alone, and read-only once LOCK is 1. -/
def writeHbCtrl (s : State) (a : Agent) (v : Word) : State :=
  if a != .sup || s.bt R.SUP_HB_CTRL 2 then (if a != .sup || v != 0 then s.rsvd a R.SUP_HB_CTRL else s)
  else
    let was := s.bt R.SUP_HB_CTRL 0
    let s := if v &&& 0xFFF8 != 0 then s.rsvd a R.SUP_HB_CTRL else s
    let s := s.wr R.SUP_HB_CTRL (v &&& 0xFFFF0007)
    if bit v 0 && !was then hbRestart (s.updPorts (fun p => { p with hbKicked := false }))
    else if !bit v 0 then s.updPorts (fun p => { p with hbAt := none })
    else s

/-- HB_LOCK (R412). -/
def execHbLock (s : State) : Host.Outcome State Fault Refusal := .next (writeHbCtrl s .sup (s.rd R.SUP_HB_CTRL ||| 4))

/-- A write of SUP_HB_KICK (R411): accepted, it restarts the timer; any other counts in BAD. -/
def writeHbKick (s : State) (a : Agent) (v : Word) : State :=
  if a != .sup then s.rsvd a R.SUP_HB_KICK
  else
    let s := if fld v 16 16 != 0 then s.rsvd a R.SUP_HB_KICK else s
    if !s.bt R.SUP_HB_CTRL 0 then s
    else if !s.ports.hbKicked || fld v 0 16 == (s.fl R.SUP_HB_STAT 0 16 + 1) % 65536 then
      hbRestart ((s.setFl R.SUP_HB_STAT 0 16 (fld v 0 16)).updPorts (fun p => { p with hbKicked := true }))
    else s.satFl R.SUP_HB_STAT 16 8

/-- HB_KICK (R411). A kick in DOZE ends DOZE. -/
def execHbKick (a : Agent) (v : Word) (s : State) : Host.Outcome State Fault Refusal := .next (writeHbKick (leaveDoze s false) a v)

/-- Whether the heartbeat timer has expired. -/
def hbDue (s : State) : Bool := s.bt R.SUP_HB_CTRL 0 && (match s.ports.hbAt with | some t => decide (t ≤ s.ticks) | none => false)

/-- HEARTBEAT_EXPIRY (R411). -/
def execHeartbeatExpiry (s : State) : Host.Outcome State Fault Refusal :=
  if hbDue s then .next (hbRestart (((s.setEv R.SUP_HB_STAT 24).setEv R.SUP_ISR 2).raise FS.HEARTBEAT_TMO)) else .next s

/-! ## The supervisor's status commands and SINT_N (R406, R410) -/

/-- Whether the supervisor port serves accesses: from step 4 of the boot (R394, R406). -/
def supServes (s : State) : Bool :=
  match s.power.boot with | .held | .crystal | .pll | .sram => false | .patch | .image | .done => true

/-- READ STATUS (R406). -/
def execReadStatus (s : State) : Host.Outcome State Fault Refusal :=
  .next (if supServes s then s.updPorts (fun p => { p with supData := [s.rd R.SUP_STAT] }) else s)

/-- READ ID (R406). -/
def execReadId (s : State) : Host.Outcome State Fault Refusal :=
  .next (if supServes s then s.updPorts (fun p => { p with supData := [s.rd R.SYS_ID] }) else s)

/-- SUP_ISR as read: FLT copies FLT_ISR.SUP. -/
def supIsr (s : State) : Word := setBit (s.rd R.SUP_ISR) 1 (s.bt R.FLT_ISR 1)

/-- Whether a cause of SINT_N stands (R410), none before step 4 of the boot; the pin follows in the next tick (R336). -/
def sintLow (s : State) : Bool := supServes s && supIsr s &&& s.rd R.SUP_IEN != 0

/-! ## The PCIe link (R403, R404) -/

/-- L1_ENTRY (R403): an idle link enters L1, or the substate that the host enables. -/
def execL1Entry (s : State) : Host.Outcome State Fault Refusal :=
  if linkUp s && s.fl R.PCIE_STAT 6 3 = 0 then
    let s := s.updPcie (fun p => { p with l1 := true })
    .next ((s.setFl R.PCIE_STAT 6 3 (1 + s.pcie.l1ss)).updPorts (fun p => { p with l1Out := s.out.length }))
  else .next s

/-- A TLP to send takes the link out of L1. -/
def l1Leaves (s : State) : Bool := s.pcie.l1 && s.out.length != s.ports.l1Out

/-- PCIE_ERROR (R404): correctable, non-fatal or fatal; counted and raised. -/
def execPcieError (k : Fin 3) (s : State) : Host.Outcome State Fault Refusal :=
  .next ((s.satFl R.PCIE_ERRCNT (if k = 0 then 0 else 16) 16).raise (FS.PCIE_CORR + k.val))

/-! ## The peer ring: coming up and going down (R413, R419) -/

/-- The ring is down at this device (R419): commits and SNAPs that it opened fail, its peer followers are lost. -/
def ringDown (s : State) : State :=
  let up := ringUp s
  let s := (s.upd R.PEER_STAT (fun w => w &&& ~~~ 0x30)).setBt R.TB_SLEW 3 false
  let s := (s.raiseLevel FS.PEER_LINK).endLevel FS.PEER_ALIGN
  let s := if up then s.setEv R.SUP_ISR 3 else s
  let s := failCommits s 4 0
  let s := if s.peer.opened.any (fun x => x.2.isNone) then snapFails s else s
  let own := (ownHead s).dev
  let s := s.updPeer (fun p => { p with opened := [], held := [], duties := p.duties.filter (fun d => d.dev != own), sentAt := none })
  (List.finRange 4).foldl (fun s n => if s.nwl[n].on && s.nwl[n].mode == 2 && s.nwl[n].state != .lost then peerLost s n else s)
    (s.dropDue (· == .timeFrameSend))

/-- The ring is up at this device (R413, R417). -/
def ringRises (s : State) (ndev : Nat) : State :=
  let s := ((s.setFl R.PEER_STAT 2 2 ndev).setBt R.PEER_STAT 4 true).endLevel FS.PEER_LINK
  if s.bt R.PEER_CFG 1 then s else if s.bt R.PEER_CFG 2 then s.setBt R.TB_SLEW 3 true else s

/-- Whether this device is the primary of a ring that is not up, with its inbound link locked: it numbers the ring (R413). -/
def numbering (s : State) : Bool := s.bt R.PEER_CFG 0 && s.bt R.PEER_CFG 1 && s.peer.lock && !ringUp s

/-- The primary sends ENUM, and once more every 4 096 ticks until the ring is up: the ring retrains by itself (R413, R419). The interval
is a DESIGN CHOICE (assumption 110). -/
def enumSend (s : State) : State :=
  let s := { s with later := s.later.filter (fun x => x.2 != Later.enumSend) }
  if numbering s then (peerSend s (.enum ⟨0, 1⟩)).laterTicks 4096 .enumSend else s

/-- A ring that is not up 1 ms after the link was enabled counts as one that does not come up (R413). The 1 ms is a DESIGN CHOICE
(assumption 110). -/
def peerCheck (s : State) : State := if s.bt R.PEER_CFG 0 && !ringUp s then s.raiseLevel FS.PEER_LINK else s

/-- A write of PEER_CFG (R413). -/
def writePeerCfg (s : State) (v : Word) : State :=
  let was := s.bt R.PEER_CFG 0
  let s := s.wr R.PEER_CFG (v &&& 0xF7)
  let s := if ringUp s then s.setBt R.TB_SLEW 3 (!bit v 1 && bit v 2) else s
  if bit v 0 && !was then
    let s := { s with later := s.later.filter (fun x => x.2 != Later.peerCheck) }
    (s.updPeer (fun p => { p with lock := false, joining := true, filt := 0 })).laterTicks 400000 .peerCheck
  else if !bit v 0 && was then (ringDown (s.updPeer (fun p => { p with lock := false }))).endLevel FS.PEER_LINK
  else s

/-- PEER_ENABLE (R413). -/
def execPeerEnable (s : State) : Host.Outcome State Fault Refusal := .next (writePeerCfg s (s.rd R.PEER_CFG ||| 1))

/-- COMMA_LOCK (R413): the inbound link has locked; the primary numbers the ring. -/
def execCommaLock (s : State) : Host.Outcome State Fault Refusal :=
  if s.bt R.PEER_CFG 0 && !s.peer.lock then
    let s := s.updPeer (fun p => { p with lock := true })
    .next (if s.bt R.PEER_CFG 1 then enumSend (s.setFl R.PEER_STAT 0 2 0) else s)
  else .next s

/-- PEER_LINK_DOWN (R419): the inbound link has lost comma lock. -/
def execPeerLinkDown (s : State) : Host.Outcome State Fault Refusal :=
  if s.bt R.PEER_CFG 0 && s.peer.lock then
    let s := (s.updPeer (fun p => { p with lock := false })).satFl R.PEER_CNT 16 16
    .next (ringDown (peerSend s (.linkdn (ownHead s))))
  else .next s

/-- PEER_RESET (R393): the link retrains and realigns; PEER_CFG and PEER_RXDLY keep their values. -/
def execPeerReset (s : State) : Host.Outcome State Fault Refusal :=
  let s := if ringUp s then ringDown s else s
  let s := resetRegs s (fun o => o == R.PEER_STAT || o == R.PEER_ERR || o == R.PEER_CNT)
  let s := { s with later := s.later.filter (fun x => match x.2 with | .peerSend _ => false | _ => true) }
  .next (s.updPeer (fun p => { Peer.reset with tx := p.tx, round := p.round, joining := true }))

/-! ## Frames (R414 to R418) -/

/-- Whether the device takes a frame from its inbound link. -/
def peerHears (s : State) : Bool := s.bt R.PEER_CFG 0 && s.peer.lock

/-- Whether this device originated a frame. -/
def ownFrame (s : State) (h : FrameHead) : Bool := h.dev == (ownHead s).dev

/-- The head of a forwarded frame. -/
def hop (h : FrameHead) : FrameHead := { h with hops := h.hops + 1 }

/-- A frame that this device did not originate goes on, 64 ns after it arrived (R414). -/
def forward (s : State) (h : FrameHead) (f : PeerFrame) : State := if ownFrame s h then s else s.laterTicks 26 (.peerSend f)

/-- ENUM (R413): its hop count is the device's number; back at the primary, the ring is up. A device beyond the fourth sees no number. -/
def execEnumFrame (h : FrameHead) (s : State) : Host.Outcome State Fault Refusal :=
  if !peerHears s then .next s
  else if s.bt R.PEER_CFG 1 then
    if ringUp s then .next s
    else .next ((ringRises (s.updPeer (fun p => { p with loop := 0, sentAt := none })) ((h.hops.val + 3) % 4)).after 0 .timeFrameSend)
  else if h.hops = 0 then .next (s.raiseLevel FS.PEER_LINK)
  else .next ((s.setFl R.PEER_STAT 0 2 h.hops.val).laterTicks 26 (.peerSend (.enum (hop h))))

/-- TIME_FRAME_SEND (R417): the primary's stamp every 4 096 ticks; the first one at ring-up also measures the loop. -/
def execTimeFrameSend (s : State) : Host.Outcome State Fault Refusal :=
  if s.bt R.PEER_CFG 1 && ringUp s then
    let s := s.updPeer (fun p => { p with sentAt := if p.loop = 0 && p.sentAt.isNone then some s.eff else p.sentAt })
    .next ((peerSend s (.time (ownHead s) s.tb.tb (BitVec.ofNat 5 s.fofs))).afterTicks 4096 .timeFrameSend)
  else .next s

/-- D_k in ps (R417): 64 ns per hop and the flight delays of the links on the way. -/
def peerDelay (s : State) : Int :=
  let k := s.fl R.PEER_STAT 0 2
  let rx := s.fl R.PEER_RXDLY 0 16
  64000 * k + rx + Config.peerFlight k rx

/-- A difference in ps saturated to PEER_ERR's range. -/
def peerErr (d : Int) : Nat := ((max (-32767) (min 32767 d)) % 65536).toNat

/-- The joining step (R417): a difference above 32 ticks is removed by a step, when timing is idle. -/
def joinStep (s : State) (d : Int) : State :=
  let t := (d / 2500)
  if timingIdle s then
    let v := BitVec.ofInt 64 (s.tb.tb.toInt + 1 + t)
    let s := (s.wr R.TB_STEP_LO (v.setWidth 32)).wr R.TB_STEP_HI ((v >>> 32).setWidth 32)
    s.updTb (fun b => { b with stepNext := true })
  else s.setBt R.PEER_STAT 6 true

/-- TB_SLEW as the link hardware sets it (R42, R45): effective time moves toward the primary's, forward while the device is behind it
(`d` above 0) and back while it is ahead, with an interval of 24 bits. -/
def slewToward (d : Int) (interval : Nat) : Word :=
  w32 ((if 0 < d then 1 else if d < 0 then 2 else 0) + 8 + interval % 2 ^ 24 * 16)

/-- A device steers to the primary (R417): the difference in ps from its own effective time of the arrival. -/
def align (s : State) (t : Time) (fine arr : BitVec 5) : State :=
  let own := s.eff + arr.toNat
  let stamp := t.toNat * 32 + fine.toNat
  let d : Int := ((stamp : Int) - own) * 625 / 8 + peerDelay s
  let s := s.setFl R.PEER_ERR 0 16 (peerErr d)
  let join := s.peer.joining
  let s := s.updPeer (fun p => { p with joining := false })
  if join && (80000 < d || d < -80000) && s.bt R.PEER_CFG 2 then joinStep s d
  else
    let f := Config.peerFilter s.peer.filt d
    let s := s.updPeer (fun p => { p with filt := f })
    let ok := decide (f ≤ 500) && decide (-500 ≤ f)
    let s := s.setBt R.PEER_STAT 5 ok
    let s := if ok then s.endLevel FS.PEER_ALIGN else s.raiseLevel FS.PEER_ALIGN
    if s.bt R.PEER_CFG 2 then setSlew s (slewToward d (Config.peerInterval d f)) else s

/-- TIME (R417): on the primary the loop delay; elsewhere the comparison. The first one after the numbering tells a device that the ring is
up; NDEV is a free value there. -/
def execTimeFrame (h : FrameHead) (t : Time) (fine arr : BitVec 5) (s : State) : Host.Outcome State Fault Refusal :=
  if !peerHears s then .next s
  else if s.bt R.PEER_CFG 1 then
    match s.peer.sentAt with
    | some x => .next (s.updPeer (fun p => { p with loop := s.eff + arr.toNat - x, sentAt := none }))
    | none => .next s
  else
    let s := if ringUp s then s else
      (let (w, s) := s.fresh; ringRises s (max (fld w 0 2) (s.fl R.PEER_STAT 0 2)))
    .next (forward (align s t fine arr) h (.time (hop h) t fine))

/-- TOOTH0 (R415, R416): held until its TOOTH1. -/
def execTooth0Frame (h : FrameHead) (t : Tooth0) (s : State) : Host.Outcome State Fault Refusal :=
  if !peerHears s || ownFrame s h then .next s
  else
    let s := s.updPeer (fun p => { p with held := p.held.filter (fun x => !(x.1 == h.dev && x.2.1 == t.nwl)) ++ [(h.dev, t.nwl, t)] })
    .next (forward s h (.tooth0 (hop h) t))

/-- TOOTH1 (R416, R138): the pair takes effect on the Newels that follow its source. -/
def execTooth1Frame (h : FrameHead) (t : Tooth1) (s : State) : Host.Outcome State Fault Refusal :=
  if !peerHears s || ownFrame s h then .next s
  else
    let s := match s.peer.held.find? (fun x => x.1 == h.dev && x.2.1 == t.nwl) with
      | some (_, _, t0) => (followersOf s h.dev t.nwl).foldl (fun s n => passCycle (applyBroadcast s n t0 t) n) s
      | none => s
    let s := s.updPeer (fun p => { p with held := p.held.filter (fun x => !(x.1 == h.dev && x.2.1 == t.nwl)) })
    .next (forward s h (.tooth1 (hop h) t))

/-- A duty of another device's round (R418). -/
def addDuty (s : State) (h : FrameHead) (round : Nat) (t : Option (Fin 8)) (at' : Word) : State :=
  s.updPeer (fun p => { p with duties := p.duties ++ [{ at' := farTime s at', dev := h.dev, round := round, txn := t }] })

/-- SNAP (R325, R418). -/
def execSnapFrame (h : FrameHead) (round : Nat) (at' : Word) (s : State) : Host.Outcome State Fault Refusal :=
  if !peerHears s || ownFrame s h then .next s
  else .next (forward (addDuty s h round none at') h (.snap (hop h) round at'))

/-- COMMIT (R321, R418). -/
def execCommitFrame (h : FrameHead) (round : Nat) (t : Fin 8) (at' : Word) (s : State) : Host.Outcome State Fault Refusal :=
  if !peerHears s || ownFrame s h then .next s
  else .next (forward (addDuty s h round (some t) at') h (.commit (hop h) round t at'))

/-- The initiator's round closes (R418): PDONE, and a bit for each device of the ring that has not acted. -/
def closeRound (s : State) (round : Nat) (acted : BitVec 4) : State :=
  match s.peer.opened.find? (fun x => x.1 == round) with
  | none => s
  | some (_, t) =>
    let s := s.updPeer (fun p => { p with opened := p.opened.filter (fun x => x.1 != round) })
    let o := match t with | some _ => (R.TXN_EVT, 16) | none => (R.SNAP_STAT, 20)
    let missing := (List.range (s.fl R.PEER_STAT 2 2 + 1)).filter (fun d => !acted.getLsbD d)
    (missing.foldl (fun s d => s.setEv o.1 (o.2 + d)) s).setEv R.SNAP_STAT 17

/-- STATUS (R418): each device that has acted at T sets its bit; the initiator closes the round. -/
def execStatusFrame (h : FrameHead) (round : Nat) (acted : BitVec 4) (s : State) : Host.Outcome State Fault Refusal :=
  if !peerHears s then .next s
  else if ownFrame s h then
    .next ((closeRound s round acted).updPeer (fun p => { p with acted := p.acted.filter (fun x => !(x.1 == h.dev && x.2 == round)) }))
  else
    let mine := s.peer.acted.contains (h.dev, round)
    let own := s.fl R.PEER_STAT 0 2
    let bits := if mine then acted ||| BitVec.ofNat 4 (2 ^ own) else acted
    let s := s.updPeer (fun p => { p with acted := p.acted.filter (fun x => !(x.1 == h.dev && x.2 == round)) })
    .next (forward s h (.status (hop h) round bits))

/-- LINKDN (R419). -/
def execLinkdnFrame (h : FrameHead) (s : State) : Host.Outcome State Fault Refusal :=
  if !peerHears s || ownFrame s h then .next s
  else
    let s := ringDown s
    .next (forward (if numbering s then s.laterTicks 4096 .enumSend else s) h (.linkdn (hop h)))

/-- PEER_FRAME_DISCARD (R414). -/
def execPeerFrameDiscard (s : State) : Host.Outcome State Fault Refusal :=
  .next (if peerHears s then (s.satFl R.PEER_CNT 0 16).raise FS.PEER_FRAME else s)

/-! ## The TAP (R420 to R422) -/

/-- An instruction of the TAP. -/
def tap (s : State) (i : TapIr) : State := s.updPorts (fun p => { p with ir := i })

/-- The levels that the boundary-scan register captures: TIO0 to TIO95, RESET_N, ERR_N, PFAIL_N, SYNC_IN, SYNC_OUT, PERST_N, WAKE_N,
CLKREQ_N, and the 12 supervisor-port balls, of which the state holds nothing. -/
def bscanLevels (s : State) : BitVec 116 × State :=
  let (w, s) := s.fresh
  let tio := (List.finRange 96).map (fun n => s.ch[n].pin)
  let other := [true, !s.flt.errnPin, !s.power.pfail, s.bt R.SYNCIN_STAT 22, s.bt R.SYNCOUT_STAT 16 != s.bt R.SYNCOUT_CTRL 1,
    !s.pcie.perst, !(s.pcie.wake || s.power.wakeLow), decide (2 ≤ s.fl R.PCIE_STAT 6 3)]
  let bs := tio ++ other ++ (List.range 12).map (bit w)
  (BitVec.ofNat 116 (bs.foldr (fun b k => b.toNat + 2 * k) 0), s)

/-- IDCODE (R420). -/
def idcodeWord : Word := w32 (2 ^ 28 + 0x8096 * 2 ^ 12 + Config.jep106.toNat * 2 + 1)

/-- SAMPLE/PRELOAD (R420, R421): the levels are captured; what is shifted in comes from outside and is a free value. -/
def execSamplePreload (s : State) : Host.Outcome State Fault Refusal :=
  let (l, s) := bscanLevels s
  let (a, s) := s.fresh
  let (b, s) := s.fresh
  let (c, s) := s.fresh
  let (d, s) := s.fresh
  .next (tap (s.updPorts (fun p => { p with bscan := l, bdrive := (a ++ b ++ c ++ d).setWidth 116 })) .sample)

/-- EXTEST, HIGHZ and CLAMP (R421): the channels run on without reaching their pins. -/
def execExtest (s : State) : Host.Outcome State Fault Refusal := .next (tap s .extest)
def execHighz (s : State) : Host.Outcome State Fault Refusal := .next (tap s .highz)
def execClamp (s : State) : Host.Outcome State Fault Refusal := .next (tap s .clamp)
/-- IDCODE and BYPASS (R420). -/
def execIdcode (s : State) : Host.Outcome State Fault Refusal := .next (tap s .idcode)
def execBypass (s : State) : Host.Outcome State Fault Refusal := .next (tap s .bypass)

/-- DEBUG (R422): the first selection after a boot-sequence reset raises DEBUG_ACCESS; with JTAGEN = 0 it is BYPASS. -/
def execDebug (s : State) : Host.Outcome State Fault Refusal :=
  if !s.bt R.DBG_CTRL 0 then execBypass s
  else
    let s := if s.ports.dbgSeen then s else s.raise FS.DEBUG_ACCESS
    .next (tap (s.updPorts (fun p => { p with dbgSeen := true })) .debug)

/-- What drives the pin of a channel (R421): the level, or none while nothing drives it. -/
def pinDriven (s : State) (n : Fin 96) : Option Bool :=
  if !pinUsable s n then none
  else match s.ports.ir with
  | .highz => none
  | .extest | .clamp => some (s.ports.bdrive.getLsbD n.val)
  | _ => if s.ch[n].padDrv then some s.ch[n].padLvl else none

/-! ## Engine debug (R423) -/

/-- DBG_HALT, DBG_RESUME and DBG_STEP (R423). -/
def writeDbgHalt (s : State) (v : Word) : State := (List.finRange 8).foldl (fun s e => if bit v e.val then haltCmd s e else s) s
def writeDbgResume (s : State) (v : Word) : State := (List.finRange 8).foldl (fun s e => if bit v e.val then resumeCmd s e else s) s
def writeDbgStep (s : State) (v : Word) : State := (List.finRange 8).foldl (fun s e => if bit v e.val then stepCmd s e else s) s

/-- DBG_HALT (R423). -/
def execDbgHalt (_ : Agent) (v : Word) (s : State) : Host.Outcome State Fault Refusal := .next (writeDbgHalt s v)
/-- DBG_RESUME (R423). -/
def execDbgResume (_ : Agent) (v : Word) (s : State) : Host.Outcome State Fault Refusal := .next (writeDbgResume s v)
/-- DBG_STEP (R423). -/
def execDbgStep (_ : Agent) (v : Word) (s : State) : Host.Outcome State Fault Refusal := .next (writeDbgStep s v)

end Sys2Proof.Machine
end

