-- ==== Sys2Proof/Machine/Access.lean ====
section
/-! DEFINITION. Register and memory accesses (R8 to R13, R23 to R25): what a read of an MW0 word returns and does, what a write of
one does, how wide and narrow requests are split, the accesses of the ports, of the debug agent and of the supervisor's
bus commands (R406 to R409, R422). -/

namespace Sys2Proof.Machine

/-! ## Bank registers as the debugger reaches them (R423) -/

/-- The engine and level that DBG_SEL selects, and the register. -/
def dbgEng (s : State) : Fin 8 := Fin.ofNat 8 (s.fl R.DBG_SEL 0 3)
def dbgBank (s : State) : Fin 4 := Fin.ofNat 4 (s.fl R.DBG_SEL 3 2)
def dbgReg (s : State) : Nat := s.fl R.DBG_SEL 8 5

/-- DBG_DATA as read (R424). -/
def dbgRead (s : State) : Word :=
  let x := s.bank (dbgEng s) (dbgBank s)
  match dbgReg s with
  | 16 => x.pc.setWidth 32
  | 17 => x.sp.setWidth 32
  | 18 => x.splim.setWidth 32
  | 19 => x.acc0.setWidth 32
  | 20 => (x.acc0 >>> 32).setWidth 32
  | 21 => x.acc1.setWidth 32
  | 22 => (x.acc1 >>> 32).setWidth 32
  | 23 => x.rc.setWidth 32
  | 24 => x.st
  | 25 => x.acyc.setWidth 32
  | 26 => w32 (s.fl (feOff (dbgEng s) FE.PWIN) (8 * (dbgBank s).val) 8)
  | r => if r < 16 then x.get (Fin.ofNat 16 r) else 0

/-- A write of DBG_DATA (R423): only while the selected engine is halted, else DBG_STAT.ERR. -/
def writeDbgData (s : State) (v : Word) : State :=
  let e := dbgEng s
  let b := dbgBank s
  if !feHalted s e then s.setEv R.DBG_STAT 8
  else
    let lo16 : BitVec 16 := v.setWidth 16
    match dbgReg s with
    | 16 => s.updBank e b (fun x => { x with pc := lo16 })
    | 17 => s.updBank e b (fun x => { x with sp := lo16 })
    | 18 => s.updBank e b (fun x => { x with splim := lo16 })
    | 19 => s.updBank e b (fun x => { x with acc0 := accLow x.acc0 v })
    | 20 => s.updBank e b (fun x => { x with acc0 := accHigh x.acc0 v })
    | 21 => s.updBank e b (fun x => { x with acc1 := accLow x.acc1 v })
    | 22 => s.updBank e b (fun x => { x with acc1 := accHigh x.acc1 v })
    | 23 => s.updBank e b (fun x => { x with rc := lo16 })
    | 24 => s.updBank e b (fun x => { x with st := v &&& 7 })
    | 25 => s.updBank e b (fun x => { x with acyc := acycOf v })
    | 26 => s.setFl (feOff e FE.PWIN) (8 * b.val) 8 (fld v 0 8)
    | r => if r < 16 then s.updBank e b (fun x => x.put (Fin.ofNat 16 r) v) else s

/-- DBG_DATA_WRITE (R423). -/
def execDbgDataWrite (_ : Agent) (v : Word) (s : State) : Host.Outcome State Fault Refusal := .next (writeDbgData s v)

/-! ## Reads -/

/-- The offset at which the registers that all engine blocks share are kept (R197), and every other offset itself. -/
def homeOff (o : Nat) : Nat :=
  if 0x20000 ≤ o && o < 0x22000 && 0x380 ≤ (o - 0x20000) % 0x400 then feGlobOff ((o - 0x20000) % 0x400) else o

/-- A read of a register that clears its RC fields (R9): what the present tick has brought in them stays (R10). -/
def clearRc (s : State) (o : Nat) (r : RegRow) : State :=
  if r.rc = 0 then s
  else
    { s.upd o (fun w => (w &&& ~~~ w32 r.rc) ||| (s.noted o &&& w32 r.rc)) with
      marks := s.marks.map (fun m => if m.off = o then { m with old := m.old &&& ~~~ w32 r.rc } else m) }

/-- The state as a read of the register at `o` sees it: its RC fields as they were before the events of the present tick (R10). -/
def beforeEvents (s : State) (o : Nat) (r : RegRow) : State :=
  match s.marks.find? (fun m => m.off == o) with
  | some m => if r.rc = 0 then s else s.upd o (fun w => (w &&& ~~~ w32 r.rc) ||| (m.old &&& w32 r.rc))
  | none => s

/-- The sum of the staging units of all contexts, as GAL_STAGE reads (R311). -/
def stageUnits (s : State) : Nat := ((List.finRange 16).map (fun g => s.fl (gcOff g GC.CFG) 4 5)).sum

/-- What a register without an instance reads as (R9), for an agent. -/
def readGlob (s : State) (a : Agent) (o : Nat) : Word :=
  if o = R.TB_HI || o = R.SYNCIN_TS_HI then s.lat? a o
  else if o = R.SYNCIN_STAT then syncinStat s a
  else if o = R.FLT_STAT then fltStat s
  else if R.FSRC_STAT ≤ o && o < R.FSRC_STAT + 0x400 then fsrcStatWord s ((o - R.FSRC_STAT) / 4)
  else if R.FLT_PLOG_W ≤ o && o < R.FLT_PLOG_W + 24 then plogRead s ((o - R.FLT_PLOG_W) / 4)
  else if o = R.VEST_STAT then vestStat s
  else if o = R.GAL_STAGE then w32 (stageUnits s)
  else if o = R.LAND_OCC then w32 (landOcc s)
  else if o = R.LAND_PEAK then (if s.marks.any (fun m => m.off == o) then s.rd o else w32 (max (s.fl R.LAND_PEAK 0 17) (landOcc s)))
  else if o = R.LAND_ENTQ then w32 (entqDepth s)
  else if R.SNAP_AREA ≤ o && o < R.SNAP_AREA + 0x228 then snapRead s ((o - R.SNAP_AREA) / 4)
  else if o = R.SUP_ISR then supIsr s
  else if o = R.MC_STAT then mcStat s
  else if o = R.DBG_DATA then dbgRead s
  else s.rd o

/-- What a channel's register reads as (R87). -/
def readChReg (s : State) (a : Agent) (n : Fin 96) (x : Nat) : Word :=
  if x = CH.CNTX || x = CH.CAPB || x = CH.CAPINFO || x = CH.FIFO_X then s.lat? a (chOff n x)
  else if x = CH.FIFOSTAT then setFld (s.rdCh n x) 0 4 s.ch[n].fifo.length
  else if x = CH.AQSTAT then chAqStat s n
  else if x = CH.AQHEAD then chAqHead s n
  else if x = CH.STAT then chStat s n
  else s.rdCh n x

/-- What a Newel's register reads as (R143, R164). -/
def readNwlReg (s : State) (a : Agent) (n : Fin 4) (x : Nat) : Word :=
  if x = NWL.STATE then nwlStateWord s n
  else if x = NWL.ANGLE then nwlAngleWord s n
  else if x = NWL.TOOTHINFO || x = NWL.PERIOD || x = NWL.PRED || x = NWL.RATIO || x = NWL.EVLAST_X then s.lat? a (nwlOff n x)
  else if x = NWL.EVSTAT then evStat s n
  else s.rd (nwlOff n x)

/-- GCg_STAT as read (R312): HELD while another context of a higher priority moves a beat. -/
def gcStat (s : State) (g : Fin 16) : Word :=
  match s.gc[g].work with
  | some (r, k) =>
    let pri (x : Fin 16) : Nat := s.fl (gcOff x GC.CFG) 0 2
    let held := (List.finRange 16).any (fun x => s.gc[x].work.isSome && pri x < pri g)
    let rd := k == .desc && (match s.ring[r].cur with | some d => !d.reads.isEmpty | none => false)
    w32 (1 + held.toNat * 2 + rd.toNat * 4 + r.val * 256)
  | none => w32 (s.gc[g].last % 64 * 256)

/-- A read of an MW0 word without a RAM behind it: the value, and the state after the read's own effect (R9, R40, R48, R64, R71,
R72, R143, R158, R191). -/
def readReg (s : State) (a : Agent) (o : Nat) : Word × State :=
  let o' := homeOff o
  let row := regRow o
  let v := beforeEvents s o' row
  match place o with
  | .glob _ =>
    if o = R.TB_LO then readTbLo s a
    else if o = R.SYNCIN_TS_LO then readSyncTs s a
    else (readGlob v a o, clearRc s o row)
  | .ch n =>
    let x := o - chOff n 0
    if x = CH.CNT then readCnt s a n
    else if x = CH.CAPA then readCapa s a n
    else if x = CH.FIFO_T then readFifoT s a n
    else (readChReg v a n x, clearRc s o row)
  | .pg m =>
    let x := o - pgOff m 0
    (if x = PG.STAT then pgStat s m else if x = PG.TRIPSTAT then pgTripstat v m else v.rd o, clearRc s o row)
  | .nwl n =>
    let x := o - nwlOff n 0
    if x = NWL.TOOTHT then readToothT s a n
    else if x = NWL.EVLAST_T then readEvlastT s a n
    else (readNwlReg v a n x, clearRc s o row)
  | .ev _ _ => (s.rd o, s)
  | .fe e =>
    let x := o - feOff e 0
    if x = FE.STAT then (feStat s e, s)
    else if e.val < 6 && (x = FE.WRAPLO || x = FE.WRAPHI || x = FE.WRAPACT) then (0, s)
    else (v.rd o', clearRc s o' row)
  | .ln k =>
    let x := o - lnOff k 0
    if x = LN.RXBUF then readRxbuf s k
    else (if x = LN.STAT then laneStat v k else s.rd o, clearRc s o row)
  | .ring _ => (v.rd o, clearRc s o row)
  | .gc g => (if o - gcOff g 0 = GC.STAT then gcStat s g else v.rd o, clearRc s o row)
  | .cap r =>
    let x := o - capOff r 0
    (if x = CAP.STAT then setFld (s.rd o) 0 17 (ringOcc s r) else v.rd o, clearRc s o row)
  | .txn _ => (s.rd o, s)
  | .ram => (s.memWord o, s)
  | .hole => (0, s)

/-- Whether an offset lies in CHEST_BUF, which reads 0 and takes no write while a Chest command runs (R367). -/
def chestBufBusy (s : State) (o : Nat) : Bool := 0x3100 ≤ o && o < 0x3300 && chestBusy s

/-- An offset in parameter RAM. -/
def isPram (o : Nat) : Bool := 0x60000 ≤ o && o < 0xA0000

/-- Parameter RAM serves a port ahead of the engines (R167). -/
def notePram (s : State) (a : Agent) (o : Nat) : State :=
  if !isPram o then s
  else match a with
    | .host => s.servePram 0
    | .sup => s.servePram 1
    | _ => s

/-- A read of the word at an MW0 offset by an agent: a write-only field, a reserved field and a hole read 0 (R9, R11, R12). -/
def serveRead (s : State) (a : Agent) (o : Nat) : Word × State :=
  if isRam o then (if chestBufBusy s o then 0 else s.memWord o, notePram s a o)
  else match regRow? o with
    | some row =>
      let r := readReg s a o
      (if row.wo = 0 then r.1 else 0, r.2)
    | none => (0, s)

/-! ## Writes -/

/-- Whether a write sets a reserved or read-only bit, or a reserved encoding (R9, R11, R13). -/
def writeBad (r : RegRow) (v : Word) : Bool :=
  v &&& ~~~ w32 (r.rw ||| r.wo ||| r.w1c ||| r.w1s ||| r.rc) != 0 || r.rsvd.any (fun f => decide (f.2.2 ≤ fld v f.1 f.2.1))

/-- The plain effect of a write on the stored word (R9): a W1C bit that the device has set in the present tick stays (R10). -/
def plainWrite (s : State) (o : Nat) (r : RegRow) (v : Word) : State :=
  s.upd o (fun w => ((((w &&& ~~~ w32 r.rw) ||| (v &&& w32 r.rw)) &&& ~~~ (v &&& w32 r.w1c &&& ~~~ s.noted o)) ||| (v &&& w32 r.w1s)))

/-- A write of a register without an instance. -/
def writeGlob (s : State) (a : Agent) (o : Nat) (r : RegRow) (v : Word) : State :=
  let s := if fltKept o then s.journal o else s
  if o = R.CLK_CTRL then writeClkCtrl s v
  else if o = R.LCLK_TRIM then writeLclkTrim s v
  else if o = R.TB_SLEW then writeTbSlew s a v
  else if o = R.TB_CMD then writeTbCmd s a v
  else if o = R.SYNCOUT_CTRL then writeSyncoutCtrl s v
  else if o = R.SYNCOUT_WIDTH then writeSyncoutWidth s v
  else if R.CLK_FRZ0 ≤ o && o ≤ R.CLK_FRZ2 then writeClkFrz s (Fin.ofNat 3 ((o - R.CLK_FRZ0) / 4)) v
  else if o = R.PWR_CMD then writePwrCmd s v
  else if o = R.RST_SW then writeRstSw s v
  else if R.LOB_WT_T ≤ o && o < 0x200 then writeLob s (Fin.ofNat 8 ((o - R.LOB_WT_T) / 0x10)) o v
  else if o = R.FLT_CTRL || o = R.FLT_STAT then (plainWrite s o r v).later' 2 .errn
  else if o = R.FLT_CMD then writeFltCmd s v
  else if o = R.FLT_INJ then injectCmd s v
  else if R.FLT_PEND ≤ o && o < R.FLT_PEND + 32 then clearPend s (Fin.ofNat 8 ((o - R.FLT_PEND) / 4)) v
  else if R.FLT_SAFE_M ≤ o && o < R.FLT_SAFEACT then writeSafeMask s o v
  else if o = R.FLT_SAFECLR then safeclrCmd s v
  else if o = R.BG_REQ then writeBgReq s v
  else if o = R.VEST_CTRL then startRefusing (plainWrite s o r v)
  else if o = R.CHEST_CMD then writeChestCmd s v
  else if o = R.RING_SUPLOCK0 || o = R.RING_SUPLOCK1 then writeSuplock s a (Fin.ofNat 2 ((o - R.RING_SUPLOCK0) / 4)) v
  else if o = R.GAL_MARK then galMark s a v
  else if o = R.SNAP_CMD then writeSnapCmd s a v
  else if o = R.SUP_HB_CTRL then writeHbCtrl s a v
  else if o = R.SUP_HB_KICK then writeHbKick s a v
  else if o = R.PEER_CFG then writePeerCfg s v
  else if o = R.MC_CMD then writeMcCmd s v
  else if o = R.DBG_HALT then writeDbgHalt s v
  else if o = R.DBG_RESUME then writeDbgResume s v
  else if o = R.DBG_STEP then writeDbgStep s v
  else if o = R.DBG_DATA then writeDbgData s v
  else plainWrite s o r v

/-- The shadow register of a channel at a block offset. -/
def shadowAt (x : Nat) : Option Shadow :=
  if x = CH.PERIOD then some .period
  else if CH.CMPA ≤ x && x ≤ CH.CMPD then some (.cmp (Fin.ofNat 4 ((x - CH.CMPA) / 4)))
  else if x = CH.CMPFINE then some .cmpFine
  else none

/-- A write of a channel's register (R83, R87). A write of RMODE restarts decimation (R73). -/
def writeCh (s : State) (a : Agent) (n : Fin 96) (o : Nat) (r : RegRow) (v : Word) : State :=
  let x := o - chOff n 0
  let s := s.journal o
  if x = CH.CTRL then writeChCtrl s a n v
  else if x = CH.OUTCFG then writeOutcfg s n v
  else if x = CH.REC then (plainWrite s o r v).updCh n (fun c => { c with decim := 0 })
  else if x = CH.PWM then writeChPwm s a n v
  else if x = CH.CMD then writeChCmd s n v
  else if x = CH.CNT then chCntWrite s n v
  else if x = CH.AQ_T then s.setLat a o v
  else if x = CH.AQ_A then writeAqA s a n v
  else match shadowAt x with
    | some sh => writeShadow s n sh (v &&& w32 r.rw)
    | none => plainWrite s o r v

/-- A write of a group's register (R89 to R111). -/
def writePg (s : State) (m : Fin 16) (o : Nat) (r : RegRow) (v : Word) : State :=
  let x := o - pgOff m 0
  let s := s.journal o
  if x = PG.CTRL then writePgCtrl s m v
  else if x = PG.CMD then writePgCmd s m v
  else if x = PG.CNT then s.updPg m (fun g => { g with cntWr := some v })
  else if x = PG.PERIOD then writePgPeriod s m v
  else if x = PG.TRIP then writePgTrip s m v
  else if PG.MPH ≤ x && x < PG.MPH + 48 then writePgPhase s m (Fin.ofNat 12 ((x - PG.MPH) / 4)) v
  else plainWrite s o r v

/-- A write of a Newel's register (R112, R116, R123, R155): the description is locked while EN = 1. -/
def writeNwl (s : State) (n : Fin 4) (o : Nat) (r : RegRow) (v : Word) : State :=
  let x := o - nwlOff n 0
  let s := s.journal o
  if x = NWL.CTRL then writeNwlCtrl s n v
  else if x = NWL.CMD then writeNwlCmd s n v
  else if x = NWL.EVCTRL then writeEvctrl s n v
  else if nwlLocked x && s.bt (nwlOff n NWL.CTRL) 0 then s.raise FS.NWL_DESC (w32 n.val)
  else plainWrite s o r v

/-- A write of an engine's register or of one that all engines share (R197, R198). -/
def writeFe (s : State) (a : Agent) (e : Fin 8) (o : Nat) (r : RegRow) (v : Word) : State :=
  let x := o - feOff e 0
  if x = FE.CMD then writeFeCmd s a e v
  else if x = FE.CODE then writeFeCode s a e v
  else if x = FE.WRAPLO || x = FE.WRAPHI then
    if e.val < 6 then s
    else
      let s := plainWrite s o r v
      if feRun s e then s else s.later' 1 (.wrapLoad e)
  else if x = FE.MBXDB then writeMbxdb s a e v
  else if x = FE.MBXACK then writeMbxack s e v
  else if FE.MBX_W ≤ x && x < FE.MBX_W + 0x100 then writeMbxWord s a e x v
  else if FE.TH ≤ x && x < FE.TH + 0x80 then writeTh s a e (Fin.ofNat 32 ((x - FE.TH) / 4)) v
  else if x = FE.GO then writeGo s v
  else if FE.BAR ≤ x && x < FE.BAR + 32 then writeBar s (Fin.ofNat 8 ((x - FE.BAR) / 4)) v
  else plainWrite s (homeOff o) r v

/-- A write of a lane's register (R189 to R201). -/
def writeLn (s : State) (a : Agent) (k : Fin 16) (o : Nat) (r : RegRow) (v : Word) : State :=
  let x := o - lnOff k 0
  if x = LN.CTRL then writeLnCtrl s a k v
  else if x = LN.PINS then writeLnPins s k v
  else if x = LN.CMD then writeLnCmd s k v
  else if x = LN.TXBUF then writeTxbuf s k v
  else plainWrite s o r v

/-- A write of a ring's register (R264, R266, R288). -/
def writeRing (s : State) (a : Agent) (k : Fin 64) (o : Nat) (r : RegRow) (v : Word) : State :=
  let x := o - ringOff k 0
  if x = RING.CFG then writeRingCfg s a k v
  else if RING.BASE_LO ≤ x && x ≤ RING.WB_HI then writeRingAddr s a k x v
  else if x = RING.DB then ringDoorbell s a k v
  else if x = RING.CMD then writeRingCmd s k v
  else plainWrite s o r v

/-- A write of GCg_CFG (R312): SBUF outside 1 to 16, while BUSY, or past 64 units in all stays as it is and raises GAL_CFG. -/
def writeGc (s : State) (a : Agent) (g : Fin 16) (o : Nat) (r : RegRow) (v : Word) : State :=
  if o - gcOff g 0 = GC.CFG then
    let old := s.fl o 4 5
    let new := fld v 4 5
    let s := s.setFl o 0 2 (fld v 0 2)
    if new = 0 || 16 < new || s.gc[g].work.isSome || 64 < stageUnits s - old + new then s.raise FS.GAL_CFG (accessDetail a o)
    else s.setFl o 4 5 new
  else plainWrite s o r v

/-- A write of a transaction's register (R314 to R328). -/
def writeTxn (s : State) (a : Agent) (t : Fin 8) (o : Nat) (r : RegRow) (v : Word) : State :=
  let x := o - txnOff t 0
  if x = TXN.CMD then writeTxnCmd s a t v
  else if x = TXN.SOFS then s.setLat a o (v &&& 0xFFFFC)
  else if x = TXN.SVAL then writeSval s a t v
  else plainWrite s o r v

/-- The slot register at an offset within its slot. -/
def slotRegAt (x : Nat) : SlotReg := if x = EV.ANG then .ang else if x = EV.CFG then .cfg else if x = EV.COMMIT then .commit else .late

/-- The bits reserved on some instances only: THk.WRAP and the wrap registers of FE0 to FE5 (R187). -/
def reservedHere (o : Nat) (v : Word) : Bool :=
  match place o with
  | .fe e =>
    let x := o - feOff e 0
    e.val < 6 && ((FE.TH ≤ x && x < FE.TH + 0x80 && bit v 19) || ((x = FE.WRAPLO || x = FE.WRAPHI) && v != 0))
  | _ => false

/-- Whether a write raises RSVD_WRITE by its row alone; registers whose own rule says more raise it there. -/
def raisesRsvd (o : Nat) (r : RegRow) (v : Word) : Bool :=
  (writeBad r v || reservedHere o v) && o != R.TB_SLEW && o != R.SUP_HB_CTRL && o != R.SUP_HB_KICK

/-- A write of a whole register word by an agent (R9 to R13): reserved bits raise RSVD_WRITE and the rest of the write acts. -/
def writeReg (s : State) (a : Agent) (o : Nat) (v : Word) : State :=
  match regRow? o with
  | none => if v = 0 then s else s.rsvd a o
  | some r =>
    let s := if raisesRsvd o r v then s.rsvd a o else s
    match place o with
    | .glob _ => writeGlob s a o r v
    | .ch n => writeCh s a n o r v
    | .pg m => writePg s m o r v
    | .nwl n => writeNwl s n o r v
    | .ev n k => writeSlot s n k (slotRegAt (o - evOff n k 0)) v
    | .fe e => writeFe s a e o r v
    | .ln k => writeLn s a k o r v
    | .ring k => writeRing s a k o r v
    | .gc g => writeGc s a g o r v
    | .cap _ => plainWrite s o r v
    | .txn t => writeTxn s a t o r v
    | .ram => s
    | .hole => s

/-- The port number of an agent in FE_CODEWR (R198). -/
def codePort : Agent → Nat
  | .sup => CodePort.sup
  | .debug => CodePort.debug
  | _ => CodePort.host

/-- A write of the bytes `be` of a RAM word (R8, R181, R367). -/
def writeRam (s : State) (a : Agent) (o be : Nat) (v : Word) : State :=
  if 0x40000 ≤ o && o < 0x60000 then writeCode s o be v (codePort a)
  else if chestBufBusy s o then s
  else s.setMem o be v

/-- A write of the bytes `be` of the word at an MW0 offset (R8): a partial write of a register is ignored with ACCESS_WIDTH. -/
def serveWrite (s : State) (a : Agent) (o be : Nat) (v : Word) : State :=
  if isRam o then writeRam (notePram s a o) a o be v
  else if be % 16 = 15 then writeReg s a o v
  else s.raise FS.ACCESS_WIDTH (accessDetail a o)

/-! ## The windows of the host port (R23, R401) -/

/-- A window of the address space, and the offset in it. The model numbers MW0 from 0, MW2 from 0x100000 and MW4 from 0x200000. -/
inductive Window where
  | mw0 (o : Nat)
  | mw2 (o : Nat)
  | mw4 (o : Nat)
deriving DecidableEq, Repr

/-- The window of an offset. -/
def window (o : Nat) : Option Window :=
  if o < 0x100000 then some (.mw0 o)
  else if o < 0x200000 then (if o - 0x100000 < 0x40000 then some (.mw2 (o - 0x100000)) else none)
  else if o - 0x200000 < 0x2000 then some (.mw4 (o - 0x200000))
  else none

/-- A read of a word of MW2 (R263): DONE or TAIL of the ring at the start of its page, and 0 elsewhere. -/
def readMw2 (s : State) (o : Nat) : Word :=
  let r := Fin.ofNat 64 (o / 0x1000)
  if o % 0x1000 = 0 then s.rdRing r (if ownerProduced s r then RING.DONE else RING.TAIL) else 0

/-- A write of a word of MW2: the doorbell at the start of a ring's page. -/
def writeMw2 (s : State) (a : Agent) (o be : Nat) (v : Word) : State :=
  if be % 16 != 15 then s.raise FS.ACCESS_WIDTH (accessDetail a o)
  else if o % 0x1000 = 0 then ringDoorbell s a (Fin.ofNat 64 (o / 0x1000)) v
  else s

/-- A word of MW4 (R401): the MSI-X table, the Pending Bit Array, and 0 elsewhere. -/
def readMw4 (s : State) (o : Nat) : Word :=
  if o < 0x400 then s.memWord (0x200000 + o)
  else if o = 0x1000 then w32 s.pcie.pba
  else if o = 0x1004 then w32 (s.pcie.pba / 2 ^ 32)
  else 0

/-- A write of a word of MW4: the table takes it, and a vector that is no longer masked sends what it has pending. -/
def writeMw4 (s : State) (o be : Nat) (v : Word) : State :=
  if o < 0x400 then pbaSend (s.setMem (0x200000 + o) be v) else s

/-- A read of one word of a window. -/
def readWord (s : State) (a : Agent) : Window → Word × State
  | .mw0 o => serveRead s a o
  | .mw2 o => (readMw2 s o, s)
  | .mw4 o => (readMw4 s o, s)

/-- A write of the bytes `be` of one word of a window. -/
def writeWord (s : State) (a : Agent) (be : Nat) (v : Word) : Window → State
  | .mw0 o => serveWrite s a o be v
  | .mw2 o => writeMw2 s a o be v
  | .mw4 o => writeMw4 s o be v

/-! ## Requests of the ports (R8, R387, R402) -/

/-- Whether a port's access waits until TB counts TBCLK again: in DOZE, and while DOZE ends (R387). The debug agent is no port: it is served
at once and ends no DOZE. -/
def accessWaits (s : State) (a : Agent) : Bool :=
  (a == .host || a == .sup) && s.power.boot == .done && (pwrMode s == 1 || (!s.tbclk && !s.bt R.CLK_STAT 6))

/-- Whether a READ descriptor of a port still reads registers, so that the port's own reads wait (R271). -/
def readBusy (s : State) (a : Agent) : Bool :=
  (List.finRange 64).any (fun r =>
    match s.ring[r].cur with
    | some d => fld d.w0 0 8 == 3 && d.moving && !d.ended && decide (d.prog < fld (d.ws.getD 1 0) 20 7)
        && a == (if hostOwned s r then .host else .sup)
    | none => false)

/-- Whether a host access is completed without effect: in D3hot (R402). -/
def unsupported (s : State) (a : Agent) : Bool := a == .host && s.pcie.d3

/-- The bytes of the word at `off / 4` that a request of `size` bytes at `off` covers, as byte enables, and how many of the request's
bytes those are. -/
def firstBytes (off size : Nat) : Nat × Nat :=
  let k := min size (4 - off % 4)
  ((2 ^ k - 1) * 2 ^ (off % 4), k)

/-- A command that the target ignores (R409): SUP_STAT.PROTO and NOTICE XSPI_PROTO. -/
def xspiProto (s : State) : State := (s.setEv R.SUP_STAT 1).raise FS.XSPI_PROTO

/-- The window and the byte offset in the model's numbering that a request reaches, none where no window takes it. A host request that
spans two windows, or is larger than 8 bytes in MW0 or MW2, is completed with Unsupported Request (R402), as one that no window
holds. The supervisor's and the debug agent's address is the MW0 offset, which continues at 0 behind its end. -/
def reach (a : Agent) (off size : Nat) : Option Nat :=
  let inside (lo hi : Nat) : Bool := decide (lo ≤ off) && decide (off + size ≤ hi)
  match a with
  | .host => if ((inside 0 0x100000 || inside 0x100000 0x140000) && size ≤ 8) || inside 0x200000 0x202000 then some off else none
  | _ => some (off % 0x100000)

/-- Whether a port is served at all: the core is not held in reset, nor off in DORMANT (R22, R391), and the supervisor port is up (R406).
An engine reaches registers by IN and OUT alone, and a Newel none (R17). -/
def served (s : State) (a : Agent) : Bool :=
  isPort a && coreOn s && (a != .sup || supServes s)

/-- A request goes on in the next cycle with its further bytes (R8). -/
def restWrite (s : State) (c : Nat → Nat → BitVec 64 → Instr) (off size k : Nat) (v : BitVec 64) : State :=
  if k < size then s.after 1 (c (off + k) (size - k) (v >>> (8 * k))) else s

/-- The aligned word of a window. -/
def Window.align : Window → Window
  | .mw0 o => .mw0 (o / 4 * 4)
  | .mw2 o => .mw2 (o / 4 * 4)
  | .mw4 o => .mw4 (o / 4 * 4)

/-- A write request: its first word is served, and the rest follows in the next cycle. What cannot be served has no effect: a supervisor
address with nonzero upper bits is a malformed transaction (R409), a host request outside the windows an Unsupported Request
(R402). -/
def requestWrite (s : State) (a : Agent) (c : Nat → Nat → BitVec 64 → Instr) (off size : Nat) (v : BitVec 64) :
    Host.Outcome State Fault Refusal :=
  if !served s a then .next s
  else if a == .sup && 0x100000 ≤ off then .next (xspiProto s)
  else if unsupported s a then .next (wakeLink s)
  else if accessWaits s a then .next ((s.after 0 .dozeExit).after 1 (c off size v))
  else
    let s := if a = .host then wakeLink s else s
    match (reach a off size).bind (fun o => (window o).map (fun w => (o, w))) with
    | none => .next s
    | some (o, w) =>
      let f := firstBytes o size
      .next (restWrite (writeWord s a f.1 ((v <<< (8 * (o % 4))).setWidth 32) w.align) c o size f.2 v)

/-- REGISTER_WRITE (R8 to R13). -/
def execRegisterWrite (a : Agent) (off size : Nat) (v : BitVec 64) (s : State) : Host.Outcome State Fault Refusal :=
  requestWrite s a (.registerWrite a) off size v

/-- CODE_RAM_WRITE (R181): a write request, into the code RAM window where its address lies there. -/
def execCodeRamWrite (a : Agent) (off size : Nat) (v : BitVec 64) (s : State) : Host.Outcome State Fault Refusal :=
  requestWrite s a (.codeRamWrite a) off size v

/-- The bytes of a word that a request addresses, at the place of its first byte. -/
def narrow (v : Word) (off k : Nat) : Word := (v >>> (8 * (off % 4))) &&& w32 (2 ^ (8 * k) - 1)

/-- RC_READ (R8, R9): a read request; its words are read in ascending order, and the port keeps the last one. What cannot be served has no
effect. -/
def execRcRead (a : Agent) (off size : Nat) (s : State) : Host.Outcome State Fault Refusal :=
  if !served s a then .next s
  else if a == .sup && 0x100000 ≤ off then .next (xspiProto s)
  else if unsupported s a then .next (wakeLink s)
  else if accessWaits s a then .next ((s.after 0 .dozeExit).after 1 (.rcRead a off size))
  else if readBusy s a then .next (s.after 1 (.rcRead a off size))
  else
    let s := if a = .host then wakeLink s else s
    match (reach a off size).bind (fun o => (window o).map (fun w => (o, w))) with
    | none => .next s
    | some (o, w) =>
      let f := firstBytes o size
      let r := readWord s a w.align
      let s := r.2.keep a (narrow r.1 o f.2)
      .next (if f.2 < size then s.after 1 (.rcRead a (o + f.2) (size - f.2)) else s)

/-! ## The supervisor's bus commands (R406 to R409) -/

/-- Words read one after another from an offset on, in ascending order. -/
def readBurst : Nat → Nat → State → List Word × State
  | 0, _, s => ([], s)
  | n + 1, o, s =>
    let r := serveRead s .sup (o % 0x100000)
    let t := readBurst n (o + 4) r.2
    (r.1 :: t.1, t.2)

/-- Whether words of a WRITE wait in the write buffer: a READ that follows it returns data only after them (R408). -/
def xspiWriting (s : State) : Bool := s.agenda.any (fun d => match d.cmd with | .xspiWrite _ _ => true | _ => false)

/-- XSPI_READ (R407): `len` words are clocked out, and one word beyond them is read as well. A READ in DOZE ends DOZE, and while
its first word is not ready all words are sent as ones. -/
def execXspiRead (off : Nat) (len : Nat) (s : State) : Host.Outcome State Fault Refusal :=
  if !supServes s then .next s
  else if 0x100000 ≤ off then .next (xspiProto s)
  else if accessWaits s .sup then
    let s := (s.after 0 .dozeExit).setEv R.SUP_STAT 0
    .next ((s.updPorts (fun p => { p with supData := List.replicate len 0xFFFFFFFF })).keep .sup 0xFFFFFFFF)
  else if readBusy s .sup || xspiWriting s then .next (s.after 1 (.xspiRead off len))
  else
    let r := readBurst (len + 1) (off / 4 * 4) s
    let ws := r.1.take len
    .next ((r.2.updPorts (fun p => { p with supData := ws })).keep .sup (ws.getLastD 0))

/-- The word of a byte list at the place `o % 4` of its word, its byte enables and how many bytes it takes. -/
def xspiWord (o : Nat) (bs : List Byte) : Word × Nat × Nat :=
  let f := firstBytes o bs.length
  let b (i : Nat) : Byte := if i < o % 4 then 0 else bs.getD (i - o % 4) 0
  (wordOfBytes (b 0) (b 1) (b 2) (b 3), f.1, f.2)

/-- XSPI_WRITE (R408): one word is served in each cycle from the write buffer; of registers only whole words. While DOZE ends the
buffer of 16 words holds them, and bytes beyond it are discarded with NRDY. -/
def execXspiWrite (off : Nat) (data : List Byte) (s : State) : Host.Outcome State Fault Refusal :=
  if !supServes s then .next s
  else if 0x100000 ≤ off then .next (xspiProto s)
  else match data with
    | [] => .next s
    | _ =>
      if accessWaits s .sup then
        let s := if 64 < data.length then s.setEv R.SUP_STAT 0 else s
        .next ((s.after 0 .dozeExit).after 1 (.xspiWrite off (data.take 64)))
      else
        let x := xspiWord off data
        let s := serveWrite s .sup (off / 4 * 4) x.2.1 x.1
        let rest := data.drop x.2.2
        .next (if rest.isEmpty then s else s.after 1 (.xspiWrite ((off + x.2.2) % 0x100000) rest))

/-! ## The debug agent (R422) -/

/-- Whether engines act in this tick behind the commands from outside. -/
def enginesToCome (s : State) : Bool := s.phase == 0 && (List.finRange 8).any (feRun s)

/-- DEBUG_UPDATE_DR (R422): a word access of the debug agent at the register's ADDR, with OK set when it has completed; it is served behind the
engines of its cycle. Without JTAGEN the instruction acts as BYPASS. -/
def execDebugUpdateDr (dr : BitVec 54) (s : State) : Host.Outcome State Fault Refusal :=
  if s.ports.ir != .debug || !s.bt R.DBG_CTRL 0 || !coreOn s then .next s
  else if enginesToCome s then .next ((s.updPorts (fun p => { p with dbgOk := false })).after 0 (.debugUpdateDr dr))
  else
    let o := dr.toNat / 2 ^ 32 % 2 ^ 20 / 4 * 4
    let s := s.updPorts (fun p => { p with dbgOk := true })
    if dr.getLsbD 52 then .next (serveWrite s .debug o 15 (dr.setWidth 32))
    else
      let r := serveRead s .debug o
      .next (r.2.keep .debug r.1)

end Sys2Proof.Machine
end

