-- ==== Sys2Proof/Machine/Boot.lean ====
section
/-! DEFINITION. The boot sequence (R389, R394 to R396): from VDD good over the crystal, the PLL, the self-test of the SRAMs, the patch and the
configuration image to the start of the engines. -/

namespace Sys2Proof.Machine

/-- VDD_GOOD (R376, R389, R394): the boot begins, with the VIO banks that are present. In DORMANT it follows a wake, or is one itself
when VDD has fallen below its reset level since the entry. -/
def execVddGood (vio : BitVec 3) (s : State) : Host.Outcome State Fault Refusal :=
  let s := if s.power.dormant && !s.power.woken && s.power.vddFell then wake s 3 0 else s
  if s.power.boot != .held || (s.power.dormant && !s.power.woken) then .next s
  else
    -- A wake takes a boot-sequence reset (R391).
    let s := if s.power.dormant then coreReset s false else s
    let s := s.updPower (fun p => { p with boot := .crystal, goodAt := s.ticks, dormant := false, woken := false, vddFell := false,
                                           wakeLow := false, woutActive := false })
    let s := s.setFl R.PWR_STAT 8 3 vio.toNat
    .next (setArmed (if s.power.pfail then clockLevels s else s))

/-- XIN_RUNNING (R394, R34): step 2 of the boot begins, or the reference clock is back. -/
def execXinRunning (s : State) : Host.Outcome State Fault Refusal :=
  if s.power.boot = .held then .next s
  else
    let s := (s.setBt R.CLK_STAT 1 true).endLevel FS.XIN_LOSS
    .next (if s.power.boot = .crystal then s.updPower (fun p => { p with boot := .pll }) else s)

/-- BOOT_PATCH_LOAD (R255, R394): step 3 has ended, with a failed self-test or not; the container of the Chest, if there is one, is
verified, and step 5 follows 2.5 ms later. -/
def execBootPatchLoad (s : State) : Host.Outcome State Fault Refusal :=
  if s.power.boot != .sram then .next s
  else
    let s := s.updPower (fun p => { p with boot := .patch })
    let (w, s) := s.fresh
    let s := if bit w 0 then (s.setBt R.BOOT_STAT 3 true).raise FS.BIST_FAIL else s
    let s := if s.chestWord 0x1000 = 0 then s.setBt R.MC_STAT 2 true else mcVerify s (chestBtc s) true false
    .next (s.afterTicks 1000000 .configImageApply)

/-! ## The configuration image (R395, R396) -/

/-- Word `i` of the image. -/
def imgWord (s : State) (i : Nat) : Word := s.chestWord (0x2000 + 4 * i)

/-- NENT of the image. -/
def imgCount (s : State) : Nat := (imgWord s 3).toNat

/-- The entries of the image. -/
def imgEntries (s : State) : List (Word × Word) := (List.range (imgCount s)).map (fun i => (imgWord s (8 + 2 * i), imgWord s (9 + 2 * i)))

/-- One bit of CRC-32 with the reflected polynomial of IEEE 802.3. -/
def crcBit (c : Word) : Word := if bit c 0 then (c >>> 1) ^^^ 0xEDB88320 else c >>> 1

/-- A byte added to a CRC-32. -/
def crcByte (c : Word) (b : Byte) : Word := crcBit (crcBit (crcBit (crcBit (crcBit (crcBit (crcBit (crcBit (c ^^^ b.setWidth 32))))))))

/-- CRC-32 of bytes. -/
def crc32 (bs : List Byte) : Word := ~~~ bs.foldl crcByte 0xFFFFFFFF

/-- The end of the region of the MW0 layout that an offset lies in (R23). -/
def regionEnd (o : Nat) : Nat :=
  if o < 0x4000 then (o / 0x1000 + 1) * 0x1000
  else if o < 0x5000 then 0x5000
  else if o < 0x8000 then 0x8000
  else if o < 0xB000 then (o / 0x1000 + 1) * 0x1000
  else if o < 0xC000 then 0xC000
  else if o < 0xC800 then 0xC800
  else if o < 0xD000 then 0xD000
  else if o < 0xE000 then 0xE000
  else if o < 0x10000 then 0x10000
  else if o < 0x16000 then 0x16000
  else if o < 0x18000 then 0x18000
  else if o < 0x20000 then 0x20000
  else if o < 0x22000 then 0x22000
  else if o < 0x30000 then 0x30000
  else if o < 0x38000 then 0x38000
  else if o < 0x40000 then 0x40000
  else if o < 0x60000 then 0x60000
  else if o < 0xA0000 then 0xA0000
  else if o < 0xE0000 then (o / 0x8000 + 1) * 0x8000
  else if o < 0xF0000 then 0xF0000
  else 0x100000

/-- Whether `n` words from an offset on may be written by an image. -/
def imgRange (o n : Nat) : Bool :=
  decide (o + 4 * n ≤ regionEnd o) && !(o < 0x200 && 0x100 < o + 4 * n) && !(0xE0000 ≤ o && o < 0xF0000)

/-- The words of the data entries of a block. -/
def blockData (es : List (Word × Word)) : List Word := es.flatMap (fun e => [e.1, e.2])

/-- The actions of an image: single writes, and waits as OP 2; none where an entry is not valid. -/
def imgActions : Nat → List (Word × Word) → Option (List (Word × Word))
  | 0, _ => some []
  | _ + 1, [] => some []
  | fuel + 1, (w0, w1) :: rest =>
    let o := fld w0 0 20
    if w0 &&& 0xF0F00003 != 0 then none
    else match fld w0 24 4 with
      | 0x0 => if imgRange o 1 then (imgActions fuel rest).map ((w0, w1) :: ·) else none
      | 0x1 =>
        let n := w1.toNat
        let k := (n + 1) / 2
        if n = 0 || 32760 < n || rest.length < k || !imgRange o n then none
        else
          let ws := (blockData (rest.take k)).take n
          (imgActions fuel (rest.drop k)).map (ws.zipIdx.map (fun w => (w32 (o + 4 * w.2), w.1)) ++ ·)
      | 0x2 => if w1.toNat ≤ 10000 then (imgActions fuel rest).map ((w0, w1) :: ·) else none
      | 0xF => some []
      | _ => none

/-- The results of the check (R399, BOOT_STAT.CFGRES). -/
abbrev CFG.NONE : Nat := 0
abbrev CFG.OK : Nat := 1
abbrev CFG.FORMAT : Nat := 2
abbrev CFG.CRC : Nat := 3
abbrev CFG.CONTENT : Nat := 4
abbrev CFG.ECC : Nat := 5

/-- Whether a word of the image failed to read. -/
def imgBad (s : State) : Bool := s.chestCtl.errs.any (fun a => 0x2000 ≤ a && a < 0x2020 + 8 * min 16380 (imgCount s))

/-- The check of the whole image (R396): its result, and the actions of one that passes. -/
def imgCheck (s : State) : Nat × List (Word × Word) :=
  if imgBad s then (CFG.ECC, [])
  else if imgWord s 0 = 0 then (CFG.NONE, [])
  else if imgWord s 0 != 0x47464348 || fld (imgWord s 1) 0 16 != 1 || imgWord s 2 != 0x809600A1 || imgCount s = 0 || 16380 < imgCount s then
    (CFG.FORMAT, [])
  else if crc32 ((List.range (8 * imgCount s)).map (fun i => s.chestByte (0x2020 + i))) != imgWord s 4 then (CFG.CRC, [])
  else if fld (imgWord s 1) 16 16 != 0 || imgWord s 6 != 0 || imgWord s 7 != 0 then (CFG.CONTENT, [])
  else match imgActions (imgCount s) (imgEntries s) with
    | some xs => (CFG.OK, xs)
    | none => (CFG.CONTENT, [])

/-- What step 5 loads from the Chest (R370, R384): the lifetime counters, with the boot counted, and the last snapshot's registers. -/
def loadChest (s : State) : State :=
  let s := lifeRegs.foldl (fun s o => s.wr o (s.chestWord (0x36000 + (o - R.LIFE_SECS)))) s
  let s := s.satFl R.LIFE_BOOTS 0 32
  let valid := s.chestWord lgsArea == 0x4853474C
  let get (i : Nat) : Word := if valid then s.chestWord (lgsArea + 4 * i) else 0
  let s := ((s.wr R.LGS_STAT (get 1)).wr R.LGS_TB_LO (get 2)).wr R.LGS_TB_HI (get 3)
  s.updPower (fun p => { p with taken := (s.chestWord (lgsArea + 20)).toNat })

/-- Step 5 has ended: the engines start in the next tick. -/
def imageDone (s : State) : State := s.after 1 .autogoStart

/-- The next action of the image is carried out, one in a cycle (R396). -/
def imageStep (s : State) : State :=
  match s.power.image with
  | [] => imageDone s
  | (w0, w1) :: rest =>
    let s := s.updPower (fun p => { p with image := rest })
    if fld w0 24 4 = 2 then s.afterTicks (400 * w1.toNat) .imageWaitExpiry
    else
      let s := serveWrite s .host (fld w0 0 20) 15 w1
      if rest.isEmpty then imageDone (s.wr R.BOOT_IMGREL s.power.imgrel) else s.after 1 .configImageApply

/-- CONFIG_IMAGE_APPLY (R394 to R396): step 5 loads from the Chest and checks the image; a passing image is applied, one action in a
cycle. -/
def execConfigImageApply (s : State) : Host.Outcome State Fault Refusal :=
  match s.power.boot with
  | .patch =>
    let s := loadChest s
    let r := imgCheck s
    let s := (s.setFl R.BOOT_STAT 0 3 r.1).updChest (fun c => { c with errs := [] })
    let s := s.updPower (fun p => { p with boot := .image, image := r.2, imgrel := imgWord s 5 })
    .next (if r.1 = CFG.OK then
        (if r.2.isEmpty then imageDone (s.wr R.BOOT_IMGREL s.power.imgrel) else s.after 1 .configImageApply)
      else imageDone s)
  | .image => .next (if s.power.image.isEmpty then s else imageStep s)
  | _ => .next s

/-- IMAGE_WAIT_EXPIRY (R395): a wait of the image is over. -/
def execImageWaitExpiry (s : State) : Host.Outcome State Fault Refusal :=
  .next (if s.power.boot = .image then
      (if s.power.image.isEmpty then imageDone (s.wr R.BOOT_IMGREL s.power.imgrel) else imageStep s)
    else s)

/-- AUTOGO_START (R394, R338): step 5 has ended. Engines with AUTOGO start together as one FE_GO, ERR_N is no longer held, BOOT_TIME is
taken, and the link trains 1 ms later when PERST_N is high. -/
def execAutogoStart (s : State) : Host.Outcome State Fault Refusal :=
  if s.power.boot != .image then .next s
  else
    let s := s.updPower (fun p => { p with boot := .done, image := [] })
    let s := ({ s with flt := { s.flt with errnBoot := false } }).later' 1 .errn
    let s := s.wr R.BOOT_TIME (w32 (min 65535 ((s.ticks - s.power.goodAt) / 400)))
    let m := ((List.finRange 8).map (fun e => if s.bt (feOff e FE.CTRL) 0 then 2 ^ e.val else 0)).sum
    let s := if m = 0 then s else writeGo s (w32 m)
    .next (if s.pcie.perst then s else s.afterTicks 400000 .linkTrainingStart)

end Sys2Proof.Machine
end

