-- ==== Sys2Proof/Machine/Descriptors.lean ====
section
/-! DEFINITION. The landing of a transaction (R318), and the descriptors of CMD and WAVE rings (R267 to R273): their checks, their
start, what each opcode does, and the register accesses that a descriptor makes one in a cycle. -/

namespace Sys2Proof.Machine

/-! ## Landing (R318) -/

/-- A staged write put into its place by ascending offset. -/
def insertStaged (x : Staged) : List Staged → List Staged
  | [] => [x]
  | y :: ys => if x.off < y.off then x :: y :: ys else y :: insertStaged x ys

/-- The staged writes of a transaction in the order in which they land. -/
def landingOrder (s : State) (t : Fin 8) : List Staged := (stagedOf s t).foldr insertStaged []

/-- LANDING (R318): every staged write of a pending transaction is served as a write of its owner. -/
def execLanding (t : Fin 8) (s : State) : Host.Outcome State Fault Refusal :=
  if txnState s t = 2 then
    let a := s.txn[t].owner
    .next (landed ((landingOrder s t).foldl (fun s x => serveWrite s a x.off 15 x.v) s) t)
  else .next s

/-! ## The words of a descriptor (R267, R268) -/

/-- Word `i` of a descriptor. -/
def wd (ws : List Word) (i : Nat) : Word := ws.getD i 0

/-- OPC. -/
def opcOf (ws : List Word) : Nat := fld (wd ws 0) 0 8

/-- The address in words `i` and `i + 1`. -/
def addrAt (ws : List Word) (i : Nat) : Nat := (wd ws i).toNat + (wd ws (i + 1)).toNat * 2 ^ 32

/-- LEN of a COPY or FILL. -/
def lenOf (ws : List Word) : Nat := fld (wd ws 1) 0 21

/-- Whether words from `i` on are 0. -/
def zeroFrom (ws : List Word) (i : Nat) : Bool := (ws.drop i).all (· == 0)

/-- Whether an on-chip address has its upper bits 0. -/
def chipBits (ws : List Word) (chip : Bool) (i : Nat) : Bool := !chip || (wd ws i &&& 0xFFF00000 == 0 && wd ws (i + 1) == 0)

/-- The offset and value pairs of a WRITEP. -/
def pairsOf (ws : List Word) : List (Nat × Word) :=
  (List.range (fld (wd ws 1) 0 2)).map (fun i => ((wd ws (2 + 2 * i)).toNat, wd ws (3 + 2 * i)))

/-- The offset and value pairs of a WRITE. -/
def writesOf (ws : List Word) : List (Nat × Word) :=
  (List.range (fld (wd ws 1) 20 3)).map (fun i => (fld (wd ws 1) 0 20 + 4 * i, wd ws (2 + i)))

/-! ## The checks (R269) -/

/-- Whether the opcode is assigned and the ring type may carry it. -/
def opcOk (s : State) (r : Fin 64) (ws : List Word) : Bool :=
  let o := opcOf ws
  if ringType s r = 0 then o ≤ 0xA else [0x00, 0x04, 0x05, 0x06].contains o

/-- Whether LEN fits the SWAP of a COPY. -/
def swapFits (ws : List Word) : Bool :=
  match fld (wd ws 0) 11 2 with | 0 => true | 1 => lenOf ws % 2 == 0 | _ => lenOf ws % 4 == 0

/-- Whether the reserved bits of W0 are 0. -/
def headOk (ws : List Word) : Bool :=
  let o := opcOf ws
  let w := wd ws 0
  !bit w 15 && (o == 4 || fld w 11 3 == 0) && (o == 1 || o == 2 || !bit w 14)

/-- Whether the reserved bits and fields of the operand words are 0 and every count, length and SWAP value is valid. -/
def operandsOk (ws : List Word) : Bool :=
  let w1 := wd ws 1
  match opcOf ws with
  | 0x00 => true
  | 0x01 => w1 &&& 0xF8800003 == 0 && fld w1 20 3 != 0 && fld w1 20 3 != 7
  | 0x02 => w1 &&& 0xFFFFFF8C == 0 && fld w1 0 2 != 0 && (pairsOf ws).all (fun p => p.1 % 4 == 0 && decide (p.1 < 0x100000))
  | 0x03 => w1 &&& 0xF0000003 == 0 && fld w1 20 7 != 0 && fld w1 20 7 ≤ 64 && fld (wd ws 2) 0 2 == 0
      && chipBits ws (bit w1 27) 2 && zeroFrom ws 4
  | 0x04 => w1 &&& 0xFCE00000 == 0 && lenOf ws != 0 && lenOf ws ≤ 1048576 && swapFits ws
      && chipBits ws (bit w1 24) 2 && chipBits ws (bit w1 25) 4 && zeroFrom ws 6
  | 0x05 => w1 &&& 0xFDE00000 == 0 && 4 ≤ lenOf ws && lenOf ws ≤ 1048576 && lenOf ws % 4 == 0
      && wd ws 3 == 0 && fld (wd ws 4) 0 2 == 0 && chipBits ws (bit w1 25) 4 && zeroFrom ws 6
  | 0x06 => zeroFrom ws 1
  | 0x08 =>
      let b := fld w1 4 2
      let unit := fld w1 8 4
      w1 &&& 0xFFFFF0C8 == 0 && (b == 1 || wd ws 3 == 0) && zeroFrom ws 4
        && (b == 3 || (b == 2 && unit ≤ 3) || unit == 0)
  | 0x0A => w1 &&& 0xF7FFFFFE == 0 && (bit w1 0 || (wd ws 2 == 0 && wd ws 3 == 0)) && chipBits ws (bit w1 0 && bit w1 27) 2
      && zeroFrom ws 4
  | _ => w1 &&& 0xFFFFFFF8 == 0 && zeroFrom ws 2

/-- The on-chip window that an offset starts in: its first offset and the one after its last (R268). -/
def chipWindow (o : Nat) : Option (Nat × Nat) :=
  if 0x40000 ≤ o && o < 0x60000 then some (0x40000, 0x60000)
  else if 0x60000 ≤ o && o < 0xA0000 then some (0x60000, 0xA0000)
  else if 0xA0000 ≤ o && o < 0xE0000 then some (o / 0x8000 * 0x8000, o / 0x8000 * 0x8000 + 0x8000)
  else if 0x18000 ≤ o && o < 0x20000 then some (0x18000, 0x20000)
  else if 0xE0000 ≤ o && o < 0xE0800 then some (0xE0000, 0xE0800)
  else none

/-- Whether a range of `n` bytes is valid: inside one on-chip window, or in the memory of the host for a host-owned ring. -/
def rangeOk (s : State) (r : Fin 64) (chip : Bool) (a n : Nat) : Bool :=
  if chip then (match chipWindow a with | some w => decide (a + n ≤ w.2) | none => false) else hostOwned s r

/-- Whether the addresses of a descriptor are valid. -/
def addressesOk (s : State) (r : Fin 64) (ws : List Word) : Bool :=
  let w1 := wd ws 1
  match opcOf ws with
  | 0x01 => decide (fld w1 0 20 + 4 * fld w1 20 3 ≤ 0x100000)
  | 0x03 => decide (fld w1 0 20 + 4 * fld w1 20 7 ≤ 0x100000) && rangeOk s r (bit w1 27) (addrAt ws 2) (4 * fld w1 20 7)
  | 0x04 => rangeOk s r (bit w1 24) (addrAt ws 2) (lenOf ws) && rangeOk s r (bit w1 25) (addrAt ws 4) (lenOf ws)
  | 0x05 => rangeOk s r (bit w1 25) (addrAt ws 4) (lenOf ws)
  | 0x0A => !bit w1 0 || rangeOk s r (bit w1 27) (addrAt ws 2) 552
  | _ => true

/-- Whether a COPY has the direction that its overlap needs (R273). -/
def overlapOk (ws : List Word) : Bool :=
  let w1 := wd ws 1
  let n := lenOf ws
  let src := addrAt ws 2
  let dst := addrAt ws 4
  opcOf ws != 4 || bit w1 24 != bit w1 25 || src + n ≤ dst || dst + n ≤ src || src == dst || bit (wd ws 0) 13 == decide (src < dst)

/-- The checks of R269 in their order, and the status of the first that fails. -/
def descCheck (s : State) (r : Fin 64) (ws : List Word) : Nat :=
  if !opcOk s r ws then ST.BADOPC
  else if !(headOk ws && operandsOk ws) then ST.BADFIELD
  else if !addressesOk s r ws then ST.RANGE
  else if !overlapOk ws then ST.OVERLAP
  else ST.OK

/-! ## Starting (R270, R304) -/

/-- The port that a ring's register accesses are accesses of (R270). -/
def ringPort (s : State) (r : Fin 64) : Agent := if hostOwned s r then .host else .sup

/-- The words of the descriptor that a ring can start now (R270): it is IDLE or ACTIVE, none is under way, its context is free, and the
device may issue requests to its owner (R402). -/
def descHead (s : State) (r : Fin 64) : Option (List Word) :=
  let st := ringState s r
  let x := s.ring[r]
  if ownerProduced s r && (st == 1 || st == 2) && x.cur.isNone && s.gc[ringGc s r].work.isNone && (!hostOwned s r || hostOk s) then
    match x.fetched with
    | h :: _ => some h.2
    | [] => none
  else none

/-- Whether a ring can start a descriptor of an opcode. -/
def canStart (s : State) (r : Fin 64) (opc : Nat) : Bool :=
  match descHead s r with | some ws => opcOf ws == opc | none => false

/-- The next descriptor of a ring starts on its context. -/
def startDesc (s : State) (r : Fin 64) : State :=
  match s.ring[r].fetched with
  | h :: rest =>
    let d : Desc := { ws := h.2, idx := h.1, prog := 0, moving := false, asked := 0, reads := [], inb := [], dn := 0, tlpAt := 0,
                      tlp := [], status := 0, result := 0, ended := false, waits := false, counts := true }
    setWork (s.updRing r (fun x => { x with fetched := rest, cur := some d })) (ringGc s r) (some (r, .desc))
  | [] => s

/-- The descriptor under way on a ring passed through `f`. -/
def updDesc (s : State) (r : Fin 64) (f : Desc → Desc) : State := s.updRing r (fun x => { x with cur := x.cur.map f })

/-- The words of the descriptor under way. -/
def curWords (s : State) (r : Fin 64) : List Word := match s.ring[r].cur with | some d => d.ws | none => []

/-- A descriptor of an opcode starts, passes the checks, and does `body`; one that fails a check ends with RESULT 0 (R269). Where the
ring has no such descriptor to start, nothing happens. -/
def runDesc (s : State) (r : Fin 64) (opc : Nat) (body : State → State) : State :=
  if canStart s r opc then
    let s := startDesc s r
    let st := descCheck s r (curWords s r)
    if st = ST.OK then body s else endDesc s r st 0
  else s

/-- A descriptor whose opcode is unassigned starts and ends with BADOPC. -/
def badOpcode (s : State) (r : Fin 64) : State :=
  match descHead s r with
  | some ws => if 0xA < opcOf ws then endDesc (startDesc s r) r ST.BADOPC 0 else s
  | none => s

/-! ## Writes to a destination -/

/-- Bytes written on chip one after another: how many were written before a refused code parcel (R181, R273), and the state. -/
def chipPut : List (Nat × Byte) → State → Nat × State
  | [], s => (0, s)
  | (o, b) :: rest, s =>
    if 0x40000 ≤ o && o < 0x60000 && codeRefused s ((o - 0x40000) / 2) then (0, codeRefuse s ((o - 0x40000) / 2) CodePort.gallery)
    else
      let t := chipPut rest (s.setByte o b)
      (t.1 + 1, t.2)

/-- Parameter RAM serves the Gallery ahead of the engines (R167). -/
def galPram (s : State) (o : Nat) : State := if isPram o then s.servePram 2 else s

/-- Bytes with their addresses from `a` on. -/
def placed (a : Nat) (bs : List Byte) : List (Nat × Byte) := bs.zipIdx.map (fun p => (a + p.2, p.1))

/-- Bytes to the host as write TLPs of at most 256 bytes that cross no 4 KiB boundary (R305). -/
def hostTlps (ro : Bool) : Nat → Nat → List Byte → State → State
  | 0, _, _, s => s
  | fuel + 1, a, bs, s =>
    if bs.isEmpty then s
    else
      let k := min 256 (4096 - a % 4096)
      hostTlps ro fuel (a + k) (bs.drop k) (hostWrite s a (bs.take k) ro)

/-- Whether data writes may carry Relaxed Ordering: GAL_CTRL.DATARO, and the host has enabled it (R309). -/
def dataRo (s : State) : Bool := s.bt R.GAL_CTRL 0 && s.pcie.ro

/-- The words that a READ or SNAP has read go to its destination in W2 and W3, and the descriptor ends (R271, R324). It waits while the
host cannot be reached, and ends with HOSTERR when the host is gone (R286). -/
def deliver (s : State) (r : Fin 64) (chip : Bool) (result : Word) : State :=
  match s.ring[r].cur with
  | none => s
  | some d =>
    let a := addrAt d.ws 2
    let g := ringGc s r
    if chip then
      let p := chipPut (placed a d.inb) (galPram s a)
      endDesc (galMoves p.2 g p.1) r (if p.1 = d.inb.length then ST.OK else ST.CODEWR) result
    else if ringState s r = 5 then endDesc s r ST.HOSTERR result
    else if !hostOk s then s
    else endDesc (galMoves (hostTlps (dataRo s) 4 a d.inb s) g d.inb.length) r ST.OK result

/-! ## One register access per cycle (R270) -/

/-- Whether a ring's register access is served in this cycle: the device serves one (R270). -/
def accessFree (s : State) : Bool := s.gal.regAt != s.now

/-- The register access of this cycle is served. -/
def takeAccess (s : State) : State := { s with gal := { s.gal with regAt := s.now } }

/-- The accesses of a WRITE or WRITEP without TXNV: the next one is served, and after the last one the descriptor ends. -/
def writeStep (s : State) (r : Fin 64) (d : Desc) (ws : List (Nat × Word)) : State :=
  match ws[d.prog]? with
  | none => s
  | some (o, v) =>
    if !accessFree s then s
    else
    let s := serveWrite (updDesc (takeAccess s) r (fun d => { d with prog := d.prog + 1 })) (ringPort s r) o 15 v
    if d.prog + 1 = ws.length then endDesc s r ST.OK (w32 ws.length) else s

/-- The reads of a READ: the next register is read, and after the last one the words are delivered. -/
def readStep (s : State) (r : Fin 64) (d : Desc) : State :=
  let w1 := wd d.ws 1
  let n := fld w1 20 7
  if n ≤ d.prog then deliver s r (bit w1 27) (w32 n)
  else if !accessFree s then s
  else
    let x := serveRead (takeAccess s) (ringPort s r) (fld w1 0 20 + 4 * d.prog)
    let s := updDesc x.2 r (fun d => { d with prog := d.prog + 1, inb := d.inb ++ wordsBytes [x.1] })
    if n = d.prog + 1 then deliver s r (bit w1 27) (w32 n) else s

/-- The read-out of a SNAP with RD = 1 (R324): its own bank, a word in a cycle. -/
def snapStep (s : State) (r : Fin 64) (d : Desc) : State :=
  match s.snap.copying.find? (·.1 == r) with
  | none => s
  | some c =>
    let s :=
      if d.prog < 138 then
        updDesc s r (fun d => { d with prog := d.prog + 1, inb := d.inb ++ wordsBytes [(snapBank s c.2).getD d.prog 0] })
      else s
    if 138 ≤ d.prog + 1 then
      let s := deliver s r (bit (wd d.ws 1) 27) d.result
      if (match s.ring[r].cur with | some d => d.ended | none => true) then
        { s with snap := { s.snap with copying := s.snap.copying.filter (·.1 != r) } }
      else s
    else s

/-- The next access of the descriptor under way on a ring. -/
def descStep (s : State) (r : Fin 64) : State :=
  match s.ring[r].cur with
  | none => s
  | some d =>
    if d.ended || !d.moving then s
    else match opcOf d.ws with
      | 0x01 => writeStep s r d (writesOf d.ws)
      | 0x02 => writeStep s r d (pairsOf d.ws)
      | 0x03 => readStep s r d
      | 0x0A => snapStep s r d
      | _ => s

/-- A descriptor's accesses begin: on a host ring with the first one now, on a supervisor ring with its port's accesses (R25). -/
def beginMoving (s : State) (r : Fin 64) : State :=
  let s := updDesc s r (fun d => { d with moving := true })
  if hostOwned s r then descStep s r else s

/-- The accesses of the descriptors under way on the rings of one port, which the device serves in ascending ring number. -/
def portAccesses (s : State) (host : Bool) : State :=
  (List.finRange 64).foldl (fun s r => if hostOwned s r == host then descStep s r else s) s

/-- The accesses of supervisor rings (R25, R270). -/
def supAccess (s : State) : State := portAccesses s false

/-! ## The opcodes -/

/-- A staging WRITE or WRITEP (R316): staged as a whole, or ended with the status of the refusal. -/
def stageDesc (s : State) (r : Fin 64) (t : Fin 8) (ws : List (Nat × Word)) : State :=
  let x := stageWrites s (ringPort s r) t ws
  endDesc x.2 r x.1 (if x.1 = ST.OK then w32 ws.length else 0)

/-- What a WRITE does. -/
def writeBody (r : Fin 64) (s : State) : State :=
  let ws := curWords s r
  if bit (wd ws 0) 14 then stageDesc s r (Fin.ofNat 8 (fld (wd ws 1) 24 3)) (writesOf ws) else beginMoving s r

/-- What a WRITEP does. -/
def writepBody (r : Fin 64) (s : State) : State :=
  let ws := curWords s r
  if bit (wd ws 0) 14 then stageDesc s r (Fin.ofNat 8 (fld (wd ws 1) 4 3)) (pairsOf ws) else beginMoving s r

/-- The data of a COPY or FILL may move; one longer than the bulk threshold asks the Vestibule (R351). -/
def moveBody (r : Fin 64) (s : State) : State :=
  let n := lenOf (curWords s r)
  let g := ringGc s r
  let s := (updDesc s r (fun d => { d with moving := true })).wr (gcOff g GC.REM) (w32 n)
  if max 1 (s.fl R.VEST_CTRL 16 8) * 4096 < n then request s (.gal g) galUnits else s

/-- What a TXN_BEGIN does (R314). -/
def txnBeginBody (r : Fin 64) (s : State) : State :=
  let x := beginTxn s (ringPort s r) (Fin.ofNat 8 (fld (wd (curWords s r) 1) 0 3))
  endDesc x.2 r x.1 0

/-- What a TXN_COMMIT does (R317): its boundary is written, and it waits for its landing. Where its port does not hold the transaction
OPEN, nothing is written. -/
def txnCommitBody (r : Fin 64) (s : State) : State :=
  let ws := curWords s r
  let w1 := wd ws 1
  let t := Fin.ofNat 8 (fld w1 0 3)
  let a := ringPort s r
  if !txnOpenFor s a t then endDesc s r ST.TXNSTATE 0
  else
    let s := (s.setFl (txnOff t TXN.BOUND) 0 2 (fld w1 4 2)).setFl (txnOff t TXN.BOUND) 8 4 (fld w1 8 4)
    let s := (s.wr (txnOff t TXN.AT_LO) (wd ws 2)).wr (txnOff t TXN.AT_HI) (wd ws 3)
    let x := commitTxn s a t (some r)
    if x.1 = ST.OK then updDesc x.2 r (fun d => { d with waits := true }) else endDesc x.2 r x.1 0

/-- What a TXN_ROLLBACK does (R314). -/
def txnRollbackBody (r : Fin 64) (s : State) : State :=
  let x := rollbackTxn s (ringPort s r) (Fin.ofNat 8 (fld (wd (curWords s r) 1) 0 3))
  endDesc x.2.2 r x.1 x.2.1

/-- What a SNAP does (R323): a strobe in the next tick, for which the descriptor waits. -/
def snapBody (r : Fin 64) (s : State) : State :=
  let s := { s with snap := { s.snap with rings := s.snap.rings ++ [(r, s.ticks + 1)] } }
  strobeIn s (if hostOwned s r then 0 else 1) 1

/-- NOP (R268). -/
def execDescNop (r : Fin 64) (s : State) : Host.Outcome State Fault Refusal := .next (runDesc s r 0x00 (fun s => endDesc s r ST.OK 0))
/-- WRITE (R268, R270). -/
def execDescWrite (r : Fin 64) (s : State) : Host.Outcome State Fault Refusal := .next (runDesc s r 0x01 (writeBody r))
/-- WRITEP (R268, R270). -/
def execWritep (r : Fin 64) (s : State) : Host.Outcome State Fault Refusal := .next (runDesc s r 0x02 (writepBody r))
/-- READ (R271). -/
def execDescRead (r : Fin 64) (s : State) : Host.Outcome State Fault Refusal := .next (runDesc s r 0x03 (beginMoving · r))
/-- COPY (R273): the Gallery moves its data in the cycles that follow. -/
def execCopy (r : Fin 64) (s : State) : Host.Outcome State Fault Refusal := .next (runDesc s r 0x04 (moveBody r))
/-- FILL (R268): the Gallery moves its data in the cycles that follow. -/
def execFill (r : Fin 64) (s : State) : Host.Outcome State Fault Refusal := .next (runDesc s r 0x05 (moveBody r))
/-- FENCE (R268): every earlier descriptor has completed and landed. -/
def execDescFence (r : Fin 64) (s : State) : Host.Outcome State Fault Refusal := .next (runDesc s r 0x06 (fun s => endDesc s r ST.OK 0))
/-- TXN_BEGIN. -/
def execTxnBegin (r : Fin 64) (s : State) : Host.Outcome State Fault Refusal := .next (runDesc s r 0x07 (txnBeginBody r))
/-- TXN_COMMIT. -/
def execTxnCommit (r : Fin 64) (s : State) : Host.Outcome State Fault Refusal := .next (runDesc s r 0x08 (txnCommitBody r))
/-- TXN_ROLLBACK. -/
def execTxnRollback (r : Fin 64) (s : State) : Host.Outcome State Fault Refusal := .next (runDesc s r 0x09 (txnRollbackBody r))
/-- SNAP. -/
def execSnapDescriptor (r : Fin 64) (s : State) : Host.Outcome State Fault Refusal := .next (runDesc s r 0x0A (snapBody r))

end Sys2Proof.Machine
end

