-- ==== Sys2Proof/Machine/Gallery.lean ====
section
/-! DEFINITION. The Gallery's datapath (R304 to R307): the source side of COPY with its read requests and staging, the beats of COPY, FILL
and capture blocks, their arbitration, and the arrival of host data. -/

namespace Sys2Proof.Machine

/-! ## The source side of a COPY (R306) -/

/-- Whether a COPY moves in descending order. -/
def backward (ws : List Word) : Bool := bit (wd ws 0) 13

/-- Source bytes that have arrived. -/
def received (d : Desc) : Nat := d.asked - d.reads.sum

/-- The bytes of a COPY or FILL that are written: a write TLP that is still assembled has not left (R273, R305). -/
def written (d : Desc) : Word := w32 (d.dn - d.tlp.length)

/-- The staging space of a context in bytes. -/
def stageBytes (s : State) (g : Fin 16) : Nat := 4096 * s.fl (gcOff g GC.CFG) 4 5

/-- The shared tags in use: one for each read request outstanding. -/
def tagsUsed (s : State) : Nat :=
  ((List.finRange 64).map (fun r =>
    (match s.ring[r].cur with | some d => d.reads.length | none => 0)
      + (if hostOwned s r && s.ring[r].asked != 0 then 1 else 0))).sum

/-- The bytes from `a` in the copy's direction to the next 4 KiB boundary. -/
def toBoundary (back : Bool) (a : Nat) : Nat :=
  if back then (if a % 4096 = 0 then 4096 else a % 4096) else 4096 - a % 4096

/-- The place in the source at which the next request of a COPY stands: its low end ascending, its high end descending. -/
def sourceAt (d : Desc) : Nat :=
  let a := addrAt d.ws 2
  if backward d.ws then a + lenOf d.ws - d.asked else a + d.asked

/-- Source bytes join the staged ones, in ascending order. -/
def stageIn (d : Desc) (bs : List Byte) : Desc := { d with inb := if backward d.ws then bs ++ d.inb else d.inb ++ bs }

/-- The next piece of the source of a COPY: a read request to the host while staging space and a tag are free, or one beat of an on-chip
source; without the host it ends with HOSTERR (R286). -/
def fetchSource (s : State) (r : Fin 64) (d : Desc) : State :=
  let back := backward d.ws
  let chip := bit (wd d.ws 1) 24
  let at' := sourceAt d
  let left := lenOf d.ws - d.asked
  let k := min left (if chip then 32 else min 512 (toBoundary back at'))
  if k = 0 || stageBytes s (ringGc s r) < d.asked - (d.dn - d.tlp.length) + k then s
  else
    let lo := if back then at' - k else at'
    if chip then
      updDesc (galPram s lo) r (fun d => stageIn { d with asked := d.asked + k } ((List.range k).map (fun i => s.byte (lo + i))))
    else if ringState s r = 5 then endDesc s r ST.HOSTERR (written d)
    else if !hostOk s || 256 ≤ tagsUsed s then s
    else
      let s := updDesc s r (fun d => { d with asked := d.asked + k, reads := d.reads ++ [k] })
      { s with out := s.out ++ [.read lo k] }

/-- HOST_READ_COMPLETION (R306, R273): the data of the oldest outstanding request of a context's COPY; a failed one ends it with
HOSTERR. -/
def execHostReadCompletion (g : Fin 16) (ok : Bool) (data : List Byte) (s : State) : Host.Outcome State Fault Refusal :=
  match s.gc[g].work with
  | some (r, .desc) => match s.ring[r].cur with
    | some d => match d.reads with
      | n :: rest =>
        if d.ended then .next s
        else if ok && data.length == n then .next (updDesc s r (fun d => stageIn { d with reads := rest } data))
        else .next (endDesc s r ST.HOSTERR (written d))
      | [] => .next s
    | none => .next s
  | _ => .next s

/-! ## The beats of COPY and FILL (R305, R307) -/

/-- The source byte of a unit that lands at byte `j`: SWAP exchanges bytes within its unit. -/
def swapIdx (sw j : Nat) : Nat :=
  match sw with
  | 0 => j
  | 1 => j ^^^ 1
  | 2 => j ^^^ 3
  | _ => j ^^^ 2

/-- The bytes of a COPY whose whole 4-byte units have arrived, counted in its direction. -/
def unitsIn (d : Desc) : Nat :=
  let n := lenOf d.ws
  let rcv := received d
  if rcv = n then n
  else if backward d.ws then n - (n - rcv + 3) / 4 * 4
  else rcv / 4 * 4

/-- The place of the first byte of the staged ones in the source. -/
def stagedBase (d : Desc) : Nat := if backward d.ws then lenOf d.ws - received d else d.dn / 4 * 4

/-- Byte `j` of the destination of a COPY or FILL. -/
def dataByte (d : Desc) (j : Nat) : Byte :=
  if opcOf d.ws = 5 then byteOf (wd d.ws 2) (j % 4)
  else d.inb.getD (swapIdx (fld (wd d.ws 0) 11 2) j - stagedBase d) 0

/-- The place in the destination at which the next beat stands: its low end ascending, its high end descending. -/
def destAt (d : Desc) : Nat :=
  let a := addrAt d.ws 4
  if backward d.ws then a + lenOf d.ws - d.dn else a + d.dn

/-- Whether the destination is on chip. -/
def destChip (d : Desc) : Bool := bit (wd d.ws 1) 25

/-- The bytes of the next beat: what has arrived, at most 32, and to the host no more than the write TLP still takes. -/
def beatSize (d : Desc) : Nat :=
  let avail := if opcOf d.ws = 5 then lenOf d.ws else unitsIn d
  let k := min 32 (avail - d.dn)
  if destChip d then k else min k (min (256 - d.tlp.length) (toBoundary (backward d.ws) (destAt d)))

/-- Staged bytes that no later beat needs leave the staging space. -/
def unstage (d : Desc) (dn : Nat) : List Byte :=
  if opcOf d.ws = 5 then []
  else if backward d.ws then d.inb.take (min (lenOf d.ws) ((lenOf d.ws - dn + 3) / 4 * 4) - stagedBase d)
  else d.inb.drop (dn / 4 * 4 - stagedBase d)

/-- A COPY or FILL has moved `k` bytes, to the end or not. -/
def movedBytes (s : State) (r : Fin 64) (d : Desc) (k : Nat) : State :=
  let dn := d.dn + k
  let g := ringGc s r
  let s := (galMoves s g k).wr (gcOff g GC.REM) (w32 (lenOf d.ws - dn))
  updDesc s r (fun x => { x with dn := dn, inb := unstage d dn })

/-- A beat on chip: its bytes land in the copy's direction; a refused code parcel ends the descriptor (R273). -/
def chipBeat (s : State) (r : Fin 64) (d : Desc) (k : Nat) : State :=
  let back := backward d.ws
  let j := if back then lenOf d.ws - d.dn - k else d.dn
  let bs := (List.range k).map (fun i => (addrAt d.ws 4 + j + i, dataByte d (j + i)))
  let p := chipPut (if back then bs.reverse else bs) (galPram s (addrAt d.ws 4 + j))
  let s := movedBytes p.2 r d p.1
  if p.1 < k then endDesc s r ST.CODEWR (w32 (d.dn + p.1))
  else if d.dn + k = lenOf d.ws then endDesc s r ST.OK (w32 (lenOf d.ws)) else s

/-- A beat to the host: it joins the write TLP, which leaves when all its beats are assembled. -/
def hostBeat (s : State) (r : Fin 64) (d : Desc) (k : Nat) : State :=
  let back := backward d.ws
  let n := lenOf d.ws
  let j := if back then n - d.dn - k else d.dn
  let bs := (List.range k).map (fun i => dataByte d (j + i))
  let lo := addrAt d.ws 4 + j
  let tlp := if back then bs ++ d.tlp else d.tlp ++ bs
  let at' := if back || d.tlp.isEmpty then lo else d.tlpAt
  let edge := if back then lo else lo + k
  let s := movedBytes s r d k
  let s :=
    if tlp.length = 256 || edge % 4096 = 0 || d.dn + k = n then
      updDesc (hostWrite s at' tlp (dataRo s)) r (fun x => { x with tlp := [], tlpAt := 0 })
    else updDesc s r (fun x => { x with tlp := tlp, tlpAt := at' })
  if d.dn + k = n then endDesc s r ST.OK (w32 n) else s

/-! ## Arbitration (R305, R356) -/

/-- The ring whose ended descriptor comes next with its record for CMPL ring `c` (R277): the lowest that waits. -/
def recordFor (s : State) (c : Fin 64) : Option (Fin 64) :=
  (List.finRange 64).find? (fun r => match s.ring[r].cur with | some d => d.ended && needsRecord s r d && cring s r == c | none => false)

/-- Whether a ring has an entry to write and can take it (R304): a record, a held entry, or the account of a run of losses. -/
def entryReady (s : State) (r : Fin 64) : Bool :=
  canIssue s r && ((ringType s r == 3 && (recordFor s r).isSome) || (3 ≤ ringType s r && (!s.ring[r].q.isEmpty || s.ring[r].lost.isSome)))

/-- The beat of an entry: its writes are issued, a record through the row of its descriptor. -/
def entryBeat (s : State) (r : Fin 64) : State :=
  match (if ringType s r = 3 then recordFor s r else none) with
  | some q => s.enq (.descriptorComplete q)
  | none => issueEntry s r

/-- Whether a COPY or FILL may move its data. -/
def streams (d : Desc) : Bool := d.moving && !d.ended && (opcOf d.ws == 4 || opcOf d.ws == 5)

/-- Whether a context has a beat ready: an entry, a block, or a COPY or FILL with bytes to write whose owner can be reached; one whose burst waits
for the Vestibule only in every fourth cycle. -/
def beatReady (s : State) (g : Fin 16) : Bool :=
  match s.gc[g].work with
  | some (r, .block) => (match s.ring[r].blk with | some b => decide (b.2 < 8) | none => false) && (!hostOwned s r || hostOk s)
  | some (r, .desc) => match s.ring[r].cur with
    | some d => streams d && 0 < beatSize d && (destChip d || hostOk s) && (!s.vest.gal.contains g || s.ticks % 4 == 0)
    | none => false
  | some (r, .entry) => entryReady s r
  | none => false

/-- Whether a context stands inside a unit of 256 bytes. -/
def midUnit (s : State) (g : Fin 16) : Bool :=
  match s.gc[g].work with
  | some (r, .block) => (match s.ring[r].blk with | some b => b.2 != 0 | none => false)
  | some (r, .desc) => (match s.ring[r].cur with | some d => d.dn % 256 != 0 | none => false)
  | _ => false

/-- GCg_CFG.PRI. -/
def gcPri (s : State) (g : Fin 16) : Nat := s.fl (gcOff g GC.CFG) 0 2

/-- The contexts in turn from the one after `g` on, `g` last. -/
def afterTurn (g : Fin 16) : List (Fin 16) := (List.finRange 16).map (fun i => g + i + 1)

/-- The context that moves the next beat: of the highest priority, one inside its unit before the next in turn. -/
def pickContext (s : State) : Option (Fin 16) :=
  let ready := (afterTurn s.gal.turn).filter (beatReady s)
  let best := ready.filter (fun g => ready.all (fun x => decide (gcPri s g ≤ gcPri s x)))
  if best.contains s.gal.turn && midUnit s s.gal.turn then some s.gal.turn
  else match best.find? (midUnit s) with
    | some g => some g
    | none => best.head?

/-- Whether a context's piece of work has moved data already. -/
def begun (s : State) (g : Fin 16) : Bool :=
  match s.gc[g].work with
  | some (r, .block) => (match s.ring[r].blk with | some b => b.2 != 0 | none => false)
  | some (r, .desc) => (match s.ring[r].cur with | some d => d.dn != 0 | none => false)
  | _ => false

/-- The first beat of a block sets when its last write has left (R303): the capture stream is written at 150 M entries/s, 32 of them in
256/3 ticks, counted from when the stream's writes are all away, or from when the block became due, 4 cycles before its first beat. -/
def paceBlock (s : State) (r : Fin 64) : State :=
  let w := max s.gal.wire (3 * (s.ticks - 4)) + 256
  { s with gal := { s.gal with wire := w } }.updRing r (fun x => { x with leaveAt := (w + 2) / 3 })

/-- A context moves its beat. -/
def moveBeat (s : State) (g : Fin 16) : State :=
  match s.gc[g].work with
  | some (r, .block) => match s.ring[r].blk with
    | some (blk, n) =>
      let s := if n = 0 then paceBlock s r else s
      galMoves (s.updRing r (fun x => { x with blk := some (blk, n + 1) })) g 32
    | none => s
  | some (r, .desc) => match s.ring[r].cur with
    | some d => if destChip d then chipBeat s r d (beatSize d) else hostBeat s r d (beatSize d)
    | none => s
  | some (r, .entry) => entryBeat s r
  | none => s

/-- The beat of a cycle (R305); the context that moved the last one and is held in the middle of its work counts a pre-emption. -/
def galleryBeat (s : State) : State :=
  match pickContext s with
  | none => s
  | some g =>
    let t := s.gal.turn
    let s := if g != t && beatReady s t && begun s t && gcPri s g < gcPri s t then s.satFl (gcOff t GC.PREEMPT) 0 16 else s
    moveBeat { s with gal := { s.gal with turn := g } } g

/-- A COPY or FILL whose host is gone and still needed ends with HOSTERR (R286). -/
def hostLostDesc (s : State) (r : Fin 64) : State :=
  match s.ring[r].cur with
  | some d =>
    if streams d && ringState s r == 5 && (!destChip d || !d.reads.isEmpty) then endDesc s r ST.HOSTERR (written d) else s
  | none => s

/-- The source side of the COPY that a context works on. -/
def sourceStep (s : State) (g : Fin 16) : State :=
  match s.gc[g].work with
  | some (r, .desc) => match s.ring[r].cur with
    | some d => if streams d && opcOf d.ws == 4 then fetchSource s r d else s
    | none => s
  | _ => s

/-- One cycle of the Gallery: the register accesses and the streams of the descriptors under way, and one beat. -/
def galleryCycle (s : State) : State :=
  let s := (List.finRange 64).foldl hostLostDesc (portAccesses s true)
  galleryBeat ((List.finRange 16).foldl sourceStep s)

end Sys2Proof.Machine
end

