-- ==== Sys2Proof/Machine/IsaOps.lean ====
section
/-! DEFINITION. What every engine instruction shares (chapter 08): the data space and the I/O space (R166 to R169), loads with their delay
slot (R209), stack checks (R211), faults (R222), and the end of an instruction with its repetition and its timing (R224, R231, R232). -/

namespace Sys2Proof.Machine

/-! ## Operands -/

/-- An immediate of 16 bits, sign-extended and zero-extended. -/
def simm (i : BitVec 16) : Word := i.signExtend 32
def zimm (i : BitVec 16) : Word := i.setWidth 32

/-- 1 when a relation holds and 0 otherwise. -/
def flag (c : Bool) : Word := if c then 1 else 0

/-! ## Data space (R166, R167, R207) -/

/-- What an address of an engine's data space reaches. -/
inductive DataLoc where
  /-- A byte of a RAM window at an MW0 offset. -/
  | ram (o : Nat)
  /-- A byte of a register: the MW0 offset of its word, and the byte. -/
  | word (o i : Nat)
  | reserved
deriving DecidableEq, Repr

/-- PWIN of a bank as it acts (R167). -/
def pwin (s : State) (e : Fin 8) (b : Fin 4) : Nat := min 240 (s.fl (feOff e FE.PWIN) (8 * b.val) 8)

/-- The place of a data-space byte (R166). -/
def dataLoc (s : State) (e : Fin 8) (b : Fin 4) (a : Nat) : DataLoc :=
  if a < 0x8000 then .ram (0xA0000 + e.val * 0x8000 + a)
  else if a < 0xC000 then .ram (0x60000 + pwin s e b * 1024 + (a - 0x8000))
  else if a < 0xC100 then .word (feOff e FE.MBX_W + (a - 0xC000) / 4 * 4) (a % 4)
  else if 0xC200 ≤ a && a < 0xC280 then .word (feOff e FE.SPLIM + (a - 0xC200) / 4 * 4) (a % 4)
  else .reserved

/-- A byte of the data space as it reads. -/
def dataByteAt (s : State) (e : Fin 8) (b : Fin 4) (a : Nat) : Byte :=
  match dataLoc s e b a with
  | .ram o => s.byte o
  | .word o i => byteOf (s.rd o) i
  | .reserved => 0

/-- NOTICE RSVD_WRITE of a store into a reserved range or reserved bits of the data space (R166), with the data address. -/
def dataRsvd (s : State) (e : Fin 8) (a : Nat) : State := s.raise FS.RSVD_WRITE (w32 (a + (2 + e.val) * 0x100000))

/-- A byte of the data space written. -/
def setDataByte (s : State) (e : Fin 8) (b : Fin 4) (a : Nat) (v : Byte) : State :=
  match dataLoc s e b a with
  | .ram o => s.setByte o v
  | .word o i => s.setFl o (8 * i) 8 v.toNat
  | .reserved => s

/-- Whether a store of `v` at `a` is a nonzero one into a reserved range. -/
def storeRsvd (s : State) (e : Fin 8) (b : Fin 4) (a n : Nat) (v : Word) : Bool :=
  (List.range n).any (fun i => byteOf v i != 0 && dataLoc s e b (a + i) == .reserved)

/-- The address of an access of `n` bytes (1, 2 or 4): modulo 2^16, with the low bits ignored (R207). -/
def dataAddr (a : Word) (n : Nat) : Nat := a.toNat % 0x10000 / n * n

/-- The `n` bytes at a data address as a word, the rest 0. -/
def dataLoad (s : State) (e : Fin 8) (b : Fin 4) (a : Word) (n : Nat) : Word :=
  let o := dataAddr a n
  let by' (i : Nat) : Byte := if i < n then dataByteAt s e b (o + i) else 0
  wordOfBytes (by' 0) (by' 1) (by' 2) (by' 3)

/-- The low `n` bytes of a word stored at a data address. -/
def dataStore (s : State) (e : Fin 8) (b : Fin 4) (a : Word) (n : Nat) (v : Word) : State :=
  let o := dataAddr a n
  let s' := (List.range n).foldl (fun s i => setDataByte s e b (o + i) (byteOf v i)) s
  if storeRsvd s e b o n v then dataRsvd s' e o else s'

/-- Whether an access lies in the parameter window. -/
def inParam (a : Word) : Bool := 0x8000 ≤ a.toNat % 0x10000 && a.toNat % 0x10000 < 0xC000

/-- The number of an engine among the agents of parameter RAM. -/
def pramEng (e : Fin 8) : Fin 11 := ⟨3 + e.val, by omega⟩

/-- The stall of a data access, and the state that counts the access (R167): 1 cycle, and 1 for each other agent that parameter RAM has
served in this cycle already. -/
def dataStall (s : State) (e : Fin 8) (a : Word) : Nat × State :=
  if inParam a then (1 + (s.pramServed.filter (· != pramEng e)).length, s.servePram (pramEng e)) else (0, s)

/-! ## I/O space (R168, R169, R199, R238) -/

/-- What an I/O address reaches. -/
inductive IoLoc where
  | mw0 (o : Nat)
  | bankReg (i : Nat)
  | feat (i : Nat)
  | reserved
deriving DecidableEq, Repr

/-- The place of an I/O word (R168). -/
def ioLoc (s : State) (e : Fin 8) (b : Fin 4) (a : Nat) : IoLoc :=
  if a < 0x6000 then .mw0 (0x10000 + a)
  else if a < 0x7000 then .mw0 (0xA000 + (a - 0x6000))
  else if a < 0x8000 then .mw0 (0x8000 + (a - 0x7000))
  else if a < 0x8800 then .mw0 (0xC000 + (a - 0x8000))
  else if a < 0x8C00 then .mw0 (feOff e (a - 0x8800))
  else if a < 0x8C14 then .bankReg ((a - 0x8C00) / 4)
  else if 0x9000 ≤ a && a < 0xA000 then .mw0 (a - 0x9000)
  else if 0xA000 ≤ a && a < 0xB000 then .mw0 (0x9000 + (a - 0xA000))
  else if 0xC000 ≤ a && a < 0xE000 then .mw0 (0x30000 + (s.bank e b).slotwin.toNat * 0x2000 + (a - 0xC000))
  else if 0xF000 ≤ a && a < 0xF010 then .feat ((a - 0xF000) / 4)
  else .reserved

/-- A bank register as it reads (R199). -/
def readBankReg (s : State) (e : Fin 8) (b : Fin 4) (i : Nat) : Word :=
  match i with
  | 0 => (s.bank e b).cause
  | 1 => (s.bank e b).causeid
  | 2 => w32 (s.fl (feOff e FE.PWIN) (8 * b.val) 8)
  | 3 => (s.bank e b).slotwin.setWidth 32
  | _ => bankSelf s e b

/-- FEAT0 to FEAT3 (R239). -/
def readFeat (s : State) (e : Fin 8) (i : Nat) : Word :=
  match i with
  | 0 => if 6 ≤ e.val then 0x007F0F01 else 0x007F0E01
  | 1 => 0x00104860
  | 2 => 0x02040080
  | _ => w32 s.patch.pfeat

/-- A write of a bank register (R199). -/
def writeBankReg (s : State) (e : Fin 8) (b : Fin 4) (i : Nat) (v : Word) : State :=
  let rw : Word := match i with | 2 => 0xFF | 3 => 3 | _ => 0
  let s := if v &&& ~~~ rw = 0 then s else ioRsvd s e (0x8C00 + 4 * i)
  match i with
  | 2 => s.setFl (feOff e FE.PWIN) (8 * b.val) 8 (fld v 0 8)
  | 3 => s.updBank e b (fun x => { x with slotwin := v.setWidth 2 })
  | _ => s

/-- The word address of an I/O access (R235). -/
def ioAddr (a : Word) : Nat := a.toNat % 0x10000 / 4 * 4

/-- An I/O read: the value, and the state after its effect. -/
def ioRead (s : State) (e : Fin 8) (b : Fin 4) (a : Word) : Word × State :=
  match ioLoc s e b (ioAddr a) with
  | .mw0 o => serveRead s (.bank e b) o
  | .bankReg i => (readBankReg s e b i, s)
  | .feat i => (readFeat s e i, s)
  | .reserved => (0, s)

/-- An I/O write. -/
def ioWrite (s : State) (e : Fin 8) (b : Fin 4) (a : Word) (v : Word) : State :=
  match ioLoc s e b (ioAddr a) with
  | .mw0 o => serveWrite s (.bank e b) o 15 v
  | .bankReg i => writeBankReg s e b i v
  | .feat _ | .reserved => if v = 0 then s else ioRsvd s e (ioAddr a)

/-- The stall of an I/O access: 2 cycles for a channel or a lane of another Flight (R169). -/
def ioStall (e : Fin 8) (a : Word) : Nat :=
  let o := ioAddr a
  if (o < 0x6000 && o / 0x100 / 12 != e.val) || (0x8000 ≤ o && o < 0x8800 && (o - 0x8000) / 0x80 / 2 != e.val) then 2 else 0

/-! ## The end of an instruction -/

/-- The register effects of an instruction at its end: the pending value of the preceding load is written over them, and this
instruction's own load becomes pending (R209). -/
def endLoad (s : State) (e : Fin 8) (b : Fin 4) (load : Option (Fin 16 × Word)) : State :=
  s.updBank e b (fun x => { x.flush with load := load })

/-- An execution of a repeated instruction is counted at its commit microword (R231, R232). -/
def Bank.count (x : Bank) : Bank :=
  match x.rep with
  | none => x
  | some (.rep left p) => { x with rep := some (.rep (left - 1) p) }
  | some .repi => { x with rc := if x.rc = 0 then 0 else x.rc - 1 }

/-- Whether a repetition has executions left. -/
def Bank.repeats (x : Bank) : Bool :=
  match x.rep with
  | none => false
  | some (.rep left _) => left != 0
  | some .repi => x.rc != 0

/-- The bank at the end of an instruction that goes on at parcel `n`: there, or at the same instruction while a REP or REPI has
executions left (R231, R232). -/
def Bank.goOn (x : Bank) (n : BitVec 16) : Bank := if x.repeats then x else { x with rep := none, pc := n }

/-- The pc after an instruction: the target of a transfer, the repeated instruction itself while a repetition goes on, or the parcel
after it (R187, R231, R232). -/
def endPc (s : State) (e : Fin 8) (b : Fin 4) (len : Nat) (goto : Option (BitVec 16)) : State :=
  s.updBank e b (fun x => x.goOn (goto.getD (nextPc s e b len)))

/-- The next instruction starts `after` cycles beyond the next cycle (R224). -/
def endTime (s : State) (e : Fin 8) (after : Nat) : State :=
  s.updEng e (fun x => { x with next := s.ticks + s.samples (1 + after), commit := none, bpSkip := false })

/-- The shadows of the wrap registers act when the instruction at `pc` is over (R188), of a REP sequence when the whole of it is. -/
def passPc (s : State) (e : Fin 8) (b : Fin 4) (pc : BitVec 16) : State :=
  match (s.bank e b).rep with
  | some (.rep _ _) => s
  | _ => wrapPass s e pc

/-- An instruction of `len` parcels is over, its executions counted. -/
def close (s : State) (e : Fin 8) (b : Fin 4) (len : Nat) (load : Option (Fin 16 × Word)) (goto : Option (BitVec 16)) (after : Nat) :
    State :=
  endTime (passPc (endPc (endLoad s e b load) e b len goto) e b (s.bank e b).pc) e after

/-- An instruction of `len` parcels has completed, but for the end of a single step. -/
def retire (s : State) (e : Fin 8) (b : Fin 4) (len : Nat) (load : Option (Fin 16 × Word)) (goto : Option (BitVec 16)) (after : Nat) :
    State := close (s.updBank e b Bank.count) e b len load goto after

/-- An instruction of `len` parcels has completed. -/
def finish (s : State) (e : Fin 8) (b : Fin 4) (len : Nat) (load : Option (Fin 16 × Word)) (goto : Option (BitVec 16)) (after : Nat) :
    State := stepEnds (retire s e b len load goto after) e

/-- The parcel of code RAM at a parcel address (R165). -/
def codeParcel (s : State) (a : BitVec 16) : BitVec 16 :=
  BitVec.ofNat 16 ((s.byte (0x40000 + 2 * a.toNat)).toNat + 256 * (s.byte (0x40001 + 2 * a.toNat)).toNat)

/-- The parcels of the instruction whose first parcel is `p` (R214). -/
def parcels (p : BitVec 16) : Nat := if p.toNat / 2 ^ 14 = 3 then 2 else 1

/-- A repetition begins at the bank's pc, with the count in rc (R232): with a count of 0 the instruction there is skipped. -/
def beginRepi (s : State) (e : Fin 8) (b : Fin 4) : State :=
  if (s.bank e b).rc = 0 then s.updBank e b (fun x => { x with pc := x.pc + BitVec.ofNat 16 (parcels (codeParcel s x.pc)) })
  else s.updBank e b (fun x => { x with rep := some .repi })

/-- An instruction that writes one general register, from the bank's registers as they stood. -/
def finishReg (s : State) (e : Fin 8) (b : Fin 4) (len : Nat) (rd : Fin 16) (v : Word) (after : Nat := 0) : State :=
  finish (setReg s e b rd v) e b len none none after

/-- A load from data space into a register after its delay slot. -/
def finishLoad (s : State) (e : Fin 8) (b : Fin 4) (len : Nat) (rd : Fin 16) (a : Word) (v : Word) : State :=
  let t := dataStall s e a
  finish t.2 e b len (some (rd, v)) none t.1

/-- A store into data space. -/
def finishStore (s : State) (e : Fin 8) (b : Fin 4) (len : Nat) (a : Word) (n : Nat) (v : Word) : State :=
  let t := dataStall s e a
  finish (dataStore t.2 e b a n v) e b len none none t.1

/-! ## Faults (R211, R222) -/

/-- The parcel that a fault records: the instruction's first, or in a REP sequence the REP's (R231). -/
def faultParcel (s : State) (e : Fin 8) (b : Fin 4) : BitVec 16 :=
  match (s.bank e b).rep with
  | some (.rep _ at') => at'
  | _ => (s.bank e b).pc

/-- An illegal instruction (R222). -/
def illegal (s : State) (e : Fin 8) (b : Fin 4) : State := stepEnds (threadFault s e b (faultParcel s e b) (some 0) FS.FE_ILLEGAL) e

/-- A stack fault (R211, R212). -/
def stackFault (s : State) (e : Fin 8) (b : Fin 4) : State := stepEnds (threadFault s e b (faultParcel s e b) (some 2) FS.FE_STACK) e

/-- Whether a push would cross the stack limit (R211). -/
def stackBad (s : State) (e : Fin 8) (b : Fin 4) : Bool :=
  let x := s.bank e b
  x.splim != 0 && x.sp.toNat < x.splim.toNat + 4

/-- A word pushed (R211). -/
def pushWord (s : State) (e : Fin 8) (b : Fin 4) (v : Word) : State :=
  let sp := (s.bank e b).sp - 4
  dataStore (setSp s e b sp) e b (sp.setWidth 32) 4 v

/-! ## Thread control, waits and signals (R176, R183, R184, R192) -/

/-- A commit microword has run whose tail microword follows in the next cycle (R224). -/
def withTail (s : State) (e : Fin 8) (b : Fin 4) (t : RomTail) : State :=
  (s.updBank e b (fun x => { x with tail := some t })).updEng e (fun x => { x with commit := none })

/-- A context is written at the end of a service: the resume parcel and sp (R170, R176). -/
def saveCtx (s : State) (e : Fin 8) (b : Fin 4) (pc : Fin 32 → BitVec 16) : State :=
  match (s.bank e b).thread with
  | some k => setCtx (setCtx s e k 0 (pc k)) e k 1 (s.bank e b).sp
  | none => s

/-- DONE at its commit (R176): ENTRY and sp go to the context. -/
def threadDone (s : State) (e : Fin 8) (b : Fin 4) : State := withTail (saveCtx s e b (thEntry s e)) e b .done

/-- YIELD at its commit (R176): the next parcel and sp go to the context. -/
def threadYield (s : State) (e : Fin 8) (b : Fin 4) : State := withTail (saveCtx s e b (fun _ => nextPc s e b 1)) e b .yield

/-- The thread of a bank leaves it (R176, R177): after DONE it is READY, IDLE or, with EN cleared, DISABLED, and after YIELD READY. -/
def leaveBank (s : State) (e : Fin 8) (b : Fin 4) (done : Bool) : State :=
  match (s.bank e b).thread with
  | some k =>
    let s := freeBank (wrapPass s e (s.bank e b).pc) e b
    if done then settleThread s e k else setThState s e k TS.READY
  | none => s

/-- The engine goes on behind the tail of DONE or YIELD: a pre-empted thread resumes 3 cycles after the commit, and a READY one is
dispatched 5 cycles after it (R174). -/
def afterRelease (s : State) (e : Fin 8) (b : Fin 4) : State :=
  stepEnds (schedule (releaseBank s e b) e 2 4) e

/-- The tail microword of a ROM routine (R224): the release of the bank, the result of BAR, or the redirection of a call. -/
def romTail (s : State) (e : Fin 8) (b : Fin 4) : State :=
  let go (s : State) : State := s.updBank e b (fun x => { x with tail := none })
  match (s.bank e b).tail with
  | some .done => afterRelease (leaveBank s e b true) e b
  | some .yield => afterRelease (leaveBank s e b false) e b
  | some (.result rd v) => finishReg (go s) e b 2 rd v
  | some .redirect => go s
  | none => s

/-- LWAIT (R192): the result at once, or the thread waits. -/
def laneWait (s : State) (e : Fin 8) (b : Fin 4) (rd k : Fin 16) (c : Fin 4) : State :=
  if laneCond s k c then finishReg s e b 2 rd (lwaitResult s k false) (if k.val / 2 = e.val then 0 else 2)
  else stepEnds (beginWait s e b (.lane k c rd)) e

/-- BAR (R184): an engine outside MASK gets 3 in the tail; another arrives and waits. -/
def barrierWait (s : State) (e : Fin 8) (b : Fin 4) (rd : Fin 16) (j : Fin 8) : State :=
  if participates s j e then stepEnds (barArrive (beginWait s e b (.bar j rd)) e j) e
  else withTail s e b (.result rd 3)

/-! ## Arithmetic (R205, R226 to R229, R234) -/

/-- A shift amount (R227). -/
def shAmt (v : Word) : Nat := v.toNat % 64

/-- SHL, SHR, SAR and ROR (R227). -/
def shlOp (x y : Word) : Word := x <<< shAmt y
def shrOp (x y : Word) : Word := x >>> shAmt y
def sarOp (x y : Word) : Word := x.sshiftRight (shAmt y)
def rorOp (x y : Word) : Word := x.rotateRight (y.toNat % 32)

/-- Whether an exact result lies outside the signed 32-bit range. -/
def overS32 (i : Int) : Bool := decide (i < -(2 ^ 31 : Int)) || decide ((2 ^ 31 : Int) ≤ i)

/-- Leading zero bits. -/
def clzOp (x : Word) : Word := w32 (32 - (if x = 0 then 0 else Nat.log2 x.toNat + 1))

/-- The quotient and remainder of DIV, REM, DIVU and REMU (R226, R228). -/
def divOp (x y : Word) : Word := if y = 0 then 0xFFFFFFFF else wOfInt (x.toInt.tdiv y.toInt)
def remOp (x y : Word) : Word := if y = 0 then x else wOfInt (x.toInt.tmod y.toInt)
def divuOp (x y : Word) : Word := if y = 0 then 0xFFFFFFFF else w32 (x.toNat / y.toNat)
def remuOp (x y : Word) : Word := if y = 0 then x else w32 (x.toNat % y.toNat)

/-- The high half of a product. -/
def mulhOp (x y : Word) : Word := wOfInt (x.toInt * y.toInt / (2 ^ 32 : Int))
def mulhuOp (x y : Word) : Word := w32 (x.toNat * y.toNat / 2 ^ 32)

/-- Whether an exact signed 64-bit accumulation overflows (R229). -/
def overS64 (i : Int) : Bool := decide (i < -(2 ^ 63 : Int)) || decide ((2 ^ 63 : Int) ≤ i)

/-- The accumulator after a signed accumulation of `p`, with ST.AOV (R229). -/
def accumulate (s : State) (e : Fin 8) (b : Fin 4) (a : Bool) (p : Int) : State :=
  let r := (acc s e b a).toInt + p
  stickST (setAcc s e b a (BitVec.ofInt 64 r)) e b 1 (overS64 r)

/-- The accumulator after an unsigned accumulation (R229). -/
def accumulateU (s : State) (e : Fin 8) (b : Fin 4) (a : Bool) (p : Nat) : State :=
  let r := (acc s e b a).toNat + p
  stickST (setAcc s e b a (BitVec.ofNat 64 r)) e b 1 (decide (2 ^ 64 ≤ r))

/-- A 64-bit accumulator shifted right and saturated (R229): the result and whether it saturated. -/
def shraOp (x : BitVec 64) (k : Nat) : Word × Bool :=
  let i := x.toInt / (2 ^ (k % 64) : Int)
  if (0x7FFFFFFF : Int) < i then (0x7FFFFFFF, true) else if i < -(2 ^ 31 : Int) then (0x80000000, true) else (wOfInt i, false)

/-- ANGADD and ANGSUB (R234). -/
def angaddOp (x y : Word) (c : Nat) : Word := wOfInt (((x.toNat : Int) + y.toInt) % (c : Int))
def angsubOp (x y : Word) (c : Nat) : Word := wOfInt (((x.toNat : Int) - (y.toNat : Int)) % (c : Int))

/-- ACYC of a bank. -/
def acyc (s : State) (e : Fin 8) (b : Fin 4) : Nat := (s.bank e b).acyc.toNat

end Sys2Proof.Machine
end

