-- ==== Sys2Proof/Machine/Ecc.lean ====
section
/-! DEFINITION. Failed reads of the memories and their retry (R335). -/

namespace Sys2Proof.Machine

/-- The requester stalls for the 2 cycles of the retry: an engine starts its next instruction 2 cycles later. -/
def retryStall (s : State) (q : Requester) : State :=
  match q with
  | .engine e => s.updEng e (fun x => { x with next := x.next + 2, commit := x.commit.map (· + 2) })
  | _ => s

/-- A group of one pad record, in the place of an entry that could not be read. -/
def padGroup (g : RecGroup) : RecGroup :=
  { src := 127, typ := 7, lvl := true, fine := 31, coarse := 2 ^ 48 - 1, ext := [], ring := g.ring }

/-- The numbers of the groups that the entries of a ring's block belong to, in order. -/
def blockOwners (s : State) (r : Fin 64) : List Nat :=
  s.land.pool.flatMap (fun h => if h.g.ring == r then List.replicate (h.taken - h.freed) h.no else [])

/-- A held group that could not be read: the entries still to be taken become pad records. -/
def padHeld (h : Held) : List Held :=
  let rest := List.replicate (groupSize h.g - h.taken) { h with g := padGroup h.g, taken := 0, freed := 0 }
  if h.taken = 0 then rest else { h with g := { h.g with ext := h.g.ext.take (h.taken - 1) } } :: rest

/-- The group of entry `i` of a ring's block is written as pad records, and counted in CAPr_LOSS. -/
def padEntry (s : State) (r : Fin 64) (i : Nat) : State :=
  match s.ring[r].blk with
  | none => s
  | some (blk, n) =>
    let owners := blockOwners s r
    match owners[i]? with
    | none => s
    | some o =>
      let blk' := blk.zipIdx.map (fun p => if owners[p.2]? == some o then padRecord else p.1)
      let s := s.updRing r (fun x => { x with blk := some (blk', n) })
      countLoss (s.updLand (fun l => { l with pool := l.pool.flatMap (fun h => if h.g.ring == r && h.no == o then padHeld h else [h]) })) r 1

/-- What the requester of a lasting failure gets (R335). -/
def eccOutcome (s : State) (off : Nat) (q : Requester) : State :=
  match q with
  | .engine e => match executing s e with
    | some b => disableThread s e b (faultParcel s e b)
    | none => s
  | .gallery r => match s.ring[r].cur with
    | some d =>
      if d.ended then s
      else
        let s := { s with snap := { s.snap with copying := s.snap.copying.filter (·.1 != r) } }
        endDesc s r ST.ECC (if opcOf d.ws = 4 || opcOf d.ws = 5 then written d else w32 d.prog)
    | none => s
  | .entries r => padEntry s r (off / 8 % 32)
  | .slot n k => writeSlot s n k .cfg (s.rd (evOff n k EV.CFG) &&& ~~~ 0x80)
  | .txn t => failCommit s t
  | .port a =>
    let s := match a with
      | .sup => s.updPorts (fun p => { p with supData := p.supData.set (p.supData.length - 1) 0xFFFFFFFF })
      | _ => s
    s.keep a 0xFFFFFFFF
  | .scrub => s
  | .chest => s.updChest (fun c => { c with errs := c.errs ++ [off / 8 * 8] })

/-- READ_RETRY (R335): a failed read is repeated. Clean data make a transient record; a second failure is lasting. -/
def execReadRetry (mem : Fin 10) (off : Nat) (q : Requester) (clean : Bool) (s : State) : Host.Outcome State Fault Refusal :=
  let k := eccSource mem off
  let d := eccDetail mem off q
  let s := retryStall s q
  .next (if clean then s.raiseTransient k d else eccOutcome (s.raise k d) off q)

end Sys2Proof.Machine
end

