-- ==== Sys2Proof/Machine/Fetch.lean ====
section
/-! DEFINITION. The decoder of engine instructions (R214 to R221): from the parcels of code RAM to a command of the table, with every
encoding of the undefined space an illegal instruction. -/

namespace Sys2Proof.Machine

/-- A field of `n` bits from bit `lo` on of a parcel. -/
def pf (p : BitVec 16) (lo n : Nat) : Nat := p.toNat / 2 ^ lo % 2 ^ n

/-- A register field of a parcel. -/
def pr (p : BitVec 16) (lo : Nat) : Fin 16 := Fin.ofNat 16 (pf p lo 4)

/-- The SYS sub-operations (R216). -/
def decodeSys (e : Fin 8) (p : BitVec 16) : Instr :=
  let arg := pf p 0 8
  match pf p 8 4 with
  | 0x1 => if arg = 0 then .nop e else .illegalInstruction e
  | 0x2 => if arg = 0 then .done e else .illegalInstruction e
  | 0x3 => if arg = 0 then .yield e else .illegalInstruction e
  | 0x4 => if arg = 0 then .ret e else .illegalInstruction e
  | 0x5 => if arg < 16 then .rep e (pr p 0) else .illegalInstruction e
  | 0x6 => if arg % 16 = 0 then .push e (pr p 4) else .illegalInstruction e
  | 0x7 => if arg % 16 = 0 then .pop e (pr p 4) else .illegalInstruction e
  | _ => .illegalInstruction e

/-- The ALU2 functions (R217). -/
def decodeAlu2 (e : Fin 8) (p : BitVec 16) : Instr :=
  let rd := pr p 8
  let rs := pr p 4
  match pf p 0 4 with
  | 0x0 => .mov e rd rs
  | 0x1 => .add e rd rd rs false
  | 0x2 => .sub e rd rd rs false
  | 0x3 => .and e rd rd rs false
  | 0x4 => .or e rd rd rs false
  | 0x5 => .xor e rd rd rs false
  | 0x6 => .shl e rd rd rs false
  | 0x7 => .shr e rd rd rs false
  | 0x8 => .sar e rd rd rs false
  | 0x9 => .neg e rd rs
  | 0xA => .not e rd rs
  | 0xB => .slt e rd rd rs false
  | 0xC => .sltu e rd rd rs false
  | 0xD => .seq e rd rd rs false
  | 0xE => .sne e rd rd rs false
  | _ => .sbefore e rd rd rs false

/-- The shifts by an immediate (R215). -/
def decodeShi (e : Fin 8) (p : BitVec 16) : Instr :=
  let rd := pr p 8
  let amt := BitVec.ofNat 6 (pf p 0 6)
  match pf p 6 2 with
  | 0 => .shli e rd amt
  | 1 => .shri e rd amt
  | 2 => .sari e rd amt
  | _ => .rori e rd amt

/-- The instructions of one parcel (R215). -/
def decode16 (e : Fin 8) (p : BitVec 16) : Instr :=
  let r := pr p 8
  let i8 := BitVec.ofNat 8 (pf p 0 8)
  match pf p 12 4 with
  | 0x0 => decodeSys e p
  | 0x1 => decodeAlu2 e p
  | 0x2 => .addi8 e r i8
  | 0x3 => .li8 e r i8
  | 0x4 => .lwsp e r i8
  | 0x5 => .swsp e r i8
  | 0x6 => .bz e r (i8.signExtend 16) false
  | 0x7 => .bnz e r (i8.signExtend 16) false
  | 0x8 => decodeShi e p
  | 0x9 => .br e ((BitVec.ofNat 12 (pf p 0 12)).signExtend 16) false
  | 0xA => .lw4 e r (pr p 4) (BitVec.ofNat 4 (pf p 0 4))
  | _ => .sw4 e r (pr p 4) (BitVec.ofNat 4 (pf p 0 4))

/-- The ALU3 functions (R220). -/
def decodeAlu3 (e : Fin 8) (rd rs rt : Fin 16) (f : Nat) : Instr :=
  match f with
  | 0x0 => .add e rd rs rt true
  | 0x1 => .sub e rd rs rt true
  | 0x2 => .and e rd rs rt true
  | 0x3 => .or e rd rs rt true
  | 0x4 => .xor e rd rs rt true
  | 0x5 => .shl e rd rs rt true
  | 0x6 => .shr e rd rs rt true
  | 0x7 => .sar e rd rs rt true
  | 0x8 => .ror e rd rs rt
  | 0x9 => .slt e rd rs rt true
  | 0xA => .sltu e rd rs rt true
  | 0xB => .seq e rd rs rt true
  | 0xC => .sne e rd rs rt true
  | 0xD => .sbefore e rd rs rt true
  | 0xE => .tadd e rd rs rt
  | _ => .soadd e rd rs rt

/-- The ALUX functions (R220). -/
def decodeAlux (e : Fin 8) (rd rs rt : Fin 16) (f : Nat) : Instr :=
  match f with
  | 0x0 => .sosub e rd rs rt
  | 0x1 => if rt = 0 then .soneg e rd rs else .illegalInstruction e
  | 0x2 => .min e rd rs rt
  | 0x3 => .max e rd rs rt
  | 0x4 => .minu e rd rs rt
  | 0x5 => .maxu e rd rs rt
  | 0x6 => if rt = 0 then .clz e rd rs else .illegalInstruction e
  | _ => .illegalInstruction e

/-- The MULDIV functions (R220). -/
def decodeMuldiv (e : Fin 8) (rd rs rt : Fin 16) (f : Nat) : Instr :=
  match f with
  | 0x0 => .mul e rd rs rt
  | 0x1 => .mulh e rd rs rt
  | 0x2 => .mulhu e rd rs rt
  | 0x3 => .div e rd rs rt
  | 0x4 => .divu e rd rs rt
  | 0x5 => .rem e rd rs rt
  | 0x6 => .remu e rd rs rt
  | _ => .illegalInstruction e

/-- The ACC functions (R220). -/
def decodeAcc (e : Fin 8) (ra rb rt : Fin 16) (f : Nat) (a : Bool) : Instr :=
  match f with
  | 0x0 => if ra = 0 then .mac e a rb rt else .illegalInstruction e
  | 0x1 => if ra = 0 then .msu e a rb rt else .illegalInstruction e
  | 0x2 => if ra = 0 then .macu e a rb rt else .illegalInstruction e
  | 0x3 => if ra = 0 then .wra e a rb rt else .illegalInstruction e
  | 0x4 => if rb = 0 && rt = 0 then .rdal e ra a else .illegalInstruction e
  | 0x5 => if rb = 0 && rt = 0 then .rdah e ra a else .illegalInstruction e
  | 0x6 => if rb = 0 then .shra e ra rt a else .illegalInstruction e
  | _ => .illegalInstruction e

/-- A decoded instruction where a condition on its reserved fields holds, and an illegal one elsewhere (R218, R221). -/
def legal (e : Fin 8) (c : Bool) (i : Instr) : Instr := if c then i else .illegalInstruction e

/-- The instructions of two parcels (R219). -/
def decode32 (e : Fin 8) (p q : BitVec 16) : Instr :=
  let a := pr p 4
  let b := pr p 0
  let rt := pr q 12
  let f := pf q 8 4
  let az := a == 0
  let bz := b == 0
  match pf p 8 6 with
  | 0x00 => legal e (pf q 0 8 == 0) (decodeAlu3 e a b rt f)
  | 0x01 => legal e (pf q 0 8 == 0) (decodeAlux e a b rt f)
  | 0x02 => legal e (pf q 0 8 == 0) (decodeMuldiv e a b rt f)
  | 0x03 => legal e (pf q 1 7 == 0) (decodeAcc e a b rt f (pf q 0 1 == 1))
  | 0x04 => legal e (pf q 2 14 == 0 && a != b) (.macd e a b (pf q 1 1 == 1) (pf q 0 1 == 1))
  | 0x05 => legal e (pf q 0 8 == 0) (match f with | 0 => .angadd e a b rt | 1 => .angsub e a b rt | _ => .illegalInstruction e)
  | 0x08 => legal e bz (.li e a q)
  | 0x09 => legal e bz (.lui e a q)
  | 0x0A => .addi e a b q
  | 0x0B => .andi e a b q
  | 0x0C => .ori e a b q
  | 0x0D => .xori e a b q
  | 0x0E => .slti e a b q
  | 0x0F => .sltui e a b q
  | 0x10 => .seqi e a b q
  | 0x11 => .snei e a b q
  | 0x18 => .lw e a b q
  | 0x19 => .lh e a b q
  | 0x1A => .lhu e a b q
  | 0x1B => .lb e a b q
  | 0x1C => .lbu e a b q
  | 0x1D => .sw e a b q
  | 0x1E => .sh e a b q
  | 0x1F => .sb e a b q
  | 0x20 => legal e (a != b) (.lwpi e a b q)
  | 0x21 => .swpi e a b q
  | 0x28 => legal e az (.bz e b q true)
  | 0x29 => legal e az (.bnz e b q true)
  | 0x2A => legal e (az && bz) (.br e q true)
  | 0x2B => legal e (az && bz) (.call e q)
  | 0x2C => legal e (az && q == 0) (.jr e b)
  | 0x2D => legal e (az && q == 0) (.callr e b)
  | 0x2E => legal e (az && bz) (.repi e q)
  | 0x2F => legal e (az && q == 0) (.repir e b)
  | 0x30 => .inp e a b q
  | 0x31 => .out e a b q
  | 0x32 => legal e (pf q 2 14 == 0) (.lwait e a b (Fin.ofNat 4 (pf q 0 2)))
  | 0x33 => legal e (bz && pf q 3 13 == 0) (.bar e a (Fin.ofNat 8 (pf q 0 3)))
  | 0x34 => legal e (az && bz && pf q 3 5 == 0 && pf q 13 3 == 0) (.sig e (Fin.ofNat 8 (pf q 0 3)) (Fin.ofNat 32 (pf q 8 5)))
  | 0x35 => legal e (bz && pf q 4 12 == 0 && pf q 0 4 ≤ 5) (.mfs e a (Fin.ofNat 6 (pf q 0 4)))
  | 0x36 => legal e (az && pf q 4 12 == 0 && pf q 0 4 ≤ 4) (.mts e (Fin.ofNat 5 (pf q 0 4)) b)
  | _ => .illegalInstruction e

/-- The instruction of engine `e` in the parcels `p` and `q` (R214). -/
def decodeParcels (e : Fin 8) (p q : BitVec 16) : Instr := if parcels p = 2 then decode32 e p q else decode16 e p

/-- The instruction of engine `e` at a parcel address. -/
def instrAt (s : State) (e : Fin 8) (a : BitVec 16) : Instr := decodeParcels e (codeParcel s a) (codeParcel s (a + 1))

/-- Whether an instruction cannot be repeated (R233). -/
def unrepeatable : Instr → Bool
  | .bz _ _ _ _ | .bnz _ _ _ _ | .br _ _ _ | .jr _ _ | .call _ _ | .callr _ _ | .ret _ => true
  | .rep _ _ | .repi _ _ | .repir _ _ | .done _ | .yield _ => true
  | .lwait _ _ _ _ | .bar _ _ _ | .sig _ _ _ | .mfs _ _ _ | .mts _ _ _ | .push _ _ | .pop _ _ => true
  | _ => false

/-- What the decoder detects before a routine's first microword, whether or not the routine is patched (R211, R221, R241): a stack fault of
PUSH and the calls, and the illegal encodings that name their registers alike or repeat what cannot be repeated. -/
inductive Detected where
  | stack
  | illegal
deriving DecidableEq, Repr

/-- The decoder's checks of the instruction that a bank is about to execute. -/
def detect (s : State) (e : Fin 8) (b : Fin 4) : Instr → Option Detected
  | .push _ _ | .call _ _ | .callr _ _ => if stackBad s e b then some .stack else none
  | .rep _ _ => if unrepeatable (instrAt s e (nextPc s e b 1)) then some .illegal else none
  | .repi _ _ | .repir _ _ => if unrepeatable (instrAt s e (nextPc s e b 2)) then some .illegal else none
  | .macd _ gx gy _ _ => if gx = gy then some .illegal else none
  | .lwpi _ rd rb _ => if rd = rb then some .illegal else none
  | .illegalInstruction _ => some .illegal
  | _ => none

/-- The fault of what the decoder has detected. -/
def detected (s : State) (e : Fin 8) (b : Fin 4) : Detected → State
  | .stack => stackFault s e b
  | .illegal => illegal s e b

end Sys2Proof.Machine
end

