-- ==== Sys2Proof/Machine/Sequencer.lean ====
section
/-! DEFINITION. The microcode sequencer (R240 to R250) for instructions whose routine a loaded patch redirects: microwords, their
operands and classes, the commit rule, and micro-faults. An instruction whose routine fetches from no matched ROM address has the meaning of
the chapter "Engine Instruction Set". -/

namespace Sys2Proof.Machine

/-! ## What a routine sees of its instruction (R244) -/

/-- The fields of a register form; of 16 bits with rd as the first source too. -/
def fReg (rd rs rt : Fin 16) (long : Bool) : Fields := ⟨rd, rs, rt, 0, 0, false, if long then 2 else 1⟩
/-- The fields of an immediate form of two parcels. -/
def fImm (ra rb : Fin 16) (imm : BitVec 16) : Fields := ⟨ra, rb, 0, imm.toNat, 16, false, 2⟩
/-- The fields of a form of one parcel with an immediate of `wid` bits. -/
def fShort (ra rb : Fin 16) (imm wid : Nat) : Fields := ⟨ra, rb, 0, imm, wid, false, 1⟩
/-- The fields of a branch: its offset has `wid` bits in the short form. -/
def fBranch (rb : Fin 16) (o : BitVec 16) (long : Bool) (wid : Nat) : Fields :=
  if long then fImm 0 rb o else fShort 0 rb (o.toNat % 2 ^ wid) wid
/-- The fields of an accumulator form. -/
def fAcc (ra rb rt : Fin 16) (a : Bool) : Fields := ⟨ra, rb, rt, 0, 0, a, 2⟩

/-- The fields of an engine instruction; none of another command. -/
def fields : Instr → Option Fields
  | .nop _ | .done _ | .yield _ | .ret _ => some (fShort 0 0 0 0)
  | .rep _ n => some (fShort 0 0 n.val 4)
  | .push _ r | .pop _ r => some (fShort r 0 0 0)
  | .mov _ rd rs | .neg _ rd rs | .not _ rd rs => some (fReg rd rs 0 false)
  | .add _ rd rs rt l | .sub _ rd rs rt l | .and _ rd rs rt l | .or _ rd rs rt l | .xor _ rd rs rt l => some (fReg rd rs rt l)
  | .shl _ rd rs rt l | .shr _ rd rs rt l | .sar _ rd rs rt l => some (fReg rd rs rt l)
  | .slt _ rd rs rt l | .sltu _ rd rs rt l | .seq _ rd rs rt l | .sne _ rd rs rt l | .sbefore _ rd rs rt l => some (fReg rd rs rt l)
  | .ror _ rd rs rt | .tadd _ rd rs rt | .soadd _ rd rs rt | .sosub _ rd rs rt => some (fReg rd rs rt true)
  | .min _ rd rs rt | .max _ rd rs rt | .minu _ rd rs rt | .maxu _ rd rs rt => some (fReg rd rs rt true)
  | .mul _ rd rs rt | .mulh _ rd rs rt | .mulhu _ rd rs rt => some (fReg rd rs rt true)
  | .div _ rd rs rt | .divu _ rd rs rt | .rem _ rd rs rt | .remu _ rd rs rt => some (fReg rd rs rt true)
  | .angadd _ rd rs rt | .angsub _ rd rs rt => some (fReg rd rs rt true)
  | .soneg _ rd rs | .clz _ rd rs => some (fReg rd rs 0 true)
  | .addi8 _ rd imm | .li8 _ rd imm => some (fShort rd rd imm.toNat 8)
  | .lwsp _ r u | .swsp _ r u => some (fShort r 0 u.toNat 8)
  | .bz _ rs o l | .bnz _ rs o l => some (fBranch rs o l 8)
  | .br _ o l => some (fBranch 0 o l 12)
  | .shli _ rd k | .shri _ rd k | .sari _ rd k | .rori _ rd k => some (fShort rd rd k.toNat 6)
  | .lw4 _ r rb u | .sw4 _ r rb u => some (fShort r rb u.toNat 4)
  | .mac _ a rs rt | .msu _ a rs rt | .macu _ a rs rt | .wra _ a rs rt => some (fAcc 0 rs rt a)
  | .rdal _ rd a | .rdah _ rd a => some (fAcc rd 0 0 a)
  | .shra _ rd rt a => some (fAcc rd 0 rt a)
  | .macd _ gx gy h a => some ⟨gx, gy, 0, 2 * h.toNat + a.toNat, 16, a, 2⟩
  | .li _ rd i | .lui _ rd i => some (fImm rd 0 i)
  | .addi _ rd rs i | .andi _ rd rs i | .ori _ rd rs i | .xori _ rd rs i => some (fImm rd rs i)
  | .slti _ rd rs i | .sltui _ rd rs i | .seqi _ rd rs i | .snei _ rd rs i => some (fImm rd rs i)
  | .lw _ rd rs i | .lh _ rd rs i | .lhu _ rd rs i | .lb _ rd rs i | .lbu _ rd rs i => some (fImm rd rs i)
  | .sw _ rs rb i | .sh _ rs rb i | .sb _ rs rb i | .lwpi _ rs rb i | .swpi _ rs rb i => some (fImm rs rb i)
  | .inp _ rd rb i | .out _ rd rb i => some (fImm rd rb i)
  | .call _ t => some (fImm 0 0 t)
  | .jr _ rs | .callr _ rs | .repir _ rs => some (fImm 0 rs 0)
  | .repi _ n => some (fImm 0 0 n)
  | .lwait _ rd lane c => some (fImm rd lane (BitVec.ofNat 16 c.val))
  | .bar _ rd b => some (fImm rd 0 (BitVec.ofNat 16 b.val))
  | .sig _ t th => some (fImm 0 0 (BitVec.ofNat 16 (t.val + 256 * th.val)))
  | .mfs _ rd n => some (fImm rd 0 (BitVec.ofNat 16 n.val))
  | .mts _ n rs => some (fImm 0 rs (BitVec.ofNat 16 n.val))
  | _ => none

/-- A routine before its first microword (R241, R248). -/
def Run.start (f : Fields) (a : Nat) : Run :=
  { f := f, at' := a, pre := 0, committed := false, post := 0, dual := (0, 0), load := none, pc := none, rep := false, ctx := 0, sel := 0,
    last := false }

/-- How a microword ends: the routine goes on at the next or a named microword, with a stall, it micro-faults, its stack check fails, or the
bank waits for a result. -/
inductive Micro where
  | ok (q : Run) (s : State) (dst : Option Nat) (stall : Nat)
  | fault
  | stack
  | wait (w : Wait) (k : Nat) (s : State)

/-! ## The classes (R245 to R247) -/

/-- ALU functions (R246); none of a reserved code. -/
def aluFn (fn : Nat) (x y : Word) (c : Nat) : Option Word :=
  match fn with
  | 0x00 => some x
  | 0x01 => some (x + y)
  | 0x02 => some (x - y)
  | 0x03 => some (x &&& y)
  | 0x04 => some (x ||| y)
  | 0x05 => some (x ^^^ y)
  | 0x06 => some (shlOp x y)
  | 0x07 => some (shrOp x y)
  | 0x08 => some (sarOp x y)
  | 0x09 => some (rorOp x y)
  | 0x0A => some (flag (x.slt y))
  | 0x0B => some (flag (x.ult y))
  | 0x0C => some (flag (x == y))
  | 0x0D => some (x * y)
  | 0x0E => some (mulhOp x y)
  | 0x0F => some (mulhuOp x y)
  | 0x10 => some (if x.slt y then x else y)
  | 0x11 => some (if x.slt y then y else x)
  | 0x12 => some (if x.ult y then x else y)
  | 0x13 => some (if x.ult y then y else x)
  | 0x14 => some (clzOp x)
  | 0x15 => some (angaddOp x 0 c)
  | 0x16 => some (flag (overS32 (x.toInt + y.toInt)))
  | 0x17 => some (~~~ x)
  | _ => none

/-- A write to a selector, a micro-fault when it would be visible too early. -/
def microPut (q : Run) (s : State) (e : Fin 8) (b : Fin 4) (k : Nat) (v : Word) : Micro :=
  if selVisible k && !q.committed then .fault
  else let p := putSel q s e b k v; .ok p.1 p.2 none 0

/-- The ALU and IMM classes. -/
def microAlu (q : Run) (s : State) (e : Fin 8) (b : Fin 4) (w : Word) : Micro :=
  if bit w 0 then .fault
  else match aluFn (fld w 13 5) (sel q s e b (fld w 5 4)) (sel q s e b (fld w 1 4)) (acyc s e b) with
    | some v => microPut q s e b (fld w 9 4) v
    | none => .fault

/-- A load of the MEM class reaches its destination: a general register after the delay slot, at most one in a routine. -/
def microLoaded (q : Run) (s : State) (e : Fin 8) (b : Fin 4) (k : Nat) (v : Word) (stall : Nat) : Micro :=
  if k ≤ 2 then
    if q.load.isSome then .fault else .ok { q with load := some (selReg q.f k, v) } s none stall
  else let p := putSel q s e b k v; .ok p.1 p.2 none stall

/-- A loaded value of `n` bytes, sign-extended where SX is set. -/
def extend (v : Word) (n : Nat) (sx : Bool) : Word := if sx && n < 4 then wOfInt (sext (8 * n) v.toNat) else v

/-- The MEM class. -/
def microMem (q : Run) (s : State) (e : Fin 8) (b : Fin 4) (w : Word) : Micro :=
  let space := fld w 16 2
  let store := bit w 15
  let sz := fld w 13 2
  let a := sel q s e b (fld w 8 4)
  let k := fld w 4 4
  let n := 2 ^ sz
  if 2 ≤ space || sz = 3 || (space = 1 && sz != 2) || fld w 0 4 != 0 then .fault
  else if !q.committed && (store || space = 1 || k < 10 || 13 < k) then .fault
  else if space = 1 then
    if store then .ok q (ioWrite s e b a (sel q s e b k)) none (ioStall e a)
    else let r := ioRead s e b a; microLoaded q r.2 e b k r.1 (ioStall e a)
  else
    let st := dataStall s e a
    if store then .ok q (dataStore st.2 e b a n (sel q s e b k)) none st.1
    else microLoaded q st.2 e b k (extend (dataLoad st.2 e b a n) n (bit w 12)) st.1

/-- A division's operands come into the divide unit of the bank (R242). -/
def loadDivide (s : State) (e : Fin 8) (b : Fin 4) (x y : Word) (signed : Bool) : State :=
  s.updBank e b (fun t => { t with dividend := x, divisor := y, signed := signed, steps := 0 })

/-- The result of a division after its steps: two quotient bits each, so that fewer than 16 leave a value that the spec does not give. -/
def divResult (s : State) (e : Fin 8) (b : Fin 4) (rem : Bool) : Word × State :=
  let x := s.bank e b
  if x.steps < 16 then s.fresh
  else (match x.signed, rem with
    | true, false => divOp x.dividend x.divisor
    | true, true => remOp x.dividend x.divisor
    | false, false => divuOp x.dividend x.divisor
    | false, true => remuOp x.dividend x.divisor, s)

/-- The operands that MACD fetches (R230): words, or with sz = 1 halfwords, sign-extended. -/
def macdOperand (q : Run) (s : State) (e : Fin 8) (b : Fin 4) (a : Word) : Word :=
  if bit q.f.zimm 1 then extend (dataLoad s e b a 2) 2 true else dataLoad s e b a 4

/-- Whether the two operands of MACD lie in opposite halves of the local RAM (R230). -/
def opposite (x y : Word) : Bool :=
  let p := x.toNat % 0x10000
  let q := y.toNat % 0x10000
  (p < 0x4000 && 0x4000 ≤ q && q < 0x8000) || (q < 0x4000 && 0x4000 ≤ p && p < 0x8000)

/-- The cycles that fetching MACD's operands adds (R167, R230): one where the reads are serial, and the stalls of the parameter window, where
the second of two serial reads has no other agent ahead of it. -/
def macdStall (s : State) (e : Fin 8) (x y : Word) : Nat × State :=
  let serial := if opposite x y then 0 else 1
  let st := dataStall s e x
  if inParam x && inParam y then (serial + st.1 + 1, st.2)
  else let st' := dataStall st.2 e y; (serial + st.1 + st'.1, st'.2)

/-- The STEP class. -/
def microStep (q : Run) (s : State) (e : Fin 8) (b : Fin 4) (w : Word) : Micro :=
  let op := fld w 14 4
  let k := fld w 8 4
  let x := sel q s e b k
  let y := sel q s e b (fld w 4 4)
  let a := match fld w 12 2 with | 0 => q.f.a | 1 => false | _ => true
  if fld w 12 2 = 3 || fld w 0 4 != 0 then .fault
  else match op with
    | 0 => .ok q (loadDivide s e b x y true) none 0
    | 1 => .ok q (loadDivide s e b x y false) none 0
    | 2 => .ok q (s.updBank e b (fun t => { t with steps := t.steps + 1 })) none 0
    | 9 =>
      let st := macdStall s e x y
      .ok { q with dual := (macdOperand q s e b x, macdOperand q s e b y) } st.2 none st.1
    | _ =>
      if !q.committed then .fault
      else match op with
        | 3 | 4 =>
          let r := divResult s e b (op == 4)
          let p := putSel q (stickST r.2 e b 0 ((s.bank e b).divisor == 0)) e b k r.1
          .ok p.1 p.2 none 0
        | 5 => .ok q (accumulate s e b a (x.toInt * y.toInt)) none 0
        | 6 => .ok q (accumulate s e b a (-(x.toInt * y.toInt))) none 0
        | 7 => .ok q (accumulateU s e b a (x.toNat * y.toNat)) none 0
        | 8 => .ok q (setAcc s e b a (x ++ y)) none 0
        | 10 =>
          let n : Word := if bit q.f.zimm 1 then 2 else 4
          let s := accumulate s e b a (q.dual.1.toInt * q.dual.2.toInt)
          .ok q (setReg (setReg s e b q.f.ra (reg s e b q.f.ra + n)) e b q.f.rb (reg s e b q.f.rb + n)) none 0
        | _ => .fault

/-- The BR class. -/
def microBr (q : Run) (s : State) (e : Fin 8) (b : Fin 4) (w : Word) : Micro :=
  let tgt := fld w 0 15
  let x := s.bank e b
  let go (c : Bool) : Micro := .ok q s (if c then some tgt else none) 0
  if 16640 ≤ tgt then .fault
  else match fld w 15 3 with
    | 0 => go true
    | 1 => go (x.t[0] == 0)
    | 2 => go (x.t[0] != 0)
    | 3 => go (x.rc == 0)
    | 4 => go (x.rc != 0)
    | _ => .fault

/-- The SYS class. RELEASE frees the bank as DONE, or as YIELD where the routine has written its context. -/
def microSys (q : Run) (s : State) (e : Fin 8) (b : Fin 4) (w : Word) : Micro :=
  let op := fld w 14 4
  let k := fld w 10 4
  let j := Fin.ofNat 8 q.f.imm
  let put (v : Word) : Micro := let p := putSel q s e b k v; .ok p.1 p.2 none 0
  if fld w 0 10 != 0 then .fault
  else if op = 8 then (if stackBad s e b then .stack else .ok q s none 0)
  else if !q.committed then .fault
  else match op with
    | 0 => .ok { q with ctx := 1 } (saveCtx s e b (thEntry s e)) none 0
    | 1 => .ok { q with ctx := 2 } (saveCtx s e b (fun _ => nextPc s e b q.f.len)) none 0
    | 2 => .ok q (leaveBank s e b (q.ctx != 2)) none 0
    | 3 =>
      let c := Fin.ofNat 4 q.f.imm
      if laneCond s q.f.rb c then put (lwaitResult s q.f.rb false) else .wait (.lane q.f.rb c 0) k s
    | 4 => if participates s j e then .ok { q with ctx := 3 } (barArrive s e j) none 0 else .ok q s none 0
    | 5 => if q.ctx != 3 then put 3 else if s.bt (barOff j) (8 + e.val) then .wait (.bar j 0) k s else put 0
    | 6 => .ok q (s.srq j (Fin.ofNat 32 (q.f.imm / 256)) (.sig e) 2) none 0
    | 7 => .ok { q with rep := true } (s.updBank e b (fun x => { x with rc := (sel q s e b k).setWidth 16 })) none 0
    | _ => .fault

/-- What a microword does (R243). -/
def microword (q : Run) (s : State) (e : Fin 8) (b : Fin 4) (w : Word) : Micro :=
  match fld w 18 4 with
  | 0 => microAlu q s e b w
  | 1 => microPut q s e b (fld w 14 4) (w32 (fld w 0 14))
  | 2 => microMem q s e b w
  | 3 => microStep q s e b w
  | 4 => microBr q s e b w
  | 5 => microSys q s e b w
  | _ => .fault

/-! ## The sequence (R240, R248, R249) -/

/-- The match register that a ROM address meets. -/
def matchAt (s : State) (a : Nat) : Option Nat := (s.patch.match'.find? (·.1 == a)).map (·.2)

/-- The address at which the microword of an address is fetched: that of the patch microword where a match register redirects it
(R240). -/
def fetchAt (s : State) (a : Nat) : Nat :=
  if 16384 ≤ a then a else match matchAt s a with | some p => 16384 + p | none => a

/-- The microword at an address of the control store. -/
def controlWord (s : State) (a : Nat) : Word :=
  if 16384 ≤ a then w32 (s.patch.words.getD (a - 16384) 0) else (Config.romWord a).setWidth 32

/-- What the cycle of a microword brings: the routine goes on or has ended, with a stall, a micro-fault at an address, a stack fault, or a
wait. -/
inductive Cycle where
  | more (q : Run) (s : State) (stall : Nat)
  | done (q : Run) (s : State) (stall : Nat)
  | fault (a : Nat)
  | stack
  | wait (q : Run) (w : Wait) (s : State)

/-- Whether the sequencer may run a microword here (R248, R249): it lies in the control store, one commit microword on a pass, at most 4
microwords after it, and before it neither the last microword nor the 1 024th. -/
def mayRun (q : Run) (a : Nat) (w : Word) : Bool :=
  a < 16640 && (if q.committed then !bit w 23 && decide (q.post < 4) else bit w 23 || (!bit w 22 && decide (q.pre < 1023)))

/-- The routine past a microword: it has committed, or has one microword more before or after the commit. -/
def Run.advance (q : Run) (w : Word) : Run :=
  if q.committed then { q with post := q.post + 1 }
  else if bit w 23 then { q with committed := true }
  else { q with pre := q.pre + 1 }

/-- One microword of a routine. -/
def microCycle (q : Run) (s : State) (e : Fin 8) (b : Fin 4) : Cycle :=
  let a := fetchAt s q.at'
  let w := controlWord s a
  if !mayRun q a w then .fault a
  else
    let commits := bit w 23
    let s := if commits then s.updBank e b Bank.count else s
    match microword (q.advance w) s e b w with
    | .fault => .fault a
    | .stack => .stack
    | .wait x k s => .wait { q.advance w with at' := a + 1, sel := k, last := bit w 22 } x s
    | .ok q s dst n => if bit w 22 then .done q s n else .more { q with at' := dst.getD (a + 1) } s n

/-- Whether the routine meets a match register on its way through ROM, with the operands of this moment. -/
def meets (e : Fin 8) (b : Fin 4) : Nat → Run → State → Bool
  | 0, _, _ => false
  | fuel + 1, q, s =>
    (matchAt s q.at').isSome
      || (match microCycle q s e b with | .more q s _ => meets e b fuel q s | _ => false)

/-- The routine of an instruction that a loaded patch redirects (R240, R241); none of one that runs in ROM alone. -/
def redirected (s : State) (e : Fin 8) (b : Fin 4) (i : Instr) : Option Run :=
  if s.patch.match'.isEmpty then none
  else match fields i with
    | some f =>
      let q := Run.start f (Config.romEntry i).val
      if meets e b 1032 q s then some q else none
    | none => none

/-- A routine has ended (R248, R250): the instruction is over, or where the bank has been released the engine goes on. -/
def microEnd (q : Run) (s : State) (e : Fin 8) (b : Fin 4) (stall : Nat) : State :=
  let s := s.updBank e b (fun x => { x with run := none })
  if (s.bank e b).thread.isNone then afterRelease (endLoad s e b q.load) e b
  else
    let s := close s e b q.f.len q.load q.pc stall
    stepEnds (if q.rep then beginRepi s e b else s) e

/-- A micro-fault (R249): before the commit microword as an illegal instruction, in the tail with the effects so far. -/
def microFault (q : Run) (s : State) (e : Fin 8) (b : Fin 4) (a : Nat) : State :=
  let s := s.note R.MC_UFAULT (fun _ => w32 (a % 2 ^ 15 + e.val * 2 ^ 15 + 2 ^ 31))
  if q.committed then
    let k := ((s.bank e b).thread.getD 0).val
    let p := faultParcel s e b
    let n := nextPc s e b q.f.len
    let s := endLoad s e b q.load
    stepEnds ((disableThread (s.setEv (feOff e FE.EVT) 0) e b n).raise (FS.MC_UFAULT + e.val)
      (w32 (p.toNat + k * 65536 + e.val * 2 ^ 21))) e
  else stepEnds (threadFault s e b (faultParcel s e b) (some 0) FS.MC_UFAULT) e

/-- A microword of the routine under way takes its cycle, and the next one follows after the stall. -/
def microRun (q : Run) (s : State) (e : Fin 8) (b : Fin 4) : State :=
  match microCycle q s e b with
  | .more q s n =>
    (s.updBank e b (fun x => { x with run := some q })).updEng e (fun x => { x with next := s.ticks + s.samples (1 + n), commit := none })
  | .done q s n => microEnd q s e b n
  | .fault a => microFault q s e b a
  | .stack => stackFault s e b
  | .wait q w s => stepEnds (beginWait (s.updBank e b (fun x => { x with run := some q })) e b w) e

/-- Whether the next microword of a routine stays before the commit, without a fault. -/
def quiet (q : Run) (s : State) (e : Fin 8) (b : Fin 4) : Bool :=
  match microCycle q s e b with | .more q _ _ => !q.committed | _ => false

/-- The routine at its commit microword: those before it change the micro-temporaries alone. -/
def toCommit (e : Fin 8) (b : Fin 4) : Nat → Run → State → Run × State
  | 0, q, s => (q, s)
  | fuel + 1, q, s =>
    match microCycle q s e b with
    | .more q' s' _ => if q'.committed then (q, s) else toCommit e b fuel q' s'
    | _ => (q, s)

/-- The micro-temporaries read 0 at the first microword of a routine, and the divide unit has done no step (R242). -/
def clearTemps (s : State) (e : Fin 8) (b : Fin 4) : State :=
  s.updBank e b (fun x => { x with t := Vector.replicate 4 0, steps := 0 })

/-- An instruction takes effect at its commit on the bank that executes: with what the decoder detects, by its patched routine up to and
with the commit microword, or with the meaning `body`. On an engine that executes nothing, or runs a tail, nothing happens. -/
def instr (i : Instr) (e : Fin 8) (s : State) (body : State → Fin 4 → State) : Host.Outcome State Fault Refusal :=
  match executing s e with
  | none => .next s
  | some b =>
    if (s.bank e b).inTail then .next s
    else match (s.bank e b).run, detect s e b i with
      | some q, _ => .next (let p := toCommit e b 1032 q s; microRun p.1 p.2 e b)
      | none, some d => .next (detected s e b d)
      | none, none =>
        match redirected s e b i with
        | some q => .next (let p := toCommit e b 1032 q (clearTemps s e b); microRun p.1 p.2 e b)
        | none => .next (body s b)

/-! ## Cycles (R224) -/

/-- The cycles before the commit microword of an instruction's ROM routine. -/
def romCommit : Instr → Nat
  | .mul _ _ _ _ | .mulh _ _ _ _ | .mulhu _ _ _ _ | .mac _ _ _ _ | .msu _ _ _ _ | .macu _ _ _ _ | .shra _ _ _ _ | .macd _ _ _ _ _ => 1
  | .ret _ | .lwait _ _ _ _ => 1
  | .angadd _ _ _ _ | .angsub _ _ _ _ => 2
  | .div _ _ _ _ | .divu _ _ _ _ | .rem _ _ _ _ | .remu _ _ _ _ => 17
  | _ => 0

/-- An instruction begins: the decoder's fault comes at once, a patched routine is at its first microword, and of a ROM routine the cycle of
the commit is fixed. -/
def beginInstr (s : State) (e : Fin 8) (b : Fin 4) (i : Instr) : State :=
  let at' (n : Nat) : State := s.updEng e (fun x => { x with commit := some (s.ticks + s.samples n) })
  if (detect s e b i).isSome then at' 0
  else match redirected s e b i with
    | some q => (clearTemps s e b).updBank e b (fun x => { x with run := some q })
    | none => at' (romCommit i)

end Sys2Proof.Machine
end

