-- ==== Sys2Proof/Machine/Isa.lean ====
section
/-! DEFINITION. The engine instructions (R202 to R237), each at its commit on the bank that executes: its operation, its length, and the
cycles that follow its commit (R224). -/

namespace Sys2Proof.Machine

/-! ## Shapes -/

/-- An operation on two general registers. -/
def alu (i : Instr) (e : Fin 8) (rd rs rt : Fin 16) (long : Bool) (f : Word → Word → Word) (s : State) :
    Host.Outcome State Fault Refusal :=
  instr i e s (fun s b => finishReg s e b (if long then 2 else 1) rd (f (reg s e b rs) (reg s e b rt)))

/-- An operation on a general register and an immediate. -/
def aluImm (i : Instr) (e : Fin 8) (len : Nat) (rd rs : Fin 16) (k : Word) (f : Word → Word → Word) (s : State) :
    Host.Outcome State Fault Refusal :=
  instr i e s (fun s b => finishReg s e b len rd (f (reg s e b rs) k))

/-- A division, with ST.DZ on a zero divisor (R228). -/
def division (i : Instr) (e : Fin 8) (rd rs rt : Fin 16) (f : Word → Word → Word) (s : State) : Host.Outcome State Fault Refusal :=
  instr i e s (fun s b =>
    finishReg (stickST s e b 0 (reg s e b rt == 0)) e b 2 rd (f (reg s e b rs) (reg s e b rt)))

/-- An accumulation of a signed product (R229). -/
def accOp (i : Instr) (e : Fin 8) (a : Bool) (rs rt : Fin 16) (neg : Bool) (s : State) : Host.Outcome State Fault Refusal :=
  instr i e s (fun s b =>
    let p := (reg s e b rs).toInt * (reg s e b rt).toInt
    finish (accumulate s e b a (if neg then -p else p)) e b 2 none none 0)

/-- A load of `n` bytes at a register plus an offset, sign-extended where `sx` holds (R207). -/
def load (i : Instr) (e : Fin 8) (len : Nat) (rd rs : Fin 16) (k : Word) (n : Nat) (sx : Bool) (s : State) :
    Host.Outcome State Fault Refusal :=
  instr i e s (fun s b =>
    let a := reg s e b rs + k
    finishLoad s e b len rd a (extend (dataLoad s e b a n) n sx))

/-- A store of `n` bytes at a register plus an offset (R207). -/
def store (i : Instr) (e : Fin 8) (len : Nat) (rs rb : Fin 16) (k : Word) (n : Nat) (s : State) : Host.Outcome State Fault Refusal :=
  instr i e s (fun s b => finishStore s e b len (reg s e b rb + k) n (reg s e b rs))

/-- A branch by an offset from its own first parcel when `c` holds (R213): 3 cycles taken, 1 not taken. -/
def branch (i : Instr) (e : Fin 8) (ofs : BitVec 16) (long : Bool) (c : State → Fin 4 → Bool) (s : State) :
    Host.Outcome State Fault Refusal :=
  instr i e s (fun s b =>
    let len := if long then 2 else 1
    if c s b then finish s e b len none (some ((s.bank e b).pc + ofs)) 2 else finish s e b len none none 0)

/-- A call of a target (R211): the return address is pushed at the commit, and the tail redirects (R224). -/
def callTo (s : State) (e : Fin 8) (b : Fin 4) (t : BitVec 16) : State :=
  let ra := (s.bank e b).pc + 2
  let st := dataStall s e (((s.bank e b).sp - 4).setWidth 32)
  withTail (finish (pushWord st.2 e b (ra.setWidth 32)) e b 2 none (some t) (2 + st.1)) e b .redirect

/-- A repetition by rc of the instruction that follows (R232). -/
def repeatBy (s : State) (e : Fin 8) (b : Fin 4) (n : BitVec 16) : State :=
  stepEnds (beginRepi ((retire s e b 2 none none 0).updBank e b (fun x => { x with rc := n })) e b) e

/-! ## The instructions -/

/-- NOP. -/
def execNop (e : Fin 8) (s : State) : Host.Outcome State Fault Refusal :=
  instr (.nop e) e s (fun s b => finish s e b 1 none none 0)

/-- DONE (R176). -/
def execDone (e : Fin 8) (s : State) : Host.Outcome State Fault Refusal :=
  instr (.done e) e s (fun s b => threadDone s e b)

/-- YIELD (R176). -/
def execYield (e : Fin 8) (s : State) : Host.Outcome State Fault Refusal :=
  instr (.yield e) e s (fun s b => threadYield s e b)

/-- RET (R212): PC and sp are written together. -/
def execRet (e : Fin 8) (s : State) : Host.Outcome State Fault Refusal :=
  instr (.ret e) e s (fun s b =>
    let a := spWord s e b
    let w := dataLoad s e b a 4
    let st := dataStall s e a
    finish (setSp st.2 e b ((s.bank e b).sp + 4)) e b 1 none (some (w.setWidth 16)) (2 + st.1))

/-- REP n (R231, R233), n held as n - 1. -/
def execRep (e : Fin 8) (n : Fin 16) (s : State) : Host.Outcome State Fault Refusal :=
  instr (.rep e n) e s (fun s b =>
    (retire s e b 1 none none 0).updBank e b (fun x => { x with rep := some (.rep (n.val + 1) (s.bank e b).pc) }))

/-- PUSH (R211). -/
def execPush (e : Fin 8) (r : Fin 16) (s : State) : Host.Outcome State Fault Refusal :=
  instr (.push e r) e s (fun s b =>
    let st := dataStall s e (((s.bank e b).sp - 4).setWidth 32)
    finish (pushWord st.2 e b (reg s e b r)) e b 1 none none st.1)

/-- POP (R212). -/
def execPop (e : Fin 8) (r : Fin 16) (s : State) : Host.Outcome State Fault Refusal :=
  instr (.pop e r) e s (fun s b =>
    let a := spWord s e b
    finishLoad (setSp s e b ((s.bank e b).sp + 4)) e b 1 r a (dataLoad s e b a 4))

/-- MOV. -/
def execMov (e : Fin 8) (rd rs : Fin 16) (s : State) : Host.Outcome State Fault Refusal :=
  instr (.mov e rd rs) e s (fun s b => finishReg s e b 1 rd (reg s e b rs))

/-- ADD, modulo 2^32. -/
def execAdd (e : Fin 8) (rd rs rt : Fin 16) (long : Bool) (s : State) : Host.Outcome State Fault Refusal :=
  alu (.add e rd rs rt long) e rd rs rt long (fun x y => x + y) s

/-- SUB, modulo 2^32. -/
def execSub (e : Fin 8) (rd rs rt : Fin 16) (long : Bool) (s : State) : Host.Outcome State Fault Refusal :=
  alu (.sub e rd rs rt long) e rd rs rt long (fun x y => x - y) s

/-- AND. -/
def execAnd (e : Fin 8) (rd rs rt : Fin 16) (long : Bool) (s : State) : Host.Outcome State Fault Refusal :=
  alu (.and e rd rs rt long) e rd rs rt long (fun x y => x &&& y) s

/-- OR. -/
def execOr (e : Fin 8) (rd rs rt : Fin 16) (long : Bool) (s : State) : Host.Outcome State Fault Refusal :=
  alu (.or e rd rs rt long) e rd rs rt long (fun x y => x ||| y) s

/-- XOR. -/
def execXor (e : Fin 8) (rd rs rt : Fin 16) (long : Bool) (s : State) : Host.Outcome State Fault Refusal :=
  alu (.xor e rd rs rt long) e rd rs rt long (fun x y => x ^^^ y) s

/-- SHL (R227). -/
def execShl (e : Fin 8) (rd rs rt : Fin 16) (long : Bool) (s : State) : Host.Outcome State Fault Refusal :=
  alu (.shl e rd rs rt long) e rd rs rt long (fun x y => shlOp x y) s

/-- SHR (R227). -/
def execShr (e : Fin 8) (rd rs rt : Fin 16) (long : Bool) (s : State) : Host.Outcome State Fault Refusal :=
  alu (.shr e rd rs rt long) e rd rs rt long (fun x y => shrOp x y) s

/-- SAR (R227). -/
def execSar (e : Fin 8) (rd rs rt : Fin 16) (long : Bool) (s : State) : Host.Outcome State Fault Refusal :=
  alu (.sar e rd rs rt long) e rd rs rt long (fun x y => sarOp x y) s

/-- ROR (R227). -/
def execRor (e : Fin 8) (rd rs rt : Fin 16) (s : State) : Host.Outcome State Fault Refusal :=
  alu (.ror e rd rs rt) e rd rs rt true (fun x y => rorOp x y) s

/-- NEG (R217): 0 - rs. -/
def execNeg (e : Fin 8) (rd rs : Fin 16) (s : State) : Host.Outcome State Fault Refusal :=
  instr (.neg e rd rs) e s (fun s b => finishReg s e b 1 rd (0 - reg s e b rs))

/-- NOT. -/
def execNot (e : Fin 8) (rd rs : Fin 16) (s : State) : Host.Outcome State Fault Refusal :=
  instr (.not e rd rs) e s (fun s b => finishReg s e b 1 rd (~~~ reg s e b rs))

/-- SLT, signed. -/
def execSlt (e : Fin 8) (rd rs rt : Fin 16) (long : Bool) (s : State) : Host.Outcome State Fault Refusal :=
  alu (.slt e rd rs rt long) e rd rs rt long (fun x y => flag (x.slt y)) s

/-- SLTU, unsigned. -/
def execSltu (e : Fin 8) (rd rs rt : Fin 16) (long : Bool) (s : State) : Host.Outcome State Fault Refusal :=
  alu (.sltu e rd rs rt long) e rd rs rt long (fun x y => flag (x.ult y)) s

/-- SEQ. -/
def execSeq (e : Fin 8) (rd rs rt : Fin 16) (long : Bool) (s : State) : Host.Outcome State Fault Refusal :=
  alu (.seq e rd rs rt long) e rd rs rt long (fun x y => flag (x == y)) s

/-- SNE. -/
def execSne (e : Fin 8) (rd rs rt : Fin 16) (long : Bool) (s : State) : Host.Outcome State Fault Refusal :=
  alu (.sne e rd rs rt long) e rd rs rt long (fun x y => flag (x != y)) s

/-- SBEFORE (R6, R234). -/
def execSbefore (e : Fin 8) (rd rs rt : Fin 16) (long : Bool) (s : State) : Host.Outcome State Fault Refusal :=
  alu (.sbefore e rd rs rt long) e rd rs rt long (fun x y => flag (before x y)) s

/-- TADD (R234): near time plus a signed duration. -/
def execTadd (e : Fin 8) (rd rs rt : Fin 16) (s : State) : Host.Outcome State Fault Refusal :=
  alu (.tadd e rd rs rt) e rd rs rt true (fun x y => x + y) s

/-- SOADD: whether the signed sum overflows. -/
def execSoadd (e : Fin 8) (rd rs rt : Fin 16) (s : State) : Host.Outcome State Fault Refusal :=
  alu (.soadd e rd rs rt) e rd rs rt true (fun x y => flag (overS32 (x.toInt + y.toInt))) s

/-- SOSUB: whether the signed difference overflows. -/
def execSosub (e : Fin 8) (rd rs rt : Fin 16) (s : State) : Host.Outcome State Fault Refusal :=
  alu (.sosub e rd rs rt) e rd rs rt true (fun x y => flag (overS32 (x.toInt - y.toInt))) s

/-- SONEG: whether the negation overflows. -/
def execSoneg (e : Fin 8) (rd rs : Fin 16) (s : State) : Host.Outcome State Fault Refusal :=
  instr (.soneg e rd rs) e s (fun s b => finishReg s e b 2 rd (flag (reg s e b rs == 0x80000000)))

/-- MIN, signed. -/
def execMin (e : Fin 8) (rd rs rt : Fin 16) (s : State) : Host.Outcome State Fault Refusal :=
  alu (.min e rd rs rt) e rd rs rt true (fun x y => if y.slt x then y else x) s

/-- MAX, signed. -/
def execMax (e : Fin 8) (rd rs rt : Fin 16) (s : State) : Host.Outcome State Fault Refusal :=
  alu (.max e rd rs rt) e rd rs rt true (fun x y => if x.slt y then y else x) s

/-- MINU, unsigned. -/
def execMinu (e : Fin 8) (rd rs rt : Fin 16) (s : State) : Host.Outcome State Fault Refusal :=
  alu (.minu e rd rs rt) e rd rs rt true (fun x y => if y.ult x then y else x) s

/-- MAXU, unsigned. -/
def execMaxu (e : Fin 8) (rd rs rt : Fin 16) (s : State) : Host.Outcome State Fault Refusal :=
  alu (.maxu e rd rs rt) e rd rs rt true (fun x y => if x.ult y then y else x) s

/-- CLZ: leading zero bits, 0 to 32. -/
def execClz (e : Fin 8) (rd rs : Fin 16) (s : State) : Host.Outcome State Fault Refusal :=
  instr (.clz e rd rs) e s (fun s b => finishReg s e b 2 rd (clzOp (reg s e b rs)))

/-- ADDI8. -/
def execAddi8 (e : Fin 8) (rd : Fin 16) (imm : BitVec 8) (s : State) : Host.Outcome State Fault Refusal :=
  aluImm (.addi8 e rd imm) e 1 rd rd (imm.signExtend 32) (fun x k => x + k) s

/-- LI8. -/
def execLi8 (e : Fin 8) (rd : Fin 16) (imm : BitVec 8) (s : State) : Host.Outcome State Fault Refusal :=
  aluImm (.li8 e rd imm) e 1 rd 0 (imm.signExtend 32) (fun _ k => k) s

/-- LWSP: a load at sp + 4 u. -/
def execLwsp (e : Fin 8) (rd : Fin 16) (u : BitVec 8) (s : State) : Host.Outcome State Fault Refusal :=
  instr (.lwsp e rd u) e s (fun s b =>
    let a := spWord s e b + 4 * u.setWidth 32
    finishLoad s e b 1 rd a (dataLoad s e b a 4))

/-- SWSP: a store at sp + 4 u. -/
def execSwsp (e : Fin 8) (rs : Fin 16) (u : BitVec 8) (s : State) : Host.Outcome State Fault Refusal :=
  instr (.swsp e rs u) e s (fun s b => finishStore s e b 1 (spWord s e b + 4 * u.setWidth 32) 4 (reg s e b rs))

/-- BZ, both widths (R213). -/
def execBz (e : Fin 8) (rs : Fin 16) (ofs : BitVec 16) (long : Bool) (s : State) : Host.Outcome State Fault Refusal :=
  branch (.bz e rs ofs long) e ofs long (fun s b => reg s e b rs == 0) s

/-- BNZ, both widths (R213). -/
def execBnz (e : Fin 8) (rs : Fin 16) (ofs : BitVec 16) (long : Bool) (s : State) : Host.Outcome State Fault Refusal :=
  branch (.bnz e rs ofs long) e ofs long (fun s b => reg s e b rs != 0) s

/-- BR, both widths (R213). -/
def execBr (e : Fin 8) (ofs : BitVec 16) (long : Bool) (s : State) : Host.Outcome State Fault Refusal :=
  branch (.br e ofs long) e ofs long (fun _ _ => true) s

/-- SHLI (R227). -/
def execShli (e : Fin 8) (rd : Fin 16) (amt : BitVec 6) (s : State) : Host.Outcome State Fault Refusal :=
  aluImm (.shli e rd amt) e 1 rd rd (amt.setWidth 32) (fun x k => shlOp x k) s

/-- SHRI (R227). -/
def execShri (e : Fin 8) (rd : Fin 16) (amt : BitVec 6) (s : State) : Host.Outcome State Fault Refusal :=
  aluImm (.shri e rd amt) e 1 rd rd (amt.setWidth 32) (fun x k => shrOp x k) s

/-- SARI (R227). -/
def execSari (e : Fin 8) (rd : Fin 16) (amt : BitVec 6) (s : State) : Host.Outcome State Fault Refusal :=
  aluImm (.sari e rd amt) e 1 rd rd (amt.setWidth 32) (fun x k => sarOp x k) s

/-- RORI (R227). -/
def execRori (e : Fin 8) (rd : Fin 16) (amt : BitVec 6) (s : State) : Host.Outcome State Fault Refusal :=
  aluImm (.rori e rd amt) e 1 rd rd (amt.setWidth 32) (fun x k => rorOp x k) s

/-- LW4: a load at rb + 4 u. -/
def execLw4 (e : Fin 8) (rd rb : Fin 16) (u : BitVec 4) (s : State) : Host.Outcome State Fault Refusal :=
  load (.lw4 e rd rb u) e 1 rd rb (4 * u.setWidth 32) 4 false s

/-- SW4: a store at rb + 4 u. -/
def execSw4 (e : Fin 8) (rs rb : Fin 16) (u : BitVec 4) (s : State) : Host.Outcome State Fault Refusal :=
  store (.sw4 e rs rb u) e 1 rs rb (4 * u.setWidth 32) 4 s

/-- MUL: the low half of the product. -/
def execMul (e : Fin 8) (rd rs rt : Fin 16) (s : State) : Host.Outcome State Fault Refusal :=
  alu (.mul e rd rs rt) e rd rs rt true (fun x y => x * y) s

/-- MULH: the high half of the signed product. -/
def execMulh (e : Fin 8) (rd rs rt : Fin 16) (s : State) : Host.Outcome State Fault Refusal :=
  alu (.mulh e rd rs rt) e rd rs rt true (fun x y => mulhOp x y) s

/-- MULHU: the high half of the unsigned product. -/
def execMulhu (e : Fin 8) (rd rs rt : Fin 16) (s : State) : Host.Outcome State Fault Refusal :=
  alu (.mulhu e rd rs rt) e rd rs rt true (fun x y => mulhuOp x y) s

/-- DIV (R228). -/
def execDiv (e : Fin 8) (rd rs rt : Fin 16) (s : State) : Host.Outcome State Fault Refusal :=
  division (.div e rd rs rt) e rd rs rt divOp s

/-- DIVU (R228). -/
def execDivu (e : Fin 8) (rd rs rt : Fin 16) (s : State) : Host.Outcome State Fault Refusal :=
  division (.divu e rd rs rt) e rd rs rt divuOp s

/-- REM (R228). -/
def execRem (e : Fin 8) (rd rs rt : Fin 16) (s : State) : Host.Outcome State Fault Refusal :=
  division (.rem e rd rs rt) e rd rs rt remOp s

/-- REMU (R228). -/
def execRemu (e : Fin 8) (rd rs rt : Fin 16) (s : State) : Host.Outcome State Fault Refusal :=
  division (.remu e rd rs rt) e rd rs rt remuOp s

/-- MAC (R229). -/
def execMac (e : Fin 8) (a : Bool) (rs rt : Fin 16) (s : State) : Host.Outcome State Fault Refusal :=
  accOp (.mac e a rs rt) e a rs rt false s

/-- MSU (R229). -/
def execMsu (e : Fin 8) (a : Bool) (rs rt : Fin 16) (s : State) : Host.Outcome State Fault Refusal :=
  accOp (.msu e a rs rt) e a rs rt true s

/-- MACU (R229). -/
def execMacu (e : Fin 8) (a : Bool) (rs rt : Fin 16) (s : State) : Host.Outcome State Fault Refusal :=
  instr (.macu e a rs rt) e s (fun s b =>
    finish (accumulateU s e b a ((reg s e b rs).toNat * (reg s e b rt).toNat)) e b 2 none none 0)

/-- WRA: rs is the high half. -/
def execWra (e : Fin 8) (a : Bool) (rs rt : Fin 16) (s : State) : Host.Outcome State Fault Refusal :=
  instr (.wra e a rs rt) e s (fun s b => finish (setAcc s e b a (reg s e b rs ++ reg s e b rt)) e b 2 none none 0)

/-- RDAL. -/
def execRdal (e : Fin 8) (rd : Fin 16) (a : Bool) (s : State) : Host.Outcome State Fault Refusal :=
  instr (.rdal e rd a) e s (fun s b => finishReg s e b 2 rd ((acc s e b a).setWidth 32))

/-- RDAH. -/
def execRdah (e : Fin 8) (rd : Fin 16) (a : Bool) (s : State) : Host.Outcome State Fault Refusal :=
  instr (.rdah e rd a) e s (fun s b => finishReg s e b 2 rd ((acc s e b a >>> 32).setWidth 32))

/-- SHRA (R229), with ST.SAT. -/
def execShra (e : Fin 8) (rd rt : Fin 16) (a : Bool) (s : State) : Host.Outcome State Fault Refusal :=
  instr (.shra e rd rt a) e s (fun s b =>
    let r := shraOp (acc s e b a) (reg s e b rt).toNat
    finishReg (stickST s e b 2 r.2) e b 2 rd r.1)

/-- MACD (R230): the accumulator and both pointers are written together. -/
def execMacd (e : Fin 8) (gx gy : Fin 16) (half a : Bool) (s : State) : Host.Outcome State Fault Refusal :=
  instr (.macd e gx gy half a) e s (fun s b =>
    let x := reg s e b gx
    let y := reg s e b gy
    let n := if half then 2 else 4
    let v (p : Word) : Int := (extend (dataLoad s e b p n) n true).toInt
    let k : Word := if half then 2 else 4
    let st := macdStall s e x y
    let s := setReg (setReg (accumulate st.2 e b a (v x * v y)) e b gx (x + k)) e b gy (y + k)
    finish s e b 2 none none st.1)

/-- ANGADD (R234). -/
def execAngadd (e : Fin 8) (rd rs rt : Fin 16) (s : State) : Host.Outcome State Fault Refusal :=
  instr (.angadd e rd rs rt) e s (fun s b => finishReg s e b 2 rd (angaddOp (reg s e b rs) (reg s e b rt) (acyc s e b)))

/-- ANGSUB (R234). -/
def execAngsub (e : Fin 8) (rd rs rt : Fin 16) (s : State) : Host.Outcome State Fault Refusal :=
  instr (.angsub e rd rs rt) e s (fun s b => finishReg s e b 2 rd (angsubOp (reg s e b rs) (reg s e b rt) (acyc s e b)))

/-- LI. -/
def execLi (e : Fin 8) (rd : Fin 16) (imm : BitVec 16) (s : State) : Host.Outcome State Fault Refusal :=
  aluImm (.li e rd imm) e 2 rd 0 (simm imm) (fun _ k => k) s

/-- LUI. -/
def execLui (e : Fin 8) (rd : Fin 16) (imm : BitVec 16) (s : State) : Host.Outcome State Fault Refusal :=
  aluImm (.lui e rd imm) e 2 rd 0 (zimm imm <<< 16) (fun _ k => k) s

/-- ADDI. -/
def execAddi (e : Fin 8) (rd rs : Fin 16) (imm : BitVec 16) (s : State) : Host.Outcome State Fault Refusal :=
  aluImm (.addi e rd rs imm) e 2 rd rs (simm imm) (fun x k => x + k) s

/-- ANDI. -/
def execAndi (e : Fin 8) (rd rs : Fin 16) (imm : BitVec 16) (s : State) : Host.Outcome State Fault Refusal :=
  aluImm (.andi e rd rs imm) e 2 rd rs (zimm imm) (fun x k => x &&& k) s

/-- ORI. -/
def execOri (e : Fin 8) (rd rs : Fin 16) (imm : BitVec 16) (s : State) : Host.Outcome State Fault Refusal :=
  aluImm (.ori e rd rs imm) e 2 rd rs (zimm imm) (fun x k => x ||| k) s

/-- XORI. -/
def execXori (e : Fin 8) (rd rs : Fin 16) (imm : BitVec 16) (s : State) : Host.Outcome State Fault Refusal :=
  aluImm (.xori e rd rs imm) e 2 rd rs (zimm imm) (fun x k => x ^^^ k) s

/-- SLTI. -/
def execSlti (e : Fin 8) (rd rs : Fin 16) (imm : BitVec 16) (s : State) : Host.Outcome State Fault Refusal :=
  aluImm (.slti e rd rs imm) e 2 rd rs (simm imm) (fun x k => flag (x.slt k)) s

/-- SLTUI. -/
def execSltui (e : Fin 8) (rd rs : Fin 16) (imm : BitVec 16) (s : State) : Host.Outcome State Fault Refusal :=
  aluImm (.sltui e rd rs imm) e 2 rd rs (simm imm) (fun x k => flag (x.ult k)) s

/-- SEQI. -/
def execSeqi (e : Fin 8) (rd rs : Fin 16) (imm : BitVec 16) (s : State) : Host.Outcome State Fault Refusal :=
  aluImm (.seqi e rd rs imm) e 2 rd rs (simm imm) (fun x k => flag (x == k)) s

/-- SNEI. -/
def execSnei (e : Fin 8) (rd rs : Fin 16) (imm : BitVec 16) (s : State) : Host.Outcome State Fault Refusal :=
  aluImm (.snei e rd rs imm) e 2 rd rs (simm imm) (fun x k => flag (x != k)) s

/-- LW (R207). -/
def execLw (e : Fin 8) (rd rs : Fin 16) (imm : BitVec 16) (s : State) : Host.Outcome State Fault Refusal :=
  load (.lw e rd rs imm) e 2 rd rs (simm imm) 4 false s

/-- LH (R207). -/
def execLh (e : Fin 8) (rd rs : Fin 16) (imm : BitVec 16) (s : State) : Host.Outcome State Fault Refusal :=
  load (.lh e rd rs imm) e 2 rd rs (simm imm) 2 true s

/-- LHU (R207). -/
def execLhu (e : Fin 8) (rd rs : Fin 16) (imm : BitVec 16) (s : State) : Host.Outcome State Fault Refusal :=
  load (.lhu e rd rs imm) e 2 rd rs (simm imm) 2 false s

/-- LB (R207). -/
def execLb (e : Fin 8) (rd rs : Fin 16) (imm : BitVec 16) (s : State) : Host.Outcome State Fault Refusal :=
  load (.lb e rd rs imm) e 2 rd rs (simm imm) 1 true s

/-- LBU (R207). -/
def execLbu (e : Fin 8) (rd rs : Fin 16) (imm : BitVec 16) (s : State) : Host.Outcome State Fault Refusal :=
  load (.lbu e rd rs imm) e 2 rd rs (simm imm) 1 false s

/-- SW (R207). -/
def execSw (e : Fin 8) (rs rb : Fin 16) (imm : BitVec 16) (s : State) : Host.Outcome State Fault Refusal :=
  store (.sw e rs rb imm) e 2 rs rb (simm imm) 4 s

/-- SH (R207). -/
def execSh (e : Fin 8) (rs rb : Fin 16) (imm : BitVec 16) (s : State) : Host.Outcome State Fault Refusal :=
  store (.sh e rs rb imm) e 2 rs rb (simm imm) 2 s

/-- SB (R207). -/
def execSb (e : Fin 8) (rs rb : Fin 16) (imm : BitVec 16) (s : State) : Host.Outcome State Fault Refusal :=
  store (.sb e rs rb imm) e 2 rs rb (simm imm) 1 s

/-- LWPI: rb is written at commit, rd after the delay slot. -/
def execLwpi (e : Fin 8) (rd rb : Fin 16) (imm : BitVec 16) (s : State) : Host.Outcome State Fault Refusal :=
  instr (.lwpi e rd rb imm) e s (fun s b =>
    let a := reg s e b rb
    finishLoad (setReg s e b rb (a + simm imm)) e b 2 rd a (dataLoad s e b a 4))

/-- SWPI. -/
def execSwpi (e : Fin 8) (rs rb : Fin 16) (imm : BitVec 16) (s : State) : Host.Outcome State Fault Refusal :=
  instr (.swpi e rs rb imm) e s (fun s b =>
    let a := reg s e b rb
    finishStore (setReg s e b rb (a + simm imm)) e b 2 a 4 (reg s e b rs))

/-- CALL (R211, R213). -/
def execCall (e : Fin 8) (target : BitVec 16) (s : State) : Host.Outcome State Fault Refusal :=
  instr (.call e target) e s (fun s b => callTo s e b target)

/-- JR (R213). -/
def execJr (e : Fin 8) (rs : Fin 16) (s : State) : Host.Outcome State Fault Refusal :=
  instr (.jr e rs) e s (fun s b => finish s e b 2 none (some ((reg s e b rs).setWidth 16)) 2)

/-- CALLR (R211, R213). -/
def execCallr (e : Fin 8) (rs : Fin 16) (s : State) : Host.Outcome State Fault Refusal :=
  instr (.callr e rs) e s (fun s b => callTo s e b ((reg s e b rs).setWidth 16))

/-- REPI (R232). -/
def execRepi (e : Fin 8) (n : BitVec 16) (s : State) : Host.Outcome State Fault Refusal :=
  instr (.repi e n) e s (fun s b => repeatBy s e b n)

/-- REPIR (R232). -/
def execRepir (e : Fin 8) (rs : Fin 16) (s : State) : Host.Outcome State Fault Refusal :=
  instr (.repir e rs) e s (fun s b => repeatBy s e b ((reg s e b rs).setWidth 16))

/-- IN (R235): the read, with its side effects, occurs at commit. -/
def execInp (e : Fin 8) (rd rb : Fin 16) (imm : BitVec 16) (s : State) : Host.Outcome State Fault Refusal :=
  instr (.inp e rd rb imm) e s (fun s b =>
    let a := reg s e b rb + zimm imm
    let r := ioRead s e b a
    finish r.2 e b 2 (some (rd, r.1)) none (ioStall e a))

/-- OUT (R169, R235). -/
def execOut (e : Fin 8) (rs rb : Fin 16) (imm : BitVec 16) (s : State) : Host.Outcome State Fault Refusal :=
  instr (.out e rs rb imm) e s (fun s b =>
    let a := reg s e b rb + zimm imm
    finish (ioWrite s e b a (reg s e b rs)) e b 2 none none (ioStall e a))

/-- LWAIT (R192, R236). -/
def execLwait (e : Fin 8) (rd lane : Fin 16) (cond : Fin 4) (s : State) : Host.Outcome State Fault Refusal :=
  instr (.lwait e rd lane cond) e s (fun s b => laneWait s e b rd lane cond)

/-- BAR (R184, R236). -/
def execBar (e : Fin 8) (rd : Fin 16) (j : Fin 8) (s : State) : Host.Outcome State Fault Refusal :=
  instr (.bar e rd j) e s (fun s b => barrierWait s e b rd j)

/-- SIG (R183): the SRQ reaches the target's scheduler 2 cycles later. -/
def execSig (e : Fin 8) (t : Fin 8) (th : Fin 32) (s : State) : Host.Outcome State Fault Refusal :=
  instr (.sig e t th) e s (fun s b => finish (s.srq t th (.sig e) 2) e b 2 none none 0)

/-- MFS (R205). -/
def execMfs (e : Fin 8) (rd : Fin 16) (sr : Fin 6) (s : State) : Host.Outcome State Fault Refusal :=
  instr (.mfs e rd sr) e s (fun s b => finishReg s e b 2 rd (readSpec s e b sr.val))

/-- MTS (R205). -/
def execMts (e : Fin 8) (sr : Fin 5) (rs : Fin 16) (s : State) : Host.Outcome State Fault Refusal :=
  instr (.mts e sr rs) e s (fun s b => finish (writeSpec s e b sr.val (reg s e b rs)) e b 2 none none 0)

/-- ILLEGAL_INSTRUCTION (R222). -/
def execIllegalInstruction (e : Fin 8) (s : State) : Host.Outcome State Fault Refusal :=
  instr (.illegalInstruction e) e s (fun s b => illegal s e b)

end Sys2Proof.Machine
end

