-- ==== Sys2Proof/Machine/Dispatch.lean ====
section
/-! DEFINITION. What each command does: one arm for every constructor of Instr. -/

namespace Sys2Proof.Machine

/-- The effect of a command on everything but the queue. -/
def exec (i : Instr) (s : State) : Host.Outcome State Fault Refusal :=
  match i with
  | .registerWrite a off size v => Sys2Proof.Machine.execRegisterWrite a off size v s
  | .rcRead a off size => Sys2Proof.Machine.execRcRead a off size s
  | .codeRamWrite a off size v => Sys2Proof.Machine.execCodeRamWrite a off size v s
  | .ltrimWindowEnd counted => Sys2Proof.Machine.execLtrimWindowEnd counted s
  | .x32Lock => Sys2Proof.Machine.execX32Lock s
  | .x32Stop => Sys2Proof.Machine.execX32Stop s
  | .pllUnlock => Sys2Proof.Machine.execPllUnlock s
  | .xinLoss => Sys2Proof.Machine.execXinLoss s
  | .pllLock => Sys2Proof.Machine.execPllLock s
  | .tbclkCountingReturn => Sys2Proof.Machine.execTbclkCountingReturn s
  | .tbStep a => Sys2Proof.Machine.execTbStep a s
  | .fofsclr a => Sys2Proof.Machine.execFofsclr a s
  | .slewAdjust => Sys2Proof.Machine.execSlewAdjust s
  | .tbSlewWrite a v => Sys2Proof.Machine.execTbSlewWrite a v s
  | .tbLoRead a => Sys2Proof.Machine.execTbLoRead a s
  | .tbWrapPassage => Sys2Proof.Machine.execTbWrapPassage s
  | .syncInEdge level fine held => Sys2Proof.Machine.execSyncInEdge level fine held s
  | .syncinTsLoRead a => Sys2Proof.Machine.execSyncinTsLoRead a s
  | .syncoutEnable => Sys2Proof.Machine.execSyncoutEnable s
  | .syncoutActiveEdge => Sys2Proof.Machine.execSyncoutActiveEdge s
  | .syncoutPulseEnd => Sys2Proof.Machine.execSyncoutPulseEnd s
  | .syncoutDisable => Sys2Proof.Machine.execSyncoutDisable s
  | .clkFrzWrite a m v => Sys2Proof.Machine.execClkFrzWrite a m v s
  | .channelFreeze n => Sys2Proof.Machine.execChannelFreeze n s
  | .channelRelease n => Sys2Proof.Machine.execChannelRelease n s
  | .counterBoundary n => Sys2Proof.Machine.execCounterBoundary n s
  | .counterPeak n => Sys2Proof.Machine.execCounterPeak n s
  | .cascadeAdvance n => Sys2Proof.Machine.execCascadeAdvance n s
  | .compareMatch n k => Sys2Proof.Machine.execCompareMatch n k s
  | .inputEdgeSampled n level fine => Sys2Proof.Machine.execInputEdgeSampled n level fine s
  | .glitchFilterExpiry n => Sys2Proof.Machine.execGlitchFilterExpiry n s
  | .capture n => Sys2Proof.Machine.execCapture n s
  | .capaRead a n => Sys2Proof.Machine.execCapaRead a n s
  | .fifoTRead a n => Sys2Proof.Machine.execFifoTRead a n s
  | .cntRead a n => Sys2Proof.Machine.execCntRead a n s
  | .aqTWrite a n v => Sys2Proof.Machine.execAqTWrite a n v s
  | .aqOffer a n v => Sys2Proof.Machine.execAqOffer a n v s
  | .aqFire n => Sys2Proof.Machine.execAqFire n s
  | .chLoad a n => Sys2Proof.Machine.execChLoad a n s
  | .flush a n => Sys2Proof.Machine.execFlush a n s
  | .fifoclr a n => Sys2Proof.Machine.execFifoclr a n s
  | .chStop a n => Sys2Proof.Machine.execChStop a n s
  | .chStart a n => Sys2Proof.Machine.execChStart a n s
  | .channelEnable a n => Sys2Proof.Machine.execChannelEnable a n s
  | .channelDisable a n => Sys2Proof.Machine.execChannelDisable a n s
  | .cntWrite a n v => Sys2Proof.Machine.execCntWrite a n v s
  | .shadowWrite a n r v => Sys2Proof.Machine.execShadowWrite a n r v s
  | .pgBoundary m => Sys2Proof.Machine.execPgBoundary m s
  | .pgPeak m => Sys2Proof.Machine.execPgPeak m s
  | .pgStart a m => Sys2Proof.Machine.execPgStart a m s
  | .pgGroupStart m => Sys2Proof.Machine.execPgGroupStart m s
  | .pgStop a m => Sys2Proof.Machine.execPgStop a m s
  | .pgDisable a m => Sys2Proof.Machine.execPgDisable a m s
  | .pgLoad a m => Sys2Proof.Machine.execPgLoad a m s
  | .stagger a m => Sys2Proof.Machine.execStagger a m s
  | .tripclr a m => Sys2Proof.Machine.execTripclr a m s
  | .force a m => Sys2Proof.Machine.execForce a m s
  | .pgCntWrite a m v => Sys2Proof.Machine.execPgCntWrite a m v s
  | .deadTimeExpiry n => Sys2Proof.Machine.execDeadTimeExpiry n s
  | .stretchClose n => Sys2Proof.Machine.execStretchClose n s
  | .tripAssert m => Sys2Proof.Machine.execTripAssert m s
  | .newelEnable a n => Sys2Proof.Machine.execNewelEnable a n s
  | .newelDisable a n => Sys2Proof.Machine.execNewelDisable a n s
  | .toothReceive n e => Sys2Proof.Machine.execToothReceive n e s
  | .toothClassify n => Sys2Proof.Machine.execToothClassify n s
  | .predictionLoad n => Sys2Proof.Machine.execPredictionLoad n s
  | .holdAngleReached n => Sys2Proof.Machine.execHoldAngleReached n s
  | .phaseInputEdge n j e => Sys2Proof.Machine.execPhaseInputEdge n j e s
  | .stallTimeout n => Sys2Proof.Machine.execStallTimeout n s
  | .resync a n => Sys2Proof.Machine.execResync a n s
  | .phset a n phval => Sys2Proof.Machine.execPhset a n phval s
  | .errclr a n => Sys2Proof.Machine.execErrclr a n s
  | .hold a n => Sys2Proof.Machine.execHold a n s
  | .encoderEdge n e => Sys2Proof.Machine.execEncoderEdge n e s
  | .zEdge n e => Sys2Proof.Machine.execZEdge n e s
  | .toothtRead a n => Sys2Proof.Machine.execToothtRead a n s
  | .latePass n => Sys2Proof.Machine.execLatePass n s
  | .slotConversion n k => Sys2Proof.Machine.execSlotConversion n k s
  | .newelOffer n k => Sys2Proof.Machine.execNewelOffer n k s
  | .commitFreeze n k => Sys2Proof.Machine.execCommitFreeze n k s
  | .reoffer n k => Sys2Proof.Machine.execReoffer n k s
  | .cancel n => Sys2Proof.Machine.execCancel n s
  | .cancelOffer n => Sys2Proof.Machine.execCancelOffer n s
  | .slotWrite a n k r v => Sys2Proof.Machine.execSlotWrite a n k r v s
  | .reEvaluation n => Sys2Proof.Machine.execReEvaluation n s
  | .evlastTRead a n => Sys2Proof.Machine.execEvlastTRead a n s
  | .srqArrival e t src => Sys2Proof.Machine.execSrqArrival e t src s
  | .threadDispatch e => Sys2Proof.Machine.execThreadDispatch e s
  | .preemption e => Sys2Proof.Machine.execPreemption e s
  | .threadConfigWrite a e t v => Sys2Proof.Machine.execThreadConfigWrite a e t v s
  | .feStart a e => Sys2Proof.Machine.execFeStart a e s
  | .feStop a e => Sys2Proof.Machine.execFeStop a e s
  | .feStopComplete e => Sys2Proof.Machine.execFeStopComplete e s
  | .feReset a e => Sys2Proof.Machine.execFeReset a e s
  | .feGoWrite a v => Sys2Proof.Machine.execFeGoWrite a v s
  | .goAct => Sys2Proof.Machine.execGoAct s
  | .barMaskWrite a b v => Sys2Proof.Machine.execBarMaskWrite a b v s
  | .barrierRelease b => Sys2Proof.Machine.execBarrierRelease b s
  | .barrierTimeout b => Sys2Proof.Machine.execBarrierTimeout b s
  | .wakeTimerFire e j => Sys2Proof.Machine.execWakeTimerFire e j s
  | .mbxdb a e v => Sys2Proof.Machine.execMbxdb a e v s
  | .mbxack a e v => Sys2Proof.Machine.execMbxack a e v s
  | .lwaitRelease e b => Sys2Proof.Machine.execLwaitRelease e b s
  | .laneEnable a k v => Sys2Proof.Machine.execLaneEnable a k v s
  | .laneDisable a k => Sys2Proof.Machine.execLaneDisable a k s
  | .txbufWrite a k v => Sys2Proof.Machine.execTxbufWrite a k v s
  | .rxbufRead a k => Sys2Proof.Machine.execRxbufRead a k s
  | .laneWordStart k => Sys2Proof.Machine.execLaneWordStart k s
  | .laneWordComplete k => Sys2Proof.Machine.execLaneWordComplete k s
  | .pulseEdge k e => Sys2Proof.Machine.execPulseEdge k e s
  | .laneStart a k => Sys2Proof.Machine.execLaneStart a k s
  | .laneReset a k => Sys2Proof.Machine.execLaneReset a k s
  | .cont a k => Sys2Proof.Machine.execCont a k s
  | .divrst a k => Sys2Proof.Machine.execDivrst a k s
  | .lanePause k => Sys2Proof.Machine.execLanePause k s
  | .nop e => Sys2Proof.Machine.execNop e s
  | .done e => Sys2Proof.Machine.execDone e s
  | .yield e => Sys2Proof.Machine.execYield e s
  | .ret e => Sys2Proof.Machine.execRet e s
  | .rep e n => Sys2Proof.Machine.execRep e n s
  | .push e r => Sys2Proof.Machine.execPush e r s
  | .pop e r => Sys2Proof.Machine.execPop e r s
  | .mov e rd rs => Sys2Proof.Machine.execMov e rd rs s
  | .add e rd rs rt long => Sys2Proof.Machine.execAdd e rd rs rt long s
  | .sub e rd rs rt long => Sys2Proof.Machine.execSub e rd rs rt long s
  | .and e rd rs rt long => Sys2Proof.Machine.execAnd e rd rs rt long s
  | .or e rd rs rt long => Sys2Proof.Machine.execOr e rd rs rt long s
  | .xor e rd rs rt long => Sys2Proof.Machine.execXor e rd rs rt long s
  | .shl e rd rs rt long => Sys2Proof.Machine.execShl e rd rs rt long s
  | .shr e rd rs rt long => Sys2Proof.Machine.execShr e rd rs rt long s
  | .sar e rd rs rt long => Sys2Proof.Machine.execSar e rd rs rt long s
  | .ror e rd rs rt => Sys2Proof.Machine.execRor e rd rs rt s
  | .neg e rd rs => Sys2Proof.Machine.execNeg e rd rs s
  | .not e rd rs => Sys2Proof.Machine.execNot e rd rs s
  | .slt e rd rs rt long => Sys2Proof.Machine.execSlt e rd rs rt long s
  | .sltu e rd rs rt long => Sys2Proof.Machine.execSltu e rd rs rt long s
  | .seq e rd rs rt long => Sys2Proof.Machine.execSeq e rd rs rt long s
  | .sne e rd rs rt long => Sys2Proof.Machine.execSne e rd rs rt long s
  | .sbefore e rd rs rt long => Sys2Proof.Machine.execSbefore e rd rs rt long s
  | .tadd e rd rs rt => Sys2Proof.Machine.execTadd e rd rs rt s
  | .soadd e rd rs rt => Sys2Proof.Machine.execSoadd e rd rs rt s
  | .sosub e rd rs rt => Sys2Proof.Machine.execSosub e rd rs rt s
  | .soneg e rd rs => Sys2Proof.Machine.execSoneg e rd rs s
  | .min e rd rs rt => Sys2Proof.Machine.execMin e rd rs rt s
  | .max e rd rs rt => Sys2Proof.Machine.execMax e rd rs rt s
  | .minu e rd rs rt => Sys2Proof.Machine.execMinu e rd rs rt s
  | .maxu e rd rs rt => Sys2Proof.Machine.execMaxu e rd rs rt s
  | .clz e rd rs => Sys2Proof.Machine.execClz e rd rs s
  | .addi8 e rd imm => Sys2Proof.Machine.execAddi8 e rd imm s
  | .li8 e rd imm => Sys2Proof.Machine.execLi8 e rd imm s
  | .lwsp e rd u => Sys2Proof.Machine.execLwsp e rd u s
  | .swsp e rs u => Sys2Proof.Machine.execSwsp e rs u s
  | .bz e rs ofs long => Sys2Proof.Machine.execBz e rs ofs long s
  | .bnz e rs ofs long => Sys2Proof.Machine.execBnz e rs ofs long s
  | .br e ofs long => Sys2Proof.Machine.execBr e ofs long s
  | .shli e rd amt => Sys2Proof.Machine.execShli e rd amt s
  | .shri e rd amt => Sys2Proof.Machine.execShri e rd amt s
  | .sari e rd amt => Sys2Proof.Machine.execSari e rd amt s
  | .rori e rd amt => Sys2Proof.Machine.execRori e rd amt s
  | .lw4 e rd rb u => Sys2Proof.Machine.execLw4 e rd rb u s
  | .sw4 e rs rb u => Sys2Proof.Machine.execSw4 e rs rb u s
  | .mul e rd rs rt => Sys2Proof.Machine.execMul e rd rs rt s
  | .mulh e rd rs rt => Sys2Proof.Machine.execMulh e rd rs rt s
  | .mulhu e rd rs rt => Sys2Proof.Machine.execMulhu e rd rs rt s
  | .div e rd rs rt => Sys2Proof.Machine.execDiv e rd rs rt s
  | .divu e rd rs rt => Sys2Proof.Machine.execDivu e rd rs rt s
  | .rem e rd rs rt => Sys2Proof.Machine.execRem e rd rs rt s
  | .remu e rd rs rt => Sys2Proof.Machine.execRemu e rd rs rt s
  | .mac e a rs rt => Sys2Proof.Machine.execMac e a rs rt s
  | .msu e a rs rt => Sys2Proof.Machine.execMsu e a rs rt s
  | .macu e a rs rt => Sys2Proof.Machine.execMacu e a rs rt s
  | .wra e a rs rt => Sys2Proof.Machine.execWra e a rs rt s
  | .rdal e rd a => Sys2Proof.Machine.execRdal e rd a s
  | .rdah e rd a => Sys2Proof.Machine.execRdah e rd a s
  | .shra e rd rt a => Sys2Proof.Machine.execShra e rd rt a s
  | .macd e gx gy half a => Sys2Proof.Machine.execMacd e gx gy half a s
  | .angadd e rd rs rt => Sys2Proof.Machine.execAngadd e rd rs rt s
  | .angsub e rd rs rt => Sys2Proof.Machine.execAngsub e rd rs rt s
  | .li e rd imm => Sys2Proof.Machine.execLi e rd imm s
  | .lui e rd imm => Sys2Proof.Machine.execLui e rd imm s
  | .addi e rd rs imm => Sys2Proof.Machine.execAddi e rd rs imm s
  | .andi e rd rs imm => Sys2Proof.Machine.execAndi e rd rs imm s
  | .ori e rd rs imm => Sys2Proof.Machine.execOri e rd rs imm s
  | .xori e rd rs imm => Sys2Proof.Machine.execXori e rd rs imm s
  | .slti e rd rs imm => Sys2Proof.Machine.execSlti e rd rs imm s
  | .sltui e rd rs imm => Sys2Proof.Machine.execSltui e rd rs imm s
  | .seqi e rd rs imm => Sys2Proof.Machine.execSeqi e rd rs imm s
  | .snei e rd rs imm => Sys2Proof.Machine.execSnei e rd rs imm s
  | .lw e rd rs imm => Sys2Proof.Machine.execLw e rd rs imm s
  | .lh e rd rs imm => Sys2Proof.Machine.execLh e rd rs imm s
  | .lhu e rd rs imm => Sys2Proof.Machine.execLhu e rd rs imm s
  | .lb e rd rs imm => Sys2Proof.Machine.execLb e rd rs imm s
  | .lbu e rd rs imm => Sys2Proof.Machine.execLbu e rd rs imm s
  | .sw e rs rb imm => Sys2Proof.Machine.execSw e rs rb imm s
  | .sh e rs rb imm => Sys2Proof.Machine.execSh e rs rb imm s
  | .sb e rs rb imm => Sys2Proof.Machine.execSb e rs rb imm s
  | .lwpi e rd rb imm => Sys2Proof.Machine.execLwpi e rd rb imm s
  | .swpi e rs rb imm => Sys2Proof.Machine.execSwpi e rs rb imm s
  | .call e target => Sys2Proof.Machine.execCall e target s
  | .jr e rs => Sys2Proof.Machine.execJr e rs s
  | .callr e rs => Sys2Proof.Machine.execCallr e rs s
  | .repi e n => Sys2Proof.Machine.execRepi e n s
  | .repir e rs => Sys2Proof.Machine.execRepir e rs s
  | .inp e rd rb imm => Sys2Proof.Machine.execInp e rd rb imm s
  | .out e rs rb imm => Sys2Proof.Machine.execOut e rs rb imm s
  | .lwait e rd lane cond => Sys2Proof.Machine.execLwait e rd lane cond s
  | .bar e rd b => Sys2Proof.Machine.execBar e rd b s
  | .sig e t th => Sys2Proof.Machine.execSig e t th s
  | .mfs e rd sr => Sys2Proof.Machine.execMfs e rd sr s
  | .mts e sr rs => Sys2Proof.Machine.execMts e sr rs s
  | .illegalInstruction e => Sys2Proof.Machine.execIllegalInstruction e s
  | .mcLoad => Sys2Proof.Machine.execMcLoad s
  | .patchActivate => Sys2Proof.Machine.execPatchActivate s
  | .unload => Sys2Proof.Machine.execUnload s
  | .advsvn => Sys2Proof.Machine.execAdvsvn s
  | .fuseStep => Sys2Proof.Machine.execFuseStep s
  | .chestwr => Sys2Proof.Machine.execChestwr s
  | .doorbell a r v => Sys2Proof.Machine.execDoorbell a r v s
  | .descriptorArrival r ok ws => Sys2Proof.Machine.execDescriptorArrival r ok ws s
  | .hostReadCompletion g ok data => Sys2Proof.Machine.execHostReadCompletion g ok data s
  | .descNop r => Sys2Proof.Machine.execDescNop r s
  | .descWrite r => Sys2Proof.Machine.execDescWrite r s
  | .writep r => Sys2Proof.Machine.execWritep r s
  | .descRead r => Sys2Proof.Machine.execDescRead r s
  | .copy r => Sys2Proof.Machine.execCopy r s
  | .fill r => Sys2Proof.Machine.execFill r s
  | .descFence r => Sys2Proof.Machine.execDescFence r s
  | .txnBegin r => Sys2Proof.Machine.execTxnBegin r s
  | .txnCommit r => Sys2Proof.Machine.execTxnCommit r s
  | .txnRollback r => Sys2Proof.Machine.execTxnRollback r s
  | .snapDescriptor r => Sys2Proof.Machine.execSnapDescriptor r s
  | .descriptorComplete r => Sys2Proof.Machine.execDescriptorComplete r s
  | .ringEnable a r => Sys2Proof.Machine.execRingEnable a r s
  | .ringDisable a r => Sys2Proof.Machine.execRingDisable a r s
  | .drainEnd r => Sys2Proof.Machine.execDrainEnd r s
  | .abort a r => Sys2Proof.Machine.execAbort a r s
  | .resume a r => Sys2Proof.Machine.execResume a r s
  | .attach a r => Sys2Proof.Machine.execAttach a r s
  | .rearm a r => Sys2Proof.Machine.execRearm a r s
  | .irqTimerExpiry r => Sys2Proof.Machine.execIrqTimerExpiry r s
  | .entryPublish r => Sys2Proof.Machine.execEntryPublish r s
  | .blockPublish r => Sys2Proof.Machine.execBlockPublish r s
  | .perstN => Sys2Proof.Machine.execPerstN s
  | .linkDown => Sys2Proof.Machine.execLinkDown s
  | .linkUp => Sys2Proof.Machine.execLinkUp s
  | .recordEntry g => Sys2Proof.Machine.execRecordEntry g s
  | .entryQueueEntry => Sys2Proof.Machine.execEntryQueueEntry s
  | .leaveDiscarding r => Sys2Proof.Machine.execLeaveDiscarding r s
  | .flushTimerExpiry r => Sys2Proof.Machine.execFlushTimerExpiry r s
  | .blockWrite r => Sys2Proof.Machine.execBlockWrite r s
  | .galMarkWrite a v => Sys2Proof.Machine.execGalMarkWrite a v s
  | .begin a t => Sys2Proof.Machine.execBegin a t s
  | .rollback a t => Sys2Proof.Machine.execRollback a t s
  | .commit a t => Sys2Proof.Machine.execCommit a t s
  | .sofsWrite a t v => Sys2Proof.Machine.execSofsWrite a t v s
  | .svalWrite a t v => Sys2Proof.Machine.execSvalWrite a t v s
  | .landing t => Sys2Proof.Machine.execLanding t s
  | .snapStrobe => Sys2Proof.Machine.execSnapStrobe s
  | .timedSnap => Sys2Proof.Machine.execTimedSnap s
  | .peerSnap => Sys2Proof.Machine.execPeerSnap s
  | .peerSnapLatch => Sys2Proof.Machine.execPeerSnapLatch s
  | .readRetry mem off q clean => Sys2Proof.Machine.execReadRetry mem off q clean s
  | .recordCreate => Sys2Proof.Machine.execRecordCreate s
  | .persistentLogWrite => Sys2Proof.Machine.execPersistentLogWrite s
  | .faultReset => Sys2Proof.Machine.execFaultReset s
  | .pendClear a j v => Sys2Proof.Machine.execPendClear a j v s
  | .ffclr => Sys2Proof.Machine.execFfclr s
  | .logclr => Sys2Proof.Machine.execLogclr s
  | .pendclr => Sys2Proof.Machine.execPendclr s
  | .inject a v => Sys2Proof.Machine.execInject a v s
  | .safeclr a v => Sys2Proof.Machine.execSafeclr a v s
  | .evaluation => Sys2Proof.Machine.execEvaluation s
  | .bgCancel => Sys2Proof.Machine.execBgCancel s
  | .selfTest a v => Sys2Proof.Machine.execSelfTest a v s
  | .recalibrate a v => Sys2Proof.Machine.execRecalibrate a v s
  | .selfTestEnd pass ofs => Sys2Proof.Machine.execSelfTestEnd pass ofs s
  | .scrubPass => Sys2Proof.Machine.execScrubPass s
  | .calibrationTurn fl ok => Sys2Proof.Machine.execCalibrationTurn fl ok s
  | .delayLineSwap fl => Sys2Proof.Machine.execDelayLineSwap fl s
  | .swapSkip fl => Sys2Proof.Machine.execSwapSkip fl s
  | .telemetrySample => Sys2Proof.Machine.execTelemetrySample s
  | .tempMeasure t01 t23 => Sys2Proof.Machine.execTempMeasure t01 t23 s
  | .chestRead a cnt => Sys2Proof.Machine.execChestRead a cnt s
  | .chestReadDone ok => Sys2Proof.Machine.execChestReadDone ok s
  | .chestWrite a cnt => Sys2Proof.Machine.execChestWrite a cnt s
  | .chestRowDone ok => Sys2Proof.Machine.execChestRowDone ok s
  | .wearLevelMove b => Sys2Proof.Machine.execWearLevelMove b s
  | .lifetimeCommit => Sys2Proof.Machine.execLifetimeCommit s
  | .supplyWarn k => Sys2Proof.Machine.execSupplyWarn k s
  | .dipRecovery k minmv dur => Sys2Proof.Machine.execDipRecovery k minmv dur s
  | .supplyReset k => Sys2Proof.Machine.execSupplyReset k s
  | .pfailN => Sys2Proof.Machine.execPfailN s
  | .lgs => Sys2Proof.Machine.execLgs s
  | .lgsDone => Sys2Proof.Machine.execLgsDone s
  | .doze => Sys2Proof.Machine.execDoze s
  | .dozeEntry => Sys2Proof.Machine.execDozeEntry s
  | .run => Sys2Proof.Machine.execRun s
  | .dozeExit => Sys2Proof.Machine.execDozeExit s
  | .dormant => Sys2Proof.Machine.execDormant s
  | .wakePin n => Sys2Proof.Machine.execWakePin n s
  | .lobbyWakeTimer j => Sys2Proof.Machine.execLobbyWakeTimer j s
  | .powerOnReset => Sys2Proof.Machine.execPowerOnReset s
  | .resetN => Sys2Proof.Machine.execResetN s
  | .hostReset => Sys2Proof.Machine.execHostReset s
  | .supReset => Sys2Proof.Machine.execSupReset s
  | .peerReset => Sys2Proof.Machine.execPeerReset s
  | .galReset => Sys2Proof.Machine.execGalReset s
  | .timingReset => Sys2Proof.Machine.execTimingReset s
  | .vddGood vio => Sys2Proof.Machine.execVddGood vio s
  | .xinRunning => Sys2Proof.Machine.execXinRunning s
  | .bootPatchLoad => Sys2Proof.Machine.execBootPatchLoad s
  | .configImageApply => Sys2Proof.Machine.execConfigImageApply s
  | .imageWaitExpiry => Sys2Proof.Machine.execImageWaitExpiry s
  | .autogoStart => Sys2Proof.Machine.execAutogoStart s
  | .linkTrainingStart => Sys2Proof.Machine.execLinkTrainingStart s
  | .flr => Sys2Proof.Machine.execFlr s
  | .l1Entry => Sys2Proof.Machine.execL1Entry s
  | .pcieError k => Sys2Proof.Machine.execPcieError k s
  | .xspiRead off len => Sys2Proof.Machine.execXspiRead off len s
  | .xspiWrite off data => Sys2Proof.Machine.execXspiWrite off data s
  | .readStatus => Sys2Proof.Machine.execReadStatus s
  | .readId => Sys2Proof.Machine.execReadId s
  | .hbKick a v => Sys2Proof.Machine.execHbKick a v s
  | .heartbeatExpiry => Sys2Proof.Machine.execHeartbeatExpiry s
  | .hbLock => Sys2Proof.Machine.execHbLock s
  | .peerEnable => Sys2Proof.Machine.execPeerEnable s
  | .enumFrame h => Sys2Proof.Machine.execEnumFrame h s
  | .timeFrameSend => Sys2Proof.Machine.execTimeFrameSend s
  | .timeFrame h t fine arr => Sys2Proof.Machine.execTimeFrame h t fine arr s
  | .tooth0Frame h t => Sys2Proof.Machine.execTooth0Frame h t s
  | .tooth1Frame h t => Sys2Proof.Machine.execTooth1Frame h t s
  | .snapFrame h round at' => Sys2Proof.Machine.execSnapFrame h round at' s
  | .commitFrame h round t at' => Sys2Proof.Machine.execCommitFrame h round t at' s
  | .statusFrame h round acted => Sys2Proof.Machine.execStatusFrame h round acted s
  | .linkdnFrame h => Sys2Proof.Machine.execLinkdnFrame h s
  | .peerLinkDown => Sys2Proof.Machine.execPeerLinkDown s
  | .extest => Sys2Proof.Machine.execExtest s
  | .samplePreload => Sys2Proof.Machine.execSamplePreload s
  | .idcode => Sys2Proof.Machine.execIdcode s
  | .highz => Sys2Proof.Machine.execHighz s
  | .clamp => Sys2Proof.Machine.execClamp s
  | .bypass => Sys2Proof.Machine.execBypass s
  | .debug => Sys2Proof.Machine.execDebug s
  | .debugUpdateDr dr => Sys2Proof.Machine.execDebugUpdateDr dr s
  | .dbgHalt a v => Sys2Proof.Machine.execDbgHalt a v s
  | .dbgResume a v => Sys2Proof.Machine.execDbgResume a v s
  | .dbgStep a v => Sys2Proof.Machine.execDbgStep a v s
  | .breakpointHit e => Sys2Proof.Machine.execBreakpointHit e s
  | .dbgDataWrite a v => Sys2Proof.Machine.execDbgDataWrite a v s
  | .commaLock => Sys2Proof.Machine.execCommaLock s
  | .perstNRelease => Sys2Proof.Machine.execPerstNRelease s
  | .pfailNRelease => Sys2Proof.Machine.execPfailNRelease s
  | .tripInputInactive m => Sys2Proof.Machine.execTripInputInactive m s
  | .configurationWrite v => Sys2Proof.Machine.execConfigurationWrite v s
  | .angleCyclePassage n => Sys2Proof.Machine.execAngleCyclePassage n s
  | .scrubPassEnd => Sys2Proof.Machine.execScrubPassEnd s
  | .laneClockEdge k level => Sys2Proof.Machine.execLaneClockEdge k level s
  | .laneRxStartEdge k e => Sys2Proof.Machine.execLaneRxStartEdge k e s
  | .peerFrameDiscard => Sys2Proof.Machine.execPeerFrameDiscard s

end Sys2Proof.Machine
end

