-- ==== Sys2Proof/Machine/Tick.lean ====
section
/-! DEFINITION. The passing of time: what the device does by itself when no command waits. One TBCLK period is worked through in phases;
a phase finds what falls in the tick, and puts the rows of the table that stand for it into the queue, so that every happening takes its
effect through its own row. Commands from outside are served in each tick ahead of the engines' instructions (R25). -/

namespace Sys2Proof.Machine

/-- Whether the channels, groups and engines have a clock edge in this tick: every tick, or every LCLK edge while TB counts LCLK (R34, R85). -/
def clocked (s : State) : Bool := s.tbclk || s.lclkEdge

/-- Whether a happening that real time dates takes effect at the end of the LCLK step in which it falls: a dead-time delay and a moved
closing change (R109). -/
def closesStep : Instr → Bool
  | .deadTimeExpiry _ | .stretchClose _ => true
  | _ => false

/-- The first command of the agenda that is due and satisfies `p` joins the queue. -/
def takeDue (s : State) (p : Instr → Bool) : Option State :=
  match s.agenda.find? (fun d => d.tick ≤ s.ticks && p d.cmd && (clocked s || !closesStep d.cmd)) with
  | some d => some ({ s with agenda := s.agenda.erase d }.enq d.cmd)
  | none => none

/-- The state with its phase set. -/
def State.to (s : State) (p : Nat) : State := { s with phase := p }

/-! ## Happenings without a row -/

/-- A happening that the spec dates some ticks after its cause. -/
def runLater (s : State) : Later → State
  | .chEvt n b => chEvent s n b
  | .fifoPush n e => fifoPush s n e
  | .chCount _ => s
  | .errn => { s with flt := { s.flt with errnPin := errnLevel s } }
  | .faultEvt r time payload => faultEvtNow s r time payload
  | .faultMsg => faultMessage s
  | .safeRelease j => releaseSafe s j
  | .react k => reactRest s k.val
  | .injected k m => injectRaise s k m
  | .irqSend r => irqSent s r
  | .peerSend f => peerSend s f
  | .enumSend => enumSend s
  | .peerCheck => peerCheck s
  | .dormantEnter => dormantEnter s
  | .lgsRecovered => lgsRecovered s
  | .lobbyLevels => lobbyLevels s
  | .syncFilter => syncFilterEnds s
  | .soOff => soOff s
  | .tripAccept m on => tripAccept s m on
  | .tripInput m => tripInput s m
  | .threadReady e k => threadReady s e k
  | .barMask b => barMask s b
  | .wrapLoad e => wrapShadows s e

/-- Whether a later happening has its place at the end of its tick: an edge that enters its FIFO behind every pop of the tick (R72), a
filter that ends with the sample of the tick (R47, R105), and the message behind the EVT entries (R336). -/
def endsTick : Later → Bool
  | .fifoPush _ _ | .syncFilter | .tripAccept _ _ | .faultMsg => true
  | _ => false

/-- The happenings of this tick, in order. The edges that a counter counts wait for the counters (R57). -/
def runLaters (s : State) : State :=
  let due (x : Nat × Later) : Bool := x.1 ≤ s.ticks && !endsTick x.2 && (match x.2 with | .chCount _ => false | _ => true)
  let now := s.later.filter due
  now.foldl (fun s x => runLater s x.2) { s with later := s.later.filter (fun x => !due x) }

/-- The happenings at the end of this tick. -/
def runEnds (s : State) : State :=
  let due (x : Nat × Later) : Bool := x.1 ≤ s.ticks && endsTick x.2
  (s.later.filter due).foldl (fun s x => runLater s x.2) { s with later := s.later.filter (fun x => !due x) }

/-! ## The clock (R36, R41, R44 to R46, R85) -/

/-- A step loads TB (R44): a slew adjustment due in the same tick moves FOFS alone. -/
def stepTb (s : State) (slew : Bool) : State :=
  let v := (s.rd R.TB_STEP_HI).toNat * 2 ^ 32 + (s.rd R.TB_STEP_LO).toNat
  let s := s.updTb (fun b => { b with tb := BitVec.ofNat 64 v, stepNext := false })
  let s := if slew then s.setFl R.TB_FOFS 0 5 (slewStep (slewDir s) s.fofs).1 else s
  anchorAll (s.setEv R.TB_STAT 0) 4

/-- FOFSCLR acts: FOFS becomes 0, with STEPDONE (R46, R56). -/
def clearFofs (s : State) : State := ((s.setFl R.TB_FOFS 0 5 0).setEv R.TB_STAT 0).updTb (fun b => { b with fofsNext := false })

/-- TB in a tick under TBCLK counting: a step, FOFSCLR, a slew adjustment, or one tick (R36). -/
def tbTick (s : State) : State :=
  let due := slewDir s != 0 && slewInterval s < s.tb.slewCnt + 1
  let s := s.updTb (fun b => { b with slewCnt := if slewDir s = 0 then 0 else if due then 1 else b.slewCnt + 1 })
  let clr := s.tb.fofsNext
  let s := if clr then clearFofs s else s
  let s := if s.tb.stepNext then stepTb s (due && !clr)
    else if due && !clr then s.enq .slewAdjust
    else advanceTb s 1
  let s := s.updTb (fun b => { b with counted := b.counted + 1 })
  if s.tb.dropping && s.lclkEdge then startLclk (s.setBt R.CLK_STAT 6 true) else s

/-- TB in a tick under LCLK counting (R36, R41): at an LCLK edge it advances by the integer part of the accumulator, and the counters
follow by as many ticks (R85); after PLL lock the return to TBCLK counting takes one more edge and two ticks. -/
def tbLclk (s : State) : State :=
  let s := if s.tb.fofsNext then clearFofs s else s
  if s.tb.stepNext then stepTb s false
  else
    match s.tb.returnIn with
    | some 2 => s.updTb (fun b => { b with returnIn := some 1 })
    | some 1 => s.enq .tbclkCountingReturn
    | r =>
      if s.lclkEdge then
        let acc := s.tb.frac + (s.rd R.TB_LSTEP).toNat
        let k := acc / 65536
        let s := advanceTb (s.updTb (fun b => { b with frac := acc % 65536, counted := b.counted + k, returnIn := if r = some 3 then some 2 else r })) k
        { s with sub := k - 1 }
      else s

/-- The Lobby's clock at the beginning of a tick (R33): the edge of the tick before has passed, and the next one is dated. -/
def nextEdge (s : State) : Tb :=
  if s.tb.lclkAt ≤ s.ticks then
    let f := s.tb.lclkFrac + s.lclkStep
    { s.tb with lclkAt := s.tb.lclkAt + f / 65536, lclkFrac := f % 65536 }
  else s.tb

/-- Whether a write of a register acts within the tick after it: a Newel's acts behind the inputs of that tick (R135), and one of the
Banister on records created after it (R350). -/
def actsLater (o : Nat) : Bool := (0x8000 ≤ o && o < 0x9000) || fltKept o

/-- The next tick begins. -/
def clockTick (s : State) : State :=
  let fofs := s.fofs
  let s := { s with
    pramLast := ((s.pramServed.reverse.find? (3 ≤ ·)).map (fun a => Fin.ofNat 8 (a.val - 3))).getD s.pramLast
    ticks := s.ticks + 1, marks := [], old := s.old.filter (fun x => actsLater x.2.1), tb := { nextEdge s with prev := s.tb.tb, prevFofs := fofs }
    ports := { s.ports with sint := sintLow s } }
  let s := if s.tbclk then tbTick s else tbLclk s
  runLaters s

/-! ## Landings (R318) -/

/-- The landing of a transaction falls in this tick. -/
def landsAt (s : State) (t : Fin 8) : State := if dueNow s (.landing t) then s else s.after 0 (.landing t)

/-- The landings that the tick's time decides: the peer commits whose T has come, TB-time commits, and angle commits whose target has come.
Under LCLK counting a period-end commit lands ahead of the boundary in the tick of the LCLK edge (R318). -/
def landings (s : State) : State :=
  let s := commitDuties s
  let s := ((List.finRange 8).filter (fun t => timeLands s t || (List.finRange 4).any (fun n => commitLands s n t))).foldl landsAt s
  if s.tbclk || !clocked s then s else s.enqAll (((List.finRange 8).filter (periodLands s)).map Instr.landing)

/-- The period-end commits that land in this tick, the last before a boundary (R317). -/
def periodEnds (s : State) : State := if s.tbclk then ((List.finRange 8).filter (periodLands s)).foldl landsAt s else s

/-- The landings of a tick are served ahead of every other write (R318), in ascending transaction number. -/
def takeLanding (s : State) : Option State := takeDue s (fun c => match c with | .landing _ => true | _ => false)

/-! ## Groups and counters (R57 to R61, R87 to R91) -/

/-- A written count of a group takes its place (R89). -/
def groupCntWr (s : State) (m : Fin 16) : State :=
  match s.pg[m].cntWr with
  | some v => countMembers (setGroupCount (s.updPg m (fun g => { g with cntWr := none })) m v.toNat s.pg[m].down) m
  | none => s

/-- A group in this tick (R88, R89): a start, a written count, or an advance with its boundary or peak. A timed start falls in the tick of an
LCLK step that satisfies it (R85, R109). A group that waits for its start takes a written count behind it. -/
def groupTick (s : State) (m : Fin 16) : State :=
  let s := actTripclr s m
  let g := s.pg[m]
  let c := s.rd (pgOff m PG.CTRL)
  let timed := g.armed && fld c 8 2 == 1 && reached (s.rd (pgOff m PG.START)) (s.near - w32 s.sub)
  if !g.run && (g.startNext || timed) then s.enq (.pgGroupStart m)
  else if g.cntWr.isSome then (if g.armed then s else groupCntWr s m)
  else match pgAdvance s m with
    | some a => if a.bound then s.enq (.pgBoundary m) else if a.peak then s.enq (.pgPeak m) else pgApply s m a
    | none => s

/-- Whether a counting channel advances in this tick: every tick, or by an accepted edge with CNTSRC = 1 (R57). -/
def advances (s : State) (n : Fin 96) : Bool :=
  let mode := cntMode s n
  (mode == 1 || mode == 2 || mode == 3)
    && (!s.bt (chOff n CH.CTRL) 7 || (s.sub == 0 && s.later.any (fun x => x.1 ≤ s.ticks && x.2 == .chCount n)))

/-- A channel's counter in this tick (R58, R87): a written count, or an advance with its boundary or peak. DESIGN CHOICE (assumption 27): a
count written to a frozen channel takes its place too. -/
def counterTick (s : State) (n : Fin 96) : State :=
  match s.ch[n].cntWr with
  | some v => takeCount (s.updCh n (fun c => { c with cntWr := none, cntSet := s.now })) n v.toNat s.ch[n].down
  | none =>
    if !advances s n then s
    else match chAdvance s n with
      | some a => if a.bound then s.enq (.counterBoundary n) else if a.peak then s.enq (.counterPeak n) else applyAdvance s n a
      | none => s

/-- Groups and counters in this tick. -/
def counters (s : State) : State :=
  let s := (List.finRange 16).foldl groupTick s
  let s := (List.finRange 96).foldl counterTick s
  let counted (x : Nat × Later) : Bool := x.1 ≤ s.ticks && (match x.2 with | .chCount _ => true | _ => false)
  if s.sub = 0 then { s with later := s.later.filter (fun x => !counted x) } else s

/-- Whether a command moves a count in this tick: a cascade carry (R59), and a group that starts at a boundary (R89). Of several carries from
another Flight that an LCLK edge brings (R85), each takes a tick of the step. -/
def movesCount (s : State) : Instr → Bool
  | .cascadeAdvance n => s.sub == 0 || s.ch[n].took != s.now || s.ch[n].cntSet == s.now
  | .pgGroupStart _ => true
  | _ => false

/-- When the carries and starts of the tick are done: counts written to groups that wait for their start, and members that moved without
their group (R89, R90). -/
def settleCounts (s : State) : State :=
  let s := (List.finRange 16).foldl groupCntWr s
  (List.finRange 96).foldl settleMember s

/-- Whether a command is a change of a trip input that takes effect now, which decides the pins of its tick (R82). -/
def isTrip : Instr → Bool
  | .tripAssert _ | .tripInputInactive _ => true
  | _ => false

/-- The queue entries that fire in this tick: one for each channel whose head is satisfied (R77). -/
def fires (s : State) : List Instr :=
  ((List.finRange 96).filter (fun n =>
    !s.ch[n].frozen && (match s.ch[n].aq with | e :: _ => reached e.coarse s.near | [] => false))).map .aqFire

/-- The compare matches of this tick, the highest letter of a channel first (R62, R63). -/
def matchRows (s : State) : List Instr :=
  (List.finRange 96).flatMap (fun n => (([3, 2, 1, 0] : List (Fin 4)).filter (compareDue s n)).map (.compareMatch n))

/-- The marks that stand for one tick of the count go, so that the next tick of an LCLK step has its own (R85). -/
def nextSub (s : State) : State :=
  { s with
    sub := s.sub - 1
    ch := s.ch.map (fun c => { c with took := 0, cntSet := 0, xferAt := 0, cmpPinAt := 0 })
    pg := s.pg.map (fun g => { g with took := 0, xferAt := 0, boundAt := 0 }) }

/-! ## Newels (R131, R135, R146 to R156) -/

/-- The angle of this tick: a passage of the cycle, or the angle that CYCNUM now belongs to; and the hold angle. -/
def angleTick (s : State) (n : Fin 4) : State :=
  let s := if (cyclePass s n).isSome then s.enq (.angleCyclePassage n) else takeAngle s n
  let s := if holdReached s n then s.enq (.holdAngleReached n) else s
  (commitConvs s n).foldl (fun s t => convCommit s n t) s

/-- The pass offer of a Newel in this tick (R148): of the late pass, or of the conversion made in the tick before. -/
def offerRow (s : State) (n : Fin 4) : List Instr :=
  let w := s.nwl[n]
  match w.lateQ, w.conv with
  | o :: _, _ => [.newelOffer n o.slot]
  | [], some o => if w.convAt < s.now then [.newelOffer n o.slot] else []
  | [], none => []

/-- The offers that a Newel makes in a tick without a pass offer (R148, R153, R155): every refused offer whose event the angle has passed is
dropped, and else the first one is offered again; a cancel is offered where no other offer is. -/
def spareRow (s : State) (n : Fin 4) : List Instr :=
  let w := s.nwl[n]
  let gone := w.reofferQ.filter (offerGone s n)
  let drops := gone.map (fun o => Instr.reoffer n o.slot)
  if w.offerAt == s.now then drops
  else match w.reofferQ.find? (fun o => !offerGone s n o) with
    | some o => drops ++ [.reoffer n o.slot]
    | none => if w.cancelQ.isEmpty then drops else drops ++ [.cancelOffer n]

/-- The conversion and the freezes of this tick. -/
def slotRows (s : State) (n : Fin 4) : List Instr :=
  let conv := if convDue s n then ((nextConv s n).map (Instr.slotConversion n)).toList else []
  ((List.finRange 512).filter (freezeDue s n)).map (Instr.commitFreeze n) ++ conv

/-! ## Engines (R173 to R185) -/

/-- The engines in the order in which parameter RAM serves them (R167). -/
def engOrder (s : State) : List (Fin 8) := (List.finRange 8).map (fun i => s.pramLast + i + 1)

/-- The wake timers and the GO of this tick. -/
def wakeRows (s : State) : State :=
  let s := goMiss s
  let ws := (List.finRange 8).flatMap (fun e => ((List.finRange 8).filter (wakeDue s e)).map (Instr.wakeTimerFire e))
  let s := s.enqAll ws
  if goDue s then s.enq .goAct else s

/-- An engine at the start of a cycle: it starts, or its stop is complete. -/
def engStart (s : State) (e : Fin 8) : State :=
  let s := if s.eng[e].startNext && !feRun s e then beginRun s e else s
  if stopReady s e then s.enq (.feStopComplete e) else s

/-- The waits on lanes that end in this cycle (R192). -/
def lwaitRows (s : State) (e : Fin 8) : List Instr :=
  if feRun s e then ((List.finRange 4).filter (lwaitDue s e)).map (Instr.lwaitRelease e) else []

/-- Whether the instruction at a bank's PC lies in its engine's code region (R180). -/
def inRegion (s : State) (e : Fin 8) (pc : BitVec 16) : Bool :=
  let lo := s.fl (feOff e FE.CODE) 0 16
  let hi := s.fl (feOff e FE.CODE) 16 16
  let p := pc.toNat
  decide (lo ≤ p) && decide (p ≤ hi) && (parcels (codeParcel s pc) == 1 || decide (p + 1 ≤ hi))

/-- A repetition whose count has become 0 between two iterations is over (R232). -/
def dropRepi (s : State) (e : Fin 8) (b : Fin 4) : State :=
  let x := s.bank e b
  if x.rep == some .repi && x.rc == 0 then beginRepi (s.updBank e b (fun x => { x with rep := none })) e b else s

/-- An engine begins its next instruction: a fetch outside the code region is a fault of the thread (R180), a breakpoint halts the engine
before it (R423), and else its micro-routine begins. -/
def engBegin (s : State) (e : Fin 8) : State :=
  match executing s e with
  | none => s
  | some b =>
    let x := s.eng[e]
    let k := s.bank e b
    if x.commit.isSome || s.ticks < x.next || k.run.isSome || k.inTail || (feStopping s e && !inRep s e) then s
    else
      let s := dropRepi s e b
      let pc := (s.bank e b).pc
      if !inRegion s e pc then threadFault s e b (faultParcel s e b) (some 1) FS.FE_FETCH_RANGE
      else if bpMatch s e pc && !inRep s e then s.enq (.breakpointHit e)
      else beginInstr s e b (instrAt s e pc)

/-- The cycles spent executing (R198, R353, R364). -/
def countBusy (s : State) (e : Fin 8) : State :=
  if (shown s e).isSome then (s.satFl (feOff e FE.BUSY) 0 32).updEng e (fun x => { x with win := x.win + 1, tel := x.tel + 1 }) else s

/-- What an engine's sequencer does in this cycle: an instruction reaches its commit microword, a microword before or after it runs, or the
tail of a ROM routine. -/
inductive EngWork where
  | row (b : Fin 4)
  | word (b : Fin 4) (q : Run)
  | tail (b : Fin 4)

/-- The work of an engine in this cycle. -/
def engWork (s : State) (e : Fin 8) : Option EngWork :=
  match s.eng[e].level, s.eng[e].disp with
  | some b, none =>
    let x := s.bank e b
    if !feRun s e || x.wait.isSome then none
    else if x.tail.isSome then some (.tail b)
    else match x.run, s.eng[e].commit with
      | some q, _ => if s.ticks < s.eng[e].next then none else if q.committed || quiet q s e b then some (.word b q) else some (.row b)
      | none, some t => if t ≤ s.ticks && x.thread.isSome then some (.row b) else none
      | none, none => none
  | _, _ => none

/-- Whether the work of an engine reaches its I/O space. -/
def reachesIo (s : State) (e : Fin 8) : EngWork → Bool
  | .tail _ => false
  | .word _ q => let w := controlWord s (fetchAt s q.at'); fld w 18 4 == 2 && fld w 16 2 == 1
  | .row b => match (s.bank e b).run with
    | some q => let w := controlWord s (fetchAt s q.at'); fld w 18 4 == 2 && fld w 16 2 == 1
    | none => match instrAt s e (s.bank e b).pc with | .inp _ _ _ _ | .out _ _ _ _ => true | _ => false

/-- The work of an engine is done, an instruction's commit through its row. -/
def doWork (s : State) (e : Fin 8) : EngWork → State
  | .row b => s.enq (instrAt s e (s.bank e b).pc)
  | .word b q => microRun q s e b
  | .tail b => romTail s e b

/-- The first engine of a list that has work of the one kind or the other, with its place. -/
def findWork (s : State) (io : Bool) (es : List (Fin 8)) : Option (Nat × Fin 8 × EngWork) :=
  (es.zipIdx.filterMap (fun x => (engWork s x.1).bind (fun w => if reachesIo s x.1 w == io then some (x.2, x.1, w) else none))).head?

/-- The dispatch or resumption of an engine that falls in this tick. -/
def dispatchRow (s : State) (e : Fin 8) : List Instr :=
  match s.eng[e].disp with
  | some t => if t ≤ s.ticks && feRun s e then [.threadDispatch e] else []
  | none => []

/-! ## Lanes, SYNC_OUT, rings and the Gallery -/

/-- The row of a descriptor's opcode (R268). -/
def descRow (opc : Nat) (r : Fin 64) : Option Instr :=
  match opc with
  | 0x00 => some (.descNop r) | 0x01 => some (.descWrite r) | 0x02 => some (.writep r) | 0x03 => some (.descRead r)
  | 0x04 => some (.copy r) | 0x05 => some (.fill r) | 0x06 => some (.descFence r) | 0x07 => some (.txnBegin r)
  | 0x08 => some (.txnCommit r) | 0x09 => some (.txnRollback r) | 0x0A => some (.snapDescriptor r)
  | _ => none

/-- Whether a ring has a descriptor to start in this tick: 3 ticks or more after it arrived. -/
def descDue (s : State) (r : Fin 64) : Bool := (descHead s r).isSome && s.ring[r].arrAt + 3 ≤ s.ticks

/-- The ring whose piece of work a free context takes next (R304): in turn an entry, a block or a descriptor. -/
def nextPiece (s : State) (g : Fin 16) : Option (Fin 64) :=
  if s.gc[g].work.isSome then none
  else
    let turn := (List.finRange 64).map (fun i => Fin.ofNat 64 (s.gc[g].last + 1 + i.val))
    turn.find? (fun r => ringGc s r == g && (entryReady s r || descDue s r || blockDue s r))

/-- A free context takes an entry whose turn it is. -/
def takeEntry (s : State) (g : Fin 16) : State :=
  match nextPiece s g with
  | some r => if entryReady s r then setWork s g (some (r, .entry)) else s
  | none => s

/-- A free context takes its next piece of work. -/
def contextTick (s : State) (g : Fin 16) : State :=
  match nextPiece s g with
  | none => s
  | some r =>
    if entryReady s r then setWork s g (some (r, .entry))
    else if blockDue s r then s.enq (.blockWrite r)
    else match descHead s r with
      | some ws => match descRow (opcOf ws) r with
        | some i => s.enq i
        | none => badOpcode s r
      | none => s

/-- A context whose descriptor has ended, or whose entry cannot be written any more, is free. -/
def freeContext (s : State) (g : Fin 16) : State :=
  match s.gc[g].work with
  | some (r, .desc) => (match s.ring[r].cur with
    | some d => if d.ended then freeDesc s r else s
    | none => s)
  | some (r, .entry) => if s.ring[r].issued.isNone && !entryReady s r then setWork s g none else s
  | _ => s

/-- What is complete on a ring since the tick before: an entry or block is published, a descriptor without a record is completed, and one
that finds its CMPL ring blocked begins to wait. -/
def completeRows (s : State) (r : Fin 64) : List Instr :=
  let x := s.ring[r]
  let ent := if x.issued.isSome then [Instr.entryPublish r] else []
  let blk := match x.blk with | some (_, 8) => if x.leaveAt ≤ s.ticks then [Instr.blockPublish r] else [] | _ => []
  let cpl := match x.cur with
    | some d =>
      if d.ended && (!needsRecord s r d || (cmplBlocked s (cring s r) && !s.bt (ringOff r RING.STAT) 4)) then [Instr.descriptorComplete r]
      else []
    | none => []
  ent ++ blk ++ cpl

/-- A ring at the end of a tick: descriptors are fetched, a writeback that waited goes out, a flush time ends, discarding or DRAIN ends. -/
def ringTick (s : State) (r : Fin 64) : State :=
  let x := s.ring[r]
  let s := if fetchCount s r != 0 then fetchRing s r else s
  let s := if x.wbDue && hostOk s then writeback s r else s
  let s := if flushExpires s r then s.enq (.flushTimerExpiry r) else s
  let s := if leavesDiscarding s r then s.enq (.leaveDiscarding r) else s
  if drained s r then s.enq (.drainEnd r) else s

/-- The next edge of SYNC_OUT that this tick brings: every edge that an advance of TB passes falls in its tick, in the order of their times
(R37, R49). -/
def syncOutRow (s : State) : Option State :=
  let ends := match s.tb.soEnd with | some t => decide (t ≤ soNext s) | none => false
  if soEndDue s && (ends || !soEdgeDue s) then some (s.enq .syncoutPulseEnd)
  else if soEdgeDue s && clocked s then some (s.enq .syncoutActiveEdge)
  else none

/-! ## Periodic work (R353, R360, R361, R364, R370, R386, R387, R390, R403, R411) -/

/-- The delay-line work of a Flight: a turn begins every 10 ms, and a waiting swap takes a quiet tick or is skipped (R98, R361). -/
def calTick (s : State) (fl : Fin 8) : State :=
  let s := if s.ticks % 4000000 = 0 || (s.bg.cal[fl].due && !s.vest.paused) then calStart s fl else s
  match s.bg.cal[fl].swapBy with
  | some t => if swapQuiet s fl then s.enq (.delayLineSwap fl) else if t ≤ s.ticks then s.enq (.swapSkip fl) else s
  | none => s

/-- Telemetry in this tick (R364). -/
def telTick (s : State) : State :=
  let s := s.updVest (fun v => { v with telLand := max v.telLand (landOcc s) })
  if !s.bt R.TEL_CTRL 0 then s.updVest (fun v => { v with telAt := s.ticks, telLand := landOcc s })
  else if s.vest.telAt + 400000 * max 1 (s.fl R.TEL_CTRL 16 8) ≤ s.ticks then s.enq .telemetrySample
  else s

/-- The Lobby's wake timers (R390). -/
def lobbyTick (s : State) : State :=
  (lobRearm s).enqAll (((List.finRange 8).filter (lobDue s)).map Instr.lobbyWakeTimer)

/-- Whether the Vestibule evaluates in this tick: every 400 ticks, and in DOZE at each LCLK edge (R353). -/
def evaluates (s : State) : Bool := coreOn s && (if pwrMode s = 1 then s.lclkEdge else decide (s.ticks % 400 = 0))

/-- The periodic work of the core in this tick. -/
def periodic (s : State) : State :=
  let s := expireGrants s
  let s := telTick s
  let s := (List.finRange 8).foldl calTick s
  let s := if scrubDue s then s.enq .scrubPass else s
  let s := if s.ticks % 400000000 = 0 then lifeSecond s else s
  let s := if hbDue s then s.enq .heartbeatExpiry else s
  let s := if dozeEnds s then s.enq .dozeExit else s
  let s := if s.lclkEdge && dozeReady s then s.enq .dozeEntry else s
  let s := if l1Leaves s then wakeLink s else s
  exitReady s

/-! ## The phases of a tick -/

/-- Whether a command is a sample of a pin by its own sampler (R69). -/
def isSample : Instr → Bool
  | .inputEdgeSampled _ _ _ => true
  | _ => false

/-- A phase that begins when no command of the agenda is due any more. The samples of a tick are taken at its end, its glitch filters expire
after them, and a landing has its place ahead of every other write (R318). -/
def afterDue (s : State) (f : State → State) : State :=
  (takeDue s (fun c => match c with | .glitchFilterExpiry _ | .landing _ | .inputEdgeSampled _ _ _ | .debugUpdateDr _ => false | _ => true)).getD (f s)

/-- A phase of the end of the tick, when the samples of the tick are in: the expiries of glitch filters (R69) too come first. -/
def afterAll (s : State) (f : State → State) : State := (takeDue s (fun _ => true)).getD (f s)

/-- `f` where the channels, groups and engines have a clock edge. -/
def onClock (s : State) (f : State → State) : State := if clocked s then f s else s

/-- The end of the tick: the SNAPs of the tick (R323, R324). -/
def endPhase (s : State) : State :=
  match s.phase with
  | 0 => s.to 39
  | 1 => (onClock s (fun s =>
      let s := snapLate s
      let s := if timedDue s then s.enq .timedSnap else s
      if (dutiesNow s true).isEmpty then s else s.enq .peerSnapLatch)).to 2
  | 2 => (onClock s (fun s => if strobeDue s then s.enq .snapStrobe else s)).to 3
  | _ => afterAll s (fun s => (onClock s (fun s => s.enqAll ((List.finRange 8).flatMap (lwaitRows s)))).to 57)

/-- The counts of the tick: landings ahead of every other write, counters, the queues, compares; once for each tick of an LCLK step. -/
def countPhase (s : State) : State :=
  match s.phase with
  | 4 => if waitingEnters s then s.enq .entryQueueEntry
    else (takeDue s (fun c => match c with | .channelFreeze _ | .channelRelease _ => true | _ => false)).getD (s.to 5)
  | 5 => (landings s).to 6
  | 6 => (onClock s counters).to 7
  | 7 => (takeDue s (movesCount s)).getD ((onClock s settleCounts).to 8)
  | 8 => (takeDue s isTrip).getD <| (onClock s (fun s =>
      let s := (List.finRange 16).foldl actForce s
      if s.sub = 0 then s.enqAll (fires s) else s)).to 9
  | 9 => (onClock s (fun s => s.enqAll (matchRows s))).to 10
  | _ => if s.sub = 0 then ((List.finRange 96).foldl flushPend s).to 11 else (nextSub s).to 5

/-- The Newels, engines, lanes, rings and the periodic work of the tick. -/
def workPhase (s : State) : State :=
  match s.phase with
  | 11 => afterDue s (fun s => (s.enqAll (((List.finRange 4).filter (stallDue s)).map Instr.stallTimeout)).to 12)
  | 12 => ((List.finRange 4).foldl (fun s n => if nwlActsDue s n then nwlActs s n else s) { s with old := s.old.filter (fun x => x.1 == s.ticks) }).to 13
  | 13 => afterDue s (fun s => ((List.finRange 4).foldl angleTick s).to 14)
  | 14 => afterDue s (fun s =>
      ((s.enqAll ((List.finRange 4).flatMap (offerRow s))).enqAll ((List.finRange 4).flatMap (slotRows s)) |> periodEnds).to 27)
  | 27 => (s.enqAll (((List.finRange 4).filter (reevalDue s)).map Instr.reEvaluation)).to 28
  | 28 => (s.enqAll ((List.finRange 4).flatMap (spareRow s))).to 15
  | 15 => (takeLanding s).getD <| afterDue s (fun s => (onClock (wakeRows s) (fun s => (engOrder s).foldl engStart s)).to 16)
  | 16 => (onClock s (fun s => s.enqAll ((engOrder s).flatMap (dispatchRow s)))).to 17
  | 17 => (onClock s (fun s => (engOrder s).foldl engBegin ((List.finRange 8).foldl countBusy s))).to 19
  | 19 => afterDue s (fun s => (s.enqAll (((List.finRange 16).filter (laneCanStart s)).map Instr.laneWordStart)).to 21)
  | 20 => (lobbyTick s).to 0
  | 21 => ((List.finRange 16).foldl (fun s k => if laneDue s k then laneBoundary s k else s) s).to 26
  | 26 => (syncOutRow s).getD (s.to 22)
  | 22 =>
    let s := (List.finRange 16).foldl freeContext s
    (s.enqAll ((List.finRange 64).flatMap (completeRows s))).to 23
  | 23 => (galleryCycle ((List.finRange 16).foldl takeEntry s)).to 24
  | 24 => ((List.finRange 16).foldl contextTick s).to 29
  | 29 => ((List.finRange 64).foldl ringTick s).to 25
  | _ => (takeDue s isSample).getD (afterDue s (fun s => (lobbyTick (periodic s)).to 0))

/-- The part of the tick behind the commands from outside (R25): the register accesses of supervisor rings, the engines, first what
parameter RAM serves in turn (R167) and then I/O accesses in ascending order (R76), the words that lanes complete (R190), and the
schedulers (R173 to R175); then the next tick begins. -/
def latePhase (s : State) : State :=
  match s.phase with
  | 39 => (onClock s supAccess).to 40
  | 56 => afterAll s (fun s =>
      let s := runEnds s
      (s.enqAll (((List.finRange 16).filter (fun k => s.lane[k].done)).map Instr.laneWordComplete)).to 1)
  | 57 => afterAll s (fun s => (onClock s (fun s =>
      let s := (List.finRange 8).foldl countWait s
      s.enqAll (((List.finRange 8).filter (preempts s)).map Instr.preemption))).to 59)
  -- A cause of refusal that begins in the tick acts before the grants of its evaluation (R355).
  | 59 => (if evaluates s then s.enq .evaluation else s).to 58
  | 58 =>
    let s := clockTick (onClock s (fun s => (List.finRange 8).foldl reselect s))
    s.to (if !coreOn s then 20 else if clocked s then 4 else 25)
  | p =>
    if !clocked s then s.to 56
    else if p < 48 then
      match findWork s false ((engOrder s).drop (p - 40)) with
      | some (i, e, w) => (doWork s e w).to (p + i + 1)
      | none => s.to 48
    else match findWork s true ((List.finRange 8).drop (p - 48)) with
      | some (i, e, w) => (doWork s e w).to (p + i + 1)
      | none => s.to 56

/-- What the block does when no command waits (R21): the next phase of the present tick. -/
def idle (s : State) : State :=
  if s.phase < 4 then endPhase s else if s.phase < 11 then countPhase s else if s.phase < 39 then workPhase s else latePhase s

end Sys2Proof.Machine
end

