-- ==== Sys2Proof/Safety.lean ====
section
/-! DEFINITION. What counts as a safe run, in the terms that claims use: the forms that hold in every state a run reaches, and the
outcomes of a step. -/

namespace Sys2Proof.Machine

/-- What an unlisted latch holds (R40). -/
def latDefault (k : Nat) : Word := regDefault (k % 0x100000)

/-- The registers, the latches, the RAM windows and the Chest array are held in their one canonical form: addresses rise, and no entry
says what an unlisted address says already. Equal contents are then equal data. -/
def Canonical (s : State) : Prop :=
  Store.wf regDefault s.regs = true ∧ Store.wf latDefault s.lat = true ∧ Memory.wf s.mem = true ∧ Memory.wf s.chest = true

/-- No queue holds more than the spec gives it room for: 8 entries in an action queue and a capture FIFO (R72, R74), 2 words in a lane's
receive buffer (R191). -/
def Bounded (s : State) : Prop :=
  (∀ n : Fin 96, s.ch[n].aq.length ≤ 8 ∧ s.ch[n].fifo.length ≤ 8) ∧ (∀ k : Fin 16, s.lane[k].rx.length ≤ 2)

/-- An outcome that goes on. -/
def Goes (o : Host.Outcome State Fault Refusal) : Prop := ∃ t, o = .next t

/-- Command `c` in state `s` answers a next state, and `P` holds of it. -/
def Answers (c : Instr) (s : State) (P : State → Prop) : Prop := ∃ t, exec c s = .next t ∧ P t

/-- A raise of fault source `k` has reached the Banister: it waits for its record, or a record of the source is in handling (R329,
R331). -/
def Raised (s : State) (k : Nat) : Prop := s.fltPend k = true ∨ ∃ r ∈ s.flt.raised, r.src.val = k

/-! ## Engine instructions -/

/-- Engine `e` executes on bank `b`, no routine is under way there, and no loaded patch redirects that of instruction `i` (R173, R240,
R248). -/
def Executes (s : State) (e : Fin 8) (b : Fin 4) (i : Instr) : Prop :=
  executing s e = some b ∧ (s.bank e b).tail = none ∧ (s.bank e b).run = none ∧ redirected s e b i = none

/-- The state with the registers `r` and the engines `g`, to say that two states agree in all the rest. -/
def State.withEng (t : State) (r : Store Word) (g : Vector Eng 8) : State := { t with regs := r, eng := g }

/-- Engine `e` has completed an instruction of `len` parcels on bank `b`, from `s` to `t`. `x` is the bank with the instruction's own
effects; an execution of a repeated instruction counts (R231, R232), over the effects goes the value of the load before (R209), `ld` is the
load that it leaves pending, `go` where it transfers to, and `after` its cycles beyond the commit (R224). Nothing else changes but the wrap shadows
at WRAPHI (R188) and STOPPING at the end of a single step (R423). -/
structure Completed (s t : State) (e : Fin 8) (b : Fin 4) (x : Bank) (len : Nat) (ld : Option (Fin 16 × Word))
    (go : Option (BitVec 16)) (after : Nat) : Prop where
  bank : t.bank e b = ({ x.count.flush with load := ld } : Bank).goOn (go.getD (nextPc s e b len))
  banks : ∀ g l, ¬(g = e ∧ l = b) → t.bank g l = s.bank g l
  next : t.eng[e].next = s.ticks + s.samples (1 + after)
  regs : ∀ o, o ≠ feOff e FE.STAT → o ≠ feOff e FE.WRAPACT → t.rd o = s.rd o
  stat : ∀ i, i ≠ 1 → t.bt (feOff e FE.STAT) i = s.bt (feOff e FE.STAT) i
  wrap : ¬(6 ≤ e.val ∧ (s.bank e b).pc = wrapHi s e) → t.rd (feOff e FE.WRAPACT) = s.rd (feOff e FE.WRAPACT)
  bytes : ∀ o, t.byte o = s.byte o
  rest : t.withEng s.regs s.eng = s

/-- The same for an instruction that stores the low `n` bytes of `v` at data address `a` (R166, R207): they go to the bytes that the data
space places there, but for those of a context entry that read 0 (R170), every other byte of memory reads as before, and a store into
RAM changes nothing else but the arbitration of parameter RAM, whose stall comes on top of `after` (R167). -/
structure Stored (s t : State) (e : Fin 8) (b : Fin 4) (x : Bank) (len : Nat) (go : Option (BitVec 16)) (after : Nat) (a : Word) (n : Nat)
    (v : Word) : Prop where
  bank : t.bank e b = ({ x.count.flush with load := none } : Bank).goOn (go.getD (nextPc s e b len))
  banks : ∀ g l, ¬(g = e ∧ l = b) → t.bank g l = s.bank g l
  next : t.eng[e].next = s.ticks + s.samples (1 + after + (dataStall s e a).1)
  stored : ∀ k, k < n → ∀ o, dataLoc s e b (dataAddr a n + k) = .ram o → t.byte o = if ctxZero o then s.byte o else byteOf v k
  bytes : ∀ o, (∀ k, k < n → dataLoc s e b (dataAddr a n + k) ≠ .ram o) → t.byte o = s.byte o
  regs : (∀ k, k < n → ∃ o, dataLoc s e b (dataAddr a n + k) = .ram o) →
    ∀ o, o ≠ feOff e FE.STAT → o ≠ feOff e FE.WRAPACT → t.rd o = s.rd o
  rest : (∀ k, k < n → ∃ o, dataLoc s e b (dataAddr a n + k) = .ram o) →
    t = { s with regs := t.regs, eng := t.eng, mem := t.mem, pram := t.pram }

/-- Instruction `i` of `len` parcels writes `f` of its bank to general register `rd`, and nothing else (R203). -/
def Computes (i : Instr) (e : Fin 8) (len : Nat) (rd : Fin 16) (f : Bank → Word) : Prop :=
  ∀ s b, Executes s e b i →
    Answers i s (fun t => Completed s t e b ((s.bank e b).put rd (f (s.bank e b))) len none none 0)

end Sys2Proof.Machine
end

