-- ==== Sys2Proof/Certificates/Slice0/Obligations.lean ====
section
/-! DEFINITION. The statements for the provers. Each docstring begins with the rules of the spec that it rests on, and ends with the
entries of the assumption log whose choices it rests on, if any. A clause that says that a command leaves the state as it is, because the
happening it stands for cannot occur there, rests on log entry 10. -/

open Sys2Proof Sys2Proof.Machine

/-! ## Engine instructions (chapter 08) -/

/-- R203, R217, R219, R220, R234: the operations on two general registers, of one parcel and of two.
The model's choices that it rests on: log entries 7, 51, 53. -/
def Obligations.RegisterOperations : Prop := ∀ (e : Fin 8) (rd rs rt : Fin 16) (l : Bool),
  let two (i : Instr) (f : Word → Word → Word) : Prop := Computes i e (if l then 2 else 1) rd (fun x => f (x.get rs) (x.get rt))
  let long (i : Instr) (f : Word → Word → Word) : Prop := Computes i e 2 rd (fun x => f (x.get rs) (x.get rt))
  two (.add e rd rs rt l) (· + ·) ∧ two (.sub e rd rs rt l) (· - ·) ∧ two (.and e rd rs rt l) (· &&& ·)
  ∧ two (.or e rd rs rt l) (· ||| ·) ∧ two (.xor e rd rs rt l) (· ^^^ ·)
  ∧ two (.slt e rd rs rt l) (fun x y => if x.toInt < y.toInt then 1 else 0)
  ∧ two (.sltu e rd rs rt l) (fun x y => if x.toNat < y.toNat then 1 else 0)
  ∧ two (.seq e rd rs rt l) (fun x y => if x = y then 1 else 0) ∧ two (.sne e rd rs rt l) (fun x y => if x = y then 0 else 1)
  ∧ two (.sbefore e rd rs rt l) (fun x y => if (x - y).toInt < 0 then 1 else 0)
  ∧ long (.tadd e rd rs rt) (· + ·)
  ∧ long (.min e rd rs rt) (fun x y => if x.toInt ≤ y.toInt then x else y)
  ∧ long (.max e rd rs rt) (fun x y => if x.toInt ≤ y.toInt then y else x)
  ∧ long (.minu e rd rs rt) (fun x y => if x.toNat ≤ y.toNat then x else y)
  ∧ long (.maxu e rd rs rt) (fun x y => if x.toNat ≤ y.toNat then y else x)
  ∧ long (.soadd e rd rs rt) (fun x y => if (x + y).toInt = x.toInt + y.toInt then 0 else 1)
  ∧ long (.sosub e rd rs rt) (fun x y => if (x - y).toInt = x.toInt - y.toInt then 0 else 1)
  ∧ long (.mul e rd rs rt) (· * ·)
  ∧ long (.mulh e rd rs rt) (fun x y => BitVec.ofInt 32 (x.toInt * y.toInt / 2 ^ 32))
  ∧ long (.mulhu e rd rs rt) (fun x y => BitVec.ofNat 32 (x.toNat * y.toNat / 2 ^ 32))
  ∧ Computes (.angadd e rd rs rt) e 2 rd (fun x => BitVec.ofInt 32 ((((x.get rs).toNat : Int) + (x.get rt).toInt) % (x.acyc.toNat : Int)))
  ∧ Computes (.angsub e rd rs rt) e 2 rd (fun x => BitVec.ofInt 32 ((((x.get rs).toNat : Int) - (x.get rt).toNat) % (x.acyc.toNat : Int)))

/-- R203, R205, R215, R217, R219, R220, R229: the operations on one general register, an immediate, an accumulator half or a
special register.
The model's choices that it rests on: log entries 7, 51, 53. -/
def Obligations.ImmediateAndUnaryOperations : Prop := ∀ (e : Fin 8) (rd rs : Fin 16) (i8 : BitVec 8) (i : BitVec 16) (a : Bool),
  let one (c : Instr) (len : Nat) (f : Word → Word) : Prop := Computes c e len rd (fun x => f (x.get rs))
  let self (c : Instr) (f : Word → Word) : Prop := Computes c e 1 rd (fun x => f (x.get rd))
  let s8 : Word := i8.signExtend 32
  let s16 : Word := i.signExtend 32
  let z16 : Word := i.zeroExtend 32
  one (.mov e rd rs) 1 (fun x => x) ∧ one (.neg e rd rs) 1 (fun x => -x) ∧ one (.not e rd rs) 1 (fun x => ~~~x)
  ∧ one (.soneg e rd rs) 2 (fun x => if x = BitVec.intMin 32 then 1 else 0)
  ∧ one (.clz e rd rs) 2 (fun x => if x = 0 then 32 else BitVec.ofNat 32 (31 - x.toNat.log2))
  ∧ self (.addi8 e rd i8) (· + s8) ∧ Computes (.li8 e rd i8) e 1 rd (fun _ => s8)
  ∧ Computes (.li e rd i) e 2 rd (fun _ => s16) ∧ Computes (.lui e rd i) e 2 rd (fun _ => i ++ (0 : BitVec 16))
  ∧ one (.addi e rd rs i) 2 (· + s16) ∧ one (.andi e rd rs i) 2 (· &&& z16) ∧ one (.ori e rd rs i) 2 (· ||| z16)
  ∧ one (.xori e rd rs i) 2 (· ^^^ z16)
  ∧ one (.slti e rd rs i) 2 (fun x => if x.toInt < s16.toInt then 1 else 0)
  ∧ one (.sltui e rd rs i) 2 (fun x => if x.toNat < s16.toNat then 1 else 0)
  ∧ one (.seqi e rd rs i) 2 (fun x => if x = s16 then 1 else 0) ∧ one (.snei e rd rs i) 2 (fun x => if x = s16 then 0 else 1)
  ∧ Computes (.rdal e rd a) e 2 rd (fun x => (if a then x.acc1 else x.acc0).extractLsb' 0 32)
  ∧ Computes (.rdah e rd a) e 2 rd (fun x => (if a then x.acc1 else x.acc0).extractLsb' 32 32)
  ∧ Computes (.mfs e rd 0) e 2 rd (fun x => x.sp.zeroExtend 32) ∧ Computes (.mfs e rd 1) e 2 rd (fun x => x.splim.zeroExtend 32)
  ∧ Computes (.mfs e rd 2) e 2 rd (fun x => x.rc.zeroExtend 32) ∧ Computes (.mfs e rd 3) e 2 rd (fun x => x.st)
  ∧ Computes (.mfs e rd 4) e 2 rd (fun x => x.acyc.zeroExtend 32) ∧ Computes (.mfs e rd 5) e 2 rd (fun x => x.pc.zeroExtend 32)

/-- R227: shifts and rotates. The amount is bits [5:0] of the register or immediate; SHL and SHR by 32 to 63 give 0, SAR by 32 to 63 gives 32
copies of bit 31, rotates take bits [4:0], and an amount of 0 leaves the value unchanged. -/
def Obligations.Shifts : Prop := ∀ (e : Fin 8) (rd rs rt : Fin 16) (k : BitVec 6) (l : Bool),
  let shl (x : Word) (n : Nat) : Word := if n = 0 then x else if 32 ≤ n then 0 else x <<< n
  let shr (x : Word) (n : Nat) : Word := if n = 0 then x else if 32 ≤ n then 0 else x >>> n
  let sar (x : Word) (n : Nat) : Word := if n = 0 then x else if 32 ≤ n then (if x.msb then BitVec.allOnes 32 else 0) else x.sshiftRight n
  let ror (x : Word) (n : Nat) : Word := if n % 32 = 0 then x else (x >>> (n % 32)) ||| (x <<< (32 - n % 32))
  let reg (c : Instr) (len : Nat) (f : Word → Nat → Word) : Prop :=
    Computes c e len rd (fun x => f (x.get rs) ((x.get rt).extractLsb' 0 6).toNat)
  let imm (c : Instr) (f : Word → Nat → Word) : Prop := Computes c e 1 rd (fun x => f (x.get rd) k.toNat)
  reg (.shl e rd rs rt l) (if l then 2 else 1) shl ∧ reg (.shr e rd rs rt l) (if l then 2 else 1) shr
  ∧ reg (.sar e rd rs rt l) (if l then 2 else 1) sar ∧ reg (.ror e rd rs rt) 2 ror
  ∧ imm (.shli e rd k) shl ∧ imm (.shri e rd k) shr ∧ imm (.sari e rd k) sar ∧ imm (.rori e rd k) ror

/-- R226, R228, R229: division, with its zero divisor and its overflow, and the sticky DZ; the accumulators, with the sticky AOV and SAT.
The model's choices that it rests on: log entries 7, 51. -/
def Obligations.DivisionAndAccumulators : Prop := ∀ (e : Fin 8) (a : Bool) (rd rs rt : Fin 16),
  let accOf (x : Bank) : BitVec 64 := if a then x.acc1 else x.acc0
  let withAcc (x : Bank) (v : BitVec 64) : Bank := if a then { x with acc1 := v } else { x with acc0 := v }
  let stick (x : Bank) (i : Nat) (c : Prop) [Decidable c] : Bank := { x with st := if c then setBit x.st i true else x.st }
  let does (i : Instr) (f : Bank → Bank) : Prop := ∀ s b, Executes s e b i → Answers i s (fun t =>
    Completed s t e b (f (s.bank e b)) 2 none none 0)
  let div (i : Instr) (f : Word → Word → Word) : Prop :=
    does i (fun x => (stick x 0 (x.get rt = 0)).put rd (f (x.get rs) (x.get rt)))
  let signed (x : Bank) (p : Int) : Bank :=
    let r := (accOf x).toInt + p
    stick (withAcc x (BitVec.ofInt 64 r)) 1 (r < -2 ^ 63 ∨ 2 ^ 63 ≤ r)
  div (.div e rd rs rt) (fun x y => if y = 0 then 0xFFFFFFFF else BitVec.ofInt 32 (x.toInt.tdiv y.toInt))
  ∧ div (.rem e rd rs rt) (fun x y => if y = 0 then x else BitVec.ofInt 32 (x.toInt.tmod y.toInt))
  ∧ div (.divu e rd rs rt) (fun x y => if y = 0 then 0xFFFFFFFF else BitVec.ofNat 32 (x.toNat / y.toNat))
  ∧ div (.remu e rd rs rt) (fun x y => if y = 0 then x else BitVec.ofNat 32 (x.toNat % y.toNat))
  ∧ does (.mac e a rs rt) (fun x => signed x ((x.get rs).toInt * (x.get rt).toInt))
  ∧ does (.msu e a rs rt) (fun x => signed x (-((x.get rs).toInt * (x.get rt).toInt)))
  ∧ does (.macu e a rs rt) (fun x =>
      let r := (accOf x).toNat + (x.get rs).toNat * (x.get rt).toNat
      stick (withAcc x (BitVec.ofNat 64 r)) 1 (2 ^ 64 ≤ r))
  ∧ does (.wra e a rs rt) (fun x => withAcc x (x.get rs ++ x.get rt))
  ∧ does (.shra e rd rt a) (fun x =>
      let v := (accOf x).toInt / 2 ^ ((x.get rt).toNat % 64)
      let r := max (-2 ^ 31) (min (2 ^ 31 - 1) v)
      (stick x 2 (r ≠ v)).put rd (BitVec.ofInt 32 r))

/-- R207, R209, R212: the loads. The value reaches its register after the delay slot; POP, LWSP and LWPI move their pointer.
The model's choices that it rests on: log entries 7, 51, 53. -/
def Obligations.Loads : Prop := ∀ (e : Fin 8) (rd rb : Fin 16) (u4 : BitVec 4) (u8 : BitVec 8) (i : BitVec 16),
  let loads (c : Instr) (len : Nat) (at' : Bank → Word) (n : Nat) (sx : Bool) (f : Bank → Bank) : Prop := ∀ s b, Executes s e b c →
    let a := at' (s.bank e b)
    let raw := dataLoad s e b a n
    let v := if sx then BitVec.signExtend 32 (raw.setWidth (8 * n)) else raw
    Answers c s (fun t => Completed (dataStall s e a).2 t e b (f (s.bank e b)) len (some (rd, v)) none (dataStall s e a).1)
  let base (x : Bank) : Word := x.get rb + i.signExtend 32
  loads (.lw e rd rb i) 2 base 4 false id ∧ loads (.lh e rd rb i) 2 base 2 true id ∧ loads (.lhu e rd rb i) 2 base 2 false id
  ∧ loads (.lb e rd rb i) 2 base 1 true id ∧ loads (.lbu e rd rb i) 2 base 1 false id
  ∧ loads (.lw4 e rd rb u4) 1 (fun x => x.get rb + 4 * u4.zeroExtend 32) 4 false id
  ∧ loads (.lwsp e rd u8) 1 (fun x => x.sp.zeroExtend 32 + 4 * u8.zeroExtend 32) 4 false id
  ∧ loads (.pop e rd) 1 (fun x => x.sp.zeroExtend 32) 4 false (fun x => { x with sp := x.sp + 4 })
  ∧ (rd ≠ rb → loads (.lwpi e rd rb i) 2 (fun x => x.get rb) 4 false (fun x => x.put rb (base x)))

/-- R207, R211: the stores: the bytes stored lie at the address that the operands give, aligned down to the width, and every other byte
of memory reads as before.
The model's choices that it rests on: log entries 7, 51, 53. -/
def Obligations.Stores : Prop := ∀ (e : Fin 8) (rs rb : Fin 16) (u4 : BitVec 4) (u8 : BitVec 8) (i : BitVec 16),
  let stores (c : Instr) (len : Nat) (at' : Bank → Word) (n : Nat) (f : Bank → Bank) : Prop := ∀ s b, Executes s e b c →
    Answers c s (fun t => Stored s t e b (f (s.bank e b)) len none 0 (at' (s.bank e b)) n ((s.bank e b).get rs))
  let base (x : Bank) : Word := x.get rb + i.signExtend 32
  stores (.sw e rs rb i) 2 base 4 id ∧ stores (.sh e rs rb i) 2 base 2 id ∧ stores (.sb e rs rb i) 2 base 1 id
  ∧ stores (.sw4 e rs rb u4) 1 (fun x => x.get rb + 4 * u4.zeroExtend 32) 4 id
  ∧ stores (.swsp e rs u8) 1 (fun x => x.sp.zeroExtend 32 + 4 * u8.zeroExtend 32) 4 id
  ∧ stores (.swpi e rs rb i) 2 (fun x => x.get rb) 4 (fun x => x.put rb (base x))

/-- R211, R212, R213, R224: the stack and the transfers of control: PUSH and the calls store below sp where the stack limit allows it, RET takes
its target from the stack, and a branch goes by its offset from its own first parcel, in 3 cycles when taken. A call redirects in its
tail.
The model's choices that it rests on: log entries 7, 51, 53. -/
def Obligations.StackAndTransfers : Prop := ∀ (e : Fin 8) (rs : Fin 16) (ofs tgt : BitVec 16) (l : Bool) (s : State) (b : Fin 4),
  let x := s.bank e b
  let len : Nat := if l then 2 else 1
  let room : Prop := x.splim = 0 ∨ x.splim.toNat + 4 ≤ x.sp.toNat
  let lower : Bank := { x with sp := x.sp - 4 }
  let calling : Bank := { lower with tail := some .redirect }
  let low : Word := (x.sp - 4).zeroExtend 32
  let back : Word := (x.pc + 2).zeroExtend 32
  let goes (i : Instr) (len : Nat) (taken : Prop) [Decidable taken] (dest : BitVec 16) : Prop := Executes s e b i →
    Answers i s (fun t => Completed s t e b x len none (if taken then some dest else none) (if taken then 2 else 0))
  goes (.bz e rs ofs l) len (x.get rs = 0) (x.pc + ofs) ∧ goes (.bnz e rs ofs l) len (x.get rs ≠ 0) (x.pc + ofs)
  ∧ goes (.br e ofs l) len True (x.pc + ofs) ∧ goes (.jr e rs) 2 True ((x.get rs).setWidth 16)
  ∧ (Executes s e b (.push e rs) → room → Answers (.push e rs) s (fun t => Stored s t e b lower 1 none 0 low 4 (x.get rs)))
  ∧ (Executes s e b (.call e tgt) → room → Answers (.call e tgt) s (fun t => Stored s t e b calling 2 (some tgt) 2 low 4 back))
  ∧ (Executes s e b (.callr e rs) → room →
      Answers (.callr e rs) s (fun t => Stored s t e b calling 2 (some ((x.get rs).setWidth 16)) 2 low 4 back))
  ∧ (Executes s e b (.ret e) → Answers (.ret e) s (fun t =>
      let a := x.sp.zeroExtend 32
      Completed (dataStall s e a).2 t e b { x with sp := x.sp + 4 } 1 none (some ((dataLoad s e b a 4).setWidth 16)) (2 + (dataStall s e a).1)))

/-- R230: MACD with different pointers: both operands are loaded, the signed product is accumulated with its sticky AOV, and both pointers go
on by the operand's size; the cycles are those of its two accesses, and one more where they do not lie in opposite halves. The second of
two reads in the parameter window has no other agent ahead of it.
The model's choices that it rests on: log entries 7, 51, 54. -/
def Obligations.MultiplyAccumulateDual : Prop := ∀ (e : Fin 8) (gx gy : Fin 16) (half a : Bool) (s : State) (b : Fin 4),
  Executes s e b (.macd e gx gy half a) → gx ≠ gy → Answers (.macd e gx gy half a) s (fun t =>
    let x := s.bank e b
    let n : Nat := if half then 2 else 4
    let val (p : Word) : Int := ((dataLoad s e b p n).setWidth (8 * n)).toInt
    let r : Int := (if a then x.acc1 else x.acc0).toInt + val (x.get gx) * val (x.get gy)
    let x1 : Bank := if a then { x with acc1 := BitVec.ofInt 64 r } else { x with acc0 := BitVec.ofInt 64 r }
    let x2 : Bank := { x1 with st := if r < -2 ^ 63 ∨ 2 ^ 63 ≤ r then setBit x.st 1 true else x.st }
    let p := dataStall s e (x.get gx)
    let q := if inParam (x.get gx) && inParam (x.get gy) then (1, p.2) else dataStall p.2 e (x.get gy)
    Completed q.2 t e b ((x2.put gx (x.get gx + BitVec.ofNat 32 n)).put gy (x.get gy + BitVec.ofNat 32 n)) 2 none none
      ((if opposite (x.get gx) (x.get gy) then 0 else 1) + p.1 + q.1))

/-- R231, R232, R233: REP and the REPI forms begin a repetition of the instruction that follows; a REPI with count 0 skips it. Before an
instruction that cannot be repeated they are illegal, which another statement covers. NOP completes and changes nothing else.
The model's choices that it rests on: log entries 7, 51, 53. -/
def Obligations.Repetition : Prop := ∀ (e : Fin 8) (n : Fin 16) (k : BitVec 16) (rs : Fin 16) (s : State) (b : Fin 4),
  let x := s.bank e b
  let rc (t : State) (len : Nat) (k : BitVec 16) : Prop :=
    t.bank e b = if k = 0 then { x.flush with rc := 0, pc := nextPc s e b len + BitVec.ofNat 16 (parcels (codeParcel s (nextPc s e b len))) }
      else { x.flush with rc := k, pc := nextPc s e b len, rep := some .repi }
  let quiet (t : State) : Prop := (∀ g l, ¬(g = e ∧ l = b) → t.bank g l = s.bank g l) ∧ (∀ o, t.byte o = s.byte o)
    ∧ t.withEng s.regs s.eng = s
  (Executes s e b (.nop e) → Answers (.nop e) s (fun t => Completed s t e b x 1 none none 0))
  ∧ (Executes s e b (.rep e n) → x.rep = none → unrepeatable (instrAt s e (nextPc s e b 1)) = false →
      Answers (.rep e n) s (fun t =>
        t.bank e b = { x.flush with pc := nextPc s e b 1, rep := some (.rep (n.val + 1) x.pc) } ∧ quiet t))
  ∧ (Executes s e b (.repi e k) → x.rep = none → unrepeatable (instrAt s e (nextPc s e b 2)) = false →
      Answers (.repi e k) s (fun t => rc t 2 k ∧ quiet t))
  ∧ (Executes s e b (.repir e rs) → x.rep = none → unrepeatable (instrAt s e (nextPc s e b 2)) = false →
      Answers (.repir e rs) s (fun t => rc t 2 ((x.get rs).setWidth 16) ∧ quiet t))

/-- R168, R199, R235: IN and OUT on the I/O space: the value of IN reaches its register after the delay slot, and an access of a register of
MW0 is served as a register access of this bank; a reserved address reads 0.
The model's choices that it rests on: log entries 12, 51. -/
def Obligations.InputOutput : Prop := ∀ (e : Fin 8) (r rb : Fin 16) (i : BitVec 16) (s : State) (b : Fin 4),
  let a : Word := (s.bank e b).get rb + i.zeroExtend 32
  let v : Word := (s.bank e b).get r
  (Executes s e b (.inp e r rb i) → feRun (ioRead s e b a).2 e = true → Answers (.inp e r rb i) s (fun t =>
      Completed (ioRead s e b a).2 t e b ((ioRead s e b a).2.bank e b) 2 (some (r, (ioRead s e b a).1)) none (ioStall e a)))
  ∧ (Executes s e b (.out e r rb i) → feRun (ioWrite s e b a v) e = true → Answers (.out e r rb i) s (fun t =>
      Completed (ioWrite s e b a v) t e b ((ioWrite s e b a v).bank e b) 2 none none (ioStall e a)))
  ∧ (∀ o, ioLoc s e b (a.toNat % 0x10000 / 4 * 4) = .mw0 o →
      ioRead s e b a = serveRead s (.bank e b) o ∧ ioWrite s e b a v = serveWrite s (.bank e b) o 15 v)
  ∧ (ioLoc s e b (a.toNat % 0x10000 / 4 * 4) = .reserved → ioRead s e b a = (0, s) ∧ ioWrite s e b a 0 = s)

/-- R170, R171, R176, R184, R224, R236, R237: DONE and YIELD at their commit: ENTRY, or the next parcel, and sp go to the thread's context, no
other byte of memory and no other bank changes, and the tail is still to run. The tail microwords of the instructions that have one: DONE and
YIELD release the bank with the load that was pending, and the thread's new state follows PEND and, after DONE, EN; BAR outside MASK brings its
result and goes on; a call has redirected.
The model's choices that it rests on: log entries 50, 51. -/
def Obligations.ThreadEnds : Prop := ∀ (e : Fin 8) (s : State) (b : Fin 4) (k : Fin 32) (rd : Fin 16) (v : Word),
  let x := s.bank e b
  let left (t : State) (w0 : BitVec 16) (z : RomTail) : Prop :=
    (t.memWord (ctxOff e k 0)).setWidth 16 = w0 ∧ t.memWord (ctxOff e k 1) = x.sp.zeroExtend 32
    ∧ (∀ o, o < ctxOff e k 0 ∨ ctxOff e k 0 + 8 ≤ o → t.byte o = s.byte o) ∧ t.bank e b = { x with tail := some z }
    ∧ (∀ g l, ¬(g = e ∧ l = b) → t.bank g l = s.bank g l) ∧ t.regs = s.regs
  let released (t : State) (st : Nat) : Prop :=
    t.bank e b = { x.flush with thread := none, wait := none, rep := none, tail := none, run := none } ∧ thState t e k = st
    ∧ (∀ g l, ¬(g = e ∧ l = b) → t.bank g l = s.bank g l) ∧ (∀ o, t.byte o = s.byte o)
  (x.thread = some k →
    (Executes s e b (.done e) → Answers (.done e) s (fun t => left t (BitVec.ofNat 16 (s.fl (thOff e k) 0 16)) .done))
    ∧ (Executes s e b (.yield e) → Answers (.yield e) s (fun t => left t (nextPc s e b 1) .yield)))
  ∧ (feRun s e = true →
    (x.thread = some k → x.tail = some .done →
      released (romTail s e b) (if !thEn s e k then TS.DISABLED else if thPend s e k then TS.READY else TS.IDLE))
    ∧ (x.thread = some k → x.tail = some .yield → released (romTail s e b) TS.READY)
    ∧ (x.tail = some (.result rd v) → Completed s (romTail s e b) e b (({ x with tail := none } : Bank).put rd v) 2 none none 0)
    ∧ (x.tail = some .redirect → romTail s e b = s.updBank e b (fun y => { y with tail := none })))

/-- R183: SIG, to any engine and thread, the sender among them: its SRQ, of class SIG with the sending engine as its source, reaches the
target's scheduler 2 cycles later; else it completes like any other instruction. -/
def Obligations.SignalSends : Prop := ∀ (e g : Fin 8) (th : Fin 32) (s : State) (b : Fin 4), Executes s e b (.sig e g th) →
  Answers (.sig e g th) s (fun t => ⟨s.ticks + s.samples 2, .srqArrival g th (.sig e)⟩ ∈ t.agenda
    ∧ Completed (s.after 2 (.srqArrival g th (.sig e))) t e b (s.bank e b) 2 none none 0)

/-- R184, R192, R205, R236: LWAIT and BAR complete at once or wait with their bank; MTS writes a special register, SPLIM also into the
stack-limit area.
The model's choices that it rests on: log entries 50, 51, 115. -/
def Obligations.WaitsAndSpecialRegisters : Prop :=
  ∀ (e : Fin 8) (rd rs lane : Fin 16) (c : Fin 4) (j : Fin 8) (k : Fin 32) (s : State) (b : Fin 4),
  let x := s.bank e b
  let v : Word := x.get rs
  let waits (t : State) (w : Wait) : Prop :=
    t.bank e b = { x with wait := some w, waitAt := s.ticks } ∧ thState t e k = TS.WAITING ∧ (∀ o, t.byte o = s.byte o)
  (Executes s e b (.lwait e rd lane c) → laneCond s lane c = true → Answers (.lwait e rd lane c) s (fun t =>
      Completed s t e b (x.put rd ((laneStat s lane &&& 0xFFFF))) 2 none none (if lane.val / 2 = e.val then 0 else 2)))
  ∧ (Executes s e b (.lwait e rd lane c) → laneCond s lane c = false → x.thread = some k →
      Answers (.lwait e rd lane c) s (fun t => waits t (.lane lane c rd)))
  ∧ (Executes s e b (.bar e rd j) → participates s j e = false → exec (.bar e rd j) s = .next (withTail s e b (.result rd 3)))
  ∧ (Executes s e b (.bar e rd j) → participates s j e = true → x.thread = some k →
      Answers (.bar e rd j) s (fun t => waits t (.bar j rd) ∧ t.bt (barOff j) (8 + e.val) = true))
  ∧ (Executes s e b (.mts e 0 rs) → Answers (.mts e 0 rs) s (fun t => Completed s t e b { x with sp := v.setWidth 16 } 2 none none 0))
  ∧ (Executes s e b (.mts e 1 rs) → x.thread = some k → Answers (.mts e 1 rs) s (fun t =>
      Completed (s.wr (splimOff e k) ((v.setWidth 16).setWidth 32)) t e b { x with splim := v.setWidth 16 } 2 none none 0))
  ∧ (Executes s e b (.mts e 2 rs) → Answers (.mts e 2 rs) s (fun t => Completed s t e b { x with rc := v.setWidth 16 } 2 none none 0))
  ∧ (Executes s e b (.mts e 3 rs) → v &&& 0xFFFFFFF8 = 0 → Answers (.mts e 3 rs) s (fun t =>
      Completed s t e b { x with st := v &&& 7 } 2 none none 0))
  ∧ (Executes s e b (.mts e 3 rs) → v &&& 0xFFFFFFF8 ≠ 0 → Answers (.mts e 3 rs) s (fun t =>
      (t.bank e b).st = v &&& 7 ∧ Raised t FS.RSVD_WRITE))
  ∧ (Executes s e b (.mts e 4 rs) → Answers (.mts e 4 rs) s (fun t => Completed s t e b { x with acyc := BitVec.ofNat 22 (max 4096 (min 2949120 (v.toNat % 2 ^ 22))) } 2 none none 0))

/-- R211, R212, R222, R230, R231, R232, R233: an illegal instruction and a stack fault end the thread: the event bit and the source of
this engine, EN, PEND and the state cleared, the faulting parcel and sp in the context, and the bank released.
The model's choices that it rests on: log entries 51, 54. -/
def Obligations.ThreadFaults : Prop := ∀ (e : Fin 8) (r p q : Fin 16) (i : BitVec 16) (n : Fin 16) (h a : Bool) (s : State) (b : Fin 4) (k : Fin 32),
  let x := s.bank e b
  let faults (c : Instr) (evt src : Nat) : Prop := Executes s e b c → Answers c s (fun t =>
    t.bt (feOff e FE.EVT) evt = true ∧ Raised t (src + e.val) ∧ t.bt (thOff e k) 18 = false ∧ thPend t e k = false
    ∧ thState t e k = TS.DISABLED ∧ (t.bank e b).thread = none
    ∧ (t.memWord (ctxOff e k 0)).setWidth 16 = faultParcel s e b ∧ t.memWord (ctxOff e k 1) = x.sp.zeroExtend 32)
  let full : Prop := x.splim ≠ 0 ∧ x.sp.toNat < x.splim.toNat + 4
  x.thread = some k →
    faults (.illegalInstruction e) 0 FS.FE_ILLEGAL ∧ faults (.macd e p p h a) 0 FS.FE_ILLEGAL ∧ faults (.lwpi e p p i) 0 FS.FE_ILLEGAL
    ∧ (unrepeatable (instrAt s e (nextPc s e b 1)) = true → faults (.rep e n) 0 FS.FE_ILLEGAL)
    ∧ (unrepeatable (instrAt s e (nextPc s e b 2)) = true → faults (.repi e i) 0 FS.FE_ILLEGAL ∧ faults (.repir e r) 0 FS.FE_ILLEGAL)
    ∧ (full → faults (.push e q) 2 FS.FE_STACK ∧ faults (.call e i) 2 FS.FE_STACK ∧ faults (.callr e r) 2 FS.FE_STACK)

/-- R173, R175, R240, R241, R248: every engine instruction passes one gate: on an engine that executes nothing, and in a tail, it has no
effect; what the decoder detects comes first, whether or not a patch is loaded; and where a loaded patch redirects its routine, the patched
routine runs to its commit microword and takes it.
The model's choices that it rests on: log entries 7, 10. -/
def Obligations.EngineInstructionGate : Prop := ∀ (i : Instr) (f : Fields), fields i = some f → ∃ e : Fin 8, ∀ s : State,
  (executing s e = none → exec i s = .next s)
  ∧ (∀ b, executing s e = some b → (s.bank e b).inTail = true → exec i s = .next s)
  ∧ (∀ b d, executing s e = some b → (s.bank e b).inTail = false → (s.bank e b).run = none → detect s e b i = some d →
      exec i s = .next (detected s e b d))
  ∧ (∀ b q, executing s e = some b → (s.bank e b).inTail = false → (s.bank e b).run = none → detect s e b i = none →
      redirected s e b i = some q →
      exec i s = .next (let p := toCommit e b 1032 q (clearTemps s e b); microRun p.1 p.2 e b))
  ∧ (∀ b q, executing s e = some b → (s.bank e b).inTail = false → (s.bank e b).run = some q →
      exec i s = .next (let p := toCommit e b 1032 q s; microRun p.1 p.2 e b))

/-! ## Clocks and the timebase (chapter 02) -/

/-- R31, R32, R34, R41: the end of a trim window writes TB_LSTEP and LTRIMOK and moves LCLK_TRIM one step toward nominal unless X32
disciplines LCLK; X32OK follows the crystal; the loss of lock raises its source, and TB turns to LCLK counting at the next LCLK edge, with the
fraction at 0; the loss of XIN unlocks a locked PLL in the next tick; a lock is shown and begins the return, which counts TBCLK again with the
fraction discarded. TB itself never jumps.
The model's choices that it rests on: log entries 10, 20, 21, 22. -/
def Obligations.ClocksAndCounting : Prop := ∀ (s : State) (counted : Nat),
  (s.bt R.CLK_CTRL 1 = true → s.bt R.CLK_STAT 1 = true → Answers (.ltrimWindowEnd counted) s (fun t =>
      t.rd R.TB_LSTEP = BitVec.ofNat 32 (counted * 64)
      ∧ (t.bt R.CLK_STAT 3 = true ↔ (counted ≤ 390625 ∧ (390625 - counted) * 1000 ≤ 390625) ∨ (390625 ≤ counted ∧ (counted - 390625) * 1000 ≤ 390625))
      ∧ (let old := sext 9 (s.fl R.LCLK_TRIM 0 9)
         let new := sext 9 (t.fl R.LCLK_TRIM 0 9)
         if s.bt R.CLK_STAT 2 then new = old
         else if 390625 < counted then new = min 255 (old + 1) else if counted < 390625 then new = max (-256) (old - 1) else new = old)
      ∧ t.tb = s.tb))
  ∧ (s.bt R.CLK_CTRL 0 = true → Answers .x32Lock s (fun t => t.bt R.CLK_STAT 2 = true ∧ t.tb = s.tb))
  ∧ Answers .x32Stop s (fun t => t.bt R.CLK_STAT 2 = false ∧ t.tb = s.tb)
  ∧ Answers .pllUnlock s (fun t => t.bt R.CLK_STAT 0 = false ∧ t.tb.tb = s.tb.tb
      ∧ (s.tbclk = true → t.tbclk = true ∧ t.tb.dropping = true ∧ t.bt (fsrcStat FS.PLL_UNLOCK) 17 = true)
      ∧ (s.tbclk = false → t.tb.returnIn = none))
  ∧ ((startLclk s).fl R.CLK_STAT 4 2 = 1 ∧ (startLclk s).tb.frac = 0 ∧ (startLclk s).tb.dropping = false ∧ (startLclk s).tb.tb = s.tb.tb)
  ∧ Answers .xinLoss s (fun t => t.bt R.CLK_STAT 1 = false ∧ t.bt (fsrcStat FS.XIN_LOSS) 17 = true ∧ t.tb = s.tb
      ∧ (s.bt R.CLK_STAT 0 = true → ⟨s.ticks + s.samples 1, .pllUnlock⟩ ∈ t.agenda))
  ∧ (pllOn s = true → Answers .pllLock s (fun t => t.bt R.CLK_STAT 0 = true ∧ t.tb.tb = s.tb.tb
      ∧ (s.tbclk = false → t.tb.returnIn = some 3)))
  ∧ (s.bt R.CLK_STAT 0 = true → s.tbclk = false → Answers .tbclkCountingReturn s (fun t => t.tbclk = true ∧ t.bt R.CLK_STAT 6 = false
      ∧ t.tb.frac = 0 ∧ t.tb.tb = s.tb.tb ∧ t.bt (fsrcStat FS.PLL_UNLOCK) 17 = false))

/-- R44, R45, R46: a step and a FOFS clear act in the next tick while timing is idle and are refused otherwise; a slew adjustment moves effective
time by one fine step; and TB_SLEW takes a write unless the peer link owns it.
The model's choices that it rests on: log entries 13, 25. -/
def Obligations.TimebaseSteering : Prop := ∀ (s : State) (a : Agent) (v : Word),
  (timingIdle s = true → Answers (.tbStep a) s (fun t => t = { s with tb := { s.tb with stepNext := true } }))
  ∧ (timingIdle s = true → Answers (.fofsclr a) s (fun t => t = { s with tb := { s.tb with fofsNext := true } }))
  ∧ (timingIdle s = false → ∀ c, c = .tbStep a ∨ c = .fofsclr a → Answers c s (fun t =>
      t.tb = s.tb ∧ t.bt R.TB_STAT 1 = true ∧ Raised t FS.TB_STEP_REFUSED))
  ∧ (s.tb.tb.toNat + 2 < 2 ^ 64 → s.fl R.TB_SLEW 0 2 = 1 → Answers .slewAdjust s (fun t => t.eff = s.eff + 33))
  ∧ (s.fl R.TB_SLEW 0 2 = 2 → s.tb.tb.toNat + 1 < 2 ^ 64 → Answers .slewAdjust s (fun t => t.eff = s.eff + 31))
  ∧ (s.bt R.TB_SLEW 3 = false → Answers (.tbSlewWrite a v) s (fun t => t.rd R.TB_SLEW = v &&& 0x0FFFFFF3
      ∧ ((fld (s.rd R.TB_SLEW) 0 2 ≠ fld v 0 2 ∨ fld (s.rd R.TB_SLEW) 4 24 ≠ fld v 4 24) → t.tb.slewCnt = 0)
      ∧ (v &&& 0xF000000C ≠ 0 ∨ fld v 0 2 = 3 → Raised t FS.RSVD_WRITE)))
  ∧ (s.bt R.TB_SLEW 3 = true → Answers (.tbSlewWrite a v) s (fun t => t.rd R.TB_SLEW = s.rd R.TB_SLEW))

/-- R47, R48, R376: a new level of SYNC_IN, with its bank present: without a filter it is accepted in its tick, and with FILT the filter holds
it for FILT ticks; a level that returns within them is dropped. An accepted edge that EDGE selects counts, and is timestamped in effective time
unless it follows the last timestamped one within 40 ns. A pulse of `held` samples sends its return.
The model's choices that it rests on: log entries 10, 24. -/
def Obligations.SyncInput : Prop := ∀ (s : State) (level : Bool) (fine : BitVec 5) (held time real : Nat),
  let ctrl := s.rd R.SYNCIN_CTRL
  let filt := fld ctrl 8 8
  let accepted (t : State) : Prop :=
    t.bt R.SYNCIN_STAT 22 = level ∧ t.fl R.SYNCIN_STAT 0 16 = (s.fl R.SYNCIN_STAT 0 16 + 1) % 65536 ∧ t.tb.syncFilt = none
    ∧ ((∀ p, s.tb.syncPrev = some p → p + 16 * 32 ≤ real) →
        t.rd R.SYNCIN_TS_LO = BitVec.ofNat 32 (time / 32) ∧ t.rd R.SYNCIN_TS_HI = BitVec.ofNat 32 (time / 2 ^ 37)
        ∧ t.fl R.SYNCIN_STAT 16 5 = time % 32 ∧ t.tb.syncPrev = some real ∧ t.tb.syncUnread = true
        ∧ (∀ p, s.tb.syncPrev = some p →
            t.rd R.SYNCIN_PERIOD = BitVec.ofNat 32 (min 0xFFFFFFFF ((real + s.fofs) / 32 - (p + s.fofs) / 32)))
        ∧ (s.tb.syncUnread = true → t.bt R.SYNCIN_STAT 21 = true))
    ∧ (∀ p, s.tb.syncPrev = some p → real < p + 16 * 32 →
        t.rd R.SYNCIN_TS_LO = s.rd R.SYNCIN_TS_LO ∧ t.tb.syncPrev = s.tb.syncPrev ∧ t.tb.syncUnread = s.tb.syncUnread)
  let returns (t : State) : Prop := held ≠ 0 → ⟨s.ticks + s.samples held, .syncInEdge (!level) 0 0⟩ ∈ t.agenda
  let selected : Prop := bit ctrl 0 = true ∧ (fld ctrl 1 2 = 0 ∧ level = true ∨ fld ctrl 1 2 = 1 ∧ level = false ∨ fld ctrl 1 2 = 2)
  (s.bt R.PWR_STAT 10 = true → sampleWaits s = false → s.tb.syncPin ≠ level →
    (s.bt R.SYNCIN_STAT 22 ≠ level → filt = 0 → selected → (time, real) = edgeTimes s fine →
        Answers (.syncInEdge level fine held) s (fun t => accepted t ∧ returns t))
    ∧ (s.bt R.SYNCIN_STAT 22 ≠ level → filt ≠ 0 → Answers (.syncInEdge level fine held) s (fun t =>
        t.regs = s.regs ∧ t.tb = { s.tb with syncPin := level, syncFilt := some (level, edgeTimes s fine) } ∧ returns t
        ∧ (s.ticks + s.samples filt, .syncFilter) ∈ t.later))
    ∧ (s.bt R.SYNCIN_STAT 22 = level → Answers (.syncInEdge level fine held) s (fun t =>
        t.regs = s.regs ∧ t.tb = { s.tb with syncPin := level, syncFilt := none } ∧ returns t)))
  ∧ (s.tb.syncFilt = some (level, time, real) → selected → accepted (syncFilterEnds s))

/-- R49, R50, R51: EN starts the train at START, or keeps its phase past it with SKIP; an active edge counts its pulse and drives the pin
for WIDTH; a pulse's end returns the pin to its inactive level, and so does, in the next tick, the end of the train by EN.
The model's choices that it rests on: log entries 10, 13, 26. -/
def Obligations.SyncOutput : Prop := ∀ (s : State),
  let start := (s.rd R.SYNCOUT_START_HI).toNat * 2 ^ 32 + (s.rd R.SYNCOUT_START_LO).toNat
  let p := (s.rd R.SYNCOUT_PERIOD).toNat
  let now := s.tb.tb.toNat
  let width := if p = 0 then (s.rd R.SYNCOUT_WIDTH).toNat else min (s.rd R.SYNCOUT_WIDTH).toNat (p - 1)
  (s.bt R.SYNCOUT_CTRL 0 = false → Answers .syncoutEnable s (fun t =>
      t.bt R.SYNCOUT_CTRL 0 = true ∧ t.tb.soRun = true ∧ t.fl R.SYNCOUT_STAT 0 16 = 0
      ∧ (now < start → t.tb.soStart = start ∧ t.tb.soK = 0)
      ∧ (start ≤ now → p = 0 → t.tb.soSoon = some (s.ticks + s.samples 1))
      ∧ (start ≤ now → p ≠ 0 → t.tb.soStart + t.tb.soK * p = start + ((now - start) / p + 1) * p ∧ t.bt R.SYNCOUT_STAT 17 = true)))
  ∧ (s.tb.soRun = true → (s.tb.soSoon = none ∧ s.tb.soStart + s.tb.soK * s.tb.soPeriod ≤ now ∨ ∃ k, s.tb.soSoon = some k ∧ k ≤ s.ticks) →
      (s.fl R.SYNCOUT_COUNT 0 16 = 0 ∨ s.fl R.SYNCOUT_STAT 0 16 < s.fl R.SYNCOUT_COUNT 0 16) → 0 < width →
      Answers .syncoutActiveEdge s (fun t =>
        t.fl R.SYNCOUT_STAT 0 16 = min 65535 (s.fl R.SYNCOUT_STAT 0 16 + 1) ∧ t.bt R.SYNCOUT_STAT 16 = true
        ∧ t.tb.soEnd = some (now + width) ∧ t.tb.soRun = decide (p ≠ 0) ∧ t.tb.tb = s.tb.tb))
  ∧ ((∃ e, s.tb.soEnd = some e ∧ e ≤ now) → Answers .syncoutPulseEnd s (fun t =>
      t.bt R.SYNCOUT_STAT 16 = false ∧ t.tb.soEnd = none
      ∧ (s.fl R.SYNCOUT_COUNT 0 16 ≠ 0 → s.fl R.SYNCOUT_COUNT 0 16 ≤ s.fl R.SYNCOUT_STAT 0 16 → t.tb.soRun = false)))
  ∧ (s.bt R.SYNCOUT_CTRL 0 = true → Answers .syncoutDisable s (fun t =>
      t.bt R.SYNCOUT_CTRL 0 = false ∧ t.tb.soRun = false ∧ t.tb.soEnd = none ∧ (s.ticks + s.samples 1, .soOff) ∈ t.later))
  ∧ (s.tb.soEnd = none → (soOff s).bt R.SYNCOUT_STAT 16 = false)

/-- R52, R54: a write of CLK_FRZm holds its word and dates the freeze or release of every channel whose engine is halted two ticks
ahead; a freeze holds the channel, and a release lets it go: a member of a stopped group takes its group's count.
The model's choices that it rests on: log entries 10, 27, 36. -/
def Obligations.DebugFreeze : Prop := ∀ (s : State) (a : Agent) (m : Fin 3) (v : Word) (n : Fin 96),
  Answers (.clkFrzWrite a m v) s (fun t => t = { s with regs := t.regs, agenda := t.agenda }
    ∧ (∀ o, t.rd o = if o = R.CLK_FRZ0 + 4 * m.val then v else s.rd o)
    ∧ ∀ (k : Fin 32) (c : Fin 96), c.val = 32 * m.val + k.val → engineHalted s c = true →
        (bit v k.val = true → s.ch[c].frozen = false → ⟨s.ticks + s.samples 2, .channelFreeze c⟩ ∈ t.agenda)
        ∧ (bit v k.val = false → s.ch[c].frozen = true → ⟨s.ticks + s.samples 2, .channelRelease c⟩ ∈ t.agenda))
  ∧ Answers (.channelFreeze n) s (fun t => t = { s with ch := t.ch } ∧ t.ch[n] = { s.ch[n] with frozen := true }
      ∧ ∀ c, c ≠ n → t.ch[c] = s.ch[c])
  ∧ Answers (.channelRelease n) s (fun t => t.ch[n].frozen = false
      ∧ ((∀ g, follows s n = some g → chEn s n = true → s.ch[n].run = true → s.pg[g].run = true) → t.regs = s.regs)
      ∧ (∀ g, follows s n = some g → chEn s n = true → s.ch[n].run = true → s.pg[g].run = false →
          t.rd (chOff n CH.CNT) = BitVec.ofNat 32 (memberCount s g n).1 ∧ t.ch[n].down = (memberCount s g n).2)
      ∧ (t.ch[n].padDrv, t.ch[n].padLvl) = padOf (s.updCh n (fun c => { c with frozen := false })) n
      ∧ ∀ c, c ≠ n → t.ch[c] = s.ch[c])

/-! ## Timer channels (chapter 03) -/

/-- R58: one advance of a counter, in up, down and up-down mode, of which only the last moves the direction. -/
def Obligations.CounterAdvance : Prop := ∀ (cnt p : Nat) (down : Bool), cnt < 2 ^ 32 → p < 2 ^ 32 →
  (cnt < p → countStep 0 cnt p down = ⟨cnt + 1, down, false, false, false, false⟩)
  ∧ (p ≤ cnt → countStep 0 cnt p down = ⟨0, down, true, decide (p < cnt), false, false⟩)
  ∧ (0 < cnt → countStep 1 cnt p down = ⟨cnt - 1, down, false, false, false, false⟩)
  ∧ countStep 1 0 p down = ⟨p, down, true, false, false, false⟩
  ∧ (cnt + 1 < p → countStep 2 cnt p false = ⟨cnt + 1, false, false, false, false, false⟩)
  ∧ (0 < p → cnt + 1 = p → countStep 2 cnt p false = ⟨p, true, false, false, true, false⟩)
  ∧ (0 < p → p < cnt → countStep 2 cnt p false = ⟨cnt - 1, true, false, false, true, true⟩)
  ∧ countStep 2 cnt 0 down = ⟨0, false, true, false, false, false⟩
  ∧ (1 < cnt → 0 < p → countStep 2 cnt p true = ⟨cnt - 1, true, false, false, false, false⟩)
  ∧ (0 < p → countStep 2 1 p true = ⟨0, false, true, false, false, false⟩)
  ∧ ((countStep 0 cnt p down).cnt ≤ max p cnt ∧ (countStep 1 cnt p down).cnt ≤ max p cnt)

/-- R57, R58, R59, R60: the advance of a counter that ends in a boundary, or reverses at its peak, and the advance of a cascaded counter: the count
and the direction are those of one advance, a boundary raises BOUND and counts EPOCH once in a tick, SHORT marks a count beyond the
period, and a boundary moves the cascaded channel above in the same tick inside a Flight.
The model's choices that it rests on: log entries 10, 34, 35. -/
def Obligations.ChannelCounting : Prop := ∀ (s : State) (n : Fin 96) (a : Advance), chAdvance s n = some a →
  let moved (t : State) : Prop := t.rd (chOff n CH.CNT) = BitVec.ofNat 32 a.cnt ∧ t.ch[n].down = a.down ∧ t.ch[n].took = s.now
    ∧ (a.boundShort = true ∨ a.peakShort = true → t.bt (chOff n CH.EVT) 5 = true)
    ∧ (∀ m, m ≠ n → t.ch[m] = s.ch[m]) ∧ t.mem = s.mem
  let bounded (t : State) : Prop := t.bt (chOff n CH.EVT) 4 = true ∧ t.ch[n].xferAt = s.now
    ∧ t.fl (chOff n CH.EPOCH) 0 8 = (s.fl (chOff n CH.EPOCH) 0 8 + 1) % 256
    ∧ (∀ k : Fin 96, k.val = n.val + 1 → cntMode s k = 5 → n.val % 12 ≠ 11 → ⟨s.ticks, .cascadeAdvance k⟩ ∈ t.agenda)
  (a.bound = true → s.ch[n].xferAt ≠ s.now → Answers (.counterBoundary n) s (fun t => moved t ∧ bounded t))
  ∧ (a.peak = true → a.bound = false → Answers (.counterPeak n) s moved)
  ∧ (cntMode s n = 5 → s.ch[n].cntSet ≠ s.now → Answers (.cascadeAdvance n) s moved)

/-- R62, R63, R82: a compare match raises the event of its letter; its action decides the channel's level unless a higher letter has acted
in this tick, and an action of the queue in this tick discards it with COLL.
The model's choices that it rests on: log entries 10, 13. -/
def Obligations.CompareActions : Prop := ∀ (s : State) (n : Fin 96) (k : Fin 4),
  let act := fld (s.rd (chOff n CH.OUTCFG)) (2 + 2 * k.val) 2
  chEn s n = true → s.ch[n].frozen = false → Answers (.compareMatch n k) s (fun t =>
    t.bt (chOff n CH.EVT) k.val = true
    ∧ (act = 0 → t.ch = s.ch)
    ∧ (act ≠ 0 → s.ch[n].aqPinAt = s.now → t.bt (chOff n CH.EVT) 10 = true ∧ t.ch = s.ch)
    ∧ (act ≠ 0 → s.ch[n].aqPinAt ≠ s.now → s.ch[n].cmpPinAt = s.now → k.val < s.ch[n].cmpLetter → t.ch = s.ch)
    ∧ (act ≠ 0 → s.ch[n].aqPinAt ≠ s.now → ¬(s.ch[n].cmpPinAt = s.now ∧ k.val < s.ch[n].cmpLetter) →
        t.ch[n].dec = (match act with | 1 => true | 2 => false | _ => !s.ch[n].dec)
        ∧ t.ch[n].cmpPinAt = s.now ∧ t.ch[n].cmpLetter = k.val))

/-- R39, R57, R69, R70, R71, R72, R376, R434: the input path: a sampled change of an enabled channel starts its glitch filter of FILT ticks; one that lasts
becomes LEVEL, counts in EDGECNT and is captured 3 ticks later where CAPCFG selects it, one that does not counts in FILTCNT; a capture
loads CAPA, CAPB and CAPINFO and enters the FIFO behind the pops of its tick, where a full FIFO drops the oldest or the new entry by
FIFOPOL, and one within 16 ticks of the last only raises CLOSE. A level that the pin's own driver makes is sampled too, both pads' delay
(32 to 64 fine units) after its physical place and at most 2 ticks after the tick of that; under LCLK counting it falls at an LCLK edge. The pin
of a bank that is absent is not sampled.
The model's choices that it rests on: log entries 10, 17, 20, 32. -/
def Obligations.ChannelInput : Prop := ∀ (s : State) (n : Fin 96) (level : Bool) (fine : BitVec 5),
  let filt := s.samples (s.wasFl (chOff n CH.CAPCFG) 8 8)
  let edge := s.wasFl (chOff n CH.CAPCFG) 0 2
  let picks (l : Bool) : Prop := edge = 2 ∨ (edge = 0 ∧ l = true) ∨ (edge = 1 ∧ l = false)
  let seen : Prop := pinUsable s n = true ∧ sampleWaits s = false ∧ s.ch[n].pin ≠ level
  (seen → chEn s n = true → s.ch[n].filt = none → s.ch[n].level ≠ level →
    Answers (.inputEdgeSampled n level fine) s (fun t => t.ch[n].pin = level ∧ t.ch[n].level = s.ch[n].level
      ∧ (∃ e, t.ch[n].filt = some e ∧ e.level = level) ∧ ⟨s.ticks + filt, .glitchFilterExpiry n⟩ ∈ t.agenda))
  ∧ (seen → chEn s n = true → s.ch[n].filt.isSome = true → Answers (.inputEdgeSampled n level fine) s (fun t =>
      t.ch[n].pin = level ∧ t.ch[n].level = s.ch[n].level ∧ ⟨s.ticks, .glitchFilterExpiry n⟩ ∈ t.agenda))
  ∧ (seen → chEn s n = false → Answers (.inputEdgeSampled n level fine) s (fun t =>
      t.ch[n].pin = level ∧ t.ch[n].level = level))
  ∧ (∀ e, s.ch[n].filt = some e → s.ch[n].pin = e.level → Answers (.glitchFilterExpiry n) s (fun t =>
      t.ch[n].level = e.level ∧ t.ch[n].filt = none ∧ t.rd (chOff n CH.EDGECNT) = s.rd (chOff n CH.EDGECNT) + 1
      ∧ (picks e.level → t.ch[n].caps = s.ch[n].caps ++ [e] ∧ ⟨s.ticks + s.samples 3, .capture n⟩ ∈ t.agenda)))
  ∧ (∀ e, s.ch[n].filt = some e → s.ch[n].pin ≠ e.level → Answers (.glitchFilterExpiry n) s (fun t =>
      t.fl (chOff n CH.FILTCNT) 0 16 = min 65535 (s.fl (chOff n CH.FILTCNT) 0 16 + 1) ∧ t.ch[n].level = s.ch[n].level
      ∧ t.ch[n].filt = none))
  ∧ (∀ e rest, s.ch[n].caps = e :: rest →
      let time := e.coarse.toNat * 32 + e.fine
      let close : Prop := s.tbclk = true ∧ ∃ l, s.ch[n].lastTs = some l ∧ e.real < l + 16 * 32
      (close → Answers (.capture n) s (fun t => t.bt (chOff n CH.EVT) 11 = true ∧ t.rd (chOff n CH.CAPA) = s.rd (chOff n CH.CAPA)
        ∧ t.ch[n].fifo = s.ch[n].fifo))
      ∧ (¬close → Answers (.capture n) s (fun t => t.rd (chOff n CH.CAPA) = BitVec.ofNat 32 (time / 32) ∧ t.rd (chOff n CH.CAPB) = e.count
        ∧ t.fl (chOff n CH.CAPINFO) 0 5 = time % 32 ∧ t.bt (chOff n CH.CAPINFO) 8 = e.level
        ∧ t.fl (chOff n CH.CAPINFO) 16 16 = (s.fl (chOff n CH.CAPINFO) 16 16 + 1) % 65536
        ∧ t.bt (chOff n CH.EVT) 6 = true ∧ t.ch[n].lastTs = some e.real
        ∧ (s.ticks, Later.fifoPush n ⟨BitVec.ofNat 32 (time / 32), time % 32, e.level, e.count.toNat % 65536⟩) ∈ t.later)))
  ∧ (∀ f, s.ch[n].fifo.length < 8 → fifoPush s n f = s.updCh n (fun c => { c with fifo := s.ch[n].fifo ++ [f] }))
  ∧ (∀ f, 8 ≤ s.ch[n].fifo.length → (fifoPush s n f).bt (chOff n CH.EVT) 7 = true
      ∧ (fifoPush s n f).fl (chOff n CH.FIFOSTAT) 8 8 = min 255 (s.fl (chOff n CH.FIFOSTAT) 8 8 + 1)
      ∧ (fifoPush s n f).ch[n].fifo = (if s.bt (chOff n CH.CAPCFG) 16 then s.ch[n].fifo.tail ++ [f] else s.ch[n].fifo))
  ∧ (∀ l cause at_ dt, pinUsable s n = true → padOf s n = (true, l) → (s.ch[n].padDrv, s.ch[n].padLvl) ≠ (true, l) →
      let place := (s.ticks + dt) * 32 + (if s.tbclk then at_ else s.fofs) - s.fofs
      (updPad s n cause at_ dt).ch[n].padDrv = true ∧ (updPad s n cause at_ dt).ch[n].padLvl = l ∧ (updPad s n cause at_ dt).ch[n].padAt = place
      ∧ ∃ d, 32 ≤ d ∧ d ≤ 64 ∧
        let u := min (place + d) ((place / 32 + 2) * 32)
        (s.tbclk = true → ⟨s.ticks + ((u + 31) / 32 - s.ticks), .inputEdgeSampled n l (BitVec.ofNat 5 (u % 32))⟩ ∈ (updPad s n cause at_ dt).agenda)
        ∧ (s.tbclk = false → ∃ j, ⟨s.ticks + (s.edgeTick (j + 1) - s.ticks), .inputEdgeSampled n l 0⟩ ∈ (updPad s n cause at_ dt).agenda))

/-- R74, R75, R76: a write of CHn_AQ_T stages a target for its agent; a write of CHn_AQ_A offers the entry, which goes into the queue of an
enabled channel behind every entry that does not fire after it, in the place of its own entry of the same tag, or is refused with
AQREF: by a disabled channel, a reserved code, a frozen entry or a queue of 8.
The model's choices that it rests on: log entries 10, 13. -/
def Obligations.ActionQueueOffer : Prop := ∀ (s : State) (a : Agent) (n : Fin 96) (v : Word),
  let e := aqEntryOf a (s.lat? a (chOff n CH.AQ_T)) v
  let same (x : AqEntry) : Bool := x.tagv && x.origin == a && x.tag == e.tag
  let refused : Prop := Answers (.aqOffer a n v) s (fun t => t.ch = s.ch ∧ t.bt (chOff n CH.EVT) 9 = true ∧ Raised t FS.AQ_REFUSED)
  let absorbed : Prop := e.tagv = true ∧ s.ch[n].firedAt = s.now ∧ ∃ x, s.ch[n].fired = some x ∧ same x = true
  let named : Prop := e.tagv = true ∧ s.ch[n].aq.any same = true
  Answers (.aqTWrite a n v) s (fun t => t.lat? a (chOff n CH.AQ_T) = v ∧ t = { s with lat := t.lat })
  ∧ (chEn s n = true → e.act < 10 → ¬absorbed → ¬named → s.ch[n].aq.length < 8 → Answers (.aqOffer a n v) s (fun t =>
      t.ch[n] = { s.ch[n] with aq := aqInsert s.near e s.ch[n].aq } ∧ t.regs = s.regs ∧ ∀ m, m ≠ n → t.ch[m] = s.ch[m]))
  ∧ (chEn s n = true → e.act < 10 → ¬absorbed → named → s.ch[n].aq.any (fun x => same x && x.frz) = false →
      Answers (.aqOffer a n v) s (fun t =>
        t.ch[n] = { s.ch[n] with aq := aqInsert s.near e (s.ch[n].aq.filter (fun x => !same x)) } ∧ t.regs = s.regs
        ∧ ∀ m, m ≠ n → t.ch[m] = s.ch[m]))
  ∧ (chEn s n = true → e.act < 10 → absorbed → Answers (.aqOffer a n v) s (fun t => t = s))
  ∧ (chEn s n = false → refused) ∧ (10 ≤ e.act → refused)
  ∧ (¬absorbed → named → s.ch[n].aq.any (fun x => same x && x.frz) = true → refused)
  ∧ (¬absorbed → ¬named → 8 ≤ s.ch[n].aq.length → refused)

/-- R77, R78, R79, R80: the head of a queue fires when its target is reached, and only it: it leaves the queue, its action acts, a target passed
shows LATE, and the last one dates AQEMPTY one tick ahead; FLUSH discards every entry without any of this.
The model's choices that it rests on: log entries 10, 31. -/
def Obligations.ActionQueueFire : Prop := ∀ (s : State) (a : Agent) (n : Fin 96),
  (∀ e q, s.ch[n].aq = e :: q → s.ch[n].frozen = false → (e.coarse = s.near ∨ (e.coarse - s.near).toInt < 0) →
    Answers (.aqFire n) s (fun t =>
      t.ch[n].aq = q ∧ t.ch[n].firedAt = s.now ∧ t.ch[n].fired = some e
      ∧ (e.coarse ≠ s.near → t.bt (chOff n CH.EVT) 12 = true)
      ∧ (e.act = 1 → t.ch[n].dec = true) ∧ (e.act = 2 → t.ch[n].dec = false) ∧ (e.act = 3 → t.ch[n].dec = !s.ch[n].dec)
      ∧ (e.act = 4 → t.bt (chOff n CH.OUTCFG) 0 = false) ∧ (e.act = 5 → t.bt (chOff n CH.OUTCFG) 0 = true)
      ∧ (q = [] → (s.ticks + s.samples 1, Later.chEvt n 8) ∈ t.later)))
  ∧ (s.ch[n].aq = [] → Answers (.aqFire n) s (fun t => t = s))
  ∧ Answers (.flush a n) s (fun t => t.ch[n] = { s.ch[n] with aq := [] } ∧ (∀ m, m ≠ n → t.ch[m] = s.ch[m])
      ∧ t.rd (chOff n CH.EVT) = s.rd (chOff n CH.EVT) ∧ t.later = s.later)

/-- R66, R67, R68, R83, R87: the commands and writes of a channel: EN starts it with its filtered level at the pin's, or stops it with its queue
flushed and its level at IDLE, which a pair with dead time reaches later; START, STOP and FIFOCLR; a count written acts in the next tick unless the channel follows a group; and a
shadow takes its value at once, the active register only in immediate mode.
The model's choices that it rests on: log entries 10, 13, 37. -/
def Obligations.ChannelCommands : Prop := ∀ (s : State) (a : Agent) (n : Fin 96) (r : Shadow) (v : Word),
  let o := match r with | .period => CH.PERIOD | .cmp k => CH.CMPA + 4 * k.val | .cmpFine => CH.CMPFINE
  let w : Word := match r with | .cmpFine => v &&& 0x1F1F1F1F | _ => v
  (chEn s n = false → Answers (.channelEnable a n) s (fun t => chEn t n = true ∧ t.ch[n].run = true ∧ t.ch[n].level = s.ch[n].pin
      ∧ t.ch[n].filt = none ∧ t.rd (chOff n CH.CNT) = s.rd (chOff n CH.CNT)))
  ∧ Answers (.channelDisable a n) s (fun t => chEn t n = false ∧ t.ch[n].run = false ∧ t.ch[n].aq = []
      ∧ t.ch[n].filt = none ∧ t.ch[n].caps = [] ∧ t.ch[n].dec = s.bt (chOff n CH.OUTCFG) 1 ∧ t.rd (chOff n CH.CNT) = s.rd (chOff n CH.CNT)
      ∧ (s.ch[n].riseAt = none → s.bt (chOff n CH.OUTCFG) 1 = false ∨ (dtMinpw s n).1 = 0 →
          t.ch[n].out = s.bt (chOff n CH.OUTCFG) 1))
  ∧ (chEn s n = true → Answers (.chStart a n) s (fun t => t = s.updCh n (fun c => { c with run := true })))
  ∧ Answers (.chStop a n) s (fun t => t = s.updCh n (fun c => { c with run := false }))
  ∧ Answers (.fifoclr a n) s (fun t => t = s.updCh n (fun c => { c with fifo := [] }))
  ∧ (cntMode s n ≠ 4 → Answers (.cntWrite a n v) s (fun t => t = s.updCh n (fun c => { c with cntWr := some v })))
  ∧ (cntMode s n = 4 → Answers (.cntWrite a n v) s (fun t => t = s))
  ∧ Answers (.shadowWrite a n r v) s (fun t => t.rd (chOff n o) = w ∧ t.ch = s.ch
      ∧ (cntMode s n ≠ 4 → s.fl (chOff n CH.CTRL) 4 2 = 2 → t.rd (chOff n (o + 0x20)) = w)
      ∧ (cntMode s n ≠ 4 → s.fl (chOff n CH.CTRL) 4 2 ≠ 2 → t.rd (chOff n (o + 0x20)) = s.rd (chOff n (o + 0x20))
          ∧ t.bt (chOff n CH.EPOCH) 16 = true)
      ∧ (r = .cmpFine → v &&& 0xE0E0E0E0 ≠ 0 → Raised t FS.RSVD_WRITE))
  ∧ (cntMode s n ≠ 4 → s.fl (chOff n CH.CTRL) 4 2 = 1 → Answers (.chLoad a n) s (fun t => t.ch[n].loadArm = true
      ∧ (s.bt (chOff n CH.EPOCH) 16 = true → t.fl (chOff n CH.EPOCH) 8 8 = (s.fl (chOff n CH.EPOCH) 0 8 + 1) % 256)))

/-- R40, R48, R64, R71, R72, R295: the reads with latches: the low half of a time latches its upper part for the agent that reads, CAPA latches CAPB
and CAPINFO, FIFO_T pops the oldest entry and latches its fields, and CNT latches the count of the channel that cascades from it; no stored
register changes. A passage of a multiple of 2^32 offers an anchor with REASON 2 to every capture ring that takes records.
The model's choices that it rests on: log entries 12, 14, 23. -/
def Obligations.LatchedReads : Prop := ∀ (s : State) (a : Agent) (n : Fin 96),
  let kept (t : State) (v : Word) : Prop := (a = .host → t.rdHost = v) ∧ (a = .sup → t.rdSup = v) ∧ (a = .debug → t.rdDebug = v)
  Answers (.tbLoRead a) s (fun t => kept t s.near ∧ t.lat? a R.TB_HI = BitVec.ofNat 32 (s.tb.tb.toNat / 2 ^ 32)
      ∧ t.tb = s.tb ∧ t.regs = s.regs ∧ t.mem = s.mem)
  ∧ Answers (.syncinTsLoRead a) s (fun t => kept t (s.rd R.SYNCIN_TS_LO) ∧ t.lat? a R.SYNCIN_TS_HI = s.rd R.SYNCIN_TS_HI
      ∧ t.lat? a R.SYNCIN_STAT = s.rd R.SYNCIN_STAT &&& 0x1FFFFF ∧ t.regs = s.regs ∧ t.mem = s.mem
      ∧ t.tb.syncUnread = (if a = .host then false else s.tb.syncUnread))
  ∧ Answers .tbWrapPassage s (fun t => t = { s with agenda := t.agenda }
      ∧ ∀ r : Fin 64, takesRecords s r = true → ⟨s.ticks, .recordEntry (anchorGroup s r 2)⟩ ∈ t.agenda)
  ∧ Answers (.capaRead a n) s (fun t => kept t (s.rd (chOff n CH.CAPA)) ∧ t.lat? a (chOff n CH.CAPB) = s.rd (chOff n CH.CAPB)
      ∧ t.lat? a (chOff n CH.CAPINFO) = s.rd (chOff n CH.CAPINFO) ∧ t.regs = s.regs ∧ t.ch = s.ch)
  ∧ (s.ch[n].fifo = [] → Answers (.fifoTRead a n) s (fun t => kept t 0 ∧ t.lat? a (chOff n CH.FIFO_X) = 0 ∧ t.regs = s.regs ∧ t.ch = s.ch))
  ∧ (∀ e q, s.ch[n].fifo = e :: q → Answers (.fifoTRead a n) s (fun t => kept t e.coarse ∧ t.ch[n] = { s.ch[n] with fifo := q }
      ∧ t.lat? a (chOff n CH.FIFO_X) = BitVec.ofNat 32 (e.fine + e.level.toNat * 256 + 2 ^ 15 + e.cnt16 * 65536) ∧ t.regs = s.regs
      ∧ ∀ m, m ≠ n → t.ch[m] = s.ch[m]))
  ∧ Answers (.cntRead a n) s (fun t => kept t (s.rd (chOff n CH.CNT)) ∧ t.regs = s.regs ∧ t.ch = s.ch
      ∧ ∀ k : Fin 96, k.val = n.val + 1 → cntMode s k = 5 → t.lat? a (chOff n CH.CNTX) = s.rd (chOff k CH.CNT))

/-! ## PWM groups and outputs (chapter 04) -/

/-- R88, R89, R91, R92, R93: the advance of a running group that ends in a boundary or reaches its peak, and the start of an armed group:
count, direction and events; at a transfer point the epochs step, the members raise BOUND, shadows transfer as TMODE allows, and in
auto mode a period without compares raises SPLIT and is held under HOLDSPLIT, until the next transfer point of any mode.
The model's choices that it rests on: log entries 10, 13, 39. -/
def Obligations.GroupCounting : Prop := ∀ (s : State) (m : Fin 16),
  let split : Prop := tMode s m = 0 ∧ s.pg[m].pwrit = true ∧ s.pg[m].cwrit = false ∧ s.pg[m].held = false
  let hold : Prop := split ∧ s.bt (pgOff m PG.CTRL) 6 = true
  let xfer : Prop := tMode s m = 0 ∨ (tMode s m = 1 ∧ s.pg[m].loadArm = true)
  let others (t : State) : Prop := (∀ k, k ≠ m → t.pg[k] = s.pg[k]) ∧ t.mem = s.mem
  let point (t : State) : Prop := t.pg[m].xferAt = s.now ∧ t.pg[m].pwrit = false ∧ t.pg[m].cwrit = false
    ∧ t.fl (pgOff m PG.EPOCH) 0 8 = (s.fl (pgOff m PG.EPOCH) 0 8 + 1) % 256
    ∧ (split → t.bt (pgOff m PG.EVT) 3 = true ∧ Raised t FS.SPLIT)
    ∧ (hold → t.pg[m].held = true ∧ t.rd (pgOff m PG.PERIOD_ACT) = s.rd (pgOff m PG.PERIOD_ACT)
        ∧ t.bt (pgOff m PG.EPOCH) 16 = true ∧ t.fl (pgOff m PG.EPOCH) 8 8 = (t.fl (pgOff m PG.EPOCH) 0 8 + 1) % 256)
    ∧ (¬hold → t.pg[m].held = false)
    ∧ (xfer ∨ s.pg[m].held = true → ¬hold → t.rd (pgOff m PG.PERIOD_ACT) = s.rd (pgOff m PG.PERIOD) ∧ t.bt (pgOff m PG.EPOCH) 16 = false)
    ∧ (xfer → t.pg[m].loadArm = false ∧ ∀ k : Fin 12, t.pg[m].mphAct[k] = s.rd (pgOff m (PG.MPH + 4 * k.val)))
    ∧ (¬xfer → t.pg[m].mphAct = s.pg[m].mphAct)
    ∧ (¬xfer → s.pg[m].held = false → t.rd (pgOff m PG.PERIOD_ACT) = s.rd (pgOff m PG.PERIOD_ACT))
    ∧ ∀ n, follows s n = some m → s.ch[n].frozen = false →
        t.fl (chOff n CH.EPOCH) 0 8 = (s.fl (chOff n CH.EPOCH) 0 8 + 1) % 256 ∧ t.bt (chOff n CH.EVT) 4 = true
        ∧ (xfer → ∀ k : Fin 4, t.rd (chOff n (CH.CMPA_ACT + 4 * k.val)) = s.rd (chOff n (CH.CMPA + 4 * k.val)))
  (∀ a, pgAdvance s m = some a →
    let moved (t : State) : Prop := others t ∧ t.rd (pgOff m PG.CNT) = BitVec.ofNat 32 a.cnt ∧ t.pg[m].down = a.down ∧ t.pg[m].took = s.now
      ∧ (a.boundShort = true ∨ a.peakShort = true → t.bt (pgOff m PG.EVT) 2 = true)
    (a.bound = true → Answers (.pgBoundary m) s (fun t => moved t ∧ point t ∧ t.bt (pgOff m PG.EVT) 0 = true ∧ t.pg[m].boundAt = s.now))
    ∧ (a.peak = true → a.bound = false → Answers (.pgPeak m) s (fun t => moved t ∧ t.bt (pgOff m PG.EVT) 1 = true
        ∧ (s.bt (pgOff m PG.CTRL) 5 = true → point t ∧ t.bt (pgOff m PG.EVT) 0 = true))))
  ∧ (pgEn s m = true → s.pg[m].armed = true → s.pg[m].run = false → Answers (.pgGroupStart m) s (fun t => others t ∧ point t
      ∧ t.pg[m].run = true ∧ t.pg[m].armed = false ∧ t.bt (pgOff m PG.EVT) 6 = true
      ∧ (let c := memberAt (pgMode s m) (t.rd (pgOff m PG.PERIOD_ACT)).toNat (s.rd (pgOff m PG.PHASE)).toNat 0
         t.rd (pgOff m PG.CNT) = BitVec.ofNat 32 c.1 ∧ t.pg[m].down = c.2)))

/-- R89, R92, R94, R95: the commands of a group: START arms an enabled group that does not run, STOP and the clearing of EN stop it with its
count held, LOAD arms the next transfer point in armed mode, STAGGER spreads the phases of the enabled slots, and a count written acts in
the next tick.
The model's choices that it rests on: log entries 13, 35. -/
def Obligations.GroupCommands : Prop := ∀ (s : State) (a : Agent) (m : Fin 16) (v : Word),
  let on := (List.finRange 12).filter (fun k => s.bt (pgOff m (PG.MCH + 4 * k.val)) 7)
  let l := periodLen (pgMode s m) (s.rd (pgOff m PG.PERIOD)).toNat
  let stopped (t : State) : Prop := t.pg[m].run = false ∧ t.pg[m].armed = false ∧ t.rd (pgOff m PG.CNT) = s.rd (pgOff m PG.CNT)
    ∧ (∀ k, k ≠ m → t.pg[k] = s.pg[k]) ∧ t.ch = s.ch
  (pgEn s m = true → s.pg[m].run = false → Answers (.pgStart a m) s (fun t => t = { s with pg := t.pg } ∧ t.pg[m].armed = true
      ∧ (s.fl (pgOff m PG.CTRL) 8 2 = 0 → t.pg[m].startNext = true) ∧ ∀ k, k ≠ m → t.pg[k] = s.pg[k]))
  ∧ (pgEn s m = false ∨ s.pg[m].run = true → Answers (.pgStart a m) s (fun t => t = s))
  ∧ Answers (.pgStop a m) s stopped
  ∧ Answers (.pgDisable a m) s (fun t => stopped t ∧ pgEn t m = false)
  ∧ (tMode s m = 1 → Answers (.pgLoad a m) s (fun t => t.pg[m].loadArm = true ∧ t.ch = s.ch
      ∧ (s.bt (pgOff m PG.EPOCH) 16 = true → t.fl (pgOff m PG.EPOCH) 8 8 = (s.fl (pgOff m PG.EPOCH) 0 8 + 1) % 256)))
  ∧ (tMode s m ≠ 1 → Answers (.pgLoad a m) s (fun t => t = s))
  ∧ Answers (.stagger a m) s (fun t => (∀ i k, on[i]? = some k → t.rd (pgOff m (PG.MPH + 4 * k.val))
        = BitVec.ofNat 32 (min (i * l / on.length) 0xFFFFFFFF))
      ∧ (∀ k, k ∉ on → t.rd (pgOff m (PG.MPH + 4 * k.val)) = s.rd (pgOff m (PG.MPH + 4 * k.val))) ∧ t.ch = s.ch)
  ∧ Answers (.pgCntWrite a m v) s (fun t => t = s.updPg m (fun g => { g with cntWr := some v }))

/-- R82, R99, R102, R105, R107, R108: a trip forces every member of its group to its safe state and latches the group off when its window's
count reaches N; FORCE and TRIPCLR act in the next tick; a rise held by the dead time drives its pin; and a moved closing change falls.
The model's choices that it rests on: log entries 10, 28, 30, 38. -/
def Obligations.TripsAndOutputs : Prop := ∀ (s : State) (a : Agent) (m : Fin 16) (n : Fin 96),
  let cnt := (s.pg[m].tripHist.take (max 1 (s.fl (pgOff m PG.TRIP) 24 8) - 1)).countP id + 1
  let lim := s.fl (pgOff m PG.TRIP) 16 8
  Answers (.tripAssert m) s (fun t => t.pg[m].tripIn = true ∧ t.pg[m].tripped = true ∧ t.bt (pgOff m PG.EVT) 4 = true
      ∧ (s.bt (pgOff m PG.EVT) 4 = false → Raised t FS.PG_TRIP)
      ∧ t.fl (pgOff m PG.TRIPSTAT) 16 16 = (if s.pg[m].tripTot then s.fl (pgOff m PG.TRIPSTAT) 16 16 else min 65535 (s.fl (pgOff m PG.TRIPSTAT) 16 16 + 1))
      ∧ (lim ≠ 0 → lim ≤ cnt → t.pg[m].latched = true)
      ∧ (lim ≠ 0 → lim ≤ cnt → s.pg[m].latched = false → t.bt (pgOff m PG.EVT) 5 = true ∧ t.bt (fsrcStat (FS.PG_LATCHOFF + m.val)) 17 = true)
      ∧ ∀ k, follows s k = some m → t.ch[k].padDrv = decide (s.fl (chOff k CH.PWM) 8 2 ≠ 2)
          ∧ (s.fl (chOff k CH.PWM) 8 2 ≠ 2 → t.ch[k].padLvl = decide (s.fl (chOff k CH.PWM) 8 2 = 1)))
  ∧ Answers (.tripInputInactive m) s (fun t => t = s.updPg m (fun g => { g with tripIn := false }))
  ∧ Answers (.force a m) s (fun t => t = s.updPg m (fun g => { g with forceNext := true }))
  ∧ (s.pg[m].tripIn = true ∨ s.pg[m].forcedAt = s.now → Answers (.tripclr a m) s (fun t => t = s))
  ∧ (s.pg[m].tripIn = false → s.pg[m].forcedAt ≠ s.now → Answers (.tripclr a m) s (fun t => t = s.updPg m (fun g => { g with clrNext := true })))
  ∧ (∀ p, s.ch[n].riseAt = some p → Answers (.deadTimeExpiry n) s (fun t => t.ch[n].out = true ∧ t.ch[n].riseAt = none ∧ t.regs = s.regs
      ∧ (t.ch[n].padDrv, t.ch[n].padLvl) = padOf (s.updCh n (fun c => { c with out := true, riseAt := none })) n
      ∧ ∀ k, k ≠ n → t.ch[k] = s.ch[k]))
  ∧ (∀ p, s.ch[n].closeAt = some p →
      let s' := (s.updCh n (fun c => { c with closeAt := none, dec := !s.ch[n].refLvl })).updCh n (fun c => { c with counted := false })
      (foreseeLen s' n (!s.ch[n].refLvl) p.fine = none → Answers (.stretchClose n) s (fun t => t.ch[n].dec = !s.ch[n].refLvl
        ∧ t.ch[n].refLvl = !s.ch[n].refLvl ∧ t.ch[n].refAt = some p ∧ t.ch[n].closeAt = none))
      ∧ (∀ r, foreseeLen s' n (!s.ch[n].refLvl) p.fine = some r → isShort r (dtMinpw s n).1 (dtMinpw s n).2 = true →
          minPolicy s n (dtMinpw s n).1 = 0 → Answers (.stretchClose n) s (fun t => t.ch[n].dec = !s.ch[n].refLvl
            ∧ t.ch[n].swallow = true ∧ t.ch[n].refLvl = s.ch[n].refLvl ∧ t.ch[n].out = s.ch[n].out
            ∧ t.fl (chOff n CH.SHORTCNT) 0 8 = min 255 (s.fl (chOff n CH.SHORTCNT) 0 8 + 1))))

/-! ## Newels (chapter 05) -/

/-- R113, R118, R119, R120, R122, R124, R128, R134, R143: a tooth edge arrives and is classified two ticks later; a rejected one only counts;
an accepted one steps the index and predicts the next interval, a gap that does not agree with the wheel is a sync error, and two
ticks after the classification the tooth's values come into force.
The model's choices that it rests on: log entries 10, 40, 41, 42. -/
def Obligations.ToothTracking : Prop := ∀ (s : State) (n : Fin 4) (e : EdgeInfo),
  let w := s.nwl[n]
  let time := e.coarse.toNat * 32 + e.fine.toNat
  (w.on = true → w.mode = 0 → Answers (.toothReceive n e) s (fun t => t.nwl[n] = { w with inbox := w.inbox ++ [e] } ∧ t.regs = s.regs
      ∧ ⟨s.ticks + s.samples 2, .toothClassify n⟩ ∈ t.agenda))
  ∧ (w.on = false ∨ w.mode ≠ 0 → Answers (.toothReceive n e) s (fun t => t = s))
  ∧ (∀ q, w.inbox = e :: q → w.on = true → w.mode = 0 →
      let d := time - w.tooth.getD w.tlast
      let cls := classOf s n d
      let ins := decide (cls = .inserted)
      let stp := if cls = .inserted then 2 else 1
      let gap := gapTest s n ((⟨d, ins⟩ :: w.hist).take 4)
      let taken (t : State) : Prop := t.nwl[n].inbox = q ∧ t.nwl[n].lastcls = cls ∧ t.nwl[n].seq = (w.seq + 1) % 65536
        ∧ t.bt (nwlOff n NWL.EVT) 0 = true ∧ t.nwl[n].tooth = some time ∧ ⟨s.ticks + s.samples 2, .predictionLoad n⟩ ∈ t.agenda
      (w.state = .seek → w.tooth = none → w.hist = [] → Answers (.toothClassify n) s (fun t => t.nwl[n].inbox = q
          ∧ t.nwl[n].lastcls = .normal ∧ t.nwl[n].tooth = some time ∧ t.nwl[n].state = .seek ∧ t.bt (nwlOff n NWL.EVT) 0 = true
          ∧ ⟨s.ticks + s.samples 2, .predictionLoad n⟩ ∈ t.agenda))
      ∧ (w.state = .sync → curPred w = true → w.fast = false → cls = .rejected → Answers (.toothClassify n) s (fun t =>
          t.nwl[n].inbox = q ∧ t.nwl[n].lastcls = .rejected ∧ t.nwl[n].tooth = w.tooth ∧ t.nwl[n].idx = w.idx ∧ t.nwl[n].load = w.load
          ∧ t.bt (nwlOff n NWL.EVT) 1 = true ∧ t.fl (nwlOff n NWL.CNT) 0 16 = min 65535 (s.fl (nwlOff n NWL.CNT) 0 16 + 1)))
      ∧ (w.state = .sync → curPred w = true → w.fast = false → cls ≠ .rejected → (gap = none ∨ (gap = some false ∧ gapEnd s n w.idx = false)) →
          w.idx + stp < max 1 (nTeeth s n) → Answers (.toothClassify n) s (fun t => taken t ∧ t.nwl[n].state = .sync ∧ t.nwl[n].idx = w.idx + stp
            ∧ t.nwl[n].toothang = toothAngle s n (w.idx + stp) w.rev
            ∧ (let a := curAnext w + (if cls = .inserted then whlA s n (w.idx + 2) else 0)
               let an := whlA s n (w.idx + stp + 1)
               let r := ratioOf (aclF s n) d a w.dprev w.aprev
               t.nwl[n].ratio = r.1 ∧ t.nwl[n].dprev = d ∧ t.nwl[n].aprev = a
               ∧ ∃ l, t.nwl[n].load = some l ∧ l.tlast = time ∧ l.anext = an ∧ l.ppred = predOf d a an r.1 ∧ l.pred = true)))
      ∧ (w.state = .sync → curPred w = true → w.fast = false → cls ≠ .rejected → gap = some (!gapEnd s n w.idx) →
          Answers (.toothClassify n) s (fun t => taken t ∧ t.bt (nwlOff n NWL.EVT) 5 = true ∧ Raised t FS.NWL_GAPERR
            ∧ t.fl (nwlOff n NWL.ERRS) 0 8 = min 255 (s.fl (nwlOff n NWL.ERRS) 0 8 + 1) ∧ t.nwl[n].errcnt = min 15 (w.errcnt + 1)
            ∧ t.nwl[n].state = (if errMax s n ≤ min 15 (w.errcnt + 1) then .lost else .sync))))
  ∧ (∀ l, w.on = true → w.load = some l → Answers (.predictionLoad n) s (fun t => t.nwl[n].tlast = l.tlast ∧ t.nwl[n].anext = l.anext
      ∧ t.nwl[n].ppred = l.ppred ∧ t.nwl[n].pred = l.pred ∧ t.nwl[n].load = none
      ∧ t.rd (nwlOff n NWL.TOOTHT) = BitVec.ofNat 32 (l.tlast / 32) ∧ t.rd (nwlOff n NWL.TOOTHINFO) = l.info
      ∧ t.rd (nwlOff n NWL.PERIOD) = BitVec.ofNat 32 (min l.d 0xFFFFFFFF)
      ∧ (l.pred = true → t.rd (nwlOff n NWL.PRED) = BitVec.ofNat 32 (min l.ppred 0xFFFFFFFF))
      ∧ (schedOn t n = true → l.pred = true → t.nwl[n].convQ = passSlots t n ∧ t.nwl[n].convAt = s.now)))

/-- R112, R116, R123, R128, R129, R131, R143: cam votes and the phase decision, the stall guard, and the commands of a Newel: an enable checks
the wheel description, a disable stops it in the next tick and cancels, and RESYNC, PHSET, ERRCLR and HOLD act in the next tick, on a Newel
that does not run ERRCLR alone.
The model's choices that it rests on: log entries 10, 42, 43, 46. -/
def Obligations.NewelStates : Prop := ∀ (s : State) (a : Agent) (n : Fin 4) (j : Fin 2) (e : EdgeInfo) (v : Bool),
  let w := s.nwl[n]
  let tracking : Prop := w.on = true ∧ w.mode = 0 ∧ w.state ≠ .seek
  let ang := angleAt s n (e.coarse.toNat * 32 + e.fine.toNat)
  let other := (ang + revLen) % nwlC s n
  let m0 := camMatches s n j (if w.rev then other else ang) e.level
  let m1 := camMatches s n j (if w.rev then ang else other) e.level
  let votes := if w.votes ≠ 0 ∧ w.voteRev = m1 then w.votes + 1 else 1
  let mode := s.fl (nwlOff n NWL.CTRL) 1 2
  let cmd (c : Instr) (k : Nat) : Prop := Answers c s (fun t =>
      t = s.updNwl n (fun w => { w with cmd := w.cmd ||| (if w.on then k else k &&& 8), actAt := s.now }))
  let stops (t : State) : Prop := t.bt (nwlOff n NWL.CTRL) 0 = false ∧ (w.on = true → t.nwl[n].stop = true) ∧ t.hasDue (.cancel n) = true
  (¬tracking → Answers (.phaseInputEdge n j e) s (fun t => t = s))
  ∧ (tracking → w.state ≠ .sync → m0 = false → m1 = false → Answers (.phaseInputEdge n j e) s (fun t => t.nwl = s.nwl
      ∧ t.fl (nwlOff n NWL.ERRS) 8 8 = min 255 (s.fl (nwlOff n NWL.ERRS) 8 8 + 1)))
  ∧ (tracking → w.state ≠ .sync → m0 = true → m1 = true → Answers (.phaseInputEdge n j e) s (fun t => t = s))
  ∧ (tracking → w.state ≠ .sync → m0 ≠ m1 → w.phok = false → w.fast = false →
      (votes < camVote s n → Answers (.phaseInputEdge n j e) s (fun t => t = s.updNwl n (fun w => { w with votes := votes, voteRev := m1 })))
      ∧ (camVote s n ≤ votes → w.state = .hold →
          Answers (.phaseInputEdge n j e) s (fun t => t = s.updNwl n (fun w => { w with votes := votes, voteRev := m1 })))
      ∧ (camVote s n ≤ votes → w.state ≠ .hold → Answers (.phaseInputEdge n j e) s (fun t => t.nwl[n].phok = true
          ∧ t.nwl[n].rev = (m1 && nwlC s n == cycle720) ∧ t.bt (nwlOff n NWL.EVT) 11 = true
          ∧ (w.state = .confirm → t.nwl[n].state = .sync ∧ t.bt (nwlOff n NWL.EVT) 8 = true))))
  ∧ (tracking → w.state = .sync → s.wasBt (nwlOff n NWL.CTRL) 6 = true → w.phok = true → m0 = false → m1 = false →
      Answers (.phaseInputEdge n j e) s (fun t => t.bt (nwlOff n NWL.EVT) 6 = true ∧ Raised t FS.NWL_CAMERR
        ∧ t.nwl[n].errcnt = min 15 (w.errcnt + 1) ∧ t.nwl[n].state = (if errMax s n ≤ min 15 (w.errcnt + 1) then .lost else .sync)))
  ∧ (stallDue s n = false → Answers (.stallTimeout n) s (fun t => t = s))
  ∧ (stallDue s n = true → Answers (.stallTimeout n) s (fun t => t.fl (nwlOff n NWL.ERRS) 24 8 = min 255 (s.fl (nwlOff n NWL.ERRS) 24 8 + 1)
      ∧ (w.mode = 2 → t.nwl[n].state = .lost ∧ t.bt (fsrcStat (FS.NWL_PEERLOSS + n.val)) 17 = true)
      ∧ (w.mode = 0 → w.state = .candidate ∨ w.state = .confirm ∨ w.state = .sync → t.nwl[n].state = .hold
          ∧ t.bt (nwlOff n NWL.EVT) 10 = true ∧ Raised t FS.NWL_STALL)
      ∧ (w.mode = 0 → w.state = .seek ∨ w.state = .lost → t.nwl[n].state = w.state ∧ t.nwl[n].hist = [])))
  ∧ (s.bt (nwlOff n NWL.CTRL) 0 = true → Answers (.newelEnable a n) s (fun t => t = s)) ∧ Answers (.newelDisable a n) s stops
  ∧ (s.bt (nwlOff n NWL.CTRL) 0 = false → (mode = 1 ∨ mode = 2 ∨ descOk s n = true) → Answers (.newelEnable a n) s (fun t =>
      t.bt (nwlOff n NWL.CTRL) 0 = true ∧ t.nwl[n].on = true ∧ t.nwl[n].state = .seek ∧ t.nwl[n].mode = (if mode = 3 then 0 else mode)
      ∧ t.nwl[n].cyc360 = s.bt (nwlOff n NWL.CTRL) 3 ∧ t.nwl[n].hist = [] ∧ t.nwl[n].phok = false))
  ∧ (s.bt (nwlOff n NWL.CTRL) 0 = false → mode ≠ 1 → mode ≠ 2 → descOk s n = false → Answers (.newelEnable a n) s (fun t =>
      t.bt (nwlOff n NWL.CTRL) 0 = false ∧ t.bt (nwlOff n NWL.EVT) 15 = true ∧ Raised t FS.NWL_DESC))
  ∧ cmd (.resync a n) 1 ∧ cmd (.phset a n v) (if v then 6 else 2) ∧ cmd (.errclr a n) 8 ∧ cmd (.hold a n) 16
  ∧ Answers (.toothtRead a n) s (fun t => (a = .host → t.rdHost = s.rd (nwlOff n NWL.TOOTHT)) ∧ t.regs = s.regs ∧ t.nwl = s.nwl
      ∧ t.lat? a (nwlOff n NWL.TOOTHINFO) = s.rd (nwlOff n NWL.TOOTHINFO) ∧ t.lat? a (nwlOff n NWL.PERIOD) = s.rd (nwlOff n NWL.PERIOD)
      ∧ t.lat? a (nwlOff n NWL.PRED) = s.rd (nwlOff n NWL.PRED) ∧ t.lat? a (nwlOff n NWL.RATIO) = s.rd (nwlOff n NWL.RATIO))

/-- R135, R136, R137, R146: a quadrature step moves the encoder count by one modulo CPC, an illegal transition is an error, and an edge of
B goes behind one of A in its tick; a rising Z edge sets
the count to ZPOS, checks it against ZTOL and ends SEEK; and the passage of the angle through 0 counts CYCNUM.
The model's choices that it rests on: log entries 10, 44, 45. -/
def Obligations.EncoderAndCycles : Prop := ∀ (s : State) (n : Fin 4) (e : EdgeInfo),
  let w := s.nwl[n]
  let pos := s.fl (nwlOff n NWL.ENCPOS) 0 24
  let cpc := encCpc s n
  let isA := decide (s.fl (nwlOff n NWL.INPUT) 0 7 = e.ch.val)
  let up := if isA then e.level != w.encB else w.encA == e.level
  let partner := s.agenda.any (fun d => match d.cmd with | .encoderEdge m x => m == n && x.ch != e.ch && x.coarse == e.coarse | _ => false)
  let first := s.agenda.any (fun d => d.tick ≤ s.ticks && (match d.cmd with | .encoderEdge m x => m == n && x.ch != e.ch | _ => false))
  let waits : Prop := isA = false ∧ first = true
  let z := s.fl (nwlOff n NWL.ZCFG) 0 24 % cpc
  let off := min (fwd cpc z (pos % cpc)) (cpc - fwd cpc z (pos % cpc))
  (w.on = false ∨ w.mode ≠ 1 → Answers (.encoderEdge n e) s (fun t => t = s))
  ∧ (w.on = true → w.mode = 1 → waits → Answers (.encoderEdge n e) s (fun t => t.regs = s.regs ∧ ⟨s.ticks, .encoderEdge n e⟩ ∈ t.agenda))
  ∧ (w.on = true → w.mode = 1 → ¬waits → w.encSame ≠ some e.coarse.toNat → partner = false → (∀ t0, w.encT = some t0 → t0 / 32 ≠ e.coarse.toNat) →
      Answers (.encoderEdge n e) s (fun t => t.fl (nwlOff n NWL.ENCPOS) 0 24 = (if up then (pos + 1) % cpc else (pos + cpc - 1) % cpc)
        ∧ t.nwl[n].dir = !up ∧ t.nwl[n].encOld = pos ∧ t.nwl[n].encT = some (e.coarse.toNat * 32 + e.fine.toNat)))
  ∧ (w.on = true → w.mode = 1 → ¬waits → w.encSame = some e.coarse.toNat → Answers (.encoderEdge n e) s (fun t => t.nwl[n].encSame = none
      ∧ t.fl (nwlOff n NWL.ENCPOS) 0 24 = pos ∧ t.bt (nwlOff n NWL.EVT) 12 = true ∧ Raised t FS.NWL_ENCERR
      ∧ t.fl (nwlOff n NWL.ERRS) 16 8 = min 255 (s.fl (nwlOff n NWL.ERRS) 16 8 + 1)))
  ∧ (w.on = false ∨ w.mode ≠ 1 ∨ e.level = false → Answers (.zEdge n e) s (fun t => t = s))
  ∧ (w.on = true → w.mode = 1 → e.level = true → Answers (.zEdge n e) s (fun t => t.nwl[n].lastcls = .normal
      ∧ (s.wasBt (nwlOff n NWL.CTRL) 7 = false → t.fl (nwlOff n NWL.ENCPOS) 0 24 = pos)
      ∧ (s.wasBt (nwlOff n NWL.CTRL) 7 = true → t.fl (nwlOff n NWL.ENCPOS) 0 24 = z ∧ (w.state = .seek → t.nwl[n].state = .sync)
          ∧ (s.fl (nwlOff n NWL.ZCFG) 24 8 < off → t.bt (nwlOff n NWL.EVT) 13 = true
              ∧ t.fl (nwlOff n NWL.ERRS) 16 8 = min 255 (s.fl (nwlOff n NWL.ERRS) 16 8 + 1))
          ∧ (off ≤ s.fl (nwlOff n NWL.ZCFG) 24 8 → t.nwl[n].errcnt = 0))))
  ∧ (∀ fwd', cyclePass s n = some fwd' → Answers (.angleCyclePassage n) s (fun t =>
      t = s.updNwl n (fun x => { x with cycnum := (if fwd' then x.cycnum + 1 else x.cycnum + 255) % 256, aLast := some (angleNow s n) })))
  ∧ (cyclePass s n = none → Answers (.angleCyclePassage n) s (fun t => t = s))

/-! ## Angle events (chapter 06) -/

/-- R74, R75, R146, R147, R148, R149, R150, R153: from a tooth to a queue: the late pass lines up or drops what the tooth has passed, a
conversion computes the target of a slot in the window, an offer makes the slot QUEUED or FROZEN, the commit point freezes it, the
hold angle withdraws what lies beyond it, and a refused offer is made again or dropped. A completed instance is offered no more.
The model's choices that it rests on: log entries 10, 47. -/
def Obligations.AngleEventOffers : Prop := ∀ (s : State) (n : Fin 4) (k : Fin 512),
  let w := s.nwl[n]
  let ch := slotCh s n k
  let waits (k : Fin 512) : Prop := ∃ o ∈ w.reofferQ, o.slot = k
  let free (s : State) : Prop := slotLive s n k = true ∧ slotState s n k = 1 ∧ chEn s ch = true ∧ s.ch[ch].firedAt ≠ s.now
    ∧ s.ch[ch].aq.length < 8 ∧ ∀ x ∈ s.ch[ch].aq, ¬(x.tagv = true ∧ x.origin = .newel n ∧ x.tag = k.val)
  let queued (t : State) (o : SlotOffer) : Prop := t.ch[ch].aq = aqInsert s.near (offerEntry s n o) s.ch[ch].aq
    ∧ slotState t n k = (if o.frz then 3 else 2) ∧ t.nwl[n].offerAt = s.now ∧ slotInst t n k = o.inst
    ∧ ∀ c, c ≠ ch → t.ch[c] = s.ch[c]
  (schedOn s n = false → Answers (.latePass n) s (fun t => t = s))
  ∧ (schedOn s n = true → Answers (.latePass n) s (fun t =>
      (k ∈ slotsOn s n → passedNow s n k = true → ¬waits k → slotBehind s n k ≤ slotLatemax s n k →
        ∃ o ∈ t.nwl[n].lateQ, o.slot = k ∧ o.late = true ∧ o.tgt = crossing s n (slotBehind s n k))
      ∧ (k ∈ slotsOn s n → passedNow s n k = true → waits k ∨ slotLatemax s n k < slotBehind s n k → slotState t n k = 1
          ∧ t.fl (evOff n k EV.LATE) 22 8 = instPassed s n (slotAng s n k) % 256 ∧ t.fl (evOff n k EV.ANG) 25 2 = 3
          ∧ t.bt (nwlOff n NWL.EVEVT) 2 = true)
      ∧ (∀ o ∈ t.nwl[n].lateQ, passedNow s n o.slot = true ∧ slotBehind s n o.slot ≤ slotLatemax s n o.slot)))
  ∧ (schedOn s n = true → w.pred = true → w.load = none → inWindow s n k = true → Answers (.slotConversion n k) s (fun t =>
      t = s.updNwl n (fun w => { w with conv := some (convOffer s n k), convQ := w.convQ.filter (· != k), convAt := s.now })))
  ∧ (inWindow s n k = false → Answers (.slotConversion n k) s (fun t => t = s))
  ∧ (∀ o, w.lateQ = [] → w.conv = some o → o.slot = k → free s → slotDone s n k o.inst = false → Answers (.newelOffer n k) s (fun t => queued t o ∧ t.nwl[n].conv = none
      ∧ (o.late = true → t.bt (nwlOff n NWL.EVEVT) 1 = true)))
  ∧ (∀ o q, w.lateQ = o :: q → o.slot = k → free s → slotDone s n k o.inst = false → Answers (.newelOffer n k) s (fun t => queued t o ∧ t.nwl[n].lateQ = q
      ∧ (o.late = true → t.bt (nwlOff n NWL.EVEVT) 1 = true)))
  ∧ (∀ o, w.lateQ = [] → w.conv = some o → o.slot = k → o.cancel = false → slotLive s n k = true → slotState s n k = 1 → chEn s ch = false →
      slotDone s n k o.inst = false → Answers (.newelOffer n k) s (fun t => slotState t n k = 1 ∧ o ∈ t.nwl[n].reofferQ ∧ t.bt (nwlOff n NWL.EVEVT) 4 = true
        ∧ t.bt (chOff ch CH.EVT) 9 = true ∧ Raised t FS.AQ_REFUSED ∧ t.ch = s.ch))
  ∧ (∀ c, slotState s n k = 2 → entryCh s n k = some c → Answers (.commitFreeze n k) s (fun t => slotState t n k = 3
      ∧ t.ch[c].aq = s.ch[c].aq.map (fun e => if e.origin = .newel n ∧ e.tag = k.val then { e with frz := true } else e)
      ∧ ∀ d, d ≠ c → t.ch[d] = s.ch[d]))
  ∧ (∀ o, w.lateQ = [] → w.conv = some o → o.slot = k → slotDone s n k o.inst = true → Answers (.newelOffer n k) s (fun t =>
      t = s.updNwl n (fun w => { w with conv := none })))
  ∧ (slotState s n k ≠ 2 → Answers (.commitFreeze n k) s (fun t => t = s))
  ∧ (holdReached s n = true → schedOn s n = true → Answers (.holdAngleReached n) s (fun t => t.nwl[n].heldDone = true
      ∧ (slotState s n k = 2 → advLim s n < slotAhead s n k → instGone s n (slotAng s n k) (slotInst s n k) = false →
          slotState t n k = (if slotLive s n k then 1 else 0) ∧ t.bt (nwlOff n NWL.EVEVT) 3 = true)
      ∧ (slotState s n k ≠ 2 ∨ slotAhead s n k ≤ advLim s n → slotState t n k = slotState s n k)))
  ∧ (holdReached s n = false → Answers (.holdAngleReached n) s (fun t => t = s))
  ∧ (∀ o, w.reofferQ.find? (fun o => o.slot == k) = some o →
      (free s → offerGone s n o = false → slotDone s n k o.inst = false → Answers (.reoffer n k) s (fun t => queued t { convOffer s n k with inst := o.inst }
          ∧ ∀ x ∈ t.nwl[n].reofferQ, x.slot ≠ k))
      ∧ (slotLive s n k = true → slotState s n k = 1 → offerGone s n o = true → Answers (.reoffer n k) s (fun t => slotState t n k = 1
          ∧ t.fl (evOff n k EV.LATE) 22 8 = o.inst % 256 ∧ t.bt (nwlOff n NWL.EVEVT) 2 = true ∧ t.ch = s.ch
          ∧ ∀ x ∈ t.nwl[n].reofferQ, x.slot ≠ k)))
  ∧ (¬waits k → Answers (.reoffer n k) s (fun t => t = s))

/-- R145, R146, R155, R156, R158: a cancel withdraws every unfrozen entry, drops the slots without ONCANCEL, lines up the others that have an open
instance, which are offered with the present time as target, and bars conversions; a slot write is stored and an armed slot is re-evaluated
against the last tooth: offered, offered late within LATEMAX, or dropped; EVLAST_T latches EVLAST_X.
The model's choices that it rests on: log entries 10, 47. -/
def Obligations.AngleEventControl : Prop := ∀ (s : State) (a : Agent) (n : Fin 4) (k : Fin 512) (r : SlotReg) (v : Word),
  let w := s.nwl[n]
  let ch := slotCh s n k
  let onCancel (k : Fin 512) : Bool := s.bt (evOff n k EV.CFG) 12
  let free : Prop := slotLive s n k = true ∧ slotState s n k = 1 ∧ chEn s ch = true ∧ s.ch[ch].firedAt ≠ s.now
    ∧ s.ch[ch].aq.length < 8 ∧ ∀ x ∈ s.ch[ch].aq, ¬(x.tagv = true ∧ x.origin = .newel n ∧ x.tag = k.val)
  let o := evOff n k (slotOffset r)
  Answers (.cancel n) s (fun t => t.nwl[n].lateQ = [] ∧ t.nwl[n].convQ = [] ∧ t.nwl[n].conv = none ∧ t.nwl[n].reofferQ = []
      ∧ t.nwl[n].reevalQ = [] ∧ t.bt (nwlOff n NWL.EVEVT) 5 = true
      ∧ slotState t n k = (if slotState s n k = 2 then (if slotLive s n k then 1 else 0) else slotState s n k)
      ∧ (slotState s n k = 2 → onCancel k = false → t.fl (evOff n k EV.LATE) 22 8 = slotInst s n k % 256 ∧ t.fl (evOff n k EV.ANG) 25 2 = 3)
      ∧ t.nwl[n].barred = true
      ∧ (∀ x ∈ t.nwl[n].cancelQ, slotLive s n x.slot = true ∧ onCancel x.slot = true ∧ x.cancel = true)
      ∧ (k ∈ slotsOn s n → slotLive s n k = true → slotState s n k = 1 ∨ slotState s n k = 2 → onCancel k = true →
          slotDone s n k (instNext s n (slotAng s n k)) = false → ∃ x ∈ t.nwl[n].cancelQ, x.slot = k))
  ∧ (w.cancelQ = [] → Answers (.cancelOffer n) s (fun t => t = s))
  ∧ (∀ x q, w.cancelQ = x :: q → x.slot = k → slotDone s n k x.inst = false → free → Answers (.cancelOffer n) s (fun t => t.nwl[n].cancelQ = q
      ∧ t.ch[ch].aq = aqInsert s.near (offerEntry s n { x with tgt := s.tb.tb.toNat * 32 }) s.ch[ch].aq
      ∧ slotState t n k = (if x.frz then 3 else 2)))
  ∧ Answers (.slotWrite a n k r v) s (fun t => t.rd o &&& slotMask r = v &&& slotMask r
      ∧ (v &&& ~~~slotMask r ≠ 0 ∨ (r = .cfg ∧ 10 ≤ fld v 8 4) → Raised t FS.RSVD_WRITE)
      ∧ (r = .cfg → s.bt (evOff n k EV.CFG) 7 = false → bit v 7 = true → t.fl (evOff n k EV.LATE) 22 8 = (w.cycnum + 128) % 256)
      ∧ (slotState s n k = 3 ∨ r = .late → slotState t n k = slotState s n k ∧ t.nwl = s.nwl ∧ t.ch = s.ch)
      ∧ (slotState s n k ≠ 3 → r ≠ .late → slotLive t n k = false → slotState t n k = 0 ∧ k ∉ t.nwl[n].reevalQ)
      ∧ (slotState s n k ≠ 3 → r ≠ .late → slotLive t n k = true →
          slotState t n k = (if slotState s n k = 0 then 1 else slotState s n k)
          ∧ (w.on = true → w.state = .sync → k ∈ t.nwl[n].reevalQ)))
  ∧ (schedOn s n = false ∨ curPred w = false ∨ w.offerAt = s.now → Answers (.reEvaluation n) s (fun t => t = s))
  ∧ (∀ q, schedOn s n = true → curPred w = true → w.offerAt ≠ s.now → w.reevalQ = k :: q → free → inWindow s n k = true →
      ¬(0 < slotAhead s n k ∧ slotAhead s n k ≤ advNow s n) → Answers (.reEvaluation n) s (fun t => t.nwl[n].reevalQ = q
        ∧ t.ch[ch].aq = aqInsert s.near (offerEntry s n (convOffer s n k)) s.ch[ch].aq
        ∧ slotState t n k = (if commitReached s n k then 3 else 2)))
  ∧ (∀ q, schedOn s n = true → curPred w = true → w.offerAt ≠ s.now → w.reevalQ = k :: q → free → 0 < slotAhead s n k →
      slotAhead s n k ≤ advNow s n → slotDone s n k (instAhead s n (slotAng s n k)) = false →
      advNow s n - slotAhead s n k ≤ slotLatemax s n k → Answers (.reEvaluation n) s (fun t => t.nwl[n].reevalQ = q
        ∧ t.ch[ch].aq = aqInsert s.near (offerEntry s n
            { slot := k, tgt := convTarget s n (slotAhead s n k), inst := instAhead s n (slotAng s n k), frz := false, late := true, cancel := false })
            s.ch[ch].aq
        ∧ slotState t n k = 2 ∧ t.bt (nwlOff n NWL.EVEVT) 1 = true))
  ∧ (∀ q, schedOn s n = true → curPred w = true → w.offerAt ≠ s.now → w.reevalQ = k :: q → slotLive s n k = true →
      slotState s n k = 1 ∨ slotState s n k = 2 → 0 < slotAhead s n k → slotAhead s n k ≤ advNow s n →
      slotDone s n k (instAhead s n (slotAng s n k)) = false → slotLatemax s n k < advNow s n - slotAhead s n k → q = [] →
      Answers (.reEvaluation n) s (fun t => slotState t n k = 1 ∧ t.bt (nwlOff n NWL.EVEVT) 2 = true
        ∧ t.fl (evOff n k EV.LATE) 22 8 = instAhead s n (slotAng s n k) % 256))
  ∧ Answers (.evlastTRead a n) s (fun t => (a = .host → t.rdHost = s.rd (nwlOff n NWL.EVLAST_T)) ∧ t.regs = s.regs ∧ t.nwl = s.nwl
      ∧ t.lat? a (nwlOff n NWL.EVLAST_X) = s.rd (nwlOff n NWL.EVLAST_X))

/-! ## Engines, lanes and the patch store (chapters 07, 09) -/

/-- R171, R172, R173, R174, R175, R177, R185, R186, R192, R199: a service request makes a thread pending, merges or is discarded; a dispatch
loads the bank from the context, a higher level pre-empts, a wait on a lane ends with its result word, and threads are configured,
timed and asked for service through FEe_TH, the wake timers and the mailboxes.
The model's choices that it rests on: log entries 10, 50. -/
def Obligations.ThreadScheduling : Prop := ∀ (s : State) (a : Agent) (e : Fin 8) (k : Fin 32) (b : Fin 4) (j : Fin 8) (src : SrqSource) (v : Word),
  let id := srqId src
  let keep : Word := if 6 ≤ e.val then 0xBFFFF else 0x3FFFF
  (thState s e k = TS.DISABLED → Answers (.srqArrival e k src) s (fun t => t.bt (feOff e FE.EVT) 4 = true ∧ t.eng = s.eng
      ∧ t.rd (tstatOff e k) = s.rd (tstatOff e k) ∧ (s.bt (feOff e FE.EVT) 4 = false → Raised t FS.FE_SRQ_DISCARD)))
  ∧ (thState s e k ≠ TS.DISABLED → Answers (.srqArrival e k src) s (fun t => thPend t e k = true ∧ t.bt (tstatOff e k) (16 + id.1) = true
      ∧ thState t e k = thState s e k ∧ (thState s e k = TS.IDLE → (s.ticks + s.samples 1, Later.threadReady e k) ∈ t.later)
      ∧ (thPend s e k = false → t.fl (tstatOff e k) 8 8 = s.fl (tstatOff e k) 8 8)
      ∧ (thPend s e k = true → t.fl (tstatOff e k) 8 8 = min 255 (s.fl (tstatOff e k) 8 8 + 1))
      ∧ (s.fl (tstatOff e k) 16 6 = 0 → (t.eng[e].first[k]).1 = BitVec.ofNat 32 (id.2 + id.1 * 256))
      ∧ (∀ g l, t.bank g l = s.bank g l) ∧ t.mem = s.mem))
  ∧ (thState s e k = TS.IDLE → thPend s e k = true → threadReady s e k = setThState s e k TS.READY)
  ∧ (∀ d, s.eng[e].level = some b → s.eng[e].disp = some d → feRun s e = true → (s.bank e b).thread = none → readyThread s e b = some k →
      Answers (.threadDispatch e) s (fun t =>
        t.bank e b = { s.bank e b with
          thread := some k, wait := none, rep := none, run := none, tail := none, cause := BitVec.ofNat 32 (s.fl (tstatOff e k) 16 6)
          causeid := if s.fl (tstatOff e k) 16 6 = 0 then 0 else (s.eng[e].first[k]).1
          pc := (s.memWord (ctxOff e k 0)).setWidth 16, sp := (s.memWord (ctxOff e k 1)).setWidth 16
          splim := (s.rd (splimOff e k)).setWidth 16 }
        ∧ thState t e k = TS.RUNNING ∧ thPend t e k = false ∧ t.fl (tstatOff e k) 16 6 = 0 ∧ t.eng[e].disp = none))
  ∧ (∀ d, s.eng[e].level = some b → s.eng[e].disp = some d → feRun s e = true → (s.bank e b).thread = some k → (s.bank e b).wait = none →
      Answers (.threadDispatch e) s (fun t => t.bank e b = s.bank e b ∧ thState t e k = TS.RUNNING ∧ t.eng[e].disp = none))
  ∧ (s.eng[e].disp = none → Answers (.threadDispatch e) s (fun t => t = s))
  ∧ (∀ p, preempts s e = true → executing s e = some b → (s.bank e b).thread = some k → thState s e k = TS.RUNNING → pick s e = some p →
      Answers (.preemption e) s (fun t => thState t e k = TS.PREEMPTED ∧ t.eng[e].level = some p ∧ t.eng[e].disp ≠ none
        ∧ t.bank e b = { (s.bank e b).flush with run := none } ∧ ∀ g l, ¬(g = e ∧ l = b) → t.bank g l = s.bank g l))
  ∧ (preempts s e = false → Answers (.preemption e) s (fun t => t = s))
  ∧ (∀ x c rd, (s.bank e b).wait = some (.lane x c rd) → laneCond s x c = true → feRun s e = true →
      Answers (.lwaitRelease e b) s (fun t =>
        (t.bank e b).wait = none ∧ (∀ m, (s.bank e b).thread = some m → thState t e m = TS.PREEMPTED)
        ∧ ((s.bank e b).run = none →
            t.bank e b = { ((s.bank e b).put rd (lwaitResult s x false)).flush with wait := none, pc := nextPc s e b 2 })
        ∧ ∀ g l, ¬(g = e ∧ l = b) → t.bank g l = s.bank g l))
  ∧ (∀ x c rd, (s.bank e b).wait = some (.lane x c rd) → laneCond s x c = false ∨ feRun s e = false → Answers (.lwaitRelease e b) s (fun t => t = s))
  ∧ (wakeDue s e j = true → Answers (.wakeTimerFire e j) s (fun t => t.bt (wakeC e j) 8 = false ∧ t.eng = s.eng
      ∧ ⟨s.ticks, .srqArrival e (Fin.ofNat 32 (s.fl (wakeC e j) 0 5)) (.wake j)⟩ ∈ t.agenda))
  ∧ (wakeDue s e j = false → Answers (.wakeTimerFire e j) s (fun t => t = s))
  ∧ Answers (.mbxdb a e v) s (fun t => t.eng = s.eng
      ∧ (isPort a = false ∨ bit v j.val = false → t.bt (feOff e FE.MBXSTAT) j.val = s.bt (feOff e FE.MBXSTAT) j.val)
      ∧ (isPort a = true → bit v j.val = true → t.bt (feOff e FE.MBXSTAT) j.val = true
          ∧ (s.bt (feOff e FE.MBXCFG) 8 = true →
              ⟨s.ticks, .srqArrival e (Fin.ofNat 32 (s.fl (feOff e FE.MBXCFG) 0 5)) (.mbx j)⟩ ∈ t.agenda)))
  ∧ Answers (.mbxack a e v) s (fun t => t.eng = s.eng ∧ t.agenda = s.agenda
      ∧ (bit v j.val = true → t.bt (feOff e FE.MBXSTAT) j.val = false ∧ t.bt (feOff e FE.MBXSTAT) (8 + j.val) = true)
      ∧ (bit v j.val = false → t.bt (feOff e FE.MBXSTAT) j.val = s.bt (feOff e FE.MBXSTAT) j.val
          ∧ t.bt (feOff e FE.MBXSTAT) (8 + j.val) = s.bt (feOff e FE.MBXSTAT) (8 + j.val)))
  ∧ Answers (.threadConfigWrite a e k v) s (fun t => thEn t e k = bit v 18
      ∧ (feRun s e = false → t.rd (thOff e k) &&& keep = v &&& keep)
      ∧ (feRun s e = true → t.rd (thOff e k) &&& keep = s.rd (thOff e k) &&& keep
          ∧ Raised t FS.FE_CFG ∧ t.bt (feOff e FE.EVT) 6 = true)
      ∧ (thEn s e k = false → bit v 18 = true → (t.memWord (ctxOff e k 0)).setWidth 16 = thEntry t e k
          ∧ (thState s e k = TS.DISABLED → thState t e k = TS.IDLE))
      ∧ (thEn s e k = true → bit v 18 = false → thState s e k = TS.IDLE ∨ thState s e k = TS.READY →
          thState t e k = TS.DISABLED ∧ thPend t e k = false)
      ∧ (thEn s e k = true → bit v 18 = false → thState s e k ≠ TS.IDLE → thState s e k ≠ TS.READY → thState t e k = thState s e k))

/-- R178, R179, R182, R184, R423: an engine starts, stops and is reset; a GO starts the engines that it names together; a barrier releases
its waiters, times out, or has its mask changed under them; and a breakpoint halts the engine.
The model's choices that it rests on: log entries 10, 55, 56. -/
def Obligations.RunControl : Prop := ∀ (s : State) (a : Agent) (e : Fin 8) (b : Fin 8) (v : Word),
  let up : Prop := feRun s e = true ∧ feStopping s e = false
  let waits (g : Fin 8) (l : Fin 4) (rd : Fin 16) : Prop := (s.bank g l).wait = some (.bar b rd)
  let freed (t : State) (code : Word) (p : Fin 8 → Prop) : Prop :=
    (∀ g l rd, waits g l rd → p g → (t.bank g l).wait = none
      ∧ ((s.bank g l).run = none → ∃ pc, t.bank g l = { ((s.bank g l).put rd code).flush with wait := none, pc := pc }))
    ∧ (∀ g l, ¬(p g ∧ ∃ rd, waits g l rd) → t.bank g l = s.bank g l)
  (up → Answers (.feStart a e) s (fun t => t = s))
  ∧ (¬up → startRefused s e = true → Answers (.feStart a e) s (fun t => t.bt (feOff e FE.EVT) 6 = true ∧ Raised t FS.FE_CFG
      ∧ t.eng = s.eng ∧ feRun t e = feRun s e))
  ∧ (¬up → startRefused s e = false → loading s = false → Answers (.feStart a e) s (fun t =>
      t = s.updEng e (fun x => if feHalted s e then { x with wasRun := true } else { x with startNext := true })))
  ∧ (¬up → startRefused s e = false → loading s = true → Answers (.feStart a e) s (fun t =>
      t = { s with patch := { s.patch with heldStart := s.patch.heldStart ++ [e] } }))
  ∧ (up → Answers (.feStop a e) s (fun t => feStopping t e = true ∧ feRun t e = true ∧ t.eng[e].stopAt = s.now
      ∧ ∀ l, t.bank e l = s.bank e l))
  ∧ (¬up → Answers (.feStop a e) s (fun t => t.eng[e].startNext = false ∧ t.regs = s.regs))
  ∧ (feRun s e = true → feStopping s e = true → Answers (.feStopComplete e) s (fun t => feRun t e = false ∧ feStopping t e = false
      ∧ t.eng[e].level = none
      ∧ (∀ l, (s.bank e l).wait = none → t.bank e l = (s.bank e l).abandon)
      ∧ (∀ l, (s.bank e l).wait ≠ none → (t.bank e l).wait = none ∧ (t.bank e l).thread = (s.bank e l).thread
          ∧ t.bt (feOff e FE.EVT) 5 = true)
      ∧ (s.eng[e].haltReq = true → feHalted t e = true ∧ t.eng[e].haltReq = false)
      ∧ (s.eng[e].haltReq = false → feHalted t e = feHalted s e)))
  ∧ (feRun s e = false ∨ feStopping s e = false → Answers (.feStopComplete e) s (fun t => t = s))
  ∧ (feRun s e = true ∨ feStopping s e = true → Answers (.feReset a e) s (fun t => t.bt (feOff e FE.EVT) 6 = true ∧ Raised t FS.FE_CFG
      ∧ t.eng = s.eng))
  ∧ (feRun s e = false → feStopping s e = false → Answers (.feReset a e) s (fun t =>
      (∀ l, t.bank e l = { s.bank e l with thread := none, wait := none, rep := none, load := none, run := none, tail := none })
      ∧ ∀ k, thPend t e k = false ∧ t.fl (tstatOff e k) 16 6 = 0
          ∧ (thEn s e k = true → thState t e k = TS.IDLE ∧ (t.memWord (ctxOff e k 0)).setWidth 16 = thEntry s e k)
          ∧ (thEn s e k = false → thState t e k = TS.DISABLED)))
  ∧ (goStopped s v ≤ 2 → Answers (.feGoWrite a v) s (fun t => t.bt (feGlobOff FE.GOSTAT) 0 = true
      ∧ t.go = some ⟨v &&& 0x1FFFFFF, false, if bit v 24 then none else some (s.ticks + 2)⟩))
  ∧ (2 < goStopped s v → vestRefusing s = true → (∀ q ∈ s.vest.queue, q.kind ≠ .go) → Answers (.feGoWrite a v) s (fun t =>
      t.go = none ∧ t.bt (feGlobOff FE.GOSTAT) 0 = false ∧ t.bt R.VEST_EVT 0 = true ∧ Raised t FS.VEST_REFUSED))
  ∧ (∀ g, s.go = some g → g.waits = false → Answers .goAct s (fun t => t.go = none ∧ t.bt (feGlobOff FE.GOSTAT) 0 = false
      ∧ t.bt (feGlobOff FE.GOSTAT) 1 = true
      ∧ (bit g.v e.val = true → feRun s e = false → feStopping s e = false → feHalted s e = false → startRefused s e = false → feRun t e = true)
      ∧ (bit g.v e.val = false → feRun t e = feRun s e ∧ t.eng[e] = s.eng[e])))
  ∧ ((∀ g, s.go = some g → g.waits = true) → Answers .goAct s (fun t => t = s))
  ∧ Answers (.barrierRelease b) s (fun t => t.fl (barOff b) 8 8 = 0 ∧ freed t 0 (fun _ => True))
  ∧ ((barComplete s b && s.hasDue (.barrierRelease b)) = false → Answers (.barrierTimeout b) s (fun t => t.fl (barOff b) 8 8 = 0
      ∧ freed t 1 (fun _ => True) ∧ t.bt (feGlobOff FE.BAREVT) b.val = true ∧ Raised t FS.FE_BAR_TIMEOUT))
  ∧ ((barComplete s b && s.hasDue (.barrierRelease b)) = true → Answers (.barrierTimeout b) s (fun t =>
      t = s.after 1 (.barrierTimeout b)))
  ∧ Answers (.barMaskWrite a b v) s (fun t => t.fl (barOff b) 0 8 = fld v 0 8 ∧ t.fl (barOff b) 16 16 = fld v 16 16
      ∧ t.fl (barOff b) 8 8 = s.fl (barOff b) 8 8 ∧ t.eng = s.eng ∧ (s.ticks + s.samples 1, Later.barMask b) ∈ t.later)
  ∧ ((barMask s b).fl (barOff b) 8 8 = s.fl (barOff b) 8 8 &&& s.fl (barOff b) 0 8
      ∧ freed (barMask s b) 3 (fun g => s.bt (barOff b) g.val = false))
  ∧ (∀ l, executing s e = some l → bpMatch s e (s.bank e l).pc = true → Answers (.breakpointHit e) s (fun t =>
      t.bt R.DBG_STAT e.val = true ∧ feStopping t e = true ∧ t.eng[e].haltReq = true ∧ t.bank e l = s.bank e l))
  ∧ (executing s e = none → Answers (.breakpointHit e) s (fun t => t = s))

/-- R189, R191, R193, R194, R201: the commands of a Runner lane: an enable takes the lane's pins or is refused when they clash, a disable
frees them; TXBUF takes a word or loses it, RXBUF gives the oldest; START, CONT, RESET and DIVRST; and the pause after a stop.
The model's choices that it rests on: log entries 10, 60. -/
def Obligations.LaneCommands : Prop := ∀ (s : State) (a : Agent) (k : Fin 16) (v : Word),
  let l := s.lane[k]
  let s' := s.wr (lnOff k LN.CTRL) (setBit v 0 true &&& 0x7FFFF)
  let refused : Prop := ((s.lane[laneTwin k]).on = true ∧ ∃ n ∈ lanePins s' k, n ∈ lanePins s' (laneTwin k))
    ∨ (laneClk s' k = 2 ∧ k.val % 2 = 0)
  (l.on = false → ¬refused → Answers (.laneEnable a k v) s (fun t => t.lane[k] = { l with on := true, clk := laneCpol s' k, frm := false }
      ∧ t.rd (lnOff k LN.CTRL) = setBit v 0 true &&& 0x7FFFF
      ∧ ∀ n ∈ lanePins s' k, t.ch[n].laneOwn = true ∧ t.ch[n].laneOut ≠ none))
  ∧ (l.on = false → refused → Answers (.laneEnable a k v) s (fun t => t.lane = s.lane ∧ t.bt (lnOff k LN.CTRL) 0 = false
      ∧ t.bt (lnOff k LN.EVT) 3 = true ∧ Raised t FS.LN_CFG ∧ t.ch = s.ch))
  ∧ (l.on = true → Answers (.laneEnable a k v) s (fun t => t.lane = s.lane ∧ t.rd (lnOff k LN.CTRL) = setBit v 0 true &&& 0x7FFFF))
  ∧ Answers (.laneDisable a k) s (fun t => t.bt (lnOff k LN.CTRL) 0 = false ∧ (∀ i, i ≠ k → t.lane[i] = s.lane[i])
      ∧ (l.on = true → t.lane[k].on = false ∧ t.lane[k].sh = none ∧ t.lane[k].paused = false ∧ t.lane[k].rx = l.rx ∧ t.lane[k].txb = l.txb
          ∧ ∀ n ∈ lanePins s k, t.ch[n].laneOwn = false ∧ t.ch[n].laneOut = none)
      ∧ (l.on = false → t.lane[k] = l))
  ∧ (l.txb = none → Answers (.txbufWrite a k v) s (fun t => t = s.updLane k (fun x => { x with txb := some v })))
  ∧ (l.txb ≠ none → Answers (.txbufWrite a k v) s (fun t => t.lane = s.lane ∧ t.bt (lnOff k LN.EVT) 2 = true
      ∧ (s.bt (lnOff k LN.EVT) 2 = false → Raised t FS.LN_OVR)))
  ∧ (l.rx = [] → Answers (.rxbufRead a k) s (fun t => t.lane = s.lane ∧ t.regs = s.regs ∧ (a = .host → t.rdHost = 0)))
  ∧ (∀ w q, l.rx = w :: q → Answers (.rxbufRead a k) s (fun t => t.lane[k] = { l with rx := q } ∧ t.regs = s.regs
      ∧ (a = .host → t.rdHost = w) ∧ ∀ i, i ≠ k → t.lane[i] = s.lane[i]))
  ∧ (l.on = true → laneMode s k = 1 → laneClk s k = 0 → Answers (.laneStart a k) s (fun t =>
      t = s.updLane k (fun x => { x with start := true })))
  ∧ (l.on = false ∨ laneMode s k ≠ 1 ∨ laneClk s k ≠ 0 → Answers (.laneStart a k) s (fun t => t = s))
  ∧ (l.stop = true → l.drv = true → Answers (.lanePause k) s (fun t =>
      t = s.updLane k (fun x => { x with stop := false, paused := true })))
  ∧ (l.stop = false ∨ l.drv = false → Answers (.lanePause k) s (fun t => t = s))
  ∧ (l.paused = true → Answers (.cont a k) s (fun t => t = s.updLane k (fun x => { x with paused := false, at' := s.ticks + 1 })))
  ∧ (l.paused = false → Answers (.cont a k) s (fun t => t = s))
  ∧ (l.sh ≠ none → l.drv = false → Answers (.divrst a k) s (fun t =>
      t = s.updLane k (fun x => { x with at' := s.ticks + 1 + laneH s k })))
  ∧ (l.sh = none → Answers (.divrst a k) s (fun t => t = s))
  ∧ Answers (.laneReset a k) s (fun t => t.lane[k].txb = none ∧ t.lane[k].rx = [] ∧ t.lane[k].sh = none ∧ t.lane[k].frm = false
      ∧ t.lane[k].clk = laneCpol s k ∧ t.lane[k].paused = false ∧ t.lane[k].on = l.on ∧ t.fl (lnOff k LN.STAT) 8 5 = 0
      ∧ ∀ i, i ≠ k → t.lane[i] = s.lane[i])

/-- R190, R191: the words of a lane: a word starts with its frame and its first boundary H ticks on; an external clock edge samples or
drives a bit; a start edge opens a word received without a clock; a completed word is delivered and compared; and in PULSE mode the
interval between falling edges is a word.
The model's choices that it rests on: log entries 10, 60. -/
def Obligations.LaneWords : Prop := ∀ (s : State) (k : Fin 16) (e : EdgeInfo) (level : Bool),
  let l := s.lane[k]
  let samples := (level != laneCpol s k) != laneCpha s k
  let clocked : Prop := l.on = true ∧ laneClk s k = 1
  let delivered (t : State) (w : Word) : Prop := t.bt (lnOff k LN.EVT) 0 = true
    ∧ (l.rx.length < 2 → t.lane[k].rx = l.rx ++ [w])
    ∧ (2 ≤ l.rx.length → t.lane[k].rx = l.rx ∧ t.bt (lnOff k LN.EVT) 2 = true
        ∧ t.fl (lnOff k LN.STAT) 16 8 = min 255 (s.fl (lnOff k LN.STAT) 16 8 + 1))
  (laneCanStart s k = true → Answers (.laneWordStart k) s (fun t => t.lane[k].half = 1 ∧ t.lane[k].at' = s.ticks + laneH s k
      ∧ t.lane[k].bits = 0 ∧ t.lane[k].frm = (laneClk s k == 0 || laneClk s k == 3) ∧ t.regs = s.regs
      ∧ (laneMode s k = 0 → t.lane[k].sh = some (l.txb.getD 0) ∧ t.lane[k].txb = none)
      ∧ (laneMode s k = 1 → t.lane[k].sh = some 0 ∧ t.lane[k].start = false)))
  ∧ (laneCanStart s k = false → Answers (.laneWordStart k) s (fun t => t = s))
  ∧ (clocked → laneMode s k = 1 → s.bt (lnOff k LN.CTRL) 13 = false → samples = true → l.done = false → l.smp = false →
      Answers (.laneClockEdge k level) s (fun t => t.lane[k].bits = l.bits + 1 ∧ t.lane[k].done = decide (l.bits + 1 = laneWidth s k)
        ∧ t.lane[k].sh = some (laneShiftIn s k (l.sh.getD 0) l.bits (laneIn s (lanePin s k 0)))))
  ∧ (∀ w, clocked → laneMode s k = 0 → l.sh = some w → samples = false → l.done = false → l.smp = false → l.driven < laneWidth s k →
      Answers (.laneClockEdge k level) s (fun t => t.lane[k] = { l with dat := laneBit s k w l.driven, driven := l.driven + 1 }))
  ∧ (∀ w, clocked → laneMode s k = 0 → l.sh = some w → samples = true → l.done = false → l.smp = false → l.bits < l.driven →
      Answers (.laneClockEdge k level) s (fun t => t.lane[k].bits = l.bits + 1 ∧ t.lane[k].sh = some w
        ∧ t.lane[k].done = decide (l.bits + 1 = laneWidth s k)))
  ∧ (¬clocked → Answers (.laneClockEdge k level) s (fun t => t = s))
  ∧ (l.on = true → laneMode s k = 1 → laneClk s k = 3 → l.sh = none → e.level = false → Answers (.laneRxStartEdge k e) s (fun t =>
      t = s.updLane k (fun x => { x with sh := some 0, half := 1, at' := s.ticks + laneH s k, bits := 0, smp := false })))
  ∧ (e.level = true ∨ l.sh ≠ none ∨ l.on = false → Answers (.laneRxStartEdge k e) s (fun t => t = s))
  ∧ (l.done = true → laneMode s k = 1 → Answers (.laneWordComplete k) s (fun t => delivered t (l.sh.getD 0) ∧ t.lane[k].done = false
      ∧ t.lane[k].bits = 0 ∧ t.fl (lnOff k LN.STAT) 8 5 = 0
      ∧ ((l.sh.getD 0 ^^^ s.rd (lnOff k LN.CMP)) &&& s.rd (lnOff k LN.CMPMSK) = 0 → t.bt (lnOff k LN.EVT) 1 = true)))
  ∧ (l.done = true → laneMode s k ≠ 1 → Answers (.laneWordComplete k) s (fun t => t.bt (lnOff k LN.EVT) 0 = true ∧ t.lane[k].rx = l.rx
      ∧ t.lane[k].done = false ∧ t.lane[k].bits = 0 ∧ t.fl (lnOff k LN.STAT) 8 5 = 0))
  ∧ (l.done = false → Answers (.laneWordComplete k) s (fun t => t = s))
  ∧ (l.on = true → laneMode s k = 2 → e.level = false → l.fall = none → Answers (.pulseEdge k e) s (fun t =>
      t = s.updLane k (fun x => { x with fall := some s.tb.counted })))
  ∧ (∀ u, l.on = true → laneMode s k = 2 → e.level = false → l.fall = some u →
      let n := min 0xFFFFFF (s.tb.counted - u)
      let big := decide (s.fl (lnOff k LN.CMP) 0 24 ≤ n)
      Answers (.pulseEdge k e) s (fun t => t.lane[k].fall = some s.tb.counted
        ∧ delivered t (BitVec.ofNat 32 (n + big.toNat * 2 ^ 24 + (decide (0xFFFFFF < s.tb.counted - u)).toNat * 2 ^ 25))
        ∧ (big = true → t.bt (lnOff k LN.EVT) 1 = true)))
  ∧ (l.on = false ∨ laneMode s k ≠ 2 ∨ e.level = true → Answers (.pulseEdge k e) s (fun t => t = s))

/-- R254, R255, R256, R257, R259: Brotis: a LOAD verifies the staged container, and is refused while an engine runs, a load is in progress
or fuses are written; a container that fails a check changes nothing of the patch, one that passes takes effect, and the starts held during a
load follow; UNLOAD, ADVSVN with its fuse steps, and CHESTWR, whose container goes to the Chest after its checks.
The model's choices that it rests on: log entries 5, 7, 10, 93. -/
def Obligations.Brotis : Prop := ∀ (s : State) (c : Check) (rest : List Check),
  let refused (t : State) : Prop := t.fl R.MC_STAT 4 4 = MC.BUSY ∧ Raised t FS.MC_LOAD_REFUSED ∧ t.patch = s.patch
  let verifies (t : State) (chestwr : Bool) : Prop := ⟨stagedBtc s, chestwr, false, s.ticks + 1000000⟩ ∈ t.patch.checks
    ∧ t.patch.match' = s.patch.match' ∧ fld (mcStat t) 0 2 = 1 ∧ ⟨s.ticks + 1000000, .patchActivate⟩ ∈ t.agenda
  let kept (t : State) : Prop := t.patch.checks = rest ∧ t.patch.match' = s.patch.match' ∧ t.patch.words = s.patch.words
    ∧ t.rd R.MC_VER = s.rd R.MC_VER
  (anyEngine s = true ∨ loading s = true ∨ s.patch.fusing = true → Answers .mcLoad s refused)
  ∧ (anyEngine s = false → loading s = false → s.patch.fusing = false → Answers .mcLoad s (fun t => verifies t false))
  ∧ (anyEngine s = true → Answers .unload s refused)
  ∧ (anyEngine s = false → Answers .unload s (fun t => t.patch.match' = [] ∧ t.patch.pfeat = 0 ∧ t.rd R.MC_VER = 0x01000000
      ∧ t.fl R.MC_STAT 4 4 = MC.OK))
  ∧ (s.patch.checks = [] → Answers .patchActivate s (fun t => t = s))
  ∧ (∀ r, s.patch.checks = c :: rest → btcCheck s c.btc = .error r → Answers .patchActivate s (fun t => t.fl R.MC_STAT 4 4 = r % 16
      ∧ kept t ∧ Raised t (if c.fromChest && !c.chestwr then FS.MC_LOAD_FAIL else FS.MC_LOAD_REFUSED)))
  ∧ (∀ ws, s.patch.checks = c :: rest → btcCheck s c.btc = .ok ws → c.chestwr = false → Answers .patchActivate s (fun t =>
      t.patch.match' = (ws.take (btcMatch c.btc)).map (fun w => (w % 2 ^ 14, w / 2 ^ 16 % 256))
      ∧ t.patch.words = ws.drop (btcMatch c.btc) ∧ t.patch.checks = rest ∧ t.patch.heldStart = []
      ∧ t.fl R.MC_STAT 4 4 = MC.OK ∧ t.bt R.MC_VER 24 = true ∧ t.fl R.MC_VER 30 2 = (if c.fromChest then 1 else 2)
      ∧ ∀ e ∈ s.patch.heldStart, ⟨s.ticks + s.samples 1, .feStart .host e⟩ ∈ t.agenda))
  ∧ (∀ ws, s.patch.checks = c :: rest → btcCheck s c.btc = .ok ws → c.chestwr = true →
      (chestBusy s = true → Answers .patchActivate s (fun t => { c with ends := s.ticks + 400 } ∈ t.patch.checks
        ∧ t.patch.match' = s.patch.match' ∧ ⟨s.ticks + 400, .patchActivate⟩ ∈ t.agenda))
      ∧ (chestBusy s = false → vestRefusing s = false → s.vest.queue.length < 8 → Answers .patchActivate s (fun t => kept t
        ∧ t.patch.chestwr = true ∧ t.bt R.CHEST_STAT 0 = true
        ∧ ∃ row, t.chestCtl.op = some (.write 0x1000 row true) ∧ row.length = (btcLen c.btc + 7) / 8 * 2))
      ∧ (chestBusy s = false → vestRefusing s = true → Answers .patchActivate s (fun t => kept t ∧ t.patch.chestwr = false
        ∧ t.fl R.MC_STAT 4 4 = MC.CHEST ∧ t.bt R.CHEST_STAT 0 = false)))
  ∧ (s.patch.fusing = true → Answers .advsvn s (fun t => t.fl R.MC_STAT 4 4 = MC.BUSY ∧ t.patch = s.patch))
  ∧ (s.patch.fusing = false → s.bt (fsrcStat FS.SUPPLY_WARN) 17 = true ∨ s.fl R.MC_VER 16 7 ≤ fuseCnt s → Answers .advsvn s (fun t =>
      t.fl R.MC_STAT 4 4 = MC.FUSE ∧ t.patch = s.patch))
  ∧ (s.patch.fusing = false → s.bt (fsrcStat FS.SUPPLY_WARN) 17 = false → fuseCnt s < s.fl R.MC_VER 16 7 → Answers .advsvn s (fun t =>
      t.patch = { s.patch with fusing := true } ∧ ⟨s.ticks + 80000, .fuseStep⟩ ∈ t.agenda))
  ∧ (chestWriting s = true → Answers .chestwr s (fun t => t.fl R.MC_STAT 4 4 = MC.BUSY ∧ t.patch = s.patch))
  ∧ (chestWriting s = false → Answers .chestwr s (fun t => verifies t true))
  ∧ (s.patch.fusing = false → Answers .fuseStep s (fun t => t = s))
  ∧ (s.patch.fusing = true → Answers .fuseStep s (fun t => t.patch.fuses = s.patch.fuses + 1
      ∧ (fuseCnt t < s.fl R.MC_VER 16 7 → t.patch.fusing = true ∧ ⟨s.ticks + 80000, .fuseStep⟩ ∈ t.agenda)
      ∧ (s.fl R.MC_VER 16 7 ≤ fuseCnt t → t.patch.fusing = false ∧ t.fl R.MC_STAT 4 4 = MC.OK)))

/-! ## Rings, descriptors and capture (chapters 10, 11) -/

/-- R262, R263, R264, R265, R266, R276, R283, R287, R288, R444: a ring as its owner drives it: the enable with its checks, the disable and its
drain, doorbells, arrived descriptors, ABORT, RESUME, ATTACH and REARM, and the interrupt timer.
The model's choices that it rests on: log entries 10, 19, 74. -/
def Obligations.RingControl : Prop := ∀ (s : State) (a : Agent) (r : Fin 64) (v : Word) (ok : Bool) (ws : List Word),
  let st := ringState s r
  let locked : Prop := a = .host ∧ supLocked s r = true
  let head := s.rd (ringOff r RING.HEAD)
  let tail := s.rd (ringOff r RING.TAIL)
  let dn := s.rd (ringOff r RING.DONE)
  let own : Prop := ownerProduced s r = true
  let busy (s : State) : Prop := s.rd (ringOff r RING.DONE) ≠ s.rd (ringOff r RING.TAIL)
  let fits : Prop := (own → (v - dn).toNat ≤ ringN s r ∧ (v - tail).toNat ≤ ringN s r)
    ∧ (¬own → (v - head).toNat ≤ (tail - head).toNat)
  let s' := s.wr (ringOff r RING.CFG) (setBit (s.rd (ringOff r RING.CFG) &&& 0x3FFFFF) 0 false)
  (st = 0 → ¬locked → ringEnableOk s' r = true → Answers (.ringEnable a r) s (fun t => ringState t r = 1 ∧ t.bt (ringOff r RING.CFG) 0 = true
      ∧ t.rd (ringOff r RING.HEAD) = 0 ∧ t.rd (ringOff r RING.TAIL) = 0 ∧ t.rd (ringOff r RING.DONE) = 0
      ∧ t.ring[r] = { Ring.reset with flush := s.fl (capOff r CAP.FLUSH) 0 16 } ∧ ∀ k, k ≠ r → t.ring[k] = s.ring[k]))
  ∧ (st = 0 → ¬locked → ringEnableOk s' r = false → Answers (.ringEnable a r) s (fun t => ringState t r = 0
      ∧ t.bt (ringOff r RING.CFG) 0 = false ∧ t.bt (ringOff r RING.STAT) 16 = true ∧ Raised t FS.RING_CFG ∧ t.ring = s.ring))
  ∧ (st ≠ 0 → ¬locked → Answers (.ringEnable a r) s (fun t => t = s))
  ∧ (locked → Answers (.ringEnable a r) s (fun t => Raised t FS.RING_CFG ∧ t.ring = s.ring ∧ ringState t r = st)
      ∧ Answers (.ringDisable a r) s (fun t => Raised t FS.RING_CFG ∧ t.ring = s.ring ∧ ringState t r = st))
  ∧ (¬locked → Answers (.ringDisable a r) s (fun t => t.bt (ringOff r RING.CFG) 0 = false
      ∧ (st = 1 ∨ st = 2 ∨ st = 4 → ringState t r = 3 ∧ (own → t.ring[r].fetched = [] ∧ t.ring[r].asked = 0))
      ∧ (st = 5 → ringState t r = 0 ∧ t.ring[r].cur = none) ∧ (st = 0 ∨ st = 3 → ringState t r = st)))
  ∧ (drained s r = true → Answers (.drainEnd r) s (fun t => ringState t r = 0 ∧ t.ring = s.ring))
  ∧ (drained s r = false → Answers (.drainEnd r) s (fun t => t = s))
  ∧ (ownsRing s a r = true → st ≠ 0 → st ≠ 5 → fits → own → Answers (.doorbell a r v) s (fun t => t.rd (ringOff r RING.TAIL) = v
      ∧ t.rd (ringOff r RING.HEAD) = head ∧ t.rd (ringOff r RING.DONE) = dn ∧ t.ring = s.ring))
  ∧ (ownsRing s a r = true → st ≠ 0 → st ≠ 5 → fits → ¬own → Answers (.doorbell a r v) s (fun t => t.rd (ringOff r RING.HEAD) = v
      ∧ t.rd (ringOff r RING.TAIL) = tail ∧ t.rd (ringOff r RING.DONE) = dn))
  ∧ (ownsRing s a r = false ∨ st = 0 ∨ st = 5 ∨ ¬fits → Answers (.doorbell a r v) s (fun t => t.bt (ringOff r RING.STAT) 17 = true
      ∧ Raised t FS.RING_DB ∧ t.rd (ringOff r RING.TAIL) = tail ∧ t.rd (ringOff r RING.HEAD) = head ∧ t.ring = s.ring))
  ∧ (s.ring[r].asked ≠ 0 → st = 1 ∨ st = 2 ∨ st = 4 →
      Answers (.descriptorArrival r true ws) s (fun t => t.ring[r].fetched = s.ring[r].fetched ++ splitDescs s.ring[r].asked head ws
        ∧ t.ring[r].asked = 0 ∧ t.rd (ringOff r RING.HEAD) = head + BitVec.ofNat 32 s.ring[r].asked)
      ∧ Answers (.descriptorArrival r false ws) s (fun t => t.ring[r].fetched = [] ∧ t.ring[r].asked = 0
        ∧ t.rd (ringOff r RING.HEAD) = dn ∧ ringState t r = 4 ∧ t.bt (ringOff r RING.STAT) 18 = true ∧ Raised t FS.RING_HOSTERR))
  ∧ (s.ring[r].asked = 0 → Answers (.descriptorArrival r ok ws) s (fun t => t = s))
  ∧ (own → st = 1 ∨ st = 2 ∨ st = 4 → Answers (.abort a r) s (fun t => t.ring[r].fetched = [] ∧ t.ring[r].asked = 0
      ∧ t.rd (ringOff r RING.HEAD) = tail ∧ t.rd (ringOff r RING.TAIL) = tail ∧ t.rd (ringOff r RING.DONE) = tail ∧ ringState t r = 1
      ∧ (s.ring[r].cur = none → t.ring[r].cur = none)
      ∧ (∀ d, s.ring[r].cur = some d → d.waits = false → t.ring[r].cur = some { d with counts := false })))
  ∧ (¬own ∨ (st ≠ 1 ∧ st ≠ 2 ∧ st ≠ 4) → Answers (.abort a r) s (fun t => t = s))
  ∧ (st = 4 → own → Answers (.resume a r) s (fun t => (busy s → ringState t r = 2) ∧ (¬busy s → ringState t r = 1) ∧ t.ring = s.ring))
  ∧ (st = 4 → ¬own → Answers (.resume a r) s (fun t => ringState t r = (if tail = head then 1 else 2) ∧ t.ring = s.ring))
  ∧ (st ≠ 4 → Answers (.resume a r) s (fun t => t = s))
  ∧ (st = 5 → linkUp s = true → s.pcie.bme = true → Answers (.attach a r) s (fun t => (ringState t r = 1 ∨ ringState t r = 2)
      ∧ t.ring[r].fetched = [] ∧ (own → t.rd (ringOff r RING.HEAD) = dn + (if s.ring[r].cur.any (·.counts) then 1 else 0))))
  ∧ (st ≠ 5 ∨ linkUp s = false ∨ s.pcie.bme = false → Answers (.attach a r) s (fun t => t.bt (ringOff r RING.STAT) 16 = true
      ∧ ringState t r = st ∧ t.ring = s.ring))
  ∧ (s.bt (ringOff r RING.STAT) 3 = false → Answers (.rearm a r) s (fun t => t = s))
  ∧ (s.bt (ringOff r RING.STAT) 3 = true → Answers (.rearm a r) s (fun t => t.ring[r].cnt = 0 ∧ t.bt (ringOff r RING.STAT) 3 = decide (tail ≠ head)
      ∧ (tail ≠ head → (s.ticks + s.samples 1, Later.irqSend r) ∈ t.later)))
  ∧ (0 < s.ring[r].cnt → s.bt (ringOff r RING.STAT) 3 = false → s.bt (ringOff r RING.IRQ) 6 = true → Answers (.irqTimerExpiry r) s (fun t =>
      t.ring[r].cnt = 0 ∧ t.bt (ringOff r RING.STAT) 3 = true ∧ (s.ticks + s.samples 1, Later.irqSend r) ∈ t.later))
  ∧ (s.ring[r].cnt = 0 → Answers (.irqTimerExpiry r) s (fun t => t = s))

/-- R268, R269, R270, R271, R273, R314, R316, R317, R323: the descriptor at the head of a CMD or WAVE ring starts when its context is free;
one that fails a check ends with the status of the first, and a checked one does what its opcode says.
The model's choices that it rests on: log entries 10, 70, 71, 75. -/
def Obligations.DescriptorStarts : Prop := ∀ (s : State) (r : Fin 64) (ws : List Word), descHead s r = some ws →
  let st := descCheck s r ws
  let opc := opcOf ws
  let w1 := wd ws 1
  let port := ringPort s r
  let tx : Fin 8 := Fin.ofNat 8 (fld w1 0 3)
  let ended (t : State) (st : Nat) (res : Word) : Prop := ∃ d, t.ring[r].cur = some d ∧ d.ws = ws ∧ d.ended = true ∧ d.status = st ∧ d.result = res
  let runs (c : Instr) (k : Nat) (P : State → Prop) : Prop :=
    (opc = k → st ≠ ST.OK → Answers c s (fun t => ended t st 0 ∧ t.regs = s.regs ∧ t.mem = s.mem)) ∧ (opc = k → st = ST.OK → Answers c s P)
    ∧ (opc ≠ k → Answers c s (fun t => t = s))
  let moving := updDesc (startDesc s r) r (fun d => { d with moving := true })
  let now : Bool := hostOwned s r && accessFree s
  let served (xs : List (Nat × Word)) (t : State) : Prop := ∀ x q, xs = x :: q →
    let u := serveWrite (updDesc (takeAccess moving) r (fun d => { d with prog := 1 })) port x.1 15 x.2
    t = if now then (if q = [] then endDesc u r ST.OK 1 else u) else moving
  let staged (n : Fin 8) (xs : List (Nat × Word)) (t : State) : Prop :=
    let x := stageWrites s port n xs
    t.staged = x.2.staged ∧ ended t x.1 (if x.1 = ST.OK then BitVec.ofNat 32 xs.length else 0)
  let streams (t : State) : Prop := (∃ d, t.ring[r].cur = some d ∧ d.ws = ws ∧ d.moving = true ∧ d.ended = false ∧ d.dn = 0)
    ∧ t.gc[ringGc s r].work = some (r, .desc) ∧ t.rd (gcOff (ringGc s r) GC.REM) = BitVec.ofNat 32 (lenOf ws)
  runs (.descNop r) 0x00 (fun t => ended t ST.OK 0 ∧ t.regs = s.regs)
  ∧ runs (.descWrite r) 0x01 (fun t => (bit (wd ws 0) 14 = false → served (writesOf ws) t)
      ∧ (bit (wd ws 0) 14 = true → staged (Fin.ofNat 8 (fld w1 24 3)) (writesOf ws) t))
  ∧ runs (.writep r) 0x02 (fun t => (bit (wd ws 0) 14 = false → served (pairsOf ws) t)
      ∧ (bit (wd ws 0) 14 = true → staged (Fin.ofNat 8 (fld w1 4 3)) (pairsOf ws) t))
  ∧ runs (.descRead r) 0x03 (fun t => 1 < fld w1 20 7 →
      let x := serveRead (takeAccess moving) port (fld w1 0 20)
      t = if now then updDesc x.2 r (fun d => { d with prog := d.prog + 1, inb := d.inb ++ wordsBytes [x.1] }) else moving)
  ∧ runs (.copy r) 0x04 streams ∧ runs (.fill r) 0x05 streams
  ∧ runs (.descFence r) 0x06 (fun t => ended t ST.OK 0 ∧ t.regs = s.regs)
  ∧ runs (.txnBegin r) 0x07 (fun t => (txnState s tx = 0 → ended t ST.OK 0 ∧ txnState t tx = 1 ∧ t.txn[tx].owner = port)
      ∧ (txnState s tx ≠ 0 → ended t ST.TXNSTATE 0 ∧ txnState t tx = txnState s tx))
  ∧ runs (.txnCommit r) 0x08 (fun t => (txnOpenFor s port tx = false → ended t ST.TXNSTATE 0 ∧ t.regs = s.regs)
      ∧ (txnOpenFor s port tx = true → t.fl (txnOff tx TXN.BOUND) 0 2 = fld w1 4 2 ∧ t.fl (txnOff tx TXN.BOUND) 8 4 = fld w1 8 4
          ∧ t.rd (txnOff tx TXN.AT_LO) = wd ws 2 ∧ t.rd (txnOff tx TXN.AT_HI) = wd ws 3
          ∧ (fld w1 4 2 = 0 → s.bt (txnOff tx TXN.BOUND) 4 = false → txnState t tx = 2 ∧ ⟨s.ticks + s.samples 1, .landing tx⟩ ∈ t.agenda
              ∧ ∃ d, t.ring[r].cur = some d ∧ d.waits = true ∧ d.ended = false)))
  ∧ runs (.txnRollback r) 0x09 (fun t =>
      (txnState s tx ≠ 0 ∧ ownerCode s.txn[tx].owner = ownerCode port → ended t ST.OK (BitVec.ofNat 32 (stagedOf s tx).length)
        ∧ txnState t tx = 0 ∧ t.staged = s.staged.filter (fun x => x.txn != tx))
      ∧ (¬(txnState s tx ≠ 0 ∧ ownerCode s.txn[tx].owner = ownerCode port) → ended t ST.TXNSTATE 0 ∧ t.staged = s.staged))
  ∧ runs (.snapDescriptor r) 0x0A (fun t => t.snap.rings = s.snap.rings ++ [(r, s.ticks + 1)]
      ∧ t.snap.strobe = s.snap.strobe ++ [(if hostOwned s r then 0 else 1, s.ticks + 1)]
      ∧ ∃ d, t.ring[r].cur = some d ∧ d.ws = ws ∧ d.ended = false)

/-- R262, R270, R274, R275, R277, R306: what follows a start: the data of a read request joins its COPY, or ends it with HOSTERR; and a
descriptor that has ended is accounted for, with its record in the CMPL ring where one is due. A ring without a descriptor to start does
nothing.
The model's choices that it rests on: log entries 10, 72, 73, 74. -/
def Obligations.DescriptorEnds : Prop := ∀ (s : State) (r : Fin 64) (g : Fin 16) (ok : Bool) (data : List Byte),
  let accounted (t : State) (d : Desc) : Prop := t.ring[r].cur = none ∧ t.rd (ringOff r RING.DONE) = s.rd (ringOff r RING.DONE) + (if d.counts then 1 else 0)
    ∧ (d.status ≠ 0 → t.fl (ringOff r RING.STAT) 8 8 = d.status % 256 ∧ t.rd (ringOff r RING.ERRIDX) = d.idx)
  (descHead s r = none → Answers (.descNop r) s (fun t => t = s) ∧ Answers (.descWrite r) s (fun t => t = s) ∧ Answers (.copy r) s (fun t => t = s)
    ∧ Answers (.txnCommit r) s (fun t => t = s))
  ∧ (∀ d n q, s.gc[g].work = some (r, .desc) → s.ring[r].cur = some d → d.reads = n :: q → d.ended = false →
      (ok = true → data.length = n → Answers (.hostReadCompletion g ok data) s (fun t =>
        t.ring[r].cur = some { d with reads := q, inb := if backward d.ws then data ++ d.inb else d.inb ++ data } ∧ t.regs = s.regs))
      ∧ (ok = false → Answers (.hostReadCompletion g ok data) s (fun t =>
        t.ring[r].cur = some { d with status := ST.HOSTERR, result := BitVec.ofNat 32 (d.dn - d.tlp.length), ended := true, waits := false } ∧ t.regs = s.regs)))
  ∧ (s.gc[g].work = none → Answers (.hostReadCompletion g ok data) s (fun t => t = s))
  ∧ (s.ring[r].cur = none → Answers (.descriptorComplete r) s (fun t => t = s))
  ∧ (∀ d, s.ring[r].cur = some d → d.ended = false → Answers (.descriptorComplete r) s (fun t => t = s))
  ∧ (∀ d, s.ring[r].cur = some d → d.ended = true → needsRecord s r d = false → Answers (.descriptorComplete r) s (fun t => accounted t d))
  ∧ (∀ d, s.ring[r].cur = some d → d.ended = true → needsRecord s r d = true → canIssue s (cring s r) = true → contextFor s r (cring s r) = true →
      Answers (.descriptorComplete r) s (fun t => accounted t d
        ∧ t.ring[cring s r].issued = some ⟨cmplWords s r d, bit (wd d.ws 0) 9⟩))
  ∧ (∀ d, s.ring[r].cur = some d → d.ended = true → needsRecord s r d = true → (canIssue s (cring s r) && contextFor s r (cring s r)) = false →
      Answers (.descriptorComplete r) s (fun t => t.ring = s.ring
        ∧ t.bt (ringOff r RING.STAT) 4 = (s.bt (ringOff r RING.STAT) 4 || cmplBlocked s (cring s r))
        ∧ t.rd (ringOff r RING.DONE) = s.rd (ringOff r RING.DONE)))

/-- R278, R279, R290, R296, R297, R299, R300, R303, R311: what the device writes: entries with their phase bit and capture blocks are
published with TAIL and DONE; a record group enters the pool, waits in the entry queue, joins a tally, or finds no ring; discarding
ends; and a marker is dated with the tick of its write.
The model's choices that it rests on: log entries 10, 19, 70, 77. -/
def Obligations.CaptureAndOutput : Prop := ∀ (s : State) (a : Agent) (r : Fin 64) (g : RecGroup) (v : Word),
  let i := (s.rd (ringOff r RING.TAIL)).toNat
  let published (t : State) : Prop := t.rd (ringOff r RING.TAIL) = s.rd (ringOff r RING.TAIL) + 1
    ∧ t.rd (ringOff r RING.DONE) = s.rd (ringOff r RING.DONE) + 1 ∧ t.rd (ringOff r RING.HEAD) = s.rd (ringOff r RING.HEAD)
  let q := groupRing s g
  let n := groupSize g
  let inTime : Prop := enteredNow s + n ≤ 32 ∧ s.land.entq = []
  let group (src : Nat) : RecGroup :=
    { src := src, typ := 6, lvl := false, fine := s.fofs, coarse := s.tb.tb.toNat % 2 ^ 48, ext := [v.toNat], ring := 0 }
  let mark (src : Nat) : Due := ⟨s.ticks + s.samples 1, .recordEntry (group src)⟩
  (∀ e, s.ring[r].issued = some e → Answers (.entryPublish r) s (fun t => published t ∧ t.ring[r].issued = none))
  ∧ (∀ e p, s.ring[r].issued = none → 3 ≤ ringType s r → canIssue s r = true → s.ring[r].lost = none → s.ring[r].q = e :: p →
      Answers (.entryPublish r) s (fun t => published t ∧ t.ring[r].issued = none ∧ t.ring[r].q = p
        ∧ (hostOwned s r = true → .write (entryAddr s r i) (wordsBytes (withPhase s r i e.ws)) false ∈ t.out)))
  ∧ (s.ring[r].issued = none → s.ring[r].q = [] → s.ring[r].lost = none → Answers (.entryPublish r) s (fun t => t = s))
  ∧ (blockDue s r = true → s.gc[ringGc s r].work = none → Answers (.blockWrite r) s (fun t =>
      t.gc[ringGc s r].work = some (r, .block) ∧ t.ring[r].flushDue = false
      ∧ ∃ b, t.ring[r].blk = some (b, 0) ∧ b.length = 32 ∧ (takeEntries r 32 s.land.pool).1 <+: b))
  ∧ (blockDue s r = false → Answers (.blockWrite r) s (fun t => t = s))
  ∧ (∀ b k, s.ring[r].blk = some (b, k) → Answers (.blockPublish r) s (fun t => published t ∧ t.ring[r].blk = none
      ∧ (hostOwned s r = true → ∃ ro, .write (entryAddr s r i) (b.flatMap recordBytes) ro ∈ t.out)))
  ∧ (s.ring[r].blk = none → Answers (.blockPublish r) s (fun t => t = s))
  ∧ (0 < untakenCount s r → Answers (.flushTimerExpiry r) s (fun t => t.ring[r] = { s.ring[r] with flushDue := true } ∧ t.regs = s.regs))
  ∧ (untakenCount s r = 0 → Answers (.flushTimerExpiry r) s (fun t => t = s))
  ∧ (inTime → takesRecords s q = false → (g.typ = 3 → anchorWaits s g.ring = false) → Answers (.recordEntry g) s (fun t => t.land.pool = s.land.pool
      ∧ (s.rd R.CAP_NORING = 0 → Raised t FS.CAPT_NORING)
      ∧ (t.rd R.CAP_NORING).toNat = min 0xFFFFFFFF ((s.rd R.CAP_NORING).toNat + 1)))
  ∧ (inTime → takesRecords s q = true → ordinary g = true → (∀ x ∈ s.land.reserve, ¬(x.typ = 3 ∧ x.ring = q)) →
      ringOcc s q + n ≤ quotaEntries s q → n ≤ freeRoom s → discarding s q = false → (∀ t ∈ s.land.tallies, t.src ≠ g.src) →
      Answers (.recordEntry g) s (fun t => t.land.pool = s.land.pool ++ [⟨{ g with ring := q }, s.ticks, 0, 0, s.land.total⟩]
        ∧ t.land.tallies = s.land.tallies))
  ∧ (inTime → takesRecords s q = true → ordinary g = true → quotaEntries s q < ringOcc s q + n → dropOld s q = false →
      (∀ t ∈ s.land.tallies, t.src ≠ g.src) → Answers (.recordEntry g) s (fun t => t.land.pool = s.land.pool ∧ discarding t q = true
        ∧ t.land.tallies = s.land.tallies ++ [{ src := g.src, first := g.coarse, last := g.coarse, count := 1, cause := 0, ring := q }]
        ∧ (t.rd (capOff q CAP.LOSS)).toNat = min 0xFFFFFFFF ((s.rd (capOff q CAP.LOSS)).toNat + 1)))
  ∧ (¬inTime → ordinary g = true → entqDepth s + n ≤ 512 → Answers (.recordEntry g) s (fun t => t.land.entq = s.land.entq ++ [g]
      ∧ t.land.pool = s.land.pool ∧ t.regs = s.regs))
  ∧ (leavesDiscarding s r = true → Answers (.leaveDiscarding r) s (fun t => discarding t r = false))
  ∧ (leavesDiscarding s r = false → Answers (.leaveDiscarding r) s (fun t => t = s))
  ∧ (∀ x p, s.land.reserve = [] → s.land.entq = x :: p → enteredNow s + groupSize x ≤ 32 → Answers .entryQueueEntry s (fun t => t.land.entq = p))
  ∧ (a = .host ∨ a = .debug → Answers (.galMarkWrite a v) s (fun t => mark 96 ∈ t.agenda ∧ t.regs = s.regs))
  ∧ (a = .sup → Answers (.galMarkWrite a v) s (fun t => mark 97 ∈ t.agenda ∧ t.regs = s.regs))
  ∧ ((∃ e b, a = .bank e b) → Answers (.galMarkWrite a v) s (fun t => t = s))

/-! ## Transactions and snapshots (chapter 12) -/

/-- R314, R315, R316, R317, R318, R320, R328: a transaction is begun, staged, committed to a boundary or failed, rolled back, and lands as a
whole in ascending order of its registers; a command from another agent or in another state is refused.
The model's choices that it rests on: log entries 10, 80, 83. -/
def Obligations.Transactions : Prop := ∀ (s : State) (a : Agent) (x : Fin 8) (v : Word),
  let o := s.lat? a (txnOff x TXN.SOFS)
  let owns : Prop := txnOpenFor s a x = true
  let tgt := (s.rd (txnOff x TXN.AT_HI)).toNat * 2 ^ 32 + (s.rd (txnOff x TXN.AT_LO)).toNat
  let bound := s.fl (txnOff x TXN.BOUND) 0 2
  let unit := s.fl (txnOff x TXN.BOUND) 8 4
  let peer := s.bt (txnOff x TXN.BOUND) 4
  let refused (t : State) (st : Nat) : Prop := t.fl (txnOff x TXN.STAT) 8 8 = st ∧ Raised t FS.TXN_REFUSED ∧ txnState t x = txnState s x
    ∧ t.staged = s.staged ∧ t.txn = s.txn
  let failed (t : State) : Prop := t.fl (txnOff x TXN.STAT) 8 8 = ST.TXNFAIL ∧ Raised t FS.TXN_FAIL ∧ t.bt R.TXN_EVT (8 + x.val) = true
    ∧ txnState t x = 1 ∧ t.staged = s.staged
  let pending (t : State) (b at' : Nat) : Prop := txnState t x = 2 ∧ t.txn[x].bound = b ∧ t.txn[x].at' = at' ∧ t.staged = s.staged
    ∧ ∀ y, y ≠ x → t.txn[y] = s.txn[y]
  (txnState s x = 0 → Answers (.begin a x) s (fun t => txnState t x = 1 ∧ t.txn[x] = { Txn.reset with owner := a }
      ∧ t.fl (txnOff x TXN.STAT) 2 6 = ownerCode a ∧ ∀ y, y ≠ x → t.txn[y] = s.txn[y]))
  ∧ (txnState s x ≠ 0 → Answers (.begin a x) s (fun t => refused t ST.TXNSTATE))
  ∧ (txnState s x ≠ 0 → ownerCode s.txn[x].owner = ownerCode a → Answers (.rollback a x) s (fun t => txnState t x = 0
      ∧ t.staged = s.staged.filter (fun y => y.txn != x) ∧ t.hasDue (.landing x) = false
      ∧ t.fl R.TXN_FREE 0 13 = (s.fl R.TXN_FREE 0 13 + (stagedOf s x).length) % 8192))
  ∧ (txnState s x = 0 ∨ ownerCode s.txn[x].owner ≠ ownerCode a → Answers (.rollback a x) s (fun t => refused t ST.TXNSTATE))
  ∧ (¬owns → Answers (.commit a x) s (fun t => refused t ST.TXNSTATE))
  ∧ (owns → bound = 0 → peer = false → Answers (.commit a x) s (fun t => pending t 0 0 ∧ ⟨s.ticks + s.samples 1, .landing x⟩ ∈ t.agenda))
  ∧ (owns → bound = 1 → peer = false → s.tb.tb.toNat < tgt → Answers (.commit a x) s (fun t => pending t 1 tgt))
  ∧ (owns → bound = 1 → peer = false → tgt ≤ s.tb.tb.toNat → Answers (.commit a x) s failed)
  ∧ (owns → bound = 2 → 4 ≤ unit → Answers (.commit a x) s failed)
  ∧ (∀ n : Fin 4, owns → bound = 2 → unit = n.val → (s.nwl[n].on = true ∧ s.nwl[n].state = .sync → Answers (.commit a x) s (fun t =>
        pending t 2 ((s.rd (txnOff x TXN.AT_LO)).toNat % max 1 (nwlC s n)) ∧ t.txn[x].unit = n.val))
      ∧ (¬(s.nwl[n].on = true ∧ s.nwl[n].state = .sync) → Answers (.commit a x) s failed))
  ∧ (∀ m : Fin 16, owns → bound = 3 → unit = m.val → (pgEn s m = true ∧ s.pg[m].run = true → Answers (.commit a x) s (fun t =>
        pending t 3 0 ∧ t.txn[x].unit = m.val))
      ∧ (¬(pgEn s m = true ∧ s.pg[m].run = true) → Answers (.commit a x) s failed))
  ∧ Answers (.sofsWrite a x v) s (fun t => t.lat? a (txnOff x TXN.SOFS) = v &&& 0xFFFFC ∧ t.staged = s.staged ∧ t.txn = s.txn
      ∧ (v &&& 0xFFF00003 ≠ 0 → Raised t FS.RSVD_WRITE))
  ∧ Answers (.svalWrite a x v) s (fun t => t.lat? a (txnOff x TXN.SOFS) = (o + 4) &&& 0xFFFFC
      ∧ (owns → transactable o.toNat = true → (∀ y ∈ s.staged, y.off = o.toNat → y.txn = x) → s.staged.length < 4096 →
          ⟨x, o.toNat, v⟩ ∈ t.staged ∧ (∀ y ∈ t.staged, y.txn = x → y.off = o.toNat → y.v = v)
          ∧ ∀ y, ¬(y.txn = x ∧ y.off = o.toNat) → (y ∈ t.staged ↔ y ∈ s.staged))
      ∧ (¬owns → refused t ST.TXNSTATE)
      ∧ (owns → transactable o.toNat = false → refused t ST.RANGE)
      ∧ (owns → transactable o.toNat = true → (∃ y ∈ s.staged, y.off = o.toNat ∧ y.txn ≠ x) → refused t ST.CONFLICT))
  ∧ (txnState s x = 2 →
      let owner := s.txn[x].owner
      let u := (landingOrder s x).foldl (fun s y => serveWrite s owner y.off 15 y.v) s
      (landingOrder s x).Perm (stagedOf s x) ∧ (landingOrder s x).Pairwise (fun y z => y.off ≤ z.off)
      ∧ Answers (.landing x) s (fun t => txnState t x = 0 ∧ t.staged = u.staged.filter (fun y => y.txn != x)
          ∧ t.bt R.TXN_EVT x.val = true ∧ t.rd (txnOff x TXN.LAND) = u.near ∧ t.tb = u.tb))
  ∧ (txnState s x ≠ 2 → Answers (.landing x) s (fun t => t = s))

/-- R323, R324, R325, R418: a SNAP latches the counts of the channels and groups into the bank that does not hold the latest one, under a new
sequence number; a strobe whose bank is being read waits; a timed strobe disarms; and a peer SNAP opens a round or fails without a ring.
The model's choices that it rests on: log entries 10, 81, 82. -/
def Obligations.Snapshots : Prop := ∀ (s : State),
  let seq := (s.fl R.SNAP_STAT 0 16 + 1) % 65536
  let first (o : Nat) : Nat := match s.snap.waiting with | some p => min p o | none => o
  let taken (t : State) (o : Nat) : Prop := t.fl R.SNAP_STAT 0 16 = seq ∧ t.snap.latestB = !s.snap.latestB
    ∧ snapRead t 0 = BitVec.ofNat 32 (seq + o * 65536) ∧ snapRead t 1 = s.near ∧ snapRead t 137 = BitVec.ofNat 32 seq
    ∧ (∀ n : Fin 96, snapsLate s n = false → snapRead t (4 + n.val) = s.rd (chOff n CH.CNT)
        ∧ t.rd (chOff n CH.SNAPCNT) = s.rd (chOff n CH.CNT))
    ∧ (∀ m : Fin 16, snapRead t (100 + m.val) = s.rd (pgOff m PG.CNT)) ∧ t.snap.waiting = none
    ∧ snapBank t s.snap.latestB = snapBank s s.snap.latestB
  let now := s.snap.strobe.filter (fun x => decide (x.2 ≤ s.ticks))
  let later := s.snap.strobe.filter (fun x => decide (s.ticks < x.2))
  (now ≠ [] → snapBlocked s = false → Answers .snapStrobe s (fun t => taken t (first (firstOrigin now)) ∧ t.snap.strobe = later))
  ∧ (now ≠ [] → snapBlocked s = true → Answers .snapStrobe s (fun t => t.snap.strobe = later
      ∧ t.snap.waiting = some (first (firstOrigin now)) ∧ t.fl R.SNAP_STAT 0 16 = s.fl R.SNAP_STAT 0 16 ∧ t.snap.latestB = s.snap.latestB
      ∧ t.fl R.SNAP_STAT 24 8 = min 255 (s.fl R.SNAP_STAT 24 8 + 1)))
  ∧ (∀ o, now = [] → s.snap.waiting = some o → snapBlocked s = false → Answers .snapStrobe s (fun t => taken t o))
  ∧ (now = [] → s.snap.waiting = none ∨ snapBlocked s = true → Answers .snapStrobe s (fun t => t = s))
  ∧ (timedDue s = false → Answers .timedSnap s (fun t => t = s))
  ∧ (timedDue s = true → Answers .timedSnap s (fun t => t.snap.timed = none ∧ t.bt R.SNAP_STAT 16 = false
      ∧ (now = [] → dutiesNow s true = [] → snapBlocked s = false → taken t (first 4))
      ∧ (now ≠ [] → t.snap.strobe = s.snap.strobe ++ [(4, s.ticks)] ∧ t.snap.latestB = s.snap.latestB)))
  ∧ (ringUp s = true → Answers .peerSnap s (fun t => t.peer.round = s.peer.round + 1 ∧ t.peer.opened = s.peer.opened ++ [(s.peer.round, none)]
      ∧ (s.ticks + s.samples 1, Later.peerSend (.snap (ownHead s) s.peer.round (BitVec.ofNat 32 (s.tb.tb.toNat + 128)))) ∈ t.later
      ∧ ∃ d ∈ t.peer.duties, d.at' = s.tb.tb.toNat + 128 ∧ d.txn = none ∧ d.round = s.peer.round))
  ∧ (ringUp s = false → Answers .peerSnap s (fun t => t.bt R.SNAP_STAT 17 = true ∧ t.peer = s.peer
      ∧ ∀ d, d < 4 → d ≠ s.fl R.PEER_STAT 0 2 → t.bt R.SNAP_STAT (20 + d) = true))
  ∧ (dutiesNow s true = [] → Answers .peerSnapLatch s (fun t => t = s))
  ∧ (dutiesNow s true ≠ [] → snapBlocked s = false → Answers .peerSnapLatch s (fun t =>
      (∀ d ∈ dutiesNow s true, (d.dev, d.round) ∈ t.peer.acted ∧ d ∉ t.peer.duties) ∧ (now = [] → taken t (first 3))))

/-! ## Faults (chapter 13) -/

/-- R331, R333, R334, R335, R336, R337, R338, R340, R342: a raise becomes a record two cycles later, with its reactions and the first fault; a
clear ends the handling unless the level is active or the source was raised in the same cycle; injection, the clears of the first fault and
of the log, the release of safe sets, and what a failed read does to its requester.
The model's choices that it rests on: log entries 10, 85, 86, 90. -/
def Obligations.Faults : Prop := ∀ (s : State) (a : Agent) (v : Word),
  let clears (k : Nat) : Prop := s.fltPend k = true ∧ s.bt (fsrcStat k) 17 = false ∧ (s.rec? k).last ≠ s.now
  ((∀ r ∈ s.flt.raised, s.ticks < r.tick + 2) → Answers .recordCreate s (fun t => t = s))
  ∧ (∀ r, s.flt.raised = [r] → r.tick + 2 ≤ s.ticks → r.injected = false → r.transient = false → srcClass s r.src.val ≤ 4 →
      let k := r.src.val
      let react := cfgReact s k
      let log := R.FLT_LOG + 0x10 * s.fl R.FLT_LOGSTAT 0 6
      Answers .recordCreate s (fun t => (∀ q ∈ t.flt.raised, q.tick = s.ticks)
        ∧ t.fltPend k = true ∧ (t.rec? k).seq = s.flt.seq ∧ (t.rec? k).cls = srcClass s k ∧ (t.rec? k).tb = r.tb
        ∧ (t.rec? k).detail = r.detail ∧ (t.rec? k).react = react ∧ t.bt (fsrcStat k) 18 = false ∧ t.bt (fsrcStat k) 19 = false
        ∧ t.bt (fsrcStat k) 20 = false ∧ t.flt.seq = (s.flt.seq + 1) % 65536 ∧ (s.ticks + s.samples 1, Later.errn) ∈ t.later
        ∧ (react = 0 → t.fl (fsrcStat k) 0 16 = 0 ∧ t.rd R.FLT_ISR = s.rd R.FLT_ISR ∧ t.rd R.FLT_SAFEACT = s.rd R.FLT_SAFEACT
            ∧ t.rd log = s.rd log ∧ t.agenda = s.agenda ∧ t.ch = s.ch ∧ t.mem = s.mem)
        ∧ (s.bt R.FLT_STAT 1 = false → ffMin s ≤ srcClass s k → t.bt R.FLT_STAT 1 = true ∧ t.flt.firstSrc = k
            ∧ t.rd (R.FLT_FIRST_W + 4) = w32 r.tb ∧ t.rd (R.FLT_FIRST_W + 8) = r.detail)
        ∧ (s.bt R.FLT_STAT 1 = true → t.flt.firstSrc = s.flt.firstSrc)
        ∧ (react.testBit 0 = true → t.bt (fsrcStat k) 21 = true ∧ t.fl (fsrcStat k) 22 6 = s.fl R.FLT_LOGSTAT 0 6
            ∧ t.fl log 0 8 = k ∧ t.fl log 8 3 = srcClass s k ∧ t.bt log 15 = true ∧ t.fl log 16 16 = s.flt.seq % 65536
            ∧ t.rd (log + 4) = w32 r.tb ∧ t.rd (log + 8) = r.detail ∧ t.fl R.FLT_LOGSTAT 0 6 = (s.fl R.FLT_LOGSTAT 0 6 + 1) % 64)
        ∧ (react.testBit 1 = true → s.bt R.FLT_IRQ 6 = true → t.bt R.FLT_ISR 0 = true
            ∧ (s.bt R.FLT_ISR 0 = false → (s.ticks + s.samples 1, Later.faultMsg) ∈ t.later))
        ∧ (react.testBit 1 = true → s.bt R.FLT_IRQ 7 = true → t.bt R.FLT_ISR 1 = true)
        ∧ (react.testBit 2 = true → t.bt R.FLT_SAFEACT (s.wasFl (fsrcCfg k) 3 3) = true)))
  ∧ (∀ i : Fin 8, Answers (.pendClear a i v) s (fun t => (s.ticks + s.samples 2, Later.errn) ∈ t.later
      ∧ ∀ k < 256,
        let hit := k / 32 = i.val ∧ bit v (k % 32) = true ∧ clears k
        (t.fltPend k = true ↔ s.fltPend k = true ∧ ¬hit)
        ∧ (hit → s.fl (fsrcStat k) 0 16 ≠ 0 → s.bt (fsrcCfg k) 0 = true → s.bt R.FLT_RING 22 = true →
            ⟨s.ticks + s.samples 1, .recordEntry (faultGroup s k (s.fl (fsrcStat k) 0 16))⟩ ∈ t.agenda)))
  ∧ Answers .pendclr s (fun t => ∀ k < 256, (t.fltPend k = true ↔ s.fltPend k = true ∧ ¬clears k))
  ∧ Answers .ffclr s (fun t => t.bt R.FLT_STAT 1 = false ∧ (∀ w < 4, t.rd (R.FLT_FIRST_W + 4 * w) = 0)
      ∧ (∀ w < 8, t.rd (R.FLT_SAME + 4 * w) = 0) ∧ { t with regs := s.regs } = s
      ∧ ∀ o, o ≠ R.FLT_STAT → ¬(R.FLT_FIRST_W ≤ o ∧ o < R.FLT_FIRST_W + 16) → ¬(R.FLT_SAME ≤ o ∧ o < R.FLT_SAME + 32) → t.rd o = s.rd o)
  ∧ Answers .logclr s (fun t => (∀ w < 256, t.rd (R.FLT_LOG + 4 * w) = 0) ∧ t.fl R.FLT_LOGSTAT 0 6 = 0 ∧ t.fl R.FLT_LOGSTAT 8 8 = 0
      ∧ (∀ k < 256, t.bt (fsrcStat k) 21 = false ∧ t.fltPend k = s.fltPend k) ∧ { t with regs := s.regs } = s)
  ∧ (bit v 31 = true → Answers (.inject a v) s (fun t => { t with later := s.later } = s
      ∧ t.later = s.later ++ [(s.ticks + s.samples 1, Later.injected (Fin.ofNat 256 (fld v 0 8)) (fld v 8 6))]))
  ∧ (bit v 31 = false → Answers (.inject a v) s (fun t => t = s))
  ∧ Answers (.safeclr a v) s (fun t => { t with later := s.later } = s ∧ ∀ j : Fin 8,
      (bit v j.val = true → s.bt R.FLT_SAFEACT j.val = true → safeHeld s j = false → (s.ticks + s.samples 1, Later.safeRelease j) ∈ t.later)
      ∧ (bit v j.val = false ∨ s.bt R.FLT_SAFEACT j.val = false ∨ safeHeld s j = true →
          ((s.ticks + s.samples 1, Later.safeRelease j) ∈ t.later ↔ (s.ticks + s.samples 1, Later.safeRelease j) ∈ s.later)))
  ∧ (∀ (m : Fin 10) (off : Nat) (q : Requester), Answers (.readRetry m off q true) s (fun t => Raised t (eccSource m off)
      ∧ t.ring = s.ring ∧ t.txn = s.txn ∧ t.rdHost = s.rdHost ∧ t.mem = s.mem ∧ t.nwl = s.nwl
      ∧ (∀ e, q = .engine e → t.eng[e].next = s.eng[e].next + 2)))
  ∧ (∀ (m : Fin 10) (off : Nat),
      let lasting (q : Requester) (P : State → Prop) : Prop :=
        Answers (.readRetry m off q false) s (fun t => Raised t (eccSource m off) ∧ P t)
      lasting (.port .host) (fun t => t.rdHost = 0xFFFFFFFF) ∧ lasting (.port .debug) (fun t => t.rdDebug = 0xFFFFFFFF)
      ∧ lasting .scrub (fun t => t.mem = s.mem)
      ∧ lasting .chest (fun t => t.chestCtl.errs = s.chestCtl.errs ++ [off / 8 * 8])
      ∧ (∀ r d, s.ring[r].cur = some d → d.ended = false → lasting (.gallery r) (fun t =>
          ∃ d', t.ring[r].cur = some d' ∧ d'.ended = true ∧ d'.status = ST.ECC))
      ∧ (∀ n k, lasting (.slot n k) (fun t => t.bt (evOff n k EV.CFG) 7 = false))
      ∧ (∀ x, txnState s x = 2 → lasting (.txn x) (fun t => txnState t x = 1 ∧ t.staged = s.staged ∧ t.bt R.TXN_EVT (8 + x.val) = true))
      ∧ (∀ e b k, executing s e = some b → (s.bank e b).thread = some k → lasting (.engine e) (fun t =>
          thState t e k = TS.DISABLED ∧ t.bt (thOff e k) 18 = false ∧ thPend t e k = false)))

/-! ## The Vestibule and background work (chapter 14) -/

/-- R98, R353, R354, R355, R360, R361, R362, R363, R364, R365, R372: self-test and recalibration on request with their results, the turn, swap and
skip of a delay line, the scrubber, the evaluation of the Vestibule, the temperature levels and the telemetry sample.
The model's choices that it rests on: log entries 10, 90, 91, 94. -/
def Obligations.BackgroundWork : Prop := ∀ (s : State) (a : Agent) (v : Word) (fl : Fin 8),
  let result (t : State) (st res : Nat) : Prop := bgState t = st ∧ t.fl R.BG_STAT 4 4 = res
  let tgt := fld v 8 7
  let fitsNow (u : Nat) : Prop := vestRefusing s = false ∧ s.vest.queue = [] ∧ vestF s + vestG s + u ≤ vestBudget s
  let asks (c : Instr) (op u : Nat) (k : Heavy) : Prop :=
    (bgState s ≠ 0 → Answers c s (fun t => result t (bgState s) 3 ∧ t.vest = s.vest ∧ t.bg = s.bg))
    ∧ (bgState s = 0 → bgTargetOk op tgt = false → Answers c s (fun t => result t 0 5 ∧ t.vest = s.vest ∧ t.bg = s.bg))
    ∧ (bgState s = 0 → bgTargetOk op tgt = true → bgIdle s tgt = false →
        Answers c s (fun t => t.bg.target = tgt ∧ t.vest = s.vest ∧ result t (if bit v 2 then 1 else 0) (if bit v 2 then 0 else 3)))
    ∧ (bgState s = 0 → bgTargetOk op tgt = true → bgIdle s tgt = true → fitsNow u → Answers c s (fun t => t.bg.target = tgt ∧ result t 3 0
        ∧ (∃ g ∈ t.vest.grants, g.kind = k ∧ g.units = u) ∧ t.fl R.VEST_CNT 0 16 = min 65535 (s.fl R.VEST_CNT 0 16 + 1)))
    ∧ (bgState s = 0 → bgTargetOk op tgt = true → bgIdle s tgt = true → vestRefusing s = true → Answers c s (fun t => result t 0 4
        ∧ Raised t FS.VEST_REFUSED ∧ t.vest = s.vest ∧ t.bt R.VEST_EVT 0 = true))
  asks (.selfTest a v) 1 20 (.selfTest tgt) ∧ asks (.recalibrate a v) 2 6 (.recal (Fin.ofNat 8 (tgt - 64)))
  ∧ (bgState s = 1 ∨ bgState s = 2 → Answers .bgCancel s (fun t => result t 0 7 ∧ t.vest.grants = s.vest.grants))
  ∧ (bgState s = 0 ∨ bgState s = 3 → Answers .bgCancel s (fun t => t = s))
  ∧ (∀ (pass : Bool) (ofs : BitVec 20), (bgState s = 3 → s.bg.target < 64 → Answers (.selfTestEnd pass ofs) s (fun t =>
        result t 0 (if pass then 1 else 2) ∧ (pass = false → t.rd R.BG_FAIL = ofs.setWidth 32 ∧ Raised t FS.BIST_FAIL)
        ∧ (∀ g ∈ t.vest.grants, ∀ x, g.kind ≠ .selfTest x)
        ∧ (∀ e : Fin 8, s.bg.target = e.val → ∀ o, (0xA0000 + e.val * 0x8000 ≤ o ∧ o < 0xA8000 + e.val * 0x8000 → t.byte o = 0)
            ∧ (¬(0xA0000 + e.val * 0x8000 ≤ o ∧ o < 0xA8000 + e.val * 0x8000) → t.byte o = s.byte o))))
      ∧ (¬(bgState s = 3 ∧ s.bg.target < 64) → Answers (.selfTestEnd pass ofs) s (fun t => t = s)))
  ∧ (∀ ok, s.bg.cal[fl].swapBy.isSome = true → Answers (.calibrationTurn fl ok) s (fun t => t = s))
  ∧ (s.bg.cal[fl].swapBy = none → Answers (.calibrationTurn fl true) s (fun t => t.bg.cal[fl].ends = none
      ∧ t.bg.cal[fl].swapBy = some (s.ticks + 40000) ∧ t.bg.cal[fl].pos = s.bg.cal[fl].pos ∧ t.regs = s.regs))
  ∧ (s.bg.cal[fl].swapBy = none → Answers (.calibrationTurn fl false) s (fun t => t.bg.cal[fl].ends = none ∧ t.bg.cal[fl].swapBy = none
      ∧ t.bg.cal[fl].pos = s.bg.cal[fl].pos ∧ Raised t FS.CAL_FAIL ∧ t.fl R.CAL_CNT 16 16 = min 65535 (s.fl R.CAL_CNT 16 16 + 1)))
  ∧ (s.bg.cal[fl].swapBy.isSome = true → swapQuiet s fl = true → Answers (.delayLineSwap fl) s (fun t => t.bg.cal[fl].swapBy = none
      ∧ t.bg.cal[fl].pos = (s.bg.cal[fl].pos + 1) % (if fl = 0 then 13 else 12) ∧ t.ch = s.ch
      ∧ t.rd R.CAL_STAT = w32 (fl.val + s.bg.cal[fl].pos * 16)))
  ∧ (s.bg.cal[fl].swapBy = none ∨ swapQuiet s fl = false → Answers (.delayLineSwap fl) s (fun t => t = s))
  ∧ (∀ x, s.bg.cal[fl].swapBy = some x → x ≤ s.ticks → Answers (.swapSkip fl) s (fun t => t.bg.cal[fl].swapBy = none
      ∧ t.bg.cal[fl].pos = s.bg.cal[fl].pos ∧ Raised t FS.CAL_SKIP ∧ t.fl R.CAL_CNT 0 16 = min 65535 (s.fl R.CAL_CNT 0 16 + 1)))
  ∧ ((∀ x, s.bg.cal[fl].swapBy = some x → s.ticks < x) → Answers (.swapSkip fl) s (fun t => t = s))
  ∧ (s.bg.scrubOn = false → Answers .scrubPass s (fun t => t.bg.scrubOn = true ∧ t.bg.scrubAt = s.ticks ∧ t.regs = s.regs))
  ∧ (s.bg.scrubOn = true → scrubDue s = true → Answers .scrubPass s (fun t => t.bg.scrubLate = true ∧ t.bg.scrubAt = s.bg.scrubAt
      ∧ Raised t FS.SCRUB_LATE))
  ∧ (s.bg.scrubOn = true → scrubDue s = false → Answers .scrubPass s (fun t => t = s))
  ∧ (s.bg.scrubOn = true → s.vest.paused = false → Answers .scrubPassEnd s (fun t => (Config.scrubErrors s.free ≠ [] → Raised t FS.ECC_COR)
      ∧  t.bg.scrubOn = s.bg.scrubLate ∧ t.bg.scrubLate = false
      ∧ t.fl R.SCRUB_STAT 0 16 = min 65535 ((s.ticks - s.bg.scrubAt) / 400000)
      ∧ t.fl R.SCRUB_STAT 16 16 = (s.fl R.SCRUB_STAT 16 16 + 1) % 65536))
  ∧ (s.bg.scrubOn = false ∨ s.vest.paused = true → Answers .scrubPassEnd s (fun t => t = s))
  ∧ Answers .evaluation s (fun t => vestF t = min 4095 (foreground s) ∧ t.vest.beats = 0 ∧ t.vest.edges = 0
      ∧ (∀ e : Fin 8, t.eng[e].win = 0)
      ∧ t.vest.overBudget = decide (vestBudget s < min 4095 (foreground s))
      ∧ (vestBudget s < min 4095 (foreground s) → s.vest.overBudget = false → t.bt R.VEST_EVT 1 = true ∧ Raised t FS.VEST_OVER)
      ∧ (vestRefusing s = true → t.vest.queue = [])
      ∧ (vestRefusing s = false → t.vest.queue <:+ s.vest.queue ∨ bgState s = 1))
  ∧ (∀ t01 t23 : Word,
      let temps := [sext 16 t01.toNat, sext 16 (t01.toNat / 65536), sext 16 t23.toNat, sext 16 (t23.toNat / 65536)]
      let thr := s.rd R.TEL_THR
      let level (t : State) (k : Nat) (thr : Int) : Prop :=
        ((∃ x ∈ temps, thr ≤ x) → t.bt (fsrcStat k) 17 = true ∧ (s.bt (fsrcStat k) 17 = false → Raised t k))
        ∧ ((∀ x ∈ temps, x ≤ thr - 8) → t.bt (fsrcStat k) 17 = false)
        ∧ ((∀ x ∈ temps, x < thr) → (∃ x ∈ temps, thr - 8 < x) → t.bt (fsrcStat k) 17 = s.bt (fsrcStat k) 17)
      Answers (.tempMeasure t01 t23) s (fun t => t.rd R.TEL_TEMP01 = t01 ∧ t.rd R.TEL_TEMP23 = t23
        ∧ level t FS.TEMP_WARN (sext 16 thr.toNat) ∧ level t FS.TEMP_CRIT (sext 16 (thr.toNat / 65536))))
  ∧ (s.bt R.TEL_CTRL 0 = false → Answers .telemetrySample s (fun t => t = s))
  ∧ (s.bt R.TEL_CTRL 0 = true → Answers .telemetrySample s (fun t => t.fl R.TEL_STAT 0 16 = (s.fl R.TEL_STAT 0 16 + 1) % 65536
      ∧ (∀ e : Fin 8, t.eng[e].tel = 0) ∧ t.vest.telAt = s.ticks ∧ t.vest.telF = 0 ∧ t.vest.telFG = 0
      ∧ (evtEnabled s (Fin.ofNat 64 (s.fl R.TEL_CTRL 8 6)) = false →
          t.fl R.TEL_LOST 0 16 = min 65535 (s.fl R.TEL_LOST 0 16 + 1) ∧ Raised t FS.TELEM_LOST)))

/-! ## The Chest (chapter 14) -/

/-- R335, R339, R343, R366, R367, R369, R370, R373, R382: the commands of the Chest with their results, a row programmed or failed, the move of a
block, the persistent log and the commit of the lifetime counters.
The model's choices that it rests on: log entries 10, 90, 92. -/
def Obligations.ChestAndLogs : Prop := ∀ (s : State) (a : Agent) (cnt : BitVec 7),
  let addr := s.fl R.CHEST_ADDR 3 15 * 8
  let n := max 1 (min 64 cnt.toNat)
  let res (t : State) (r : Nat) : Prop := t.fl R.CHEST_STAT 4 4 = r ∧ chestBusy t = chestBusy s ∧ t.chestCtl = s.chestCtl ∧ t.chest = s.chest
  let free := chestBusy s = false
  let open' := 0x2000 ≤ addr ∧ addr + 8 * n ≤ 0x22000 ∨ 0x22000 ≤ addr ∧ addr + 8 * n ≤ 0x24000
  let idle (t : State) : Prop := t.chestCtl.op = none ∧ t.chestCtl.begun = false ∧ chestBusy t = false
  let holds (b : Nat) : Prop := s.bt R.PWR_STAT 11 = true ∨ (s.vest.paused = true ∧ physBlock s b ∉ s.chestCtl.bad)
  let plog := 0x30000 + 24 * s.fl R.FLT_PLOGSTAT 0 10
  (¬free → Answers (.chestRead a cnt) s (fun t => res t 7) ∧ Answers (.chestWrite a cnt) s (fun t => res t 7))
  ∧ (free → 0x37000 < addr + 8 * n → Answers (.chestRead a cnt) s (fun t => res t 4) ∧ Answers (.chestWrite a cnt) s (fun t => res t 4))
  ∧ (free → addr + 8 * n ≤ 0x37000 → Answers (.chestRead a cnt) s (fun t => chestBusy t = true ∧ t.fl R.CHEST_STAT 4 4 = 0
      ∧ t.chestCtl.op = some (.read addr n) ∧ t.chestCtl.begun = true ∧ t.chest = s.chest ∧ t.mem = s.mem))
  ∧ (free → addr + 8 * n ≤ 0x37000 → ¬open' → Answers (.chestWrite a cnt) s (fun t => res t 3))
  ∧ (free → addr + 8 * n ≤ 0x37000 → open' → vestRefusing s = false → s.vest.queue = [] → vestF s + vestG s + 24 ≤ vestBudget s →
      Answers (.chestWrite a cnt) s (fun t => chestBusy t = true ∧ t.bt R.CHEST_STAT 1 = false ∧ t.fl R.CHEST_STAT 4 4 = 0
        ∧ t.chestCtl.op = some (.write addr (chestBufWords s n) false) ∧ t.chestCtl.begun = true ∧ t.chest = s.chest
        ∧ t.vest.grants = s.vest.grants ++ [⟨.chest, 24, none⟩]))
  ∧ (free → addr + 8 * n ≤ 0x37000 → open' → vestRefusing s = true → Answers (.chestWrite a cnt) s (fun t => idle t
      ∧ t.fl R.CHEST_STAT 4 4 = 2 ∧ Raised t FS.VEST_REFUSED ∧ t.chest = s.chest))
  ∧ (∀ (ok : Bool) (at' m : Nat), s.chestCtl.op = some (.read at' m) → m ≤ 64 → Answers (.chestReadDone ok) s (fun t => idle t
      ∧ t.fl R.CHEST_STAT 4 4 = (if ok = true ∧ s.chestCtl.errs = [] then 1 else 5) ∧ t.chest = s.chest
      ∧ (∀ i < m, let z := ∃ e ∈ s.chestCtl.errs, e / 8 = (at' + 8 * i) / 8
          t.memWord (0x3100 + 8 * i) = (if z then 0 else s.chestWord (at' + 8 * i))
          ∧ t.memWord (0x3104 + 8 * i) = (if z then 0 else s.chestWord (at' + 8 * i + 4)))
      ∧ ∀ o, ¬(0x3100 ≤ o ∧ o < 0x3100 + 8 * m) → t.byte o = s.byte o))
  ∧ (∀ (at' : Nat) (ws : List Word) (p : Bool), s.chestCtl.op = some (.write at' ws p) → s.chestCtl.begun = true →
      let row := ws.take 16
      (Answers (.chestRowDone true) s (fun t =>
          (∀ i w, row[i]? = some w → t.chestWord (at' + 4 * i) = w)
          ∧ (∀ o, ¬(at' ≤ o ∧ o < at' + 4 * row.length) → t.chestByte o = s.chestByte o)
          ∧ (s.chestCtl.tries ≠ 0 → Raised t FS.CHEST_WRFAIL)
          ∧ (ws.length ≤ 16 → idle t ∧ (p = false → t.fl R.CHEST_STAT 4 4 = 1))
          ∧ (16 < ws.length → s.chestCtl.cut = true → idle t ∧ (p = false → t.fl R.CHEST_STAT 4 4 = 2))
          ∧ (16 < ws.length → s.chestCtl.cut = false → t.chestCtl.op = some (.write (at' + 64) (ws.drop 16) p) ∧ t.chestCtl.tries = 0)))
      ∧ (s.chestCtl.tries = 0 → Answers (.chestRowDone false) s (fun t => t.chestCtl.op = s.chestCtl.op ∧ t.chestCtl.tries = 1
          ∧ t.chest = s.chest))
      ∧ (s.chestCtl.tries ≠ 0 → Answers (.chestRowDone false) s (fun t => idle t ∧ t.chest = s.chest ∧ Raised t FS.CHEST_WRFAIL
          ∧ (p = false → t.fl R.CHEST_STAT 4 4 = 6) ∧ physBlock s (at' / 1024) ∈ t.chestCtl.bad
          ∧ ⟨s.ticks + s.samples 1, .wearLevelMove (at' / 1024)⟩ ∈ t.agenda)))
  ∧ (∀ b, holds b → Answers (.wearLevelMove b) s (fun t => ⟨s.ticks + 400, .wearLevelMove b⟩ ∈ t.agenda
      ∧ t.chestCtl = s.chestCtl))
  ∧ (∀ b p, ¬holds b → b < 220 → (2 ^ 20 ≤ sinceOf s b ∨ physBlock s b ∈ s.chestCtl.bad) → leastWorn s = some p →
      Answers (.wearLevelMove b) s (fun t => physBlock t b = p ∧ sinceOf t b = 0 ∧ t.chest = s.chest
        ∧ (∀ c, c ≠ b → physBlock t c = physBlock s c) ∧ t.rd R.CHEST_MOVES = w32 (min (2 ^ 32 - 1) ((s.rd R.CHEST_MOVES).toNat + 1))))
  ∧ (∀ b, ¬holds b → 220 ≤ b ∨ (sinceOf s b < 2 ^ 20 ∧ physBlock s b ∉ s.chestCtl.bad) →
      Answers (.wearLevelMove b) s (fun t => t = s))
  ∧ (s.power.lgs.isSome = true → Answers .persistentLogWrite s (fun t => t.flt = s.flt ∧ t.chest = s.chest
      ∧ (resetOverdue s = false → ⟨s.ticks + 400, .persistentLogWrite⟩ ∈ t.agenda)
      ∧ (resetOverdue s = true → ⟨s.ticks + s.samples 1, .faultReset⟩ ∈ t.agenda)))
  ∧ (s.power.lgs.isSome = true ∨ s.vest.paused = true → Answers .lifetimeCommit s (fun t => ⟨s.ticks + 400, .lifetimeCommit⟩ ∈ t.agenda
      ∧ t.chest = s.chest))
  ∧ (s.power.lgs = none → s.flt.plogQ = [] → Answers .persistentLogWrite s (fun t => t = s))
  ∧ (∀ p rest, s.power.lgs = none → s.flt.plogQ = p :: rest → p.words.length ≤ 6 → Answers .persistentLogWrite s (fun t =>
      t.flt.plogQ = rest ∧ (∀ i w, p.words[i]? = some w → t.chestWord (plog + 4 * i) = w)
      ∧ (∀ o, ¬(plog ≤ o ∧ o < plog + 24) → t.chestByte o = s.chestByte o)
      ∧ t.fl R.FLT_PLOGSTAT 0 10 = (s.fl R.FLT_PLOGSTAT 0 10 + 1) % 1024
      ∧ (s.fl R.FLT_PLOGSTAT 0 10 = 1023 → Raised t FS.PLOG_WRAP ∧ t.fl R.FLT_PLOGSTAT 16 8 = min 255 (s.fl R.FLT_PLOGSTAT 16 8 + 1))
      ∧ (p.thenReset = true → ⟨s.ticks + s.samples 1, .faultReset⟩ ∈ t.agenda)))
  ∧ (s.power.lgs = none → s.vest.paused = false → Answers .lifetimeCommit s (fun t => (∀ o ∈ lifeRegs, t.chestWord (0x36000 + (o - R.LIFE_SECS)) = s.rd o)
      ∧ (∀ o, o < 0x36000 → t.chestByte o = s.chestByte o) ∧ ∀ o ∈ lifeRegs, t.rd o = s.rd o))

/-! ## Supplies and power modes (chapter 15) -/

/-- R378, R379, R381, R382, R383, R384, R386, R387, R388, R389, R390, R399: warnings and dips of the supplies, the last-gasp snapshot, the power
modes DOZE and DORMANT, and the wakes of the Lobby.
The model's choices that it rests on: log entries 10, 90, 100, 103. -/
def Obligations.PowerModes : Prop := ∀ (s : State),
  let mode := pwrMode s
  let busy := dipping s = true ∨ s.power.pfail = true
  let lgsFree := s.bt R.PWR_CTRL 4 = true ∧ s.power.lgs = none ∧ s.power.barred = false
  let snap (t : State) : Prop := t.power.lgs.isSome = true ∧ t.bt R.PWR_STAT 12 = true ∧ t.chestWord lgsArea = 0
    ∧ ⟨s.ticks + (if mode = 1 then 42800 else 34800), .lgsDone⟩ ∈ t.agenda
  let exits (t : State) : Prop := pwrMode t = 0 ∧ t.bt R.PWR_EVT 4 = true
    ∧ (vestRefusing s = true → t.power.exitWaits = true ∧ t.vest = s.vest)
    ∧ (vestRefusing s = false → t.vest.grants = s.vest.grants ++ [⟨.dozeExit, 100, some (s.ticks + 8000)⟩])
  (∀ k : Fin 5, monitored s k = false ∨ s.bt R.PWR_STAT (3 + k.val) = true → Answers (.supplyWarn k) s (fun t => t = s))
  ∧ (∀ k : Fin 5, monitored s k = true → s.bt R.PWR_STAT (3 + k.val) = false → Answers (.supplyWarn k) s (fun t =>
      t.bt R.PWR_STAT (3 + k.val) = true ∧ t.bt (fsrcStat FS.SUPPLY_WARN) 17 = true ∧ Raised t FS.SUPPLY_WARN ∧ t.vest.queue = []
      ∧ t.bt R.PWR_STAT 11 = true ∧ dipping t = true ∧ (mode = 1 → pwrMode t = 0) ∧ (k ≠ 0 → lgsFree → snap t ∧ t.power.trig = k.val)
      ∧ (k = 0 → t.power.lgs = s.power.lgs)))
  ∧ (∀ (j : Fin 4) (mv : BitVec 16) (dur : Word), s.power.dips[j] = none → Answers (.dipRecovery (Fin.ofNat 5 j.val) mv dur) s (fun t => t = s))
  ∧ (∀ (j : Fin 4) (mv : BitVec 16) (dur : Word) (d : Dip), s.power.dips[j] = some d → Answers (.dipRecovery (Fin.ofNat 5 j.val) mv dur) s (fun t =>
      t.power.dips[j] = none ∧ t.bt R.PWR_STAT (3 + j.val) = false ∧ t.bt R.PWR_EVT 0 = true
      ∧ t.rd R.PWR_DIP = w32 (mv.toNat + j.val * 2 ^ 16 + d.lgs.toNat * 2 ^ 19) ∧ t.rd R.PWR_DIPDUR = dur
      ∧ ((∀ i, i ≠ j → s.power.dips[i] = none) → t.bt (fsrcStat FS.SUPPLY_WARN) 17 = false)
      ∧ ((∃ i, i ≠ j ∧ s.power.dips[i] ≠ none) → t.bt (fsrcStat FS.SUPPLY_WARN) 17 = s.bt (fsrcStat FS.SUPPLY_WARN) 17)
      ∧ (s.bt R.PWR_CTRL 5 = true → evtEnabled s (Fin.ofNat 64 (s.fl R.PWR_CTRL 8 6)) = false → t.bt R.PWR_EVT 7 = true)
      ∧ (d.lgs = true → j ≠ 0 → s.power.trig = j.val → s.power.lgs = none → (s.ticks + 400, Later.lgsRecovered) ∈ t.later)
      ∧ (d.lgs = true → j ≠ 0 → s.power.trig = j.val → s.power.lgs.isSome = true → t.power.recovered = true)))
  ∧ (s.power.boot = .held → Answers .pfailN s (fun t => t.power.pfail = true ∧ t.regs = s.regs))
  ∧ (s.power.pfail = true → Answers .pfailN s (fun t => t = s))
  ∧ ((lobbyLevels s).bt (fsrcStat FS.PFAIL) 17 = s.power.pfail
      ∧ (s.power.pfail = true → s.bt (fsrcStat FS.PFAIL) 17 = false → Raised (lobbyLevels s) FS.PFAIL))
  ∧ (s.power.pfail = false → s.power.boot ≠ .held → Answers .pfailN s (fun t => t.power.pfail = true ∧ t.bt R.PWR_STAT 11 = true
      ∧ (s.ticks + s.samples 2, Later.lobbyLevels) ∈ t.later ∧ (mode = 1 → pwrMode t = 0)
      ∧ (s.bt R.PWR_CTRL 3 = true → lgsFree → snap t ∧ t.power.trig = 0) ∧ (s.bt R.PWR_CTRL 3 = false → t.power.lgs = s.power.lgs)))
  ∧ Answers .pfailNRelease s (fun t => t.power.pfail = false ∧ (s.ticks + s.samples 2, Later.lobbyLevels) ∈ t.later
      ∧ (t.bt R.PWR_STAT 11 = true ↔ dipping s = true ∨ s.power.lgs.isSome = true ∨ rewriteDue s = true))
  ∧ (¬lgsFree → Answers .lgs s (fun t => t = s))
  ∧ (lgsFree → Answers .lgs s (fun t => snap t ∧ t.power.trig = 4 ∧ t.bt R.PWR_STAT 11 = true
      ∧ (mode = 0 → t.power.lgs = some ([lgsHead s 4, s.near, w32 (s.tb.tb.toNat / 2 ^ 32), s.rd R.LIFE_BOOTS] ++ lgsContent s))
      ∧ (mode = 1 ∨ mode = 3 → pwrMode t = 0) ∧ (mode = 3 → t.bt R.PWR_EVT 5 = true)))
  ∧ (s.power.lgs = none → Answers .lgsDone s (fun t => t = s))
  ∧ (∀ ws, s.power.lgs = some ws → 4 ≤ ws.length → Answers .lgsDone s (fun t => t.power.lgs = none
      ∧ t.bt R.PWR_STAT 12 = false ∧ t.bt R.PWR_EVT 1 = true ∧ t.power.taken = s.power.taken + 1
      ∧ t.chestWord lgsArea = 0x4853474C ∧ t.chestWord (lgsArea + 20) = w32 (s.power.taken + 1)
      ∧ (∀ i w, i < 4 → ws[i]? = some w → t.chestWord (lgsArea + 4 + 4 * i) = w)
      ∧ (∀ i w, ws[4 + i]? = some w → t.chestWord (lgsArea + 0x200 + 4 * i) = w)
      ∧ (∀ o, o < lgsArea → t.chestByte o = s.chestByte o) ∧ t.rd R.LGS_STAT = ws.getD 0 0 ∧ t.rd R.LGS_TB_LO = ws.getD 1 0
      ∧ (busy → t.power.barred = true) ∧ (¬busy → t.power.barred = false)
      ∧ (s.power.recovered = true → (s.ticks + 400, Later.lgsRecovered) ∈ t.later)))
  ∧ (s.bt (fsrcStat FS.SUPPLY_WARN) 17 = true ∨ s.power.pfail = true → Answers .doze s (fun t => t.bt R.PWR_EVT 6 = true ∧ pwrMode t = mode))
  ∧ (s.bt (fsrcStat FS.SUPPLY_WARN) 17 = false → s.power.pfail = false → Answers .doze s (fun t => pwrMode t = (if mode = 0 then 2 else mode)
      ∧ { t with regs := s.regs } = s ∧ ∀ o, o ≠ R.PWR_STAT → t.rd o = s.rd o))
  ∧ (mode = 2 → Answers .run s (fun t => pwrMode t = 0 ∧ { t with regs := s.regs } = s ∧ ∀ o, o ≠ R.PWR_STAT → t.rd o = s.rd o))
  ∧ (mode = 1 → Answers .run s exits ∧ Answers .dozeExit s exits)
  ∧ (mode = 0 ∨ mode = 3 → Answers .run s (fun t => t = s))
  ∧ (mode ≠ 1 → Answers .dozeExit s (fun t => t = s))
  ∧ (dozeReady s = true → Answers .dozeEntry s (fun t => pwrMode t = 1 ∧ t.bt R.PWR_EVT 3 = true ∧ t.bt R.CLK_STAT 0 = false
      ∧ t.tbclk = false ∧ t.tb.tb = s.tb.tb ∧ t.ch = s.ch ∧ ∀ e b, t.bank e b = s.bank e b))
  ∧ (dozeReady s = false → Answers .dozeEntry s (fun t => t = s))
  ∧ (mode = 3 → Answers .dormant s (fun t => t = s))
  ∧ (mode ≠ 3 → timingIdle s = true → (∀ r, ringState s r = 0) → Answers .dormant s (fun t => pwrMode t = 3
      ∧ (s.ticks + 400, Later.dormantEnter) ∈ t.later ∧ t.agenda = s.agenda ∧ t.mem = s.mem ∧ t.chest = s.chest))
  ∧ (mode = 3 → s.power.lgs = none → (dormantEnter s).power.dormant = true ∧ (dormantEnter s).power.boot = .held
      ∧ (dormantEnter s).tb.tb = s.tb.tb ∧ (dormantEnter s).fofs = s.fofs ∧ (dormantEnter s).flt.errnPin = false
      ∧ ∀ o ∈ lifeRegs, (dormantEnter s).chestWord (0x36000 + (o - R.LIFE_SECS)) = s.rd o)
  ∧ (mode ≠ 3 → timingIdle s = false ∨ (∃ r, ringState s r ≠ 0) → Answers .dormant s (fun t => pwrMode t = mode ∧ t.bt R.PWR_EVT 5 = true
      ∧ { t with regs := s.regs, marks := s.marks } = s))
  ∧ (∀ n : Fin 16, s.power.dormant = true → s.bt R.LOB_WPIN n.val = true → s.fl R.LOB_WCTRL 0 5 ≠ n.val → Answers (.wakePin n) s (fun t =>
      t.rd R.LOB_WSRC = w32 (2 + n.val * 256) ∧ t.power.woken = true
      ∧ (s.power.woken = false → t.bt R.RST_CAUSE 5 = true ∧ t.power.wakeLow = s.bt R.LOB_WCTRL 8 ∧ t.power.woutActive = s.bt R.LOB_WCTRL 5)
      ∧ (s.power.woken = true → t.power = s.power ∧ t.rd R.RST_CAUSE = s.rd R.RST_CAUSE)))
  ∧ (∀ n : Fin 16, s.power.dormant = false ∨ s.bt R.LOB_WPIN n.val = false ∨ s.fl R.LOB_WCTRL 0 5 = n.val →
      Answers (.wakePin n) s (fun t => t = s))
  ∧ (∀ j : Fin 8, lobDue s j = false → Answers (.lobbyWakeTimer j) s (fun t => t = s))
  ∧ (∀ j : Fin 8, lobDue s j = true → s.fl (lobC j) 8 8 ≠ 0 → Answers (.lobbyWakeTimer j) s (fun t =>
      t.fl (lobC j) 8 8 = s.fl (lobC j) 8 8 - 1 ∧ t.bt (lobC j) 0 = true ∧ t.bt (lobC j) 16 = s.bt (lobC j) 16 ∧ lobDue t j = false))
  ∧ (∀ j : Fin 8, lobDue s j = true → s.fl (lobC j) 8 8 = 0 → Answers (.lobbyWakeTimer j) s (fun t =>
      t.bt (lobC j) 0 = false ∧ t.bt (lobC j) 16 = true ∧ (mode = 1 → pwrMode t = 0)
      ∧ (s.power.dormant = true → t.rd R.LOB_WSRC = w32 (1 + j.val * 256) ∧ t.power.woken = true)
      ∧ (s.power.dormant = false → mode ≠ 1 → { t with regs := s.regs, marks := s.marks } = s ∧ ∀ o, o ≠ lobC j → t.rd o = s.rd o)))

/-! ## Resets and boot (chapter 15) -/

/-- R376, R380, R389, R391, R392, R393, R394, R395, R396: the boot-sequence resets, what they keep and what they leave at reset values, the domain
resets of the supervisor port, the Gallery and the timing blocks, and the steps of the boot.
The model's choices that it rests on: log entries 4, 10, 101, 102, 103, 104. -/
def Obligations.ResetsAndBoot : Prop := ∀ (s : State),
  let core (t : State) (lobby : Bool) : Prop := t.power.boot = .held ∧ t.chest = s.chest ∧ t.pending = s.pending ∧ t.ticks = s.ticks
    ∧ t.mem = [] ∧ t.agenda = [] ∧ t.ch = State.reset.ch ∧ t.pg = State.reset.pg ∧ t.nwl = State.reset.nwl ∧ t.eng = State.reset.eng
    ∧ t.ring = State.reset.ring ∧ t.txn = State.reset.txn ∧ t.staged = [] ∧ t.lane = State.reset.lane
    ∧ t.tb.tb = (if lobby then 0 else s.tb.tb)
    ∧ t.bt R.CLK_STAT 2 = (!lobby && s.bt R.CLK_STAT 2)
    ∧ (∀ o, o ≠ R.RST_CAUSE → o ≠ R.CLK_STAT → o ≠ R.CHEST_WEAR → o ≠ R.CHEST_MOVES → o ≠ R.FLT_PLOGSTAT → o ≠ R.FLT_STAT →
        t.rd o = if lobbyReg o = true ∧ lobby = false then s.rd o else regDefault o)
  let started (t : State) : Prop := t.power.boot = .crystal ∧ t.power.goodAt = s.ticks ∧ t.power.dormant = false ∧ t.power.woken = false
  let powerOn (t : State) : Prop := core t true ∧ t.rd R.RST_CAUSE = 1 ∧ t.bt R.FLT_STAT 2 = s.bt R.FLT_STAT 2
  Answers .powerOnReset s powerOn ∧ Answers (.supplyReset 4) s powerOn
  ∧ Answers .resetN s (fun t => core t true ∧ t.rd R.RST_CAUSE = setBit (s.rd R.RST_CAUSE) 1 true ∧ t.bt R.FLT_STAT 2 = s.bt R.FLT_STAT 2)
  ∧ Answers .faultReset s (fun t => core t false ∧ t.rd R.RST_CAUSE = setBit (s.rd R.RST_CAUSE) 4 true ∧ t.bt R.FLT_STAT 2 = true)
  ∧ (∀ k : Fin 5, k ≠ 4 → s.power.dormant = false → monitored s k = true → Answers (.supplyReset k) s (fun t => core t false
      ∧ t.rd R.RST_CAUSE = setBit (s.rd R.RST_CAUSE) (if k = 0 then 2 else 3) true ∧ t.bt R.FLT_STAT 2 = s.bt R.FLT_STAT 2))
  ∧ (∀ k : Fin 5, k ≠ 4 → s.power.dormant = false → monitored s k = false → Answers (.supplyReset k) s (fun t => t = s))
  ∧ (∀ k : Fin 5, k ≠ 4 → s.power.dormant = true → Answers (.supplyReset k) s (fun t => t.regs = s.regs ∧ t.power.dormant = true
      ∧ (k = 0 → t.power.vddFell = true) ∧ (k ≠ 0 → t = s)))
  ∧ Answers .supReset s (fun t => (∀ r, hostOwned s r = false → ringState t r = 0) ∧ (∀ r, hostOwned s r = true → ringState t r = ringState s r)
      ∧ (∀ o, 0xD100 ≤ o → o < 0xD200 → o ≠ R.SUP_HB_CTRL → t.rd o = regDefault o)
      ∧ (s.bt R.SUP_HB_CTRL 2 = true → t.rd R.SUP_HB_CTRL = s.rd R.SUP_HB_CTRL ∧ t.ports = s.ports)
      ∧ (s.bt R.SUP_HB_CTRL 2 = false → t.rd R.SUP_HB_CTRL = regDefault R.SUP_HB_CTRL ∧ t.ports.hbAt = none)
      ∧ t.ch = s.ch ∧ t.eng = s.eng ∧ t.staged = s.staged)
  ∧ Answers .galReset s (fun t => (∀ r, ringState t r = 0 ∧ t.ring[r] = Ring.reset) ∧ t.land.pool = [] ∧ t.land.tallies = []
      ∧ (∀ g : Fin 16, t.gc[g].work = none) ∧ (∀ x, txnState t x = txnState s x) ∧ t.staged = s.staged ∧ t.ch = s.ch
      ∧ t.rd R.CAP_NORING = s.rd R.CAP_NORING ∧ t.out = s.out)
  ∧ Answers .timingReset s (fun t => (∀ o, timingReg o = true → t.rd o = regDefault o) ∧ (∀ x, txnState t x = 0) ∧ t.staged = []
      ∧ (∀ n : Fin 96, t.ch[n] = { Chan.reset with pin := s.ch[n].pin, level := s.ch[n].pin, edgeAt := s.ch[n].edgeAt })
      ∧ (∀ m : Fin 16, t.pg[m] = Pg.reset) ∧ (∀ n : Fin 4, t.nwl[n] = Nwl.reset) ∧ (∀ k : Fin 16, t.lane[k] = Lane.reset)
      ∧ t.snap = Snap.reset ∧ t.eng = s.eng ∧ t.tb = s.tb ∧ t.mem = s.mem ∧ (∀ d ∈ t.agenda, timingCmd d.cmd = false)
      ∧ (∀ o, timingReg o = false → (∀ k, 128 ≤ k → k < 160 → o ≠ fsrcStat k) → t.rd o = s.rd o))
  ∧ (∀ v : BitVec 3, s.power.boot = .held → s.power.dormant = false → Answers (.vddGood v) s (fun t => started t
      ∧ t.fl R.PWR_STAT 8 3 = v.toNat ∧ t.rd R.RST_CAUSE = s.rd R.RST_CAUSE))
  ∧ (∀ v : BitVec 3, s.power.boot = .held → s.power.dormant = true → s.power.woken = true → Answers (.vddGood v) s (fun t => started t))
  ∧ (∀ v : BitVec 3, s.power.boot = .held → s.power.dormant = true → s.power.woken = false → s.power.vddFell = true →
      Answers (.vddGood v) s (fun t => started t ∧ t.rd R.LOB_WSRC = 3 ∧ t.bt R.RST_CAUSE 5 = true))
  ∧ (∀ v : BitVec 3, s.power.dormant = true → s.power.woken = false → s.power.vddFell = false → Answers (.vddGood v) s (fun t => t = s))
  ∧ (∀ v : BitVec 3, s.power.boot ≠ .held → s.power.dormant = false → Answers (.vddGood v) s (fun t => t = s))
  ∧ (s.power.boot = .held → Answers .xinRunning s (fun t => t = s))
  ∧ (s.power.boot ≠ .held → Answers .xinRunning s (fun t => t.bt R.CLK_STAT 1 = true ∧ t.bt (fsrcStat FS.XIN_LOSS) 17 = false
      ∧ t.power.boot = (if s.power.boot = .crystal then .pll else s.power.boot)))
  ∧ (s.power.boot ≠ .sram → Answers .bootPatchLoad s (fun t => t = s))
  ∧ (s.power.boot = .sram → Answers .bootPatchLoad s (fun t => t.power.boot = .patch ∧ ⟨s.ticks + 1000000, .configImageApply⟩ ∈ t.agenda
      ∧ (bit (Config.freeWord s.free) 0 = true → t.bt R.BOOT_STAT 3 = true ∧ Raised t FS.BIST_FAIL)
      ∧ (s.chestWord 0x1000 = 0 → t.bt R.MC_STAT 2 = true) ∧ (s.chestWord 0x1000 ≠ 0 → ⟨s.ticks + 1000000, .patchActivate⟩ ∈ t.agenda)))
  ∧ (s.power.boot = .patch → Answers .configImageApply s (fun t => t.power.boot = .image ∧ t.fl R.BOOT_STAT 0 3 = (imgCheck s).1
      ∧ (t.rd R.LIFE_BOOTS).toNat = min (2 ^ 32 - 1) ((s.chestWord 0x36004).toNat + 1) ∧ t.rd R.LIFE_SECS = s.chestWord 0x36000 ∧ t.power.image = (imgCheck s).2
      ∧ (imgWord s 0 = 0 → imgBad s = false → t.fl R.BOOT_STAT 0 3 = 0)
      ∧ ⟨s.ticks + s.samples 1, if (imgCheck s).2 = [] then .autogoStart else .configImageApply⟩ ∈ t.agenda))
  ∧ (∀ w0 w1 rest, s.power.boot = .image → s.power.image = (w0, w1) :: rest → fld w0 24 4 = 2 → Answers .configImageApply s (fun t =>
      t.power.image = rest ∧ ⟨s.ticks + 400 * w1.toNat, .imageWaitExpiry⟩ ∈ t.agenda ∧ t.regs = s.regs))
  ∧ (∀ w0 w1 rest, s.power.boot = .image → s.power.image = (w0, w1) :: rest → fld w0 24 4 ≠ 2 → Answers .configImageApply s (fun t =>
      let u := serveWrite (s.updPower (fun p => { p with image := rest })) .host (fld w0 0 20) 15 w1
      t = if rest = [] then (u.wr R.BOOT_IMGREL u.power.imgrel).after 1 .autogoStart else u.after 1 .configImageApply))
  ∧ (s.power.boot ≠ .patch → s.power.boot ≠ .image ∨ s.power.image = [] → Answers .configImageApply s (fun t => t = s))
  ∧ (s.power.boot ≠ .image → Answers .imageWaitExpiry s (fun t => t = s))
  ∧ (s.power.boot = .image → s.power.image = [] → Answers .imageWaitExpiry s (fun t => t.rd R.BOOT_IMGREL = s.power.imgrel
      ∧ ⟨s.ticks + s.samples 1, .autogoStart⟩ ∈ t.agenda))
  ∧ (s.power.boot = .image → s.power.image ≠ [] → exec .imageWaitExpiry s = exec .configImageApply s)
  ∧ (s.power.boot ≠ .image → Answers .autogoStart s (fun t => t = s))
  ∧ (s.power.boot = .image → Answers .autogoStart s (fun t => t.power.boot = .done ∧ t.flt.errnBoot = false ∧ (s.ticks + s.samples 1, Later.errn) ∈ t.later
      ∧ t.rd R.BOOT_TIME = w32 (min 65535 ((s.ticks - s.power.goodAt) / 400))
      ∧ (s.pcie.perst = false → ⟨s.ticks + 400000, .linkTrainingStart⟩ ∈ t.agenda)
      ∧ ((∀ e, s.bt (feOff e FE.CTRL) 0 = false) → t.go = s.go)
      ∧ ((∃ e, s.bt (feOff e FE.CTRL) 0 = true) → vestRefusing s = false → s.vest.queue.length < 8 → t.bt (feGlobOff FE.GOSTAT) 0 = true ∧ t.go.isSome = true)))

/-! ## The host link (chapters 10, 15 and 16) -/

/-- R266, R286, R289, R393, R394, R402, R403, R404, R405: the loss of the host by PERST_N, the link, a host reset or a function reset detaches
every host-owned ring and resets configuration space; the link trains and comes up; configuration writes, L1 and link errors.
The model's choices that it rests on: log entries 10, 76, 103, 112. -/
def Obligations.HostLink : Prop := ∀ (s : State) (v : Word),
  let up := linkUp s = true
  let gone (t : State) : Prop := t.pcie.bme = false ∧ t.bt R.RING_HOSTSTAT 1 = false ∧ t.bt R.RING_HOSTSTAT 2 = true
    ∧ (∀ r, hostOwned s r = true → ringState t r = (if ringState s r = 0 ∨ ringState s r = 3 then 0 else 5))
    ∧ (∀ r, hostOwned s r = false → ringState s r ≠ 5 → ringState t r ≠ 5)
    ∧ (∀ r, hostOwned s r = true → ringState s r = 3 → t.ring[r].cur = none ∧ t.ring[r].q = [])
    ∧ (∀ i < 0x400, t.byte (0x200000 + i) = memDefault (0x200000 + i)) ∧ (∀ o, o < 0x200000 → t.byte o = s.byte o)
    ∧ t.txn.map (·.owner) = s.txn.map (·.owner) ∧ t.staged = s.staged ∧ t.ch = s.ch ∧ t.eng = s.eng
  let lost (t : State) : Prop := gone t ∧ linkUp t = false ∧ t.rd R.PCIE_STAT = 0x100 ∧ t.bt (fsrcStat FS.PCIE_LINK) 17 = true
    ∧ (s.bt (fsrcStat FS.PCIE_LINK) 17 = false → Raised t FS.PCIE_LINK)
  Answers .perstN s (fun t => lost t ∧ t.pcie.perst = true ∧ t.pcie.training = false ∧ t.hasDue .linkTrainingStart = false)
  ∧ Answers .hostReset s (fun t => lost t ∧ t.pcie.perst = s.pcie.perst ∧ t.pcie.training = s.pcie.training)
  ∧ (up → Answers .linkDown s (fun t => lost t ∧ t.pcie.perst = s.pcie.perst)) ∧ (¬up → Answers .linkDown s (fun t => t = s))
  ∧ (up → Answers .flr s (fun t => gone t ∧ linkUp t = true)) ∧ (¬up → Answers .flr s (fun t => t = s))
  ∧ (s.pcie.perst = true → s.power.boot = .done → Answers .perstNRelease s (fun t => t.pcie.perst = false
      ∧ ⟨s.ticks + 400000, .linkTrainingStart⟩ ∈ t.agenda ∧ t.regs = s.regs))
  ∧ (s.pcie.perst = false ∨ s.power.boot ≠ .done → Answers .perstNRelease s (fun t => t = { s with pcie := { s.pcie with perst := false } }))
  ∧ (s.power.boot = .done → s.pcie.perst = false → Answers .linkTrainingStart s (fun t => t = { s with pcie := { s.pcie with training := true } }))
  ∧ (s.power.boot ≠ .done ∨ s.pcie.perst = true → Answers .linkTrainingStart s (fun t => t = s))
  ∧ (s.pcie.perst = false → s.pcie.training = true → Answers .linkUp s (fun t => linkUp t = true ∧ t.rd R.PCIE_STAT = 0xB
      ∧ t.bt (fsrcStat FS.PCIE_LINK) 17 = false ∧ { t with regs := s.regs } = s))
  ∧ (s.pcie.perst = true ∨ s.pcie.training = false → Answers .linkUp s (fun t => t = s))
  ∧ (¬up → Answers (.configurationWrite v) s (fun t => t = s))
  ∧ (up → Answers (.configurationWrite v) s (fun t => t.pcie.bme = bit v 0 ∧ t.bt R.RING_HOSTSTAT 1 = bit v 0
      ∧ t.pcie.d3 = decide (fld v 1 2 = 3) ∧ t.pcie.pmeEn = bit v 3 ∧ t.pcie.msi = bit v 4 ∧ t.pcie.msix = bit v 5 ∧ t.pcie.fmask = bit v 6 ∧ t.pcie.ro = bit v 9
      ∧ t.pcie.l1ss = (if bit v 8 then 2 else if bit v 7 then 1 else 0) ∧ t.fl R.PCIE_STAT 4 2 = (if fld v 1 2 = 3 then 3 else 0)
      ∧ t.pcie.l1 = false ∧ linkUp t = true
      ∧ (s.pcie.pba = 0 → bit v 0 = true → fld v 1 2 ≠ 3 → t.out = s.out ++ s.pcie.deferred.map (fun k => HostMsg.msi k) ∧ t.pcie.deferred = [])
      ∧ (bit v 0 = false ∨ fld v 1 2 = 3 → t.out = s.out)))
  ∧ (up → s.fl R.PCIE_STAT 6 3 = 0 → s.pcie.l1ss ≤ 2 → Answers .l1Entry s (fun t => t.pcie.l1 = true
      ∧ t.fl R.PCIE_STAT 6 3 = 1 + s.pcie.l1ss ∧ linkUp t = true ∧ t.out = s.out))
  ∧ (¬up ∨ s.fl R.PCIE_STAT 6 3 ≠ 0 → Answers .l1Entry s (fun t => t = s))
  ∧ (∀ k : Fin 3, Answers (.pcieError k) s (fun t => Raised t (192 + k.val)
      ∧ t.fl R.PCIE_ERRCNT 0 16 = (if k = 0 then min 65535 (s.fl R.PCIE_ERRCNT 0 16 + 1) else s.fl R.PCIE_ERRCNT 0 16)
      ∧ t.fl R.PCIE_ERRCNT 16 16 = (if k = 0 then s.fl R.PCIE_ERRCNT 16 16 else min 65535 (s.fl R.PCIE_ERRCNT 16 16 + 1))))

/-! ## The peer ring (chapter 16) -/

/-- R138, R321, R325, R393, R413, R414, R416, R417, R418, R419: the ring comes up by its numbering and goes down with its link; each kind of frame
acts here and goes on unless it came from here; the primary's stamps steer the others.
The model's choices that it rests on: log entries 4, 6, 10, 46, 82, 110. -/
def Obligations.PeerRing : Prop := ∀ (s : State) (h : FrameHead),
  let hears := s.bt R.PEER_CFG 0 = true ∧ s.peer.lock = true
  let own := h.dev.val = s.fl R.PEER_STAT 0 2
  let primary := s.bt R.PEER_CFG 1 = true
  let onward (t : State) (f : PeerFrame) : Prop := (s.ticks + 26, Later.peerSend f) ∈ t.later
  let down (t : State) : Prop := ringUp t = false ∧ t.bt R.PEER_STAT 5 = false ∧ t.bt R.TB_SLEW 3 = false
    ∧ t.bt (fsrcStat FS.PEER_LINK) 17 = true ∧ t.peer.opened = [] ∧ t.peer.held = [] ∧ t.hasDue .timeFrameSend = false
    ∧ (ringUp s = true → t.bt R.SUP_ISR 3 = true)
    ∧ (∀ n : Fin 4, s.nwl[n].on = true → s.nwl[n].mode = 2 → t.nwl[n].state = .lost)
  Answers .peerEnable s (fun t => t.rd R.PEER_CFG = (s.rd R.PEER_CFG ||| 1) &&& 0xF7
      ∧ (s.bt R.PEER_CFG 0 = false → t.peer = { s.peer with lock := false, joining := true, filt := 0 }
          ∧ (s.ticks + 400000, Later.peerCheck) ∈ t.later)
      ∧ (s.bt R.PEER_CFG 0 = true → t.peer = s.peer))
  ∧ (s.bt R.PEER_CFG 0 = true → s.peer.lock = false → Answers .commaLock s (fun t => t.peer.lock = true
      ∧ (primary → t.fl R.PEER_STAT 0 2 = 0)
      ∧ (primary → ringUp s = false → t.peer.tx = s.peer.tx ++ [.enum ⟨0, 1⟩] ∧ (s.ticks + 4096, Later.enumSend) ∈ t.later)
      ∧ (¬primary → t.peer.tx = s.peer.tx ∧ t.regs = s.regs)))
  ∧ (s.bt R.PEER_CFG 0 = false ∨ s.peer.lock = true → Answers .commaLock s (fun t => t = s))
  ∧ (hears → Answers .peerLinkDown s (fun t => down t ∧ t.peer.lock = false ∧ t.peer.tx = s.peer.tx ++ [.linkdn (ownHead s)]
      ∧ t.fl R.PEER_CNT 16 16 = min 65535 (s.fl R.PEER_CNT 16 16 + 1)))
  ∧ (¬hears → Answers .peerLinkDown s (fun t => t = s))
  ∧ Answers .peerReset s (fun t => ringUp t = false ∧ t.rd R.PEER_CFG = s.rd R.PEER_CFG ∧ t.rd R.PEER_RXDLY = s.rd R.PEER_RXDLY
      ∧ t.peer.lock = false ∧ t.peer.joining = true ∧ t.peer.opened = [] ∧ t.peer.duties = [] ∧ ∀ x f, (x, Later.peerSend f) ∉ t.later)
  ∧ (¬hears → ∀ (t0 : Tooth0) (t1 : Tooth1) (tm : Time) (f a : BitVec 5) (n : Nat) (x : Fin 8) (w : Word) (m : BitVec 4),
      ∀ c ∈ [.enumFrame h, .timeFrame h tm f a, .tooth0Frame h t0, .tooth1Frame h t1, .snapFrame h n w, .commitFrame h n x w, .statusFrame h n m,
        .linkdnFrame h, .peerFrameDiscard], Answers c s (fun t => t = s))
  ∧ (hears → primary → ringUp s = true → Answers (.enumFrame h) s (fun t => t = s))
  ∧ (hears → primary → ringUp s = false → Answers (.enumFrame h) s (fun t => ringUp t = true ∧ t.peer.loop = 0 ∧ t.peer.sentAt = none
      ∧ t.fl R.PEER_STAT 2 2 = (h.hops.val + 3) % 4 ∧ t.bt (fsrcStat FS.PEER_LINK) 17 = false ∧ ⟨s.ticks, .timeFrameSend⟩ ∈ t.agenda))
  ∧ (hears → ¬primary → h.hops.val ≠ 0 → Answers (.enumFrame h) s (fun t => t.fl R.PEER_STAT 0 2 = h.hops.val % 4 ∧ onward t (.enum (hop h))))
  ∧ (hears → ¬primary → h.hops.val = 0 → Answers (.enumFrame h) s (fun t => t.bt (fsrcStat FS.PEER_LINK) 17 = true
      ∧ t.fl R.PEER_STAT 0 2 = s.fl R.PEER_STAT 0 2))
  ∧ (primary → ringUp s = true → Answers .timeFrameSend s (fun t =>
      t.peer.tx = s.peer.tx ++ [.time (ownHead s) s.tb.tb (BitVec.ofNat 5 s.fofs)]
      ∧ t.peer.sentAt = (if s.peer.loop = 0 ∧ s.peer.sentAt = none then some s.eff else s.peer.sentAt) ∧ ⟨s.ticks + 4096, .timeFrameSend⟩ ∈ t.agenda))
  ∧ (¬primary ∨ ringUp s = false → Answers .timeFrameSend s (fun t => t = s))
  ∧ (∀ (tm : Time) (f a : BitVec 5), hears → primary → (∀ x, s.peer.sentAt = some x → Answers (.timeFrame h tm f a) s (fun t =>
        t.peer = { s.peer with loop := s.eff + a.toNat - x, sentAt := none } ∧ t.regs = s.regs))
      ∧ (s.peer.sentAt = none → Answers (.timeFrame h tm f a) s (fun t => t = s)))
  ∧ (∀ (tm : Time) (f a : BitVec 5), hears → ¬primary → Answers (.timeFrame h tm f a) s (fun t => ringUp t = true ∧ t.peer.joining = false
      ∧ t.fl R.PEER_ERR 0 16 = peerErr (((tm.toNat * 32 + f.toNat : Nat) - (s.eff + a.toNat : Nat) : Int) * 625 / 8 + peerDelay s)
      ∧ (¬own → onward t (.time (hop h) tm f))))
  ∧ (∀ t0 : Tooth0, hears → ¬own → Answers (.tooth0Frame h t0) s (fun t => (h.dev, t0.nwl, t0) ∈ t.peer.held ∧ onward t (.tooth0 (hop h) t0)
      ∧ t.nwl = s.nwl ∧ ∀ x ∈ t.peer.held, x.1 = h.dev → x.2.1 = t0.nwl → x = (h.dev, t0.nwl, t0)))
  ∧ (∀ t1 : Tooth1, hears → ¬own → Answers (.tooth1Frame h t1) s (fun t => onward t (.tooth1 (hop h) t1)
      ∧ (∀ x ∈ t.peer.held, ¬(x.1 = h.dev ∧ x.2.1 = t1.nwl)) ∧ ((∀ x ∈ s.peer.held, ¬(x.1 = h.dev ∧ x.2.1 = t1.nwl)) → t.nwl = s.nwl)
      ∧ (∀ n, n ∉ followersOf s h.dev t1.nwl → t.nwl[n] = s.nwl[n])))
  ∧ (∀ (n : Nat) (x : Option (Fin 8)) (w : Word), hears → ¬own →
      let f := match x with | some y => Instr.commitFrame h n y w | none => .snapFrame h n w
      let g := match x with | some y => PeerFrame.commit (hop h) n y w | none => .snap (hop h) n w
      Answers f s (fun t => t.peer.duties = s.peer.duties ++ [⟨farTime s w, h.dev, n, x⟩] ∧ onward t g ∧ t.regs = s.regs))
  ∧ (∀ (n : Nat) (m : BitVec 4), hears → ¬own → Answers (.statusFrame h n m) s (fun t => (h.dev, n) ∉ t.peer.acted
      ∧ ((h.dev, n) ∈ s.peer.acted → onward t (.status (hop h) n (m ||| BitVec.ofNat 4 (2 ^ s.fl R.PEER_STAT 0 2))))
      ∧ ((h.dev, n) ∉ s.peer.acted → onward t (.status (hop h) n m))))
  ∧ (∀ (n : Nat) (m : BitVec 4), hears → own → Answers (.statusFrame h n m) s (fun t => t.later = s.later ∧ (∀ x ∈ t.peer.opened, x.1 ≠ n)
      ∧ ((n, none) ∈ s.peer.opened → (∀ x, (n, some x) ∉ s.peer.opened) → t.bt R.SNAP_STAT 17 = true
          ∧ ∀ d, d ≤ s.fl R.PEER_STAT 2 2 → m.getLsbD d = false → t.bt R.SNAP_STAT (20 + d) = true)
      ∧ (∀ x, (n, some x) ∈ s.peer.opened → (n, none) ∉ s.peer.opened → t.bt R.SNAP_STAT 17 = true
          ∧ ∀ d, d ≤ s.fl R.PEER_STAT 2 2 → m.getLsbD d = false → t.bt R.TXN_EVT (16 + d) = true)
      ∧ ((∀ x ∈ s.peer.opened, x.1 ≠ n) → t.regs = s.regs)))
  ∧ (own → ∀ (t0 : Tooth0) (t1 : Tooth1) (n : Nat) (x : Fin 8) (w : Word), ∀ c ∈ [.tooth0Frame h t0, .tooth1Frame h t1, .snapFrame h n w,
      .commitFrame h n x w, .linkdnFrame h], Answers c s (fun t => t = s))
  ∧ (hears → ¬own → Answers (.linkdnFrame h) s (fun t => down t ∧ onward t (.linkdn (hop h))
      ∧ (primary → (s.ticks + 4096, Later.enumSend) ∈ t.later)))
  ∧ (hears → Answers .peerFrameDiscard s (fun t => t.fl R.PEER_CNT 0 16 = min 65535 (s.fl R.PEER_CNT 0 16 + 1) ∧ Raised t FS.PEER_FRAME))

/-! ## The supervisor port, JTAG and debug (chapter 16) -/

/-- R406, R407, R408, R409, R411, R412, R420, R421, R422, R423: the heartbeat; the commands of the supervisor's bus; the instructions of the TAP;
and the halting, stepping and writing of engines by the debugger. The words shifted into the boundary-scan register are free values.
The model's choices that it rests on: log entries 4, 10, 14, 103, 111. -/
def Obligations.PortsAndDebug : Prop := ∀ (s : State) (a : Agent) (v : Word),
  let en := s.bt R.SUP_HB_CTRL 0 = true
  let fresh' := s.ports.hbKicked = false ∨ fld v 0 16 = (s.fl R.SUP_HB_STAT 0 16 + 1) % 65536
  let period := 4000 * max 1 (s.fl R.SUP_HB_CTRL 16 16)
  let serves := supServes s = true
  let ready := serves ∧ accessWaits s .sup = false
  let tapIs (t : State) (i : TapIr) : Prop := t = { s with ports := { s.ports with ir := i } }
  (a ≠ .sup → Answers (.hbKick a v) s (fun t => Raised t FS.RSVD_WRITE ∧ t.rd R.SUP_HB_STAT = s.rd R.SUP_HB_STAT
      ∧ t.ports.hbKicked = s.ports.hbKicked))
  ∧ (¬en → Answers (.hbKick .sup v) s (fun t => t.rd R.SUP_HB_STAT = s.rd R.SUP_HB_STAT ∧ t.ports.hbAt = s.ports.hbAt))
  ∧ (en → fresh' → Answers (.hbKick .sup v) s (fun t => t.fl R.SUP_HB_STAT 0 16 = fld v 0 16 ∧ t.ports.hbAt = some (s.ticks + period)
      ∧ t.ports.hbKicked = true ∧ t.fl R.SUP_HB_STAT 16 8 = s.fl R.SUP_HB_STAT 16 8))
  ∧ (en → ¬fresh' → Answers (.hbKick .sup v) s (fun t => t.fl R.SUP_HB_STAT 0 16 = s.fl R.SUP_HB_STAT 0 16
      ∧ t.fl R.SUP_HB_STAT 16 8 = min 255 (s.fl R.SUP_HB_STAT 16 8 + 1) ∧ (pwrMode s ≠ 1 → t.ports.hbAt = s.ports.hbAt)))
  ∧ Answers .hbLock s (fun t => t.bt R.SUP_HB_CTRL 2 = true ∧ t.bt R.SUP_HB_CTRL 0 = s.bt R.SUP_HB_CTRL 0
      ∧ t.fl R.SUP_HB_CTRL 16 16 = s.fl R.SUP_HB_CTRL 16 16)
  ∧ (hbDue s = true → Answers .heartbeatExpiry s (fun t => t.bt R.SUP_HB_STAT 24 = true ∧ t.bt R.SUP_ISR 2 = true
      ∧ Raised t FS.HEARTBEAT_TMO ∧ t.ports.hbAt = some (s.ticks + period) ∧ t.eng = s.eng ∧ t.ch = s.ch))
  ∧ (hbDue s = false → Answers .heartbeatExpiry s (fun t => t = s))
  ∧ (serves → Answers .readStatus s (fun t => t = { s with ports := { s.ports with supData := [s.rd R.SUP_STAT] } })
      ∧ Answers .readId s (fun t => t = { s with ports := { s.ports with supData := [s.rd R.SYS_ID] } }))
  ∧ (¬serves → ∀ (o n : Nat) (bs : List Byte), ∀ c ∈ [.readStatus, .readId, .xspiRead o n, .xspiWrite o bs], Answers c s (fun t => t = s))
  ∧ (∀ (o n : Nat) (bs : List Byte), serves → 0x100000 ≤ o → ∀ c ∈ [.xspiRead o n, .xspiWrite o bs], Answers c s (fun t =>
      t.bt R.SUP_STAT 1 = true ∧ Raised t FS.XSPI_PROTO ∧ t.mem = s.mem ∧ t.ch = s.ch))
  ∧ (∀ o n, serves → o < 0x100000 → accessWaits s .sup = true → Answers (.xspiRead o n) s (fun t => t.bt R.SUP_STAT 0 = true
      ∧ t.ports.supData = List.replicate n 0xFFFFFFFF ∧ ⟨s.ticks, .dozeExit⟩ ∈ t.agenda ∧ t.mem = s.mem))
  ∧ (∀ o n, ready → o < 0x100000 → readBusy s .sup = true ∨ xspiWriting s = true → Answers (.xspiRead o n) s (fun t =>
      ⟨s.ticks + s.samples 1, .xspiRead o n⟩ ∈ t.agenda
      ∧ t.ports = s.ports ∧ t.regs = s.regs))
  ∧ (∀ o n, ready → o < 0x100000 → readBusy s .sup = false → xspiWriting s = false → Answers (.xspiRead o n) s (fun t =>
      t.ports.supData = (readBurst (n + 1) (o / 4 * 4) s).1.take n ∧ t.regs = (readBurst (n + 1) (o / 4 * 4) s).2.regs ∧ t.mem = s.mem))
  ∧ (∀ o bs, serves → o < 0x100000 → bs ≠ [] → accessWaits s .sup = true → Answers (.xspiWrite o bs) s (fun t =>
      ⟨s.ticks + s.samples 1, .xspiWrite o (bs.take 64)⟩ ∈ t.agenda ∧ ⟨s.ticks, .dozeExit⟩ ∈ t.agenda ∧ (64 < bs.length → t.bt R.SUP_STAT 0 = true)))
  ∧ (∀ o, serves → o < 0x100000 → Answers (.xspiWrite o []) s (fun t => t = s))
  ∧ (∀ (o : Nat) (b0 b1 b2 b3 : Byte) (rest : List Byte), ready → o < 0x100000 → o % 4 = 0 → Answers (.xspiWrite o (b0 :: b1 :: b2 :: b3 :: rest)) s (fun t =>
      let u := serveWrite s .sup o 15 (wordOfBytes b0 b1 b2 b3)
      t = if rest = [] then u else u.after 1 (.xspiWrite ((o + 4) % 0x100000) rest)))
  ∧ Answers .extest s (fun t => tapIs t .extest) ∧ Answers .highz s (fun t => tapIs t .highz) ∧ Answers .clamp s (fun t => tapIs t .clamp)
  ∧ Answers .idcode s (fun t => tapIs t .idcode) ∧ Answers .bypass s (fun t => tapIs t .bypass)
  ∧ Answers .samplePreload s (fun t => t.ports.ir = .sample ∧ (∀ n : Fin 96, t.ports.bscan.getLsbD n.val = s.ch[n].pin) ∧ t.ch = s.ch
      ∧ t.regs = s.regs ∧ t.mem = s.mem)
  ∧ (s.bt R.DBG_CTRL 0 = false → Answers .debug s (fun t => tapIs t .bypass))
  ∧ (s.bt R.DBG_CTRL 0 = true → Answers .debug s (fun t => t.ports.ir = .debug ∧ t.ports.dbgSeen = true
      ∧ (s.ports.dbgSeen = false → Raised t FS.DEBUG_ACCESS) ∧ (s.ports.dbgSeen = true → tapIs t .debug)))
  ∧ (∀ dr : BitVec 54,
      let o := dr.toNat / 2 ^ 32 % 2 ^ 20 / 4 * 4
      let s1 := s.updPorts (fun p => { p with dbgOk := true })
      let debugs := s.ports.ir = .debug ∧ s.bt R.DBG_CTRL 0 = true ∧ coreOn s = true
      (¬debugs → Answers (.debugUpdateDr dr) s (fun t => t = s))
      ∧ (debugs → enginesToCome s = true → Answers (.debugUpdateDr dr) s (fun t =>
          t.ports.dbgOk = false ∧ ⟨s.ticks, .debugUpdateDr dr⟩ ∈ t.agenda ∧ t.regs = s.regs))
      ∧ (debugs → enginesToCome s = false → dr.getLsbD 52 = true →
          Answers (.debugUpdateDr dr) s (fun t => t = serveWrite s1 .debug o 15 (dr.setWidth 32)))
      ∧ (debugs → enginesToCome s = false → dr.getLsbD 52 = false →
          Answers (.debugUpdateDr dr) s (fun t => t.rdDebug = (serveRead s1 .debug o).1 ∧ t.regs = (serveRead s1 .debug o).2.regs)))
  ∧ Answers (.dbgHalt a v) s (fun t => ∀ e : Fin 8,
      (bit v e.val = true → feRun s e = true → feStopping t e = true ∧ t.eng[e].haltReq = true)
      ∧ (bit v e.val = true → feRun s e = false → feHalted s e = false → feHalted t e = true ∧ t.eng[e].wasRun = s.eng[e].startNext)
      ∧ (bit v e.val = false → t.eng[e] = s.eng[e] ∧ t.rd (feOff e FE.STAT) = s.rd (feOff e FE.STAT)))
  ∧ (let goes (e : Fin 8) : Prop := bit v e.val = true ∧ feHalted s e = true ∧ feRun s e = false ∧ s.eng[e].stopAt ≠ s.now
     Answers (.dbgResume a v) s (fun t => ∀ e : Fin 8,
        (goes e → feHalted t e = false ∧ t.eng[e].startNext = s.eng[e].wasRun ∧ t.eng[e].bpSkip = true)
        ∧ (¬goes e → t.eng[e] = s.eng[e] ∧ t.rd (feOff e FE.STAT) = s.rd (feOff e FE.STAT)))
     ∧ Answers (.dbgStep a v) s (fun t => t.regs = s.regs ∧ ∀ e : Fin 8,
        (goes e → t.eng[e] = { s.eng[e] with startNext := true, stepOne := true, bpSkip := true }) ∧ (¬goes e → t.eng[e] = s.eng[e])))
  ∧ (feHalted s (dbgEng s) = false → Answers (.dbgDataWrite a v) s (fun t => t = s.setEv R.DBG_STAT 8))
  ∧ (feHalted s (dbgEng s) = true →
      let x := s.bank (dbgEng s) (dbgBank s)
      let sets (t : State) (y : Bank) : Prop := t.bank (dbgEng s) (dbgBank s) = y ∧ t.regs = s.regs ∧ t.mem = s.mem
        ∧ ∀ e b, ¬(e = dbgEng s ∧ b = dbgBank s) → t.bank e b = s.bank e b
      Answers (.dbgDataWrite a v) s (fun t => (∀ r : Fin 16, dbgReg s = r.val → sets t (x.put r v))
        ∧ (dbgReg s = 16 → sets t { x with pc := v.setWidth 16 }) ∧ (dbgReg s = 17 → sets t { x with sp := v.setWidth 16 })
        ∧ (dbgReg s = 18 → sets t { x with splim := v.setWidth 16 }) ∧ (dbgReg s = 23 → sets t { x with rc := v.setWidth 16 })
        ∧ (dbgReg s = 19 → sets t { x with acc0 := (x.acc0 >>> 32).setWidth 32 ++ v }) ∧ (dbgReg s = 20 → sets t { x with acc0 := v ++ x.acc0.setWidth 32 })
        ∧ (dbgReg s = 21 → sets t { x with acc1 := (x.acc1 >>> 32).setWidth 32 ++ v }) ∧ (dbgReg s = 22 → sets t { x with acc1 := v ++ x.acc1.setWidth 32 })
        ∧ (dbgReg s = 24 → sets t { x with st := v &&& 7 }) ∧ (dbgReg s = 25 → sets t { x with acyc := acycOf v })
        ∧ (dbgReg s = 26 → t.fl (feOff (dbgEng s) FE.PWIN) (8 * (dbgBank s).val) 8 = fld v 0 8 ∧ t.eng = s.eng ∧ t.mem = s.mem) ∧ (26 < dbgReg s → t = s)))

/-! ## Accesses of the ports (chapters 00, 01 and 07) -/

/-- R3: a write of SYS_ID, by whichever agent, is ignored, and a nonzero one raises RSVD_WRITE; a port's write request is served as that write. -/
def Obligations.SysIdWrites : Prop := ∀ (s : State) (a : Agent) (v : Word),
  let ignored (t : State) : Prop := t.rd R.SYS_ID = s.rd R.SYS_ID ∧ (v ≠ 0 → Raised t FS.RSVD_WRITE) ∧ (v = 0 → t.flt = s.flt ∧ t.rd = s.rd)
    ∧ t.ch = s.ch ∧ t.pg = s.pg ∧ t.nwl = s.nwl ∧ t.eng = s.eng ∧ t.lane = s.lane ∧ t.ring = s.ring ∧ t.mem = s.mem ∧ t.chest = s.chest
  ignored (serveWrite s a R.SYS_ID 15 v)
  ∧ (served s a = true → (a = .host → s.pcie.l1 = false ∧ s.pcie.d3 = false) → accessWaits s a = false → Answers (.registerWrite a R.SYS_ID 4 (v.setWidth 64)) s ignored)

/-- R8, R9, R11, R12, R22, R181, R387, R402, R409: a request of a port: a word of a register or of memory is read or written, bytes only of memory; a
request past its word goes on in the next cycle, one in DOZE waits, and what no port serves, no window takes, or comes from the host in D3hot
has no effect but to wake the link.
The model's choices that it rests on: log entries 11, 12, 14, 15. -/
def Obligations.Accesses : Prop := ∀ (s : State) (a : Agent) (o n : Nat) (v : BitVec 64),
  let here := served s a = true
  let ready := here ∧ accessWaits s a = false ∧ unsupported s a = false
  let after' (c : Instr) (d : Nat) (t : State) : Prop := ⟨s.ticks + d, c⟩ ∈ t.agenda
  let all : List Instr := [.registerWrite a o n v, .codeRamWrite a o n v, .rcRead a o n]
  (¬here → ∀ c ∈ all, Answers c s (fun t => t = s))
  ∧ (here → a = .sup → 0x100000 ≤ o → ∀ c ∈ all, Answers c s (fun t => t.bt R.SUP_STAT 1 = true ∧ Raised t FS.XSPI_PROTO
      ∧ t.mem = s.mem ∧ t.ch = s.ch ∧ t.eng = s.eng))
  ∧ (here → unsupported s a = true → ∀ c ∈ all, Answers c s (fun t => t = wakeLink s))
  ∧ (a = .host → ready → readBusy s a = false → (o < 0x100000 ∧ 0x100000 < o + n) ∨ (o < 0x140000 ∧ 8 < n)
        ∨ (0x140000 ≤ o ∧ o < 0x200000) ∨ 0x202000 < o + n → ∀ c ∈ all, Answers c s (fun t => t = wakeLink s))
  ∧ (here → unsupported s a = false → o < 0x100000 → accessWaits s a = true →
      ∀ c ∈ all, Answers c s (fun t => after' .dozeExit 0 t ∧ after' c (s.samples 1) t ∧ t.regs = s.regs ∧ t.mem = s.mem))
  ∧ (ready → isRam o = true → o < 0x40000 ∨ 0x60000 ≤ o → chestBufBusy s (o / 4 * 4) = false → 0 < n → o % 4 + n ≤ 4 →
      Answers (.registerWrite a o n v) s (fun t => (∀ i, i < n → t.byte (o + i) = if ctxZero (o + i) then s.byte (o + i) else (v >>> (8 * i)).setWidth 8)
        ∧ ∀ x, ¬(o ≤ x ∧ x < o + n) → t.byte x = s.byte x))
  ∧ (ready → isRam o = true → o < 0x40000 ∨ 0x60000 ≤ o → 0 < n → n ≤ 8 → 4 < o % 4 + n →
      Answers (.registerWrite a o n v) s (fun t => after' (.registerWrite a (o + (4 - o % 4)) (n - (4 - o % 4)) (v >>> (8 * (4 - o % 4)))) (s.samples 1) t))
  ∧ (ready → a ≠ .host → o < 0x100000 → isRam o = false → o % 4 = 0 →
      Answers (.registerWrite a o 4 v) s (fun t => t = writeReg s a o (v.setWidth 32)
        ∧ (regRow? o = none → t.ch = s.ch ∧ t.mem = s.mem ∧ (v.setWidth 32 ≠ (0 : Word) → Raised t FS.RSVD_WRITE))))
  ∧ (ready → o < 0x100000 → isRam (o / 4 * 4) = false → n < 4 → 0 < n → o % 4 + n ≤ 4 →
      Answers (.registerWrite a o n v) s (fun t => Raised t FS.ACCESS_WIDTH ∧ t.ch = s.ch ∧ t.eng = s.eng ∧ t.mem = s.mem))
  ∧ (ready → o < 0x100000 → readBusy s a = true →
      Answers (.rcRead a o n) s (fun t => after' (.rcRead a o n) (s.samples 1) t ∧ t.regs = s.regs ∧ t.rdHost = s.rdHost))
  ∧ (ready → a ≠ .host → o < 0x100000 → o % 4 = 0 → readBusy s a = false → Answers (.rcRead a o 4) s (fun t =>
      let w := (serveRead s a o).1
      (a = .sup → t.rdSup = w) ∧ (a = .debug → t.rdDebug = w) ∧ t.mem = s.mem ∧ t.regs = (serveRead s a o).2.regs
        ∧ (isRam o = true → chestBufBusy s o = false → w = s.memWord o ∧ t.regs = s.regs)
        ∧ (isRam o = false → regRow? o = none → w = 0 ∧ t.regs = s.regs)
        ∧ (∀ r, isRam o = false → regRow? o = some r → r.wo ≠ 0 → w = 0)))
  ∧ (ready → a ≠ .host → o < 0x100000 → o % 4 = 0 → readBusy s a = false → Answers (.rcRead a o 8) s (fun t =>
      after' (.rcRead a (o + 4) 4) ((serveRead s a o).2.samples 1) t))
  ∧ (ready → 0x40000 ≤ o → o + 4 ≤ 0x60000 → o % 4 = 0 → exec (.codeRamWrite a o 4 v) s = exec (.registerWrite a o 4 v) s)
  ∧ (ready → 0x40000 ≤ o → o + 2 ≤ 0x60000 → o % 2 = 0 → codeRefused s ((o - 0x40000) / 2) = false →
      Answers (.codeRamWrite a o 2 v) s (fun t => t.byte o = v.setWidth 8 ∧ t.byte (o + 1) = (v >>> 8).setWidth 8
        ∧ ∀ x, x ≠ o → x ≠ o + 1 → t.byte x = s.byte x))
  ∧ (ready → 0x40000 ≤ o → o + 2 ≤ 0x60000 → o % 2 = 0 → codeRefused s ((o - 0x40000) / 2) = true →
      Answers (.codeRamWrite a o 2 v) s (fun t => t.mem = s.mem ∧ Raised t FS.FE_CODE_WR))

/-! ## The whole block -/

/-- The form of the model (log entry 1): a step takes the command at the front of the queue and is that command's effect on the state with the
queue's rest; on an empty queue a tick of the clock passes, and the block goes on.
The model's choices that it rests on: log entries 1, 2. -/
def Obligations.StepTakesFront : Prop := ∀ (s : State) (c : Instr) (rest : List Instr),
  step { s with pending := c :: rest } = exec c { s with pending := rest }
  ∧ (s.pending = [] → Goes (step s))

/-- R14, R35: right after reset TB reads 0, every register holds its reset value, no command, raise, record or entry waits, and the stores are
in canonical form.
The model's choices that it rests on: log entries 16, 104, 120. -/
def Obligations.ResetState : Prop :=
  State.reset.tb.tb = 0 ∧ (∀ o, State.reset.rd o = regDefault o) ∧ State.reset.pending = [] ∧ State.reset.agenda = []
  ∧ State.reset.flt.raised = [] ∧ State.reset.land.pool = [] ∧ State.reset.staged = [] ∧ State.reset.out = []
  ∧ (∀ n : Fin 96, State.reset.ch[n].aq = [] ∧ State.reset.ch[n].fifo = []) ∧ Canonical State.reset

/-- Every step keeps the canonical form of the registers, the latches, the memory windows and the Chest, in every state that has it, and no
command ever ends a run.
The model's choices that it rests on: log entries 11, 16. -/
def Obligations.StepsKeepCanonical : Prop := ∀ (s : State), Goes (step s) ∧ (Canonical s → ∀ t, step s = .next t → Canonical t)
end

