-- ==== Sys2Proof/Laws/Bits.lean ====
section
/-! SUPPORT. The laws of bit fields: what a field reads after a write of it, and of another one. -/

namespace Sys2Proof

/-- A field's mask has its bits and no others. -/
theorem getLsbD_fieldMask (lo len i : Nat) (hi : i < 32) : (fieldMask lo len).getLsbD i = decide (lo ≤ i ∧ i < lo + len) := by
  simp only [fieldMask, BitVec.getLsbD_ofNat, hi, decide_true, Bool.true_and, Nat.testBit_mul_two_pow, Nat.testBit_two_pow_sub_one]
  by_cases h : lo ≤ i <;> simp [h]
  omega

/-- Bit by bit, a write of a field changes the field and nothing else. -/
theorem getLsbD_setFld (w : Word) (lo len v i : Nat) (hi : i < 32) :
    (setFld w lo len v).getLsbD i = if lo ≤ i ∧ i < lo + len then v.testBit (i - lo) else w.getLsbD i := by
  simp only [setFld, BitVec.getLsbD_or, BitVec.getLsbD_and, BitVec.getLsbD_not, getLsbD_fieldMask lo len i hi, hi, decide_true,
    Bool.true_and, BitVec.getLsbD_ofNat, Nat.testBit_mul_two_pow, Nat.testBit_mod_two_pow]
  by_cases h : lo ≤ i <;> by_cases h' : i < lo + len <;> simp [h, h'] <;> omega

/-- Bit `i` of a word after a write of bit `k`. -/
@[simp] theorem bit_setBit (w : Word) (k i : Nat) (b : Bool) (hk : k < 32) : bit (setBit w k b) i = if i = k then b else bit w i := by
  by_cases hi : i < 32
  · simp only [bit, setBit, getLsbD_setFld w k 1 b.toNat i hi]
    by_cases h : i = k
    · subst h; cases b <;> simp
    · have : ¬ (k ≤ i ∧ i < k + 1) := by omega
      rw [if_neg this, if_neg h]
  · have h : i ≠ k := by omega
    simp only [bit, h, if_false]
    rw [BitVec.getLsbD_of_ge _ _ (by omega), BitVec.getLsbD_of_ge _ _ (by omega)]

/-- Bit `j` of a field's number. -/
theorem testBit_fld (w : Word) (lo len j : Nat) : (fld w lo len).testBit j = (decide (j < len) && w.getLsbD (lo + j)) := by
  simp only [fld, Nat.testBit_mod_two_pow, Nat.testBit_shiftRight, BitVec.getLsbD]

/-- A field reads what was written to it, modulo its width. -/
@[simp] theorem fld_setFld (w : Word) (lo len v : Nat) (h : lo + len ≤ 32) : fld (setFld w lo len v) lo len = v % 2 ^ len := by
  apply Nat.eq_of_testBit_eq
  intro j
  rw [testBit_fld, Nat.testBit_mod_two_pow]
  by_cases hj : j < len
  · rw [getLsbD_setFld w lo len v (lo + j) (by omega)]
    simp [hj]
  · simp [hj]

/-- A field reads as before after a write of a field that does not overlap it. -/
theorem fld_setFld_ne (w : Word) (lo len v lo' len' : Nat) (h : lo' + len' ≤ lo ∨ lo + len ≤ lo') :
    fld (setFld w lo len v) lo' len' = fld w lo' len' := by
  apply Nat.eq_of_testBit_eq
  intro j
  rw [testBit_fld, testBit_fld]
  by_cases hj : j < len'
  · by_cases hi : lo' + j < 32
    · rw [getLsbD_setFld w lo len v (lo' + j) hi, if_neg (by omega)]
    · rw [BitVec.getLsbD_of_ge _ _ (by omega), BitVec.getLsbD_of_ge _ _ (by omega)]
  · simp [hj]

/-- A bit reads as before after a write of a field that does not hold it. -/
theorem bit_setFld_ne (w : Word) (lo len v i : Nat) (h : i < lo ∨ lo + len ≤ i) : bit (setFld w lo len v) i = bit w i := by
  by_cases hi : i < 32
  · simp only [bit]; rw [getLsbD_setFld w lo len v i hi, if_neg (by omega)]
  · simp only [bit]; rw [BitVec.getLsbD_of_ge _ _ (by omega), BitVec.getLsbD_of_ge _ _ (by omega)]

/-- A field reads as before after a write of a bit outside it. -/
theorem fld_setBit_ne (w : Word) (k lo len : Nat) (b : Bool) (h : k < lo ∨ lo + len ≤ k) :
    fld (setBit w k b) lo len = fld w lo len :=
  fld_setFld_ne w k 1 b.toNat lo len (by omega)

end Sys2Proof
end

