-- ==== Sys2Proof/Laws/Store.lean ====
section
/-! SUPPORT. The laws of the sparse stores: a read after a write, and the canonical form that every write keeps. -/

namespace Sys2Proof

variable {α : Type}

/-- Raising the lower bound of a rising store weakens it. -/
theorem Store.rising_mono {m : Store α} {b c : Nat} (h : Store.rising c m = true) (hb : b ≤ c) : Store.rising b m = true := by
  cases m with
  | nil => rfl
  | cons p m =>
    obtain ⟨a, v⟩ := p
    simp only [Store.rising, Bool.and_eq_true, decide_eq_true_eq] at h ⊢
    exact ⟨by omega, h.2⟩

/-- Inserting an address at or above the bound keeps the addresses rising. -/
theorem Store.rising_insert {m : Store α} {b k : Nat} {v : α} (h : Store.rising b m = true) (hk : b ≤ k) :
    Store.rising b (Store.insert m k v) = true := by
  induction m generalizing b with
  | nil => simp [Store.insert, Store.rising, hk]
  | cons p m ih =>
    obtain ⟨a, u⟩ := p
    simp only [Store.rising, Bool.and_eq_true, decide_eq_true_eq] at h
    simp only [Store.insert]
    split
    · simp only [Store.rising, Bool.and_eq_true, decide_eq_true_eq]
      exact ⟨hk, by omega, h.2⟩
    · split
      · next he => subst he; simp only [Store.rising, Bool.and_eq_true, decide_eq_true_eq]; exact ⟨hk, h.2⟩
      · simp only [Store.rising, Bool.and_eq_true, decide_eq_true_eq]
        exact ⟨h.1, ih h.2 (by omega)⟩

/-- Erasing an address keeps the addresses rising. -/
theorem Store.rising_erase {m : Store α} {b k : Nat} (h : Store.rising b m = true) : Store.rising b (Store.erase m k) = true := by
  induction m generalizing b with
  | nil => rfl
  | cons p m ih =>
    obtain ⟨a, u⟩ := p
    simp only [Store.rising, Bool.and_eq_true, decide_eq_true_eq] at h
    simp only [Store.erase]
    split
    · exact Store.rising_mono (ih h.2) (by omega)
    · simp only [Store.rising, Bool.and_eq_true, decide_eq_true_eq]
      exact ⟨h.1, ih h.2⟩

theorem Store.get_insert {d : Nat → α} (m : Store α) (k : Nat) (v : α) (j : Nat) :
    Store.get d (Store.insert m k v) j = if j = k then v else Store.get d m j := by
  induction m with
  | nil => grind [Store.insert, Store.get]
  | cons p m ih => obtain ⟨a, u⟩ := p; grind [Store.insert, Store.get]

theorem Store.get_erase {d : Nat → α} (m : Store α) (k j : Nat) :
    Store.get d (Store.erase m k) j = if j = k then d k else Store.get d m j := by
  induction m with
  | nil => grind [Store.erase, Store.get]
  | cons p m ih => obtain ⟨a, u⟩ := p; grind [Store.erase, Store.get]

/-- A read after a write: the value written at its address, and every other address as before. -/
theorem Store.get_set [DecidableEq α] (d : Nat → α) (m : Store α) (k : Nat) (v : α) (j : Nat) :
    Store.get d (Store.set d m k v) j = if j = k then v else Store.get d m j := by
  simp only [Store.set]
  split
  · next hv => rw [Store.get_erase, hv]
  · exact Store.get_insert m k v j

/-- The entries of a store after an insertion are the new one and old ones. -/
theorem Store.all_insert {p : Nat × α → Bool} {m : Store α} {k : Nat} {v : α} (h : m.all p = true) (hv : p (k, v) = true) :
    (Store.insert m k v).all p = true := by
  induction m with
  | nil => simp [Store.insert, hv]
  | cons q m ih =>
    obtain ⟨a, u⟩ := q
    simp only [List.all_cons, Bool.and_eq_true] at h
    simp only [Store.insert]
    split
    · simp [h.1, h.2, hv]
    · split
      · simp [h.2, hv]
      · simp only [List.all_cons, Bool.and_eq_true]; exact ⟨h.1, ih h.2⟩

/-- The entries of a store after an erasure are old ones. -/
theorem Store.all_erase {p : Nat × α → Bool} {m : Store α} {k : Nat} (h : m.all p = true) : (Store.erase m k).all p = true := by
  induction m with
  | nil => rfl
  | cons q m ih =>
    obtain ⟨a, u⟩ := q
    simp only [List.all_cons, Bool.and_eq_true] at h
    simp only [Store.erase]
    split
    · exact ih h.2
    · simp only [List.all_cons, Bool.and_eq_true]; exact ⟨h.1, ih h.2⟩

/-- Every write keeps the canonical form. -/
theorem Store.wf_set [DecidableEq α] {d : Nat → α} {m : Store α} (h : Store.wf d m = true) (k : Nat) (v : α) :
    Store.wf d (Store.set d m k v) = true := by
  simp only [Store.wf, Bool.and_eq_true] at h ⊢
  simp only [Store.set]
  split
  · exact ⟨Store.rising_erase h.1, Store.all_erase h.2⟩
  · next hv => exact ⟨Store.rising_insert h.1 (Nat.zero_le _), Store.all_insert h.2 (by simpa using hv)⟩

/-- The empty store is canonical. -/
theorem Store.wf_nil [DecidableEq α] (d : Nat → α) : Store.wf d ([] : Store α) = true := rfl

end Sys2Proof
end

