-- ==== Sys2Proof/Laws/State.lean ====
section
/-! SUPPORT. What each update of State leaves as it was, one lemma for each field and each reader, and what it changes. -/

namespace Sys2Proof.Machine

/-- A number of samples lasts as long in two states of one time and time base whose CLK_STAT and TB_LSTEP read the same. -/
theorem State.samples_eq {s t : State} (hk : s.ticks = t.ticks) (hb : s.tb = t.tb) (hr : s.rd R.CLK_STAT = t.rd R.CLK_STAT)
    (hl : s.rd R.TB_LSTEP = t.rd R.TB_LSTEP) (d : Nat) :
    s.samples d = t.samples d := by
  unfold State.samples State.tbclk State.fl State.edgeTick State.lclkStep State.bt
  rw [hk, hb, hr, hl]

variable (s : State)

section updChFields
variable (n : Fin 96) (f : Chan → Chan)
@[simp] theorem State.updCh_pending : (s.updCh n f).pending = s.pending := rfl
@[simp] theorem State.updCh_agenda : (s.updCh n f).agenda = s.agenda := rfl
@[simp] theorem State.updCh_later : (s.updCh n f).later = s.later := rfl
@[simp] theorem State.updCh_ticks : (s.updCh n f).ticks = s.ticks := rfl
@[simp] theorem State.updCh_phase : (s.updCh n f).phase = s.phase := rfl
@[simp] theorem State.updCh_sub : (s.updCh n f).sub = s.sub := rfl
@[simp] theorem State.updCh_free : (s.updCh n f).free = s.free := rfl
@[simp] theorem State.updCh_regs : (s.updCh n f).regs = s.regs := rfl
@[simp] theorem State.updCh_marks : (s.updCh n f).marks = s.marks := rfl
@[simp] theorem State.updCh_old : (s.updCh n f).old = s.old := rfl
@[simp] theorem State.updCh_lat : (s.updCh n f).lat = s.lat := rfl
@[simp] theorem State.updCh_mem : (s.updCh n f).mem = s.mem := rfl
@[simp] theorem State.updCh_chest : (s.updCh n f).chest = s.chest := rfl
@[simp] theorem State.updCh_tb : (s.updCh n f).tb = s.tb := rfl
@[simp] theorem State.updCh_pg : (s.updCh n f).pg = s.pg := rfl
@[simp] theorem State.updCh_nwl : (s.updCh n f).nwl = s.nwl := rfl
@[simp] theorem State.updCh_land : (s.updCh n f).land = s.land := rfl
@[simp] theorem State.updCh_flt : (s.updCh n f).flt = s.flt := rfl
@[simp] theorem State.updCh_out : (s.updCh n f).out = s.out := rfl
@[simp] theorem State.updCh_rdHost : (s.updCh n f).rdHost = s.rdHost := rfl
@[simp] theorem State.updCh_rdSup : (s.updCh n f).rdSup = s.rdSup := rfl
@[simp] theorem State.updCh_rdDebug : (s.updCh n f).rdDebug = s.rdDebug := rfl
@[simp] theorem State.updCh_ring : (s.updCh n f).ring = s.ring := rfl
@[simp] theorem State.updCh_gc : (s.updCh n f).gc = s.gc := rfl
@[simp] theorem State.updCh_gal : (s.updCh n f).gal = s.gal := rfl
@[simp] theorem State.updCh_txn : (s.updCh n f).txn = s.txn := rfl
@[simp] theorem State.updCh_staged : (s.updCh n f).staged = s.staged := rfl
@[simp] theorem State.updCh_snap : (s.updCh n f).snap = s.snap := rfl
@[simp] theorem State.updCh_pcie : (s.updCh n f).pcie = s.pcie := rfl
@[simp] theorem State.updCh_peer : (s.updCh n f).peer = s.peer := rfl
@[simp] theorem State.updCh_eng : (s.updCh n f).eng = s.eng := rfl
@[simp] theorem State.updCh_go : (s.updCh n f).go = s.go := rfl
@[simp] theorem State.updCh_pram : (s.updCh n f).pram = s.pram := rfl
@[simp] theorem State.updCh_pramLast : (s.updCh n f).pramLast = s.pramLast := rfl
@[simp] theorem State.updCh_lane : (s.updCh n f).lane = s.lane := rfl
@[simp] theorem State.updCh_patch : (s.updCh n f).patch = s.patch := rfl
@[simp] theorem State.updCh_vest : (s.updCh n f).vest = s.vest := rfl
@[simp] theorem State.updCh_bg : (s.updCh n f).bg = s.bg := rfl
@[simp] theorem State.updCh_chestCtl : (s.updCh n f).chestCtl = s.chestCtl := rfl
@[simp] theorem State.updCh_power : (s.updCh n f).power = s.power := rfl
@[simp] theorem State.updCh_ports : (s.updCh n f).ports = s.ports := rfl
@[simp] theorem State.updCh_rd (j : Nat) : (s.updCh n f).rd j = s.rd j := rfl
@[simp] theorem State.updCh_fl (j lo len : Nat) : (s.updCh n f).fl j lo len = s.fl j lo len := rfl
@[simp] theorem State.updCh_bt (j q : Nat) : (s.updCh n f).bt j q = s.bt j q := rfl
@[simp] theorem State.updCh_byte (j : Nat) : (s.updCh n f).byte j = s.byte j := rfl
@[simp] theorem State.updCh_memWord (j : Nat) : (s.updCh n f).memWord j = s.memWord j := rfl
@[simp] theorem State.updCh_chestByte (j : Nat) : (s.updCh n f).chestByte j = s.chestByte j := rfl
@[simp] theorem State.updCh_lat_ (c : Agent) (j : Nat) : (s.updCh n f).lat? c j = s.lat? c j := rfl
@[simp] theorem State.updCh_bank (g : Fin 8) (l : Fin 4) : (s.updCh n f).bank g l = s.bank g l := rfl
@[simp] theorem State.updCh_near : (s.updCh n f).near = s.near := rfl
@[simp] theorem State.updCh_now : (s.updCh n f).now = s.now := rfl
@[simp] theorem State.updCh_was (j : Nat) : (s.updCh n f).was j = s.was j := rfl
@[simp] theorem State.updCh_fofs : (s.updCh n f).fofs = s.fofs := rfl
@[simp] theorem State.updCh_tbclk : (s.updCh n f).tbclk = s.tbclk := rfl
@[simp] theorem State.updCh_samples (j : Nat) : (s.updCh n f).samples j = s.samples j := rfl
@[simp] theorem State.updCh_rec_ (j : Nat) : (s.updCh n f).rec? j = s.rec? j := rfl
end updChFields

section updPgFields
variable (m : Fin 16) (f : Pg → Pg)
@[simp] theorem State.updPg_pending : (s.updPg m f).pending = s.pending := rfl
@[simp] theorem State.updPg_agenda : (s.updPg m f).agenda = s.agenda := rfl
@[simp] theorem State.updPg_later : (s.updPg m f).later = s.later := rfl
@[simp] theorem State.updPg_ticks : (s.updPg m f).ticks = s.ticks := rfl
@[simp] theorem State.updPg_phase : (s.updPg m f).phase = s.phase := rfl
@[simp] theorem State.updPg_sub : (s.updPg m f).sub = s.sub := rfl
@[simp] theorem State.updPg_free : (s.updPg m f).free = s.free := rfl
@[simp] theorem State.updPg_regs : (s.updPg m f).regs = s.regs := rfl
@[simp] theorem State.updPg_marks : (s.updPg m f).marks = s.marks := rfl
@[simp] theorem State.updPg_old : (s.updPg m f).old = s.old := rfl
@[simp] theorem State.updPg_lat : (s.updPg m f).lat = s.lat := rfl
@[simp] theorem State.updPg_mem : (s.updPg m f).mem = s.mem := rfl
@[simp] theorem State.updPg_chest : (s.updPg m f).chest = s.chest := rfl
@[simp] theorem State.updPg_tb : (s.updPg m f).tb = s.tb := rfl
@[simp] theorem State.updPg_ch : (s.updPg m f).ch = s.ch := rfl
@[simp] theorem State.updPg_nwl : (s.updPg m f).nwl = s.nwl := rfl
@[simp] theorem State.updPg_land : (s.updPg m f).land = s.land := rfl
@[simp] theorem State.updPg_flt : (s.updPg m f).flt = s.flt := rfl
@[simp] theorem State.updPg_out : (s.updPg m f).out = s.out := rfl
@[simp] theorem State.updPg_rdHost : (s.updPg m f).rdHost = s.rdHost := rfl
@[simp] theorem State.updPg_rdSup : (s.updPg m f).rdSup = s.rdSup := rfl
@[simp] theorem State.updPg_rdDebug : (s.updPg m f).rdDebug = s.rdDebug := rfl
@[simp] theorem State.updPg_ring : (s.updPg m f).ring = s.ring := rfl
@[simp] theorem State.updPg_gc : (s.updPg m f).gc = s.gc := rfl
@[simp] theorem State.updPg_gal : (s.updPg m f).gal = s.gal := rfl
@[simp] theorem State.updPg_txn : (s.updPg m f).txn = s.txn := rfl
@[simp] theorem State.updPg_staged : (s.updPg m f).staged = s.staged := rfl
@[simp] theorem State.updPg_snap : (s.updPg m f).snap = s.snap := rfl
@[simp] theorem State.updPg_pcie : (s.updPg m f).pcie = s.pcie := rfl
@[simp] theorem State.updPg_peer : (s.updPg m f).peer = s.peer := rfl
@[simp] theorem State.updPg_eng : (s.updPg m f).eng = s.eng := rfl
@[simp] theorem State.updPg_go : (s.updPg m f).go = s.go := rfl
@[simp] theorem State.updPg_pram : (s.updPg m f).pram = s.pram := rfl
@[simp] theorem State.updPg_pramLast : (s.updPg m f).pramLast = s.pramLast := rfl
@[simp] theorem State.updPg_lane : (s.updPg m f).lane = s.lane := rfl
@[simp] theorem State.updPg_patch : (s.updPg m f).patch = s.patch := rfl
@[simp] theorem State.updPg_vest : (s.updPg m f).vest = s.vest := rfl
@[simp] theorem State.updPg_bg : (s.updPg m f).bg = s.bg := rfl
@[simp] theorem State.updPg_chestCtl : (s.updPg m f).chestCtl = s.chestCtl := rfl
@[simp] theorem State.updPg_power : (s.updPg m f).power = s.power := rfl
@[simp] theorem State.updPg_ports : (s.updPg m f).ports = s.ports := rfl
@[simp] theorem State.updPg_rd (j : Nat) : (s.updPg m f).rd j = s.rd j := rfl
@[simp] theorem State.updPg_fl (j lo len : Nat) : (s.updPg m f).fl j lo len = s.fl j lo len := rfl
@[simp] theorem State.updPg_bt (j q : Nat) : (s.updPg m f).bt j q = s.bt j q := rfl
@[simp] theorem State.updPg_byte (j : Nat) : (s.updPg m f).byte j = s.byte j := rfl
@[simp] theorem State.updPg_memWord (j : Nat) : (s.updPg m f).memWord j = s.memWord j := rfl
@[simp] theorem State.updPg_chestByte (j : Nat) : (s.updPg m f).chestByte j = s.chestByte j := rfl
@[simp] theorem State.updPg_lat_ (c : Agent) (j : Nat) : (s.updPg m f).lat? c j = s.lat? c j := rfl
@[simp] theorem State.updPg_bank (g : Fin 8) (l : Fin 4) : (s.updPg m f).bank g l = s.bank g l := rfl
@[simp] theorem State.updPg_near : (s.updPg m f).near = s.near := rfl
@[simp] theorem State.updPg_now : (s.updPg m f).now = s.now := rfl
@[simp] theorem State.updPg_was (j : Nat) : (s.updPg m f).was j = s.was j := rfl
@[simp] theorem State.updPg_fofs : (s.updPg m f).fofs = s.fofs := rfl
@[simp] theorem State.updPg_tbclk : (s.updPg m f).tbclk = s.tbclk := rfl
@[simp] theorem State.updPg_samples (j : Nat) : (s.updPg m f).samples j = s.samples j := rfl
@[simp] theorem State.updPg_rec_ (j : Nat) : (s.updPg m f).rec? j = s.rec? j := rfl
end updPgFields

section updNwlFields
variable (n : Fin 4) (f : Nwl → Nwl)
@[simp] theorem State.updNwl_pending : (s.updNwl n f).pending = s.pending := rfl
@[simp] theorem State.updNwl_agenda : (s.updNwl n f).agenda = s.agenda := rfl
@[simp] theorem State.updNwl_later : (s.updNwl n f).later = s.later := rfl
@[simp] theorem State.updNwl_ticks : (s.updNwl n f).ticks = s.ticks := rfl
@[simp] theorem State.updNwl_phase : (s.updNwl n f).phase = s.phase := rfl
@[simp] theorem State.updNwl_sub : (s.updNwl n f).sub = s.sub := rfl
@[simp] theorem State.updNwl_free : (s.updNwl n f).free = s.free := rfl
@[simp] theorem State.updNwl_regs : (s.updNwl n f).regs = s.regs := rfl
@[simp] theorem State.updNwl_marks : (s.updNwl n f).marks = s.marks := rfl
@[simp] theorem State.updNwl_old : (s.updNwl n f).old = s.old := rfl
@[simp] theorem State.updNwl_lat : (s.updNwl n f).lat = s.lat := rfl
@[simp] theorem State.updNwl_mem : (s.updNwl n f).mem = s.mem := rfl
@[simp] theorem State.updNwl_chest : (s.updNwl n f).chest = s.chest := rfl
@[simp] theorem State.updNwl_tb : (s.updNwl n f).tb = s.tb := rfl
@[simp] theorem State.updNwl_ch : (s.updNwl n f).ch = s.ch := rfl
@[simp] theorem State.updNwl_pg : (s.updNwl n f).pg = s.pg := rfl
@[simp] theorem State.updNwl_land : (s.updNwl n f).land = s.land := rfl
@[simp] theorem State.updNwl_flt : (s.updNwl n f).flt = s.flt := rfl
@[simp] theorem State.updNwl_out : (s.updNwl n f).out = s.out := rfl
@[simp] theorem State.updNwl_rdHost : (s.updNwl n f).rdHost = s.rdHost := rfl
@[simp] theorem State.updNwl_rdSup : (s.updNwl n f).rdSup = s.rdSup := rfl
@[simp] theorem State.updNwl_rdDebug : (s.updNwl n f).rdDebug = s.rdDebug := rfl
@[simp] theorem State.updNwl_ring : (s.updNwl n f).ring = s.ring := rfl
@[simp] theorem State.updNwl_gc : (s.updNwl n f).gc = s.gc := rfl
@[simp] theorem State.updNwl_gal : (s.updNwl n f).gal = s.gal := rfl
@[simp] theorem State.updNwl_txn : (s.updNwl n f).txn = s.txn := rfl
@[simp] theorem State.updNwl_staged : (s.updNwl n f).staged = s.staged := rfl
@[simp] theorem State.updNwl_snap : (s.updNwl n f).snap = s.snap := rfl
@[simp] theorem State.updNwl_pcie : (s.updNwl n f).pcie = s.pcie := rfl
@[simp] theorem State.updNwl_peer : (s.updNwl n f).peer = s.peer := rfl
@[simp] theorem State.updNwl_eng : (s.updNwl n f).eng = s.eng := rfl
@[simp] theorem State.updNwl_go : (s.updNwl n f).go = s.go := rfl
@[simp] theorem State.updNwl_pram : (s.updNwl n f).pram = s.pram := rfl
@[simp] theorem State.updNwl_pramLast : (s.updNwl n f).pramLast = s.pramLast := rfl
@[simp] theorem State.updNwl_lane : (s.updNwl n f).lane = s.lane := rfl
@[simp] theorem State.updNwl_patch : (s.updNwl n f).patch = s.patch := rfl
@[simp] theorem State.updNwl_vest : (s.updNwl n f).vest = s.vest := rfl
@[simp] theorem State.updNwl_bg : (s.updNwl n f).bg = s.bg := rfl
@[simp] theorem State.updNwl_chestCtl : (s.updNwl n f).chestCtl = s.chestCtl := rfl
@[simp] theorem State.updNwl_power : (s.updNwl n f).power = s.power := rfl
@[simp] theorem State.updNwl_ports : (s.updNwl n f).ports = s.ports := rfl
@[simp] theorem State.updNwl_rd (j : Nat) : (s.updNwl n f).rd j = s.rd j := rfl
@[simp] theorem State.updNwl_fl (j lo len : Nat) : (s.updNwl n f).fl j lo len = s.fl j lo len := rfl
@[simp] theorem State.updNwl_bt (j q : Nat) : (s.updNwl n f).bt j q = s.bt j q := rfl
@[simp] theorem State.updNwl_byte (j : Nat) : (s.updNwl n f).byte j = s.byte j := rfl
@[simp] theorem State.updNwl_memWord (j : Nat) : (s.updNwl n f).memWord j = s.memWord j := rfl
@[simp] theorem State.updNwl_chestByte (j : Nat) : (s.updNwl n f).chestByte j = s.chestByte j := rfl
@[simp] theorem State.updNwl_lat_ (c : Agent) (j : Nat) : (s.updNwl n f).lat? c j = s.lat? c j := rfl
@[simp] theorem State.updNwl_bank (g : Fin 8) (l : Fin 4) : (s.updNwl n f).bank g l = s.bank g l := rfl
@[simp] theorem State.updNwl_near : (s.updNwl n f).near = s.near := rfl
@[simp] theorem State.updNwl_now : (s.updNwl n f).now = s.now := rfl
@[simp] theorem State.updNwl_was (j : Nat) : (s.updNwl n f).was j = s.was j := rfl
@[simp] theorem State.updNwl_fofs : (s.updNwl n f).fofs = s.fofs := rfl
@[simp] theorem State.updNwl_tbclk : (s.updNwl n f).tbclk = s.tbclk := rfl
@[simp] theorem State.updNwl_samples (j : Nat) : (s.updNwl n f).samples j = s.samples j := rfl
@[simp] theorem State.updNwl_rec_ (j : Nat) : (s.updNwl n f).rec? j = s.rec? j := rfl
end updNwlFields

section updRingFields
variable (r : Fin 64) (f : Ring → Ring)
@[simp] theorem State.updRing_pending : (s.updRing r f).pending = s.pending := rfl
@[simp] theorem State.updRing_agenda : (s.updRing r f).agenda = s.agenda := rfl
@[simp] theorem State.updRing_later : (s.updRing r f).later = s.later := rfl
@[simp] theorem State.updRing_ticks : (s.updRing r f).ticks = s.ticks := rfl
@[simp] theorem State.updRing_phase : (s.updRing r f).phase = s.phase := rfl
@[simp] theorem State.updRing_sub : (s.updRing r f).sub = s.sub := rfl
@[simp] theorem State.updRing_free : (s.updRing r f).free = s.free := rfl
@[simp] theorem State.updRing_regs : (s.updRing r f).regs = s.regs := rfl
@[simp] theorem State.updRing_marks : (s.updRing r f).marks = s.marks := rfl
@[simp] theorem State.updRing_old : (s.updRing r f).old = s.old := rfl
@[simp] theorem State.updRing_lat : (s.updRing r f).lat = s.lat := rfl
@[simp] theorem State.updRing_mem : (s.updRing r f).mem = s.mem := rfl
@[simp] theorem State.updRing_chest : (s.updRing r f).chest = s.chest := rfl
@[simp] theorem State.updRing_tb : (s.updRing r f).tb = s.tb := rfl
@[simp] theorem State.updRing_ch : (s.updRing r f).ch = s.ch := rfl
@[simp] theorem State.updRing_pg : (s.updRing r f).pg = s.pg := rfl
@[simp] theorem State.updRing_nwl : (s.updRing r f).nwl = s.nwl := rfl
@[simp] theorem State.updRing_land : (s.updRing r f).land = s.land := rfl
@[simp] theorem State.updRing_flt : (s.updRing r f).flt = s.flt := rfl
@[simp] theorem State.updRing_out : (s.updRing r f).out = s.out := rfl
@[simp] theorem State.updRing_rdHost : (s.updRing r f).rdHost = s.rdHost := rfl
@[simp] theorem State.updRing_rdSup : (s.updRing r f).rdSup = s.rdSup := rfl
@[simp] theorem State.updRing_rdDebug : (s.updRing r f).rdDebug = s.rdDebug := rfl
@[simp] theorem State.updRing_gc : (s.updRing r f).gc = s.gc := rfl
@[simp] theorem State.updRing_gal : (s.updRing r f).gal = s.gal := rfl
@[simp] theorem State.updRing_txn : (s.updRing r f).txn = s.txn := rfl
@[simp] theorem State.updRing_staged : (s.updRing r f).staged = s.staged := rfl
@[simp] theorem State.updRing_snap : (s.updRing r f).snap = s.snap := rfl
@[simp] theorem State.updRing_pcie : (s.updRing r f).pcie = s.pcie := rfl
@[simp] theorem State.updRing_peer : (s.updRing r f).peer = s.peer := rfl
@[simp] theorem State.updRing_eng : (s.updRing r f).eng = s.eng := rfl
@[simp] theorem State.updRing_go : (s.updRing r f).go = s.go := rfl
@[simp] theorem State.updRing_pram : (s.updRing r f).pram = s.pram := rfl
@[simp] theorem State.updRing_pramLast : (s.updRing r f).pramLast = s.pramLast := rfl
@[simp] theorem State.updRing_lane : (s.updRing r f).lane = s.lane := rfl
@[simp] theorem State.updRing_patch : (s.updRing r f).patch = s.patch := rfl
@[simp] theorem State.updRing_vest : (s.updRing r f).vest = s.vest := rfl
@[simp] theorem State.updRing_bg : (s.updRing r f).bg = s.bg := rfl
@[simp] theorem State.updRing_chestCtl : (s.updRing r f).chestCtl = s.chestCtl := rfl
@[simp] theorem State.updRing_power : (s.updRing r f).power = s.power := rfl
@[simp] theorem State.updRing_ports : (s.updRing r f).ports = s.ports := rfl
@[simp] theorem State.updRing_rd (j : Nat) : (s.updRing r f).rd j = s.rd j := rfl
@[simp] theorem State.updRing_fl (j lo len : Nat) : (s.updRing r f).fl j lo len = s.fl j lo len := rfl
@[simp] theorem State.updRing_bt (j q : Nat) : (s.updRing r f).bt j q = s.bt j q := rfl
@[simp] theorem State.updRing_byte (j : Nat) : (s.updRing r f).byte j = s.byte j := rfl
@[simp] theorem State.updRing_memWord (j : Nat) : (s.updRing r f).memWord j = s.memWord j := rfl
@[simp] theorem State.updRing_chestByte (j : Nat) : (s.updRing r f).chestByte j = s.chestByte j := rfl
@[simp] theorem State.updRing_lat_ (c : Agent) (j : Nat) : (s.updRing r f).lat? c j = s.lat? c j := rfl
@[simp] theorem State.updRing_bank (g : Fin 8) (l : Fin 4) : (s.updRing r f).bank g l = s.bank g l := rfl
@[simp] theorem State.updRing_near : (s.updRing r f).near = s.near := rfl
@[simp] theorem State.updRing_now : (s.updRing r f).now = s.now := rfl
@[simp] theorem State.updRing_was (j : Nat) : (s.updRing r f).was j = s.was j := rfl
@[simp] theorem State.updRing_fofs : (s.updRing r f).fofs = s.fofs := rfl
@[simp] theorem State.updRing_tbclk : (s.updRing r f).tbclk = s.tbclk := rfl
@[simp] theorem State.updRing_samples (j : Nat) : (s.updRing r f).samples j = s.samples j := rfl
@[simp] theorem State.updRing_rec_ (j : Nat) : (s.updRing r f).rec? j = s.rec? j := rfl
end updRingFields

section updTxnFields
variable (t : Fin 8) (f : Txn → Txn)
@[simp] theorem State.updTxn_pending : (s.updTxn t f).pending = s.pending := rfl
@[simp] theorem State.updTxn_agenda : (s.updTxn t f).agenda = s.agenda := rfl
@[simp] theorem State.updTxn_later : (s.updTxn t f).later = s.later := rfl
@[simp] theorem State.updTxn_ticks : (s.updTxn t f).ticks = s.ticks := rfl
@[simp] theorem State.updTxn_phase : (s.updTxn t f).phase = s.phase := rfl
@[simp] theorem State.updTxn_sub : (s.updTxn t f).sub = s.sub := rfl
@[simp] theorem State.updTxn_free : (s.updTxn t f).free = s.free := rfl
@[simp] theorem State.updTxn_regs : (s.updTxn t f).regs = s.regs := rfl
@[simp] theorem State.updTxn_marks : (s.updTxn t f).marks = s.marks := rfl
@[simp] theorem State.updTxn_old : (s.updTxn t f).old = s.old := rfl
@[simp] theorem State.updTxn_lat : (s.updTxn t f).lat = s.lat := rfl
@[simp] theorem State.updTxn_mem : (s.updTxn t f).mem = s.mem := rfl
@[simp] theorem State.updTxn_chest : (s.updTxn t f).chest = s.chest := rfl
@[simp] theorem State.updTxn_tb : (s.updTxn t f).tb = s.tb := rfl
@[simp] theorem State.updTxn_ch : (s.updTxn t f).ch = s.ch := rfl
@[simp] theorem State.updTxn_pg : (s.updTxn t f).pg = s.pg := rfl
@[simp] theorem State.updTxn_nwl : (s.updTxn t f).nwl = s.nwl := rfl
@[simp] theorem State.updTxn_land : (s.updTxn t f).land = s.land := rfl
@[simp] theorem State.updTxn_flt : (s.updTxn t f).flt = s.flt := rfl
@[simp] theorem State.updTxn_out : (s.updTxn t f).out = s.out := rfl
@[simp] theorem State.updTxn_rdHost : (s.updTxn t f).rdHost = s.rdHost := rfl
@[simp] theorem State.updTxn_rdSup : (s.updTxn t f).rdSup = s.rdSup := rfl
@[simp] theorem State.updTxn_rdDebug : (s.updTxn t f).rdDebug = s.rdDebug := rfl
@[simp] theorem State.updTxn_ring : (s.updTxn t f).ring = s.ring := rfl
@[simp] theorem State.updTxn_gc : (s.updTxn t f).gc = s.gc := rfl
@[simp] theorem State.updTxn_gal : (s.updTxn t f).gal = s.gal := rfl
@[simp] theorem State.updTxn_staged : (s.updTxn t f).staged = s.staged := rfl
@[simp] theorem State.updTxn_snap : (s.updTxn t f).snap = s.snap := rfl
@[simp] theorem State.updTxn_pcie : (s.updTxn t f).pcie = s.pcie := rfl
@[simp] theorem State.updTxn_peer : (s.updTxn t f).peer = s.peer := rfl
@[simp] theorem State.updTxn_eng : (s.updTxn t f).eng = s.eng := rfl
@[simp] theorem State.updTxn_go : (s.updTxn t f).go = s.go := rfl
@[simp] theorem State.updTxn_pram : (s.updTxn t f).pram = s.pram := rfl
@[simp] theorem State.updTxn_pramLast : (s.updTxn t f).pramLast = s.pramLast := rfl
@[simp] theorem State.updTxn_lane : (s.updTxn t f).lane = s.lane := rfl
@[simp] theorem State.updTxn_patch : (s.updTxn t f).patch = s.patch := rfl
@[simp] theorem State.updTxn_vest : (s.updTxn t f).vest = s.vest := rfl
@[simp] theorem State.updTxn_bg : (s.updTxn t f).bg = s.bg := rfl
@[simp] theorem State.updTxn_chestCtl : (s.updTxn t f).chestCtl = s.chestCtl := rfl
@[simp] theorem State.updTxn_power : (s.updTxn t f).power = s.power := rfl
@[simp] theorem State.updTxn_ports : (s.updTxn t f).ports = s.ports := rfl
@[simp] theorem State.updTxn_rd (j : Nat) : (s.updTxn t f).rd j = s.rd j := rfl
@[simp] theorem State.updTxn_fl (j lo len : Nat) : (s.updTxn t f).fl j lo len = s.fl j lo len := rfl
@[simp] theorem State.updTxn_bt (j q : Nat) : (s.updTxn t f).bt j q = s.bt j q := rfl
@[simp] theorem State.updTxn_byte (j : Nat) : (s.updTxn t f).byte j = s.byte j := rfl
@[simp] theorem State.updTxn_memWord (j : Nat) : (s.updTxn t f).memWord j = s.memWord j := rfl
@[simp] theorem State.updTxn_chestByte (j : Nat) : (s.updTxn t f).chestByte j = s.chestByte j := rfl
@[simp] theorem State.updTxn_lat_ (c : Agent) (j : Nat) : (s.updTxn t f).lat? c j = s.lat? c j := rfl
@[simp] theorem State.updTxn_bank (g : Fin 8) (l : Fin 4) : (s.updTxn t f).bank g l = s.bank g l := rfl
@[simp] theorem State.updTxn_near : (s.updTxn t f).near = s.near := rfl
@[simp] theorem State.updTxn_now : (s.updTxn t f).now = s.now := rfl
@[simp] theorem State.updTxn_was (j : Nat) : (s.updTxn t f).was j = s.was j := rfl
@[simp] theorem State.updTxn_fofs : (s.updTxn t f).fofs = s.fofs := rfl
@[simp] theorem State.updTxn_tbclk : (s.updTxn t f).tbclk = s.tbclk := rfl
@[simp] theorem State.updTxn_samples (j : Nat) : (s.updTxn t f).samples j = s.samples j := rfl
@[simp] theorem State.updTxn_rec_ (j : Nat) : (s.updTxn t f).rec? j = s.rec? j := rfl
end updTxnFields

section updLaneFields
variable (k : Fin 16) (f : Lane → Lane)
@[simp] theorem State.updLane_pending : (s.updLane k f).pending = s.pending := rfl
@[simp] theorem State.updLane_agenda : (s.updLane k f).agenda = s.agenda := rfl
@[simp] theorem State.updLane_later : (s.updLane k f).later = s.later := rfl
@[simp] theorem State.updLane_ticks : (s.updLane k f).ticks = s.ticks := rfl
@[simp] theorem State.updLane_phase : (s.updLane k f).phase = s.phase := rfl
@[simp] theorem State.updLane_sub : (s.updLane k f).sub = s.sub := rfl
@[simp] theorem State.updLane_free : (s.updLane k f).free = s.free := rfl
@[simp] theorem State.updLane_regs : (s.updLane k f).regs = s.regs := rfl
@[simp] theorem State.updLane_marks : (s.updLane k f).marks = s.marks := rfl
@[simp] theorem State.updLane_old : (s.updLane k f).old = s.old := rfl
@[simp] theorem State.updLane_lat : (s.updLane k f).lat = s.lat := rfl
@[simp] theorem State.updLane_mem : (s.updLane k f).mem = s.mem := rfl
@[simp] theorem State.updLane_chest : (s.updLane k f).chest = s.chest := rfl
@[simp] theorem State.updLane_tb : (s.updLane k f).tb = s.tb := rfl
@[simp] theorem State.updLane_ch : (s.updLane k f).ch = s.ch := rfl
@[simp] theorem State.updLane_pg : (s.updLane k f).pg = s.pg := rfl
@[simp] theorem State.updLane_nwl : (s.updLane k f).nwl = s.nwl := rfl
@[simp] theorem State.updLane_land : (s.updLane k f).land = s.land := rfl
@[simp] theorem State.updLane_flt : (s.updLane k f).flt = s.flt := rfl
@[simp] theorem State.updLane_out : (s.updLane k f).out = s.out := rfl
@[simp] theorem State.updLane_rdHost : (s.updLane k f).rdHost = s.rdHost := rfl
@[simp] theorem State.updLane_rdSup : (s.updLane k f).rdSup = s.rdSup := rfl
@[simp] theorem State.updLane_rdDebug : (s.updLane k f).rdDebug = s.rdDebug := rfl
@[simp] theorem State.updLane_ring : (s.updLane k f).ring = s.ring := rfl
@[simp] theorem State.updLane_gc : (s.updLane k f).gc = s.gc := rfl
@[simp] theorem State.updLane_gal : (s.updLane k f).gal = s.gal := rfl
@[simp] theorem State.updLane_txn : (s.updLane k f).txn = s.txn := rfl
@[simp] theorem State.updLane_staged : (s.updLane k f).staged = s.staged := rfl
@[simp] theorem State.updLane_snap : (s.updLane k f).snap = s.snap := rfl
@[simp] theorem State.updLane_pcie : (s.updLane k f).pcie = s.pcie := rfl
@[simp] theorem State.updLane_peer : (s.updLane k f).peer = s.peer := rfl
@[simp] theorem State.updLane_eng : (s.updLane k f).eng = s.eng := rfl
@[simp] theorem State.updLane_go : (s.updLane k f).go = s.go := rfl
@[simp] theorem State.updLane_pram : (s.updLane k f).pram = s.pram := rfl
@[simp] theorem State.updLane_pramLast : (s.updLane k f).pramLast = s.pramLast := rfl
@[simp] theorem State.updLane_patch : (s.updLane k f).patch = s.patch := rfl
@[simp] theorem State.updLane_vest : (s.updLane k f).vest = s.vest := rfl
@[simp] theorem State.updLane_bg : (s.updLane k f).bg = s.bg := rfl
@[simp] theorem State.updLane_chestCtl : (s.updLane k f).chestCtl = s.chestCtl := rfl
@[simp] theorem State.updLane_power : (s.updLane k f).power = s.power := rfl
@[simp] theorem State.updLane_ports : (s.updLane k f).ports = s.ports := rfl
@[simp] theorem State.updLane_rd (j : Nat) : (s.updLane k f).rd j = s.rd j := rfl
@[simp] theorem State.updLane_fl (j lo len : Nat) : (s.updLane k f).fl j lo len = s.fl j lo len := rfl
@[simp] theorem State.updLane_bt (j q : Nat) : (s.updLane k f).bt j q = s.bt j q := rfl
@[simp] theorem State.updLane_byte (j : Nat) : (s.updLane k f).byte j = s.byte j := rfl
@[simp] theorem State.updLane_memWord (j : Nat) : (s.updLane k f).memWord j = s.memWord j := rfl
@[simp] theorem State.updLane_chestByte (j : Nat) : (s.updLane k f).chestByte j = s.chestByte j := rfl
@[simp] theorem State.updLane_lat_ (c : Agent) (j : Nat) : (s.updLane k f).lat? c j = s.lat? c j := rfl
@[simp] theorem State.updLane_bank (g : Fin 8) (l : Fin 4) : (s.updLane k f).bank g l = s.bank g l := rfl
@[simp] theorem State.updLane_near : (s.updLane k f).near = s.near := rfl
@[simp] theorem State.updLane_now : (s.updLane k f).now = s.now := rfl
@[simp] theorem State.updLane_was (j : Nat) : (s.updLane k f).was j = s.was j := rfl
@[simp] theorem State.updLane_fofs : (s.updLane k f).fofs = s.fofs := rfl
@[simp] theorem State.updLane_tbclk : (s.updLane k f).tbclk = s.tbclk := rfl
@[simp] theorem State.updLane_samples (j : Nat) : (s.updLane k f).samples j = s.samples j := rfl
@[simp] theorem State.updLane_rec_ (j : Nat) : (s.updLane k f).rec? j = s.rec? j := rfl
end updLaneFields

section updEngFields
variable (e : Fin 8) (f : Eng → Eng)
@[simp] theorem State.updEng_pending : (s.updEng e f).pending = s.pending := rfl
@[simp] theorem State.updEng_agenda : (s.updEng e f).agenda = s.agenda := rfl
@[simp] theorem State.updEng_later : (s.updEng e f).later = s.later := rfl
@[simp] theorem State.updEng_ticks : (s.updEng e f).ticks = s.ticks := rfl
@[simp] theorem State.updEng_phase : (s.updEng e f).phase = s.phase := rfl
@[simp] theorem State.updEng_sub : (s.updEng e f).sub = s.sub := rfl
@[simp] theorem State.updEng_free : (s.updEng e f).free = s.free := rfl
@[simp] theorem State.updEng_regs : (s.updEng e f).regs = s.regs := rfl
@[simp] theorem State.updEng_marks : (s.updEng e f).marks = s.marks := rfl
@[simp] theorem State.updEng_old : (s.updEng e f).old = s.old := rfl
@[simp] theorem State.updEng_lat : (s.updEng e f).lat = s.lat := rfl
@[simp] theorem State.updEng_mem : (s.updEng e f).mem = s.mem := rfl
@[simp] theorem State.updEng_chest : (s.updEng e f).chest = s.chest := rfl
@[simp] theorem State.updEng_tb : (s.updEng e f).tb = s.tb := rfl
@[simp] theorem State.updEng_ch : (s.updEng e f).ch = s.ch := rfl
@[simp] theorem State.updEng_pg : (s.updEng e f).pg = s.pg := rfl
@[simp] theorem State.updEng_nwl : (s.updEng e f).nwl = s.nwl := rfl
@[simp] theorem State.updEng_land : (s.updEng e f).land = s.land := rfl
@[simp] theorem State.updEng_flt : (s.updEng e f).flt = s.flt := rfl
@[simp] theorem State.updEng_out : (s.updEng e f).out = s.out := rfl
@[simp] theorem State.updEng_rdHost : (s.updEng e f).rdHost = s.rdHost := rfl
@[simp] theorem State.updEng_rdSup : (s.updEng e f).rdSup = s.rdSup := rfl
@[simp] theorem State.updEng_rdDebug : (s.updEng e f).rdDebug = s.rdDebug := rfl
@[simp] theorem State.updEng_ring : (s.updEng e f).ring = s.ring := rfl
@[simp] theorem State.updEng_gc : (s.updEng e f).gc = s.gc := rfl
@[simp] theorem State.updEng_gal : (s.updEng e f).gal = s.gal := rfl
@[simp] theorem State.updEng_txn : (s.updEng e f).txn = s.txn := rfl
@[simp] theorem State.updEng_staged : (s.updEng e f).staged = s.staged := rfl
@[simp] theorem State.updEng_snap : (s.updEng e f).snap = s.snap := rfl
@[simp] theorem State.updEng_pcie : (s.updEng e f).pcie = s.pcie := rfl
@[simp] theorem State.updEng_peer : (s.updEng e f).peer = s.peer := rfl
@[simp] theorem State.updEng_go : (s.updEng e f).go = s.go := rfl
@[simp] theorem State.updEng_pram : (s.updEng e f).pram = s.pram := rfl
@[simp] theorem State.updEng_pramLast : (s.updEng e f).pramLast = s.pramLast := rfl
@[simp] theorem State.updEng_lane : (s.updEng e f).lane = s.lane := rfl
@[simp] theorem State.updEng_patch : (s.updEng e f).patch = s.patch := rfl
@[simp] theorem State.updEng_vest : (s.updEng e f).vest = s.vest := rfl
@[simp] theorem State.updEng_bg : (s.updEng e f).bg = s.bg := rfl
@[simp] theorem State.updEng_chestCtl : (s.updEng e f).chestCtl = s.chestCtl := rfl
@[simp] theorem State.updEng_power : (s.updEng e f).power = s.power := rfl
@[simp] theorem State.updEng_ports : (s.updEng e f).ports = s.ports := rfl
@[simp] theorem State.updEng_rd (j : Nat) : (s.updEng e f).rd j = s.rd j := rfl
@[simp] theorem State.updEng_fl (j lo len : Nat) : (s.updEng e f).fl j lo len = s.fl j lo len := rfl
@[simp] theorem State.updEng_bt (j q : Nat) : (s.updEng e f).bt j q = s.bt j q := rfl
@[simp] theorem State.updEng_byte (j : Nat) : (s.updEng e f).byte j = s.byte j := rfl
@[simp] theorem State.updEng_memWord (j : Nat) : (s.updEng e f).memWord j = s.memWord j := rfl
@[simp] theorem State.updEng_chestByte (j : Nat) : (s.updEng e f).chestByte j = s.chestByte j := rfl
@[simp] theorem State.updEng_lat_ (c : Agent) (j : Nat) : (s.updEng e f).lat? c j = s.lat? c j := rfl
@[simp] theorem State.updEng_near : (s.updEng e f).near = s.near := rfl
@[simp] theorem State.updEng_now : (s.updEng e f).now = s.now := rfl
@[simp] theorem State.updEng_was (j : Nat) : (s.updEng e f).was j = s.was j := rfl
@[simp] theorem State.updEng_fofs : (s.updEng e f).fofs = s.fofs := rfl
@[simp] theorem State.updEng_tbclk : (s.updEng e f).tbclk = s.tbclk := rfl
@[simp] theorem State.updEng_samples (j : Nat) : (s.updEng e f).samples j = s.samples j := rfl
@[simp] theorem State.updEng_rec_ (j : Nat) : (s.updEng e f).rec? j = s.rec? j := rfl
end updEngFields

section updBankFields
variable (e : Fin 8) (b : Fin 4) (f : Bank → Bank)
@[simp] theorem State.updBank_pending : (s.updBank e b f).pending = s.pending := rfl
@[simp] theorem State.updBank_agenda : (s.updBank e b f).agenda = s.agenda := rfl
@[simp] theorem State.updBank_later : (s.updBank e b f).later = s.later := rfl
@[simp] theorem State.updBank_ticks : (s.updBank e b f).ticks = s.ticks := rfl
@[simp] theorem State.updBank_phase : (s.updBank e b f).phase = s.phase := rfl
@[simp] theorem State.updBank_sub : (s.updBank e b f).sub = s.sub := rfl
@[simp] theorem State.updBank_free : (s.updBank e b f).free = s.free := rfl
@[simp] theorem State.updBank_regs : (s.updBank e b f).regs = s.regs := rfl
@[simp] theorem State.updBank_marks : (s.updBank e b f).marks = s.marks := rfl
@[simp] theorem State.updBank_old : (s.updBank e b f).old = s.old := rfl
@[simp] theorem State.updBank_lat : (s.updBank e b f).lat = s.lat := rfl
@[simp] theorem State.updBank_mem : (s.updBank e b f).mem = s.mem := rfl
@[simp] theorem State.updBank_chest : (s.updBank e b f).chest = s.chest := rfl
@[simp] theorem State.updBank_tb : (s.updBank e b f).tb = s.tb := rfl
@[simp] theorem State.updBank_ch : (s.updBank e b f).ch = s.ch := rfl
@[simp] theorem State.updBank_pg : (s.updBank e b f).pg = s.pg := rfl
@[simp] theorem State.updBank_nwl : (s.updBank e b f).nwl = s.nwl := rfl
@[simp] theorem State.updBank_land : (s.updBank e b f).land = s.land := rfl
@[simp] theorem State.updBank_flt : (s.updBank e b f).flt = s.flt := rfl
@[simp] theorem State.updBank_out : (s.updBank e b f).out = s.out := rfl
@[simp] theorem State.updBank_rdHost : (s.updBank e b f).rdHost = s.rdHost := rfl
@[simp] theorem State.updBank_rdSup : (s.updBank e b f).rdSup = s.rdSup := rfl
@[simp] theorem State.updBank_rdDebug : (s.updBank e b f).rdDebug = s.rdDebug := rfl
@[simp] theorem State.updBank_ring : (s.updBank e b f).ring = s.ring := rfl
@[simp] theorem State.updBank_gc : (s.updBank e b f).gc = s.gc := rfl
@[simp] theorem State.updBank_gal : (s.updBank e b f).gal = s.gal := rfl
@[simp] theorem State.updBank_txn : (s.updBank e b f).txn = s.txn := rfl
@[simp] theorem State.updBank_staged : (s.updBank e b f).staged = s.staged := rfl
@[simp] theorem State.updBank_snap : (s.updBank e b f).snap = s.snap := rfl
@[simp] theorem State.updBank_pcie : (s.updBank e b f).pcie = s.pcie := rfl
@[simp] theorem State.updBank_peer : (s.updBank e b f).peer = s.peer := rfl
@[simp] theorem State.updBank_go : (s.updBank e b f).go = s.go := rfl
@[simp] theorem State.updBank_pram : (s.updBank e b f).pram = s.pram := rfl
@[simp] theorem State.updBank_pramLast : (s.updBank e b f).pramLast = s.pramLast := rfl
@[simp] theorem State.updBank_lane : (s.updBank e b f).lane = s.lane := rfl
@[simp] theorem State.updBank_patch : (s.updBank e b f).patch = s.patch := rfl
@[simp] theorem State.updBank_vest : (s.updBank e b f).vest = s.vest := rfl
@[simp] theorem State.updBank_bg : (s.updBank e b f).bg = s.bg := rfl
@[simp] theorem State.updBank_chestCtl : (s.updBank e b f).chestCtl = s.chestCtl := rfl
@[simp] theorem State.updBank_power : (s.updBank e b f).power = s.power := rfl
@[simp] theorem State.updBank_ports : (s.updBank e b f).ports = s.ports := rfl
@[simp] theorem State.updBank_rd (j : Nat) : (s.updBank e b f).rd j = s.rd j := rfl
@[simp] theorem State.updBank_fl (j lo len : Nat) : (s.updBank e b f).fl j lo len = s.fl j lo len := rfl
@[simp] theorem State.updBank_bt (j q : Nat) : (s.updBank e b f).bt j q = s.bt j q := rfl
@[simp] theorem State.updBank_byte (j : Nat) : (s.updBank e b f).byte j = s.byte j := rfl
@[simp] theorem State.updBank_memWord (j : Nat) : (s.updBank e b f).memWord j = s.memWord j := rfl
@[simp] theorem State.updBank_chestByte (j : Nat) : (s.updBank e b f).chestByte j = s.chestByte j := rfl
@[simp] theorem State.updBank_lat_ (c : Agent) (j : Nat) : (s.updBank e b f).lat? c j = s.lat? c j := rfl
@[simp] theorem State.updBank_near : (s.updBank e b f).near = s.near := rfl
@[simp] theorem State.updBank_now : (s.updBank e b f).now = s.now := rfl
@[simp] theorem State.updBank_was (j : Nat) : (s.updBank e b f).was j = s.was j := rfl
@[simp] theorem State.updBank_fofs : (s.updBank e b f).fofs = s.fofs := rfl
@[simp] theorem State.updBank_tbclk : (s.updBank e b f).tbclk = s.tbclk := rfl
@[simp] theorem State.updBank_samples (j : Nat) : (s.updBank e b f).samples j = s.samples j := rfl
@[simp] theorem State.updBank_rec_ (j : Nat) : (s.updBank e b f).rec? j = s.rec? j := rfl
end updBankFields

section updTbFields
variable (f : Tb → Tb)
@[simp] theorem State.updTb_pending : (s.updTb f).pending = s.pending := rfl
@[simp] theorem State.updTb_agenda : (s.updTb f).agenda = s.agenda := rfl
@[simp] theorem State.updTb_later : (s.updTb f).later = s.later := rfl
@[simp] theorem State.updTb_ticks : (s.updTb f).ticks = s.ticks := rfl
@[simp] theorem State.updTb_phase : (s.updTb f).phase = s.phase := rfl
@[simp] theorem State.updTb_sub : (s.updTb f).sub = s.sub := rfl
@[simp] theorem State.updTb_free : (s.updTb f).free = s.free := rfl
@[simp] theorem State.updTb_regs : (s.updTb f).regs = s.regs := rfl
@[simp] theorem State.updTb_marks : (s.updTb f).marks = s.marks := rfl
@[simp] theorem State.updTb_old : (s.updTb f).old = s.old := rfl
@[simp] theorem State.updTb_lat : (s.updTb f).lat = s.lat := rfl
@[simp] theorem State.updTb_mem : (s.updTb f).mem = s.mem := rfl
@[simp] theorem State.updTb_chest : (s.updTb f).chest = s.chest := rfl
@[simp] theorem State.updTb_ch : (s.updTb f).ch = s.ch := rfl
@[simp] theorem State.updTb_pg : (s.updTb f).pg = s.pg := rfl
@[simp] theorem State.updTb_nwl : (s.updTb f).nwl = s.nwl := rfl
@[simp] theorem State.updTb_land : (s.updTb f).land = s.land := rfl
@[simp] theorem State.updTb_flt : (s.updTb f).flt = s.flt := rfl
@[simp] theorem State.updTb_out : (s.updTb f).out = s.out := rfl
@[simp] theorem State.updTb_rdHost : (s.updTb f).rdHost = s.rdHost := rfl
@[simp] theorem State.updTb_rdSup : (s.updTb f).rdSup = s.rdSup := rfl
@[simp] theorem State.updTb_rdDebug : (s.updTb f).rdDebug = s.rdDebug := rfl
@[simp] theorem State.updTb_ring : (s.updTb f).ring = s.ring := rfl
@[simp] theorem State.updTb_gc : (s.updTb f).gc = s.gc := rfl
@[simp] theorem State.updTb_gal : (s.updTb f).gal = s.gal := rfl
@[simp] theorem State.updTb_txn : (s.updTb f).txn = s.txn := rfl
@[simp] theorem State.updTb_staged : (s.updTb f).staged = s.staged := rfl
@[simp] theorem State.updTb_snap : (s.updTb f).snap = s.snap := rfl
@[simp] theorem State.updTb_pcie : (s.updTb f).pcie = s.pcie := rfl
@[simp] theorem State.updTb_peer : (s.updTb f).peer = s.peer := rfl
@[simp] theorem State.updTb_eng : (s.updTb f).eng = s.eng := rfl
@[simp] theorem State.updTb_go : (s.updTb f).go = s.go := rfl
@[simp] theorem State.updTb_pram : (s.updTb f).pram = s.pram := rfl
@[simp] theorem State.updTb_pramLast : (s.updTb f).pramLast = s.pramLast := rfl
@[simp] theorem State.updTb_lane : (s.updTb f).lane = s.lane := rfl
@[simp] theorem State.updTb_patch : (s.updTb f).patch = s.patch := rfl
@[simp] theorem State.updTb_vest : (s.updTb f).vest = s.vest := rfl
@[simp] theorem State.updTb_bg : (s.updTb f).bg = s.bg := rfl
@[simp] theorem State.updTb_chestCtl : (s.updTb f).chestCtl = s.chestCtl := rfl
@[simp] theorem State.updTb_power : (s.updTb f).power = s.power := rfl
@[simp] theorem State.updTb_ports : (s.updTb f).ports = s.ports := rfl
@[simp] theorem State.updTb_rd (j : Nat) : (s.updTb f).rd j = s.rd j := rfl
@[simp] theorem State.updTb_fl (j lo len : Nat) : (s.updTb f).fl j lo len = s.fl j lo len := rfl
@[simp] theorem State.updTb_bt (j q : Nat) : (s.updTb f).bt j q = s.bt j q := rfl
@[simp] theorem State.updTb_byte (j : Nat) : (s.updTb f).byte j = s.byte j := rfl
@[simp] theorem State.updTb_memWord (j : Nat) : (s.updTb f).memWord j = s.memWord j := rfl
@[simp] theorem State.updTb_chestByte (j : Nat) : (s.updTb f).chestByte j = s.chestByte j := rfl
@[simp] theorem State.updTb_lat_ (c : Agent) (j : Nat) : (s.updTb f).lat? c j = s.lat? c j := rfl
@[simp] theorem State.updTb_bank (g : Fin 8) (l : Fin 4) : (s.updTb f).bank g l = s.bank g l := rfl
@[simp] theorem State.updTb_now : (s.updTb f).now = s.now := rfl
@[simp] theorem State.updTb_was (j : Nat) : (s.updTb f).was j = s.was j := rfl
@[simp] theorem State.updTb_fofs : (s.updTb f).fofs = s.fofs := rfl
@[simp] theorem State.updTb_tbclk : (s.updTb f).tbclk = s.tbclk := rfl
@[simp] theorem State.updTb_rec_ (j : Nat) : (s.updTb f).rec? j = s.rec? j := rfl
end updTbFields

section updLandFields
variable (f : Landing → Landing)
@[simp] theorem State.updLand_pending : (s.updLand f).pending = s.pending := rfl
@[simp] theorem State.updLand_agenda : (s.updLand f).agenda = s.agenda := rfl
@[simp] theorem State.updLand_later : (s.updLand f).later = s.later := rfl
@[simp] theorem State.updLand_ticks : (s.updLand f).ticks = s.ticks := rfl
@[simp] theorem State.updLand_phase : (s.updLand f).phase = s.phase := rfl
@[simp] theorem State.updLand_sub : (s.updLand f).sub = s.sub := rfl
@[simp] theorem State.updLand_free : (s.updLand f).free = s.free := rfl
@[simp] theorem State.updLand_regs : (s.updLand f).regs = s.regs := rfl
@[simp] theorem State.updLand_marks : (s.updLand f).marks = s.marks := rfl
@[simp] theorem State.updLand_old : (s.updLand f).old = s.old := rfl
@[simp] theorem State.updLand_lat : (s.updLand f).lat = s.lat := rfl
@[simp] theorem State.updLand_mem : (s.updLand f).mem = s.mem := rfl
@[simp] theorem State.updLand_chest : (s.updLand f).chest = s.chest := rfl
@[simp] theorem State.updLand_tb : (s.updLand f).tb = s.tb := rfl
@[simp] theorem State.updLand_ch : (s.updLand f).ch = s.ch := rfl
@[simp] theorem State.updLand_pg : (s.updLand f).pg = s.pg := rfl
@[simp] theorem State.updLand_nwl : (s.updLand f).nwl = s.nwl := rfl
@[simp] theorem State.updLand_flt : (s.updLand f).flt = s.flt := rfl
@[simp] theorem State.updLand_out : (s.updLand f).out = s.out := rfl
@[simp] theorem State.updLand_rdHost : (s.updLand f).rdHost = s.rdHost := rfl
@[simp] theorem State.updLand_rdSup : (s.updLand f).rdSup = s.rdSup := rfl
@[simp] theorem State.updLand_rdDebug : (s.updLand f).rdDebug = s.rdDebug := rfl
@[simp] theorem State.updLand_ring : (s.updLand f).ring = s.ring := rfl
@[simp] theorem State.updLand_gc : (s.updLand f).gc = s.gc := rfl
@[simp] theorem State.updLand_gal : (s.updLand f).gal = s.gal := rfl
@[simp] theorem State.updLand_txn : (s.updLand f).txn = s.txn := rfl
@[simp] theorem State.updLand_staged : (s.updLand f).staged = s.staged := rfl
@[simp] theorem State.updLand_snap : (s.updLand f).snap = s.snap := rfl
@[simp] theorem State.updLand_pcie : (s.updLand f).pcie = s.pcie := rfl
@[simp] theorem State.updLand_peer : (s.updLand f).peer = s.peer := rfl
@[simp] theorem State.updLand_eng : (s.updLand f).eng = s.eng := rfl
@[simp] theorem State.updLand_go : (s.updLand f).go = s.go := rfl
@[simp] theorem State.updLand_pram : (s.updLand f).pram = s.pram := rfl
@[simp] theorem State.updLand_pramLast : (s.updLand f).pramLast = s.pramLast := rfl
@[simp] theorem State.updLand_lane : (s.updLand f).lane = s.lane := rfl
@[simp] theorem State.updLand_patch : (s.updLand f).patch = s.patch := rfl
@[simp] theorem State.updLand_vest : (s.updLand f).vest = s.vest := rfl
@[simp] theorem State.updLand_bg : (s.updLand f).bg = s.bg := rfl
@[simp] theorem State.updLand_chestCtl : (s.updLand f).chestCtl = s.chestCtl := rfl
@[simp] theorem State.updLand_power : (s.updLand f).power = s.power := rfl
@[simp] theorem State.updLand_ports : (s.updLand f).ports = s.ports := rfl
@[simp] theorem State.updLand_rd (j : Nat) : (s.updLand f).rd j = s.rd j := rfl
@[simp] theorem State.updLand_fl (j lo len : Nat) : (s.updLand f).fl j lo len = s.fl j lo len := rfl
@[simp] theorem State.updLand_bt (j q : Nat) : (s.updLand f).bt j q = s.bt j q := rfl
@[simp] theorem State.updLand_byte (j : Nat) : (s.updLand f).byte j = s.byte j := rfl
@[simp] theorem State.updLand_memWord (j : Nat) : (s.updLand f).memWord j = s.memWord j := rfl
@[simp] theorem State.updLand_chestByte (j : Nat) : (s.updLand f).chestByte j = s.chestByte j := rfl
@[simp] theorem State.updLand_lat_ (c : Agent) (j : Nat) : (s.updLand f).lat? c j = s.lat? c j := rfl
@[simp] theorem State.updLand_bank (g : Fin 8) (l : Fin 4) : (s.updLand f).bank g l = s.bank g l := rfl
@[simp] theorem State.updLand_near : (s.updLand f).near = s.near := rfl
@[simp] theorem State.updLand_now : (s.updLand f).now = s.now := rfl
@[simp] theorem State.updLand_was (j : Nat) : (s.updLand f).was j = s.was j := rfl
@[simp] theorem State.updLand_fofs : (s.updLand f).fofs = s.fofs := rfl
@[simp] theorem State.updLand_tbclk : (s.updLand f).tbclk = s.tbclk := rfl
@[simp] theorem State.updLand_samples (j : Nat) : (s.updLand f).samples j = s.samples j := rfl
@[simp] theorem State.updLand_rec_ (j : Nat) : (s.updLand f).rec? j = s.rec? j := rfl
end updLandFields

section updFltFields
variable (f : Flt → Flt)
@[simp] theorem State.updFlt_pending : (s.updFlt f).pending = s.pending := rfl
@[simp] theorem State.updFlt_agenda : (s.updFlt f).agenda = s.agenda := rfl
@[simp] theorem State.updFlt_later : (s.updFlt f).later = s.later := rfl
@[simp] theorem State.updFlt_ticks : (s.updFlt f).ticks = s.ticks := rfl
@[simp] theorem State.updFlt_phase : (s.updFlt f).phase = s.phase := rfl
@[simp] theorem State.updFlt_sub : (s.updFlt f).sub = s.sub := rfl
@[simp] theorem State.updFlt_free : (s.updFlt f).free = s.free := rfl
@[simp] theorem State.updFlt_regs : (s.updFlt f).regs = s.regs := rfl
@[simp] theorem State.updFlt_marks : (s.updFlt f).marks = s.marks := rfl
@[simp] theorem State.updFlt_old : (s.updFlt f).old = s.old := rfl
@[simp] theorem State.updFlt_lat : (s.updFlt f).lat = s.lat := rfl
@[simp] theorem State.updFlt_mem : (s.updFlt f).mem = s.mem := rfl
@[simp] theorem State.updFlt_chest : (s.updFlt f).chest = s.chest := rfl
@[simp] theorem State.updFlt_tb : (s.updFlt f).tb = s.tb := rfl
@[simp] theorem State.updFlt_ch : (s.updFlt f).ch = s.ch := rfl
@[simp] theorem State.updFlt_pg : (s.updFlt f).pg = s.pg := rfl
@[simp] theorem State.updFlt_nwl : (s.updFlt f).nwl = s.nwl := rfl
@[simp] theorem State.updFlt_land : (s.updFlt f).land = s.land := rfl
@[simp] theorem State.updFlt_out : (s.updFlt f).out = s.out := rfl
@[simp] theorem State.updFlt_rdHost : (s.updFlt f).rdHost = s.rdHost := rfl
@[simp] theorem State.updFlt_rdSup : (s.updFlt f).rdSup = s.rdSup := rfl
@[simp] theorem State.updFlt_rdDebug : (s.updFlt f).rdDebug = s.rdDebug := rfl
@[simp] theorem State.updFlt_ring : (s.updFlt f).ring = s.ring := rfl
@[simp] theorem State.updFlt_gc : (s.updFlt f).gc = s.gc := rfl
@[simp] theorem State.updFlt_gal : (s.updFlt f).gal = s.gal := rfl
@[simp] theorem State.updFlt_txn : (s.updFlt f).txn = s.txn := rfl
@[simp] theorem State.updFlt_staged : (s.updFlt f).staged = s.staged := rfl
@[simp] theorem State.updFlt_snap : (s.updFlt f).snap = s.snap := rfl
@[simp] theorem State.updFlt_pcie : (s.updFlt f).pcie = s.pcie := rfl
@[simp] theorem State.updFlt_peer : (s.updFlt f).peer = s.peer := rfl
@[simp] theorem State.updFlt_eng : (s.updFlt f).eng = s.eng := rfl
@[simp] theorem State.updFlt_go : (s.updFlt f).go = s.go := rfl
@[simp] theorem State.updFlt_pram : (s.updFlt f).pram = s.pram := rfl
@[simp] theorem State.updFlt_pramLast : (s.updFlt f).pramLast = s.pramLast := rfl
@[simp] theorem State.updFlt_lane : (s.updFlt f).lane = s.lane := rfl
@[simp] theorem State.updFlt_patch : (s.updFlt f).patch = s.patch := rfl
@[simp] theorem State.updFlt_vest : (s.updFlt f).vest = s.vest := rfl
@[simp] theorem State.updFlt_bg : (s.updFlt f).bg = s.bg := rfl
@[simp] theorem State.updFlt_chestCtl : (s.updFlt f).chestCtl = s.chestCtl := rfl
@[simp] theorem State.updFlt_power : (s.updFlt f).power = s.power := rfl
@[simp] theorem State.updFlt_ports : (s.updFlt f).ports = s.ports := rfl
@[simp] theorem State.updFlt_rd (j : Nat) : (s.updFlt f).rd j = s.rd j := rfl
@[simp] theorem State.updFlt_fl (j lo len : Nat) : (s.updFlt f).fl j lo len = s.fl j lo len := rfl
@[simp] theorem State.updFlt_bt (j q : Nat) : (s.updFlt f).bt j q = s.bt j q := rfl
@[simp] theorem State.updFlt_byte (j : Nat) : (s.updFlt f).byte j = s.byte j := rfl
@[simp] theorem State.updFlt_memWord (j : Nat) : (s.updFlt f).memWord j = s.memWord j := rfl
@[simp] theorem State.updFlt_chestByte (j : Nat) : (s.updFlt f).chestByte j = s.chestByte j := rfl
@[simp] theorem State.updFlt_lat_ (c : Agent) (j : Nat) : (s.updFlt f).lat? c j = s.lat? c j := rfl
@[simp] theorem State.updFlt_bank (g : Fin 8) (l : Fin 4) : (s.updFlt f).bank g l = s.bank g l := rfl
@[simp] theorem State.updFlt_near : (s.updFlt f).near = s.near := rfl
@[simp] theorem State.updFlt_now : (s.updFlt f).now = s.now := rfl
@[simp] theorem State.updFlt_was (j : Nat) : (s.updFlt f).was j = s.was j := rfl
@[simp] theorem State.updFlt_fofs : (s.updFlt f).fofs = s.fofs := rfl
@[simp] theorem State.updFlt_tbclk : (s.updFlt f).tbclk = s.tbclk := rfl
@[simp] theorem State.updFlt_samples (j : Nat) : (s.updFlt f).samples j = s.samples j := rfl
end updFltFields

section updRecFields
variable (k : Nat) (f : FltRec → FltRec)
@[simp] theorem State.updRec_pending : (s.updRec k f).pending = s.pending := rfl
@[simp] theorem State.updRec_agenda : (s.updRec k f).agenda = s.agenda := rfl
@[simp] theorem State.updRec_later : (s.updRec k f).later = s.later := rfl
@[simp] theorem State.updRec_ticks : (s.updRec k f).ticks = s.ticks := rfl
@[simp] theorem State.updRec_phase : (s.updRec k f).phase = s.phase := rfl
@[simp] theorem State.updRec_sub : (s.updRec k f).sub = s.sub := rfl
@[simp] theorem State.updRec_free : (s.updRec k f).free = s.free := rfl
@[simp] theorem State.updRec_regs : (s.updRec k f).regs = s.regs := rfl
@[simp] theorem State.updRec_marks : (s.updRec k f).marks = s.marks := rfl
@[simp] theorem State.updRec_old : (s.updRec k f).old = s.old := rfl
@[simp] theorem State.updRec_lat : (s.updRec k f).lat = s.lat := rfl
@[simp] theorem State.updRec_mem : (s.updRec k f).mem = s.mem := rfl
@[simp] theorem State.updRec_chest : (s.updRec k f).chest = s.chest := rfl
@[simp] theorem State.updRec_tb : (s.updRec k f).tb = s.tb := rfl
@[simp] theorem State.updRec_ch : (s.updRec k f).ch = s.ch := rfl
@[simp] theorem State.updRec_pg : (s.updRec k f).pg = s.pg := rfl
@[simp] theorem State.updRec_nwl : (s.updRec k f).nwl = s.nwl := rfl
@[simp] theorem State.updRec_land : (s.updRec k f).land = s.land := rfl
@[simp] theorem State.updRec_out : (s.updRec k f).out = s.out := rfl
@[simp] theorem State.updRec_rdHost : (s.updRec k f).rdHost = s.rdHost := rfl
@[simp] theorem State.updRec_rdSup : (s.updRec k f).rdSup = s.rdSup := rfl
@[simp] theorem State.updRec_rdDebug : (s.updRec k f).rdDebug = s.rdDebug := rfl
@[simp] theorem State.updRec_ring : (s.updRec k f).ring = s.ring := rfl
@[simp] theorem State.updRec_gc : (s.updRec k f).gc = s.gc := rfl
@[simp] theorem State.updRec_gal : (s.updRec k f).gal = s.gal := rfl
@[simp] theorem State.updRec_txn : (s.updRec k f).txn = s.txn := rfl
@[simp] theorem State.updRec_staged : (s.updRec k f).staged = s.staged := rfl
@[simp] theorem State.updRec_snap : (s.updRec k f).snap = s.snap := rfl
@[simp] theorem State.updRec_pcie : (s.updRec k f).pcie = s.pcie := rfl
@[simp] theorem State.updRec_peer : (s.updRec k f).peer = s.peer := rfl
@[simp] theorem State.updRec_eng : (s.updRec k f).eng = s.eng := rfl
@[simp] theorem State.updRec_go : (s.updRec k f).go = s.go := rfl
@[simp] theorem State.updRec_pram : (s.updRec k f).pram = s.pram := rfl
@[simp] theorem State.updRec_pramLast : (s.updRec k f).pramLast = s.pramLast := rfl
@[simp] theorem State.updRec_lane : (s.updRec k f).lane = s.lane := rfl
@[simp] theorem State.updRec_patch : (s.updRec k f).patch = s.patch := rfl
@[simp] theorem State.updRec_vest : (s.updRec k f).vest = s.vest := rfl
@[simp] theorem State.updRec_bg : (s.updRec k f).bg = s.bg := rfl
@[simp] theorem State.updRec_chestCtl : (s.updRec k f).chestCtl = s.chestCtl := rfl
@[simp] theorem State.updRec_power : (s.updRec k f).power = s.power := rfl
@[simp] theorem State.updRec_ports : (s.updRec k f).ports = s.ports := rfl
@[simp] theorem State.updRec_rd (j : Nat) : (s.updRec k f).rd j = s.rd j := rfl
@[simp] theorem State.updRec_fl (j lo len : Nat) : (s.updRec k f).fl j lo len = s.fl j lo len := rfl
@[simp] theorem State.updRec_bt (j q : Nat) : (s.updRec k f).bt j q = s.bt j q := rfl
@[simp] theorem State.updRec_byte (j : Nat) : (s.updRec k f).byte j = s.byte j := rfl
@[simp] theorem State.updRec_memWord (j : Nat) : (s.updRec k f).memWord j = s.memWord j := rfl
@[simp] theorem State.updRec_chestByte (j : Nat) : (s.updRec k f).chestByte j = s.chestByte j := rfl
@[simp] theorem State.updRec_lat_ (c : Agent) (j : Nat) : (s.updRec k f).lat? c j = s.lat? c j := rfl
@[simp] theorem State.updRec_bank (g : Fin 8) (l : Fin 4) : (s.updRec k f).bank g l = s.bank g l := rfl
@[simp] theorem State.updRec_near : (s.updRec k f).near = s.near := rfl
@[simp] theorem State.updRec_now : (s.updRec k f).now = s.now := rfl
@[simp] theorem State.updRec_was (j : Nat) : (s.updRec k f).was j = s.was j := rfl
@[simp] theorem State.updRec_fofs : (s.updRec k f).fofs = s.fofs := rfl
@[simp] theorem State.updRec_tbclk : (s.updRec k f).tbclk = s.tbclk := rfl
@[simp] theorem State.updRec_samples (j : Nat) : (s.updRec k f).samples j = s.samples j := rfl
end updRecFields

section updVestFields
variable (f : Vest → Vest)
@[simp] theorem State.updVest_pending : (s.updVest f).pending = s.pending := rfl
@[simp] theorem State.updVest_agenda : (s.updVest f).agenda = s.agenda := rfl
@[simp] theorem State.updVest_later : (s.updVest f).later = s.later := rfl
@[simp] theorem State.updVest_ticks : (s.updVest f).ticks = s.ticks := rfl
@[simp] theorem State.updVest_phase : (s.updVest f).phase = s.phase := rfl
@[simp] theorem State.updVest_sub : (s.updVest f).sub = s.sub := rfl
@[simp] theorem State.updVest_free : (s.updVest f).free = s.free := rfl
@[simp] theorem State.updVest_regs : (s.updVest f).regs = s.regs := rfl
@[simp] theorem State.updVest_marks : (s.updVest f).marks = s.marks := rfl
@[simp] theorem State.updVest_old : (s.updVest f).old = s.old := rfl
@[simp] theorem State.updVest_lat : (s.updVest f).lat = s.lat := rfl
@[simp] theorem State.updVest_mem : (s.updVest f).mem = s.mem := rfl
@[simp] theorem State.updVest_chest : (s.updVest f).chest = s.chest := rfl
@[simp] theorem State.updVest_tb : (s.updVest f).tb = s.tb := rfl
@[simp] theorem State.updVest_ch : (s.updVest f).ch = s.ch := rfl
@[simp] theorem State.updVest_pg : (s.updVest f).pg = s.pg := rfl
@[simp] theorem State.updVest_nwl : (s.updVest f).nwl = s.nwl := rfl
@[simp] theorem State.updVest_land : (s.updVest f).land = s.land := rfl
@[simp] theorem State.updVest_flt : (s.updVest f).flt = s.flt := rfl
@[simp] theorem State.updVest_out : (s.updVest f).out = s.out := rfl
@[simp] theorem State.updVest_rdHost : (s.updVest f).rdHost = s.rdHost := rfl
@[simp] theorem State.updVest_rdSup : (s.updVest f).rdSup = s.rdSup := rfl
@[simp] theorem State.updVest_rdDebug : (s.updVest f).rdDebug = s.rdDebug := rfl
@[simp] theorem State.updVest_ring : (s.updVest f).ring = s.ring := rfl
@[simp] theorem State.updVest_gc : (s.updVest f).gc = s.gc := rfl
@[simp] theorem State.updVest_gal : (s.updVest f).gal = s.gal := rfl
@[simp] theorem State.updVest_txn : (s.updVest f).txn = s.txn := rfl
@[simp] theorem State.updVest_staged : (s.updVest f).staged = s.staged := rfl
@[simp] theorem State.updVest_snap : (s.updVest f).snap = s.snap := rfl
@[simp] theorem State.updVest_pcie : (s.updVest f).pcie = s.pcie := rfl
@[simp] theorem State.updVest_peer : (s.updVest f).peer = s.peer := rfl
@[simp] theorem State.updVest_eng : (s.updVest f).eng = s.eng := rfl
@[simp] theorem State.updVest_go : (s.updVest f).go = s.go := rfl
@[simp] theorem State.updVest_pram : (s.updVest f).pram = s.pram := rfl
@[simp] theorem State.updVest_pramLast : (s.updVest f).pramLast = s.pramLast := rfl
@[simp] theorem State.updVest_lane : (s.updVest f).lane = s.lane := rfl
@[simp] theorem State.updVest_patch : (s.updVest f).patch = s.patch := rfl
@[simp] theorem State.updVest_bg : (s.updVest f).bg = s.bg := rfl
@[simp] theorem State.updVest_chestCtl : (s.updVest f).chestCtl = s.chestCtl := rfl
@[simp] theorem State.updVest_power : (s.updVest f).power = s.power := rfl
@[simp] theorem State.updVest_ports : (s.updVest f).ports = s.ports := rfl
@[simp] theorem State.updVest_rd (j : Nat) : (s.updVest f).rd j = s.rd j := rfl
@[simp] theorem State.updVest_fl (j lo len : Nat) : (s.updVest f).fl j lo len = s.fl j lo len := rfl
@[simp] theorem State.updVest_bt (j q : Nat) : (s.updVest f).bt j q = s.bt j q := rfl
@[simp] theorem State.updVest_byte (j : Nat) : (s.updVest f).byte j = s.byte j := rfl
@[simp] theorem State.updVest_memWord (j : Nat) : (s.updVest f).memWord j = s.memWord j := rfl
@[simp] theorem State.updVest_chestByte (j : Nat) : (s.updVest f).chestByte j = s.chestByte j := rfl
@[simp] theorem State.updVest_lat_ (c : Agent) (j : Nat) : (s.updVest f).lat? c j = s.lat? c j := rfl
@[simp] theorem State.updVest_bank (g : Fin 8) (l : Fin 4) : (s.updVest f).bank g l = s.bank g l := rfl
@[simp] theorem State.updVest_near : (s.updVest f).near = s.near := rfl
@[simp] theorem State.updVest_now : (s.updVest f).now = s.now := rfl
@[simp] theorem State.updVest_was (j : Nat) : (s.updVest f).was j = s.was j := rfl
@[simp] theorem State.updVest_fofs : (s.updVest f).fofs = s.fofs := rfl
@[simp] theorem State.updVest_tbclk : (s.updVest f).tbclk = s.tbclk := rfl
@[simp] theorem State.updVest_samples (j : Nat) : (s.updVest f).samples j = s.samples j := rfl
@[simp] theorem State.updVest_rec_ (j : Nat) : (s.updVest f).rec? j = s.rec? j := rfl
end updVestFields

section updBgFields
variable (f : Bg → Bg)
@[simp] theorem State.updBg_pending : (s.updBg f).pending = s.pending := rfl
@[simp] theorem State.updBg_agenda : (s.updBg f).agenda = s.agenda := rfl
@[simp] theorem State.updBg_later : (s.updBg f).later = s.later := rfl
@[simp] theorem State.updBg_ticks : (s.updBg f).ticks = s.ticks := rfl
@[simp] theorem State.updBg_phase : (s.updBg f).phase = s.phase := rfl
@[simp] theorem State.updBg_sub : (s.updBg f).sub = s.sub := rfl
@[simp] theorem State.updBg_free : (s.updBg f).free = s.free := rfl
@[simp] theorem State.updBg_regs : (s.updBg f).regs = s.regs := rfl
@[simp] theorem State.updBg_marks : (s.updBg f).marks = s.marks := rfl
@[simp] theorem State.updBg_old : (s.updBg f).old = s.old := rfl
@[simp] theorem State.updBg_lat : (s.updBg f).lat = s.lat := rfl
@[simp] theorem State.updBg_mem : (s.updBg f).mem = s.mem := rfl
@[simp] theorem State.updBg_chest : (s.updBg f).chest = s.chest := rfl
@[simp] theorem State.updBg_tb : (s.updBg f).tb = s.tb := rfl
@[simp] theorem State.updBg_ch : (s.updBg f).ch = s.ch := rfl
@[simp] theorem State.updBg_pg : (s.updBg f).pg = s.pg := rfl
@[simp] theorem State.updBg_nwl : (s.updBg f).nwl = s.nwl := rfl
@[simp] theorem State.updBg_land : (s.updBg f).land = s.land := rfl
@[simp] theorem State.updBg_flt : (s.updBg f).flt = s.flt := rfl
@[simp] theorem State.updBg_out : (s.updBg f).out = s.out := rfl
@[simp] theorem State.updBg_rdHost : (s.updBg f).rdHost = s.rdHost := rfl
@[simp] theorem State.updBg_rdSup : (s.updBg f).rdSup = s.rdSup := rfl
@[simp] theorem State.updBg_rdDebug : (s.updBg f).rdDebug = s.rdDebug := rfl
@[simp] theorem State.updBg_ring : (s.updBg f).ring = s.ring := rfl
@[simp] theorem State.updBg_gc : (s.updBg f).gc = s.gc := rfl
@[simp] theorem State.updBg_gal : (s.updBg f).gal = s.gal := rfl
@[simp] theorem State.updBg_txn : (s.updBg f).txn = s.txn := rfl
@[simp] theorem State.updBg_staged : (s.updBg f).staged = s.staged := rfl
@[simp] theorem State.updBg_snap : (s.updBg f).snap = s.snap := rfl
@[simp] theorem State.updBg_pcie : (s.updBg f).pcie = s.pcie := rfl
@[simp] theorem State.updBg_peer : (s.updBg f).peer = s.peer := rfl
@[simp] theorem State.updBg_eng : (s.updBg f).eng = s.eng := rfl
@[simp] theorem State.updBg_go : (s.updBg f).go = s.go := rfl
@[simp] theorem State.updBg_pram : (s.updBg f).pram = s.pram := rfl
@[simp] theorem State.updBg_pramLast : (s.updBg f).pramLast = s.pramLast := rfl
@[simp] theorem State.updBg_lane : (s.updBg f).lane = s.lane := rfl
@[simp] theorem State.updBg_patch : (s.updBg f).patch = s.patch := rfl
@[simp] theorem State.updBg_vest : (s.updBg f).vest = s.vest := rfl
@[simp] theorem State.updBg_chestCtl : (s.updBg f).chestCtl = s.chestCtl := rfl
@[simp] theorem State.updBg_power : (s.updBg f).power = s.power := rfl
@[simp] theorem State.updBg_ports : (s.updBg f).ports = s.ports := rfl
@[simp] theorem State.updBg_rd (j : Nat) : (s.updBg f).rd j = s.rd j := rfl
@[simp] theorem State.updBg_fl (j lo len : Nat) : (s.updBg f).fl j lo len = s.fl j lo len := rfl
@[simp] theorem State.updBg_bt (j q : Nat) : (s.updBg f).bt j q = s.bt j q := rfl
@[simp] theorem State.updBg_byte (j : Nat) : (s.updBg f).byte j = s.byte j := rfl
@[simp] theorem State.updBg_memWord (j : Nat) : (s.updBg f).memWord j = s.memWord j := rfl
@[simp] theorem State.updBg_chestByte (j : Nat) : (s.updBg f).chestByte j = s.chestByte j := rfl
@[simp] theorem State.updBg_lat_ (c : Agent) (j : Nat) : (s.updBg f).lat? c j = s.lat? c j := rfl
@[simp] theorem State.updBg_bank (g : Fin 8) (l : Fin 4) : (s.updBg f).bank g l = s.bank g l := rfl
@[simp] theorem State.updBg_near : (s.updBg f).near = s.near := rfl
@[simp] theorem State.updBg_now : (s.updBg f).now = s.now := rfl
@[simp] theorem State.updBg_was (j : Nat) : (s.updBg f).was j = s.was j := rfl
@[simp] theorem State.updBg_fofs : (s.updBg f).fofs = s.fofs := rfl
@[simp] theorem State.updBg_tbclk : (s.updBg f).tbclk = s.tbclk := rfl
@[simp] theorem State.updBg_samples (j : Nat) : (s.updBg f).samples j = s.samples j := rfl
@[simp] theorem State.updBg_rec_ (j : Nat) : (s.updBg f).rec? j = s.rec? j := rfl
end updBgFields

section updPowerFields
variable (f : Power → Power)
@[simp] theorem State.updPower_pending : (s.updPower f).pending = s.pending := rfl
@[simp] theorem State.updPower_agenda : (s.updPower f).agenda = s.agenda := rfl
@[simp] theorem State.updPower_later : (s.updPower f).later = s.later := rfl
@[simp] theorem State.updPower_ticks : (s.updPower f).ticks = s.ticks := rfl
@[simp] theorem State.updPower_phase : (s.updPower f).phase = s.phase := rfl
@[simp] theorem State.updPower_sub : (s.updPower f).sub = s.sub := rfl
@[simp] theorem State.updPower_free : (s.updPower f).free = s.free := rfl
@[simp] theorem State.updPower_regs : (s.updPower f).regs = s.regs := rfl
@[simp] theorem State.updPower_marks : (s.updPower f).marks = s.marks := rfl
@[simp] theorem State.updPower_old : (s.updPower f).old = s.old := rfl
@[simp] theorem State.updPower_lat : (s.updPower f).lat = s.lat := rfl
@[simp] theorem State.updPower_mem : (s.updPower f).mem = s.mem := rfl
@[simp] theorem State.updPower_chest : (s.updPower f).chest = s.chest := rfl
@[simp] theorem State.updPower_tb : (s.updPower f).tb = s.tb := rfl
@[simp] theorem State.updPower_ch : (s.updPower f).ch = s.ch := rfl
@[simp] theorem State.updPower_pg : (s.updPower f).pg = s.pg := rfl
@[simp] theorem State.updPower_nwl : (s.updPower f).nwl = s.nwl := rfl
@[simp] theorem State.updPower_land : (s.updPower f).land = s.land := rfl
@[simp] theorem State.updPower_flt : (s.updPower f).flt = s.flt := rfl
@[simp] theorem State.updPower_out : (s.updPower f).out = s.out := rfl
@[simp] theorem State.updPower_rdHost : (s.updPower f).rdHost = s.rdHost := rfl
@[simp] theorem State.updPower_rdSup : (s.updPower f).rdSup = s.rdSup := rfl
@[simp] theorem State.updPower_rdDebug : (s.updPower f).rdDebug = s.rdDebug := rfl
@[simp] theorem State.updPower_ring : (s.updPower f).ring = s.ring := rfl
@[simp] theorem State.updPower_gc : (s.updPower f).gc = s.gc := rfl
@[simp] theorem State.updPower_gal : (s.updPower f).gal = s.gal := rfl
@[simp] theorem State.updPower_txn : (s.updPower f).txn = s.txn := rfl
@[simp] theorem State.updPower_staged : (s.updPower f).staged = s.staged := rfl
@[simp] theorem State.updPower_snap : (s.updPower f).snap = s.snap := rfl
@[simp] theorem State.updPower_pcie : (s.updPower f).pcie = s.pcie := rfl
@[simp] theorem State.updPower_peer : (s.updPower f).peer = s.peer := rfl
@[simp] theorem State.updPower_eng : (s.updPower f).eng = s.eng := rfl
@[simp] theorem State.updPower_go : (s.updPower f).go = s.go := rfl
@[simp] theorem State.updPower_pram : (s.updPower f).pram = s.pram := rfl
@[simp] theorem State.updPower_pramLast : (s.updPower f).pramLast = s.pramLast := rfl
@[simp] theorem State.updPower_lane : (s.updPower f).lane = s.lane := rfl
@[simp] theorem State.updPower_patch : (s.updPower f).patch = s.patch := rfl
@[simp] theorem State.updPower_vest : (s.updPower f).vest = s.vest := rfl
@[simp] theorem State.updPower_bg : (s.updPower f).bg = s.bg := rfl
@[simp] theorem State.updPower_chestCtl : (s.updPower f).chestCtl = s.chestCtl := rfl
@[simp] theorem State.updPower_ports : (s.updPower f).ports = s.ports := rfl
@[simp] theorem State.updPower_rd (j : Nat) : (s.updPower f).rd j = s.rd j := rfl
@[simp] theorem State.updPower_fl (j lo len : Nat) : (s.updPower f).fl j lo len = s.fl j lo len := rfl
@[simp] theorem State.updPower_bt (j q : Nat) : (s.updPower f).bt j q = s.bt j q := rfl
@[simp] theorem State.updPower_byte (j : Nat) : (s.updPower f).byte j = s.byte j := rfl
@[simp] theorem State.updPower_memWord (j : Nat) : (s.updPower f).memWord j = s.memWord j := rfl
@[simp] theorem State.updPower_chestByte (j : Nat) : (s.updPower f).chestByte j = s.chestByte j := rfl
@[simp] theorem State.updPower_lat_ (c : Agent) (j : Nat) : (s.updPower f).lat? c j = s.lat? c j := rfl
@[simp] theorem State.updPower_bank (g : Fin 8) (l : Fin 4) : (s.updPower f).bank g l = s.bank g l := rfl
@[simp] theorem State.updPower_near : (s.updPower f).near = s.near := rfl
@[simp] theorem State.updPower_now : (s.updPower f).now = s.now := rfl
@[simp] theorem State.updPower_was (j : Nat) : (s.updPower f).was j = s.was j := rfl
@[simp] theorem State.updPower_fofs : (s.updPower f).fofs = s.fofs := rfl
@[simp] theorem State.updPower_tbclk : (s.updPower f).tbclk = s.tbclk := rfl
@[simp] theorem State.updPower_samples (j : Nat) : (s.updPower f).samples j = s.samples j := rfl
@[simp] theorem State.updPower_rec_ (j : Nat) : (s.updPower f).rec? j = s.rec? j := rfl
end updPowerFields

section updPortsFields
variable (f : Ports → Ports)
@[simp] theorem State.updPorts_pending : (s.updPorts f).pending = s.pending := rfl
@[simp] theorem State.updPorts_agenda : (s.updPorts f).agenda = s.agenda := rfl
@[simp] theorem State.updPorts_later : (s.updPorts f).later = s.later := rfl
@[simp] theorem State.updPorts_ticks : (s.updPorts f).ticks = s.ticks := rfl
@[simp] theorem State.updPorts_phase : (s.updPorts f).phase = s.phase := rfl
@[simp] theorem State.updPorts_sub : (s.updPorts f).sub = s.sub := rfl
@[simp] theorem State.updPorts_free : (s.updPorts f).free = s.free := rfl
@[simp] theorem State.updPorts_regs : (s.updPorts f).regs = s.regs := rfl
@[simp] theorem State.updPorts_marks : (s.updPorts f).marks = s.marks := rfl
@[simp] theorem State.updPorts_old : (s.updPorts f).old = s.old := rfl
@[simp] theorem State.updPorts_lat : (s.updPorts f).lat = s.lat := rfl
@[simp] theorem State.updPorts_mem : (s.updPorts f).mem = s.mem := rfl
@[simp] theorem State.updPorts_chest : (s.updPorts f).chest = s.chest := rfl
@[simp] theorem State.updPorts_tb : (s.updPorts f).tb = s.tb := rfl
@[simp] theorem State.updPorts_ch : (s.updPorts f).ch = s.ch := rfl
@[simp] theorem State.updPorts_pg : (s.updPorts f).pg = s.pg := rfl
@[simp] theorem State.updPorts_nwl : (s.updPorts f).nwl = s.nwl := rfl
@[simp] theorem State.updPorts_land : (s.updPorts f).land = s.land := rfl
@[simp] theorem State.updPorts_flt : (s.updPorts f).flt = s.flt := rfl
@[simp] theorem State.updPorts_out : (s.updPorts f).out = s.out := rfl
@[simp] theorem State.updPorts_rdHost : (s.updPorts f).rdHost = s.rdHost := rfl
@[simp] theorem State.updPorts_rdSup : (s.updPorts f).rdSup = s.rdSup := rfl
@[simp] theorem State.updPorts_rdDebug : (s.updPorts f).rdDebug = s.rdDebug := rfl
@[simp] theorem State.updPorts_ring : (s.updPorts f).ring = s.ring := rfl
@[simp] theorem State.updPorts_gc : (s.updPorts f).gc = s.gc := rfl
@[simp] theorem State.updPorts_gal : (s.updPorts f).gal = s.gal := rfl
@[simp] theorem State.updPorts_txn : (s.updPorts f).txn = s.txn := rfl
@[simp] theorem State.updPorts_staged : (s.updPorts f).staged = s.staged := rfl
@[simp] theorem State.updPorts_snap : (s.updPorts f).snap = s.snap := rfl
@[simp] theorem State.updPorts_pcie : (s.updPorts f).pcie = s.pcie := rfl
@[simp] theorem State.updPorts_peer : (s.updPorts f).peer = s.peer := rfl
@[simp] theorem State.updPorts_eng : (s.updPorts f).eng = s.eng := rfl
@[simp] theorem State.updPorts_go : (s.updPorts f).go = s.go := rfl
@[simp] theorem State.updPorts_pram : (s.updPorts f).pram = s.pram := rfl
@[simp] theorem State.updPorts_pramLast : (s.updPorts f).pramLast = s.pramLast := rfl
@[simp] theorem State.updPorts_lane : (s.updPorts f).lane = s.lane := rfl
@[simp] theorem State.updPorts_patch : (s.updPorts f).patch = s.patch := rfl
@[simp] theorem State.updPorts_vest : (s.updPorts f).vest = s.vest := rfl
@[simp] theorem State.updPorts_bg : (s.updPorts f).bg = s.bg := rfl
@[simp] theorem State.updPorts_chestCtl : (s.updPorts f).chestCtl = s.chestCtl := rfl
@[simp] theorem State.updPorts_power : (s.updPorts f).power = s.power := rfl
@[simp] theorem State.updPorts_rd (j : Nat) : (s.updPorts f).rd j = s.rd j := rfl
@[simp] theorem State.updPorts_fl (j lo len : Nat) : (s.updPorts f).fl j lo len = s.fl j lo len := rfl
@[simp] theorem State.updPorts_bt (j q : Nat) : (s.updPorts f).bt j q = s.bt j q := rfl
@[simp] theorem State.updPorts_byte (j : Nat) : (s.updPorts f).byte j = s.byte j := rfl
@[simp] theorem State.updPorts_memWord (j : Nat) : (s.updPorts f).memWord j = s.memWord j := rfl
@[simp] theorem State.updPorts_chestByte (j : Nat) : (s.updPorts f).chestByte j = s.chestByte j := rfl
@[simp] theorem State.updPorts_lat_ (c : Agent) (j : Nat) : (s.updPorts f).lat? c j = s.lat? c j := rfl
@[simp] theorem State.updPorts_bank (g : Fin 8) (l : Fin 4) : (s.updPorts f).bank g l = s.bank g l := rfl
@[simp] theorem State.updPorts_near : (s.updPorts f).near = s.near := rfl
@[simp] theorem State.updPorts_now : (s.updPorts f).now = s.now := rfl
@[simp] theorem State.updPorts_was (j : Nat) : (s.updPorts f).was j = s.was j := rfl
@[simp] theorem State.updPorts_fofs : (s.updPorts f).fofs = s.fofs := rfl
@[simp] theorem State.updPorts_tbclk : (s.updPorts f).tbclk = s.tbclk := rfl
@[simp] theorem State.updPorts_samples (j : Nat) : (s.updPorts f).samples j = s.samples j := rfl
@[simp] theorem State.updPorts_rec_ (j : Nat) : (s.updPorts f).rec? j = s.rec? j := rfl
end updPortsFields

section updPeerFields
variable (f : Peer → Peer)
@[simp] theorem State.updPeer_pending : (s.updPeer f).pending = s.pending := rfl
@[simp] theorem State.updPeer_agenda : (s.updPeer f).agenda = s.agenda := rfl
@[simp] theorem State.updPeer_later : (s.updPeer f).later = s.later := rfl
@[simp] theorem State.updPeer_ticks : (s.updPeer f).ticks = s.ticks := rfl
@[simp] theorem State.updPeer_phase : (s.updPeer f).phase = s.phase := rfl
@[simp] theorem State.updPeer_sub : (s.updPeer f).sub = s.sub := rfl
@[simp] theorem State.updPeer_free : (s.updPeer f).free = s.free := rfl
@[simp] theorem State.updPeer_regs : (s.updPeer f).regs = s.regs := rfl
@[simp] theorem State.updPeer_marks : (s.updPeer f).marks = s.marks := rfl
@[simp] theorem State.updPeer_old : (s.updPeer f).old = s.old := rfl
@[simp] theorem State.updPeer_lat : (s.updPeer f).lat = s.lat := rfl
@[simp] theorem State.updPeer_mem : (s.updPeer f).mem = s.mem := rfl
@[simp] theorem State.updPeer_chest : (s.updPeer f).chest = s.chest := rfl
@[simp] theorem State.updPeer_tb : (s.updPeer f).tb = s.tb := rfl
@[simp] theorem State.updPeer_ch : (s.updPeer f).ch = s.ch := rfl
@[simp] theorem State.updPeer_pg : (s.updPeer f).pg = s.pg := rfl
@[simp] theorem State.updPeer_nwl : (s.updPeer f).nwl = s.nwl := rfl
@[simp] theorem State.updPeer_land : (s.updPeer f).land = s.land := rfl
@[simp] theorem State.updPeer_flt : (s.updPeer f).flt = s.flt := rfl
@[simp] theorem State.updPeer_out : (s.updPeer f).out = s.out := rfl
@[simp] theorem State.updPeer_rdHost : (s.updPeer f).rdHost = s.rdHost := rfl
@[simp] theorem State.updPeer_rdSup : (s.updPeer f).rdSup = s.rdSup := rfl
@[simp] theorem State.updPeer_rdDebug : (s.updPeer f).rdDebug = s.rdDebug := rfl
@[simp] theorem State.updPeer_ring : (s.updPeer f).ring = s.ring := rfl
@[simp] theorem State.updPeer_gc : (s.updPeer f).gc = s.gc := rfl
@[simp] theorem State.updPeer_gal : (s.updPeer f).gal = s.gal := rfl
@[simp] theorem State.updPeer_txn : (s.updPeer f).txn = s.txn := rfl
@[simp] theorem State.updPeer_staged : (s.updPeer f).staged = s.staged := rfl
@[simp] theorem State.updPeer_snap : (s.updPeer f).snap = s.snap := rfl
@[simp] theorem State.updPeer_pcie : (s.updPeer f).pcie = s.pcie := rfl
@[simp] theorem State.updPeer_eng : (s.updPeer f).eng = s.eng := rfl
@[simp] theorem State.updPeer_go : (s.updPeer f).go = s.go := rfl
@[simp] theorem State.updPeer_pram : (s.updPeer f).pram = s.pram := rfl
@[simp] theorem State.updPeer_pramLast : (s.updPeer f).pramLast = s.pramLast := rfl
@[simp] theorem State.updPeer_lane : (s.updPeer f).lane = s.lane := rfl
@[simp] theorem State.updPeer_patch : (s.updPeer f).patch = s.patch := rfl
@[simp] theorem State.updPeer_vest : (s.updPeer f).vest = s.vest := rfl
@[simp] theorem State.updPeer_bg : (s.updPeer f).bg = s.bg := rfl
@[simp] theorem State.updPeer_chestCtl : (s.updPeer f).chestCtl = s.chestCtl := rfl
@[simp] theorem State.updPeer_power : (s.updPeer f).power = s.power := rfl
@[simp] theorem State.updPeer_ports : (s.updPeer f).ports = s.ports := rfl
@[simp] theorem State.updPeer_rd (j : Nat) : (s.updPeer f).rd j = s.rd j := rfl
@[simp] theorem State.updPeer_fl (j lo len : Nat) : (s.updPeer f).fl j lo len = s.fl j lo len := rfl
@[simp] theorem State.updPeer_bt (j q : Nat) : (s.updPeer f).bt j q = s.bt j q := rfl
@[simp] theorem State.updPeer_byte (j : Nat) : (s.updPeer f).byte j = s.byte j := rfl
@[simp] theorem State.updPeer_memWord (j : Nat) : (s.updPeer f).memWord j = s.memWord j := rfl
@[simp] theorem State.updPeer_chestByte (j : Nat) : (s.updPeer f).chestByte j = s.chestByte j := rfl
@[simp] theorem State.updPeer_lat_ (c : Agent) (j : Nat) : (s.updPeer f).lat? c j = s.lat? c j := rfl
@[simp] theorem State.updPeer_bank (g : Fin 8) (l : Fin 4) : (s.updPeer f).bank g l = s.bank g l := rfl
@[simp] theorem State.updPeer_near : (s.updPeer f).near = s.near := rfl
@[simp] theorem State.updPeer_now : (s.updPeer f).now = s.now := rfl
@[simp] theorem State.updPeer_was (j : Nat) : (s.updPeer f).was j = s.was j := rfl
@[simp] theorem State.updPeer_fofs : (s.updPeer f).fofs = s.fofs := rfl
@[simp] theorem State.updPeer_tbclk : (s.updPeer f).tbclk = s.tbclk := rfl
@[simp] theorem State.updPeer_samples (j : Nat) : (s.updPeer f).samples j = s.samples j := rfl
@[simp] theorem State.updPeer_rec_ (j : Nat) : (s.updPeer f).rec? j = s.rec? j := rfl
end updPeerFields

section updPatchFields
variable (f : Patch → Patch)
@[simp] theorem State.updPatch_pending : (s.updPatch f).pending = s.pending := rfl
@[simp] theorem State.updPatch_agenda : (s.updPatch f).agenda = s.agenda := rfl
@[simp] theorem State.updPatch_later : (s.updPatch f).later = s.later := rfl
@[simp] theorem State.updPatch_ticks : (s.updPatch f).ticks = s.ticks := rfl
@[simp] theorem State.updPatch_phase : (s.updPatch f).phase = s.phase := rfl
@[simp] theorem State.updPatch_sub : (s.updPatch f).sub = s.sub := rfl
@[simp] theorem State.updPatch_free : (s.updPatch f).free = s.free := rfl
@[simp] theorem State.updPatch_regs : (s.updPatch f).regs = s.regs := rfl
@[simp] theorem State.updPatch_marks : (s.updPatch f).marks = s.marks := rfl
@[simp] theorem State.updPatch_old : (s.updPatch f).old = s.old := rfl
@[simp] theorem State.updPatch_lat : (s.updPatch f).lat = s.lat := rfl
@[simp] theorem State.updPatch_mem : (s.updPatch f).mem = s.mem := rfl
@[simp] theorem State.updPatch_chest : (s.updPatch f).chest = s.chest := rfl
@[simp] theorem State.updPatch_tb : (s.updPatch f).tb = s.tb := rfl
@[simp] theorem State.updPatch_ch : (s.updPatch f).ch = s.ch := rfl
@[simp] theorem State.updPatch_pg : (s.updPatch f).pg = s.pg := rfl
@[simp] theorem State.updPatch_nwl : (s.updPatch f).nwl = s.nwl := rfl
@[simp] theorem State.updPatch_land : (s.updPatch f).land = s.land := rfl
@[simp] theorem State.updPatch_flt : (s.updPatch f).flt = s.flt := rfl
@[simp] theorem State.updPatch_out : (s.updPatch f).out = s.out := rfl
@[simp] theorem State.updPatch_rdHost : (s.updPatch f).rdHost = s.rdHost := rfl
@[simp] theorem State.updPatch_rdSup : (s.updPatch f).rdSup = s.rdSup := rfl
@[simp] theorem State.updPatch_rdDebug : (s.updPatch f).rdDebug = s.rdDebug := rfl
@[simp] theorem State.updPatch_ring : (s.updPatch f).ring = s.ring := rfl
@[simp] theorem State.updPatch_gc : (s.updPatch f).gc = s.gc := rfl
@[simp] theorem State.updPatch_gal : (s.updPatch f).gal = s.gal := rfl
@[simp] theorem State.updPatch_txn : (s.updPatch f).txn = s.txn := rfl
@[simp] theorem State.updPatch_staged : (s.updPatch f).staged = s.staged := rfl
@[simp] theorem State.updPatch_snap : (s.updPatch f).snap = s.snap := rfl
@[simp] theorem State.updPatch_pcie : (s.updPatch f).pcie = s.pcie := rfl
@[simp] theorem State.updPatch_peer : (s.updPatch f).peer = s.peer := rfl
@[simp] theorem State.updPatch_eng : (s.updPatch f).eng = s.eng := rfl
@[simp] theorem State.updPatch_go : (s.updPatch f).go = s.go := rfl
@[simp] theorem State.updPatch_pram : (s.updPatch f).pram = s.pram := rfl
@[simp] theorem State.updPatch_pramLast : (s.updPatch f).pramLast = s.pramLast := rfl
@[simp] theorem State.updPatch_lane : (s.updPatch f).lane = s.lane := rfl
@[simp] theorem State.updPatch_vest : (s.updPatch f).vest = s.vest := rfl
@[simp] theorem State.updPatch_bg : (s.updPatch f).bg = s.bg := rfl
@[simp] theorem State.updPatch_chestCtl : (s.updPatch f).chestCtl = s.chestCtl := rfl
@[simp] theorem State.updPatch_power : (s.updPatch f).power = s.power := rfl
@[simp] theorem State.updPatch_ports : (s.updPatch f).ports = s.ports := rfl
@[simp] theorem State.updPatch_rd (j : Nat) : (s.updPatch f).rd j = s.rd j := rfl
@[simp] theorem State.updPatch_fl (j lo len : Nat) : (s.updPatch f).fl j lo len = s.fl j lo len := rfl
@[simp] theorem State.updPatch_bt (j q : Nat) : (s.updPatch f).bt j q = s.bt j q := rfl
@[simp] theorem State.updPatch_byte (j : Nat) : (s.updPatch f).byte j = s.byte j := rfl
@[simp] theorem State.updPatch_memWord (j : Nat) : (s.updPatch f).memWord j = s.memWord j := rfl
@[simp] theorem State.updPatch_chestByte (j : Nat) : (s.updPatch f).chestByte j = s.chestByte j := rfl
@[simp] theorem State.updPatch_lat_ (c : Agent) (j : Nat) : (s.updPatch f).lat? c j = s.lat? c j := rfl
@[simp] theorem State.updPatch_bank (g : Fin 8) (l : Fin 4) : (s.updPatch f).bank g l = s.bank g l := rfl
@[simp] theorem State.updPatch_near : (s.updPatch f).near = s.near := rfl
@[simp] theorem State.updPatch_now : (s.updPatch f).now = s.now := rfl
@[simp] theorem State.updPatch_was (j : Nat) : (s.updPatch f).was j = s.was j := rfl
@[simp] theorem State.updPatch_fofs : (s.updPatch f).fofs = s.fofs := rfl
@[simp] theorem State.updPatch_tbclk : (s.updPatch f).tbclk = s.tbclk := rfl
@[simp] theorem State.updPatch_samples (j : Nat) : (s.updPatch f).samples j = s.samples j := rfl
@[simp] theorem State.updPatch_rec_ (j : Nat) : (s.updPatch f).rec? j = s.rec? j := rfl
end updPatchFields

section updPcieFields
variable (f : Pcie → Pcie)
@[simp] theorem State.updPcie_pending : (s.updPcie f).pending = s.pending := rfl
@[simp] theorem State.updPcie_agenda : (s.updPcie f).agenda = s.agenda := rfl
@[simp] theorem State.updPcie_later : (s.updPcie f).later = s.later := rfl
@[simp] theorem State.updPcie_ticks : (s.updPcie f).ticks = s.ticks := rfl
@[simp] theorem State.updPcie_phase : (s.updPcie f).phase = s.phase := rfl
@[simp] theorem State.updPcie_sub : (s.updPcie f).sub = s.sub := rfl
@[simp] theorem State.updPcie_free : (s.updPcie f).free = s.free := rfl
@[simp] theorem State.updPcie_regs : (s.updPcie f).regs = s.regs := rfl
@[simp] theorem State.updPcie_marks : (s.updPcie f).marks = s.marks := rfl
@[simp] theorem State.updPcie_old : (s.updPcie f).old = s.old := rfl
@[simp] theorem State.updPcie_lat : (s.updPcie f).lat = s.lat := rfl
@[simp] theorem State.updPcie_mem : (s.updPcie f).mem = s.mem := rfl
@[simp] theorem State.updPcie_chest : (s.updPcie f).chest = s.chest := rfl
@[simp] theorem State.updPcie_tb : (s.updPcie f).tb = s.tb := rfl
@[simp] theorem State.updPcie_ch : (s.updPcie f).ch = s.ch := rfl
@[simp] theorem State.updPcie_pg : (s.updPcie f).pg = s.pg := rfl
@[simp] theorem State.updPcie_nwl : (s.updPcie f).nwl = s.nwl := rfl
@[simp] theorem State.updPcie_land : (s.updPcie f).land = s.land := rfl
@[simp] theorem State.updPcie_flt : (s.updPcie f).flt = s.flt := rfl
@[simp] theorem State.updPcie_out : (s.updPcie f).out = s.out := rfl
@[simp] theorem State.updPcie_rdHost : (s.updPcie f).rdHost = s.rdHost := rfl
@[simp] theorem State.updPcie_rdSup : (s.updPcie f).rdSup = s.rdSup := rfl
@[simp] theorem State.updPcie_rdDebug : (s.updPcie f).rdDebug = s.rdDebug := rfl
@[simp] theorem State.updPcie_ring : (s.updPcie f).ring = s.ring := rfl
@[simp] theorem State.updPcie_gc : (s.updPcie f).gc = s.gc := rfl
@[simp] theorem State.updPcie_gal : (s.updPcie f).gal = s.gal := rfl
@[simp] theorem State.updPcie_txn : (s.updPcie f).txn = s.txn := rfl
@[simp] theorem State.updPcie_staged : (s.updPcie f).staged = s.staged := rfl
@[simp] theorem State.updPcie_snap : (s.updPcie f).snap = s.snap := rfl
@[simp] theorem State.updPcie_peer : (s.updPcie f).peer = s.peer := rfl
@[simp] theorem State.updPcie_eng : (s.updPcie f).eng = s.eng := rfl
@[simp] theorem State.updPcie_go : (s.updPcie f).go = s.go := rfl
@[simp] theorem State.updPcie_pram : (s.updPcie f).pram = s.pram := rfl
@[simp] theorem State.updPcie_pramLast : (s.updPcie f).pramLast = s.pramLast := rfl
@[simp] theorem State.updPcie_lane : (s.updPcie f).lane = s.lane := rfl
@[simp] theorem State.updPcie_patch : (s.updPcie f).patch = s.patch := rfl
@[simp] theorem State.updPcie_vest : (s.updPcie f).vest = s.vest := rfl
@[simp] theorem State.updPcie_bg : (s.updPcie f).bg = s.bg := rfl
@[simp] theorem State.updPcie_chestCtl : (s.updPcie f).chestCtl = s.chestCtl := rfl
@[simp] theorem State.updPcie_power : (s.updPcie f).power = s.power := rfl
@[simp] theorem State.updPcie_ports : (s.updPcie f).ports = s.ports := rfl
@[simp] theorem State.updPcie_rd (j : Nat) : (s.updPcie f).rd j = s.rd j := rfl
@[simp] theorem State.updPcie_fl (j lo len : Nat) : (s.updPcie f).fl j lo len = s.fl j lo len := rfl
@[simp] theorem State.updPcie_bt (j q : Nat) : (s.updPcie f).bt j q = s.bt j q := rfl
@[simp] theorem State.updPcie_byte (j : Nat) : (s.updPcie f).byte j = s.byte j := rfl
@[simp] theorem State.updPcie_memWord (j : Nat) : (s.updPcie f).memWord j = s.memWord j := rfl
@[simp] theorem State.updPcie_chestByte (j : Nat) : (s.updPcie f).chestByte j = s.chestByte j := rfl
@[simp] theorem State.updPcie_lat_ (c : Agent) (j : Nat) : (s.updPcie f).lat? c j = s.lat? c j := rfl
@[simp] theorem State.updPcie_bank (g : Fin 8) (l : Fin 4) : (s.updPcie f).bank g l = s.bank g l := rfl
@[simp] theorem State.updPcie_near : (s.updPcie f).near = s.near := rfl
@[simp] theorem State.updPcie_now : (s.updPcie f).now = s.now := rfl
@[simp] theorem State.updPcie_was (j : Nat) : (s.updPcie f).was j = s.was j := rfl
@[simp] theorem State.updPcie_fofs : (s.updPcie f).fofs = s.fofs := rfl
@[simp] theorem State.updPcie_tbclk : (s.updPcie f).tbclk = s.tbclk := rfl
@[simp] theorem State.updPcie_samples (j : Nat) : (s.updPcie f).samples j = s.samples j := rfl
@[simp] theorem State.updPcie_rec_ (j : Nat) : (s.updPcie f).rec? j = s.rec? j := rfl
end updPcieFields

section wrFields
variable (o : Nat) (v : Word)
@[simp] theorem State.wr_pending : (s.wr o v).pending = s.pending := rfl
@[simp] theorem State.wr_agenda : (s.wr o v).agenda = s.agenda := rfl
@[simp] theorem State.wr_later : (s.wr o v).later = s.later := rfl
@[simp] theorem State.wr_ticks : (s.wr o v).ticks = s.ticks := rfl
@[simp] theorem State.wr_phase : (s.wr o v).phase = s.phase := rfl
@[simp] theorem State.wr_sub : (s.wr o v).sub = s.sub := rfl
@[simp] theorem State.wr_free : (s.wr o v).free = s.free := rfl
@[simp] theorem State.wr_marks : (s.wr o v).marks = s.marks := rfl
@[simp] theorem State.wr_old : (s.wr o v).old = s.old := rfl
@[simp] theorem State.wr_lat : (s.wr o v).lat = s.lat := rfl
@[simp] theorem State.wr_mem : (s.wr o v).mem = s.mem := rfl
@[simp] theorem State.wr_chest : (s.wr o v).chest = s.chest := rfl
@[simp] theorem State.wr_tb : (s.wr o v).tb = s.tb := rfl
@[simp] theorem State.wr_ch : (s.wr o v).ch = s.ch := rfl
@[simp] theorem State.wr_pg : (s.wr o v).pg = s.pg := rfl
@[simp] theorem State.wr_nwl : (s.wr o v).nwl = s.nwl := rfl
@[simp] theorem State.wr_land : (s.wr o v).land = s.land := rfl
@[simp] theorem State.wr_flt : (s.wr o v).flt = s.flt := rfl
@[simp] theorem State.wr_out : (s.wr o v).out = s.out := rfl
@[simp] theorem State.wr_rdHost : (s.wr o v).rdHost = s.rdHost := rfl
@[simp] theorem State.wr_rdSup : (s.wr o v).rdSup = s.rdSup := rfl
@[simp] theorem State.wr_rdDebug : (s.wr o v).rdDebug = s.rdDebug := rfl
@[simp] theorem State.wr_ring : (s.wr o v).ring = s.ring := rfl
@[simp] theorem State.wr_gc : (s.wr o v).gc = s.gc := rfl
@[simp] theorem State.wr_gal : (s.wr o v).gal = s.gal := rfl
@[simp] theorem State.wr_txn : (s.wr o v).txn = s.txn := rfl
@[simp] theorem State.wr_staged : (s.wr o v).staged = s.staged := rfl
@[simp] theorem State.wr_snap : (s.wr o v).snap = s.snap := rfl
@[simp] theorem State.wr_pcie : (s.wr o v).pcie = s.pcie := rfl
@[simp] theorem State.wr_peer : (s.wr o v).peer = s.peer := rfl
@[simp] theorem State.wr_eng : (s.wr o v).eng = s.eng := rfl
@[simp] theorem State.wr_go : (s.wr o v).go = s.go := rfl
@[simp] theorem State.wr_pram : (s.wr o v).pram = s.pram := rfl
@[simp] theorem State.wr_pramLast : (s.wr o v).pramLast = s.pramLast := rfl
@[simp] theorem State.wr_lane : (s.wr o v).lane = s.lane := rfl
@[simp] theorem State.wr_patch : (s.wr o v).patch = s.patch := rfl
@[simp] theorem State.wr_vest : (s.wr o v).vest = s.vest := rfl
@[simp] theorem State.wr_bg : (s.wr o v).bg = s.bg := rfl
@[simp] theorem State.wr_chestCtl : (s.wr o v).chestCtl = s.chestCtl := rfl
@[simp] theorem State.wr_power : (s.wr o v).power = s.power := rfl
@[simp] theorem State.wr_ports : (s.wr o v).ports = s.ports := rfl
@[simp] theorem State.wr_byte (j : Nat) : (s.wr o v).byte j = s.byte j := rfl
@[simp] theorem State.wr_memWord (j : Nat) : (s.wr o v).memWord j = s.memWord j := rfl
@[simp] theorem State.wr_chestByte (j : Nat) : (s.wr o v).chestByte j = s.chestByte j := rfl
@[simp] theorem State.wr_lat_ (c : Agent) (j : Nat) : (s.wr o v).lat? c j = s.lat? c j := rfl
@[simp] theorem State.wr_bank (g : Fin 8) (l : Fin 4) : (s.wr o v).bank g l = s.bank g l := rfl
@[simp] theorem State.wr_near : (s.wr o v).near = s.near := rfl
@[simp] theorem State.wr_now : (s.wr o v).now = s.now := rfl
@[simp] theorem State.wr_rec_ (j : Nat) : (s.wr o v).rec? j = s.rec? j := rfl
end wrFields

section updFields
variable (o : Nat) (f : Word → Word)
@[simp] theorem State.upd_pending : (s.upd o f).pending = s.pending := rfl
@[simp] theorem State.upd_agenda : (s.upd o f).agenda = s.agenda := rfl
@[simp] theorem State.upd_later : (s.upd o f).later = s.later := rfl
@[simp] theorem State.upd_ticks : (s.upd o f).ticks = s.ticks := rfl
@[simp] theorem State.upd_phase : (s.upd o f).phase = s.phase := rfl
@[simp] theorem State.upd_sub : (s.upd o f).sub = s.sub := rfl
@[simp] theorem State.upd_free : (s.upd o f).free = s.free := rfl
@[simp] theorem State.upd_marks : (s.upd o f).marks = s.marks := rfl
@[simp] theorem State.upd_old : (s.upd o f).old = s.old := rfl
@[simp] theorem State.upd_lat : (s.upd o f).lat = s.lat := rfl
@[simp] theorem State.upd_mem : (s.upd o f).mem = s.mem := rfl
@[simp] theorem State.upd_chest : (s.upd o f).chest = s.chest := rfl
@[simp] theorem State.upd_tb : (s.upd o f).tb = s.tb := rfl
@[simp] theorem State.upd_ch : (s.upd o f).ch = s.ch := rfl
@[simp] theorem State.upd_pg : (s.upd o f).pg = s.pg := rfl
@[simp] theorem State.upd_nwl : (s.upd o f).nwl = s.nwl := rfl
@[simp] theorem State.upd_land : (s.upd o f).land = s.land := rfl
@[simp] theorem State.upd_flt : (s.upd o f).flt = s.flt := rfl
@[simp] theorem State.upd_out : (s.upd o f).out = s.out := rfl
@[simp] theorem State.upd_rdHost : (s.upd o f).rdHost = s.rdHost := rfl
@[simp] theorem State.upd_rdSup : (s.upd o f).rdSup = s.rdSup := rfl
@[simp] theorem State.upd_rdDebug : (s.upd o f).rdDebug = s.rdDebug := rfl
@[simp] theorem State.upd_ring : (s.upd o f).ring = s.ring := rfl
@[simp] theorem State.upd_gc : (s.upd o f).gc = s.gc := rfl
@[simp] theorem State.upd_gal : (s.upd o f).gal = s.gal := rfl
@[simp] theorem State.upd_txn : (s.upd o f).txn = s.txn := rfl
@[simp] theorem State.upd_staged : (s.upd o f).staged = s.staged := rfl
@[simp] theorem State.upd_snap : (s.upd o f).snap = s.snap := rfl
@[simp] theorem State.upd_pcie : (s.upd o f).pcie = s.pcie := rfl
@[simp] theorem State.upd_peer : (s.upd o f).peer = s.peer := rfl
@[simp] theorem State.upd_eng : (s.upd o f).eng = s.eng := rfl
@[simp] theorem State.upd_go : (s.upd o f).go = s.go := rfl
@[simp] theorem State.upd_pram : (s.upd o f).pram = s.pram := rfl
@[simp] theorem State.upd_pramLast : (s.upd o f).pramLast = s.pramLast := rfl
@[simp] theorem State.upd_lane : (s.upd o f).lane = s.lane := rfl
@[simp] theorem State.upd_patch : (s.upd o f).patch = s.patch := rfl
@[simp] theorem State.upd_vest : (s.upd o f).vest = s.vest := rfl
@[simp] theorem State.upd_bg : (s.upd o f).bg = s.bg := rfl
@[simp] theorem State.upd_chestCtl : (s.upd o f).chestCtl = s.chestCtl := rfl
@[simp] theorem State.upd_power : (s.upd o f).power = s.power := rfl
@[simp] theorem State.upd_ports : (s.upd o f).ports = s.ports := rfl
@[simp] theorem State.upd_byte (j : Nat) : (s.upd o f).byte j = s.byte j := rfl
@[simp] theorem State.upd_memWord (j : Nat) : (s.upd o f).memWord j = s.memWord j := rfl
@[simp] theorem State.upd_chestByte (j : Nat) : (s.upd o f).chestByte j = s.chestByte j := rfl
@[simp] theorem State.upd_lat_ (c : Agent) (j : Nat) : (s.upd o f).lat? c j = s.lat? c j := rfl
@[simp] theorem State.upd_bank (g : Fin 8) (l : Fin 4) : (s.upd o f).bank g l = s.bank g l := rfl
@[simp] theorem State.upd_near : (s.upd o f).near = s.near := rfl
@[simp] theorem State.upd_now : (s.upd o f).now = s.now := rfl
@[simp] theorem State.upd_rec_ (j : Nat) : (s.upd o f).rec? j = s.rec? j := rfl
end updFields

section setFlFields
variable (o l n v : Nat)
@[simp] theorem State.setFl_pending : (s.setFl o l n v).pending = s.pending := rfl
@[simp] theorem State.setFl_agenda : (s.setFl o l n v).agenda = s.agenda := rfl
@[simp] theorem State.setFl_later : (s.setFl o l n v).later = s.later := rfl
@[simp] theorem State.setFl_ticks : (s.setFl o l n v).ticks = s.ticks := rfl
@[simp] theorem State.setFl_phase : (s.setFl o l n v).phase = s.phase := rfl
@[simp] theorem State.setFl_sub : (s.setFl o l n v).sub = s.sub := rfl
@[simp] theorem State.setFl_free : (s.setFl o l n v).free = s.free := rfl
@[simp] theorem State.setFl_marks : (s.setFl o l n v).marks = s.marks := rfl
@[simp] theorem State.setFl_old : (s.setFl o l n v).old = s.old := rfl
@[simp] theorem State.setFl_lat : (s.setFl o l n v).lat = s.lat := rfl
@[simp] theorem State.setFl_mem : (s.setFl o l n v).mem = s.mem := rfl
@[simp] theorem State.setFl_chest : (s.setFl o l n v).chest = s.chest := rfl
@[simp] theorem State.setFl_tb : (s.setFl o l n v).tb = s.tb := rfl
@[simp] theorem State.setFl_ch : (s.setFl o l n v).ch = s.ch := rfl
@[simp] theorem State.setFl_pg : (s.setFl o l n v).pg = s.pg := rfl
@[simp] theorem State.setFl_nwl : (s.setFl o l n v).nwl = s.nwl := rfl
@[simp] theorem State.setFl_land : (s.setFl o l n v).land = s.land := rfl
@[simp] theorem State.setFl_flt : (s.setFl o l n v).flt = s.flt := rfl
@[simp] theorem State.setFl_out : (s.setFl o l n v).out = s.out := rfl
@[simp] theorem State.setFl_rdHost : (s.setFl o l n v).rdHost = s.rdHost := rfl
@[simp] theorem State.setFl_rdSup : (s.setFl o l n v).rdSup = s.rdSup := rfl
@[simp] theorem State.setFl_rdDebug : (s.setFl o l n v).rdDebug = s.rdDebug := rfl
@[simp] theorem State.setFl_ring : (s.setFl o l n v).ring = s.ring := rfl
@[simp] theorem State.setFl_gc : (s.setFl o l n v).gc = s.gc := rfl
@[simp] theorem State.setFl_gal : (s.setFl o l n v).gal = s.gal := rfl
@[simp] theorem State.setFl_txn : (s.setFl o l n v).txn = s.txn := rfl
@[simp] theorem State.setFl_staged : (s.setFl o l n v).staged = s.staged := rfl
@[simp] theorem State.setFl_snap : (s.setFl o l n v).snap = s.snap := rfl
@[simp] theorem State.setFl_pcie : (s.setFl o l n v).pcie = s.pcie := rfl
@[simp] theorem State.setFl_peer : (s.setFl o l n v).peer = s.peer := rfl
@[simp] theorem State.setFl_eng : (s.setFl o l n v).eng = s.eng := rfl
@[simp] theorem State.setFl_go : (s.setFl o l n v).go = s.go := rfl
@[simp] theorem State.setFl_pram : (s.setFl o l n v).pram = s.pram := rfl
@[simp] theorem State.setFl_pramLast : (s.setFl o l n v).pramLast = s.pramLast := rfl
@[simp] theorem State.setFl_lane : (s.setFl o l n v).lane = s.lane := rfl
@[simp] theorem State.setFl_patch : (s.setFl o l n v).patch = s.patch := rfl
@[simp] theorem State.setFl_vest : (s.setFl o l n v).vest = s.vest := rfl
@[simp] theorem State.setFl_bg : (s.setFl o l n v).bg = s.bg := rfl
@[simp] theorem State.setFl_chestCtl : (s.setFl o l n v).chestCtl = s.chestCtl := rfl
@[simp] theorem State.setFl_power : (s.setFl o l n v).power = s.power := rfl
@[simp] theorem State.setFl_ports : (s.setFl o l n v).ports = s.ports := rfl
@[simp] theorem State.setFl_byte (j : Nat) : (s.setFl o l n v).byte j = s.byte j := rfl
@[simp] theorem State.setFl_memWord (j : Nat) : (s.setFl o l n v).memWord j = s.memWord j := rfl
@[simp] theorem State.setFl_chestByte (j : Nat) : (s.setFl o l n v).chestByte j = s.chestByte j := rfl
@[simp] theorem State.setFl_lat_ (c : Agent) (j : Nat) : (s.setFl o l n v).lat? c j = s.lat? c j := rfl
@[simp] theorem State.setFl_bank (g : Fin 8) (l : Fin 4) : (s.setFl o l n v).bank g l = s.bank g l := rfl
@[simp] theorem State.setFl_near : (s.setFl o l n v).near = s.near := rfl
@[simp] theorem State.setFl_now : (s.setFl o l n v).now = s.now := rfl
@[simp] theorem State.setFl_rec_ (j : Nat) : (s.setFl o l n v).rec? j = s.rec? j := rfl
end setFlFields

section setBtFields
variable (o k : Nat) (v : Bool)
@[simp] theorem State.setBt_pending : (s.setBt o k v).pending = s.pending := rfl
@[simp] theorem State.setBt_agenda : (s.setBt o k v).agenda = s.agenda := rfl
@[simp] theorem State.setBt_later : (s.setBt o k v).later = s.later := rfl
@[simp] theorem State.setBt_ticks : (s.setBt o k v).ticks = s.ticks := rfl
@[simp] theorem State.setBt_phase : (s.setBt o k v).phase = s.phase := rfl
@[simp] theorem State.setBt_sub : (s.setBt o k v).sub = s.sub := rfl
@[simp] theorem State.setBt_free : (s.setBt o k v).free = s.free := rfl
@[simp] theorem State.setBt_marks : (s.setBt o k v).marks = s.marks := rfl
@[simp] theorem State.setBt_old : (s.setBt o k v).old = s.old := rfl
@[simp] theorem State.setBt_lat : (s.setBt o k v).lat = s.lat := rfl
@[simp] theorem State.setBt_mem : (s.setBt o k v).mem = s.mem := rfl
@[simp] theorem State.setBt_chest : (s.setBt o k v).chest = s.chest := rfl
@[simp] theorem State.setBt_tb : (s.setBt o k v).tb = s.tb := rfl
@[simp] theorem State.setBt_ch : (s.setBt o k v).ch = s.ch := rfl
@[simp] theorem State.setBt_pg : (s.setBt o k v).pg = s.pg := rfl
@[simp] theorem State.setBt_nwl : (s.setBt o k v).nwl = s.nwl := rfl
@[simp] theorem State.setBt_land : (s.setBt o k v).land = s.land := rfl
@[simp] theorem State.setBt_flt : (s.setBt o k v).flt = s.flt := rfl
@[simp] theorem State.setBt_out : (s.setBt o k v).out = s.out := rfl
@[simp] theorem State.setBt_rdHost : (s.setBt o k v).rdHost = s.rdHost := rfl
@[simp] theorem State.setBt_rdSup : (s.setBt o k v).rdSup = s.rdSup := rfl
@[simp] theorem State.setBt_rdDebug : (s.setBt o k v).rdDebug = s.rdDebug := rfl
@[simp] theorem State.setBt_ring : (s.setBt o k v).ring = s.ring := rfl
@[simp] theorem State.setBt_gc : (s.setBt o k v).gc = s.gc := rfl
@[simp] theorem State.setBt_gal : (s.setBt o k v).gal = s.gal := rfl
@[simp] theorem State.setBt_txn : (s.setBt o k v).txn = s.txn := rfl
@[simp] theorem State.setBt_staged : (s.setBt o k v).staged = s.staged := rfl
@[simp] theorem State.setBt_snap : (s.setBt o k v).snap = s.snap := rfl
@[simp] theorem State.setBt_pcie : (s.setBt o k v).pcie = s.pcie := rfl
@[simp] theorem State.setBt_peer : (s.setBt o k v).peer = s.peer := rfl
@[simp] theorem State.setBt_eng : (s.setBt o k v).eng = s.eng := rfl
@[simp] theorem State.setBt_go : (s.setBt o k v).go = s.go := rfl
@[simp] theorem State.setBt_pram : (s.setBt o k v).pram = s.pram := rfl
@[simp] theorem State.setBt_pramLast : (s.setBt o k v).pramLast = s.pramLast := rfl
@[simp] theorem State.setBt_lane : (s.setBt o k v).lane = s.lane := rfl
@[simp] theorem State.setBt_patch : (s.setBt o k v).patch = s.patch := rfl
@[simp] theorem State.setBt_vest : (s.setBt o k v).vest = s.vest := rfl
@[simp] theorem State.setBt_bg : (s.setBt o k v).bg = s.bg := rfl
@[simp] theorem State.setBt_chestCtl : (s.setBt o k v).chestCtl = s.chestCtl := rfl
@[simp] theorem State.setBt_power : (s.setBt o k v).power = s.power := rfl
@[simp] theorem State.setBt_ports : (s.setBt o k v).ports = s.ports := rfl
@[simp] theorem State.setBt_byte (j : Nat) : (s.setBt o k v).byte j = s.byte j := rfl
@[simp] theorem State.setBt_memWord (j : Nat) : (s.setBt o k v).memWord j = s.memWord j := rfl
@[simp] theorem State.setBt_chestByte (j : Nat) : (s.setBt o k v).chestByte j = s.chestByte j := rfl
@[simp] theorem State.setBt_lat_ (c : Agent) (j : Nat) : (s.setBt o k v).lat? c j = s.lat? c j := rfl
@[simp] theorem State.setBt_bank (g : Fin 8) (l : Fin 4) : (s.setBt o k v).bank g l = s.bank g l := rfl
@[simp] theorem State.setBt_near : (s.setBt o k v).near = s.near := rfl
@[simp] theorem State.setBt_now : (s.setBt o k v).now = s.now := rfl
@[simp] theorem State.setBt_rec_ (j : Nat) : (s.setBt o k v).rec? j = s.rec? j := rfl
end setBtFields

section noteFields
variable (o : Nat) (f : Word → Word)
@[simp] theorem State.note_pending : (s.note o f).pending = s.pending := rfl
@[simp] theorem State.note_agenda : (s.note o f).agenda = s.agenda := rfl
@[simp] theorem State.note_later : (s.note o f).later = s.later := rfl
@[simp] theorem State.note_ticks : (s.note o f).ticks = s.ticks := rfl
@[simp] theorem State.note_phase : (s.note o f).phase = s.phase := rfl
@[simp] theorem State.note_sub : (s.note o f).sub = s.sub := rfl
@[simp] theorem State.note_free : (s.note o f).free = s.free := rfl
@[simp] theorem State.note_old : (s.note o f).old = s.old := rfl
@[simp] theorem State.note_lat : (s.note o f).lat = s.lat := rfl
@[simp] theorem State.note_mem : (s.note o f).mem = s.mem := rfl
@[simp] theorem State.note_chest : (s.note o f).chest = s.chest := rfl
@[simp] theorem State.note_tb : (s.note o f).tb = s.tb := rfl
@[simp] theorem State.note_ch : (s.note o f).ch = s.ch := rfl
@[simp] theorem State.note_pg : (s.note o f).pg = s.pg := rfl
@[simp] theorem State.note_nwl : (s.note o f).nwl = s.nwl := rfl
@[simp] theorem State.note_land : (s.note o f).land = s.land := rfl
@[simp] theorem State.note_flt : (s.note o f).flt = s.flt := rfl
@[simp] theorem State.note_out : (s.note o f).out = s.out := rfl
@[simp] theorem State.note_rdHost : (s.note o f).rdHost = s.rdHost := rfl
@[simp] theorem State.note_rdSup : (s.note o f).rdSup = s.rdSup := rfl
@[simp] theorem State.note_rdDebug : (s.note o f).rdDebug = s.rdDebug := rfl
@[simp] theorem State.note_ring : (s.note o f).ring = s.ring := rfl
@[simp] theorem State.note_gc : (s.note o f).gc = s.gc := rfl
@[simp] theorem State.note_gal : (s.note o f).gal = s.gal := rfl
@[simp] theorem State.note_txn : (s.note o f).txn = s.txn := rfl
@[simp] theorem State.note_staged : (s.note o f).staged = s.staged := rfl
@[simp] theorem State.note_snap : (s.note o f).snap = s.snap := rfl
@[simp] theorem State.note_pcie : (s.note o f).pcie = s.pcie := rfl
@[simp] theorem State.note_peer : (s.note o f).peer = s.peer := rfl
@[simp] theorem State.note_eng : (s.note o f).eng = s.eng := rfl
@[simp] theorem State.note_go : (s.note o f).go = s.go := rfl
@[simp] theorem State.note_pram : (s.note o f).pram = s.pram := rfl
@[simp] theorem State.note_pramLast : (s.note o f).pramLast = s.pramLast := rfl
@[simp] theorem State.note_lane : (s.note o f).lane = s.lane := rfl
@[simp] theorem State.note_patch : (s.note o f).patch = s.patch := rfl
@[simp] theorem State.note_vest : (s.note o f).vest = s.vest := rfl
@[simp] theorem State.note_bg : (s.note o f).bg = s.bg := rfl
@[simp] theorem State.note_chestCtl : (s.note o f).chestCtl = s.chestCtl := rfl
@[simp] theorem State.note_power : (s.note o f).power = s.power := rfl
@[simp] theorem State.note_ports : (s.note o f).ports = s.ports := rfl
@[simp] theorem State.note_byte (j : Nat) : (s.note o f).byte j = s.byte j := rfl
@[simp] theorem State.note_memWord (j : Nat) : (s.note o f).memWord j = s.memWord j := rfl
@[simp] theorem State.note_chestByte (j : Nat) : (s.note o f).chestByte j = s.chestByte j := rfl
@[simp] theorem State.note_lat_ (c : Agent) (j : Nat) : (s.note o f).lat? c j = s.lat? c j := rfl
@[simp] theorem State.note_bank (g : Fin 8) (l : Fin 4) : (s.note o f).bank g l = s.bank g l := rfl
@[simp] theorem State.note_near : (s.note o f).near = s.near := rfl
@[simp] theorem State.note_now : (s.note o f).now = s.now := rfl
@[simp] theorem State.note_rec_ (j : Nat) : (s.note o f).rec? j = s.rec? j := rfl
end noteFields

section setEvFields
variable (o k : Nat)
@[simp] theorem State.setEv_pending : (s.setEv o k).pending = s.pending := rfl
@[simp] theorem State.setEv_agenda : (s.setEv o k).agenda = s.agenda := rfl
@[simp] theorem State.setEv_later : (s.setEv o k).later = s.later := rfl
@[simp] theorem State.setEv_ticks : (s.setEv o k).ticks = s.ticks := rfl
@[simp] theorem State.setEv_phase : (s.setEv o k).phase = s.phase := rfl
@[simp] theorem State.setEv_sub : (s.setEv o k).sub = s.sub := rfl
@[simp] theorem State.setEv_free : (s.setEv o k).free = s.free := rfl
@[simp] theorem State.setEv_old : (s.setEv o k).old = s.old := rfl
@[simp] theorem State.setEv_lat : (s.setEv o k).lat = s.lat := rfl
@[simp] theorem State.setEv_mem : (s.setEv o k).mem = s.mem := rfl
@[simp] theorem State.setEv_chest : (s.setEv o k).chest = s.chest := rfl
@[simp] theorem State.setEv_tb : (s.setEv o k).tb = s.tb := rfl
@[simp] theorem State.setEv_ch : (s.setEv o k).ch = s.ch := rfl
@[simp] theorem State.setEv_pg : (s.setEv o k).pg = s.pg := rfl
@[simp] theorem State.setEv_nwl : (s.setEv o k).nwl = s.nwl := rfl
@[simp] theorem State.setEv_land : (s.setEv o k).land = s.land := rfl
@[simp] theorem State.setEv_flt : (s.setEv o k).flt = s.flt := rfl
@[simp] theorem State.setEv_out : (s.setEv o k).out = s.out := rfl
@[simp] theorem State.setEv_rdHost : (s.setEv o k).rdHost = s.rdHost := rfl
@[simp] theorem State.setEv_rdSup : (s.setEv o k).rdSup = s.rdSup := rfl
@[simp] theorem State.setEv_rdDebug : (s.setEv o k).rdDebug = s.rdDebug := rfl
@[simp] theorem State.setEv_ring : (s.setEv o k).ring = s.ring := rfl
@[simp] theorem State.setEv_gc : (s.setEv o k).gc = s.gc := rfl
@[simp] theorem State.setEv_gal : (s.setEv o k).gal = s.gal := rfl
@[simp] theorem State.setEv_txn : (s.setEv o k).txn = s.txn := rfl
@[simp] theorem State.setEv_staged : (s.setEv o k).staged = s.staged := rfl
@[simp] theorem State.setEv_snap : (s.setEv o k).snap = s.snap := rfl
@[simp] theorem State.setEv_pcie : (s.setEv o k).pcie = s.pcie := rfl
@[simp] theorem State.setEv_peer : (s.setEv o k).peer = s.peer := rfl
@[simp] theorem State.setEv_eng : (s.setEv o k).eng = s.eng := rfl
@[simp] theorem State.setEv_go : (s.setEv o k).go = s.go := rfl
@[simp] theorem State.setEv_pram : (s.setEv o k).pram = s.pram := rfl
@[simp] theorem State.setEv_pramLast : (s.setEv o k).pramLast = s.pramLast := rfl
@[simp] theorem State.setEv_lane : (s.setEv o k).lane = s.lane := rfl
@[simp] theorem State.setEv_patch : (s.setEv o k).patch = s.patch := rfl
@[simp] theorem State.setEv_vest : (s.setEv o k).vest = s.vest := rfl
@[simp] theorem State.setEv_bg : (s.setEv o k).bg = s.bg := rfl
@[simp] theorem State.setEv_chestCtl : (s.setEv o k).chestCtl = s.chestCtl := rfl
@[simp] theorem State.setEv_power : (s.setEv o k).power = s.power := rfl
@[simp] theorem State.setEv_ports : (s.setEv o k).ports = s.ports := rfl
@[simp] theorem State.setEv_byte (j : Nat) : (s.setEv o k).byte j = s.byte j := rfl
@[simp] theorem State.setEv_memWord (j : Nat) : (s.setEv o k).memWord j = s.memWord j := rfl
@[simp] theorem State.setEv_chestByte (j : Nat) : (s.setEv o k).chestByte j = s.chestByte j := rfl
@[simp] theorem State.setEv_lat_ (c : Agent) (j : Nat) : (s.setEv o k).lat? c j = s.lat? c j := rfl
@[simp] theorem State.setEv_bank (g : Fin 8) (l : Fin 4) : (s.setEv o k).bank g l = s.bank g l := rfl
@[simp] theorem State.setEv_near : (s.setEv o k).near = s.near := rfl
@[simp] theorem State.setEv_now : (s.setEv o k).now = s.now := rfl
@[simp] theorem State.setEv_rec_ (j : Nat) : (s.setEv o k).rec? j = s.rec? j := rfl
end setEvFields

section satFlFields
variable (o l n : Nat)
@[simp] theorem State.satFl_pending : (s.satFl o l n).pending = s.pending := rfl
@[simp] theorem State.satFl_agenda : (s.satFl o l n).agenda = s.agenda := rfl
@[simp] theorem State.satFl_later : (s.satFl o l n).later = s.later := rfl
@[simp] theorem State.satFl_ticks : (s.satFl o l n).ticks = s.ticks := rfl
@[simp] theorem State.satFl_phase : (s.satFl o l n).phase = s.phase := rfl
@[simp] theorem State.satFl_sub : (s.satFl o l n).sub = s.sub := rfl
@[simp] theorem State.satFl_free : (s.satFl o l n).free = s.free := rfl
@[simp] theorem State.satFl_old : (s.satFl o l n).old = s.old := rfl
@[simp] theorem State.satFl_lat : (s.satFl o l n).lat = s.lat := rfl
@[simp] theorem State.satFl_mem : (s.satFl o l n).mem = s.mem := rfl
@[simp] theorem State.satFl_chest : (s.satFl o l n).chest = s.chest := rfl
@[simp] theorem State.satFl_tb : (s.satFl o l n).tb = s.tb := rfl
@[simp] theorem State.satFl_ch : (s.satFl o l n).ch = s.ch := rfl
@[simp] theorem State.satFl_pg : (s.satFl o l n).pg = s.pg := rfl
@[simp] theorem State.satFl_nwl : (s.satFl o l n).nwl = s.nwl := rfl
@[simp] theorem State.satFl_land : (s.satFl o l n).land = s.land := rfl
@[simp] theorem State.satFl_flt : (s.satFl o l n).flt = s.flt := rfl
@[simp] theorem State.satFl_out : (s.satFl o l n).out = s.out := rfl
@[simp] theorem State.satFl_rdHost : (s.satFl o l n).rdHost = s.rdHost := rfl
@[simp] theorem State.satFl_rdSup : (s.satFl o l n).rdSup = s.rdSup := rfl
@[simp] theorem State.satFl_rdDebug : (s.satFl o l n).rdDebug = s.rdDebug := rfl
@[simp] theorem State.satFl_ring : (s.satFl o l n).ring = s.ring := rfl
@[simp] theorem State.satFl_gc : (s.satFl o l n).gc = s.gc := rfl
@[simp] theorem State.satFl_gal : (s.satFl o l n).gal = s.gal := rfl
@[simp] theorem State.satFl_txn : (s.satFl o l n).txn = s.txn := rfl
@[simp] theorem State.satFl_staged : (s.satFl o l n).staged = s.staged := rfl
@[simp] theorem State.satFl_snap : (s.satFl o l n).snap = s.snap := rfl
@[simp] theorem State.satFl_pcie : (s.satFl o l n).pcie = s.pcie := rfl
@[simp] theorem State.satFl_peer : (s.satFl o l n).peer = s.peer := rfl
@[simp] theorem State.satFl_eng : (s.satFl o l n).eng = s.eng := rfl
@[simp] theorem State.satFl_go : (s.satFl o l n).go = s.go := rfl
@[simp] theorem State.satFl_pram : (s.satFl o l n).pram = s.pram := rfl
@[simp] theorem State.satFl_pramLast : (s.satFl o l n).pramLast = s.pramLast := rfl
@[simp] theorem State.satFl_lane : (s.satFl o l n).lane = s.lane := rfl
@[simp] theorem State.satFl_patch : (s.satFl o l n).patch = s.patch := rfl
@[simp] theorem State.satFl_vest : (s.satFl o l n).vest = s.vest := rfl
@[simp] theorem State.satFl_bg : (s.satFl o l n).bg = s.bg := rfl
@[simp] theorem State.satFl_chestCtl : (s.satFl o l n).chestCtl = s.chestCtl := rfl
@[simp] theorem State.satFl_power : (s.satFl o l n).power = s.power := rfl
@[simp] theorem State.satFl_ports : (s.satFl o l n).ports = s.ports := rfl
@[simp] theorem State.satFl_byte (j : Nat) : (s.satFl o l n).byte j = s.byte j := rfl
@[simp] theorem State.satFl_memWord (j : Nat) : (s.satFl o l n).memWord j = s.memWord j := rfl
@[simp] theorem State.satFl_chestByte (j : Nat) : (s.satFl o l n).chestByte j = s.chestByte j := rfl
@[simp] theorem State.satFl_lat_ (c : Agent) (j : Nat) : (s.satFl o l n).lat? c j = s.lat? c j := rfl
@[simp] theorem State.satFl_bank (g : Fin 8) (l : Fin 4) : (s.satFl o l n).bank g l = s.bank g l := rfl
@[simp] theorem State.satFl_near : (s.satFl o l n).near = s.near := rfl
@[simp] theorem State.satFl_now : (s.satFl o l n).now = s.now := rfl
@[simp] theorem State.satFl_rec_ (j : Nat) : (s.satFl o l n).rec? j = s.rec? j := rfl
end satFlFields

section setFltPendFields
variable (k : Nat) (v : Bool)
@[simp] theorem State.setFltPend_pending : (s.setFltPend k v).pending = s.pending := rfl
@[simp] theorem State.setFltPend_agenda : (s.setFltPend k v).agenda = s.agenda := rfl
@[simp] theorem State.setFltPend_later : (s.setFltPend k v).later = s.later := rfl
@[simp] theorem State.setFltPend_ticks : (s.setFltPend k v).ticks = s.ticks := rfl
@[simp] theorem State.setFltPend_phase : (s.setFltPend k v).phase = s.phase := rfl
@[simp] theorem State.setFltPend_sub : (s.setFltPend k v).sub = s.sub := rfl
@[simp] theorem State.setFltPend_free : (s.setFltPend k v).free = s.free := rfl
@[simp] theorem State.setFltPend_marks : (s.setFltPend k v).marks = s.marks := rfl
@[simp] theorem State.setFltPend_old : (s.setFltPend k v).old = s.old := rfl
@[simp] theorem State.setFltPend_lat : (s.setFltPend k v).lat = s.lat := rfl
@[simp] theorem State.setFltPend_mem : (s.setFltPend k v).mem = s.mem := rfl
@[simp] theorem State.setFltPend_chest : (s.setFltPend k v).chest = s.chest := rfl
@[simp] theorem State.setFltPend_tb : (s.setFltPend k v).tb = s.tb := rfl
@[simp] theorem State.setFltPend_ch : (s.setFltPend k v).ch = s.ch := rfl
@[simp] theorem State.setFltPend_pg : (s.setFltPend k v).pg = s.pg := rfl
@[simp] theorem State.setFltPend_nwl : (s.setFltPend k v).nwl = s.nwl := rfl
@[simp] theorem State.setFltPend_land : (s.setFltPend k v).land = s.land := rfl
@[simp] theorem State.setFltPend_flt : (s.setFltPend k v).flt = s.flt := rfl
@[simp] theorem State.setFltPend_out : (s.setFltPend k v).out = s.out := rfl
@[simp] theorem State.setFltPend_rdHost : (s.setFltPend k v).rdHost = s.rdHost := rfl
@[simp] theorem State.setFltPend_rdSup : (s.setFltPend k v).rdSup = s.rdSup := rfl
@[simp] theorem State.setFltPend_rdDebug : (s.setFltPend k v).rdDebug = s.rdDebug := rfl
@[simp] theorem State.setFltPend_ring : (s.setFltPend k v).ring = s.ring := rfl
@[simp] theorem State.setFltPend_gc : (s.setFltPend k v).gc = s.gc := rfl
@[simp] theorem State.setFltPend_gal : (s.setFltPend k v).gal = s.gal := rfl
@[simp] theorem State.setFltPend_txn : (s.setFltPend k v).txn = s.txn := rfl
@[simp] theorem State.setFltPend_staged : (s.setFltPend k v).staged = s.staged := rfl
@[simp] theorem State.setFltPend_snap : (s.setFltPend k v).snap = s.snap := rfl
@[simp] theorem State.setFltPend_pcie : (s.setFltPend k v).pcie = s.pcie := rfl
@[simp] theorem State.setFltPend_peer : (s.setFltPend k v).peer = s.peer := rfl
@[simp] theorem State.setFltPend_eng : (s.setFltPend k v).eng = s.eng := rfl
@[simp] theorem State.setFltPend_go : (s.setFltPend k v).go = s.go := rfl
@[simp] theorem State.setFltPend_pram : (s.setFltPend k v).pram = s.pram := rfl
@[simp] theorem State.setFltPend_pramLast : (s.setFltPend k v).pramLast = s.pramLast := rfl
@[simp] theorem State.setFltPend_lane : (s.setFltPend k v).lane = s.lane := rfl
@[simp] theorem State.setFltPend_patch : (s.setFltPend k v).patch = s.patch := rfl
@[simp] theorem State.setFltPend_vest : (s.setFltPend k v).vest = s.vest := rfl
@[simp] theorem State.setFltPend_bg : (s.setFltPend k v).bg = s.bg := rfl
@[simp] theorem State.setFltPend_chestCtl : (s.setFltPend k v).chestCtl = s.chestCtl := rfl
@[simp] theorem State.setFltPend_power : (s.setFltPend k v).power = s.power := rfl
@[simp] theorem State.setFltPend_ports : (s.setFltPend k v).ports = s.ports := rfl
@[simp] theorem State.setFltPend_byte (j : Nat) : (s.setFltPend k v).byte j = s.byte j := rfl
@[simp] theorem State.setFltPend_memWord (j : Nat) : (s.setFltPend k v).memWord j = s.memWord j := rfl
@[simp] theorem State.setFltPend_chestByte (j : Nat) : (s.setFltPend k v).chestByte j = s.chestByte j := rfl
@[simp] theorem State.setFltPend_lat_ (c : Agent) (j : Nat) : (s.setFltPend k v).lat? c j = s.lat? c j := rfl
@[simp] theorem State.setFltPend_bank (g : Fin 8) (l : Fin 4) : (s.setFltPend k v).bank g l = s.bank g l := rfl
@[simp] theorem State.setFltPend_near : (s.setFltPend k v).near = s.near := rfl
@[simp] theorem State.setFltPend_now : (s.setFltPend k v).now = s.now := rfl
@[simp] theorem State.setFltPend_rec_ (j : Nat) : (s.setFltPend k v).rec? j = s.rec? j := rfl
end setFltPendFields

section setLatFields
variable (a : Agent) (o : Nat) (v : Word)
theorem State.lat_pending (x : Store Word) : ({ s with lat := x } : State).pending = s.pending := rfl
theorem State.lat_agenda (x : Store Word) : ({ s with lat := x } : State).agenda = s.agenda := rfl
theorem State.lat_later (x : Store Word) : ({ s with lat := x } : State).later = s.later := rfl
theorem State.lat_ticks (x : Store Word) : ({ s with lat := x } : State).ticks = s.ticks := rfl
theorem State.lat_phase (x : Store Word) : ({ s with lat := x } : State).phase = s.phase := rfl
theorem State.lat_sub (x : Store Word) : ({ s with lat := x } : State).sub = s.sub := rfl
theorem State.lat_free (x : Store Word) : ({ s with lat := x } : State).free = s.free := rfl
theorem State.lat_regs (x : Store Word) : ({ s with lat := x } : State).regs = s.regs := rfl
theorem State.lat_marks (x : Store Word) : ({ s with lat := x } : State).marks = s.marks := rfl
theorem State.lat_old (x : Store Word) : ({ s with lat := x } : State).old = s.old := rfl
theorem State.lat_mem (x : Store Word) : ({ s with lat := x } : State).mem = s.mem := rfl
theorem State.lat_chest (x : Store Word) : ({ s with lat := x } : State).chest = s.chest := rfl
theorem State.lat_tb (x : Store Word) : ({ s with lat := x } : State).tb = s.tb := rfl
theorem State.lat_ch (x : Store Word) : ({ s with lat := x } : State).ch = s.ch := rfl
theorem State.lat_pg (x : Store Word) : ({ s with lat := x } : State).pg = s.pg := rfl
theorem State.lat_nwl (x : Store Word) : ({ s with lat := x } : State).nwl = s.nwl := rfl
theorem State.lat_land (x : Store Word) : ({ s with lat := x } : State).land = s.land := rfl
theorem State.lat_flt (x : Store Word) : ({ s with lat := x } : State).flt = s.flt := rfl
theorem State.lat_out (x : Store Word) : ({ s with lat := x } : State).out = s.out := rfl
theorem State.lat_rdHost (x : Store Word) : ({ s with lat := x } : State).rdHost = s.rdHost := rfl
theorem State.lat_rdSup (x : Store Word) : ({ s with lat := x } : State).rdSup = s.rdSup := rfl
theorem State.lat_rdDebug (x : Store Word) : ({ s with lat := x } : State).rdDebug = s.rdDebug := rfl
theorem State.lat_ring (x : Store Word) : ({ s with lat := x } : State).ring = s.ring := rfl
theorem State.lat_gc (x : Store Word) : ({ s with lat := x } : State).gc = s.gc := rfl
theorem State.lat_gal (x : Store Word) : ({ s with lat := x } : State).gal = s.gal := rfl
theorem State.lat_txn (x : Store Word) : ({ s with lat := x } : State).txn = s.txn := rfl
theorem State.lat_staged (x : Store Word) : ({ s with lat := x } : State).staged = s.staged := rfl
theorem State.lat_snap (x : Store Word) : ({ s with lat := x } : State).snap = s.snap := rfl
theorem State.lat_pcie (x : Store Word) : ({ s with lat := x } : State).pcie = s.pcie := rfl
theorem State.lat_peer (x : Store Word) : ({ s with lat := x } : State).peer = s.peer := rfl
theorem State.lat_eng (x : Store Word) : ({ s with lat := x } : State).eng = s.eng := rfl
theorem State.lat_go (x : Store Word) : ({ s with lat := x } : State).go = s.go := rfl
theorem State.lat_pram (x : Store Word) : ({ s with lat := x } : State).pram = s.pram := rfl
theorem State.lat_pramLast (x : Store Word) : ({ s with lat := x } : State).pramLast = s.pramLast := rfl
theorem State.lat_lane (x : Store Word) : ({ s with lat := x } : State).lane = s.lane := rfl
theorem State.lat_patch (x : Store Word) : ({ s with lat := x } : State).patch = s.patch := rfl
theorem State.lat_vest (x : Store Word) : ({ s with lat := x } : State).vest = s.vest := rfl
theorem State.lat_bg (x : Store Word) : ({ s with lat := x } : State).bg = s.bg := rfl
theorem State.lat_chestCtl (x : Store Word) : ({ s with lat := x } : State).chestCtl = s.chestCtl := rfl
theorem State.lat_power (x : Store Word) : ({ s with lat := x } : State).power = s.power := rfl
theorem State.lat_ports (x : Store Word) : ({ s with lat := x } : State).ports = s.ports := rfl
@[simp] theorem State.setLat_pending : (s.setLat a o v).pending = s.pending := State.lat_pending s _
@[simp] theorem State.setLat_agenda : (s.setLat a o v).agenda = s.agenda := State.lat_agenda s _
@[simp] theorem State.setLat_later : (s.setLat a o v).later = s.later := State.lat_later s _
@[simp] theorem State.setLat_ticks : (s.setLat a o v).ticks = s.ticks := State.lat_ticks s _
@[simp] theorem State.setLat_phase : (s.setLat a o v).phase = s.phase := State.lat_phase s _
@[simp] theorem State.setLat_sub : (s.setLat a o v).sub = s.sub := State.lat_sub s _
@[simp] theorem State.setLat_free : (s.setLat a o v).free = s.free := State.lat_free s _
@[simp] theorem State.setLat_regs : (s.setLat a o v).regs = s.regs := State.lat_regs s _
@[simp] theorem State.setLat_marks : (s.setLat a o v).marks = s.marks := State.lat_marks s _
@[simp] theorem State.setLat_old : (s.setLat a o v).old = s.old := State.lat_old s _
@[simp] theorem State.setLat_mem : (s.setLat a o v).mem = s.mem := State.lat_mem s _
@[simp] theorem State.setLat_chest : (s.setLat a o v).chest = s.chest := State.lat_chest s _
@[simp] theorem State.setLat_tb : (s.setLat a o v).tb = s.tb := State.lat_tb s _
@[simp] theorem State.setLat_ch : (s.setLat a o v).ch = s.ch := State.lat_ch s _
@[simp] theorem State.setLat_pg : (s.setLat a o v).pg = s.pg := State.lat_pg s _
@[simp] theorem State.setLat_nwl : (s.setLat a o v).nwl = s.nwl := State.lat_nwl s _
@[simp] theorem State.setLat_land : (s.setLat a o v).land = s.land := State.lat_land s _
@[simp] theorem State.setLat_flt : (s.setLat a o v).flt = s.flt := State.lat_flt s _
@[simp] theorem State.setLat_out : (s.setLat a o v).out = s.out := State.lat_out s _
@[simp] theorem State.setLat_rdHost : (s.setLat a o v).rdHost = s.rdHost := State.lat_rdHost s _
@[simp] theorem State.setLat_rdSup : (s.setLat a o v).rdSup = s.rdSup := State.lat_rdSup s _
@[simp] theorem State.setLat_rdDebug : (s.setLat a o v).rdDebug = s.rdDebug := State.lat_rdDebug s _
@[simp] theorem State.setLat_ring : (s.setLat a o v).ring = s.ring := State.lat_ring s _
@[simp] theorem State.setLat_gc : (s.setLat a o v).gc = s.gc := State.lat_gc s _
@[simp] theorem State.setLat_gal : (s.setLat a o v).gal = s.gal := State.lat_gal s _
@[simp] theorem State.setLat_txn : (s.setLat a o v).txn = s.txn := State.lat_txn s _
@[simp] theorem State.setLat_staged : (s.setLat a o v).staged = s.staged := State.lat_staged s _
@[simp] theorem State.setLat_snap : (s.setLat a o v).snap = s.snap := State.lat_snap s _
@[simp] theorem State.setLat_pcie : (s.setLat a o v).pcie = s.pcie := State.lat_pcie s _
@[simp] theorem State.setLat_peer : (s.setLat a o v).peer = s.peer := State.lat_peer s _
@[simp] theorem State.setLat_eng : (s.setLat a o v).eng = s.eng := State.lat_eng s _
@[simp] theorem State.setLat_go : (s.setLat a o v).go = s.go := State.lat_go s _
@[simp] theorem State.setLat_pram : (s.setLat a o v).pram = s.pram := State.lat_pram s _
@[simp] theorem State.setLat_pramLast : (s.setLat a o v).pramLast = s.pramLast := State.lat_pramLast s _
@[simp] theorem State.setLat_lane : (s.setLat a o v).lane = s.lane := State.lat_lane s _
@[simp] theorem State.setLat_patch : (s.setLat a o v).patch = s.patch := State.lat_patch s _
@[simp] theorem State.setLat_vest : (s.setLat a o v).vest = s.vest := State.lat_vest s _
@[simp] theorem State.setLat_bg : (s.setLat a o v).bg = s.bg := State.lat_bg s _
@[simp] theorem State.setLat_chestCtl : (s.setLat a o v).chestCtl = s.chestCtl := State.lat_chestCtl s _
@[simp] theorem State.setLat_power : (s.setLat a o v).power = s.power := State.lat_power s _
@[simp] theorem State.setLat_ports : (s.setLat a o v).ports = s.ports := State.lat_ports s _
@[simp] theorem State.setLat_rd (j : Nat) : (s.setLat a o v).rd j = s.rd j := by simp only [State.rd, State.setLat_regs]
@[simp] theorem State.setLat_fl (j lo len : Nat) : (s.setLat a o v).fl j lo len = s.fl j lo len := by simp only [State.fl, State.rd, State.setLat_regs]
@[simp] theorem State.setLat_bt (j q : Nat) : (s.setLat a o v).bt j q = s.bt j q := by simp only [State.bt, State.rd, State.setLat_regs]
@[simp] theorem State.setLat_byte (j : Nat) : (s.setLat a o v).byte j = s.byte j := by simp only [State.byte, State.setLat_mem]
@[simp] theorem State.setLat_memWord (j : Nat) : (s.setLat a o v).memWord j = s.memWord j := by simp only [State.memWord, State.byte, State.setLat_mem]
@[simp] theorem State.setLat_chestByte (j : Nat) : (s.setLat a o v).chestByte j = s.chestByte j := by simp only [State.chestByte, State.setLat_chest]
@[simp] theorem State.setLat_bank (g : Fin 8) (l : Fin 4) : (s.setLat a o v).bank g l = s.bank g l := by simp only [State.bank, State.setLat_eng]
@[simp] theorem State.setLat_near : (s.setLat a o v).near = s.near := by simp only [State.near, State.setLat_tb]
@[simp] theorem State.setLat_now : (s.setLat a o v).now = s.now := by simp only [State.now, State.setLat_ticks]
@[simp] theorem State.setLat_was (j : Nat) : (s.setLat a o v).was j = s.was j := by simp only [State.was, State.rd, State.setLat_old, State.setLat_regs]
@[simp] theorem State.setLat_fofs : (s.setLat a o v).fofs = s.fofs := by simp only [State.fofs, State.fl, State.rd, State.setLat_regs]
@[simp] theorem State.setLat_tbclk : (s.setLat a o v).tbclk = s.tbclk := by simp only [State.tbclk, State.fl, State.rd, State.setLat_regs]
@[simp] theorem State.setLat_samples (j : Nat) : (s.setLat a o v).samples j = s.samples j :=
  State.samples_eq (State.setLat_ticks s a o v) (State.setLat_tb s a o v) (congrArg (Store.get regDefault · R.CLK_STAT) (State.setLat_regs s a o v))
    (congrArg (Store.get regDefault · R.TB_LSTEP) (State.setLat_regs s a o v)) j
@[simp] theorem State.setLat_rec_ (j : Nat) : (s.setLat a o v).rec? j = s.rec? j := by simp only [State.rec?, State.setLat_flt]
end setLatFields

section setByteFields
variable (o : Nat) (v : Byte)
@[simp] theorem State.setByte_pending : (s.setByte o v).pending = s.pending := rfl
@[simp] theorem State.setByte_agenda : (s.setByte o v).agenda = s.agenda := rfl
@[simp] theorem State.setByte_later : (s.setByte o v).later = s.later := rfl
@[simp] theorem State.setByte_ticks : (s.setByte o v).ticks = s.ticks := rfl
@[simp] theorem State.setByte_phase : (s.setByte o v).phase = s.phase := rfl
@[simp] theorem State.setByte_sub : (s.setByte o v).sub = s.sub := rfl
@[simp] theorem State.setByte_free : (s.setByte o v).free = s.free := rfl
@[simp] theorem State.setByte_regs : (s.setByte o v).regs = s.regs := rfl
@[simp] theorem State.setByte_marks : (s.setByte o v).marks = s.marks := rfl
@[simp] theorem State.setByte_old : (s.setByte o v).old = s.old := rfl
@[simp] theorem State.setByte_lat : (s.setByte o v).lat = s.lat := rfl
@[simp] theorem State.setByte_chest : (s.setByte o v).chest = s.chest := rfl
@[simp] theorem State.setByte_tb : (s.setByte o v).tb = s.tb := rfl
@[simp] theorem State.setByte_ch : (s.setByte o v).ch = s.ch := rfl
@[simp] theorem State.setByte_pg : (s.setByte o v).pg = s.pg := rfl
@[simp] theorem State.setByte_nwl : (s.setByte o v).nwl = s.nwl := rfl
@[simp] theorem State.setByte_land : (s.setByte o v).land = s.land := rfl
@[simp] theorem State.setByte_flt : (s.setByte o v).flt = s.flt := rfl
@[simp] theorem State.setByte_out : (s.setByte o v).out = s.out := rfl
@[simp] theorem State.setByte_rdHost : (s.setByte o v).rdHost = s.rdHost := rfl
@[simp] theorem State.setByte_rdSup : (s.setByte o v).rdSup = s.rdSup := rfl
@[simp] theorem State.setByte_rdDebug : (s.setByte o v).rdDebug = s.rdDebug := rfl
@[simp] theorem State.setByte_ring : (s.setByte o v).ring = s.ring := rfl
@[simp] theorem State.setByte_gc : (s.setByte o v).gc = s.gc := rfl
@[simp] theorem State.setByte_gal : (s.setByte o v).gal = s.gal := rfl
@[simp] theorem State.setByte_txn : (s.setByte o v).txn = s.txn := rfl
@[simp] theorem State.setByte_staged : (s.setByte o v).staged = s.staged := rfl
@[simp] theorem State.setByte_snap : (s.setByte o v).snap = s.snap := rfl
@[simp] theorem State.setByte_pcie : (s.setByte o v).pcie = s.pcie := rfl
@[simp] theorem State.setByte_peer : (s.setByte o v).peer = s.peer := rfl
@[simp] theorem State.setByte_eng : (s.setByte o v).eng = s.eng := rfl
@[simp] theorem State.setByte_go : (s.setByte o v).go = s.go := rfl
@[simp] theorem State.setByte_pram : (s.setByte o v).pram = s.pram := rfl
@[simp] theorem State.setByte_pramLast : (s.setByte o v).pramLast = s.pramLast := rfl
@[simp] theorem State.setByte_lane : (s.setByte o v).lane = s.lane := rfl
@[simp] theorem State.setByte_patch : (s.setByte o v).patch = s.patch := rfl
@[simp] theorem State.setByte_vest : (s.setByte o v).vest = s.vest := rfl
@[simp] theorem State.setByte_bg : (s.setByte o v).bg = s.bg := rfl
@[simp] theorem State.setByte_chestCtl : (s.setByte o v).chestCtl = s.chestCtl := rfl
@[simp] theorem State.setByte_power : (s.setByte o v).power = s.power := rfl
@[simp] theorem State.setByte_ports : (s.setByte o v).ports = s.ports := rfl
@[simp] theorem State.setByte_rd (j : Nat) : (s.setByte o v).rd j = s.rd j := rfl
@[simp] theorem State.setByte_fl (j lo len : Nat) : (s.setByte o v).fl j lo len = s.fl j lo len := rfl
@[simp] theorem State.setByte_bt (j q : Nat) : (s.setByte o v).bt j q = s.bt j q := rfl
@[simp] theorem State.setByte_chestByte (j : Nat) : (s.setByte o v).chestByte j = s.chestByte j := rfl
@[simp] theorem State.setByte_lat_ (c : Agent) (j : Nat) : (s.setByte o v).lat? c j = s.lat? c j := rfl
@[simp] theorem State.setByte_bank (g : Fin 8) (l : Fin 4) : (s.setByte o v).bank g l = s.bank g l := rfl
@[simp] theorem State.setByte_near : (s.setByte o v).near = s.near := rfl
@[simp] theorem State.setByte_now : (s.setByte o v).now = s.now := rfl
@[simp] theorem State.setByte_was (j : Nat) : (s.setByte o v).was j = s.was j := rfl
@[simp] theorem State.setByte_fofs : (s.setByte o v).fofs = s.fofs := rfl
@[simp] theorem State.setByte_tbclk : (s.setByte o v).tbclk = s.tbclk := rfl
@[simp] theorem State.setByte_samples (j : Nat) : (s.setByte o v).samples j = s.samples j := rfl
@[simp] theorem State.setByte_rec_ (j : Nat) : (s.setByte o v).rec? j = s.rec? j := rfl
end setByteFields

section setChestByteFields
variable (o : Nat) (v : Byte)
@[simp] theorem State.setChestByte_pending : (s.setChestByte o v).pending = s.pending := rfl
@[simp] theorem State.setChestByte_agenda : (s.setChestByte o v).agenda = s.agenda := rfl
@[simp] theorem State.setChestByte_later : (s.setChestByte o v).later = s.later := rfl
@[simp] theorem State.setChestByte_ticks : (s.setChestByte o v).ticks = s.ticks := rfl
@[simp] theorem State.setChestByte_phase : (s.setChestByte o v).phase = s.phase := rfl
@[simp] theorem State.setChestByte_sub : (s.setChestByte o v).sub = s.sub := rfl
@[simp] theorem State.setChestByte_free : (s.setChestByte o v).free = s.free := rfl
@[simp] theorem State.setChestByte_regs : (s.setChestByte o v).regs = s.regs := rfl
@[simp] theorem State.setChestByte_marks : (s.setChestByte o v).marks = s.marks := rfl
@[simp] theorem State.setChestByte_old : (s.setChestByte o v).old = s.old := rfl
@[simp] theorem State.setChestByte_lat : (s.setChestByte o v).lat = s.lat := rfl
@[simp] theorem State.setChestByte_mem : (s.setChestByte o v).mem = s.mem := rfl
@[simp] theorem State.setChestByte_tb : (s.setChestByte o v).tb = s.tb := rfl
@[simp] theorem State.setChestByte_ch : (s.setChestByte o v).ch = s.ch := rfl
@[simp] theorem State.setChestByte_pg : (s.setChestByte o v).pg = s.pg := rfl
@[simp] theorem State.setChestByte_nwl : (s.setChestByte o v).nwl = s.nwl := rfl
@[simp] theorem State.setChestByte_land : (s.setChestByte o v).land = s.land := rfl
@[simp] theorem State.setChestByte_flt : (s.setChestByte o v).flt = s.flt := rfl
@[simp] theorem State.setChestByte_out : (s.setChestByte o v).out = s.out := rfl
@[simp] theorem State.setChestByte_rdHost : (s.setChestByte o v).rdHost = s.rdHost := rfl
@[simp] theorem State.setChestByte_rdSup : (s.setChestByte o v).rdSup = s.rdSup := rfl
@[simp] theorem State.setChestByte_rdDebug : (s.setChestByte o v).rdDebug = s.rdDebug := rfl
@[simp] theorem State.setChestByte_ring : (s.setChestByte o v).ring = s.ring := rfl
@[simp] theorem State.setChestByte_gc : (s.setChestByte o v).gc = s.gc := rfl
@[simp] theorem State.setChestByte_gal : (s.setChestByte o v).gal = s.gal := rfl
@[simp] theorem State.setChestByte_txn : (s.setChestByte o v).txn = s.txn := rfl
@[simp] theorem State.setChestByte_staged : (s.setChestByte o v).staged = s.staged := rfl
@[simp] theorem State.setChestByte_snap : (s.setChestByte o v).snap = s.snap := rfl
@[simp] theorem State.setChestByte_pcie : (s.setChestByte o v).pcie = s.pcie := rfl
@[simp] theorem State.setChestByte_peer : (s.setChestByte o v).peer = s.peer := rfl
@[simp] theorem State.setChestByte_eng : (s.setChestByte o v).eng = s.eng := rfl
@[simp] theorem State.setChestByte_go : (s.setChestByte o v).go = s.go := rfl
@[simp] theorem State.setChestByte_pram : (s.setChestByte o v).pram = s.pram := rfl
@[simp] theorem State.setChestByte_pramLast : (s.setChestByte o v).pramLast = s.pramLast := rfl
@[simp] theorem State.setChestByte_lane : (s.setChestByte o v).lane = s.lane := rfl
@[simp] theorem State.setChestByte_patch : (s.setChestByte o v).patch = s.patch := rfl
@[simp] theorem State.setChestByte_vest : (s.setChestByte o v).vest = s.vest := rfl
@[simp] theorem State.setChestByte_bg : (s.setChestByte o v).bg = s.bg := rfl
@[simp] theorem State.setChestByte_chestCtl : (s.setChestByte o v).chestCtl = s.chestCtl := rfl
@[simp] theorem State.setChestByte_power : (s.setChestByte o v).power = s.power := rfl
@[simp] theorem State.setChestByte_ports : (s.setChestByte o v).ports = s.ports := rfl
@[simp] theorem State.setChestByte_rd (j : Nat) : (s.setChestByte o v).rd j = s.rd j := rfl
@[simp] theorem State.setChestByte_fl (j lo len : Nat) : (s.setChestByte o v).fl j lo len = s.fl j lo len := rfl
@[simp] theorem State.setChestByte_bt (j q : Nat) : (s.setChestByte o v).bt j q = s.bt j q := rfl
@[simp] theorem State.setChestByte_byte (j : Nat) : (s.setChestByte o v).byte j = s.byte j := rfl
@[simp] theorem State.setChestByte_memWord (j : Nat) : (s.setChestByte o v).memWord j = s.memWord j := rfl
@[simp] theorem State.setChestByte_lat_ (c : Agent) (j : Nat) : (s.setChestByte o v).lat? c j = s.lat? c j := rfl
@[simp] theorem State.setChestByte_bank (g : Fin 8) (l : Fin 4) : (s.setChestByte o v).bank g l = s.bank g l := rfl
@[simp] theorem State.setChestByte_near : (s.setChestByte o v).near = s.near := rfl
@[simp] theorem State.setChestByte_now : (s.setChestByte o v).now = s.now := rfl
@[simp] theorem State.setChestByte_was (j : Nat) : (s.setChestByte o v).was j = s.was j := rfl
@[simp] theorem State.setChestByte_fofs : (s.setChestByte o v).fofs = s.fofs := rfl
@[simp] theorem State.setChestByte_tbclk : (s.setChestByte o v).tbclk = s.tbclk := rfl
@[simp] theorem State.setChestByte_samples (j : Nat) : (s.setChestByte o v).samples j = s.samples j := rfl
@[simp] theorem State.setChestByte_rec_ (j : Nat) : (s.setChestByte o v).rec? j = s.rec? j := rfl
end setChestByteFields

section setChestWordFields
variable (o : Nat) (v : Word)
@[simp] theorem State.setChestWord_pending : (s.setChestWord o v).pending = s.pending := by simp only [State.setChestWord, State.setChestByte_pending]
@[simp] theorem State.setChestWord_agenda : (s.setChestWord o v).agenda = s.agenda := by simp only [State.setChestWord, State.setChestByte_agenda]
@[simp] theorem State.setChestWord_later : (s.setChestWord o v).later = s.later := by simp only [State.setChestWord, State.setChestByte_later]
@[simp] theorem State.setChestWord_ticks : (s.setChestWord o v).ticks = s.ticks := by simp only [State.setChestWord, State.setChestByte_ticks]
@[simp] theorem State.setChestWord_phase : (s.setChestWord o v).phase = s.phase := by simp only [State.setChestWord, State.setChestByte_phase]
@[simp] theorem State.setChestWord_sub : (s.setChestWord o v).sub = s.sub := by simp only [State.setChestWord, State.setChestByte_sub]
@[simp] theorem State.setChestWord_free : (s.setChestWord o v).free = s.free := by simp only [State.setChestWord, State.setChestByte_free]
@[simp] theorem State.setChestWord_regs : (s.setChestWord o v).regs = s.regs := by simp only [State.setChestWord, State.setChestByte_regs]
@[simp] theorem State.setChestWord_marks : (s.setChestWord o v).marks = s.marks := by simp only [State.setChestWord, State.setChestByte_marks]
@[simp] theorem State.setChestWord_old : (s.setChestWord o v).old = s.old := by simp only [State.setChestWord, State.setChestByte_old]
@[simp] theorem State.setChestWord_lat : (s.setChestWord o v).lat = s.lat := by simp only [State.setChestWord, State.setChestByte_lat]
@[simp] theorem State.setChestWord_mem : (s.setChestWord o v).mem = s.mem := by simp only [State.setChestWord, State.setChestByte_mem]
@[simp] theorem State.setChestWord_tb : (s.setChestWord o v).tb = s.tb := by simp only [State.setChestWord, State.setChestByte_tb]
@[simp] theorem State.setChestWord_ch : (s.setChestWord o v).ch = s.ch := by simp only [State.setChestWord, State.setChestByte_ch]
@[simp] theorem State.setChestWord_pg : (s.setChestWord o v).pg = s.pg := by simp only [State.setChestWord, State.setChestByte_pg]
@[simp] theorem State.setChestWord_nwl : (s.setChestWord o v).nwl = s.nwl := by simp only [State.setChestWord, State.setChestByte_nwl]
@[simp] theorem State.setChestWord_land : (s.setChestWord o v).land = s.land := by simp only [State.setChestWord, State.setChestByte_land]
@[simp] theorem State.setChestWord_flt : (s.setChestWord o v).flt = s.flt := by simp only [State.setChestWord, State.setChestByte_flt]
@[simp] theorem State.setChestWord_out : (s.setChestWord o v).out = s.out := by simp only [State.setChestWord, State.setChestByte_out]
@[simp] theorem State.setChestWord_rdHost : (s.setChestWord o v).rdHost = s.rdHost := by simp only [State.setChestWord, State.setChestByte_rdHost]
@[simp] theorem State.setChestWord_rdSup : (s.setChestWord o v).rdSup = s.rdSup := by simp only [State.setChestWord, State.setChestByte_rdSup]
@[simp] theorem State.setChestWord_rdDebug : (s.setChestWord o v).rdDebug = s.rdDebug := by simp only [State.setChestWord, State.setChestByte_rdDebug]
@[simp] theorem State.setChestWord_ring : (s.setChestWord o v).ring = s.ring := by simp only [State.setChestWord, State.setChestByte_ring]
@[simp] theorem State.setChestWord_gc : (s.setChestWord o v).gc = s.gc := by simp only [State.setChestWord, State.setChestByte_gc]
@[simp] theorem State.setChestWord_gal : (s.setChestWord o v).gal = s.gal := by simp only [State.setChestWord, State.setChestByte_gal]
@[simp] theorem State.setChestWord_txn : (s.setChestWord o v).txn = s.txn := by simp only [State.setChestWord, State.setChestByte_txn]
@[simp] theorem State.setChestWord_staged : (s.setChestWord o v).staged = s.staged := by simp only [State.setChestWord, State.setChestByte_staged]
@[simp] theorem State.setChestWord_snap : (s.setChestWord o v).snap = s.snap := by simp only [State.setChestWord, State.setChestByte_snap]
@[simp] theorem State.setChestWord_pcie : (s.setChestWord o v).pcie = s.pcie := by simp only [State.setChestWord, State.setChestByte_pcie]
@[simp] theorem State.setChestWord_peer : (s.setChestWord o v).peer = s.peer := by simp only [State.setChestWord, State.setChestByte_peer]
@[simp] theorem State.setChestWord_eng : (s.setChestWord o v).eng = s.eng := by simp only [State.setChestWord, State.setChestByte_eng]
@[simp] theorem State.setChestWord_go : (s.setChestWord o v).go = s.go := by simp only [State.setChestWord, State.setChestByte_go]
@[simp] theorem State.setChestWord_pram : (s.setChestWord o v).pram = s.pram := by simp only [State.setChestWord, State.setChestByte_pram]
@[simp] theorem State.setChestWord_pramLast : (s.setChestWord o v).pramLast = s.pramLast := by simp only [State.setChestWord, State.setChestByte_pramLast]
@[simp] theorem State.setChestWord_lane : (s.setChestWord o v).lane = s.lane := by simp only [State.setChestWord, State.setChestByte_lane]
@[simp] theorem State.setChestWord_patch : (s.setChestWord o v).patch = s.patch := by simp only [State.setChestWord, State.setChestByte_patch]
@[simp] theorem State.setChestWord_vest : (s.setChestWord o v).vest = s.vest := by simp only [State.setChestWord, State.setChestByte_vest]
@[simp] theorem State.setChestWord_bg : (s.setChestWord o v).bg = s.bg := by simp only [State.setChestWord, State.setChestByte_bg]
@[simp] theorem State.setChestWord_chestCtl : (s.setChestWord o v).chestCtl = s.chestCtl := by simp only [State.setChestWord, State.setChestByte_chestCtl]
@[simp] theorem State.setChestWord_power : (s.setChestWord o v).power = s.power := by simp only [State.setChestWord, State.setChestByte_power]
@[simp] theorem State.setChestWord_ports : (s.setChestWord o v).ports = s.ports := by simp only [State.setChestWord, State.setChestByte_ports]
@[simp] theorem State.setChestWord_rd (j : Nat) : (s.setChestWord o v).rd j = s.rd j := by simp only [State.rd, State.setChestWord_regs]
@[simp] theorem State.setChestWord_fl (j lo len : Nat) : (s.setChestWord o v).fl j lo len = s.fl j lo len := by simp only [State.fl, State.rd, State.setChestWord_regs]
@[simp] theorem State.setChestWord_bt (j q : Nat) : (s.setChestWord o v).bt j q = s.bt j q := by simp only [State.bt, State.rd, State.setChestWord_regs]
@[simp] theorem State.setChestWord_byte (j : Nat) : (s.setChestWord o v).byte j = s.byte j := by simp only [State.byte, State.setChestWord_mem]
@[simp] theorem State.setChestWord_memWord (j : Nat) : (s.setChestWord o v).memWord j = s.memWord j := by simp only [State.memWord, State.byte, State.setChestWord_mem]
@[simp] theorem State.setChestWord_lat_ (c : Agent) (j : Nat) : (s.setChestWord o v).lat? c j = s.lat? c j := by simp only [State.lat?, State.setChestWord_lat]
@[simp] theorem State.setChestWord_bank (g : Fin 8) (l : Fin 4) : (s.setChestWord o v).bank g l = s.bank g l := by simp only [State.bank, State.setChestWord_eng]
@[simp] theorem State.setChestWord_near : (s.setChestWord o v).near = s.near := by simp only [State.near, State.setChestWord_tb]
@[simp] theorem State.setChestWord_now : (s.setChestWord o v).now = s.now := by simp only [State.now, State.setChestWord_ticks]
@[simp] theorem State.setChestWord_was (j : Nat) : (s.setChestWord o v).was j = s.was j := by simp only [State.was, State.rd, State.setChestWord_old, State.setChestWord_regs]
@[simp] theorem State.setChestWord_fofs : (s.setChestWord o v).fofs = s.fofs := by simp only [State.fofs, State.fl, State.rd, State.setChestWord_regs]
@[simp] theorem State.setChestWord_tbclk : (s.setChestWord o v).tbclk = s.tbclk := by simp only [State.tbclk, State.fl, State.rd, State.setChestWord_regs]
@[simp] theorem State.setChestWord_samples (j : Nat) : (s.setChestWord o v).samples j = s.samples j :=
  State.samples_eq (State.setChestWord_ticks s o v) (State.setChestWord_tb s o v) (congrArg (Store.get regDefault · R.CLK_STAT) (State.setChestWord_regs s o v))
    (congrArg (Store.get regDefault · R.TB_LSTEP) (State.setChestWord_regs s o v)) j
@[simp] theorem State.setChestWord_rec_ (j : Nat) : (s.setChestWord o v).rec? j = s.rec? j := by simp only [State.rec?, State.setChestWord_flt]
end setChestWordFields

/-- What every byte write keeps, a word write keeps. -/
theorem State.setMem_of {α : Type} (g : State → α) (h : ∀ (s : State) (o : Nat) (v : Byte), g (s.setByte o v) = g s)
    (s : State) (o be : Nat) (v : Word) : g (s.setMem o be v) = g s := by
  have put (s : State) (i : Nat) : g (if be.testBit i then s.setByte (o + i) (byteOf v i) else s) = g s := by
    split
    · exact h _ _ _
    · rfl
  simp only [State.setMem, put]

section setMemFields
variable (o be : Nat) (v : Word)
@[simp] theorem State.setMem_pending : (s.setMem o be v).pending = s.pending := State.setMem_of (fun t => t.pending) (State.setByte_pending) s o be v
@[simp] theorem State.setMem_agenda : (s.setMem o be v).agenda = s.agenda := State.setMem_of (fun t => t.agenda) (State.setByte_agenda) s o be v
@[simp] theorem State.setMem_later : (s.setMem o be v).later = s.later := State.setMem_of (fun t => t.later) (State.setByte_later) s o be v
@[simp] theorem State.setMem_ticks : (s.setMem o be v).ticks = s.ticks := State.setMem_of (fun t => t.ticks) (State.setByte_ticks) s o be v
@[simp] theorem State.setMem_phase : (s.setMem o be v).phase = s.phase := State.setMem_of (fun t => t.phase) (State.setByte_phase) s o be v
@[simp] theorem State.setMem_sub : (s.setMem o be v).sub = s.sub := State.setMem_of (fun t => t.sub) (State.setByte_sub) s o be v
@[simp] theorem State.setMem_free : (s.setMem o be v).free = s.free := State.setMem_of (fun t => t.free) (State.setByte_free) s o be v
@[simp] theorem State.setMem_regs : (s.setMem o be v).regs = s.regs := State.setMem_of (fun t => t.regs) (State.setByte_regs) s o be v
@[simp] theorem State.setMem_marks : (s.setMem o be v).marks = s.marks := State.setMem_of (fun t => t.marks) (State.setByte_marks) s o be v
@[simp] theorem State.setMem_old : (s.setMem o be v).old = s.old := State.setMem_of (fun t => t.old) (State.setByte_old) s o be v
@[simp] theorem State.setMem_lat : (s.setMem o be v).lat = s.lat := State.setMem_of (fun t => t.lat) (State.setByte_lat) s o be v
@[simp] theorem State.setMem_chest : (s.setMem o be v).chest = s.chest := State.setMem_of (fun t => t.chest) (State.setByte_chest) s o be v
@[simp] theorem State.setMem_tb : (s.setMem o be v).tb = s.tb := State.setMem_of (fun t => t.tb) (State.setByte_tb) s o be v
@[simp] theorem State.setMem_ch : (s.setMem o be v).ch = s.ch := State.setMem_of (fun t => t.ch) (State.setByte_ch) s o be v
@[simp] theorem State.setMem_pg : (s.setMem o be v).pg = s.pg := State.setMem_of (fun t => t.pg) (State.setByte_pg) s o be v
@[simp] theorem State.setMem_nwl : (s.setMem o be v).nwl = s.nwl := State.setMem_of (fun t => t.nwl) (State.setByte_nwl) s o be v
@[simp] theorem State.setMem_land : (s.setMem o be v).land = s.land := State.setMem_of (fun t => t.land) (State.setByte_land) s o be v
@[simp] theorem State.setMem_flt : (s.setMem o be v).flt = s.flt := State.setMem_of (fun t => t.flt) (State.setByte_flt) s o be v
@[simp] theorem State.setMem_out : (s.setMem o be v).out = s.out := State.setMem_of (fun t => t.out) (State.setByte_out) s o be v
@[simp] theorem State.setMem_rdHost : (s.setMem o be v).rdHost = s.rdHost := State.setMem_of (fun t => t.rdHost) (State.setByte_rdHost) s o be v
@[simp] theorem State.setMem_rdSup : (s.setMem o be v).rdSup = s.rdSup := State.setMem_of (fun t => t.rdSup) (State.setByte_rdSup) s o be v
@[simp] theorem State.setMem_rdDebug : (s.setMem o be v).rdDebug = s.rdDebug := State.setMem_of (fun t => t.rdDebug) (State.setByte_rdDebug) s o be v
@[simp] theorem State.setMem_ring : (s.setMem o be v).ring = s.ring := State.setMem_of (fun t => t.ring) (State.setByte_ring) s o be v
@[simp] theorem State.setMem_gc : (s.setMem o be v).gc = s.gc := State.setMem_of (fun t => t.gc) (State.setByte_gc) s o be v
@[simp] theorem State.setMem_gal : (s.setMem o be v).gal = s.gal := State.setMem_of (fun t => t.gal) (State.setByte_gal) s o be v
@[simp] theorem State.setMem_txn : (s.setMem o be v).txn = s.txn := State.setMem_of (fun t => t.txn) (State.setByte_txn) s o be v
@[simp] theorem State.setMem_staged : (s.setMem o be v).staged = s.staged := State.setMem_of (fun t => t.staged) (State.setByte_staged) s o be v
@[simp] theorem State.setMem_snap : (s.setMem o be v).snap = s.snap := State.setMem_of (fun t => t.snap) (State.setByte_snap) s o be v
@[simp] theorem State.setMem_pcie : (s.setMem o be v).pcie = s.pcie := State.setMem_of (fun t => t.pcie) (State.setByte_pcie) s o be v
@[simp] theorem State.setMem_peer : (s.setMem o be v).peer = s.peer := State.setMem_of (fun t => t.peer) (State.setByte_peer) s o be v
@[simp] theorem State.setMem_eng : (s.setMem o be v).eng = s.eng := State.setMem_of (fun t => t.eng) (State.setByte_eng) s o be v
@[simp] theorem State.setMem_go : (s.setMem o be v).go = s.go := State.setMem_of (fun t => t.go) (State.setByte_go) s o be v
@[simp] theorem State.setMem_pram : (s.setMem o be v).pram = s.pram := State.setMem_of (fun t => t.pram) (State.setByte_pram) s o be v
@[simp] theorem State.setMem_pramLast : (s.setMem o be v).pramLast = s.pramLast := State.setMem_of (fun t => t.pramLast) (State.setByte_pramLast) s o be v
@[simp] theorem State.setMem_lane : (s.setMem o be v).lane = s.lane := State.setMem_of (fun t => t.lane) (State.setByte_lane) s o be v
@[simp] theorem State.setMem_patch : (s.setMem o be v).patch = s.patch := State.setMem_of (fun t => t.patch) (State.setByte_patch) s o be v
@[simp] theorem State.setMem_vest : (s.setMem o be v).vest = s.vest := State.setMem_of (fun t => t.vest) (State.setByte_vest) s o be v
@[simp] theorem State.setMem_bg : (s.setMem o be v).bg = s.bg := State.setMem_of (fun t => t.bg) (State.setByte_bg) s o be v
@[simp] theorem State.setMem_chestCtl : (s.setMem o be v).chestCtl = s.chestCtl := State.setMem_of (fun t => t.chestCtl) (State.setByte_chestCtl) s o be v
@[simp] theorem State.setMem_power : (s.setMem o be v).power = s.power := State.setMem_of (fun t => t.power) (State.setByte_power) s o be v
@[simp] theorem State.setMem_ports : (s.setMem o be v).ports = s.ports := State.setMem_of (fun t => t.ports) (State.setByte_ports) s o be v
@[simp] theorem State.setMem_rd (j : Nat) : (s.setMem o be v).rd j = s.rd j := by simp only [State.rd, State.setMem_regs]
@[simp] theorem State.setMem_fl (j lo len : Nat) : (s.setMem o be v).fl j lo len = s.fl j lo len := by simp only [State.fl, State.rd, State.setMem_regs]
@[simp] theorem State.setMem_bt (j q : Nat) : (s.setMem o be v).bt j q = s.bt j q := by simp only [State.bt, State.rd, State.setMem_regs]
@[simp] theorem State.setMem_chestByte (j : Nat) : (s.setMem o be v).chestByte j = s.chestByte j := by simp only [State.chestByte, State.setMem_chest]
@[simp] theorem State.setMem_lat_ (c : Agent) (j : Nat) : (s.setMem o be v).lat? c j = s.lat? c j := by simp only [State.lat?, State.setMem_lat]
@[simp] theorem State.setMem_bank (g : Fin 8) (l : Fin 4) : (s.setMem o be v).bank g l = s.bank g l := by simp only [State.bank, State.setMem_eng]
@[simp] theorem State.setMem_near : (s.setMem o be v).near = s.near := by simp only [State.near, State.setMem_tb]
@[simp] theorem State.setMem_now : (s.setMem o be v).now = s.now := by simp only [State.now, State.setMem_ticks]
@[simp] theorem State.setMem_was (j : Nat) : (s.setMem o be v).was j = s.was j := by simp only [State.was, State.rd, State.setMem_old, State.setMem_regs]
@[simp] theorem State.setMem_fofs : (s.setMem o be v).fofs = s.fofs := by simp only [State.fofs, State.fl, State.rd, State.setMem_regs]
@[simp] theorem State.setMem_tbclk : (s.setMem o be v).tbclk = s.tbclk := by simp only [State.tbclk, State.fl, State.rd, State.setMem_regs]
@[simp] theorem State.setMem_samples (j : Nat) : (s.setMem o be v).samples j = s.samples j :=
  State.samples_eq (State.setMem_ticks s o be v) (State.setMem_tb s o be v) (congrArg (Store.get regDefault · R.CLK_STAT) (State.setMem_regs s o be v))
    (congrArg (Store.get regDefault · R.TB_LSTEP) (State.setMem_regs s o be v)) j
@[simp] theorem State.setMem_rec_ (j : Nat) : (s.setMem o be v).rec? j = s.rec? j := by simp only [State.rec?, State.setMem_flt]
end setMemFields

section afterFields
variable (d : Nat) (i : Instr)
@[simp] theorem State.after_pending : (s.after d i).pending = s.pending := rfl
@[simp] theorem State.after_later : (s.after d i).later = s.later := rfl
@[simp] theorem State.after_ticks : (s.after d i).ticks = s.ticks := rfl
@[simp] theorem State.after_phase : (s.after d i).phase = s.phase := rfl
@[simp] theorem State.after_sub : (s.after d i).sub = s.sub := rfl
@[simp] theorem State.after_free : (s.after d i).free = s.free := rfl
@[simp] theorem State.after_regs : (s.after d i).regs = s.regs := rfl
@[simp] theorem State.after_marks : (s.after d i).marks = s.marks := rfl
@[simp] theorem State.after_old : (s.after d i).old = s.old := rfl
@[simp] theorem State.after_lat : (s.after d i).lat = s.lat := rfl
@[simp] theorem State.after_mem : (s.after d i).mem = s.mem := rfl
@[simp] theorem State.after_chest : (s.after d i).chest = s.chest := rfl
@[simp] theorem State.after_tb : (s.after d i).tb = s.tb := rfl
@[simp] theorem State.after_ch : (s.after d i).ch = s.ch := rfl
@[simp] theorem State.after_pg : (s.after d i).pg = s.pg := rfl
@[simp] theorem State.after_nwl : (s.after d i).nwl = s.nwl := rfl
@[simp] theorem State.after_land : (s.after d i).land = s.land := rfl
@[simp] theorem State.after_flt : (s.after d i).flt = s.flt := rfl
@[simp] theorem State.after_out : (s.after d i).out = s.out := rfl
@[simp] theorem State.after_rdHost : (s.after d i).rdHost = s.rdHost := rfl
@[simp] theorem State.after_rdSup : (s.after d i).rdSup = s.rdSup := rfl
@[simp] theorem State.after_rdDebug : (s.after d i).rdDebug = s.rdDebug := rfl
@[simp] theorem State.after_ring : (s.after d i).ring = s.ring := rfl
@[simp] theorem State.after_gc : (s.after d i).gc = s.gc := rfl
@[simp] theorem State.after_gal : (s.after d i).gal = s.gal := rfl
@[simp] theorem State.after_txn : (s.after d i).txn = s.txn := rfl
@[simp] theorem State.after_staged : (s.after d i).staged = s.staged := rfl
@[simp] theorem State.after_snap : (s.after d i).snap = s.snap := rfl
@[simp] theorem State.after_pcie : (s.after d i).pcie = s.pcie := rfl
@[simp] theorem State.after_peer : (s.after d i).peer = s.peer := rfl
@[simp] theorem State.after_eng : (s.after d i).eng = s.eng := rfl
@[simp] theorem State.after_go : (s.after d i).go = s.go := rfl
@[simp] theorem State.after_pram : (s.after d i).pram = s.pram := rfl
@[simp] theorem State.after_pramLast : (s.after d i).pramLast = s.pramLast := rfl
@[simp] theorem State.after_lane : (s.after d i).lane = s.lane := rfl
@[simp] theorem State.after_patch : (s.after d i).patch = s.patch := rfl
@[simp] theorem State.after_vest : (s.after d i).vest = s.vest := rfl
@[simp] theorem State.after_bg : (s.after d i).bg = s.bg := rfl
@[simp] theorem State.after_chestCtl : (s.after d i).chestCtl = s.chestCtl := rfl
@[simp] theorem State.after_power : (s.after d i).power = s.power := rfl
@[simp] theorem State.after_ports : (s.after d i).ports = s.ports := rfl
@[simp] theorem State.after_rd (j : Nat) : (s.after d i).rd j = s.rd j := rfl
@[simp] theorem State.after_fl (j lo len : Nat) : (s.after d i).fl j lo len = s.fl j lo len := rfl
@[simp] theorem State.after_bt (j q : Nat) : (s.after d i).bt j q = s.bt j q := rfl
@[simp] theorem State.after_byte (j : Nat) : (s.after d i).byte j = s.byte j := rfl
@[simp] theorem State.after_memWord (j : Nat) : (s.after d i).memWord j = s.memWord j := rfl
@[simp] theorem State.after_chestByte (j : Nat) : (s.after d i).chestByte j = s.chestByte j := rfl
@[simp] theorem State.after_lat_ (c : Agent) (j : Nat) : (s.after d i).lat? c j = s.lat? c j := rfl
@[simp] theorem State.after_bank (g : Fin 8) (l : Fin 4) : (s.after d i).bank g l = s.bank g l := rfl
@[simp] theorem State.after_near : (s.after d i).near = s.near := rfl
@[simp] theorem State.after_now : (s.after d i).now = s.now := rfl
@[simp] theorem State.after_was (j : Nat) : (s.after d i).was j = s.was j := rfl
@[simp] theorem State.after_fofs : (s.after d i).fofs = s.fofs := rfl
@[simp] theorem State.after_tbclk : (s.after d i).tbclk = s.tbclk := rfl
@[simp] theorem State.after_samples (j : Nat) : (s.after d i).samples j = s.samples j := rfl
@[simp] theorem State.after_rec_ (j : Nat) : (s.after d i).rec? j = s.rec? j := rfl
end afterFields

section dropDueFields
variable (p : Instr → Bool)
@[simp] theorem State.dropDue_pending : (s.dropDue p).pending = s.pending := rfl
@[simp] theorem State.dropDue_later : (s.dropDue p).later = s.later := rfl
@[simp] theorem State.dropDue_ticks : (s.dropDue p).ticks = s.ticks := rfl
@[simp] theorem State.dropDue_phase : (s.dropDue p).phase = s.phase := rfl
@[simp] theorem State.dropDue_sub : (s.dropDue p).sub = s.sub := rfl
@[simp] theorem State.dropDue_free : (s.dropDue p).free = s.free := rfl
@[simp] theorem State.dropDue_regs : (s.dropDue p).regs = s.regs := rfl
@[simp] theorem State.dropDue_marks : (s.dropDue p).marks = s.marks := rfl
@[simp] theorem State.dropDue_old : (s.dropDue p).old = s.old := rfl
@[simp] theorem State.dropDue_lat : (s.dropDue p).lat = s.lat := rfl
@[simp] theorem State.dropDue_mem : (s.dropDue p).mem = s.mem := rfl
@[simp] theorem State.dropDue_chest : (s.dropDue p).chest = s.chest := rfl
@[simp] theorem State.dropDue_tb : (s.dropDue p).tb = s.tb := rfl
@[simp] theorem State.dropDue_ch : (s.dropDue p).ch = s.ch := rfl
@[simp] theorem State.dropDue_pg : (s.dropDue p).pg = s.pg := rfl
@[simp] theorem State.dropDue_nwl : (s.dropDue p).nwl = s.nwl := rfl
@[simp] theorem State.dropDue_land : (s.dropDue p).land = s.land := rfl
@[simp] theorem State.dropDue_flt : (s.dropDue p).flt = s.flt := rfl
@[simp] theorem State.dropDue_out : (s.dropDue p).out = s.out := rfl
@[simp] theorem State.dropDue_rdHost : (s.dropDue p).rdHost = s.rdHost := rfl
@[simp] theorem State.dropDue_rdSup : (s.dropDue p).rdSup = s.rdSup := rfl
@[simp] theorem State.dropDue_rdDebug : (s.dropDue p).rdDebug = s.rdDebug := rfl
@[simp] theorem State.dropDue_ring : (s.dropDue p).ring = s.ring := rfl
@[simp] theorem State.dropDue_gc : (s.dropDue p).gc = s.gc := rfl
@[simp] theorem State.dropDue_gal : (s.dropDue p).gal = s.gal := rfl
@[simp] theorem State.dropDue_txn : (s.dropDue p).txn = s.txn := rfl
@[simp] theorem State.dropDue_staged : (s.dropDue p).staged = s.staged := rfl
@[simp] theorem State.dropDue_snap : (s.dropDue p).snap = s.snap := rfl
@[simp] theorem State.dropDue_pcie : (s.dropDue p).pcie = s.pcie := rfl
@[simp] theorem State.dropDue_peer : (s.dropDue p).peer = s.peer := rfl
@[simp] theorem State.dropDue_eng : (s.dropDue p).eng = s.eng := rfl
@[simp] theorem State.dropDue_go : (s.dropDue p).go = s.go := rfl
@[simp] theorem State.dropDue_pram : (s.dropDue p).pram = s.pram := rfl
@[simp] theorem State.dropDue_pramLast : (s.dropDue p).pramLast = s.pramLast := rfl
@[simp] theorem State.dropDue_lane : (s.dropDue p).lane = s.lane := rfl
@[simp] theorem State.dropDue_patch : (s.dropDue p).patch = s.patch := rfl
@[simp] theorem State.dropDue_vest : (s.dropDue p).vest = s.vest := rfl
@[simp] theorem State.dropDue_bg : (s.dropDue p).bg = s.bg := rfl
@[simp] theorem State.dropDue_chestCtl : (s.dropDue p).chestCtl = s.chestCtl := rfl
@[simp] theorem State.dropDue_power : (s.dropDue p).power = s.power := rfl
@[simp] theorem State.dropDue_ports : (s.dropDue p).ports = s.ports := rfl
@[simp] theorem State.dropDue_rd (j : Nat) : (s.dropDue p).rd j = s.rd j := rfl
@[simp] theorem State.dropDue_fl (j lo len : Nat) : (s.dropDue p).fl j lo len = s.fl j lo len := rfl
@[simp] theorem State.dropDue_bt (j q : Nat) : (s.dropDue p).bt j q = s.bt j q := rfl
@[simp] theorem State.dropDue_byte (j : Nat) : (s.dropDue p).byte j = s.byte j := rfl
@[simp] theorem State.dropDue_memWord (j : Nat) : (s.dropDue p).memWord j = s.memWord j := rfl
@[simp] theorem State.dropDue_chestByte (j : Nat) : (s.dropDue p).chestByte j = s.chestByte j := rfl
@[simp] theorem State.dropDue_lat_ (c : Agent) (j : Nat) : (s.dropDue p).lat? c j = s.lat? c j := rfl
@[simp] theorem State.dropDue_bank (g : Fin 8) (l : Fin 4) : (s.dropDue p).bank g l = s.bank g l := rfl
@[simp] theorem State.dropDue_near : (s.dropDue p).near = s.near := rfl
@[simp] theorem State.dropDue_now : (s.dropDue p).now = s.now := rfl
@[simp] theorem State.dropDue_was (j : Nat) : (s.dropDue p).was j = s.was j := rfl
@[simp] theorem State.dropDue_fofs : (s.dropDue p).fofs = s.fofs := rfl
@[simp] theorem State.dropDue_tbclk : (s.dropDue p).tbclk = s.tbclk := rfl
@[simp] theorem State.dropDue_samples (j : Nat) : (s.dropDue p).samples j = s.samples j := rfl
@[simp] theorem State.dropDue_rec_ (j : Nat) : (s.dropDue p).rec? j = s.rec? j := rfl
end dropDueFields

section laterPrimeFields
variable (d : Nat) (x : Later)
@[simp] theorem State.later'_pending : (s.later' d x).pending = s.pending := rfl
@[simp] theorem State.later'_agenda : (s.later' d x).agenda = s.agenda := rfl
@[simp] theorem State.later'_ticks : (s.later' d x).ticks = s.ticks := rfl
@[simp] theorem State.later'_phase : (s.later' d x).phase = s.phase := rfl
@[simp] theorem State.later'_sub : (s.later' d x).sub = s.sub := rfl
@[simp] theorem State.later'_free : (s.later' d x).free = s.free := rfl
@[simp] theorem State.later'_regs : (s.later' d x).regs = s.regs := rfl
@[simp] theorem State.later'_marks : (s.later' d x).marks = s.marks := rfl
@[simp] theorem State.later'_old : (s.later' d x).old = s.old := rfl
@[simp] theorem State.later'_lat : (s.later' d x).lat = s.lat := rfl
@[simp] theorem State.later'_mem : (s.later' d x).mem = s.mem := rfl
@[simp] theorem State.later'_chest : (s.later' d x).chest = s.chest := rfl
@[simp] theorem State.later'_tb : (s.later' d x).tb = s.tb := rfl
@[simp] theorem State.later'_ch : (s.later' d x).ch = s.ch := rfl
@[simp] theorem State.later'_pg : (s.later' d x).pg = s.pg := rfl
@[simp] theorem State.later'_nwl : (s.later' d x).nwl = s.nwl := rfl
@[simp] theorem State.later'_land : (s.later' d x).land = s.land := rfl
@[simp] theorem State.later'_flt : (s.later' d x).flt = s.flt := rfl
@[simp] theorem State.later'_out : (s.later' d x).out = s.out := rfl
@[simp] theorem State.later'_rdHost : (s.later' d x).rdHost = s.rdHost := rfl
@[simp] theorem State.later'_rdSup : (s.later' d x).rdSup = s.rdSup := rfl
@[simp] theorem State.later'_rdDebug : (s.later' d x).rdDebug = s.rdDebug := rfl
@[simp] theorem State.later'_ring : (s.later' d x).ring = s.ring := rfl
@[simp] theorem State.later'_gc : (s.later' d x).gc = s.gc := rfl
@[simp] theorem State.later'_gal : (s.later' d x).gal = s.gal := rfl
@[simp] theorem State.later'_txn : (s.later' d x).txn = s.txn := rfl
@[simp] theorem State.later'_staged : (s.later' d x).staged = s.staged := rfl
@[simp] theorem State.later'_snap : (s.later' d x).snap = s.snap := rfl
@[simp] theorem State.later'_pcie : (s.later' d x).pcie = s.pcie := rfl
@[simp] theorem State.later'_peer : (s.later' d x).peer = s.peer := rfl
@[simp] theorem State.later'_eng : (s.later' d x).eng = s.eng := rfl
@[simp] theorem State.later'_go : (s.later' d x).go = s.go := rfl
@[simp] theorem State.later'_pram : (s.later' d x).pram = s.pram := rfl
@[simp] theorem State.later'_pramLast : (s.later' d x).pramLast = s.pramLast := rfl
@[simp] theorem State.later'_lane : (s.later' d x).lane = s.lane := rfl
@[simp] theorem State.later'_patch : (s.later' d x).patch = s.patch := rfl
@[simp] theorem State.later'_vest : (s.later' d x).vest = s.vest := rfl
@[simp] theorem State.later'_bg : (s.later' d x).bg = s.bg := rfl
@[simp] theorem State.later'_chestCtl : (s.later' d x).chestCtl = s.chestCtl := rfl
@[simp] theorem State.later'_power : (s.later' d x).power = s.power := rfl
@[simp] theorem State.later'_ports : (s.later' d x).ports = s.ports := rfl
@[simp] theorem State.later'_rd (j : Nat) : (s.later' d x).rd j = s.rd j := rfl
@[simp] theorem State.later'_fl (j lo len : Nat) : (s.later' d x).fl j lo len = s.fl j lo len := rfl
@[simp] theorem State.later'_bt (j q : Nat) : (s.later' d x).bt j q = s.bt j q := rfl
@[simp] theorem State.later'_byte (j : Nat) : (s.later' d x).byte j = s.byte j := rfl
@[simp] theorem State.later'_memWord (j : Nat) : (s.later' d x).memWord j = s.memWord j := rfl
@[simp] theorem State.later'_chestByte (j : Nat) : (s.later' d x).chestByte j = s.chestByte j := rfl
@[simp] theorem State.later'_lat_ (c : Agent) (j : Nat) : (s.later' d x).lat? c j = s.lat? c j := rfl
@[simp] theorem State.later'_bank (g : Fin 8) (l : Fin 4) : (s.later' d x).bank g l = s.bank g l := rfl
@[simp] theorem State.later'_near : (s.later' d x).near = s.near := rfl
@[simp] theorem State.later'_now : (s.later' d x).now = s.now := rfl
@[simp] theorem State.later'_was (j : Nat) : (s.later' d x).was j = s.was j := rfl
@[simp] theorem State.later'_fofs : (s.later' d x).fofs = s.fofs := rfl
@[simp] theorem State.later'_tbclk : (s.later' d x).tbclk = s.tbclk := rfl
@[simp] theorem State.later'_samples (j : Nat) : (s.later' d x).samples j = s.samples j := rfl
@[simp] theorem State.later'_rec_ (j : Nat) : (s.later' d x).rec? j = s.rec? j := rfl
end laterPrimeFields

section laterTicksFields
variable (d : Nat) (x : Later)
@[simp] theorem State.laterTicks_pending : (s.laterTicks d x).pending = s.pending := rfl
@[simp] theorem State.laterTicks_agenda : (s.laterTicks d x).agenda = s.agenda := rfl
@[simp] theorem State.laterTicks_ticks : (s.laterTicks d x).ticks = s.ticks := rfl
@[simp] theorem State.laterTicks_phase : (s.laterTicks d x).phase = s.phase := rfl
@[simp] theorem State.laterTicks_sub : (s.laterTicks d x).sub = s.sub := rfl
@[simp] theorem State.laterTicks_free : (s.laterTicks d x).free = s.free := rfl
@[simp] theorem State.laterTicks_regs : (s.laterTicks d x).regs = s.regs := rfl
@[simp] theorem State.laterTicks_marks : (s.laterTicks d x).marks = s.marks := rfl
@[simp] theorem State.laterTicks_old : (s.laterTicks d x).old = s.old := rfl
@[simp] theorem State.laterTicks_lat : (s.laterTicks d x).lat = s.lat := rfl
@[simp] theorem State.laterTicks_mem : (s.laterTicks d x).mem = s.mem := rfl
@[simp] theorem State.laterTicks_chest : (s.laterTicks d x).chest = s.chest := rfl
@[simp] theorem State.laterTicks_tb : (s.laterTicks d x).tb = s.tb := rfl
@[simp] theorem State.laterTicks_ch : (s.laterTicks d x).ch = s.ch := rfl
@[simp] theorem State.laterTicks_pg : (s.laterTicks d x).pg = s.pg := rfl
@[simp] theorem State.laterTicks_nwl : (s.laterTicks d x).nwl = s.nwl := rfl
@[simp] theorem State.laterTicks_land : (s.laterTicks d x).land = s.land := rfl
@[simp] theorem State.laterTicks_flt : (s.laterTicks d x).flt = s.flt := rfl
@[simp] theorem State.laterTicks_out : (s.laterTicks d x).out = s.out := rfl
@[simp] theorem State.laterTicks_rdHost : (s.laterTicks d x).rdHost = s.rdHost := rfl
@[simp] theorem State.laterTicks_rdSup : (s.laterTicks d x).rdSup = s.rdSup := rfl
@[simp] theorem State.laterTicks_rdDebug : (s.laterTicks d x).rdDebug = s.rdDebug := rfl
@[simp] theorem State.laterTicks_ring : (s.laterTicks d x).ring = s.ring := rfl
@[simp] theorem State.laterTicks_gc : (s.laterTicks d x).gc = s.gc := rfl
@[simp] theorem State.laterTicks_gal : (s.laterTicks d x).gal = s.gal := rfl
@[simp] theorem State.laterTicks_txn : (s.laterTicks d x).txn = s.txn := rfl
@[simp] theorem State.laterTicks_staged : (s.laterTicks d x).staged = s.staged := rfl
@[simp] theorem State.laterTicks_snap : (s.laterTicks d x).snap = s.snap := rfl
@[simp] theorem State.laterTicks_pcie : (s.laterTicks d x).pcie = s.pcie := rfl
@[simp] theorem State.laterTicks_peer : (s.laterTicks d x).peer = s.peer := rfl
@[simp] theorem State.laterTicks_eng : (s.laterTicks d x).eng = s.eng := rfl
@[simp] theorem State.laterTicks_go : (s.laterTicks d x).go = s.go := rfl
@[simp] theorem State.laterTicks_pram : (s.laterTicks d x).pram = s.pram := rfl
@[simp] theorem State.laterTicks_pramLast : (s.laterTicks d x).pramLast = s.pramLast := rfl
@[simp] theorem State.laterTicks_lane : (s.laterTicks d x).lane = s.lane := rfl
@[simp] theorem State.laterTicks_patch : (s.laterTicks d x).patch = s.patch := rfl
@[simp] theorem State.laterTicks_vest : (s.laterTicks d x).vest = s.vest := rfl
@[simp] theorem State.laterTicks_bg : (s.laterTicks d x).bg = s.bg := rfl
@[simp] theorem State.laterTicks_chestCtl : (s.laterTicks d x).chestCtl = s.chestCtl := rfl
@[simp] theorem State.laterTicks_power : (s.laterTicks d x).power = s.power := rfl
@[simp] theorem State.laterTicks_ports : (s.laterTicks d x).ports = s.ports := rfl
@[simp] theorem State.laterTicks_rd (j : Nat) : (s.laterTicks d x).rd j = s.rd j := rfl
@[simp] theorem State.laterTicks_fl (j lo len : Nat) : (s.laterTicks d x).fl j lo len = s.fl j lo len := rfl
@[simp] theorem State.laterTicks_bt (j q : Nat) : (s.laterTicks d x).bt j q = s.bt j q := rfl
@[simp] theorem State.laterTicks_byte (j : Nat) : (s.laterTicks d x).byte j = s.byte j := rfl
@[simp] theorem State.laterTicks_memWord (j : Nat) : (s.laterTicks d x).memWord j = s.memWord j := rfl
@[simp] theorem State.laterTicks_chestByte (j : Nat) : (s.laterTicks d x).chestByte j = s.chestByte j := rfl
@[simp] theorem State.laterTicks_lat_ (c : Agent) (j : Nat) : (s.laterTicks d x).lat? c j = s.lat? c j := rfl
@[simp] theorem State.laterTicks_bank (g : Fin 8) (l : Fin 4) : (s.laterTicks d x).bank g l = s.bank g l := rfl
@[simp] theorem State.laterTicks_near : (s.laterTicks d x).near = s.near := rfl
@[simp] theorem State.laterTicks_now : (s.laterTicks d x).now = s.now := rfl
@[simp] theorem State.laterTicks_was (j : Nat) : (s.laterTicks d x).was j = s.was j := rfl
@[simp] theorem State.laterTicks_fofs : (s.laterTicks d x).fofs = s.fofs := rfl
@[simp] theorem State.laterTicks_tbclk : (s.laterTicks d x).tbclk = s.tbclk := rfl
@[simp] theorem State.laterTicks_samples (j : Nat) : (s.laterTicks d x).samples j = s.samples j := rfl
@[simp] theorem State.laterTicks_rec_ (j : Nat) : (s.laterTicks d x).rec? j = s.rec? j := rfl
end laterTicksFields

section afterTicksFields
variable (d : Nat) (i : Instr)
@[simp] theorem State.afterTicks_pending : (s.afterTicks d i).pending = s.pending := rfl
@[simp] theorem State.afterTicks_later : (s.afterTicks d i).later = s.later := rfl
@[simp] theorem State.afterTicks_ticks : (s.afterTicks d i).ticks = s.ticks := rfl
@[simp] theorem State.afterTicks_phase : (s.afterTicks d i).phase = s.phase := rfl
@[simp] theorem State.afterTicks_sub : (s.afterTicks d i).sub = s.sub := rfl
@[simp] theorem State.afterTicks_free : (s.afterTicks d i).free = s.free := rfl
@[simp] theorem State.afterTicks_regs : (s.afterTicks d i).regs = s.regs := rfl
@[simp] theorem State.afterTicks_marks : (s.afterTicks d i).marks = s.marks := rfl
@[simp] theorem State.afterTicks_old : (s.afterTicks d i).old = s.old := rfl
@[simp] theorem State.afterTicks_lat : (s.afterTicks d i).lat = s.lat := rfl
@[simp] theorem State.afterTicks_mem : (s.afterTicks d i).mem = s.mem := rfl
@[simp] theorem State.afterTicks_chest : (s.afterTicks d i).chest = s.chest := rfl
@[simp] theorem State.afterTicks_tb : (s.afterTicks d i).tb = s.tb := rfl
@[simp] theorem State.afterTicks_ch : (s.afterTicks d i).ch = s.ch := rfl
@[simp] theorem State.afterTicks_pg : (s.afterTicks d i).pg = s.pg := rfl
@[simp] theorem State.afterTicks_nwl : (s.afterTicks d i).nwl = s.nwl := rfl
@[simp] theorem State.afterTicks_land : (s.afterTicks d i).land = s.land := rfl
@[simp] theorem State.afterTicks_flt : (s.afterTicks d i).flt = s.flt := rfl
@[simp] theorem State.afterTicks_out : (s.afterTicks d i).out = s.out := rfl
@[simp] theorem State.afterTicks_rdHost : (s.afterTicks d i).rdHost = s.rdHost := rfl
@[simp] theorem State.afterTicks_rdSup : (s.afterTicks d i).rdSup = s.rdSup := rfl
@[simp] theorem State.afterTicks_rdDebug : (s.afterTicks d i).rdDebug = s.rdDebug := rfl
@[simp] theorem State.afterTicks_ring : (s.afterTicks d i).ring = s.ring := rfl
@[simp] theorem State.afterTicks_gc : (s.afterTicks d i).gc = s.gc := rfl
@[simp] theorem State.afterTicks_gal : (s.afterTicks d i).gal = s.gal := rfl
@[simp] theorem State.afterTicks_txn : (s.afterTicks d i).txn = s.txn := rfl
@[simp] theorem State.afterTicks_staged : (s.afterTicks d i).staged = s.staged := rfl
@[simp] theorem State.afterTicks_snap : (s.afterTicks d i).snap = s.snap := rfl
@[simp] theorem State.afterTicks_pcie : (s.afterTicks d i).pcie = s.pcie := rfl
@[simp] theorem State.afterTicks_peer : (s.afterTicks d i).peer = s.peer := rfl
@[simp] theorem State.afterTicks_eng : (s.afterTicks d i).eng = s.eng := rfl
@[simp] theorem State.afterTicks_go : (s.afterTicks d i).go = s.go := rfl
@[simp] theorem State.afterTicks_pram : (s.afterTicks d i).pram = s.pram := rfl
@[simp] theorem State.afterTicks_pramLast : (s.afterTicks d i).pramLast = s.pramLast := rfl
@[simp] theorem State.afterTicks_lane : (s.afterTicks d i).lane = s.lane := rfl
@[simp] theorem State.afterTicks_patch : (s.afterTicks d i).patch = s.patch := rfl
@[simp] theorem State.afterTicks_vest : (s.afterTicks d i).vest = s.vest := rfl
@[simp] theorem State.afterTicks_bg : (s.afterTicks d i).bg = s.bg := rfl
@[simp] theorem State.afterTicks_chestCtl : (s.afterTicks d i).chestCtl = s.chestCtl := rfl
@[simp] theorem State.afterTicks_power : (s.afterTicks d i).power = s.power := rfl
@[simp] theorem State.afterTicks_ports : (s.afterTicks d i).ports = s.ports := rfl
@[simp] theorem State.afterTicks_rd (j : Nat) : (s.afterTicks d i).rd j = s.rd j := rfl
@[simp] theorem State.afterTicks_fl (j lo len : Nat) : (s.afterTicks d i).fl j lo len = s.fl j lo len := rfl
@[simp] theorem State.afterTicks_bt (j q : Nat) : (s.afterTicks d i).bt j q = s.bt j q := rfl
@[simp] theorem State.afterTicks_byte (j : Nat) : (s.afterTicks d i).byte j = s.byte j := rfl
@[simp] theorem State.afterTicks_memWord (j : Nat) : (s.afterTicks d i).memWord j = s.memWord j := rfl
@[simp] theorem State.afterTicks_chestByte (j : Nat) : (s.afterTicks d i).chestByte j = s.chestByte j := rfl
@[simp] theorem State.afterTicks_lat_ (c : Agent) (j : Nat) : (s.afterTicks d i).lat? c j = s.lat? c j := rfl
@[simp] theorem State.afterTicks_bank (g : Fin 8) (l : Fin 4) : (s.afterTicks d i).bank g l = s.bank g l := rfl
@[simp] theorem State.afterTicks_near : (s.afterTicks d i).near = s.near := rfl
@[simp] theorem State.afterTicks_now : (s.afterTicks d i).now = s.now := rfl
@[simp] theorem State.afterTicks_was (j : Nat) : (s.afterTicks d i).was j = s.was j := rfl
@[simp] theorem State.afterTicks_fofs : (s.afterTicks d i).fofs = s.fofs := rfl
@[simp] theorem State.afterTicks_tbclk : (s.afterTicks d i).tbclk = s.tbclk := rfl
@[simp] theorem State.afterTicks_samples (j : Nat) : (s.afterTicks d i).samples j = s.samples j := rfl
@[simp] theorem State.afterTicks_rec_ (j : Nat) : (s.afterTicks d i).rec? j = s.rec? j := rfl
end afterTicksFields

section journalFields
variable (o : Nat)
@[simp] theorem State.journal_pending : (s.journal o).pending = s.pending := rfl
@[simp] theorem State.journal_agenda : (s.journal o).agenda = s.agenda := rfl
@[simp] theorem State.journal_later : (s.journal o).later = s.later := rfl
@[simp] theorem State.journal_ticks : (s.journal o).ticks = s.ticks := rfl
@[simp] theorem State.journal_phase : (s.journal o).phase = s.phase := rfl
@[simp] theorem State.journal_sub : (s.journal o).sub = s.sub := rfl
@[simp] theorem State.journal_free : (s.journal o).free = s.free := rfl
@[simp] theorem State.journal_regs : (s.journal o).regs = s.regs := rfl
@[simp] theorem State.journal_marks : (s.journal o).marks = s.marks := rfl
@[simp] theorem State.journal_lat : (s.journal o).lat = s.lat := rfl
@[simp] theorem State.journal_mem : (s.journal o).mem = s.mem := rfl
@[simp] theorem State.journal_chest : (s.journal o).chest = s.chest := rfl
@[simp] theorem State.journal_tb : (s.journal o).tb = s.tb := rfl
@[simp] theorem State.journal_ch : (s.journal o).ch = s.ch := rfl
@[simp] theorem State.journal_pg : (s.journal o).pg = s.pg := rfl
@[simp] theorem State.journal_nwl : (s.journal o).nwl = s.nwl := rfl
@[simp] theorem State.journal_land : (s.journal o).land = s.land := rfl
@[simp] theorem State.journal_flt : (s.journal o).flt = s.flt := rfl
@[simp] theorem State.journal_out : (s.journal o).out = s.out := rfl
@[simp] theorem State.journal_rdHost : (s.journal o).rdHost = s.rdHost := rfl
@[simp] theorem State.journal_rdSup : (s.journal o).rdSup = s.rdSup := rfl
@[simp] theorem State.journal_rdDebug : (s.journal o).rdDebug = s.rdDebug := rfl
@[simp] theorem State.journal_ring : (s.journal o).ring = s.ring := rfl
@[simp] theorem State.journal_gc : (s.journal o).gc = s.gc := rfl
@[simp] theorem State.journal_gal : (s.journal o).gal = s.gal := rfl
@[simp] theorem State.journal_txn : (s.journal o).txn = s.txn := rfl
@[simp] theorem State.journal_staged : (s.journal o).staged = s.staged := rfl
@[simp] theorem State.journal_snap : (s.journal o).snap = s.snap := rfl
@[simp] theorem State.journal_pcie : (s.journal o).pcie = s.pcie := rfl
@[simp] theorem State.journal_peer : (s.journal o).peer = s.peer := rfl
@[simp] theorem State.journal_eng : (s.journal o).eng = s.eng := rfl
@[simp] theorem State.journal_go : (s.journal o).go = s.go := rfl
@[simp] theorem State.journal_pram : (s.journal o).pram = s.pram := rfl
@[simp] theorem State.journal_pramLast : (s.journal o).pramLast = s.pramLast := rfl
@[simp] theorem State.journal_lane : (s.journal o).lane = s.lane := rfl
@[simp] theorem State.journal_patch : (s.journal o).patch = s.patch := rfl
@[simp] theorem State.journal_vest : (s.journal o).vest = s.vest := rfl
@[simp] theorem State.journal_bg : (s.journal o).bg = s.bg := rfl
@[simp] theorem State.journal_chestCtl : (s.journal o).chestCtl = s.chestCtl := rfl
@[simp] theorem State.journal_power : (s.journal o).power = s.power := rfl
@[simp] theorem State.journal_ports : (s.journal o).ports = s.ports := rfl
@[simp] theorem State.journal_rd (j : Nat) : (s.journal o).rd j = s.rd j := rfl
@[simp] theorem State.journal_fl (j lo len : Nat) : (s.journal o).fl j lo len = s.fl j lo len := rfl
@[simp] theorem State.journal_bt (j q : Nat) : (s.journal o).bt j q = s.bt j q := rfl
@[simp] theorem State.journal_byte (j : Nat) : (s.journal o).byte j = s.byte j := rfl
@[simp] theorem State.journal_memWord (j : Nat) : (s.journal o).memWord j = s.memWord j := rfl
@[simp] theorem State.journal_chestByte (j : Nat) : (s.journal o).chestByte j = s.chestByte j := rfl
@[simp] theorem State.journal_lat_ (c : Agent) (j : Nat) : (s.journal o).lat? c j = s.lat? c j := rfl
@[simp] theorem State.journal_bank (g : Fin 8) (l : Fin 4) : (s.journal o).bank g l = s.bank g l := rfl
@[simp] theorem State.journal_near : (s.journal o).near = s.near := rfl
@[simp] theorem State.journal_now : (s.journal o).now = s.now := rfl
@[simp] theorem State.journal_fofs : (s.journal o).fofs = s.fofs := rfl
@[simp] theorem State.journal_tbclk : (s.journal o).tbclk = s.tbclk := rfl
@[simp] theorem State.journal_samples (j : Nat) : (s.journal o).samples j = s.samples j := rfl
@[simp] theorem State.journal_rec_ (j : Nat) : (s.journal o).rec? j = s.rec? j := rfl
end journalFields

section servePramFields
variable (a : Fin 11)
@[simp] theorem State.servePram_pending : (s.servePram a).pending = s.pending := rfl
@[simp] theorem State.servePram_agenda : (s.servePram a).agenda = s.agenda := rfl
@[simp] theorem State.servePram_later : (s.servePram a).later = s.later := rfl
@[simp] theorem State.servePram_ticks : (s.servePram a).ticks = s.ticks := rfl
@[simp] theorem State.servePram_phase : (s.servePram a).phase = s.phase := rfl
@[simp] theorem State.servePram_sub : (s.servePram a).sub = s.sub := rfl
@[simp] theorem State.servePram_free : (s.servePram a).free = s.free := rfl
@[simp] theorem State.servePram_regs : (s.servePram a).regs = s.regs := rfl
@[simp] theorem State.servePram_marks : (s.servePram a).marks = s.marks := rfl
@[simp] theorem State.servePram_old : (s.servePram a).old = s.old := rfl
@[simp] theorem State.servePram_lat : (s.servePram a).lat = s.lat := rfl
@[simp] theorem State.servePram_mem : (s.servePram a).mem = s.mem := rfl
@[simp] theorem State.servePram_chest : (s.servePram a).chest = s.chest := rfl
@[simp] theorem State.servePram_tb : (s.servePram a).tb = s.tb := rfl
@[simp] theorem State.servePram_ch : (s.servePram a).ch = s.ch := rfl
@[simp] theorem State.servePram_pg : (s.servePram a).pg = s.pg := rfl
@[simp] theorem State.servePram_nwl : (s.servePram a).nwl = s.nwl := rfl
@[simp] theorem State.servePram_land : (s.servePram a).land = s.land := rfl
@[simp] theorem State.servePram_flt : (s.servePram a).flt = s.flt := rfl
@[simp] theorem State.servePram_out : (s.servePram a).out = s.out := rfl
@[simp] theorem State.servePram_rdHost : (s.servePram a).rdHost = s.rdHost := rfl
@[simp] theorem State.servePram_rdSup : (s.servePram a).rdSup = s.rdSup := rfl
@[simp] theorem State.servePram_rdDebug : (s.servePram a).rdDebug = s.rdDebug := rfl
@[simp] theorem State.servePram_ring : (s.servePram a).ring = s.ring := rfl
@[simp] theorem State.servePram_gc : (s.servePram a).gc = s.gc := rfl
@[simp] theorem State.servePram_gal : (s.servePram a).gal = s.gal := rfl
@[simp] theorem State.servePram_txn : (s.servePram a).txn = s.txn := rfl
@[simp] theorem State.servePram_staged : (s.servePram a).staged = s.staged := rfl
@[simp] theorem State.servePram_snap : (s.servePram a).snap = s.snap := rfl
@[simp] theorem State.servePram_pcie : (s.servePram a).pcie = s.pcie := rfl
@[simp] theorem State.servePram_peer : (s.servePram a).peer = s.peer := rfl
@[simp] theorem State.servePram_eng : (s.servePram a).eng = s.eng := rfl
@[simp] theorem State.servePram_go : (s.servePram a).go = s.go := rfl
@[simp] theorem State.servePram_pramLast : (s.servePram a).pramLast = s.pramLast := rfl
@[simp] theorem State.servePram_lane : (s.servePram a).lane = s.lane := rfl
@[simp] theorem State.servePram_patch : (s.servePram a).patch = s.patch := rfl
@[simp] theorem State.servePram_vest : (s.servePram a).vest = s.vest := rfl
@[simp] theorem State.servePram_bg : (s.servePram a).bg = s.bg := rfl
@[simp] theorem State.servePram_chestCtl : (s.servePram a).chestCtl = s.chestCtl := rfl
@[simp] theorem State.servePram_power : (s.servePram a).power = s.power := rfl
@[simp] theorem State.servePram_ports : (s.servePram a).ports = s.ports := rfl
@[simp] theorem State.servePram_rd (j : Nat) : (s.servePram a).rd j = s.rd j := rfl
@[simp] theorem State.servePram_fl (j lo len : Nat) : (s.servePram a).fl j lo len = s.fl j lo len := rfl
@[simp] theorem State.servePram_bt (j q : Nat) : (s.servePram a).bt j q = s.bt j q := rfl
@[simp] theorem State.servePram_byte (j : Nat) : (s.servePram a).byte j = s.byte j := rfl
@[simp] theorem State.servePram_memWord (j : Nat) : (s.servePram a).memWord j = s.memWord j := rfl
@[simp] theorem State.servePram_chestByte (j : Nat) : (s.servePram a).chestByte j = s.chestByte j := rfl
@[simp] theorem State.servePram_lat_ (c : Agent) (j : Nat) : (s.servePram a).lat? c j = s.lat? c j := rfl
@[simp] theorem State.servePram_bank (g : Fin 8) (l : Fin 4) : (s.servePram a).bank g l = s.bank g l := rfl
@[simp] theorem State.servePram_near : (s.servePram a).near = s.near := rfl
@[simp] theorem State.servePram_now : (s.servePram a).now = s.now := rfl
@[simp] theorem State.servePram_was (j : Nat) : (s.servePram a).was j = s.was j := rfl
@[simp] theorem State.servePram_fofs : (s.servePram a).fofs = s.fofs := rfl
@[simp] theorem State.servePram_tbclk : (s.servePram a).tbclk = s.tbclk := rfl
@[simp] theorem State.servePram_samples (j : Nat) : (s.servePram a).samples j = s.samples j := rfl
@[simp] theorem State.servePram_rec_ (j : Nat) : (s.servePram a).rec? j = s.rec? j := rfl
end servePramFields

section noteEdgeFields
@[simp] theorem State.noteEdge_pending : (s.noteEdge).pending = s.pending := rfl
@[simp] theorem State.noteEdge_agenda : (s.noteEdge).agenda = s.agenda := rfl
@[simp] theorem State.noteEdge_later : (s.noteEdge).later = s.later := rfl
@[simp] theorem State.noteEdge_ticks : (s.noteEdge).ticks = s.ticks := rfl
@[simp] theorem State.noteEdge_phase : (s.noteEdge).phase = s.phase := rfl
@[simp] theorem State.noteEdge_sub : (s.noteEdge).sub = s.sub := rfl
@[simp] theorem State.noteEdge_free : (s.noteEdge).free = s.free := rfl
@[simp] theorem State.noteEdge_regs : (s.noteEdge).regs = s.regs := rfl
@[simp] theorem State.noteEdge_marks : (s.noteEdge).marks = s.marks := rfl
@[simp] theorem State.noteEdge_old : (s.noteEdge).old = s.old := rfl
@[simp] theorem State.noteEdge_lat : (s.noteEdge).lat = s.lat := rfl
@[simp] theorem State.noteEdge_mem : (s.noteEdge).mem = s.mem := rfl
@[simp] theorem State.noteEdge_chest : (s.noteEdge).chest = s.chest := rfl
@[simp] theorem State.noteEdge_tb : (s.noteEdge).tb = s.tb := rfl
@[simp] theorem State.noteEdge_ch : (s.noteEdge).ch = s.ch := rfl
@[simp] theorem State.noteEdge_pg : (s.noteEdge).pg = s.pg := rfl
@[simp] theorem State.noteEdge_nwl : (s.noteEdge).nwl = s.nwl := rfl
@[simp] theorem State.noteEdge_land : (s.noteEdge).land = s.land := rfl
@[simp] theorem State.noteEdge_flt : (s.noteEdge).flt = s.flt := rfl
@[simp] theorem State.noteEdge_out : (s.noteEdge).out = s.out := rfl
@[simp] theorem State.noteEdge_rdHost : (s.noteEdge).rdHost = s.rdHost := rfl
@[simp] theorem State.noteEdge_rdSup : (s.noteEdge).rdSup = s.rdSup := rfl
@[simp] theorem State.noteEdge_rdDebug : (s.noteEdge).rdDebug = s.rdDebug := rfl
@[simp] theorem State.noteEdge_ring : (s.noteEdge).ring = s.ring := rfl
@[simp] theorem State.noteEdge_gc : (s.noteEdge).gc = s.gc := rfl
@[simp] theorem State.noteEdge_gal : (s.noteEdge).gal = s.gal := rfl
@[simp] theorem State.noteEdge_txn : (s.noteEdge).txn = s.txn := rfl
@[simp] theorem State.noteEdge_staged : (s.noteEdge).staged = s.staged := rfl
@[simp] theorem State.noteEdge_snap : (s.noteEdge).snap = s.snap := rfl
@[simp] theorem State.noteEdge_pcie : (s.noteEdge).pcie = s.pcie := rfl
@[simp] theorem State.noteEdge_peer : (s.noteEdge).peer = s.peer := rfl
@[simp] theorem State.noteEdge_eng : (s.noteEdge).eng = s.eng := rfl
@[simp] theorem State.noteEdge_go : (s.noteEdge).go = s.go := rfl
@[simp] theorem State.noteEdge_pram : (s.noteEdge).pram = s.pram := rfl
@[simp] theorem State.noteEdge_pramLast : (s.noteEdge).pramLast = s.pramLast := rfl
@[simp] theorem State.noteEdge_lane : (s.noteEdge).lane = s.lane := rfl
@[simp] theorem State.noteEdge_patch : (s.noteEdge).patch = s.patch := rfl
@[simp] theorem State.noteEdge_bg : (s.noteEdge).bg = s.bg := rfl
@[simp] theorem State.noteEdge_chestCtl : (s.noteEdge).chestCtl = s.chestCtl := rfl
@[simp] theorem State.noteEdge_power : (s.noteEdge).power = s.power := rfl
@[simp] theorem State.noteEdge_ports : (s.noteEdge).ports = s.ports := rfl
@[simp] theorem State.noteEdge_rd (j : Nat) : (s.noteEdge).rd j = s.rd j := rfl
@[simp] theorem State.noteEdge_fl (j lo len : Nat) : (s.noteEdge).fl j lo len = s.fl j lo len := rfl
@[simp] theorem State.noteEdge_bt (j q : Nat) : (s.noteEdge).bt j q = s.bt j q := rfl
@[simp] theorem State.noteEdge_byte (j : Nat) : (s.noteEdge).byte j = s.byte j := rfl
@[simp] theorem State.noteEdge_memWord (j : Nat) : (s.noteEdge).memWord j = s.memWord j := rfl
@[simp] theorem State.noteEdge_chestByte (j : Nat) : (s.noteEdge).chestByte j = s.chestByte j := rfl
@[simp] theorem State.noteEdge_lat_ (c : Agent) (j : Nat) : (s.noteEdge).lat? c j = s.lat? c j := rfl
@[simp] theorem State.noteEdge_bank (g : Fin 8) (l : Fin 4) : (s.noteEdge).bank g l = s.bank g l := rfl
@[simp] theorem State.noteEdge_near : (s.noteEdge).near = s.near := rfl
@[simp] theorem State.noteEdge_now : (s.noteEdge).now = s.now := rfl
@[simp] theorem State.noteEdge_was (j : Nat) : (s.noteEdge).was j = s.was j := rfl
@[simp] theorem State.noteEdge_fofs : (s.noteEdge).fofs = s.fofs := rfl
@[simp] theorem State.noteEdge_tbclk : (s.noteEdge).tbclk = s.tbclk := rfl
@[simp] theorem State.noteEdge_samples (j : Nat) : (s.noteEdge).samples j = s.samples j := rfl
@[simp] theorem State.noteEdge_rec_ (j : Nat) : (s.noteEdge).rec? j = s.rec? j := rfl
end noteEdgeFields

section srqFields
variable (e : Fin 8) (t : Fin 32) (x : SrqSource) (d : Nat)
@[simp] theorem State.srq_pending : (s.srq e t x d).pending = s.pending := rfl
@[simp] theorem State.srq_later : (s.srq e t x d).later = s.later := rfl
@[simp] theorem State.srq_ticks : (s.srq e t x d).ticks = s.ticks := rfl
@[simp] theorem State.srq_phase : (s.srq e t x d).phase = s.phase := rfl
@[simp] theorem State.srq_sub : (s.srq e t x d).sub = s.sub := rfl
@[simp] theorem State.srq_free : (s.srq e t x d).free = s.free := rfl
@[simp] theorem State.srq_regs : (s.srq e t x d).regs = s.regs := rfl
@[simp] theorem State.srq_marks : (s.srq e t x d).marks = s.marks := rfl
@[simp] theorem State.srq_old : (s.srq e t x d).old = s.old := rfl
@[simp] theorem State.srq_lat : (s.srq e t x d).lat = s.lat := rfl
@[simp] theorem State.srq_mem : (s.srq e t x d).mem = s.mem := rfl
@[simp] theorem State.srq_chest : (s.srq e t x d).chest = s.chest := rfl
@[simp] theorem State.srq_tb : (s.srq e t x d).tb = s.tb := rfl
@[simp] theorem State.srq_ch : (s.srq e t x d).ch = s.ch := rfl
@[simp] theorem State.srq_pg : (s.srq e t x d).pg = s.pg := rfl
@[simp] theorem State.srq_nwl : (s.srq e t x d).nwl = s.nwl := rfl
@[simp] theorem State.srq_land : (s.srq e t x d).land = s.land := rfl
@[simp] theorem State.srq_flt : (s.srq e t x d).flt = s.flt := rfl
@[simp] theorem State.srq_out : (s.srq e t x d).out = s.out := rfl
@[simp] theorem State.srq_rdHost : (s.srq e t x d).rdHost = s.rdHost := rfl
@[simp] theorem State.srq_rdSup : (s.srq e t x d).rdSup = s.rdSup := rfl
@[simp] theorem State.srq_rdDebug : (s.srq e t x d).rdDebug = s.rdDebug := rfl
@[simp] theorem State.srq_ring : (s.srq e t x d).ring = s.ring := rfl
@[simp] theorem State.srq_gc : (s.srq e t x d).gc = s.gc := rfl
@[simp] theorem State.srq_gal : (s.srq e t x d).gal = s.gal := rfl
@[simp] theorem State.srq_txn : (s.srq e t x d).txn = s.txn := rfl
@[simp] theorem State.srq_staged : (s.srq e t x d).staged = s.staged := rfl
@[simp] theorem State.srq_snap : (s.srq e t x d).snap = s.snap := rfl
@[simp] theorem State.srq_pcie : (s.srq e t x d).pcie = s.pcie := rfl
@[simp] theorem State.srq_peer : (s.srq e t x d).peer = s.peer := rfl
@[simp] theorem State.srq_eng : (s.srq e t x d).eng = s.eng := rfl
@[simp] theorem State.srq_go : (s.srq e t x d).go = s.go := rfl
@[simp] theorem State.srq_pram : (s.srq e t x d).pram = s.pram := rfl
@[simp] theorem State.srq_pramLast : (s.srq e t x d).pramLast = s.pramLast := rfl
@[simp] theorem State.srq_lane : (s.srq e t x d).lane = s.lane := rfl
@[simp] theorem State.srq_patch : (s.srq e t x d).patch = s.patch := rfl
@[simp] theorem State.srq_vest : (s.srq e t x d).vest = s.vest := rfl
@[simp] theorem State.srq_bg : (s.srq e t x d).bg = s.bg := rfl
@[simp] theorem State.srq_chestCtl : (s.srq e t x d).chestCtl = s.chestCtl := rfl
@[simp] theorem State.srq_power : (s.srq e t x d).power = s.power := rfl
@[simp] theorem State.srq_ports : (s.srq e t x d).ports = s.ports := rfl
@[simp] theorem State.srq_rd (j : Nat) : (s.srq e t x d).rd j = s.rd j := rfl
@[simp] theorem State.srq_fl (j lo len : Nat) : (s.srq e t x d).fl j lo len = s.fl j lo len := rfl
@[simp] theorem State.srq_bt (j q : Nat) : (s.srq e t x d).bt j q = s.bt j q := rfl
@[simp] theorem State.srq_byte (j : Nat) : (s.srq e t x d).byte j = s.byte j := rfl
@[simp] theorem State.srq_memWord (j : Nat) : (s.srq e t x d).memWord j = s.memWord j := rfl
@[simp] theorem State.srq_chestByte (j : Nat) : (s.srq e t x d).chestByte j = s.chestByte j := rfl
@[simp] theorem State.srq_lat_ (c : Agent) (j : Nat) : (s.srq e t x d).lat? c j = s.lat? c j := rfl
@[simp] theorem State.srq_bank (g : Fin 8) (l : Fin 4) : (s.srq e t x d).bank g l = s.bank g l := rfl
@[simp] theorem State.srq_near : (s.srq e t x d).near = s.near := rfl
@[simp] theorem State.srq_now : (s.srq e t x d).now = s.now := rfl
@[simp] theorem State.srq_was (j : Nat) : (s.srq e t x d).was j = s.was j := rfl
@[simp] theorem State.srq_fofs : (s.srq e t x d).fofs = s.fofs := rfl
@[simp] theorem State.srq_tbclk : (s.srq e t x d).tbclk = s.tbclk := rfl
@[simp] theorem State.srq_samples (j : Nat) : (s.srq e t x d).samples j = s.samples j := rfl
@[simp] theorem State.srq_rec_ (j : Nat) : (s.srq e t x d).rec? j = s.rec? j := rfl
end srqFields

section srqViaFields
variable (o : Nat) (x : SrqSource) (d : Nat)
@[simp] theorem State.srqVia_pending : (s.srqVia o x d).pending = s.pending := rfl
@[simp] theorem State.srqVia_later : (s.srqVia o x d).later = s.later := rfl
@[simp] theorem State.srqVia_ticks : (s.srqVia o x d).ticks = s.ticks := rfl
@[simp] theorem State.srqVia_phase : (s.srqVia o x d).phase = s.phase := rfl
@[simp] theorem State.srqVia_sub : (s.srqVia o x d).sub = s.sub := rfl
@[simp] theorem State.srqVia_free : (s.srqVia o x d).free = s.free := rfl
@[simp] theorem State.srqVia_regs : (s.srqVia o x d).regs = s.regs := rfl
@[simp] theorem State.srqVia_marks : (s.srqVia o x d).marks = s.marks := rfl
@[simp] theorem State.srqVia_old : (s.srqVia o x d).old = s.old := rfl
@[simp] theorem State.srqVia_lat : (s.srqVia o x d).lat = s.lat := rfl
@[simp] theorem State.srqVia_mem : (s.srqVia o x d).mem = s.mem := rfl
@[simp] theorem State.srqVia_chest : (s.srqVia o x d).chest = s.chest := rfl
@[simp] theorem State.srqVia_tb : (s.srqVia o x d).tb = s.tb := rfl
@[simp] theorem State.srqVia_ch : (s.srqVia o x d).ch = s.ch := rfl
@[simp] theorem State.srqVia_pg : (s.srqVia o x d).pg = s.pg := rfl
@[simp] theorem State.srqVia_nwl : (s.srqVia o x d).nwl = s.nwl := rfl
@[simp] theorem State.srqVia_land : (s.srqVia o x d).land = s.land := rfl
@[simp] theorem State.srqVia_flt : (s.srqVia o x d).flt = s.flt := rfl
@[simp] theorem State.srqVia_out : (s.srqVia o x d).out = s.out := rfl
@[simp] theorem State.srqVia_rdHost : (s.srqVia o x d).rdHost = s.rdHost := rfl
@[simp] theorem State.srqVia_rdSup : (s.srqVia o x d).rdSup = s.rdSup := rfl
@[simp] theorem State.srqVia_rdDebug : (s.srqVia o x d).rdDebug = s.rdDebug := rfl
@[simp] theorem State.srqVia_ring : (s.srqVia o x d).ring = s.ring := rfl
@[simp] theorem State.srqVia_gc : (s.srqVia o x d).gc = s.gc := rfl
@[simp] theorem State.srqVia_gal : (s.srqVia o x d).gal = s.gal := rfl
@[simp] theorem State.srqVia_txn : (s.srqVia o x d).txn = s.txn := rfl
@[simp] theorem State.srqVia_staged : (s.srqVia o x d).staged = s.staged := rfl
@[simp] theorem State.srqVia_snap : (s.srqVia o x d).snap = s.snap := rfl
@[simp] theorem State.srqVia_pcie : (s.srqVia o x d).pcie = s.pcie := rfl
@[simp] theorem State.srqVia_peer : (s.srqVia o x d).peer = s.peer := rfl
@[simp] theorem State.srqVia_eng : (s.srqVia o x d).eng = s.eng := rfl
@[simp] theorem State.srqVia_go : (s.srqVia o x d).go = s.go := rfl
@[simp] theorem State.srqVia_pram : (s.srqVia o x d).pram = s.pram := rfl
@[simp] theorem State.srqVia_pramLast : (s.srqVia o x d).pramLast = s.pramLast := rfl
@[simp] theorem State.srqVia_lane : (s.srqVia o x d).lane = s.lane := rfl
@[simp] theorem State.srqVia_patch : (s.srqVia o x d).patch = s.patch := rfl
@[simp] theorem State.srqVia_vest : (s.srqVia o x d).vest = s.vest := rfl
@[simp] theorem State.srqVia_bg : (s.srqVia o x d).bg = s.bg := rfl
@[simp] theorem State.srqVia_chestCtl : (s.srqVia o x d).chestCtl = s.chestCtl := rfl
@[simp] theorem State.srqVia_power : (s.srqVia o x d).power = s.power := rfl
@[simp] theorem State.srqVia_ports : (s.srqVia o x d).ports = s.ports := rfl
@[simp] theorem State.srqVia_rd (j : Nat) : (s.srqVia o x d).rd j = s.rd j := rfl
@[simp] theorem State.srqVia_fl (j lo len : Nat) : (s.srqVia o x d).fl j lo len = s.fl j lo len := rfl
@[simp] theorem State.srqVia_bt (j q : Nat) : (s.srqVia o x d).bt j q = s.bt j q := rfl
@[simp] theorem State.srqVia_byte (j : Nat) : (s.srqVia o x d).byte j = s.byte j := rfl
@[simp] theorem State.srqVia_memWord (j : Nat) : (s.srqVia o x d).memWord j = s.memWord j := rfl
@[simp] theorem State.srqVia_chestByte (j : Nat) : (s.srqVia o x d).chestByte j = s.chestByte j := rfl
@[simp] theorem State.srqVia_lat_ (c : Agent) (j : Nat) : (s.srqVia o x d).lat? c j = s.lat? c j := rfl
@[simp] theorem State.srqVia_bank (g : Fin 8) (l : Fin 4) : (s.srqVia o x d).bank g l = s.bank g l := rfl
@[simp] theorem State.srqVia_near : (s.srqVia o x d).near = s.near := rfl
@[simp] theorem State.srqVia_now : (s.srqVia o x d).now = s.now := rfl
@[simp] theorem State.srqVia_was (j : Nat) : (s.srqVia o x d).was j = s.was j := rfl
@[simp] theorem State.srqVia_fofs : (s.srqVia o x d).fofs = s.fofs := rfl
@[simp] theorem State.srqVia_tbclk : (s.srqVia o x d).tbclk = s.tbclk := rfl
@[simp] theorem State.srqVia_samples (j : Nat) : (s.srqVia o x d).samples j = s.samples j := rfl
@[simp] theorem State.srqVia_rec_ (j : Nat) : (s.srqVia o x d).rec? j = s.rec? j := rfl
end srqViaFields

section offerFields
variable (d : Nat) (x : RecGroup)
@[simp] theorem State.offer_pending : (s.offer d x).pending = s.pending := rfl
@[simp] theorem State.offer_later : (s.offer d x).later = s.later := rfl
@[simp] theorem State.offer_ticks : (s.offer d x).ticks = s.ticks := rfl
@[simp] theorem State.offer_phase : (s.offer d x).phase = s.phase := rfl
@[simp] theorem State.offer_sub : (s.offer d x).sub = s.sub := rfl
@[simp] theorem State.offer_free : (s.offer d x).free = s.free := rfl
@[simp] theorem State.offer_regs : (s.offer d x).regs = s.regs := rfl
@[simp] theorem State.offer_marks : (s.offer d x).marks = s.marks := rfl
@[simp] theorem State.offer_old : (s.offer d x).old = s.old := rfl
@[simp] theorem State.offer_lat : (s.offer d x).lat = s.lat := rfl
@[simp] theorem State.offer_mem : (s.offer d x).mem = s.mem := rfl
@[simp] theorem State.offer_chest : (s.offer d x).chest = s.chest := rfl
@[simp] theorem State.offer_tb : (s.offer d x).tb = s.tb := rfl
@[simp] theorem State.offer_ch : (s.offer d x).ch = s.ch := rfl
@[simp] theorem State.offer_pg : (s.offer d x).pg = s.pg := rfl
@[simp] theorem State.offer_nwl : (s.offer d x).nwl = s.nwl := rfl
@[simp] theorem State.offer_land : (s.offer d x).land = s.land := rfl
@[simp] theorem State.offer_flt : (s.offer d x).flt = s.flt := rfl
@[simp] theorem State.offer_out : (s.offer d x).out = s.out := rfl
@[simp] theorem State.offer_rdHost : (s.offer d x).rdHost = s.rdHost := rfl
@[simp] theorem State.offer_rdSup : (s.offer d x).rdSup = s.rdSup := rfl
@[simp] theorem State.offer_rdDebug : (s.offer d x).rdDebug = s.rdDebug := rfl
@[simp] theorem State.offer_ring : (s.offer d x).ring = s.ring := rfl
@[simp] theorem State.offer_gc : (s.offer d x).gc = s.gc := rfl
@[simp] theorem State.offer_gal : (s.offer d x).gal = s.gal := rfl
@[simp] theorem State.offer_txn : (s.offer d x).txn = s.txn := rfl
@[simp] theorem State.offer_staged : (s.offer d x).staged = s.staged := rfl
@[simp] theorem State.offer_snap : (s.offer d x).snap = s.snap := rfl
@[simp] theorem State.offer_pcie : (s.offer d x).pcie = s.pcie := rfl
@[simp] theorem State.offer_peer : (s.offer d x).peer = s.peer := rfl
@[simp] theorem State.offer_eng : (s.offer d x).eng = s.eng := rfl
@[simp] theorem State.offer_go : (s.offer d x).go = s.go := rfl
@[simp] theorem State.offer_pram : (s.offer d x).pram = s.pram := rfl
@[simp] theorem State.offer_pramLast : (s.offer d x).pramLast = s.pramLast := rfl
@[simp] theorem State.offer_lane : (s.offer d x).lane = s.lane := rfl
@[simp] theorem State.offer_patch : (s.offer d x).patch = s.patch := rfl
@[simp] theorem State.offer_vest : (s.offer d x).vest = s.vest := rfl
@[simp] theorem State.offer_bg : (s.offer d x).bg = s.bg := rfl
@[simp] theorem State.offer_chestCtl : (s.offer d x).chestCtl = s.chestCtl := rfl
@[simp] theorem State.offer_power : (s.offer d x).power = s.power := rfl
@[simp] theorem State.offer_ports : (s.offer d x).ports = s.ports := rfl
@[simp] theorem State.offer_rd (j : Nat) : (s.offer d x).rd j = s.rd j := rfl
@[simp] theorem State.offer_fl (j lo len : Nat) : (s.offer d x).fl j lo len = s.fl j lo len := rfl
@[simp] theorem State.offer_bt (j q : Nat) : (s.offer d x).bt j q = s.bt j q := rfl
@[simp] theorem State.offer_byte (j : Nat) : (s.offer d x).byte j = s.byte j := rfl
@[simp] theorem State.offer_memWord (j : Nat) : (s.offer d x).memWord j = s.memWord j := rfl
@[simp] theorem State.offer_chestByte (j : Nat) : (s.offer d x).chestByte j = s.chestByte j := rfl
@[simp] theorem State.offer_lat_ (c : Agent) (j : Nat) : (s.offer d x).lat? c j = s.lat? c j := rfl
@[simp] theorem State.offer_bank (g : Fin 8) (l : Fin 4) : (s.offer d x).bank g l = s.bank g l := rfl
@[simp] theorem State.offer_near : (s.offer d x).near = s.near := rfl
@[simp] theorem State.offer_now : (s.offer d x).now = s.now := rfl
@[simp] theorem State.offer_was (j : Nat) : (s.offer d x).was j = s.was j := rfl
@[simp] theorem State.offer_fofs : (s.offer d x).fofs = s.fofs := rfl
@[simp] theorem State.offer_tbclk : (s.offer d x).tbclk = s.tbclk := rfl
@[simp] theorem State.offer_samples (j : Nat) : (s.offer d x).samples j = s.samples j := rfl
@[simp] theorem State.offer_rec_ (j : Nat) : (s.offer d x).rec? j = s.rec? j := rfl
end offerFields

section enqFields
variable (i : Instr)
@[simp] theorem State.enq_agenda : (s.enq i).agenda = s.agenda := rfl
@[simp] theorem State.enq_later : (s.enq i).later = s.later := rfl
@[simp] theorem State.enq_ticks : (s.enq i).ticks = s.ticks := rfl
@[simp] theorem State.enq_phase : (s.enq i).phase = s.phase := rfl
@[simp] theorem State.enq_sub : (s.enq i).sub = s.sub := rfl
@[simp] theorem State.enq_free : (s.enq i).free = s.free := rfl
@[simp] theorem State.enq_regs : (s.enq i).regs = s.regs := rfl
@[simp] theorem State.enq_marks : (s.enq i).marks = s.marks := rfl
@[simp] theorem State.enq_old : (s.enq i).old = s.old := rfl
@[simp] theorem State.enq_lat : (s.enq i).lat = s.lat := rfl
@[simp] theorem State.enq_mem : (s.enq i).mem = s.mem := rfl
@[simp] theorem State.enq_chest : (s.enq i).chest = s.chest := rfl
@[simp] theorem State.enq_tb : (s.enq i).tb = s.tb := rfl
@[simp] theorem State.enq_ch : (s.enq i).ch = s.ch := rfl
@[simp] theorem State.enq_pg : (s.enq i).pg = s.pg := rfl
@[simp] theorem State.enq_nwl : (s.enq i).nwl = s.nwl := rfl
@[simp] theorem State.enq_land : (s.enq i).land = s.land := rfl
@[simp] theorem State.enq_flt : (s.enq i).flt = s.flt := rfl
@[simp] theorem State.enq_out : (s.enq i).out = s.out := rfl
@[simp] theorem State.enq_rdHost : (s.enq i).rdHost = s.rdHost := rfl
@[simp] theorem State.enq_rdSup : (s.enq i).rdSup = s.rdSup := rfl
@[simp] theorem State.enq_rdDebug : (s.enq i).rdDebug = s.rdDebug := rfl
@[simp] theorem State.enq_ring : (s.enq i).ring = s.ring := rfl
@[simp] theorem State.enq_gc : (s.enq i).gc = s.gc := rfl
@[simp] theorem State.enq_gal : (s.enq i).gal = s.gal := rfl
@[simp] theorem State.enq_txn : (s.enq i).txn = s.txn := rfl
@[simp] theorem State.enq_staged : (s.enq i).staged = s.staged := rfl
@[simp] theorem State.enq_snap : (s.enq i).snap = s.snap := rfl
@[simp] theorem State.enq_pcie : (s.enq i).pcie = s.pcie := rfl
@[simp] theorem State.enq_peer : (s.enq i).peer = s.peer := rfl
@[simp] theorem State.enq_eng : (s.enq i).eng = s.eng := rfl
@[simp] theorem State.enq_go : (s.enq i).go = s.go := rfl
@[simp] theorem State.enq_pram : (s.enq i).pram = s.pram := rfl
@[simp] theorem State.enq_pramLast : (s.enq i).pramLast = s.pramLast := rfl
@[simp] theorem State.enq_lane : (s.enq i).lane = s.lane := rfl
@[simp] theorem State.enq_patch : (s.enq i).patch = s.patch := rfl
@[simp] theorem State.enq_vest : (s.enq i).vest = s.vest := rfl
@[simp] theorem State.enq_bg : (s.enq i).bg = s.bg := rfl
@[simp] theorem State.enq_chestCtl : (s.enq i).chestCtl = s.chestCtl := rfl
@[simp] theorem State.enq_power : (s.enq i).power = s.power := rfl
@[simp] theorem State.enq_ports : (s.enq i).ports = s.ports := rfl
@[simp] theorem State.enq_rd (j : Nat) : (s.enq i).rd j = s.rd j := rfl
@[simp] theorem State.enq_fl (j lo len : Nat) : (s.enq i).fl j lo len = s.fl j lo len := rfl
@[simp] theorem State.enq_bt (j q : Nat) : (s.enq i).bt j q = s.bt j q := rfl
@[simp] theorem State.enq_byte (j : Nat) : (s.enq i).byte j = s.byte j := rfl
@[simp] theorem State.enq_memWord (j : Nat) : (s.enq i).memWord j = s.memWord j := rfl
@[simp] theorem State.enq_chestByte (j : Nat) : (s.enq i).chestByte j = s.chestByte j := rfl
@[simp] theorem State.enq_lat_ (c : Agent) (j : Nat) : (s.enq i).lat? c j = s.lat? c j := rfl
@[simp] theorem State.enq_bank (g : Fin 8) (l : Fin 4) : (s.enq i).bank g l = s.bank g l := rfl
@[simp] theorem State.enq_near : (s.enq i).near = s.near := rfl
@[simp] theorem State.enq_now : (s.enq i).now = s.now := rfl
@[simp] theorem State.enq_was (j : Nat) : (s.enq i).was j = s.was j := rfl
@[simp] theorem State.enq_fofs : (s.enq i).fofs = s.fofs := rfl
@[simp] theorem State.enq_tbclk : (s.enq i).tbclk = s.tbclk := rfl
@[simp] theorem State.enq_samples (j : Nat) : (s.enq i).samples j = s.samples j := rfl
@[simp] theorem State.enq_rec_ (j : Nat) : (s.enq i).rec? j = s.rec? j := rfl
end enqFields

section enqAllFields
variable (is : List Instr)
@[simp] theorem State.enqAll_agenda : (s.enqAll is).agenda = s.agenda := rfl
@[simp] theorem State.enqAll_later : (s.enqAll is).later = s.later := rfl
@[simp] theorem State.enqAll_ticks : (s.enqAll is).ticks = s.ticks := rfl
@[simp] theorem State.enqAll_phase : (s.enqAll is).phase = s.phase := rfl
@[simp] theorem State.enqAll_sub : (s.enqAll is).sub = s.sub := rfl
@[simp] theorem State.enqAll_free : (s.enqAll is).free = s.free := rfl
@[simp] theorem State.enqAll_regs : (s.enqAll is).regs = s.regs := rfl
@[simp] theorem State.enqAll_marks : (s.enqAll is).marks = s.marks := rfl
@[simp] theorem State.enqAll_old : (s.enqAll is).old = s.old := rfl
@[simp] theorem State.enqAll_lat : (s.enqAll is).lat = s.lat := rfl
@[simp] theorem State.enqAll_mem : (s.enqAll is).mem = s.mem := rfl
@[simp] theorem State.enqAll_chest : (s.enqAll is).chest = s.chest := rfl
@[simp] theorem State.enqAll_tb : (s.enqAll is).tb = s.tb := rfl
@[simp] theorem State.enqAll_ch : (s.enqAll is).ch = s.ch := rfl
@[simp] theorem State.enqAll_pg : (s.enqAll is).pg = s.pg := rfl
@[simp] theorem State.enqAll_nwl : (s.enqAll is).nwl = s.nwl := rfl
@[simp] theorem State.enqAll_land : (s.enqAll is).land = s.land := rfl
@[simp] theorem State.enqAll_flt : (s.enqAll is).flt = s.flt := rfl
@[simp] theorem State.enqAll_out : (s.enqAll is).out = s.out := rfl
@[simp] theorem State.enqAll_rdHost : (s.enqAll is).rdHost = s.rdHost := rfl
@[simp] theorem State.enqAll_rdSup : (s.enqAll is).rdSup = s.rdSup := rfl
@[simp] theorem State.enqAll_rdDebug : (s.enqAll is).rdDebug = s.rdDebug := rfl
@[simp] theorem State.enqAll_ring : (s.enqAll is).ring = s.ring := rfl
@[simp] theorem State.enqAll_gc : (s.enqAll is).gc = s.gc := rfl
@[simp] theorem State.enqAll_gal : (s.enqAll is).gal = s.gal := rfl
@[simp] theorem State.enqAll_txn : (s.enqAll is).txn = s.txn := rfl
@[simp] theorem State.enqAll_staged : (s.enqAll is).staged = s.staged := rfl
@[simp] theorem State.enqAll_snap : (s.enqAll is).snap = s.snap := rfl
@[simp] theorem State.enqAll_pcie : (s.enqAll is).pcie = s.pcie := rfl
@[simp] theorem State.enqAll_peer : (s.enqAll is).peer = s.peer := rfl
@[simp] theorem State.enqAll_eng : (s.enqAll is).eng = s.eng := rfl
@[simp] theorem State.enqAll_go : (s.enqAll is).go = s.go := rfl
@[simp] theorem State.enqAll_pram : (s.enqAll is).pram = s.pram := rfl
@[simp] theorem State.enqAll_pramLast : (s.enqAll is).pramLast = s.pramLast := rfl
@[simp] theorem State.enqAll_lane : (s.enqAll is).lane = s.lane := rfl
@[simp] theorem State.enqAll_patch : (s.enqAll is).patch = s.patch := rfl
@[simp] theorem State.enqAll_vest : (s.enqAll is).vest = s.vest := rfl
@[simp] theorem State.enqAll_bg : (s.enqAll is).bg = s.bg := rfl
@[simp] theorem State.enqAll_chestCtl : (s.enqAll is).chestCtl = s.chestCtl := rfl
@[simp] theorem State.enqAll_power : (s.enqAll is).power = s.power := rfl
@[simp] theorem State.enqAll_ports : (s.enqAll is).ports = s.ports := rfl
@[simp] theorem State.enqAll_rd (j : Nat) : (s.enqAll is).rd j = s.rd j := rfl
@[simp] theorem State.enqAll_fl (j lo len : Nat) : (s.enqAll is).fl j lo len = s.fl j lo len := rfl
@[simp] theorem State.enqAll_bt (j q : Nat) : (s.enqAll is).bt j q = s.bt j q := rfl
@[simp] theorem State.enqAll_byte (j : Nat) : (s.enqAll is).byte j = s.byte j := rfl
@[simp] theorem State.enqAll_memWord (j : Nat) : (s.enqAll is).memWord j = s.memWord j := rfl
@[simp] theorem State.enqAll_chestByte (j : Nat) : (s.enqAll is).chestByte j = s.chestByte j := rfl
@[simp] theorem State.enqAll_lat_ (c : Agent) (j : Nat) : (s.enqAll is).lat? c j = s.lat? c j := rfl
@[simp] theorem State.enqAll_bank (g : Fin 8) (l : Fin 4) : (s.enqAll is).bank g l = s.bank g l := rfl
@[simp] theorem State.enqAll_near : (s.enqAll is).near = s.near := rfl
@[simp] theorem State.enqAll_now : (s.enqAll is).now = s.now := rfl
@[simp] theorem State.enqAll_was (j : Nat) : (s.enqAll is).was j = s.was j := rfl
@[simp] theorem State.enqAll_fofs : (s.enqAll is).fofs = s.fofs := rfl
@[simp] theorem State.enqAll_tbclk : (s.enqAll is).tbclk = s.tbclk := rfl
@[simp] theorem State.enqAll_samples (j : Nat) : (s.enqAll is).samples j = s.samples j := rfl
@[simp] theorem State.enqAll_rec_ (j : Nat) : (s.enqAll is).rec? j = s.rec? j := rfl
end enqAllFields

section toFields
variable (p : Nat)
@[simp] theorem State.to_pending : (s.to p).pending = s.pending := rfl
@[simp] theorem State.to_agenda : (s.to p).agenda = s.agenda := rfl
@[simp] theorem State.to_later : (s.to p).later = s.later := rfl
@[simp] theorem State.to_ticks : (s.to p).ticks = s.ticks := rfl
@[simp] theorem State.to_sub : (s.to p).sub = s.sub := rfl
@[simp] theorem State.to_free : (s.to p).free = s.free := rfl
@[simp] theorem State.to_regs : (s.to p).regs = s.regs := rfl
@[simp] theorem State.to_marks : (s.to p).marks = s.marks := rfl
@[simp] theorem State.to_old : (s.to p).old = s.old := rfl
@[simp] theorem State.to_lat : (s.to p).lat = s.lat := rfl
@[simp] theorem State.to_mem : (s.to p).mem = s.mem := rfl
@[simp] theorem State.to_chest : (s.to p).chest = s.chest := rfl
@[simp] theorem State.to_tb : (s.to p).tb = s.tb := rfl
@[simp] theorem State.to_ch : (s.to p).ch = s.ch := rfl
@[simp] theorem State.to_pg : (s.to p).pg = s.pg := rfl
@[simp] theorem State.to_nwl : (s.to p).nwl = s.nwl := rfl
@[simp] theorem State.to_land : (s.to p).land = s.land := rfl
@[simp] theorem State.to_flt : (s.to p).flt = s.flt := rfl
@[simp] theorem State.to_out : (s.to p).out = s.out := rfl
@[simp] theorem State.to_rdHost : (s.to p).rdHost = s.rdHost := rfl
@[simp] theorem State.to_rdSup : (s.to p).rdSup = s.rdSup := rfl
@[simp] theorem State.to_rdDebug : (s.to p).rdDebug = s.rdDebug := rfl
@[simp] theorem State.to_ring : (s.to p).ring = s.ring := rfl
@[simp] theorem State.to_gc : (s.to p).gc = s.gc := rfl
@[simp] theorem State.to_gal : (s.to p).gal = s.gal := rfl
@[simp] theorem State.to_txn : (s.to p).txn = s.txn := rfl
@[simp] theorem State.to_staged : (s.to p).staged = s.staged := rfl
@[simp] theorem State.to_snap : (s.to p).snap = s.snap := rfl
@[simp] theorem State.to_pcie : (s.to p).pcie = s.pcie := rfl
@[simp] theorem State.to_peer : (s.to p).peer = s.peer := rfl
@[simp] theorem State.to_eng : (s.to p).eng = s.eng := rfl
@[simp] theorem State.to_go : (s.to p).go = s.go := rfl
@[simp] theorem State.to_pram : (s.to p).pram = s.pram := rfl
@[simp] theorem State.to_pramLast : (s.to p).pramLast = s.pramLast := rfl
@[simp] theorem State.to_lane : (s.to p).lane = s.lane := rfl
@[simp] theorem State.to_patch : (s.to p).patch = s.patch := rfl
@[simp] theorem State.to_vest : (s.to p).vest = s.vest := rfl
@[simp] theorem State.to_bg : (s.to p).bg = s.bg := rfl
@[simp] theorem State.to_chestCtl : (s.to p).chestCtl = s.chestCtl := rfl
@[simp] theorem State.to_power : (s.to p).power = s.power := rfl
@[simp] theorem State.to_ports : (s.to p).ports = s.ports := rfl
@[simp] theorem State.to_rd (j : Nat) : (s.to p).rd j = s.rd j := rfl
@[simp] theorem State.to_fl (j lo len : Nat) : (s.to p).fl j lo len = s.fl j lo len := rfl
@[simp] theorem State.to_bt (j q : Nat) : (s.to p).bt j q = s.bt j q := rfl
@[simp] theorem State.to_byte (j : Nat) : (s.to p).byte j = s.byte j := rfl
@[simp] theorem State.to_memWord (j : Nat) : (s.to p).memWord j = s.memWord j := rfl
@[simp] theorem State.to_chestByte (j : Nat) : (s.to p).chestByte j = s.chestByte j := rfl
@[simp] theorem State.to_lat_ (c : Agent) (j : Nat) : (s.to p).lat? c j = s.lat? c j := rfl
@[simp] theorem State.to_bank (g : Fin 8) (l : Fin 4) : (s.to p).bank g l = s.bank g l := rfl
@[simp] theorem State.to_near : (s.to p).near = s.near := rfl
@[simp] theorem State.to_now : (s.to p).now = s.now := rfl
@[simp] theorem State.to_was (j : Nat) : (s.to p).was j = s.was j := rfl
@[simp] theorem State.to_fofs : (s.to p).fofs = s.fofs := rfl
@[simp] theorem State.to_tbclk : (s.to p).tbclk = s.tbclk := rfl
@[simp] theorem State.to_samples (j : Nat) : (s.to p).samples j = s.samples j := rfl
@[simp] theorem State.to_rec_ (j : Nat) : (s.to p).rec? j = s.rec? j := rfl
end toFields

/-! ## What an update changes -/

section Reads
variable {s}

@[simp] theorem State.updCh_ch (n : Fin 96) (f : Chan → Chan) (m : Fin 96) :
    (s.updCh n f).ch[m] = if m = n then f s.ch[n] else s.ch[m] := by
  simp only [State.updCh, Fin.getElem_fin, Vector.getElem_set, Fin.ext_iff, eq_comm]
@[simp] theorem State.updPg_pg (n : Fin 16) (f : Pg → Pg) (m : Fin 16) :
    (s.updPg n f).pg[m] = if m = n then f s.pg[n] else s.pg[m] := by
  simp only [State.updPg, Fin.getElem_fin, Vector.getElem_set, Fin.ext_iff, eq_comm]
@[simp] theorem State.updNwl_nwl (n : Fin 4) (f : Nwl → Nwl) (m : Fin 4) :
    (s.updNwl n f).nwl[m] = if m = n then f s.nwl[n] else s.nwl[m] := by
  simp only [State.updNwl, Fin.getElem_fin, Vector.getElem_set, Fin.ext_iff, eq_comm]
@[simp] theorem State.updRing_ring (n : Fin 64) (f : Ring → Ring) (m : Fin 64) :
    (s.updRing n f).ring[m] = if m = n then f s.ring[n] else s.ring[m] := by
  simp only [State.updRing, Fin.getElem_fin, Vector.getElem_set, Fin.ext_iff, eq_comm]
@[simp] theorem State.updTxn_txn (n : Fin 8) (f : Txn → Txn) (m : Fin 8) :
    (s.updTxn n f).txn[m] = if m = n then f s.txn[n] else s.txn[m] := by
  simp only [State.updTxn, Fin.getElem_fin, Vector.getElem_set, Fin.ext_iff, eq_comm]
@[simp] theorem State.updLane_lane (n : Fin 16) (f : Lane → Lane) (m : Fin 16) :
    (s.updLane n f).lane[m] = if m = n then f s.lane[n] else s.lane[m] := by
  simp only [State.updLane, Fin.getElem_fin, Vector.getElem_set, Fin.ext_iff, eq_comm]
@[simp] theorem State.updEng_eng (n : Fin 8) (f : Eng → Eng) (m : Fin 8) :
    (s.updEng n f).eng[m] = if m = n then f s.eng[n] else s.eng[m] := by
  simp only [State.updEng, Fin.getElem_fin, Vector.getElem_set, Fin.ext_iff, eq_comm]
@[simp] theorem State.updCh_ch_nat (n : Fin 96) (f : Chan → Chan) (m : Nat) (h : m < 96) :
    (s.updCh n f).ch[m] = if m = n.val then f s.ch[n] else s.ch[m] := by
  simp only [State.updCh, Vector.getElem_set, eq_comm]
@[simp] theorem State.updPg_pg_nat (n : Fin 16) (f : Pg → Pg) (m : Nat) (h : m < 16) :
    (s.updPg n f).pg[m] = if m = n.val then f s.pg[n] else s.pg[m] := by
  simp only [State.updPg, Vector.getElem_set, eq_comm]
@[simp] theorem State.updNwl_nwl_nat (n : Fin 4) (f : Nwl → Nwl) (m : Nat) (h : m < 4) :
    (s.updNwl n f).nwl[m] = if m = n.val then f s.nwl[n] else s.nwl[m] := by
  simp only [State.updNwl, Vector.getElem_set, eq_comm]
@[simp] theorem State.updRing_ring_nat (n : Fin 64) (f : Ring → Ring) (m : Nat) (h : m < 64) :
    (s.updRing n f).ring[m] = if m = n.val then f s.ring[n] else s.ring[m] := by
  simp only [State.updRing, Vector.getElem_set, eq_comm]
@[simp] theorem State.updTxn_txn_nat (n : Fin 8) (f : Txn → Txn) (m : Nat) (h : m < 8) :
    (s.updTxn n f).txn[m] = if m = n.val then f s.txn[n] else s.txn[m] := by
  simp only [State.updTxn, Vector.getElem_set, eq_comm]
@[simp] theorem State.updLane_lane_nat (n : Fin 16) (f : Lane → Lane) (m : Nat) (h : m < 16) :
    (s.updLane n f).lane[m] = if m = n.val then f s.lane[n] else s.lane[m] := by
  simp only [State.updLane, Vector.getElem_set, eq_comm]
@[simp] theorem State.updEng_eng_nat (n : Fin 8) (f : Eng → Eng) (m : Nat) (h : m < 8) :
    (s.updEng n f).eng[m] = if m = n.val then f s.eng[n] else s.eng[m] := by
  simp only [State.updEng, Vector.getElem_set, eq_comm]
@[simp] theorem State.updBank_bank (e g : Fin 8) (b l : Fin 4) (f : Bank → Bank) :
    (s.updBank e b f).bank g l = if g = e ∧ l = b then f (s.bank e b) else s.bank g l := by
  simp only [State.updBank, State.bank, State.updEng_eng]
  split
  · next h => subst h; simp only [Fin.getElem_fin, Vector.getElem_set, Fin.ext_iff, eq_comm, true_and]
  · next h => simp [h]
@[simp] theorem State.updTb_tb (f : Tb → Tb) : (s.updTb f).tb = f s.tb := rfl
@[simp] theorem State.updLand_land (f : Landing → Landing) : (s.updLand f).land = f s.land := rfl
@[simp] theorem State.updFlt_flt (f : Flt → Flt) : (s.updFlt f).flt = f s.flt := rfl
@[simp] theorem State.updVest_vest (f : Vest → Vest) : (s.updVest f).vest = f s.vest := rfl
@[simp] theorem State.updBg_bg (f : Bg → Bg) : (s.updBg f).bg = f s.bg := rfl
@[simp] theorem State.updPower_power (f : Power → Power) : (s.updPower f).power = f s.power := rfl
@[simp] theorem State.updPorts_ports (f : Ports → Ports) : (s.updPorts f).ports = f s.ports := rfl
@[simp] theorem State.updPeer_peer (f : Peer → Peer) : (s.updPeer f).peer = f s.peer := rfl
@[simp] theorem State.updPatch_patch (f : Patch → Patch) : (s.updPatch f).patch = f s.patch := rfl
@[simp] theorem State.updPcie_pcie (f : Pcie → Pcie) : (s.updPcie f).pcie = f s.pcie := rfl
@[simp] theorem State.wr_rd (o : Nat) (v : Word) (j : Nat) : (s.wr o v).rd j = if j = o then v else s.rd j :=
  Store.get_set regDefault s.regs o v j
@[simp] theorem State.upd_rd (o : Nat) (f : Word → Word) (j : Nat) : (s.upd o f).rd j = if j = o then f (s.rd o) else s.rd j :=
  State.wr_rd o (f (s.rd o)) j
@[simp] theorem State.setFl_rd (o l n v j : Nat) : (s.setFl o l n v).rd j = if j = o then setFld (s.rd o) l n v else s.rd j :=
  State.upd_rd o _ j
@[simp] theorem State.setBt_rd (o k : Nat) (v : Bool) (j : Nat) : (s.setBt o k v).rd j = if j = o then setBit (s.rd o) k v else s.rd j :=
  State.upd_rd o _ j
@[simp] theorem State.note_rd (o : Nat) (f : Word → Word) (j : Nat) : (s.note o f).rd j = if j = o then f (s.rd o) else s.rd j :=
  State.upd_rd o f j
@[simp] theorem State.setEv_rd (o k j : Nat) : (s.setEv o k).rd j = if j = o then setBit (s.rd o) k true else s.rd j :=
  State.note_rd o _ j
@[simp] theorem State.satFl_rd (o l n j : Nat) :
    (s.satFl o l n).rd j = if j = o then setFld (s.rd o) l n (satInc (2 ^ n - 1) (fld (s.rd o) l n)) else s.rd j :=
  State.note_rd o _ j
@[simp] theorem State.setByte_byte (o : Nat) (v : Byte) (j : Nat) : (s.setByte o v).byte j = if j = o ∧ ctxZero o = false then v else s.byte j := by
  unfold State.byte State.setByte
  cases h : ctxZero o
  · simp only [Bool.false_eq_true, if_false, and_true]; exact Store.get_set memDefault s.mem o v j
  · simp
@[simp] theorem State.setChestByte_chestByte (o : Nat) (v : Byte) (j : Nat) :
    (s.setChestByte o v).chestByte j = if j = o then v else s.chestByte j :=
  Store.get_set memDefault s.chest o v j
@[simp] theorem State.after_agenda (d : Nat) (i : Instr) : (s.after d i).agenda = insertDue ⟨s.ticks + s.samples d, i⟩ s.agenda := rfl
@[simp] theorem State.afterTicks_agenda (d : Nat) (i : Instr) : (s.afterTicks d i).agenda = insertDue ⟨s.ticks + d, i⟩ s.agenda := rfl
@[simp] theorem State.later_later (d : Nat) (x : Later) : (s.later' d x).later = s.later ++ [(s.ticks + s.samples d, x)] := rfl
@[simp] theorem State.laterTicks_later (d : Nat) (x : Later) : (s.laterTicks d x).later = s.later ++ [(s.ticks + d, x)] := rfl
@[simp] theorem State.enq_pending (i : Instr) : (s.enq i).pending = s.pending ++ [i] := rfl
@[simp] theorem State.to_phase (p : Nat) : (s.to p).phase = p := rfl

end Reads

end Sys2Proof.Machine
end

