-- ==== Sys2Proof/Laws/Canonical.lean ====
section
/-! SUPPORT. The canonical form of the stores through every shared operation, and the two lemmas that carry it through folds and through
updates of other fields. -/

namespace Sys2Proof.Machine

variable {s t : State}

/-- The canonical form is a matter of the four stores alone. -/
theorem Canonical.of_stores (h : Canonical s) (h1 : t.regs = s.regs) (h2 : t.lat = s.lat) (h3 : t.mem = s.mem) (h4 : t.chest = s.chest) :
    Canonical t := by
  unfold Canonical at *; rw [h1, h2, h3, h4]; exact h

/-- A fold of operations that keep the canonical form keeps it. -/
theorem Canonical.foldl {α : Type} (f : State → α → State) (hf : ∀ s a, Canonical s → Canonical (f s a)) (l : List α) :
    ∀ {s}, Canonical s → Canonical (l.foldl f s) := by
  induction l with
  | nil => intro s h; exact h
  | cons a l ih => intro s h; exact ih (hf s a h)

/-- Rising addresses stay rising when entries go. -/
theorem Store.rising_filter {α : Type} (p : Nat × α → Bool) : ∀ (m : Store α) (b : Nat), Store.rising b m = true → Store.rising b (m.filter p) = true
  | [], _, _ => rfl
  | (a, v) :: m, b, h => by
    simp only [Store.rising, Bool.and_eq_true, decide_eq_true_eq] at h
    rw [List.filter_cons]
    split
    · simp only [Store.rising, Bool.and_eq_true, decide_eq_true_eq]
      exact ⟨h.1, Store.rising_filter p m _ h.2⟩
    · exact Store.rising_filter p m b (Store.rising_mono h.2 (Nat.le_succ_of_le h.1))

/-- A store stays in canonical form when entries go. -/
theorem Store.wf_filter {α : Type} [DecidableEq α] {d : Nat → α} {m : Store α} (p : Nat × α → Bool) (h : Store.wf d m = true) :
    Store.wf d (m.filter p) = true := by
  simp only [Store.wf, Bool.and_eq_true] at *
  refine ⟨Store.rising_filter p m 0 h.1, ?_⟩
  rw [List.all_eq_true] at *
  exact fun x hx => h.2 x (List.mem_filter.mp hx).1

theorem Canonical.wr (h : Canonical s) (o : Nat) (v : Word) : Canonical (s.wr o v) := ⟨Store.wf_set h.1 o v, h.2⟩
theorem Canonical.upd (h : Canonical s) (o : Nat) (f : Word → Word) : Canonical (s.upd o f) := h.wr o _
theorem Canonical.setFl (h : Canonical s) (o lo len v : Nat) : Canonical (s.setFl o lo len v) := h.upd o _
theorem Canonical.setBt (h : Canonical s) (o i : Nat) (b : Bool) : Canonical (s.setBt o i b) := h.upd o _
/-- Recording an event writes its register; the marks of the tick are no store. -/
theorem Canonical.note (h : Canonical s) (o : Nat) (f : Word → Word) : Canonical (s.note o f) := h.upd o f
theorem Canonical.setEv (h : Canonical s) (o i : Nat) : Canonical (s.setEv o i) := h.note o _
theorem Canonical.satFl (h : Canonical s) (o lo len : Nat) : Canonical (s.satFl o lo len) := h.note o _
/-- The latches' default in the two spellings the model uses. -/
theorem latDefault_eq : latDefault = fun k => regDefault (k % 0x100000) := rfl

theorem Canonical.setLat (h : Canonical s) (a : Agent) (o : Nat) (v : Word) : Canonical (s.setLat a o v) := by
  have hl := Store.wf_set h.2.1 (latKey a o) v
  unfold Canonical State.setLat
  refine ⟨h.1, ?_, h.2.2⟩
  rw [latDefault_eq] at hl ⊢
  exact hl

theorem Canonical.setByte (h : Canonical s) (o : Nat) (b : Byte) : Canonical (s.setByte o b) := by
  have hm : Memory.wf (s.setByte o b).mem = true := by
    unfold State.setByte
    split
    · exact h.2.2.1
    · exact Store.wf_set h.2.2.1 o b
  exact ⟨h.1, h.2.1, hm, h.2.2.2⟩
theorem Canonical.setChestByte (h : Canonical s) (o : Nat) (b : Byte) : Canonical (s.setChestByte o b) :=
  ⟨h.1, h.2.1, h.2.2.1, Store.wf_set h.2.2.2 o b⟩

theorem Canonical.setMem (h : Canonical s) (o be : Nat) (v : Word) : Canonical (s.setMem o be v) := by
  have put : ∀ (s : State) (i : Nat), Canonical s → Canonical (if be.testBit i then s.setByte (o + i) (byteOf v i) else s) := by
    intro s i h; split
    · exact h.setByte _ _
    · exact h
  exact put _ 3 (put _ 2 (put _ 1 (put _ 0 h)))

theorem Canonical.setChestWord (h : Canonical s) (o : Nat) (v : Word) : Canonical (s.setChestWord o v) :=
  (((h.setChestByte _ _).setChestByte _ _).setChestByte _ _).setChestByte _ _

/-- Bytes that leave the windows, and registers and latches that return to their reset values, leave the canonical form. -/
theorem Canonical.filterRegs (h : Canonical s) (p : Nat × Word → Bool) : Canonical { s with regs := s.regs.filter p } :=
  ⟨Store.wf_filter p h.1, h.2⟩
theorem Canonical.filterLat (h : Canonical s) (p : Nat × Word → Bool) : Canonical { s with lat := s.lat.filter p } :=
  ⟨h.1, Store.wf_filter p h.2.1, h.2.2⟩
theorem Canonical.filterMem (h : Canonical s) (p : Host.Cell → Bool) : Canonical { s with mem := s.mem.filter p } :=
  ⟨h.1, h.2.1, Store.wf_filter p h.2.2.1, h.2.2.2⟩

theorem Canonical.after (h : Canonical s) (d : Nat) (c : Instr) : Canonical (s.after d c) := h
theorem Canonical.later' (h : Canonical s) (d : Nat) (l : Later) : Canonical (s.later' d l) := h
theorem Canonical.dropDue (h : Canonical s) (p : Instr → Bool) : Canonical (s.dropDue p) := h
theorem Canonical.fresh (h : Canonical s) : Canonical s.fresh.2 := h
theorem Canonical.srq (h : Canonical s) (e : Fin 8) (k : Fin 32) (src : SrqSource) (d : Nat) : Canonical (s.srq e k src d) := h
theorem Canonical.srqVia (h : Canonical s) (o : Nat) (src : SrqSource) (d : Nat) : Canonical (s.srqVia o src d) := h
theorem Canonical.offer (h : Canonical s) (d : Nat) (g : RecGroup) : Canonical (s.offer d g) := h
theorem Canonical.updRec (h : Canonical s) (k : Nat) (f : FltRec → FltRec) : Canonical (s.updRec k f) := h
theorem Canonical.setFltPend (h : Canonical s) (k : Nat) (b : Bool) : Canonical (s.setFltPend k b) := h.setBt _ _ _
theorem Canonical.keep (h : Canonical s) (a : Agent) (v : Word) : Canonical (s.keep a v) := by unfold State.keep; split <;> exact h

/-- A merge into a record in handling writes registers, the record and the agenda. -/
theorem Canonical.mergeRaise (h : Canonical s) (r : Raise) : Canonical (s.mergeRaise r) := by
  unfold State.mergeRaise
  extract_lets k st m s1 log first both s2 real s3 s4 s5
  have both_ok : ∀ (u : State) (f : State → Nat → State), (∀ v o, Canonical v → Canonical (f v o)) → Canonical u → Canonical (both u f) := by
    intro u f hf hu
    have hif : Canonical (if u.bt st 21 then f u log else u) := by
      split
      · exact hf _ _ hu
      · exact hu
    show Canonical (if first then f (if u.bt st 21 then f u log else u) R.FLT_FIRST_W else (if u.bt st 21 then f u log else u))
    split
    · exact hf _ _ hif
    · exact hif
  have h1 : Canonical s1 := (h.setFl _ _ _ _).updRec _ _
  have h2 : Canonical s2 := both_ok s1 (fun s o => s.setFl (o + 12) 0 16 m) (fun _ _ hv => hv.setFl _ _ _ _) h1
  split
  · have h3 : Canonical s3 := both_ok (s2.setBt st 18 true) (fun s o => s.setBt o 11 true) (fun _ _ hv => hv.setBt _ _ _) (h2.setBt _ _ _)
    split
    · exact both_ok (s3.setBt st 19 true) (fun s o => s.setBt o 12 true) (fun _ _ hv => hv.setBt _ _ _) (h3.setBt _ _ _)
    · exact h3
  split
  · exact h2
  · have h4 : Canonical s4 := (h2.setBt _ _ _).updRec _ _
    have h5 : Canonical s5 :=
      both_ok s4 (fun s o => (s.setBt o 12 true).wr (o + 8) r.detail) (fun _ _ hv => (hv.setBt _ _ _).wr _ _) h4
    exact h5.later' _ _

theorem Canonical.raiseWith (h : Canonical s) (r : Raise) : Canonical (s.raiseWith r) := by
  unfold State.raiseWith
  dsimp only
  split
  · exact h.mergeRaise r
  split
  · exact (h.setFltPend _ _).mergeRaise r
  split
  · exact h
  · exact h

theorem Canonical.raise (h : Canonical s) (k : Nat) (d : Word) : Canonical (s.raise k d) := h.raiseWith _
theorem Canonical.endLevel (h : Canonical s) (k : Nat) : Canonical (s.endLevel k) := h.setBt _ _ _
theorem Canonical.rsvd (h : Canonical s) (a : Agent) (o : Nat) : Canonical (s.rsvd a o) := h.raise _ _
theorem Canonical.raiseLevel (h : Canonical s) (k : Nat) (d : Word) : Canonical (s.raiseLevel k d) := by
  unfold State.raiseLevel; split
  · exact h
  · exact (h.setBt _ _ _).raise _ _

/-- The reset state is in canonical form. -/
theorem canonical_reset : Canonical State.reset := ⟨rfl, rfl, rfl, rfl⟩

end Sys2Proof.Machine
end

