-- ==== Sys2Proof/Laws/Engine.lean ====
section
/-! SUPPORT. The end of an engine instruction, said once: what completing it changes and what it leaves. -/

namespace Sys2Proof.Machine

variable {s t u : State} {e : Fin 8} {b : Fin 4}

/-- An engine that executes runs. -/
theorem executing_feRun (h : executing s e = some b) : feRun s e = true := by
  unfold executing at h
  split at h
  · assumption
  · cases h

/-- The bank that executes holds a thread and does not wait. -/
theorem executing_bank (h : executing s e = some b) :
    s.eng[e].level = some b ∧ s.eng[e].disp = none ∧ (s.bank e b).thread.isSome = true ∧ (s.bank e b).wait.isNone = true := by
  unfold executing at h
  split at h
  · split at h
    · next hl hd =>
      split at h
      · next hc => cases h; simp only [Bool.and_eq_true] at hc; exact ⟨hl, hd, hc⟩
      · cases h
    · cases h
  · cases h

/-- A bank that executes an instruction is in no tail. -/
theorem Executes.notTail {i : Instr} (h : Executes s e b i) : (s.bank e b).inTail = false := by
  simp only [Bank.inTail, h.2.1, h.2.2.1, Option.isSome_none, Bool.or_self]

/-- An instruction that no patch redirects has the meaning of its chapter, where the decoder detects nothing. -/
theorem instr_body {i : Instr} {body : State → Fin 4 → State} (h : Executes s e b i) (hd : detect s e b i = none) :
    instr i e s body = .next (body s b) := by
  simp only [instr, h.1, h.notTail, h.2.2.1, h.2.2.2, hd, Bool.false_eq_true, if_false]

/-- What the decoder detects comes before the routine. -/
theorem instr_detected {i : Instr} {body : State → Fin 4 → State} {d : Detected} (h : Executes s e b i) (hd : detect s e b i = some d) :
    instr i e s body = .next (detected s e b d) := by
  simp only [instr, h.1, h.notTail, h.2.2.1, hd, Bool.false_eq_true, if_false]

/-- On an engine that executes nothing an instruction has no effect. -/
theorem instr_none {i : Instr} {body : State → Fin 4 → State} (h : executing s e = none) : instr i e s body = .next s := by
  simp only [instr, h]

@[simp] theorem Bank.flush_pc (x : Bank) : x.flush.pc = x.pc := by
  unfold Bank.flush; split
  · simp only [Bank.put]; split <;> rfl
  · rfl

@[simp] theorem Bank.flush_thread (x : Bank) : x.flush.thread = x.thread := by
  unfold Bank.flush; split
  · simp only [Bank.put]; split <;> rfl
  · rfl

@[simp] theorem Bank.count_pc (x : Bank) : x.count.pc = x.pc := by unfold Bank.count; split <;> rfl
@[simp] theorem Bank.count_thread (x : Bank) : x.count.thread = x.thread := by unfold Bank.count; split <;> rfl
/-- Outside a repetition nothing is counted. -/
theorem Bank.count_none {x : Bank} (h : x.rep = none) : x.count = x := by unfold Bank.count; rw [h]

@[simp] theorem Bank.put_pc (x : Bank) (r : Fin 16) (v : Word) : (x.put r v).pc = x.pc := by unfold Bank.put; split <;> rfl
@[simp] theorem Bank.put_thread (x : Bank) (r : Fin 16) (v : Word) : (x.put r v).thread = x.thread := by unfold Bank.put; split <;> rfl

/-- A register reads what was written to it, g0 reads 0, and every other one reads as before (R203). -/
@[simp] theorem Bank.get_put (x : Bank) (r q : Fin 16) (v : Word) : (x.put r v).get q = if q = 0 then 0 else if q = r then v else x.get q := by
  unfold Bank.put Bank.get
  by_cases hq : q = 0
  · simp [hq]
  · by_cases hr : r = 0
    · simp [hq, hr]
    · simp only [hr, hq, if_false, Fin.getElem_fin, Vector.getElem_set, Fin.ext_iff, eq_comm]

/-- The state of a halt of an engine that runs. -/
theorem haltCmd_run (h : feRun s e = true) : haltCmd s e = (s.setBt (feOff e FE.STAT) 1 true).updEng e (fun x =>
      { x with haltReq := true, wasRun := s.eng[e].wasRun || !feStopping s e, stopAt := if x.stopAt = 0 then s.now else x.stopAt }) := by
  simp only [haltCmd, h, if_true]

/-- The wrap shadows at the end of an instruction change FEe_WRAPACT alone, and only at WRAPHI (R188). -/
theorem passPc_cases (pc : BitVec 16) : passPc s e b pc = s ∨ passPc s e b pc = wrapPass s e pc := by
  unfold passPc; split
  · exact .inl rfl
  · exact .inr rfl

/-- nextPc depends on the bank, on EN and WRAP of its thread and on the wrap registers. -/
theorem nextPc_updBank (f : Bank → Bank) (len : Nat) (hp : (f (s.bank e b)).pc = (s.bank e b).pc)
    (ht : (f (s.bank e b)).thread = (s.bank e b).thread) : nextPc (s.updBank e b f) e b len = nextPc s e b len := by
  simp only [nextPc, State.updBank_bank, and_self, if_true, hp, ht, wrapHi, wrapLo, State.updBank_fl, State.updBank_bt]; rfl

/-- A bank update keeps everything but the engines. -/
@[simp] theorem updBank_withEng (f : Bank → Bank) (r : Store Word) (g : Vector Eng 8) : (s.updBank e b f).withEng r g = s.withEng r g := rfl
theorem updBank_rest (f : Bank → Bank) : (s.updBank e b f).withEng s.regs s.eng = s := rfl

/-- What the end of a single step leaves of an engine that runs: its banks, and every register but STOPPING (R423). -/
theorem stepEnds_run (h : feRun s e = true) :
    (∀ g l, (stepEnds s e).bank g l = s.bank g l) ∧ (stepEnds s e).eng[e].next = s.eng[e].next
      ∧ (∀ o, o ≠ feOff e FE.STAT → (stepEnds s e).rd o = s.rd o)
      ∧ (∀ i, i ≠ 1 → (stepEnds s e).bt (feOff e FE.STAT) i = s.bt (feOff e FE.STAT) i)
      ∧ (stepEnds s e).withEng s.regs s.eng = s := by
  unfold stepEnds
  split
  · rw [haltCmd_run h]
    refine ⟨fun g l => ?_, by simp, fun o ho => by simp [ho], fun i hi => ?_, rfl⟩
    · simp only [State.bank, State.updEng_eng]
      split
      · next he => subst he; rfl
      · rfl
    · simp [State.bt, bit_setBit, hi]
  · exact ⟨fun _ _ => rfl, rfl, fun _ _ => rfl, fun _ _ => rfl, rfl⟩

/-- The wrap shadows change FEe_WRAPACT alone, and only at WRAPHI (R188). -/
theorem wrapPass_frame (pc : BitVec 16) : (∀ o, o ≠ feOff e FE.WRAPACT → (wrapPass s e pc).rd o = s.rd o)
    ∧ (¬(6 ≤ e.val ∧ pc = wrapHi s e) → wrapPass s e pc = s) ∧ (wrapPass s e pc).withEng s.regs s.eng = s
    ∧ (wrapPass s e pc).eng = s.eng := by
  unfold wrapPass wrapShadows
  split
  · next h => exact ⟨fun o ho => by simp [ho], fun hn => by simp at h; exact absurd h hn, rfl, rfl⟩
  · exact ⟨fun _ _ => rfl, fun _ => rfl, rfl, rfl⟩

@[simp] theorem feRun_updBank (f : Bank → Bank) (g : Fin 8) : feRun (s.updBank e b f) g = feRun s g := rfl

/-- FEe_STAT and FEe_WRAPACT are different registers. -/
theorem stat_ne_wrapact : feOff e FE.STAT ≠ feOff e FE.WRAPACT := by simp [feOff]

/-- What the rest of the state agrees in. -/
theorem withEng_congr {t s : State} (h : t.withEng s.regs s.eng = s) (r : Store Word) (g : Vector Eng 8) : t.withEng r g = s.withEng r g := by
  have h2 : (t.withEng s.regs s.eng).withEng r g = s.withEng r g := by rw [h]
  exact h2

/-- The end of an instruction, said once. -/
theorem finish_completed (h : feRun s e = true) (len : Nat) (ld : Option (Fin 16 × Word)) (go : Option (BitVec 16)) (after : Nat) :
    Completed s (finish s e b len ld go after) e b (s.bank e b) len ld go after := by
  let c := s.updBank e b Bank.count
  have hc : nextPc c e b len = nextPc s e b len := nextPc_updBank _ _ (by simp) (by simp)
  have hn : nextPc (endLoad c e b ld) e b len = nextPc s e b len := (nextPc_updBank _ _ (by simp) (by simp)).trans hc
  let u := (endLoad c e b ld).updBank e b (fun x => x.goOn (go.getD (nextPc s e b len)))
  have hub : u.bank e b = ({ (s.bank e b).count.flush with load := ld } : Bank).goOn (go.getD (nextPc s e b len)) := by
    simp [u, endLoad, c]
  have hul : ∀ g l, ¬(g = e ∧ l = b) → u.bank g l = s.bank g l := fun g l hg => by simp [u, endLoad, c, hg]
  obtain ⟨w, hw0⟩ : ∃ w, passPc u e b (s.bank e b).pc = w := ⟨_, rfl⟩
  have hw : (∀ o, o ≠ feOff e FE.WRAPACT → w.rd o = u.rd o)
      ∧ (¬(6 ≤ e.val ∧ (s.bank e b).pc = wrapHi u e) → w = u) ∧ w.withEng u.regs u.eng = u ∧ w.eng = u.eng := by
    rcases passPc_cases (s := u) (e := e) (b := b) (s.bank e b).pc with hp | hp
    · rw [← hw0, hp]; exact ⟨fun _ _ => rfl, fun _ => rfl, rfl, rfl⟩
    · rw [← hw0, hp]; exact wrapPass_frame _
  let v := endTime w e after
  have hv : ∀ g l, v.bank g l = w.bank g l := fun g l => by
    simp only [v, endTime, State.bank, State.updEng_eng]
    split
    · next he => subst he; rfl
    · rfl
  have hwb : ∀ g l, w.bank g l = u.bank g l := fun g l => by
    have : w.eng = u.eng := hw.2.2.2
    simp only [State.bank, this]
  have hvr : ∀ o, v.rd o = w.rd o := fun _ => rfl
  have hws : ∀ o, o ≠ feOff e FE.WRAPACT → w.rd o = s.rd o := fun o ho => hw.1 o ho
  have hrun : feRun v e = true := by
    have : v.bt (feOff e FE.STAT) 0 = s.bt (feOff e FE.STAT) 0 := by
      simp only [State.bt, hvr, hws _ stat_ne_wrapact]
    exact this.trans h
  have he : finish s e b len ld go after = stepEnds v e := by
    have hb : (c.bank e b).pc = (s.bank e b).pc := by simp [c]
    show stepEnds (endTime (passPc ((endLoad c e b ld).updBank e b (fun x => x.goOn (go.getD (nextPc (endLoad c e b ld) e b len)))) e b
      (c.bank e b).pc) e after) e = _
    rw [hn, hb]
    exact congrArg (fun x => stepEnds (endTime x e after) e) hw0
  obtain ⟨h1, h2, h3, h4, h5⟩ := stepEnds_run hrun
  rw [he]
  have hwu : w.withEng u.regs u.eng = u := hw.2.2.1
  have hvw : v.withEng s.regs s.eng = w.withEng s.regs s.eng := rfl
  have hus : u.withEng s.regs s.eng = s := by simp only [u, c, endLoad, updBank_withEng]; rfl
  have hrest : (stepEnds v e).withEng s.regs s.eng = s :=
    (withEng_congr h5 s.regs s.eng).trans (hvw.trans ((withEng_congr hwu s.regs s.eng).trans hus))
  refine ⟨?_, ?_, ?_, ?_, ?_, ?_, ?_, ?_⟩
  · rw [h1, hv, hwb, hub]
  · intro g l hg; rw [h1, hv, hwb, hul g l hg]
  · rw [h2]
    have ht : w.ticks = s.ticks := by have := congrArg State.ticks hwu; exact this
    have hb : w.tb = s.tb := by have := congrArg State.tb hwu; exact this
    have hsm : w.samples (1 + after) = s.samples (1 + after) :=
      State.samples_eq ht hb (hws _ (by simp only [feOff, R.CLK_STAT]; omega)) (hws _ (by simp only [feOff, R.TB_LSTEP]; omega)) _
    simp only [v, endTime, State.updEng_eng, if_true, ht, hsm]
  · intro o ho ho'; rw [h3 o ho, hvr, hws o ho']
  · intro i hi; rw [h4 i hi]; simp only [State.bt, hvr, hws _ stat_ne_wrapact]
  · intro hx
    rw [h3 _ (Ne.symm stat_ne_wrapact), hvr]
    have : w = u := hw.2.1 hx
    rw [this]; rfl
  · intro o
    have : (stepEnds v e).mem = s.mem := by have := congrArg State.mem hrest; exact this
    simp only [State.byte, this]
  · exact hrest

/-- An instruction that ends over a state `u` that differs from `s` in the bank alone. -/
theorem finish_over {f : Bank → Bank} (h : feRun s e = true) (hp : (f (s.bank e b)).pc = (s.bank e b).pc)
    (ht : (f (s.bank e b)).thread = (s.bank e b).thread) (len : Nat) (ld : Option (Fin 16 × Word)) (go : Option (BitVec 16))
    (after : Nat) :
    Completed s (finish (s.updBank e b f) e b len ld go after) e b (f (s.bank e b)) len ld go after := by
  have c := finish_completed (s := s.updBank e b f) (b := b) (e := e) h len ld go after
  have hb : (s.updBank e b f).bank e b = f (s.bank e b) := by simp
  rw [hb] at c
  refine ⟨?_, ?_, c.next, c.regs, c.stat, ?_, c.bytes, ?_⟩
  · rw [c.bank, nextPc_updBank f len hp ht]
  · intro g l hg
    rw [c.banks g l hg]
    simp only [State.updBank_bank, hg, if_false]
  · intro hx
    exact c.wrap (by rw [hb, hp]; exact hx)
  · exact withEng_congr c.rest s.regs s.eng

/-- An instruction that writes one general register. -/
theorem computes_of {i : Instr} {len : Nat} {rd : Fin 16} {f : Bank → Word}
    (h : ∀ s b, Executes s e b i → exec i s = .next (finishReg s e b len rd (f (s.bank e b)))) : Computes i e len rd f := by
  intro s b hx
  refine ⟨_, h s b hx, ?_⟩
  exact finish_over (f := fun x => x.put rd (f (s.bank e b))) (executing_feRun hx.1) (by simp) (by simp) len none none 0

end Sys2Proof.Machine
end

