-- ==== Sys2Proof/Laws/Exec.lean ====
section
/-! SUPPORT. Which meaning each command has, one lemma for each row of the table, and what a step does with the queue. -/

namespace Sys2Proof.Machine

@[simp] theorem exec_registerWrite (a : Agent) (off : Nat) (size : Nat) (v : BitVec 64) (s : State) : exec (.registerWrite a off size v) s = execRegisterWrite a off size v s := rfl
@[simp] theorem exec_rcRead (a : Agent) (off : Nat) (size : Nat) (s : State) : exec (.rcRead a off size) s = execRcRead a off size s := rfl
@[simp] theorem exec_codeRamWrite (a : Agent) (off : Nat) (size : Nat) (v : BitVec 64) (s : State) : exec (.codeRamWrite a off size v) s = execCodeRamWrite a off size v s := rfl
@[simp] theorem exec_ltrimWindowEnd (counted : Nat) (s : State) : exec (.ltrimWindowEnd counted) s = execLtrimWindowEnd counted s := rfl
@[simp] theorem exec_x32Lock (s : State) : exec (.x32Lock) s = execX32Lock s := rfl
@[simp] theorem exec_x32Stop (s : State) : exec (.x32Stop) s = execX32Stop s := rfl
@[simp] theorem exec_pllUnlock (s : State) : exec (.pllUnlock) s = execPllUnlock s := rfl
@[simp] theorem exec_xinLoss (s : State) : exec (.xinLoss) s = execXinLoss s := rfl
@[simp] theorem exec_pllLock (s : State) : exec (.pllLock) s = execPllLock s := rfl
@[simp] theorem exec_tbclkCountingReturn (s : State) : exec (.tbclkCountingReturn) s = execTbclkCountingReturn s := rfl
@[simp] theorem exec_tbStep (a : Agent) (s : State) : exec (.tbStep a) s = execTbStep a s := rfl
@[simp] theorem exec_fofsclr (a : Agent) (s : State) : exec (.fofsclr a) s = execFofsclr a s := rfl
@[simp] theorem exec_slewAdjust (s : State) : exec (.slewAdjust) s = execSlewAdjust s := rfl
@[simp] theorem exec_tbSlewWrite (a : Agent) (v : Word) (s : State) : exec (.tbSlewWrite a v) s = execTbSlewWrite a v s := rfl
@[simp] theorem exec_tbLoRead (a : Agent) (s : State) : exec (.tbLoRead a) s = execTbLoRead a s := rfl
@[simp] theorem exec_tbWrapPassage (s : State) : exec (.tbWrapPassage) s = execTbWrapPassage s := rfl
@[simp] theorem exec_syncInEdge (level : Bool) (fine : BitVec 5) (held : Nat) (s : State) : exec (.syncInEdge level fine held) s = execSyncInEdge level fine held s := rfl
@[simp] theorem exec_syncinTsLoRead (a : Agent) (s : State) : exec (.syncinTsLoRead a) s = execSyncinTsLoRead a s := rfl
@[simp] theorem exec_syncoutEnable (s : State) : exec (.syncoutEnable) s = execSyncoutEnable s := rfl
@[simp] theorem exec_syncoutActiveEdge (s : State) : exec (.syncoutActiveEdge) s = execSyncoutActiveEdge s := rfl
@[simp] theorem exec_syncoutPulseEnd (s : State) : exec (.syncoutPulseEnd) s = execSyncoutPulseEnd s := rfl
@[simp] theorem exec_syncoutDisable (s : State) : exec (.syncoutDisable) s = execSyncoutDisable s := rfl
@[simp] theorem exec_clkFrzWrite (a : Agent) (m : Fin 3) (v : Word) (s : State) : exec (.clkFrzWrite a m v) s = execClkFrzWrite a m v s := rfl
@[simp] theorem exec_channelFreeze (n : Fin 96) (s : State) : exec (.channelFreeze n) s = execChannelFreeze n s := rfl
@[simp] theorem exec_channelRelease (n : Fin 96) (s : State) : exec (.channelRelease n) s = execChannelRelease n s := rfl
@[simp] theorem exec_counterBoundary (n : Fin 96) (s : State) : exec (.counterBoundary n) s = execCounterBoundary n s := rfl
@[simp] theorem exec_counterPeak (n : Fin 96) (s : State) : exec (.counterPeak n) s = execCounterPeak n s := rfl
@[simp] theorem exec_cascadeAdvance (n : Fin 96) (s : State) : exec (.cascadeAdvance n) s = execCascadeAdvance n s := rfl
@[simp] theorem exec_compareMatch (n : Fin 96) (k : Fin 4) (s : State) : exec (.compareMatch n k) s = execCompareMatch n k s := rfl
@[simp] theorem exec_inputEdgeSampled (n : Fin 96) (level : Bool) (fine : BitVec 5) (s : State) : exec (.inputEdgeSampled n level fine) s = execInputEdgeSampled n level fine s := rfl
@[simp] theorem exec_glitchFilterExpiry (n : Fin 96) (s : State) : exec (.glitchFilterExpiry n) s = execGlitchFilterExpiry n s := rfl
@[simp] theorem exec_capture (n : Fin 96) (s : State) : exec (.capture n) s = execCapture n s := rfl
@[simp] theorem exec_capaRead (a : Agent) (n : Fin 96) (s : State) : exec (.capaRead a n) s = execCapaRead a n s := rfl
@[simp] theorem exec_fifoTRead (a : Agent) (n : Fin 96) (s : State) : exec (.fifoTRead a n) s = execFifoTRead a n s := rfl
@[simp] theorem exec_cntRead (a : Agent) (n : Fin 96) (s : State) : exec (.cntRead a n) s = execCntRead a n s := rfl
@[simp] theorem exec_aqTWrite (a : Agent) (n : Fin 96) (v : Word) (s : State) : exec (.aqTWrite a n v) s = execAqTWrite a n v s := rfl
@[simp] theorem exec_aqOffer (a : Agent) (n : Fin 96) (v : Word) (s : State) : exec (.aqOffer a n v) s = execAqOffer a n v s := rfl
@[simp] theorem exec_aqFire (n : Fin 96) (s : State) : exec (.aqFire n) s = execAqFire n s := rfl
@[simp] theorem exec_chLoad (a : Agent) (n : Fin 96) (s : State) : exec (.chLoad a n) s = execChLoad a n s := rfl
@[simp] theorem exec_flush (a : Agent) (n : Fin 96) (s : State) : exec (.flush a n) s = execFlush a n s := rfl
@[simp] theorem exec_fifoclr (a : Agent) (n : Fin 96) (s : State) : exec (.fifoclr a n) s = execFifoclr a n s := rfl
@[simp] theorem exec_chStop (a : Agent) (n : Fin 96) (s : State) : exec (.chStop a n) s = execChStop a n s := rfl
@[simp] theorem exec_chStart (a : Agent) (n : Fin 96) (s : State) : exec (.chStart a n) s = execChStart a n s := rfl
@[simp] theorem exec_channelEnable (a : Agent) (n : Fin 96) (s : State) : exec (.channelEnable a n) s = execChannelEnable a n s := rfl
@[simp] theorem exec_channelDisable (a : Agent) (n : Fin 96) (s : State) : exec (.channelDisable a n) s = execChannelDisable a n s := rfl
@[simp] theorem exec_cntWrite (a : Agent) (n : Fin 96) (v : Word) (s : State) : exec (.cntWrite a n v) s = execCntWrite a n v s := rfl
@[simp] theorem exec_shadowWrite (a : Agent) (n : Fin 96) (r : Shadow) (v : Word) (s : State) : exec (.shadowWrite a n r v) s = execShadowWrite a n r v s := rfl
@[simp] theorem exec_pgBoundary (m : Fin 16) (s : State) : exec (.pgBoundary m) s = execPgBoundary m s := rfl
@[simp] theorem exec_pgPeak (m : Fin 16) (s : State) : exec (.pgPeak m) s = execPgPeak m s := rfl
@[simp] theorem exec_pgStart (a : Agent) (m : Fin 16) (s : State) : exec (.pgStart a m) s = execPgStart a m s := rfl
@[simp] theorem exec_pgGroupStart (m : Fin 16) (s : State) : exec (.pgGroupStart m) s = execPgGroupStart m s := rfl
@[simp] theorem exec_pgStop (a : Agent) (m : Fin 16) (s : State) : exec (.pgStop a m) s = execPgStop a m s := rfl
@[simp] theorem exec_pgDisable (a : Agent) (m : Fin 16) (s : State) : exec (.pgDisable a m) s = execPgDisable a m s := rfl
@[simp] theorem exec_pgLoad (a : Agent) (m : Fin 16) (s : State) : exec (.pgLoad a m) s = execPgLoad a m s := rfl
@[simp] theorem exec_stagger (a : Agent) (m : Fin 16) (s : State) : exec (.stagger a m) s = execStagger a m s := rfl
@[simp] theorem exec_tripclr (a : Agent) (m : Fin 16) (s : State) : exec (.tripclr a m) s = execTripclr a m s := rfl
@[simp] theorem exec_force (a : Agent) (m : Fin 16) (s : State) : exec (.force a m) s = execForce a m s := rfl
@[simp] theorem exec_pgCntWrite (a : Agent) (m : Fin 16) (v : Word) (s : State) : exec (.pgCntWrite a m v) s = execPgCntWrite a m v s := rfl
@[simp] theorem exec_deadTimeExpiry (n : Fin 96) (s : State) : exec (.deadTimeExpiry n) s = execDeadTimeExpiry n s := rfl
@[simp] theorem exec_stretchClose (n : Fin 96) (s : State) : exec (.stretchClose n) s = execStretchClose n s := rfl
@[simp] theorem exec_tripAssert (m : Fin 16) (s : State) : exec (.tripAssert m) s = execTripAssert m s := rfl
@[simp] theorem exec_newelEnable (a : Agent) (n : Fin 4) (s : State) : exec (.newelEnable a n) s = execNewelEnable a n s := rfl
@[simp] theorem exec_newelDisable (a : Agent) (n : Fin 4) (s : State) : exec (.newelDisable a n) s = execNewelDisable a n s := rfl
@[simp] theorem exec_toothReceive (n : Fin 4) (e : EdgeInfo) (s : State) : exec (.toothReceive n e) s = execToothReceive n e s := rfl
@[simp] theorem exec_toothClassify (n : Fin 4) (s : State) : exec (.toothClassify n) s = execToothClassify n s := rfl
@[simp] theorem exec_predictionLoad (n : Fin 4) (s : State) : exec (.predictionLoad n) s = execPredictionLoad n s := rfl
@[simp] theorem exec_holdAngleReached (n : Fin 4) (s : State) : exec (.holdAngleReached n) s = execHoldAngleReached n s := rfl
@[simp] theorem exec_phaseInputEdge (n : Fin 4) (j : Fin 2) (e : EdgeInfo) (s : State) : exec (.phaseInputEdge n j e) s = execPhaseInputEdge n j e s := rfl
@[simp] theorem exec_stallTimeout (n : Fin 4) (s : State) : exec (.stallTimeout n) s = execStallTimeout n s := rfl
@[simp] theorem exec_resync (a : Agent) (n : Fin 4) (s : State) : exec (.resync a n) s = execResync a n s := rfl
@[simp] theorem exec_phset (a : Agent) (n : Fin 4) (phval : Bool) (s : State) : exec (.phset a n phval) s = execPhset a n phval s := rfl
@[simp] theorem exec_errclr (a : Agent) (n : Fin 4) (s : State) : exec (.errclr a n) s = execErrclr a n s := rfl
@[simp] theorem exec_hold (a : Agent) (n : Fin 4) (s : State) : exec (.hold a n) s = execHold a n s := rfl
@[simp] theorem exec_encoderEdge (n : Fin 4) (e : EdgeInfo) (s : State) : exec (.encoderEdge n e) s = execEncoderEdge n e s := rfl
@[simp] theorem exec_zEdge (n : Fin 4) (e : EdgeInfo) (s : State) : exec (.zEdge n e) s = execZEdge n e s := rfl
@[simp] theorem exec_toothtRead (a : Agent) (n : Fin 4) (s : State) : exec (.toothtRead a n) s = execToothtRead a n s := rfl
@[simp] theorem exec_latePass (n : Fin 4) (s : State) : exec (.latePass n) s = execLatePass n s := rfl
@[simp] theorem exec_slotConversion (n : Fin 4) (k : Fin 512) (s : State) : exec (.slotConversion n k) s = execSlotConversion n k s := rfl
@[simp] theorem exec_newelOffer (n : Fin 4) (k : Fin 512) (s : State) : exec (.newelOffer n k) s = execNewelOffer n k s := rfl
@[simp] theorem exec_commitFreeze (n : Fin 4) (k : Fin 512) (s : State) : exec (.commitFreeze n k) s = execCommitFreeze n k s := rfl
@[simp] theorem exec_reoffer (n : Fin 4) (k : Fin 512) (s : State) : exec (.reoffer n k) s = execReoffer n k s := rfl
@[simp] theorem exec_cancel (n : Fin 4) (s : State) : exec (.cancel n) s = execCancel n s := rfl
@[simp] theorem exec_cancelOffer (n : Fin 4) (s : State) : exec (.cancelOffer n) s = execCancelOffer n s := rfl
@[simp] theorem exec_slotWrite (a : Agent) (n : Fin 4) (k : Fin 512) (r : SlotReg) (v : Word) (s : State) : exec (.slotWrite a n k r v) s = execSlotWrite a n k r v s := rfl
@[simp] theorem exec_reEvaluation (n : Fin 4) (s : State) : exec (.reEvaluation n) s = execReEvaluation n s := rfl
@[simp] theorem exec_evlastTRead (a : Agent) (n : Fin 4) (s : State) : exec (.evlastTRead a n) s = execEvlastTRead a n s := rfl
@[simp] theorem exec_srqArrival (e : Fin 8) (t : Fin 32) (src : SrqSource) (s : State) : exec (.srqArrival e t src) s = execSrqArrival e t src s := rfl
@[simp] theorem exec_threadDispatch (e : Fin 8) (s : State) : exec (.threadDispatch e) s = execThreadDispatch e s := rfl
@[simp] theorem exec_preemption (e : Fin 8) (s : State) : exec (.preemption e) s = execPreemption e s := rfl
@[simp] theorem exec_threadConfigWrite (a : Agent) (e : Fin 8) (t : Fin 32) (v : Word) (s : State) : exec (.threadConfigWrite a e t v) s = execThreadConfigWrite a e t v s := rfl
@[simp] theorem exec_feStart (a : Agent) (e : Fin 8) (s : State) : exec (.feStart a e) s = execFeStart a e s := rfl
@[simp] theorem exec_feStop (a : Agent) (e : Fin 8) (s : State) : exec (.feStop a e) s = execFeStop a e s := rfl
@[simp] theorem exec_feStopComplete (e : Fin 8) (s : State) : exec (.feStopComplete e) s = execFeStopComplete e s := rfl
@[simp] theorem exec_feReset (a : Agent) (e : Fin 8) (s : State) : exec (.feReset a e) s = execFeReset a e s := rfl
@[simp] theorem exec_feGoWrite (a : Agent) (v : Word) (s : State) : exec (.feGoWrite a v) s = execFeGoWrite a v s := rfl
@[simp] theorem exec_goAct (s : State) : exec (.goAct) s = execGoAct s := rfl
@[simp] theorem exec_barMaskWrite (a : Agent) (b : Fin 8) (v : Word) (s : State) : exec (.barMaskWrite a b v) s = execBarMaskWrite a b v s := rfl
@[simp] theorem exec_barrierRelease (b : Fin 8) (s : State) : exec (.barrierRelease b) s = execBarrierRelease b s := rfl
@[simp] theorem exec_barrierTimeout (b : Fin 8) (s : State) : exec (.barrierTimeout b) s = execBarrierTimeout b s := rfl
@[simp] theorem exec_wakeTimerFire (e : Fin 8) (j : Fin 8) (s : State) : exec (.wakeTimerFire e j) s = execWakeTimerFire e j s := rfl
@[simp] theorem exec_mbxdb (a : Agent) (e : Fin 8) (v : Word) (s : State) : exec (.mbxdb a e v) s = execMbxdb a e v s := rfl
@[simp] theorem exec_mbxack (a : Agent) (e : Fin 8) (v : Word) (s : State) : exec (.mbxack a e v) s = execMbxack a e v s := rfl
@[simp] theorem exec_lwaitRelease (e : Fin 8) (b : Fin 4) (s : State) : exec (.lwaitRelease e b) s = execLwaitRelease e b s := rfl
@[simp] theorem exec_laneEnable (a : Agent) (k : Fin 16) (v : Word) (s : State) : exec (.laneEnable a k v) s = execLaneEnable a k v s := rfl
@[simp] theorem exec_laneDisable (a : Agent) (k : Fin 16) (s : State) : exec (.laneDisable a k) s = execLaneDisable a k s := rfl
@[simp] theorem exec_txbufWrite (a : Agent) (k : Fin 16) (v : Word) (s : State) : exec (.txbufWrite a k v) s = execTxbufWrite a k v s := rfl
@[simp] theorem exec_rxbufRead (a : Agent) (k : Fin 16) (s : State) : exec (.rxbufRead a k) s = execRxbufRead a k s := rfl
@[simp] theorem exec_laneWordStart (k : Fin 16) (s : State) : exec (.laneWordStart k) s = execLaneWordStart k s := rfl
@[simp] theorem exec_laneWordComplete (k : Fin 16) (s : State) : exec (.laneWordComplete k) s = execLaneWordComplete k s := rfl
@[simp] theorem exec_pulseEdge (k : Fin 16) (e : EdgeInfo) (s : State) : exec (.pulseEdge k e) s = execPulseEdge k e s := rfl
@[simp] theorem exec_laneStart (a : Agent) (k : Fin 16) (s : State) : exec (.laneStart a k) s = execLaneStart a k s := rfl
@[simp] theorem exec_laneReset (a : Agent) (k : Fin 16) (s : State) : exec (.laneReset a k) s = execLaneReset a k s := rfl
@[simp] theorem exec_cont (a : Agent) (k : Fin 16) (s : State) : exec (.cont a k) s = execCont a k s := rfl
@[simp] theorem exec_divrst (a : Agent) (k : Fin 16) (s : State) : exec (.divrst a k) s = execDivrst a k s := rfl
@[simp] theorem exec_lanePause (k : Fin 16) (s : State) : exec (.lanePause k) s = execLanePause k s := rfl
@[simp] theorem exec_nop (e : Fin 8) (s : State) : exec (.nop e) s = execNop e s := rfl
@[simp] theorem exec_done (e : Fin 8) (s : State) : exec (.done e) s = execDone e s := rfl
@[simp] theorem exec_yield (e : Fin 8) (s : State) : exec (.yield e) s = execYield e s := rfl
@[simp] theorem exec_ret (e : Fin 8) (s : State) : exec (.ret e) s = execRet e s := rfl
@[simp] theorem exec_rep (e : Fin 8) (n : Fin 16) (s : State) : exec (.rep e n) s = execRep e n s := rfl
@[simp] theorem exec_push (e : Fin 8) (r : Fin 16) (s : State) : exec (.push e r) s = execPush e r s := rfl
@[simp] theorem exec_pop (e : Fin 8) (r : Fin 16) (s : State) : exec (.pop e r) s = execPop e r s := rfl
@[simp] theorem exec_mov (e : Fin 8) (rd rs : Fin 16) (s : State) : exec (.mov e rd rs) s = execMov e rd rs s := rfl
@[simp] theorem exec_add (e : Fin 8) (rd rs rt : Fin 16) (long : Bool) (s : State) : exec (.add e rd rs rt long) s = execAdd e rd rs rt long s := rfl
@[simp] theorem exec_sub (e : Fin 8) (rd rs rt : Fin 16) (long : Bool) (s : State) : exec (.sub e rd rs rt long) s = execSub e rd rs rt long s := rfl
@[simp] theorem exec_and (e : Fin 8) (rd rs rt : Fin 16) (long : Bool) (s : State) : exec (.and e rd rs rt long) s = execAnd e rd rs rt long s := rfl
@[simp] theorem exec_or (e : Fin 8) (rd rs rt : Fin 16) (long : Bool) (s : State) : exec (.or e rd rs rt long) s = execOr e rd rs rt long s := rfl
@[simp] theorem exec_xor (e : Fin 8) (rd rs rt : Fin 16) (long : Bool) (s : State) : exec (.xor e rd rs rt long) s = execXor e rd rs rt long s := rfl
@[simp] theorem exec_shl (e : Fin 8) (rd rs rt : Fin 16) (long : Bool) (s : State) : exec (.shl e rd rs rt long) s = execShl e rd rs rt long s := rfl
@[simp] theorem exec_shr (e : Fin 8) (rd rs rt : Fin 16) (long : Bool) (s : State) : exec (.shr e rd rs rt long) s = execShr e rd rs rt long s := rfl
@[simp] theorem exec_sar (e : Fin 8) (rd rs rt : Fin 16) (long : Bool) (s : State) : exec (.sar e rd rs rt long) s = execSar e rd rs rt long s := rfl
@[simp] theorem exec_ror (e : Fin 8) (rd rs rt : Fin 16) (s : State) : exec (.ror e rd rs rt) s = execRor e rd rs rt s := rfl
@[simp] theorem exec_neg (e : Fin 8) (rd rs : Fin 16) (s : State) : exec (.neg e rd rs) s = execNeg e rd rs s := rfl
@[simp] theorem exec_not (e : Fin 8) (rd rs : Fin 16) (s : State) : exec (.not e rd rs) s = execNot e rd rs s := rfl
@[simp] theorem exec_slt (e : Fin 8) (rd rs rt : Fin 16) (long : Bool) (s : State) : exec (.slt e rd rs rt long) s = execSlt e rd rs rt long s := rfl
@[simp] theorem exec_sltu (e : Fin 8) (rd rs rt : Fin 16) (long : Bool) (s : State) : exec (.sltu e rd rs rt long) s = execSltu e rd rs rt long s := rfl
@[simp] theorem exec_seq (e : Fin 8) (rd rs rt : Fin 16) (long : Bool) (s : State) : exec (.seq e rd rs rt long) s = execSeq e rd rs rt long s := rfl
@[simp] theorem exec_sne (e : Fin 8) (rd rs rt : Fin 16) (long : Bool) (s : State) : exec (.sne e rd rs rt long) s = execSne e rd rs rt long s := rfl
@[simp] theorem exec_sbefore (e : Fin 8) (rd rs rt : Fin 16) (long : Bool) (s : State) : exec (.sbefore e rd rs rt long) s = execSbefore e rd rs rt long s := rfl
@[simp] theorem exec_tadd (e : Fin 8) (rd rs rt : Fin 16) (s : State) : exec (.tadd e rd rs rt) s = execTadd e rd rs rt s := rfl
@[simp] theorem exec_soadd (e : Fin 8) (rd rs rt : Fin 16) (s : State) : exec (.soadd e rd rs rt) s = execSoadd e rd rs rt s := rfl
@[simp] theorem exec_sosub (e : Fin 8) (rd rs rt : Fin 16) (s : State) : exec (.sosub e rd rs rt) s = execSosub e rd rs rt s := rfl
@[simp] theorem exec_soneg (e : Fin 8) (rd rs : Fin 16) (s : State) : exec (.soneg e rd rs) s = execSoneg e rd rs s := rfl
@[simp] theorem exec_min (e : Fin 8) (rd rs rt : Fin 16) (s : State) : exec (.min e rd rs rt) s = execMin e rd rs rt s := rfl
@[simp] theorem exec_max (e : Fin 8) (rd rs rt : Fin 16) (s : State) : exec (.max e rd rs rt) s = execMax e rd rs rt s := rfl
@[simp] theorem exec_minu (e : Fin 8) (rd rs rt : Fin 16) (s : State) : exec (.minu e rd rs rt) s = execMinu e rd rs rt s := rfl
@[simp] theorem exec_maxu (e : Fin 8) (rd rs rt : Fin 16) (s : State) : exec (.maxu e rd rs rt) s = execMaxu e rd rs rt s := rfl
@[simp] theorem exec_clz (e : Fin 8) (rd rs : Fin 16) (s : State) : exec (.clz e rd rs) s = execClz e rd rs s := rfl
@[simp] theorem exec_addi8 (e : Fin 8) (rd : Fin 16) (imm : BitVec 8) (s : State) : exec (.addi8 e rd imm) s = execAddi8 e rd imm s := rfl
@[simp] theorem exec_li8 (e : Fin 8) (rd : Fin 16) (imm : BitVec 8) (s : State) : exec (.li8 e rd imm) s = execLi8 e rd imm s := rfl
@[simp] theorem exec_lwsp (e : Fin 8) (rd : Fin 16) (u : BitVec 8) (s : State) : exec (.lwsp e rd u) s = execLwsp e rd u s := rfl
@[simp] theorem exec_swsp (e : Fin 8) (rs : Fin 16) (u : BitVec 8) (s : State) : exec (.swsp e rs u) s = execSwsp e rs u s := rfl
@[simp] theorem exec_bz (e : Fin 8) (rs : Fin 16) (ofs : BitVec 16) (long : Bool) (s : State) : exec (.bz e rs ofs long) s = execBz e rs ofs long s := rfl
@[simp] theorem exec_bnz (e : Fin 8) (rs : Fin 16) (ofs : BitVec 16) (long : Bool) (s : State) : exec (.bnz e rs ofs long) s = execBnz e rs ofs long s := rfl
@[simp] theorem exec_br (e : Fin 8) (ofs : BitVec 16) (long : Bool) (s : State) : exec (.br e ofs long) s = execBr e ofs long s := rfl
@[simp] theorem exec_shli (e : Fin 8) (rd : Fin 16) (amt : BitVec 6) (s : State) : exec (.shli e rd amt) s = execShli e rd amt s := rfl
@[simp] theorem exec_shri (e : Fin 8) (rd : Fin 16) (amt : BitVec 6) (s : State) : exec (.shri e rd amt) s = execShri e rd amt s := rfl
@[simp] theorem exec_sari (e : Fin 8) (rd : Fin 16) (amt : BitVec 6) (s : State) : exec (.sari e rd amt) s = execSari e rd amt s := rfl
@[simp] theorem exec_rori (e : Fin 8) (rd : Fin 16) (amt : BitVec 6) (s : State) : exec (.rori e rd amt) s = execRori e rd amt s := rfl
@[simp] theorem exec_lw4 (e : Fin 8) (rd rb : Fin 16) (u : BitVec 4) (s : State) : exec (.lw4 e rd rb u) s = execLw4 e rd rb u s := rfl
@[simp] theorem exec_sw4 (e : Fin 8) (rs rb : Fin 16) (u : BitVec 4) (s : State) : exec (.sw4 e rs rb u) s = execSw4 e rs rb u s := rfl
@[simp] theorem exec_mul (e : Fin 8) (rd rs rt : Fin 16) (s : State) : exec (.mul e rd rs rt) s = execMul e rd rs rt s := rfl
@[simp] theorem exec_mulh (e : Fin 8) (rd rs rt : Fin 16) (s : State) : exec (.mulh e rd rs rt) s = execMulh e rd rs rt s := rfl
@[simp] theorem exec_mulhu (e : Fin 8) (rd rs rt : Fin 16) (s : State) : exec (.mulhu e rd rs rt) s = execMulhu e rd rs rt s := rfl
@[simp] theorem exec_div (e : Fin 8) (rd rs rt : Fin 16) (s : State) : exec (.div e rd rs rt) s = execDiv e rd rs rt s := rfl
@[simp] theorem exec_divu (e : Fin 8) (rd rs rt : Fin 16) (s : State) : exec (.divu e rd rs rt) s = execDivu e rd rs rt s := rfl
@[simp] theorem exec_rem (e : Fin 8) (rd rs rt : Fin 16) (s : State) : exec (.rem e rd rs rt) s = execRem e rd rs rt s := rfl
@[simp] theorem exec_remu (e : Fin 8) (rd rs rt : Fin 16) (s : State) : exec (.remu e rd rs rt) s = execRemu e rd rs rt s := rfl
@[simp] theorem exec_mac (e : Fin 8) (a : Bool) (rs rt : Fin 16) (s : State) : exec (.mac e a rs rt) s = execMac e a rs rt s := rfl
@[simp] theorem exec_msu (e : Fin 8) (a : Bool) (rs rt : Fin 16) (s : State) : exec (.msu e a rs rt) s = execMsu e a rs rt s := rfl
@[simp] theorem exec_macu (e : Fin 8) (a : Bool) (rs rt : Fin 16) (s : State) : exec (.macu e a rs rt) s = execMacu e a rs rt s := rfl
@[simp] theorem exec_wra (e : Fin 8) (a : Bool) (rs rt : Fin 16) (s : State) : exec (.wra e a rs rt) s = execWra e a rs rt s := rfl
@[simp] theorem exec_rdal (e : Fin 8) (rd : Fin 16) (a : Bool) (s : State) : exec (.rdal e rd a) s = execRdal e rd a s := rfl
@[simp] theorem exec_rdah (e : Fin 8) (rd : Fin 16) (a : Bool) (s : State) : exec (.rdah e rd a) s = execRdah e rd a s := rfl
@[simp] theorem exec_shra (e : Fin 8) (rd rt : Fin 16) (a : Bool) (s : State) : exec (.shra e rd rt a) s = execShra e rd rt a s := rfl
@[simp] theorem exec_macd (e : Fin 8) (gx gy : Fin 16) (half a : Bool) (s : State) : exec (.macd e gx gy half a) s = execMacd e gx gy half a s := rfl
@[simp] theorem exec_angadd (e : Fin 8) (rd rs rt : Fin 16) (s : State) : exec (.angadd e rd rs rt) s = execAngadd e rd rs rt s := rfl
@[simp] theorem exec_angsub (e : Fin 8) (rd rs rt : Fin 16) (s : State) : exec (.angsub e rd rs rt) s = execAngsub e rd rs rt s := rfl
@[simp] theorem exec_li (e : Fin 8) (rd : Fin 16) (imm : BitVec 16) (s : State) : exec (.li e rd imm) s = execLi e rd imm s := rfl
@[simp] theorem exec_lui (e : Fin 8) (rd : Fin 16) (imm : BitVec 16) (s : State) : exec (.lui e rd imm) s = execLui e rd imm s := rfl
@[simp] theorem exec_addi (e : Fin 8) (rd rs : Fin 16) (imm : BitVec 16) (s : State) : exec (.addi e rd rs imm) s = execAddi e rd rs imm s := rfl
@[simp] theorem exec_andi (e : Fin 8) (rd rs : Fin 16) (imm : BitVec 16) (s : State) : exec (.andi e rd rs imm) s = execAndi e rd rs imm s := rfl
@[simp] theorem exec_ori (e : Fin 8) (rd rs : Fin 16) (imm : BitVec 16) (s : State) : exec (.ori e rd rs imm) s = execOri e rd rs imm s := rfl
@[simp] theorem exec_xori (e : Fin 8) (rd rs : Fin 16) (imm : BitVec 16) (s : State) : exec (.xori e rd rs imm) s = execXori e rd rs imm s := rfl
@[simp] theorem exec_slti (e : Fin 8) (rd rs : Fin 16) (imm : BitVec 16) (s : State) : exec (.slti e rd rs imm) s = execSlti e rd rs imm s := rfl
@[simp] theorem exec_sltui (e : Fin 8) (rd rs : Fin 16) (imm : BitVec 16) (s : State) : exec (.sltui e rd rs imm) s = execSltui e rd rs imm s := rfl
@[simp] theorem exec_seqi (e : Fin 8) (rd rs : Fin 16) (imm : BitVec 16) (s : State) : exec (.seqi e rd rs imm) s = execSeqi e rd rs imm s := rfl
@[simp] theorem exec_snei (e : Fin 8) (rd rs : Fin 16) (imm : BitVec 16) (s : State) : exec (.snei e rd rs imm) s = execSnei e rd rs imm s := rfl
@[simp] theorem exec_lw (e : Fin 8) (rd rs : Fin 16) (imm : BitVec 16) (s : State) : exec (.lw e rd rs imm) s = execLw e rd rs imm s := rfl
@[simp] theorem exec_lh (e : Fin 8) (rd rs : Fin 16) (imm : BitVec 16) (s : State) : exec (.lh e rd rs imm) s = execLh e rd rs imm s := rfl
@[simp] theorem exec_lhu (e : Fin 8) (rd rs : Fin 16) (imm : BitVec 16) (s : State) : exec (.lhu e rd rs imm) s = execLhu e rd rs imm s := rfl
@[simp] theorem exec_lb (e : Fin 8) (rd rs : Fin 16) (imm : BitVec 16) (s : State) : exec (.lb e rd rs imm) s = execLb e rd rs imm s := rfl
@[simp] theorem exec_lbu (e : Fin 8) (rd rs : Fin 16) (imm : BitVec 16) (s : State) : exec (.lbu e rd rs imm) s = execLbu e rd rs imm s := rfl
@[simp] theorem exec_sw (e : Fin 8) (rs rb : Fin 16) (imm : BitVec 16) (s : State) : exec (.sw e rs rb imm) s = execSw e rs rb imm s := rfl
@[simp] theorem exec_sh (e : Fin 8) (rs rb : Fin 16) (imm : BitVec 16) (s : State) : exec (.sh e rs rb imm) s = execSh e rs rb imm s := rfl
@[simp] theorem exec_sb (e : Fin 8) (rs rb : Fin 16) (imm : BitVec 16) (s : State) : exec (.sb e rs rb imm) s = execSb e rs rb imm s := rfl
@[simp] theorem exec_lwpi (e : Fin 8) (rd rb : Fin 16) (imm : BitVec 16) (s : State) : exec (.lwpi e rd rb imm) s = execLwpi e rd rb imm s := rfl
@[simp] theorem exec_swpi (e : Fin 8) (rs rb : Fin 16) (imm : BitVec 16) (s : State) : exec (.swpi e rs rb imm) s = execSwpi e rs rb imm s := rfl
@[simp] theorem exec_call (e : Fin 8) (target : BitVec 16) (s : State) : exec (.call e target) s = execCall e target s := rfl
@[simp] theorem exec_jr (e : Fin 8) (rs : Fin 16) (s : State) : exec (.jr e rs) s = execJr e rs s := rfl
@[simp] theorem exec_callr (e : Fin 8) (rs : Fin 16) (s : State) : exec (.callr e rs) s = execCallr e rs s := rfl
@[simp] theorem exec_repi (e : Fin 8) (n : BitVec 16) (s : State) : exec (.repi e n) s = execRepi e n s := rfl
@[simp] theorem exec_repir (e : Fin 8) (rs : Fin 16) (s : State) : exec (.repir e rs) s = execRepir e rs s := rfl
@[simp] theorem exec_inp (e : Fin 8) (rd rb : Fin 16) (imm : BitVec 16) (s : State) : exec (.inp e rd rb imm) s = execInp e rd rb imm s := rfl
@[simp] theorem exec_out (e : Fin 8) (rs rb : Fin 16) (imm : BitVec 16) (s : State) : exec (.out e rs rb imm) s = execOut e rs rb imm s := rfl
@[simp] theorem exec_lwait (e : Fin 8) (rd lane : Fin 16) (cond : Fin 4) (s : State) : exec (.lwait e rd lane cond) s = execLwait e rd lane cond s := rfl
@[simp] theorem exec_bar (e : Fin 8) (rd : Fin 16) (b : Fin 8) (s : State) : exec (.bar e rd b) s = execBar e rd b s := rfl
@[simp] theorem exec_sig (e : Fin 8) (t : Fin 8) (th : Fin 32) (s : State) : exec (.sig e t th) s = execSig e t th s := rfl
@[simp] theorem exec_mfs (e : Fin 8) (rd : Fin 16) (sr : Fin 6) (s : State) : exec (.mfs e rd sr) s = execMfs e rd sr s := rfl
@[simp] theorem exec_mts (e : Fin 8) (sr : Fin 5) (rs : Fin 16) (s : State) : exec (.mts e sr rs) s = execMts e sr rs s := rfl
@[simp] theorem exec_illegalInstruction (e : Fin 8) (s : State) : exec (.illegalInstruction e) s = execIllegalInstruction e s := rfl
@[simp] theorem exec_mcLoad (s : State) : exec (.mcLoad) s = execMcLoad s := rfl
@[simp] theorem exec_patchActivate (s : State) : exec (.patchActivate) s = execPatchActivate s := rfl
@[simp] theorem exec_unload (s : State) : exec (.unload) s = execUnload s := rfl
@[simp] theorem exec_advsvn (s : State) : exec (.advsvn) s = execAdvsvn s := rfl
@[simp] theorem exec_fuseStep (s : State) : exec (.fuseStep) s = execFuseStep s := rfl
@[simp] theorem exec_chestwr (s : State) : exec (.chestwr) s = execChestwr s := rfl
@[simp] theorem exec_doorbell (a : Agent) (r : Fin 64) (v : Word) (s : State) : exec (.doorbell a r v) s = execDoorbell a r v s := rfl
@[simp] theorem exec_descriptorArrival (r : Fin 64) (ok : Bool) (ws : List Word) (s : State) : exec (.descriptorArrival r ok ws) s = execDescriptorArrival r ok ws s := rfl
@[simp] theorem exec_hostReadCompletion (g : Fin 16) (ok : Bool) (data : List Byte) (s : State) : exec (.hostReadCompletion g ok data) s = execHostReadCompletion g ok data s := rfl
@[simp] theorem exec_descNop (r : Fin 64) (s : State) : exec (.descNop r) s = execDescNop r s := rfl
@[simp] theorem exec_descWrite (r : Fin 64) (s : State) : exec (.descWrite r) s = execDescWrite r s := rfl
@[simp] theorem exec_writep (r : Fin 64) (s : State) : exec (.writep r) s = execWritep r s := rfl
@[simp] theorem exec_descRead (r : Fin 64) (s : State) : exec (.descRead r) s = execDescRead r s := rfl
@[simp] theorem exec_copy (r : Fin 64) (s : State) : exec (.copy r) s = execCopy r s := rfl
@[simp] theorem exec_fill (r : Fin 64) (s : State) : exec (.fill r) s = execFill r s := rfl
@[simp] theorem exec_descFence (r : Fin 64) (s : State) : exec (.descFence r) s = execDescFence r s := rfl
@[simp] theorem exec_txnBegin (r : Fin 64) (s : State) : exec (.txnBegin r) s = execTxnBegin r s := rfl
@[simp] theorem exec_txnCommit (r : Fin 64) (s : State) : exec (.txnCommit r) s = execTxnCommit r s := rfl
@[simp] theorem exec_txnRollback (r : Fin 64) (s : State) : exec (.txnRollback r) s = execTxnRollback r s := rfl
@[simp] theorem exec_snapDescriptor (r : Fin 64) (s : State) : exec (.snapDescriptor r) s = execSnapDescriptor r s := rfl
@[simp] theorem exec_descriptorComplete (r : Fin 64) (s : State) : exec (.descriptorComplete r) s = execDescriptorComplete r s := rfl
@[simp] theorem exec_ringEnable (a : Agent) (r : Fin 64) (s : State) : exec (.ringEnable a r) s = execRingEnable a r s := rfl
@[simp] theorem exec_ringDisable (a : Agent) (r : Fin 64) (s : State) : exec (.ringDisable a r) s = execRingDisable a r s := rfl
@[simp] theorem exec_drainEnd (r : Fin 64) (s : State) : exec (.drainEnd r) s = execDrainEnd r s := rfl
@[simp] theorem exec_abort (a : Agent) (r : Fin 64) (s : State) : exec (.abort a r) s = execAbort a r s := rfl
@[simp] theorem exec_resume (a : Agent) (r : Fin 64) (s : State) : exec (.resume a r) s = execResume a r s := rfl
@[simp] theorem exec_attach (a : Agent) (r : Fin 64) (s : State) : exec (.attach a r) s = execAttach a r s := rfl
@[simp] theorem exec_rearm (a : Agent) (r : Fin 64) (s : State) : exec (.rearm a r) s = execRearm a r s := rfl
@[simp] theorem exec_irqTimerExpiry (r : Fin 64) (s : State) : exec (.irqTimerExpiry r) s = execIrqTimerExpiry r s := rfl
@[simp] theorem exec_entryPublish (r : Fin 64) (s : State) : exec (.entryPublish r) s = execEntryPublish r s := rfl
@[simp] theorem exec_blockPublish (r : Fin 64) (s : State) : exec (.blockPublish r) s = execBlockPublish r s := rfl
@[simp] theorem exec_perstN (s : State) : exec (.perstN) s = execPerstN s := rfl
@[simp] theorem exec_linkDown (s : State) : exec (.linkDown) s = execLinkDown s := rfl
@[simp] theorem exec_linkUp (s : State) : exec (.linkUp) s = execLinkUp s := rfl
@[simp] theorem exec_recordEntry (g : RecGroup) (s : State) : exec (.recordEntry g) s = execRecordEntry g s := rfl
@[simp] theorem exec_entryQueueEntry (s : State) : exec (.entryQueueEntry) s = execEntryQueueEntry s := rfl
@[simp] theorem exec_leaveDiscarding (r : Fin 64) (s : State) : exec (.leaveDiscarding r) s = execLeaveDiscarding r s := rfl
@[simp] theorem exec_flushTimerExpiry (r : Fin 64) (s : State) : exec (.flushTimerExpiry r) s = execFlushTimerExpiry r s := rfl
@[simp] theorem exec_blockWrite (r : Fin 64) (s : State) : exec (.blockWrite r) s = execBlockWrite r s := rfl
@[simp] theorem exec_galMarkWrite (a : Agent) (v : Word) (s : State) : exec (.galMarkWrite a v) s = execGalMarkWrite a v s := rfl
@[simp] theorem exec_begin (a : Agent) (t : Fin 8) (s : State) : exec (.begin a t) s = execBegin a t s := rfl
@[simp] theorem exec_rollback (a : Agent) (t : Fin 8) (s : State) : exec (.rollback a t) s = execRollback a t s := rfl
@[simp] theorem exec_commit (a : Agent) (t : Fin 8) (s : State) : exec (.commit a t) s = execCommit a t s := rfl
@[simp] theorem exec_sofsWrite (a : Agent) (t : Fin 8) (v : Word) (s : State) : exec (.sofsWrite a t v) s = execSofsWrite a t v s := rfl
@[simp] theorem exec_svalWrite (a : Agent) (t : Fin 8) (v : Word) (s : State) : exec (.svalWrite a t v) s = execSvalWrite a t v s := rfl
@[simp] theorem exec_landing (t : Fin 8) (s : State) : exec (.landing t) s = execLanding t s := rfl
@[simp] theorem exec_snapStrobe (s : State) : exec (.snapStrobe) s = execSnapStrobe s := rfl
@[simp] theorem exec_timedSnap (s : State) : exec (.timedSnap) s = execTimedSnap s := rfl
@[simp] theorem exec_peerSnap (s : State) : exec (.peerSnap) s = execPeerSnap s := rfl
@[simp] theorem exec_peerSnapLatch (s : State) : exec (.peerSnapLatch) s = execPeerSnapLatch s := rfl
@[simp] theorem exec_readRetry (mem : Fin 10) (off : Nat) (q : Requester) (clean : Bool) (s : State) : exec (.readRetry mem off q clean) s = execReadRetry mem off q clean s := rfl
@[simp] theorem exec_recordCreate (s : State) : exec (.recordCreate) s = execRecordCreate s := rfl
@[simp] theorem exec_persistentLogWrite (s : State) : exec (.persistentLogWrite) s = execPersistentLogWrite s := rfl
@[simp] theorem exec_faultReset (s : State) : exec (.faultReset) s = execFaultReset s := rfl
@[simp] theorem exec_pendClear (a : Agent) (j : Fin 8) (v : Word) (s : State) : exec (.pendClear a j v) s = execPendClear a j v s := rfl
@[simp] theorem exec_ffclr (s : State) : exec (.ffclr) s = execFfclr s := rfl
@[simp] theorem exec_logclr (s : State) : exec (.logclr) s = execLogclr s := rfl
@[simp] theorem exec_pendclr (s : State) : exec (.pendclr) s = execPendclr s := rfl
@[simp] theorem exec_inject (a : Agent) (v : Word) (s : State) : exec (.inject a v) s = execInject a v s := rfl
@[simp] theorem exec_safeclr (a : Agent) (v : Word) (s : State) : exec (.safeclr a v) s = execSafeclr a v s := rfl
@[simp] theorem exec_evaluation (s : State) : exec (.evaluation) s = execEvaluation s := rfl
@[simp] theorem exec_bgCancel (s : State) : exec (.bgCancel) s = execBgCancel s := rfl
@[simp] theorem exec_selfTest (a : Agent) (v : Word) (s : State) : exec (.selfTest a v) s = execSelfTest a v s := rfl
@[simp] theorem exec_recalibrate (a : Agent) (v : Word) (s : State) : exec (.recalibrate a v) s = execRecalibrate a v s := rfl
@[simp] theorem exec_selfTestEnd (pass : Bool) (ofs : BitVec 20) (s : State) : exec (.selfTestEnd pass ofs) s = execSelfTestEnd pass ofs s := rfl
@[simp] theorem exec_scrubPass (s : State) : exec (.scrubPass) s = execScrubPass s := rfl
@[simp] theorem exec_calibrationTurn (fl : Fin 8) (ok : Bool) (s : State) : exec (.calibrationTurn fl ok) s = execCalibrationTurn fl ok s := rfl
@[simp] theorem exec_delayLineSwap (fl : Fin 8) (s : State) : exec (.delayLineSwap fl) s = execDelayLineSwap fl s := rfl
@[simp] theorem exec_swapSkip (fl : Fin 8) (s : State) : exec (.swapSkip fl) s = execSwapSkip fl s := rfl
@[simp] theorem exec_telemetrySample (s : State) : exec (.telemetrySample) s = execTelemetrySample s := rfl
@[simp] theorem exec_tempMeasure (t01 t23 : Word) (s : State) : exec (.tempMeasure t01 t23) s = execTempMeasure t01 t23 s := rfl
@[simp] theorem exec_chestRead (a : Agent) (cnt : BitVec 7) (s : State) : exec (.chestRead a cnt) s = execChestRead a cnt s := rfl
@[simp] theorem exec_chestReadDone (ok : Bool) (s : State) : exec (.chestReadDone ok) s = execChestReadDone ok s := rfl
@[simp] theorem exec_chestWrite (a : Agent) (cnt : BitVec 7) (s : State) : exec (.chestWrite a cnt) s = execChestWrite a cnt s := rfl
@[simp] theorem exec_chestRowDone (ok : Bool) (s : State) : exec (.chestRowDone ok) s = execChestRowDone ok s := rfl
@[simp] theorem exec_wearLevelMove (b : Nat) (s : State) : exec (.wearLevelMove b) s = execWearLevelMove b s := rfl
@[simp] theorem exec_lifetimeCommit (s : State) : exec (.lifetimeCommit) s = execLifetimeCommit s := rfl
@[simp] theorem exec_supplyWarn (k : Fin 5) (s : State) : exec (.supplyWarn k) s = execSupplyWarn k s := rfl
@[simp] theorem exec_dipRecovery (k : Fin 5) (minmv : BitVec 16) (dur : Word) (s : State) : exec (.dipRecovery k minmv dur) s = execDipRecovery k minmv dur s := rfl
@[simp] theorem exec_supplyReset (k : Fin 5) (s : State) : exec (.supplyReset k) s = execSupplyReset k s := rfl
@[simp] theorem exec_pfailN (s : State) : exec (.pfailN) s = execPfailN s := rfl
@[simp] theorem exec_lgs (s : State) : exec (.lgs) s = execLgs s := rfl
@[simp] theorem exec_lgsDone (s : State) : exec (.lgsDone) s = execLgsDone s := rfl
@[simp] theorem exec_doze (s : State) : exec (.doze) s = execDoze s := rfl
@[simp] theorem exec_dozeEntry (s : State) : exec (.dozeEntry) s = execDozeEntry s := rfl
@[simp] theorem exec_run (s : State) : exec (.run) s = execRun s := rfl
@[simp] theorem exec_dozeExit (s : State) : exec (.dozeExit) s = execDozeExit s := rfl
@[simp] theorem exec_dormant (s : State) : exec (.dormant) s = execDormant s := rfl
@[simp] theorem exec_wakePin (n : Fin 16) (s : State) : exec (.wakePin n) s = execWakePin n s := rfl
@[simp] theorem exec_lobbyWakeTimer (j : Fin 8) (s : State) : exec (.lobbyWakeTimer j) s = execLobbyWakeTimer j s := rfl
@[simp] theorem exec_powerOnReset (s : State) : exec (.powerOnReset) s = execPowerOnReset s := rfl
@[simp] theorem exec_resetN (s : State) : exec (.resetN) s = execResetN s := rfl
@[simp] theorem exec_hostReset (s : State) : exec (.hostReset) s = execHostReset s := rfl
@[simp] theorem exec_supReset (s : State) : exec (.supReset) s = execSupReset s := rfl
@[simp] theorem exec_peerReset (s : State) : exec (.peerReset) s = execPeerReset s := rfl
@[simp] theorem exec_galReset (s : State) : exec (.galReset) s = execGalReset s := rfl
@[simp] theorem exec_timingReset (s : State) : exec (.timingReset) s = execTimingReset s := rfl
@[simp] theorem exec_vddGood (vio : BitVec 3) (s : State) : exec (.vddGood vio) s = execVddGood vio s := rfl
@[simp] theorem exec_xinRunning (s : State) : exec (.xinRunning) s = execXinRunning s := rfl
@[simp] theorem exec_bootPatchLoad (s : State) : exec (.bootPatchLoad) s = execBootPatchLoad s := rfl
@[simp] theorem exec_configImageApply (s : State) : exec (.configImageApply) s = execConfigImageApply s := rfl
@[simp] theorem exec_imageWaitExpiry (s : State) : exec (.imageWaitExpiry) s = execImageWaitExpiry s := rfl
@[simp] theorem exec_autogoStart (s : State) : exec (.autogoStart) s = execAutogoStart s := rfl
@[simp] theorem exec_linkTrainingStart (s : State) : exec (.linkTrainingStart) s = execLinkTrainingStart s := rfl
@[simp] theorem exec_flr (s : State) : exec (.flr) s = execFlr s := rfl
@[simp] theorem exec_l1Entry (s : State) : exec (.l1Entry) s = execL1Entry s := rfl
@[simp] theorem exec_pcieError (k : Fin 3) (s : State) : exec (.pcieError k) s = execPcieError k s := rfl
@[simp] theorem exec_xspiRead (off : Nat) (len : Nat) (s : State) : exec (.xspiRead off len) s = execXspiRead off len s := rfl
@[simp] theorem exec_xspiWrite (off : Nat) (data : List Byte) (s : State) : exec (.xspiWrite off data) s = execXspiWrite off data s := rfl
@[simp] theorem exec_readStatus (s : State) : exec (.readStatus) s = execReadStatus s := rfl
@[simp] theorem exec_readId (s : State) : exec (.readId) s = execReadId s := rfl
@[simp] theorem exec_hbKick (a : Agent) (v : Word) (s : State) : exec (.hbKick a v) s = execHbKick a v s := rfl
@[simp] theorem exec_heartbeatExpiry (s : State) : exec (.heartbeatExpiry) s = execHeartbeatExpiry s := rfl
@[simp] theorem exec_hbLock (s : State) : exec (.hbLock) s = execHbLock s := rfl
@[simp] theorem exec_peerEnable (s : State) : exec (.peerEnable) s = execPeerEnable s := rfl
@[simp] theorem exec_enumFrame (h : FrameHead) (s : State) : exec (.enumFrame h) s = execEnumFrame h s := rfl
@[simp] theorem exec_timeFrameSend (s : State) : exec (.timeFrameSend) s = execTimeFrameSend s := rfl
@[simp] theorem exec_timeFrame (h : FrameHead) (t : Time) (fine : BitVec 5) (arr : BitVec 5) (s : State) : exec (.timeFrame h t fine arr) s = execTimeFrame h t fine arr s := rfl
@[simp] theorem exec_tooth0Frame (h : FrameHead) (t : Tooth0) (s : State) : exec (.tooth0Frame h t) s = execTooth0Frame h t s := rfl
@[simp] theorem exec_tooth1Frame (h : FrameHead) (t : Tooth1) (s : State) : exec (.tooth1Frame h t) s = execTooth1Frame h t s := rfl
@[simp] theorem exec_snapFrame (h : FrameHead) (round : Nat) (at' : Word) (s : State) : exec (.snapFrame h round at') s = execSnapFrame h round at' s := rfl
@[simp] theorem exec_commitFrame (h : FrameHead) (round : Nat) (t : Fin 8) (at' : Word) (s : State) : exec (.commitFrame h round t at') s = execCommitFrame h round t at' s := rfl
@[simp] theorem exec_statusFrame (h : FrameHead) (round : Nat) (acted : BitVec 4) (s : State) : exec (.statusFrame h round acted) s = execStatusFrame h round acted s := rfl
@[simp] theorem exec_linkdnFrame (h : FrameHead) (s : State) : exec (.linkdnFrame h) s = execLinkdnFrame h s := rfl
@[simp] theorem exec_peerLinkDown (s : State) : exec (.peerLinkDown) s = execPeerLinkDown s := rfl
@[simp] theorem exec_extest (s : State) : exec (.extest) s = execExtest s := rfl
@[simp] theorem exec_samplePreload (s : State) : exec (.samplePreload) s = execSamplePreload s := rfl
@[simp] theorem exec_idcode (s : State) : exec (.idcode) s = execIdcode s := rfl
@[simp] theorem exec_highz (s : State) : exec (.highz) s = execHighz s := rfl
@[simp] theorem exec_clamp (s : State) : exec (.clamp) s = execClamp s := rfl
@[simp] theorem exec_bypass (s : State) : exec (.bypass) s = execBypass s := rfl
@[simp] theorem exec_debug (s : State) : exec (.debug) s = execDebug s := rfl
@[simp] theorem exec_debugUpdateDr (dr : BitVec 54) (s : State) : exec (.debugUpdateDr dr) s = execDebugUpdateDr dr s := rfl
@[simp] theorem exec_dbgHalt (a : Agent) (v : Word) (s : State) : exec (.dbgHalt a v) s = execDbgHalt a v s := rfl
@[simp] theorem exec_dbgResume (a : Agent) (v : Word) (s : State) : exec (.dbgResume a v) s = execDbgResume a v s := rfl
@[simp] theorem exec_dbgStep (a : Agent) (v : Word) (s : State) : exec (.dbgStep a v) s = execDbgStep a v s := rfl
@[simp] theorem exec_breakpointHit (e : Fin 8) (s : State) : exec (.breakpointHit e) s = execBreakpointHit e s := rfl
@[simp] theorem exec_dbgDataWrite (a : Agent) (v : Word) (s : State) : exec (.dbgDataWrite a v) s = execDbgDataWrite a v s := rfl
@[simp] theorem exec_commaLock (s : State) : exec (.commaLock) s = execCommaLock s := rfl
@[simp] theorem exec_perstNRelease (s : State) : exec (.perstNRelease) s = execPerstNRelease s := rfl
@[simp] theorem exec_pfailNRelease (s : State) : exec (.pfailNRelease) s = execPfailNRelease s := rfl
@[simp] theorem exec_tripInputInactive (m : Fin 16) (s : State) : exec (.tripInputInactive m) s = execTripInputInactive m s := rfl
@[simp] theorem exec_configurationWrite (v : Word) (s : State) : exec (.configurationWrite v) s = execConfigurationWrite v s := rfl
@[simp] theorem exec_angleCyclePassage (n : Fin 4) (s : State) : exec (.angleCyclePassage n) s = execAngleCyclePassage n s := rfl
@[simp] theorem exec_scrubPassEnd (s : State) : exec (.scrubPassEnd) s = execScrubPassEnd s := rfl
@[simp] theorem exec_laneClockEdge (k : Fin 16) (level : Bool) (s : State) : exec (.laneClockEdge k level) s = execLaneClockEdge k level s := rfl
@[simp] theorem exec_laneRxStartEdge (k : Fin 16) (e : EdgeInfo) (s : State) : exec (.laneRxStartEdge k e) s = execLaneRxStartEdge k e s := rfl
@[simp] theorem exec_peerFrameDiscard (s : State) : exec (.peerFrameDiscard) s = execPeerFrameDiscard s := rfl

/-- A step takes the command at the front of the queue, and exec acts on the rest. -/
theorem step_cons (s : State) (c : Instr) (rest : List Instr) (h : s.pending = c :: rest) : step s = exec c { s with pending := rest } := by
  simp only [step, h]

/-- On an empty queue a step passes time. -/
theorem step_nil (s : State) (h : s.pending = []) : step s = .next (idle s) := by simp only [step, h]

end Sys2Proof.Machine
end

