-- ==== Sys2Proof/WellFormed.lean ====
section
/-! DEFINITION. Which commands are well formed: what the types of the operands leave open. -/

namespace Sys2Proof

/-- Whether `size` bytes at `off` lie inside the window from `lo` up to `hi`. -/
def inWindow (lo hi off size : Nat) : Bool := decide (lo ≤ off) && decide (off + size ≤ hi)

/-- Whether a register access of `size` bytes at `off` is one that an agent makes: 1 to 8 bytes (R8), by a port, inside MW0, MW2 or MW4 as
the host reaches them (R23, R24, R401), and inside MW0 for the supervisor and the debug agent. What others do, R402 and R409 state. -/
def accessFits (a : Agent) (off size : Nat) : Bool :=
  decide (1 ≤ size) && decide (size ≤ 8)
    && (match a with
      | .host => inWindow 0 0x100000 off size || inWindow 0x100000 0x140000 off size || inWindow 0x200000 0x202000 off size
      | .sup | .debug => inWindow 0 0x100000 off size
      | _ => false)

/-- Whether the fields of a record group fit their places (R290, R292). -/
def groupFits (g : RecGroup) : Bool :=
  decide (g.src < 128) && decide (g.typ < 8) && decide (g.fine < 32) && decide (g.coarse < 2 ^ 48)
    && g.ext.all (fun p => decide (p < 2 ^ 56)) && decide (g.ext.length ≤ 3)

/-- Whether a command is well formed. -/
def WellFormed : Instr → Bool
  | .registerWrite a off size _ => accessFits a off size
  | .rcRead a off size => accessFits a off size
  | .codeRamWrite a off size _ => accessFits a off size && decide (0x40000 ≤ off) && decide (off + size ≤ 0x60000)
  | .ltrimWindowEnd counted => decide (counted < 2 ^ 26)
  | .descriptorArrival _ _ ws => decide (ws.length % 8 = 0) && decide (ws.length ≤ 128)
  | .hostReadCompletion _ _ data => decide (data.length ≤ 512)
  | .recordEntry g => groupFits g
  | .readRetry _ off _ _ => decide (off < 0x100000)
  | .wearLevelMove b => decide (b < 220)
  | .xspiRead off len => decide (off < 2 ^ 24) && decide (1 ≤ len)
  | .xspiWrite off data => decide (off < 2 ^ 24) && !data.isEmpty
  | _ => true

end Sys2Proof
end

