-- ==== Sys2Proof/Laws/PerInstr.lean ====
section
/-! SUPPORT. What holds of every command as syntax, one lemma for each constructor. -/

namespace Sys2Proof.Laws.CodeRow

open Sys2Proof.Machine

/-- An engine instruction is well formed whatever its operands, and is one or two parcels long (R214). -/
def Statement (i : Instr) : Prop := ∀ f, fields i = some f → WellFormed i = true ∧ (f.len = 1 ∨ f.len = 2)

/-- A row that is no engine instruction. -/
theorem of_none {i : Instr} (h : fields i = none) : Statement i := fun f hf => by rw [h] at hf; cases hf

/-- An engine instruction of one length. -/
theorem of_some {i : Instr} {f : Fields} (h : fields i = some f) (hw : WellFormed i = true) (hl : f.len = 1 ∨ f.len = 2) : Statement i :=
  fun g hg => by rw [h] at hg; cases hg; exact ⟨hw, hl⟩

/-- The length of a branch. -/
theorem branch_len (rb : Fin 16) (o : BitVec 16) (l : Bool) (w : Nat) : (fBranch rb o l w).len = 1 ∨ (fBranch rb o l w).len = 2 := by
  cases l
  · exact .inl rfl
  · exact .inr rfl

/-- A length that a form chooses. -/
theorem len_ite (l : Bool) : (if l then 2 else 1 : Nat) = 1 ∨ (if l then 2 else 1 : Nat) = 2 := by cases l <;> simp

theorem registerWrite (a : Agent) (off : Nat) (size : Nat) (v : BitVec 64) : Statement (.registerWrite a off size v) := of_none rfl
theorem rcRead (a : Agent) (off : Nat) (size : Nat) : Statement (.rcRead a off size) := of_none rfl
theorem codeRamWrite (a : Agent) (off : Nat) (size : Nat) (v : BitVec 64) : Statement (.codeRamWrite a off size v) := of_none rfl
theorem ltrimWindowEnd (counted : Nat) : Statement (.ltrimWindowEnd counted) := of_none rfl
theorem x32Lock : Statement (.x32Lock) := of_none rfl
theorem x32Stop : Statement (.x32Stop) := of_none rfl
theorem pllUnlock : Statement (.pllUnlock) := of_none rfl
theorem xinLoss : Statement (.xinLoss) := of_none rfl
theorem pllLock : Statement (.pllLock) := of_none rfl
theorem tbclkCountingReturn : Statement (.tbclkCountingReturn) := of_none rfl
theorem tbStep (a : Agent) : Statement (.tbStep a) := of_none rfl
theorem fofsclr (a : Agent) : Statement (.fofsclr a) := of_none rfl
theorem slewAdjust : Statement (.slewAdjust) := of_none rfl
theorem tbSlewWrite (a : Agent) (v : Word) : Statement (.tbSlewWrite a v) := of_none rfl
theorem tbLoRead (a : Agent) : Statement (.tbLoRead a) := of_none rfl
theorem tbWrapPassage : Statement (.tbWrapPassage) := of_none rfl
theorem syncInEdge (level : Bool) (fine : BitVec 5) (held : Nat) : Statement (.syncInEdge level fine held) := of_none rfl
theorem syncinTsLoRead (a : Agent) : Statement (.syncinTsLoRead a) := of_none rfl
theorem syncoutEnable : Statement (.syncoutEnable) := of_none rfl
theorem syncoutActiveEdge : Statement (.syncoutActiveEdge) := of_none rfl
theorem syncoutPulseEnd : Statement (.syncoutPulseEnd) := of_none rfl
theorem syncoutDisable : Statement (.syncoutDisable) := of_none rfl
theorem clkFrzWrite (a : Agent) (m : Fin 3) (v : Word) : Statement (.clkFrzWrite a m v) := of_none rfl
theorem channelFreeze (n : Fin 96) : Statement (.channelFreeze n) := of_none rfl
theorem channelRelease (n : Fin 96) : Statement (.channelRelease n) := of_none rfl
theorem counterBoundary (n : Fin 96) : Statement (.counterBoundary n) := of_none rfl
theorem counterPeak (n : Fin 96) : Statement (.counterPeak n) := of_none rfl
theorem cascadeAdvance (n : Fin 96) : Statement (.cascadeAdvance n) := of_none rfl
theorem compareMatch (n : Fin 96) (k : Fin 4) : Statement (.compareMatch n k) := of_none rfl
theorem inputEdgeSampled (n : Fin 96) (level : Bool) (fine : BitVec 5) : Statement (.inputEdgeSampled n level fine) := of_none rfl
theorem glitchFilterExpiry (n : Fin 96) : Statement (.glitchFilterExpiry n) := of_none rfl
theorem capture (n : Fin 96) : Statement (.capture n) := of_none rfl
theorem capaRead (a : Agent) (n : Fin 96) : Statement (.capaRead a n) := of_none rfl
theorem fifoTRead (a : Agent) (n : Fin 96) : Statement (.fifoTRead a n) := of_none rfl
theorem cntRead (a : Agent) (n : Fin 96) : Statement (.cntRead a n) := of_none rfl
theorem aqTWrite (a : Agent) (n : Fin 96) (v : Word) : Statement (.aqTWrite a n v) := of_none rfl
theorem aqOffer (a : Agent) (n : Fin 96) (v : Word) : Statement (.aqOffer a n v) := of_none rfl
theorem aqFire (n : Fin 96) : Statement (.aqFire n) := of_none rfl
theorem chLoad (a : Agent) (n : Fin 96) : Statement (.chLoad a n) := of_none rfl
theorem flush (a : Agent) (n : Fin 96) : Statement (.flush a n) := of_none rfl
theorem fifoclr (a : Agent) (n : Fin 96) : Statement (.fifoclr a n) := of_none rfl
theorem chStop (a : Agent) (n : Fin 96) : Statement (.chStop a n) := of_none rfl
theorem chStart (a : Agent) (n : Fin 96) : Statement (.chStart a n) := of_none rfl
theorem channelEnable (a : Agent) (n : Fin 96) : Statement (.channelEnable a n) := of_none rfl
theorem channelDisable (a : Agent) (n : Fin 96) : Statement (.channelDisable a n) := of_none rfl
theorem cntWrite (a : Agent) (n : Fin 96) (v : Word) : Statement (.cntWrite a n v) := of_none rfl
theorem shadowWrite (a : Agent) (n : Fin 96) (r : Shadow) (v : Word) : Statement (.shadowWrite a n r v) := of_none rfl
theorem pgBoundary (m : Fin 16) : Statement (.pgBoundary m) := of_none rfl
theorem pgPeak (m : Fin 16) : Statement (.pgPeak m) := of_none rfl
theorem pgStart (a : Agent) (m : Fin 16) : Statement (.pgStart a m) := of_none rfl
theorem pgGroupStart (m : Fin 16) : Statement (.pgGroupStart m) := of_none rfl
theorem pgStop (a : Agent) (m : Fin 16) : Statement (.pgStop a m) := of_none rfl
theorem pgDisable (a : Agent) (m : Fin 16) : Statement (.pgDisable a m) := of_none rfl
theorem pgLoad (a : Agent) (m : Fin 16) : Statement (.pgLoad a m) := of_none rfl
theorem stagger (a : Agent) (m : Fin 16) : Statement (.stagger a m) := of_none rfl
theorem tripclr (a : Agent) (m : Fin 16) : Statement (.tripclr a m) := of_none rfl
theorem force (a : Agent) (m : Fin 16) : Statement (.force a m) := of_none rfl
theorem pgCntWrite (a : Agent) (m : Fin 16) (v : Word) : Statement (.pgCntWrite a m v) := of_none rfl
theorem deadTimeExpiry (n : Fin 96) : Statement (.deadTimeExpiry n) := of_none rfl
theorem stretchClose (n : Fin 96) : Statement (.stretchClose n) := of_none rfl
theorem tripAssert (m : Fin 16) : Statement (.tripAssert m) := of_none rfl
theorem newelEnable (a : Agent) (n : Fin 4) : Statement (.newelEnable a n) := of_none rfl
theorem newelDisable (a : Agent) (n : Fin 4) : Statement (.newelDisable a n) := of_none rfl
theorem toothReceive (n : Fin 4) (e : EdgeInfo) : Statement (.toothReceive n e) := of_none rfl
theorem toothClassify (n : Fin 4) : Statement (.toothClassify n) := of_none rfl
theorem predictionLoad (n : Fin 4) : Statement (.predictionLoad n) := of_none rfl
theorem holdAngleReached (n : Fin 4) : Statement (.holdAngleReached n) := of_none rfl
theorem phaseInputEdge (n : Fin 4) (j : Fin 2) (e : EdgeInfo) : Statement (.phaseInputEdge n j e) := of_none rfl
theorem stallTimeout (n : Fin 4) : Statement (.stallTimeout n) := of_none rfl
theorem resync (a : Agent) (n : Fin 4) : Statement (.resync a n) := of_none rfl
theorem phset (a : Agent) (n : Fin 4) (phval : Bool) : Statement (.phset a n phval) := of_none rfl
theorem errclr (a : Agent) (n : Fin 4) : Statement (.errclr a n) := of_none rfl
theorem hold (a : Agent) (n : Fin 4) : Statement (.hold a n) := of_none rfl
theorem encoderEdge (n : Fin 4) (e : EdgeInfo) : Statement (.encoderEdge n e) := of_none rfl
theorem zEdge (n : Fin 4) (e : EdgeInfo) : Statement (.zEdge n e) := of_none rfl
theorem toothtRead (a : Agent) (n : Fin 4) : Statement (.toothtRead a n) := of_none rfl
theorem latePass (n : Fin 4) : Statement (.latePass n) := of_none rfl
theorem slotConversion (n : Fin 4) (k : Fin 512) : Statement (.slotConversion n k) := of_none rfl
theorem newelOffer (n : Fin 4) (k : Fin 512) : Statement (.newelOffer n k) := of_none rfl
theorem commitFreeze (n : Fin 4) (k : Fin 512) : Statement (.commitFreeze n k) := of_none rfl
theorem reoffer (n : Fin 4) (k : Fin 512) : Statement (.reoffer n k) := of_none rfl
theorem cancel (n : Fin 4) : Statement (.cancel n) := of_none rfl
theorem cancelOffer (n : Fin 4) : Statement (.cancelOffer n) := of_none rfl
theorem slotWrite (a : Agent) (n : Fin 4) (k : Fin 512) (r : SlotReg) (v : Word) : Statement (.slotWrite a n k r v) := of_none rfl
theorem reEvaluation (n : Fin 4) : Statement (.reEvaluation n) := of_none rfl
theorem evlastTRead (a : Agent) (n : Fin 4) : Statement (.evlastTRead a n) := of_none rfl
theorem srqArrival (e : Fin 8) (t : Fin 32) (src : SrqSource) : Statement (.srqArrival e t src) := of_none rfl
theorem threadDispatch (e : Fin 8) : Statement (.threadDispatch e) := of_none rfl
theorem preemption (e : Fin 8) : Statement (.preemption e) := of_none rfl
theorem threadConfigWrite (a : Agent) (e : Fin 8) (t : Fin 32) (v : Word) : Statement (.threadConfigWrite a e t v) := of_none rfl
theorem feStart (a : Agent) (e : Fin 8) : Statement (.feStart a e) := of_none rfl
theorem feStop (a : Agent) (e : Fin 8) : Statement (.feStop a e) := of_none rfl
theorem feStopComplete (e : Fin 8) : Statement (.feStopComplete e) := of_none rfl
theorem feReset (a : Agent) (e : Fin 8) : Statement (.feReset a e) := of_none rfl
theorem feGoWrite (a : Agent) (v : Word) : Statement (.feGoWrite a v) := of_none rfl
theorem goAct : Statement (.goAct) := of_none rfl
theorem barMaskWrite (a : Agent) (b : Fin 8) (v : Word) : Statement (.barMaskWrite a b v) := of_none rfl
theorem barrierRelease (b : Fin 8) : Statement (.barrierRelease b) := of_none rfl
theorem barrierTimeout (b : Fin 8) : Statement (.barrierTimeout b) := of_none rfl
theorem wakeTimerFire (e : Fin 8) (j : Fin 8) : Statement (.wakeTimerFire e j) := of_none rfl
theorem mbxdb (a : Agent) (e : Fin 8) (v : Word) : Statement (.mbxdb a e v) := of_none rfl
theorem mbxack (a : Agent) (e : Fin 8) (v : Word) : Statement (.mbxack a e v) := of_none rfl
theorem lwaitRelease (e : Fin 8) (b : Fin 4) : Statement (.lwaitRelease e b) := of_none rfl
theorem laneEnable (a : Agent) (k : Fin 16) (v : Word) : Statement (.laneEnable a k v) := of_none rfl
theorem laneDisable (a : Agent) (k : Fin 16) : Statement (.laneDisable a k) := of_none rfl
theorem txbufWrite (a : Agent) (k : Fin 16) (v : Word) : Statement (.txbufWrite a k v) := of_none rfl
theorem rxbufRead (a : Agent) (k : Fin 16) : Statement (.rxbufRead a k) := of_none rfl
theorem laneWordStart (k : Fin 16) : Statement (.laneWordStart k) := of_none rfl
theorem laneWordComplete (k : Fin 16) : Statement (.laneWordComplete k) := of_none rfl
theorem pulseEdge (k : Fin 16) (e : EdgeInfo) : Statement (.pulseEdge k e) := of_none rfl
theorem laneStart (a : Agent) (k : Fin 16) : Statement (.laneStart a k) := of_none rfl
theorem laneReset (a : Agent) (k : Fin 16) : Statement (.laneReset a k) := of_none rfl
theorem cont (a : Agent) (k : Fin 16) : Statement (.cont a k) := of_none rfl
theorem divrst (a : Agent) (k : Fin 16) : Statement (.divrst a k) := of_none rfl
theorem lanePause (k : Fin 16) : Statement (.lanePause k) := of_none rfl
theorem nop (e : Fin 8) : Statement (.nop e) := of_some rfl rfl (by first | exact .inl rfl | exact .inr rfl | exact len_ite _ | exact branch_len _ _ _ _)
theorem done (e : Fin 8) : Statement (.done e) := of_some rfl rfl (by first | exact .inl rfl | exact .inr rfl | exact len_ite _ | exact branch_len _ _ _ _)
theorem yield (e : Fin 8) : Statement (.yield e) := of_some rfl rfl (by first | exact .inl rfl | exact .inr rfl | exact len_ite _ | exact branch_len _ _ _ _)
theorem ret (e : Fin 8) : Statement (.ret e) := of_some rfl rfl (by first | exact .inl rfl | exact .inr rfl | exact len_ite _ | exact branch_len _ _ _ _)
theorem rep (e : Fin 8) (n : Fin 16) : Statement (.rep e n) := of_some rfl rfl (by first | exact .inl rfl | exact .inr rfl | exact len_ite _ | exact branch_len _ _ _ _)
theorem push (e : Fin 8) (r : Fin 16) : Statement (.push e r) := of_some rfl rfl (by first | exact .inl rfl | exact .inr rfl | exact len_ite _ | exact branch_len _ _ _ _)
theorem pop (e : Fin 8) (r : Fin 16) : Statement (.pop e r) := of_some rfl rfl (by first | exact .inl rfl | exact .inr rfl | exact len_ite _ | exact branch_len _ _ _ _)
theorem mov (e : Fin 8) (rd rs : Fin 16) : Statement (.mov e rd rs) := of_some rfl rfl (by first | exact .inl rfl | exact .inr rfl | exact len_ite _ | exact branch_len _ _ _ _)
theorem add (e : Fin 8) (rd rs rt : Fin 16) (long : Bool) : Statement (.add e rd rs rt long) := of_some rfl rfl (by first | exact .inl rfl | exact .inr rfl | exact len_ite _ | exact branch_len _ _ _ _)
theorem sub (e : Fin 8) (rd rs rt : Fin 16) (long : Bool) : Statement (.sub e rd rs rt long) := of_some rfl rfl (by first | exact .inl rfl | exact .inr rfl | exact len_ite _ | exact branch_len _ _ _ _)
theorem and (e : Fin 8) (rd rs rt : Fin 16) (long : Bool) : Statement (.and e rd rs rt long) := of_some rfl rfl (by first | exact .inl rfl | exact .inr rfl | exact len_ite _ | exact branch_len _ _ _ _)
theorem or (e : Fin 8) (rd rs rt : Fin 16) (long : Bool) : Statement (.or e rd rs rt long) := of_some rfl rfl (by first | exact .inl rfl | exact .inr rfl | exact len_ite _ | exact branch_len _ _ _ _)
theorem xor (e : Fin 8) (rd rs rt : Fin 16) (long : Bool) : Statement (.xor e rd rs rt long) := of_some rfl rfl (by first | exact .inl rfl | exact .inr rfl | exact len_ite _ | exact branch_len _ _ _ _)
theorem shl (e : Fin 8) (rd rs rt : Fin 16) (long : Bool) : Statement (.shl e rd rs rt long) := of_some rfl rfl (by first | exact .inl rfl | exact .inr rfl | exact len_ite _ | exact branch_len _ _ _ _)
theorem shr (e : Fin 8) (rd rs rt : Fin 16) (long : Bool) : Statement (.shr e rd rs rt long) := of_some rfl rfl (by first | exact .inl rfl | exact .inr rfl | exact len_ite _ | exact branch_len _ _ _ _)
theorem sar (e : Fin 8) (rd rs rt : Fin 16) (long : Bool) : Statement (.sar e rd rs rt long) := of_some rfl rfl (by first | exact .inl rfl | exact .inr rfl | exact len_ite _ | exact branch_len _ _ _ _)
theorem ror (e : Fin 8) (rd rs rt : Fin 16) : Statement (.ror e rd rs rt) := of_some rfl rfl (by first | exact .inl rfl | exact .inr rfl | exact len_ite _ | exact branch_len _ _ _ _)
theorem neg (e : Fin 8) (rd rs : Fin 16) : Statement (.neg e rd rs) := of_some rfl rfl (by first | exact .inl rfl | exact .inr rfl | exact len_ite _ | exact branch_len _ _ _ _)
theorem not (e : Fin 8) (rd rs : Fin 16) : Statement (.not e rd rs) := of_some rfl rfl (by first | exact .inl rfl | exact .inr rfl | exact len_ite _ | exact branch_len _ _ _ _)
theorem slt (e : Fin 8) (rd rs rt : Fin 16) (long : Bool) : Statement (.slt e rd rs rt long) := of_some rfl rfl (by first | exact .inl rfl | exact .inr rfl | exact len_ite _ | exact branch_len _ _ _ _)
theorem sltu (e : Fin 8) (rd rs rt : Fin 16) (long : Bool) : Statement (.sltu e rd rs rt long) := of_some rfl rfl (by first | exact .inl rfl | exact .inr rfl | exact len_ite _ | exact branch_len _ _ _ _)
theorem seq (e : Fin 8) (rd rs rt : Fin 16) (long : Bool) : Statement (.seq e rd rs rt long) := of_some rfl rfl (by first | exact .inl rfl | exact .inr rfl | exact len_ite _ | exact branch_len _ _ _ _)
theorem sne (e : Fin 8) (rd rs rt : Fin 16) (long : Bool) : Statement (.sne e rd rs rt long) := of_some rfl rfl (by first | exact .inl rfl | exact .inr rfl | exact len_ite _ | exact branch_len _ _ _ _)
theorem sbefore (e : Fin 8) (rd rs rt : Fin 16) (long : Bool) : Statement (.sbefore e rd rs rt long) := of_some rfl rfl (by first | exact .inl rfl | exact .inr rfl | exact len_ite _ | exact branch_len _ _ _ _)
theorem tadd (e : Fin 8) (rd rs rt : Fin 16) : Statement (.tadd e rd rs rt) := of_some rfl rfl (by first | exact .inl rfl | exact .inr rfl | exact len_ite _ | exact branch_len _ _ _ _)
theorem soadd (e : Fin 8) (rd rs rt : Fin 16) : Statement (.soadd e rd rs rt) := of_some rfl rfl (by first | exact .inl rfl | exact .inr rfl | exact len_ite _ | exact branch_len _ _ _ _)
theorem sosub (e : Fin 8) (rd rs rt : Fin 16) : Statement (.sosub e rd rs rt) := of_some rfl rfl (by first | exact .inl rfl | exact .inr rfl | exact len_ite _ | exact branch_len _ _ _ _)
theorem soneg (e : Fin 8) (rd rs : Fin 16) : Statement (.soneg e rd rs) := of_some rfl rfl (by first | exact .inl rfl | exact .inr rfl | exact len_ite _ | exact branch_len _ _ _ _)
theorem min (e : Fin 8) (rd rs rt : Fin 16) : Statement (.min e rd rs rt) := of_some rfl rfl (by first | exact .inl rfl | exact .inr rfl | exact len_ite _ | exact branch_len _ _ _ _)
theorem max (e : Fin 8) (rd rs rt : Fin 16) : Statement (.max e rd rs rt) := of_some rfl rfl (by first | exact .inl rfl | exact .inr rfl | exact len_ite _ | exact branch_len _ _ _ _)
theorem minu (e : Fin 8) (rd rs rt : Fin 16) : Statement (.minu e rd rs rt) := of_some rfl rfl (by first | exact .inl rfl | exact .inr rfl | exact len_ite _ | exact branch_len _ _ _ _)
theorem maxu (e : Fin 8) (rd rs rt : Fin 16) : Statement (.maxu e rd rs rt) := of_some rfl rfl (by first | exact .inl rfl | exact .inr rfl | exact len_ite _ | exact branch_len _ _ _ _)
theorem clz (e : Fin 8) (rd rs : Fin 16) : Statement (.clz e rd rs) := of_some rfl rfl (by first | exact .inl rfl | exact .inr rfl | exact len_ite _ | exact branch_len _ _ _ _)
theorem addi8 (e : Fin 8) (rd : Fin 16) (imm : BitVec 8) : Statement (.addi8 e rd imm) := of_some rfl rfl (by first | exact .inl rfl | exact .inr rfl | exact len_ite _ | exact branch_len _ _ _ _)
theorem li8 (e : Fin 8) (rd : Fin 16) (imm : BitVec 8) : Statement (.li8 e rd imm) := of_some rfl rfl (by first | exact .inl rfl | exact .inr rfl | exact len_ite _ | exact branch_len _ _ _ _)
theorem lwsp (e : Fin 8) (rd : Fin 16) (u : BitVec 8) : Statement (.lwsp e rd u) := of_some rfl rfl (by first | exact .inl rfl | exact .inr rfl | exact len_ite _ | exact branch_len _ _ _ _)
theorem swsp (e : Fin 8) (rs : Fin 16) (u : BitVec 8) : Statement (.swsp e rs u) := of_some rfl rfl (by first | exact .inl rfl | exact .inr rfl | exact len_ite _ | exact branch_len _ _ _ _)
theorem bz (e : Fin 8) (rs : Fin 16) (ofs : BitVec 16) (long : Bool) : Statement (.bz e rs ofs long) := of_some rfl rfl (by first | exact .inl rfl | exact .inr rfl | exact len_ite _ | exact branch_len _ _ _ _)
theorem bnz (e : Fin 8) (rs : Fin 16) (ofs : BitVec 16) (long : Bool) : Statement (.bnz e rs ofs long) := of_some rfl rfl (by first | exact .inl rfl | exact .inr rfl | exact len_ite _ | exact branch_len _ _ _ _)
theorem br (e : Fin 8) (ofs : BitVec 16) (long : Bool) : Statement (.br e ofs long) := of_some rfl rfl (by first | exact .inl rfl | exact .inr rfl | exact len_ite _ | exact branch_len _ _ _ _)
theorem shli (e : Fin 8) (rd : Fin 16) (amt : BitVec 6) : Statement (.shli e rd amt) := of_some rfl rfl (by first | exact .inl rfl | exact .inr rfl | exact len_ite _ | exact branch_len _ _ _ _)
theorem shri (e : Fin 8) (rd : Fin 16) (amt : BitVec 6) : Statement (.shri e rd amt) := of_some rfl rfl (by first | exact .inl rfl | exact .inr rfl | exact len_ite _ | exact branch_len _ _ _ _)
theorem sari (e : Fin 8) (rd : Fin 16) (amt : BitVec 6) : Statement (.sari e rd amt) := of_some rfl rfl (by first | exact .inl rfl | exact .inr rfl | exact len_ite _ | exact branch_len _ _ _ _)
theorem rori (e : Fin 8) (rd : Fin 16) (amt : BitVec 6) : Statement (.rori e rd amt) := of_some rfl rfl (by first | exact .inl rfl | exact .inr rfl | exact len_ite _ | exact branch_len _ _ _ _)
theorem lw4 (e : Fin 8) (rd rb : Fin 16) (u : BitVec 4) : Statement (.lw4 e rd rb u) := of_some rfl rfl (by first | exact .inl rfl | exact .inr rfl | exact len_ite _ | exact branch_len _ _ _ _)
theorem sw4 (e : Fin 8) (rs rb : Fin 16) (u : BitVec 4) : Statement (.sw4 e rs rb u) := of_some rfl rfl (by first | exact .inl rfl | exact .inr rfl | exact len_ite _ | exact branch_len _ _ _ _)
theorem mul (e : Fin 8) (rd rs rt : Fin 16) : Statement (.mul e rd rs rt) := of_some rfl rfl (by first | exact .inl rfl | exact .inr rfl | exact len_ite _ | exact branch_len _ _ _ _)
theorem mulh (e : Fin 8) (rd rs rt : Fin 16) : Statement (.mulh e rd rs rt) := of_some rfl rfl (by first | exact .inl rfl | exact .inr rfl | exact len_ite _ | exact branch_len _ _ _ _)
theorem mulhu (e : Fin 8) (rd rs rt : Fin 16) : Statement (.mulhu e rd rs rt) := of_some rfl rfl (by first | exact .inl rfl | exact .inr rfl | exact len_ite _ | exact branch_len _ _ _ _)
theorem div (e : Fin 8) (rd rs rt : Fin 16) : Statement (.div e rd rs rt) := of_some rfl rfl (by first | exact .inl rfl | exact .inr rfl | exact len_ite _ | exact branch_len _ _ _ _)
theorem divu (e : Fin 8) (rd rs rt : Fin 16) : Statement (.divu e rd rs rt) := of_some rfl rfl (by first | exact .inl rfl | exact .inr rfl | exact len_ite _ | exact branch_len _ _ _ _)
theorem rem (e : Fin 8) (rd rs rt : Fin 16) : Statement (.rem e rd rs rt) := of_some rfl rfl (by first | exact .inl rfl | exact .inr rfl | exact len_ite _ | exact branch_len _ _ _ _)
theorem remu (e : Fin 8) (rd rs rt : Fin 16) : Statement (.remu e rd rs rt) := of_some rfl rfl (by first | exact .inl rfl | exact .inr rfl | exact len_ite _ | exact branch_len _ _ _ _)
theorem mac (e : Fin 8) (a : Bool) (rs rt : Fin 16) : Statement (.mac e a rs rt) := of_some rfl rfl (by first | exact .inl rfl | exact .inr rfl | exact len_ite _ | exact branch_len _ _ _ _)
theorem msu (e : Fin 8) (a : Bool) (rs rt : Fin 16) : Statement (.msu e a rs rt) := of_some rfl rfl (by first | exact .inl rfl | exact .inr rfl | exact len_ite _ | exact branch_len _ _ _ _)
theorem macu (e : Fin 8) (a : Bool) (rs rt : Fin 16) : Statement (.macu e a rs rt) := of_some rfl rfl (by first | exact .inl rfl | exact .inr rfl | exact len_ite _ | exact branch_len _ _ _ _)
theorem wra (e : Fin 8) (a : Bool) (rs rt : Fin 16) : Statement (.wra e a rs rt) := of_some rfl rfl (by first | exact .inl rfl | exact .inr rfl | exact len_ite _ | exact branch_len _ _ _ _)
theorem rdal (e : Fin 8) (rd : Fin 16) (a : Bool) : Statement (.rdal e rd a) := of_some rfl rfl (by first | exact .inl rfl | exact .inr rfl | exact len_ite _ | exact branch_len _ _ _ _)
theorem rdah (e : Fin 8) (rd : Fin 16) (a : Bool) : Statement (.rdah e rd a) := of_some rfl rfl (by first | exact .inl rfl | exact .inr rfl | exact len_ite _ | exact branch_len _ _ _ _)
theorem shra (e : Fin 8) (rd rt : Fin 16) (a : Bool) : Statement (.shra e rd rt a) := of_some rfl rfl (by first | exact .inl rfl | exact .inr rfl | exact len_ite _ | exact branch_len _ _ _ _)
theorem macd (e : Fin 8) (gx gy : Fin 16) (half a : Bool) : Statement (.macd e gx gy half a) := of_some rfl rfl (by first | exact .inl rfl | exact .inr rfl | exact len_ite _ | exact branch_len _ _ _ _)
theorem angadd (e : Fin 8) (rd rs rt : Fin 16) : Statement (.angadd e rd rs rt) := of_some rfl rfl (by first | exact .inl rfl | exact .inr rfl | exact len_ite _ | exact branch_len _ _ _ _)
theorem angsub (e : Fin 8) (rd rs rt : Fin 16) : Statement (.angsub e rd rs rt) := of_some rfl rfl (by first | exact .inl rfl | exact .inr rfl | exact len_ite _ | exact branch_len _ _ _ _)
theorem li (e : Fin 8) (rd : Fin 16) (imm : BitVec 16) : Statement (.li e rd imm) := of_some rfl rfl (by first | exact .inl rfl | exact .inr rfl | exact len_ite _ | exact branch_len _ _ _ _)
theorem lui (e : Fin 8) (rd : Fin 16) (imm : BitVec 16) : Statement (.lui e rd imm) := of_some rfl rfl (by first | exact .inl rfl | exact .inr rfl | exact len_ite _ | exact branch_len _ _ _ _)
theorem addi (e : Fin 8) (rd rs : Fin 16) (imm : BitVec 16) : Statement (.addi e rd rs imm) := of_some rfl rfl (by first | exact .inl rfl | exact .inr rfl | exact len_ite _ | exact branch_len _ _ _ _)
theorem andi (e : Fin 8) (rd rs : Fin 16) (imm : BitVec 16) : Statement (.andi e rd rs imm) := of_some rfl rfl (by first | exact .inl rfl | exact .inr rfl | exact len_ite _ | exact branch_len _ _ _ _)
theorem ori (e : Fin 8) (rd rs : Fin 16) (imm : BitVec 16) : Statement (.ori e rd rs imm) := of_some rfl rfl (by first | exact .inl rfl | exact .inr rfl | exact len_ite _ | exact branch_len _ _ _ _)
theorem xori (e : Fin 8) (rd rs : Fin 16) (imm : BitVec 16) : Statement (.xori e rd rs imm) := of_some rfl rfl (by first | exact .inl rfl | exact .inr rfl | exact len_ite _ | exact branch_len _ _ _ _)
theorem slti (e : Fin 8) (rd rs : Fin 16) (imm : BitVec 16) : Statement (.slti e rd rs imm) := of_some rfl rfl (by first | exact .inl rfl | exact .inr rfl | exact len_ite _ | exact branch_len _ _ _ _)
theorem sltui (e : Fin 8) (rd rs : Fin 16) (imm : BitVec 16) : Statement (.sltui e rd rs imm) := of_some rfl rfl (by first | exact .inl rfl | exact .inr rfl | exact len_ite _ | exact branch_len _ _ _ _)
theorem seqi (e : Fin 8) (rd rs : Fin 16) (imm : BitVec 16) : Statement (.seqi e rd rs imm) := of_some rfl rfl (by first | exact .inl rfl | exact .inr rfl | exact len_ite _ | exact branch_len _ _ _ _)
theorem snei (e : Fin 8) (rd rs : Fin 16) (imm : BitVec 16) : Statement (.snei e rd rs imm) := of_some rfl rfl (by first | exact .inl rfl | exact .inr rfl | exact len_ite _ | exact branch_len _ _ _ _)
theorem lw (e : Fin 8) (rd rs : Fin 16) (imm : BitVec 16) : Statement (.lw e rd rs imm) := of_some rfl rfl (by first | exact .inl rfl | exact .inr rfl | exact len_ite _ | exact branch_len _ _ _ _)
theorem lh (e : Fin 8) (rd rs : Fin 16) (imm : BitVec 16) : Statement (.lh e rd rs imm) := of_some rfl rfl (by first | exact .inl rfl | exact .inr rfl | exact len_ite _ | exact branch_len _ _ _ _)
theorem lhu (e : Fin 8) (rd rs : Fin 16) (imm : BitVec 16) : Statement (.lhu e rd rs imm) := of_some rfl rfl (by first | exact .inl rfl | exact .inr rfl | exact len_ite _ | exact branch_len _ _ _ _)
theorem lb (e : Fin 8) (rd rs : Fin 16) (imm : BitVec 16) : Statement (.lb e rd rs imm) := of_some rfl rfl (by first | exact .inl rfl | exact .inr rfl | exact len_ite _ | exact branch_len _ _ _ _)
theorem lbu (e : Fin 8) (rd rs : Fin 16) (imm : BitVec 16) : Statement (.lbu e rd rs imm) := of_some rfl rfl (by first | exact .inl rfl | exact .inr rfl | exact len_ite _ | exact branch_len _ _ _ _)
theorem sw (e : Fin 8) (rs rb : Fin 16) (imm : BitVec 16) : Statement (.sw e rs rb imm) := of_some rfl rfl (by first | exact .inl rfl | exact .inr rfl | exact len_ite _ | exact branch_len _ _ _ _)
theorem sh (e : Fin 8) (rs rb : Fin 16) (imm : BitVec 16) : Statement (.sh e rs rb imm) := of_some rfl rfl (by first | exact .inl rfl | exact .inr rfl | exact len_ite _ | exact branch_len _ _ _ _)
theorem sb (e : Fin 8) (rs rb : Fin 16) (imm : BitVec 16) : Statement (.sb e rs rb imm) := of_some rfl rfl (by first | exact .inl rfl | exact .inr rfl | exact len_ite _ | exact branch_len _ _ _ _)
theorem lwpi (e : Fin 8) (rd rb : Fin 16) (imm : BitVec 16) : Statement (.lwpi e rd rb imm) := of_some rfl rfl (by first | exact .inl rfl | exact .inr rfl | exact len_ite _ | exact branch_len _ _ _ _)
theorem swpi (e : Fin 8) (rs rb : Fin 16) (imm : BitVec 16) : Statement (.swpi e rs rb imm) := of_some rfl rfl (by first | exact .inl rfl | exact .inr rfl | exact len_ite _ | exact branch_len _ _ _ _)
theorem call (e : Fin 8) (target : BitVec 16) : Statement (.call e target) := of_some rfl rfl (by first | exact .inl rfl | exact .inr rfl | exact len_ite _ | exact branch_len _ _ _ _)
theorem jr (e : Fin 8) (rs : Fin 16) : Statement (.jr e rs) := of_some rfl rfl (by first | exact .inl rfl | exact .inr rfl | exact len_ite _ | exact branch_len _ _ _ _)
theorem callr (e : Fin 8) (rs : Fin 16) : Statement (.callr e rs) := of_some rfl rfl (by first | exact .inl rfl | exact .inr rfl | exact len_ite _ | exact branch_len _ _ _ _)
theorem repi (e : Fin 8) (n : BitVec 16) : Statement (.repi e n) := of_some rfl rfl (by first | exact .inl rfl | exact .inr rfl | exact len_ite _ | exact branch_len _ _ _ _)
theorem repir (e : Fin 8) (rs : Fin 16) : Statement (.repir e rs) := of_some rfl rfl (by first | exact .inl rfl | exact .inr rfl | exact len_ite _ | exact branch_len _ _ _ _)
theorem inp (e : Fin 8) (rd rb : Fin 16) (imm : BitVec 16) : Statement (.inp e rd rb imm) := of_some rfl rfl (by first | exact .inl rfl | exact .inr rfl | exact len_ite _ | exact branch_len _ _ _ _)
theorem out (e : Fin 8) (rs rb : Fin 16) (imm : BitVec 16) : Statement (.out e rs rb imm) := of_some rfl rfl (by first | exact .inl rfl | exact .inr rfl | exact len_ite _ | exact branch_len _ _ _ _)
theorem lwait (e : Fin 8) (rd lane : Fin 16) (cond : Fin 4) : Statement (.lwait e rd lane cond) := of_some rfl rfl (by first | exact .inl rfl | exact .inr rfl | exact len_ite _ | exact branch_len _ _ _ _)
theorem bar (e : Fin 8) (rd : Fin 16) (b : Fin 8) : Statement (.bar e rd b) := of_some rfl rfl (by first | exact .inl rfl | exact .inr rfl | exact len_ite _ | exact branch_len _ _ _ _)
theorem sig (e : Fin 8) (t : Fin 8) (th : Fin 32) : Statement (.sig e t th) := of_some rfl rfl (by first | exact .inl rfl | exact .inr rfl | exact len_ite _ | exact branch_len _ _ _ _)
theorem mfs (e : Fin 8) (rd : Fin 16) (sr : Fin 6) : Statement (.mfs e rd sr) := of_some rfl rfl (by first | exact .inl rfl | exact .inr rfl | exact len_ite _ | exact branch_len _ _ _ _)
theorem mts (e : Fin 8) (sr : Fin 5) (rs : Fin 16) : Statement (.mts e sr rs) := of_some rfl rfl (by first | exact .inl rfl | exact .inr rfl | exact len_ite _ | exact branch_len _ _ _ _)
theorem illegalInstruction (e : Fin 8) : Statement (.illegalInstruction e) := of_none rfl
theorem mcLoad : Statement (.mcLoad) := of_none rfl
theorem patchActivate : Statement (.patchActivate) := of_none rfl
theorem unload : Statement (.unload) := of_none rfl
theorem advsvn : Statement (.advsvn) := of_none rfl
theorem fuseStep : Statement (.fuseStep) := of_none rfl
theorem chestwr : Statement (.chestwr) := of_none rfl
theorem doorbell (a : Agent) (r : Fin 64) (v : Word) : Statement (.doorbell a r v) := of_none rfl
theorem descriptorArrival (r : Fin 64) (ok : Bool) (ws : List Word) : Statement (.descriptorArrival r ok ws) := of_none rfl
theorem hostReadCompletion (g : Fin 16) (ok : Bool) (data : List Byte) : Statement (.hostReadCompletion g ok data) := of_none rfl
theorem descNop (r : Fin 64) : Statement (.descNop r) := of_none rfl
theorem descWrite (r : Fin 64) : Statement (.descWrite r) := of_none rfl
theorem writep (r : Fin 64) : Statement (.writep r) := of_none rfl
theorem descRead (r : Fin 64) : Statement (.descRead r) := of_none rfl
theorem copy (r : Fin 64) : Statement (.copy r) := of_none rfl
theorem fill (r : Fin 64) : Statement (.fill r) := of_none rfl
theorem descFence (r : Fin 64) : Statement (.descFence r) := of_none rfl
theorem txnBegin (r : Fin 64) : Statement (.txnBegin r) := of_none rfl
theorem txnCommit (r : Fin 64) : Statement (.txnCommit r) := of_none rfl
theorem txnRollback (r : Fin 64) : Statement (.txnRollback r) := of_none rfl
theorem snapDescriptor (r : Fin 64) : Statement (.snapDescriptor r) := of_none rfl
theorem descriptorComplete (r : Fin 64) : Statement (.descriptorComplete r) := of_none rfl
theorem ringEnable (a : Agent) (r : Fin 64) : Statement (.ringEnable a r) := of_none rfl
theorem ringDisable (a : Agent) (r : Fin 64) : Statement (.ringDisable a r) := of_none rfl
theorem drainEnd (r : Fin 64) : Statement (.drainEnd r) := of_none rfl
theorem abort (a : Agent) (r : Fin 64) : Statement (.abort a r) := of_none rfl
theorem resume (a : Agent) (r : Fin 64) : Statement (.resume a r) := of_none rfl
theorem attach (a : Agent) (r : Fin 64) : Statement (.attach a r) := of_none rfl
theorem rearm (a : Agent) (r : Fin 64) : Statement (.rearm a r) := of_none rfl
theorem irqTimerExpiry (r : Fin 64) : Statement (.irqTimerExpiry r) := of_none rfl
theorem entryPublish (r : Fin 64) : Statement (.entryPublish r) := of_none rfl
theorem blockPublish (r : Fin 64) : Statement (.blockPublish r) := of_none rfl
theorem perstN : Statement (.perstN) := of_none rfl
theorem linkDown : Statement (.linkDown) := of_none rfl
theorem linkUp : Statement (.linkUp) := of_none rfl
theorem recordEntry (g : RecGroup) : Statement (.recordEntry g) := of_none rfl
theorem entryQueueEntry : Statement (.entryQueueEntry) := of_none rfl
theorem leaveDiscarding (r : Fin 64) : Statement (.leaveDiscarding r) := of_none rfl
theorem flushTimerExpiry (r : Fin 64) : Statement (.flushTimerExpiry r) := of_none rfl
theorem blockWrite (r : Fin 64) : Statement (.blockWrite r) := of_none rfl
theorem galMarkWrite (a : Agent) (v : Word) : Statement (.galMarkWrite a v) := of_none rfl
theorem begin (a : Agent) (t : Fin 8) : Statement (.begin a t) := of_none rfl
theorem rollback (a : Agent) (t : Fin 8) : Statement (.rollback a t) := of_none rfl
theorem commit (a : Agent) (t : Fin 8) : Statement (.commit a t) := of_none rfl
theorem sofsWrite (a : Agent) (t : Fin 8) (v : Word) : Statement (.sofsWrite a t v) := of_none rfl
theorem svalWrite (a : Agent) (t : Fin 8) (v : Word) : Statement (.svalWrite a t v) := of_none rfl
theorem landing (t : Fin 8) : Statement (.landing t) := of_none rfl
theorem snapStrobe : Statement (.snapStrobe) := of_none rfl
theorem timedSnap : Statement (.timedSnap) := of_none rfl
theorem peerSnap : Statement (.peerSnap) := of_none rfl
theorem peerSnapLatch : Statement (.peerSnapLatch) := of_none rfl
theorem readRetry (mem : Fin 10) (off : Nat) (q : Requester) (clean : Bool) : Statement (.readRetry mem off q clean) := of_none rfl
theorem recordCreate : Statement (.recordCreate) := of_none rfl
theorem persistentLogWrite : Statement (.persistentLogWrite) := of_none rfl
theorem faultReset : Statement (.faultReset) := of_none rfl
theorem pendClear (a : Agent) (j : Fin 8) (v : Word) : Statement (.pendClear a j v) := of_none rfl
theorem ffclr : Statement (.ffclr) := of_none rfl
theorem logclr : Statement (.logclr) := of_none rfl
theorem pendclr : Statement (.pendclr) := of_none rfl
theorem inject (a : Agent) (v : Word) : Statement (.inject a v) := of_none rfl
theorem safeclr (a : Agent) (v : Word) : Statement (.safeclr a v) := of_none rfl
theorem evaluation : Statement (.evaluation) := of_none rfl
theorem bgCancel : Statement (.bgCancel) := of_none rfl
theorem selfTest (a : Agent) (v : Word) : Statement (.selfTest a v) := of_none rfl
theorem recalibrate (a : Agent) (v : Word) : Statement (.recalibrate a v) := of_none rfl
theorem selfTestEnd (pass : Bool) (ofs : BitVec 20) : Statement (.selfTestEnd pass ofs) := of_none rfl
theorem scrubPass : Statement (.scrubPass) := of_none rfl
theorem calibrationTurn (fl : Fin 8) (ok : Bool) : Statement (.calibrationTurn fl ok) := of_none rfl
theorem delayLineSwap (fl : Fin 8) : Statement (.delayLineSwap fl) := of_none rfl
theorem swapSkip (fl : Fin 8) : Statement (.swapSkip fl) := of_none rfl
theorem telemetrySample : Statement (.telemetrySample) := of_none rfl
theorem tempMeasure (t01 t23 : Word) : Statement (.tempMeasure t01 t23) := of_none rfl
theorem chestRead (a : Agent) (cnt : BitVec 7) : Statement (.chestRead a cnt) := of_none rfl
theorem chestReadDone (ok : Bool) : Statement (.chestReadDone ok) := of_none rfl
theorem chestWrite (a : Agent) (cnt : BitVec 7) : Statement (.chestWrite a cnt) := of_none rfl
theorem chestRowDone (ok : Bool) : Statement (.chestRowDone ok) := of_none rfl
theorem wearLevelMove (b : Nat) : Statement (.wearLevelMove b) := of_none rfl
theorem lifetimeCommit : Statement (.lifetimeCommit) := of_none rfl
theorem supplyWarn (k : Fin 5) : Statement (.supplyWarn k) := of_none rfl
theorem dipRecovery (k : Fin 5) (minmv : BitVec 16) (dur : Word) : Statement (.dipRecovery k minmv dur) := of_none rfl
theorem supplyReset (k : Fin 5) : Statement (.supplyReset k) := of_none rfl
theorem pfailN : Statement (.pfailN) := of_none rfl
theorem lgs : Statement (.lgs) := of_none rfl
theorem lgsDone : Statement (.lgsDone) := of_none rfl
theorem doze : Statement (.doze) := of_none rfl
theorem dozeEntry : Statement (.dozeEntry) := of_none rfl
theorem run : Statement (.run) := of_none rfl
theorem dozeExit : Statement (.dozeExit) := of_none rfl
theorem dormant : Statement (.dormant) := of_none rfl
theorem wakePin (n : Fin 16) : Statement (.wakePin n) := of_none rfl
theorem lobbyWakeTimer (j : Fin 8) : Statement (.lobbyWakeTimer j) := of_none rfl
theorem powerOnReset : Statement (.powerOnReset) := of_none rfl
theorem resetN : Statement (.resetN) := of_none rfl
theorem hostReset : Statement (.hostReset) := of_none rfl
theorem supReset : Statement (.supReset) := of_none rfl
theorem peerReset : Statement (.peerReset) := of_none rfl
theorem galReset : Statement (.galReset) := of_none rfl
theorem timingReset : Statement (.timingReset) := of_none rfl
theorem vddGood (vio : BitVec 3) : Statement (.vddGood vio) := of_none rfl
theorem xinRunning : Statement (.xinRunning) := of_none rfl
theorem bootPatchLoad : Statement (.bootPatchLoad) := of_none rfl
theorem configImageApply : Statement (.configImageApply) := of_none rfl
theorem imageWaitExpiry : Statement (.imageWaitExpiry) := of_none rfl
theorem autogoStart : Statement (.autogoStart) := of_none rfl
theorem linkTrainingStart : Statement (.linkTrainingStart) := of_none rfl
theorem flr : Statement (.flr) := of_none rfl
theorem l1Entry : Statement (.l1Entry) := of_none rfl
theorem pcieError (k : Fin 3) : Statement (.pcieError k) := of_none rfl
theorem xspiRead (off : Nat) (len : Nat) : Statement (.xspiRead off len) := of_none rfl
theorem xspiWrite (off : Nat) (data : List Byte) : Statement (.xspiWrite off data) := of_none rfl
theorem readStatus : Statement (.readStatus) := of_none rfl
theorem readId : Statement (.readId) := of_none rfl
theorem hbKick (a : Agent) (v : Word) : Statement (.hbKick a v) := of_none rfl
theorem heartbeatExpiry : Statement (.heartbeatExpiry) := of_none rfl
theorem hbLock : Statement (.hbLock) := of_none rfl
theorem peerEnable : Statement (.peerEnable) := of_none rfl
theorem enumFrame (h : FrameHead) : Statement (.enumFrame h) := of_none rfl
theorem timeFrameSend : Statement (.timeFrameSend) := of_none rfl
theorem timeFrame (h : FrameHead) (t : Time) (fine : BitVec 5) (arr : BitVec 5) : Statement (.timeFrame h t fine arr) := of_none rfl
theorem tooth0Frame (h : FrameHead) (t : Tooth0) : Statement (.tooth0Frame h t) := of_none rfl
theorem tooth1Frame (h : FrameHead) (t : Tooth1) : Statement (.tooth1Frame h t) := of_none rfl
theorem snapFrame (h : FrameHead) (round : Nat) (at' : Word) : Statement (.snapFrame h round at') := of_none rfl
theorem commitFrame (h : FrameHead) (round : Nat) (t : Fin 8) (at' : Word) : Statement (.commitFrame h round t at') := of_none rfl
theorem statusFrame (h : FrameHead) (round : Nat) (acted : BitVec 4) : Statement (.statusFrame h round acted) := of_none rfl
theorem linkdnFrame (h : FrameHead) : Statement (.linkdnFrame h) := of_none rfl
theorem peerLinkDown : Statement (.peerLinkDown) := of_none rfl
theorem extest : Statement (.extest) := of_none rfl
theorem samplePreload : Statement (.samplePreload) := of_none rfl
theorem idcode : Statement (.idcode) := of_none rfl
theorem highz : Statement (.highz) := of_none rfl
theorem clamp : Statement (.clamp) := of_none rfl
theorem bypass : Statement (.bypass) := of_none rfl
theorem debug : Statement (.debug) := of_none rfl
theorem debugUpdateDr (dr : BitVec 54) : Statement (.debugUpdateDr dr) := of_none rfl
theorem dbgHalt (a : Agent) (v : Word) : Statement (.dbgHalt a v) := of_none rfl
theorem dbgResume (a : Agent) (v : Word) : Statement (.dbgResume a v) := of_none rfl
theorem dbgStep (a : Agent) (v : Word) : Statement (.dbgStep a v) := of_none rfl
theorem breakpointHit (e : Fin 8) : Statement (.breakpointHit e) := of_none rfl
theorem dbgDataWrite (a : Agent) (v : Word) : Statement (.dbgDataWrite a v) := of_none rfl
theorem commaLock : Statement (.commaLock) := of_none rfl
theorem perstNRelease : Statement (.perstNRelease) := of_none rfl
theorem pfailNRelease : Statement (.pfailNRelease) := of_none rfl
theorem tripInputInactive (m : Fin 16) : Statement (.tripInputInactive m) := of_none rfl
theorem configurationWrite (v : Word) : Statement (.configurationWrite v) := of_none rfl
theorem angleCyclePassage (n : Fin 4) : Statement (.angleCyclePassage n) := of_none rfl
theorem scrubPassEnd : Statement (.scrubPassEnd) := of_none rfl
theorem laneClockEdge (k : Fin 16) (level : Bool) : Statement (.laneClockEdge k level) := of_none rfl
theorem laneRxStartEdge (k : Fin 16) (e : EdgeInfo) : Statement (.laneRxStartEdge k e) := of_none rfl
theorem peerFrameDiscard : Statement (.peerFrameDiscard) := of_none rfl

end Sys2Proof.Laws.CodeRow
end

