-- ==== Sys2Proof/Tests/Slice0.lean ====
section
/-! SUPPORT. Tests of the model on small states: what WellFormed refuses, words of engine instructions written out from the spec's
encoding tables, one step on fixed values, and a witness for the hypotheses of each statement. -/

namespace Sys2Proof.Tests

open Sys2Proof Sys2Proof.Machine

/-! ## What WellFormed refuses -/

theorem test_wf_size : WellFormed (.registerWrite .host 0 0 0) = false ∧ WellFormed (.rcRead .sup 0 9) = false
    ∧ WellFormed (.rcRead .sup 0 8) = true := by decide

theorem test_wf_window : WellFormed (.rcRead .host 0xFFFFC 8) = false ∧ WellFormed (.registerWrite .sup 0x100000 4 0) = false
    ∧ WellFormed (.registerWrite .host 0x13FFFC 4 0) = true ∧ WellFormed (.rcRead .host 0x202000 1) = false := by decide

theorem test_wf_agent : WellFormed (.rcRead (.bank 0 0) 0 4) = false ∧ WellFormed (.registerWrite (.newel 2) 0 4 0) = false := by decide

theorem test_wf_codeRam : WellFormed (.codeRamWrite .host 0x3FFFE 2 0) = false ∧ WellFormed (.codeRamWrite .host 0x60000 2 0) = false
    ∧ WellFormed (.codeRamWrite .host 0x40000 2 0) = true := by decide

theorem test_wf_counts : WellFormed (.ltrimWindowEnd (2 ^ 26)) = false
    ∧ WellFormed (.wearLevelMove 220) = false ∧ WellFormed (.readRetry 0 0x100000 .scrub true) = false := by decide

theorem test_wf_descriptors : WellFormed (.descriptorArrival 0 true [1, 2, 3]) = false
    ∧ WellFormed (.descriptorArrival 0 true (List.replicate 136 0)) = false := by simp [WellFormed]

theorem test_wf_data : WellFormed (.hostReadCompletion 0 true (List.replicate 513 0)) = false := by
  rw [WellFormed, List.length_replicate]; rfl

theorem test_wf_group : WellFormed (.recordEntry { src := 128, typ := 0, lvl := false, fine := 0, coarse := 0, ext := [], ring := 0 }) = false
    ∧ WellFormed (.recordEntry { src := 0, typ := 8, lvl := false, fine := 0, coarse := 0, ext := [], ring := 0 }) = false
    ∧ WellFormed (.recordEntry { src := 0, typ := 0, lvl := false, fine := 32, coarse := 0, ext := [], ring := 0 }) = false
    ∧ WellFormed (.recordEntry { src := 0, typ := 0, lvl := false, fine := 0, coarse := 2 ^ 48, ext := [], ring := 0 }) = false
    ∧ WellFormed (.recordEntry { src := 0, typ := 0, lvl := false, fine := 0, coarse := 0, ext := [2 ^ 56], ring := 0 }) = false
    ∧ WellFormed (.recordEntry { src := 0, typ := 0, lvl := false, fine := 0, coarse := 0, ext := [0, 0, 0, 0], ring := 0 }) = false := by decide

theorem test_wf_xspi : WellFormed (.xspiRead (2 ^ 24) 1) = false ∧ WellFormed (.xspiRead 0 0) = false
    ∧ WellFormed (.xspiWrite (2 ^ 24) [1]) = false ∧ WellFormed (.xspiWrite 0 []) = false := by decide

/-! ## Engine words, from the tables of R215 to R220 -/

/-- R216: the zero parcel is illegal, and so is a sub-operation with the wrong argument. -/
theorem test_decode_sys : decode16 1 0x0000 = .illegalInstruction 1 ∧ decode16 1 0x0100 = .nop 1 ∧ decode16 1 0x0101 = .illegalInstruction 1
    ∧ decode16 1 0x0200 = .done 1 ∧ decode16 1 0x0300 = .yield 1 ∧ decode16 1 0x0400 = .ret 1 ∧ decode16 1 0x050F = .rep 1 15
    ∧ decode16 1 0x0670 = .push 1 7 ∧ decode16 1 0x07F0 = .pop 1 15 := by decide

/-- R217: ALU2 with rd in [11:8], rs in [7:4] and f in [3:0]. -/
theorem test_decode_alu2 : decode16 0 0x1231 = .add 0 2 2 3 false ∧ decode16 0 0x1230 = .mov 0 2 3 ∧ decode16 0 0x123F = .sbefore 0 2 2 3 false
    ∧ decode16 0 0x1238 = .sar 0 2 2 3 false := by decide

/-- R215: immediates, branches, shifts and the short loads and stores. -/
theorem test_decode_short : decode16 0 0x24FF = .addi8 0 4 0xFF ∧ decode16 0 0x3480 = .li8 0 4 0x80 ∧ decode16 0 0x4412 = .lwsp 0 4 0x12
    ∧ decode16 0 0x5412 = .swsp 0 4 0x12 ∧ decode16 0 0x63FE = .bz 0 3 0xFFFE false ∧ decode16 0 0x7302 = .bnz 0 3 2 false
    ∧ decode16 0 0x825F = .shri 0 2 0x1F ∧ decode16 0 0x82FF = .rori 0 2 0x3F ∧ decode16 0 0x9800 = .br 0 0xF800 false
    ∧ decode16 0 0xA12F = .lw4 0 1 2 15 ∧ decode16 0 0xB120 = .sw4 0 1 2 0 := by decide

/-- R219: LI begins with 0xC8 and IN with 0xF0; a reserved field that is not 0, an unassigned opcode and LWPI with A = B are illegal. -/
theorem test_decode_long : decode32 0 0xC840 0x8000 = .li 0 4 0x8000 ∧ decode32 0 0xC841 0x8000 = .illegalInstruction 0
    ∧ decode32 0 0xF012 0x1234 = .inp 0 1 2 0x1234 ∧ decode32 0 0xD234 0x0000 = .illegalInstruction 0 ∧ decode32 0 0xFF00 0x0000 = .illegalInstruction 0
    ∧ decode32 0 0xE034 0x0004 = .lwpi 0 3 4 4 ∧ decode32 0 0xE033 0x0004 = .illegalInstruction 0 ∧ decode32 0 0xEB00 0x0123 = .call 0 0x0123 ∧ decode32 0 0xEC05 0x0001 = .illegalInstruction 0 := by decide

/-- R220: the function codes of the register and accumulator layouts. -/
theorem test_decode_functions : decode32 0 0xC012 0x3000 = .add 0 1 2 3 true ∧ decode32 0 0xC012 0x3F00 = .soadd 0 1 2 3
    ∧ decode32 0 0xC112 0x3600 = .illegalInstruction 0 ∧ decode32 0 0xC112 0x0600 = .clz 0 1 2 ∧ decode32 0 0xC212 0x3500 = .rem 0 1 2 3
    ∧ decode32 0 0xC302 0x3001 = .mac 0 true 2 3 ∧ decode32 0 0xC312 0x3001 = .illegalInstruction 0 ∧ decode32 0 0xC310 0x0501 = .rdah 0 1 true
    ∧ decode32 0 0xC412 0x0002 = .macd 0 1 2 true false ∧ decode32 0 0xC512 0x3100 = .angsub 0 1 2 3 ∧ decode32 0 0xF400 0x1F03 = .sig 0 3 31 := by decide

/-! ## States -/

/-- A reset state with these words written to these registers. -/
def st (l : List (Nat × Word)) : State := l.foldl (fun s x => s.wr x.1 x.2) State.reset

/-- Engine 0 runs and executes thread 3 on its bank 0, which `f` has changed. -/
def onBank (f : Bank → Bank) : State :=
  { State.reset with
    regs := [(feOff 0 FE.STAT, 1)]
    eng := State.reset.eng.set 0 { Eng.reset with level := some 0, banks := Eng.reset.banks.set 0 (f { Bank.reset with thread := some 3 }) } }

/-- The state that a command leaves. -/
def then_ (c : Instr) (s : State) : State := match exec c s with | .next t => t | _ => s

/-! ## One step on fixed values -/

/-- R227: shifts by 0, 31, 32 and 63. -/
theorem test_shift_amounts :
    let s (n : Word) := onBank (fun x => (x.put 1 0x80000001).put 2 n)
    let r (c : Instr) (n : Word) := ((then_ c (s n)).bank 0 0).get 3
    r (.shl 0 3 1 2 true) 0 = 0x80000001 ∧ r (.shl 0 3 1 2 true) 31 = 0x80000000 ∧ r (.shl 0 3 1 2 true) 32 = 0
    ∧ r (.shr 0 3 1 2 true) 63 = 0 ∧ r (.sar 0 3 1 2 true) 31 = 0xFFFFFFFF ∧ r (.sar 0 3 1 2 true) 40 = 0xFFFFFFFF
    ∧ r (.ror 0 3 1 2) 32 = 0x80000001 ∧ r (.ror 0 3 1 2) 1 = 0xC0000000 := by decide

/-- R228: the most negative number divided by −1, and a division by 0, which sets DZ. -/
theorem test_division :
    let s (y : Word) := onBank (fun x => (x.put 1 0x80000000).put 2 y)
    ((then_ (.div 0 3 1 2) (s 0xFFFFFFFF)).bank 0 0).get 3 = 0x80000000 ∧ ((then_ (.rem 0 3 1 2) (s 0xFFFFFFFF)).bank 0 0).get 3 = 0
    ∧ ((then_ (.div 0 3 1 2) (s 0)).bank 0 0).get 3 = 0xFFFFFFFF ∧ ((then_ (.div 0 3 1 2) (s 0)).bank 0 0).st = 1 := by decide

/-- R203: g0 reads 0 and discards writes. -/
theorem test_g0 : ((then_ (.li 0 0 7) (onBank id)).bank 0 0).get 0 = 0 ∧ ((then_ (.li 0 5 0x8000) (onBank id)).bank 0 0).get 5 = 0xFFFF8000 := by decide

/-- R209: the value of a load reaches its register after the delay slot. -/
theorem test_delay_slot :
    let s := onBank (fun x => { x with load := some (4, 9), g := x.g.set 4 1 })
    ((then_ (.add 0 5 4 4 false) s).bank 0 0).get 5 = 2 ∧ ((then_ (.add 0 5 4 4 false) s).bank 0 0).get 4 = 9 := by decide

/-! ## Witnesses: each meets the hypotheses of the statement that it names

A statement with several clauses has a witness for each; a clause whose input has a range has one at its ends. -/

/-- Every instruction of engine 0 executes here, as RegisterOperations, ImmediateAndUnaryOperations, Shifts, DivisionAndAccumulators,
Loads, Stores, MultiplyAccumulateDual and SignalSends ask; the premise of EngineInstructionGate is the same. -/
theorem test_witness_executes (i : Instr) : Executes (onBank id) 0 0 i := ⟨rfl, rfl, rfl, rfl⟩

theorem test_witness_Loads : (1 : Fin 16) ≠ 2 := by decide

theorem test_witness_StackAndTransfers :
    let room (x : Bank) : Prop := x.splim = 0 ∨ x.splim.toNat + 4 ≤ x.sp.toNat
    let s := onBank (fun x => { x with splim := 0x100, sp := 0x104 })
    executing s 0 = some 0 ∧ room (s.bank 0 0) ∧ room ((onBank id).bank 0 0) ∧ ¬room ((onBank (fun x => { x with splim := 0x100, sp := 0x103 })).bank 0 0) := by decide

/-- REP and REPI before a parcel that can be repeated, and before DONE, which cannot. -/
theorem test_witness_Repetition :
    let s := onBank id
    let t := { s with mem := [(0x40003, 2), (0x40005, 2)] }
    (s.bank 0 0).rep = none ∧ unrepeatable (instrAt s 0 (nextPc s 0 0 1)) = false ∧ unrepeatable (instrAt s 0 (nextPc s 0 0 2)) = false
    ∧ executing t 0 = some 0 ∧ (t.bank 0 0).rep = none
    ∧ unrepeatable (instrAt t 0 (nextPc t 0 0 1)) = true ∧ unrepeatable (instrAt t 0 (nextPc t 0 0 2)) = true := by decide

theorem test_witness_InputOutput :
    let s := onBank id
    executing s 0 = some 0 ∧ feRun (ioRead s 0 0 0).2 0 = true ∧ feRun (ioWrite s 0 0 0 5) 0 = true
    ∧ ioLoc s 0 0 0 = .mw0 0x10000 ∧ ioLoc s 0 0 0x5FFC = .mw0 0x15FFC ∧ ioLoc s 0 0 0xFFFC = .reserved := by decide

/-- A thread at its commit, and the tails of DONE, YIELD, BAR and a call; with EN and without, with PEND and without. -/
theorem test_witness_ThreadEnds :
    let s (z : RomTail) := onBank (fun x => { x with tail := some z })
    let en (l : List (Nat × Word)) := { s .done with regs := (s .done).regs ++ l }
    executing (onBank id) 0 = some 0 ∧ ((onBank id).bank 0 0).thread = some 3
    ∧ (feRun (s .done) 0 = true ∧ ((s .done).bank 0 0).thread = some 3 ∧ ((s .done).bank 0 0).tail = some .done ∧ ((s .yield).bank 0 0).tail = some .yield
      ∧ ((s (.result 4 3)).bank 0 0).tail = some (.result 4 3) ∧ ((s .redirect).bank 0 0).tail = some .redirect)
    ∧ (thEn (en []) 0 3 = false ∧ thEn (en [(thOff 0 3, 0x40000)]) 0 3 = true ∧ thPend (en [(tstatOff 0 3, 8)]) 0 3 = true ∧ thPend (en []) 0 3 = false) := by decide

theorem test_witness_WaitsAndSpecialRegisters :
    let s := onBank (fun x => x.put 1 7)
    let t := { s with regs := s.regs ++ [(barOff 2, 1)] }
    executing s 0 = some 0 ∧ (s.bank 0 0).thread = some 3 ∧ laneCond s 5 0 = true ∧ laneCond s 5 1 = false ∧ participates s 2 0 = false
    ∧ executing t 0 = some 0 ∧ participates t 2 0 = true ∧ (t.bank 0 0).thread = some 3
    ∧ (s.bank 0 0).get 1 &&& 0xFFFFFFF8 = 0 ∧ ((onBank (fun x => x.put 1 8)).bank 0 0).get 1 &&& 0xFFFFFFF8 ≠ 0 := by decide

theorem test_witness_ThreadFaults :
    let s := onBank (fun x => { x with splim := 0x100, sp := 0x103 })
    executing s 0 = some 0 ∧ (s.bank 0 0).thread = some 3 ∧ (s.bank 0 0).splim ≠ 0 ∧ (s.bank 0 0).sp.toNat < (s.bank 0 0).splim.toNat + 4 := by decide

/-- An instruction, an engine that executes nothing, one that executes, one in a tail and one in a routine; an instruction that the decoder
detects, and a patch that redirects a routine: a match register names the entry address, whatever the mask ROM holds. -/
theorem test_witness_EngineInstructionGate :
    let s := onBank id
    let q := Run.start ⟨0, 0, 0, 0, 0, false, 1⟩ 7
    (fields (.nop 0)).isSome = true ∧ executing State.reset 0 = none ∧ executing s 0 = some 0 ∧ (s.bank 0 0).inTail = false ∧ (s.bank 0 0).run = none
    ∧ ((onBank (fun x => { x with tail := some .done })).bank 0 0).inTail = true
    ∧ (let r := onBank (fun x => { x with run := some q }); executing r 0 = some 0 ∧ (r.bank 0 0).inTail = false ∧ (r.bank 0 0).run = some q)
    ∧ (detect s 0 0 (.illegalInstruction 0)).isSome = true ∧ detect s 0 0 (.nop 0) = none := by decide

theorem meets_entry {e : Fin 8} {b : Fin 4} (n : Nat) {q : Run} {s : State} (h : (matchAt s q.at').isSome = true) : meets e b (n + 1) q s = true := by
  simp [meets, h]

theorem test_witness_redirected (f : Fields) (h : fields (.nop 0) = some f) :
    let s := { onBank id with patch := { Patch.reset with match' := [((Config.romEntry (.nop 0)).val, 0)] } }
    executing s 0 = some 0 ∧ (s.bank 0 0).inTail = false ∧ (s.bank 0 0).run = none ∧ detect s 0 0 (.nop 0) = none
    ∧ redirected s 0 0 (.nop 0) = some (Run.start f (Config.romEntry (.nop 0)).val) := by
  refine ⟨rfl, rfl, rfl, rfl, ?_⟩
  have m : (matchAt { onBank id with patch := { Patch.reset with match' := [((Config.romEntry (.nop 0)).val, 0)] } }
      (Run.start f (Config.romEntry (.nop 0)).val).at').isSome = true := by simp [matchAt, Run.start]
  rw [redirected, h]
  exact if_pos (meets_entry 1031 m)

theorem test_witness_ClocksAndCounting :
    let s := st [(R.CLK_STAT, 0x02), (R.CLK_CTRL, 3)]
    let on := { s with power := { s.power with boot := .done } }
    s.bt R.CLK_CTRL 1 = true ∧ s.bt R.CLK_STAT 1 = true ∧ s.bt R.CLK_CTRL 0 = true ∧ pllOn on = true ∧ on.tbclk = true
    ∧ (st [(R.CLK_STAT, 0x51)]).bt R.CLK_STAT 0 = true ∧ (st [(R.CLK_STAT, 0x51)]).tbclk = false := by decide

theorem test_witness_TimebaseSteering :
    timingIdle State.reset = true ∧ timingIdle (st [(R.SYNCOUT_CTRL, 1)]) = false
    ∧ (State.reset.tb.tb.toNat + 2 < 2 ^ 64 ∧ (st [(R.TB_SLEW, 1)]).fl R.TB_SLEW 0 2 = 1) ∧ (st [(R.TB_SLEW, 2)]).fl R.TB_SLEW 0 2 = 2
    ∧ (st [(R.TB_SLEW, 2)]).tb.tb.toNat + 1 < 2 ^ 64 ∧ State.reset.bt R.TB_SLEW 3 = false ∧ (st [(R.TB_SLEW, 8)]).bt R.TB_SLEW 3 = true := by decide

/-- An edge without a filter and with one, a level that returns, a filter that ends; a last edge 40 ns before, and one a fine unit nearer. -/
theorem test_witness_SyncInput :
    let s (c : Word) (f : Tb → Tb) := { st [(R.CLK_STAT, 3), (R.PWR_STAT, 0x700), (R.SYNCIN_CTRL, c)] with tb := f Tb.reset }
    let a := s 1 id
    let b := s 0x301 id
    let back := s 0x301 (fun x => { x with syncPin := true, syncFilt := some (true, (640, 640)) })
    let last (p : Nat) := s 0x301 (fun x => { x with syncPin := true, syncFilt := some (true, (640, 640)), syncPrev := some p })
    (a.bt R.PWR_STAT 10 = true ∧ sampleWaits a = false ∧ a.tb.syncPin ≠ true ∧ a.bt R.SYNCIN_STAT 22 ≠ true ∧ fld (a.rd R.SYNCIN_CTRL) 8 8 = 0
      ∧ bit (a.rd R.SYNCIN_CTRL) 0 = true ∧ fld (a.rd R.SYNCIN_CTRL) 1 2 = 0)
    ∧ (b.bt R.PWR_STAT 10 = true ∧ sampleWaits b = false ∧ b.tb.syncPin ≠ true ∧ b.bt R.SYNCIN_STAT 22 ≠ true ∧ fld (b.rd R.SYNCIN_CTRL) 8 8 ≠ 0)
    ∧ (3 ≠ 0 ∧ (match exec (.syncInEdge true 0 3) b with
        | .next t => t.hasDue (.syncInEdge false 0 0) | _ => false) = true)
    ∧ (back.bt R.PWR_STAT 10 = true ∧ sampleWaits back = false ∧ back.tb.syncPin ≠ false ∧ back.bt R.SYNCIN_STAT 22 = false)
    ∧ ((last 128).tb.syncFilt = some (true, 640, 640) ∧ (last 128).tb.syncPrev = some 128 ∧ 128 + 16 * 32 ≤ 640 ∧ 640 < 129 + 16 * 32) := by decide

/-- An edge due by its target and one due by its own tick, a train that is off and on, and a pulse that ends. -/
theorem test_witness_SyncOutput :
    let s := st [(R.SYNCOUT_PERIOD, 100), (R.SYNCOUT_WIDTH, 10)]
    let r := { s with tb := { s.tb with soRun := true, soEnd := some 0 } }
    let p := { st [(R.SYNCOUT_WIDTH, 10)] with tb := { s.tb with soRun := true, soSoon := some 0 } }
    s.bt R.SYNCOUT_CTRL 0 = false ∧ (st [(R.SYNCOUT_CTRL, 1)]).bt R.SYNCOUT_CTRL 0 = true
    ∧ (r.tb.soRun = true ∧ r.tb.soSoon = none ∧ r.tb.soStart + r.tb.soK * r.tb.soPeriod ≤ r.tb.tb.toNat ∧ r.fl R.SYNCOUT_COUNT 0 16 = 0
      ∧ 0 < min (r.rd R.SYNCOUT_WIDTH).toNat ((r.rd R.SYNCOUT_PERIOD).toNat - 1) ∧ r.tb.soEnd = some 0 ∧ 0 ≤ r.tb.tb.toNat)
    ∧ (p.tb.soRun = true ∧ p.tb.soSoon = some 0 ∧ 0 ≤ p.ticks ∧ (p.rd R.SYNCOUT_PERIOD).toNat = 0 ∧ 0 < (p.rd R.SYNCOUT_WIDTH).toNat)
    ∧ s.tb.soEnd = none ∧ ((s.rd R.SYNCOUT_START_LO).toNat ≤ s.tb.tb.toNat ∧ s.tb.tb.toNat < ((st [(R.SYNCOUT_START_LO, 1)]).rd R.SYNCOUT_START_LO).toNat) := by decide

theorem test_witness_DebugFreeze :
    let s := st [(feOff 2 FE.STAT, 4)]
    engineHalted s 33 = true ∧ s.ch[33].frozen = false ∧ (33 : Fin 96).val = 32 * (1 : Fin 3).val + (1 : Fin 32).val
    ∧ bit 2 1 = true ∧ bit 0 1 = false ∧ (s.updCh 33 (fun c => { c with frozen := true })).ch[33].frozen = true
    ∧ follows s 33 = none
    ∧ (let m := (st [(chOff 20 CH.CTRL, 9), (chOff 20 CH.PWM, 2)]).updCh 20 (fun c => { c with run := true })
       follows m 20 = some 2 ∧ chEn m 20 = true ∧ m.ch[20].run = true ∧ m.pg[2].run = false) := by decide

/-- A member of a stopped group takes its group's count when it is released (R54). -/
theorem test_release_member :
    let s := st [(chOff 20 CH.CTRL, 9), (chOff 20 CH.PWM, 2), (pgOff 2 PG.PERIOD_ACT, 9), (pgOff 2 PG.CNT, 4)]
    let t := then_ (.channelRelease 20) (s.updCh 20 (fun c => { c with frozen := true, run := true }))
    t.ch[20].frozen = false ∧ t.rd (chOff 20 CH.CNT) = 4 := by decide

theorem test_witness_CounterAdvance : 0 < 2 ^ 32 ∧ (4 < 5 ∧ 5 ≤ 5 ∧ 5 ≤ 6) ∧ (0 < 1 ∧ 3 + 1 < 5 ∧ 4 + 1 = 5 ∧ 1 < 2) := by decide

/-- Counting up at the period, up-down below the peak, and cascade on CH1. -/
theorem test_witness_ChannelCounting :
    let s := (st [(chOff 0 CH.CTRL, 0x3), (chOff 0 CH.PERIOD_ACT, 9), (chOff 0 CH.CNT, 9)]).updCh 0 (fun c => { c with run := true, xferAt := 5 })
    let p := (st [(chOff 0 CH.CTRL, 0x7), (chOff 0 CH.PERIOD_ACT, 9), (chOff 0 CH.CNT, 8)]).updCh 0 (fun c => { c with run := true })
    let c := (st [(chOff 1 CH.CTRL, 0xB), (chOff 1 CH.PERIOD_ACT, 9)]).updCh 1 (fun c => { c with run := true, took := 5 })
    (∃ a, chAdvance s 0 = some a ∧ a.bound = true ∧ s.ch[0].xferAt ≠ s.now) ∧ (∃ a, chAdvance p 0 = some a ∧ a.peak = true ∧ a.bound = false)
    ∧ (∃ a, chAdvance c 1 = some a) ∧ cntMode c 1 = 5 ∧ c.ch[1].took ≠ c.now :=
  ⟨⟨_, rfl, rfl, by decide⟩, ⟨_, rfl, rfl, rfl⟩, ⟨_, rfl⟩, by decide, by decide⟩

theorem test_witness_CompareActions :
    let s := st [(chOff 4 CH.CTRL, 1), (chOff 4 CH.OUTCFG, 0x4)]
    let a := s.updCh 4 (fun c => { c with aqPinAt := 1 })
    let b := s.updCh 4 (fun c => { c with aqPinAt := 7, cmpPinAt := 1, cmpLetter := 2 })
    chEn s 4 = true ∧ s.ch[4].frozen = false ∧ fld (s.rd (chOff 4 CH.OUTCFG)) 4 2 = 0 ∧ fld (s.rd (chOff 4 CH.OUTCFG)) 2 2 = 1
    ∧ chEn a 4 = true ∧ a.ch[4].aqPinAt = a.now ∧ chEn b 4 = true ∧ b.ch[4].aqPinAt ≠ b.now ∧ b.ch[4].cmpPinAt = b.now ∧ 1 < b.ch[4].cmpLetter
    ∧ ¬(2 < b.ch[4].cmpLetter) := by decide

theorem test_witness_ChannelInput :
    let e : PinEdge := { level := true, coarse := 16, fine := 0, count := 7, real := 512 }
    let s := st [(R.CLK_STAT, 3), (R.PWR_STAT, 0x700), (chOff 2 CH.CTRL, 1), (chOff 2 CH.CAPCFG, 0x302)]
    let f := s.updCh 2 (fun c => { c with filt := some e, pin := true })
    let g := s.updCh 2 (fun c => { c with filt := some e })
    let c (l : Nat) := s.updCh 2 (fun c => { c with caps := [e], lastTs := some l, fifo := List.replicate 8 ⟨0, 0, false, 0⟩ })
    (pinUsable s 2 = true ∧ sampleWaits s = false ∧ s.ch[2].pin ≠ true ∧ chEn s 2 = true ∧ s.ch[2].filt = none ∧ s.ch[2].level ≠ true ∧ chEn State.reset 2 = false)
    ∧ (f.ch[2].filt = some e ∧ f.ch[2].pin = e.level) ∧ (g.ch[2].filt = some e ∧ g.ch[2].pin ≠ e.level) ∧ s.fl (chOff 2 CH.CAPCFG) 0 2 = 2
    ∧ (c 1).ch[2].caps = [e] ∧ (c 1).tbclk = true ∧ (c 1).ch[2].lastTs = some 1 ∧ e.real < 1 + 16 * 32 ∧ ¬(e.real < 0 + 16 * 32)
    ∧ 8 ≤ (c 0).ch[2].fifo.length ∧ s.ch[2].fifo.length < 8
    ∧ (let d (v : Word) := st [(R.CLK_STAT, v), (R.PWR_STAT, 0x700), (chOff 2 CH.OUTCFG, 1)]
       pinUsable (d 3) 2 = true ∧ padOf (d 3) 2 = (true, false) ∧ ((d 3).ch[2].padDrv, (d 3).ch[2].padLvl) ≠ (true, false) ∧ (d 3).tbclk = true
       ∧ padOf (d 0x13) 2 = (true, false) ∧ ((d 0x13).ch[2].padDrv, (d 0x13).ch[2].padLvl) ≠ (true, false) ∧ (d 0x13).tbclk = false) := by decide

/-- An offer into a queue of 7 and of 8, of its own entry, frozen or not, of one that has fired in this tick, and of a reserved code. -/
theorem test_witness_ActionQueueOffer :
    let v : Word := 0x00034100
    let on := st [(chOff 6 CH.CTRL, 1)]
    let e := aqEntryOf .host (on.lat? .host (chOff 6 CH.AQ_T)) v
    let same (x : AqEntry) : Bool := x.tagv && x.origin == .host && x.tag == e.tag
    let holds (l : List AqEntry) := on.updCh 6 (fun c => { c with aq := l, firedAt := 1, fired := some { e with tag := 4 } })
    let absorbed (s : State) : Prop := e.tagv = true ∧ s.ch[6].firedAt = s.now ∧ ∃ x ∈ s.ch[6].fired, same x = true
    let named (s : State) : Bool := e.tagv && s.ch[6].aq.any same
    let other : AqEntry := { e with tagv := false }
    e.act < 10 ∧ chEn on 6 = true ∧ chEn State.reset 6 = false ∧ 10 ≤ (aqEntryOf .host 0 0xA00).act ∧ (aqEntryOf .host 0 0x900).act < 10
    ∧ (let s := holds (List.replicate 7 other); ¬absorbed s ∧ named s = false ∧ s.ch[6].aq.length < 8)
    ∧ (let s := holds (List.replicate 8 other); ¬absorbed s ∧ named s = false ∧ 8 ≤ s.ch[6].aq.length)
    ∧ (let s := holds [e]; ¬absorbed s ∧ named s = true ∧ s.ch[6].aq.any (fun x => same x && x.frz) = false ∧ chEn s 6 = true)
    ∧ (let s := holds [{ e with frz := true }]; ¬absorbed s ∧ named s = true ∧ s.ch[6].aq.any (fun x => same x && x.frz) = true)
    ∧ absorbed (on.updCh 6 (fun c => { c with firedAt := 1, fired := some e })) := by decide

theorem test_witness_ActionQueueFire :
    let e : AqEntry := { coarse := 0, fine := 0, act := 1, record := false, frz := false, tagv := false, tag := 0, origin := .host, late := false, cancel := false }
    let s (x : AqEntry) := State.reset.updCh 6 (fun c => { c with aq := [x] })
    (s e).ch[6].frozen = false ∧ e.coarse = (s e).near ∧ ((0xFFFFFFFF : Word) - (s e).near).toInt < 0 ∧ ¬(((1 : Word) - (s e).near).toInt < 0)
    ∧ State.reset.ch[6].aq = [] := by decide

theorem test_witness_ChannelCommands :
    chEn State.reset 7 = false ∧ chEn (st [(chOff 7 CH.CTRL, 1)]) 7 = true ∧ cntMode State.reset 7 ≠ 4 ∧ cntMode (st [(chOff 7 CH.CTRL, 8)]) 7 = 4
    ∧ State.reset.fl (chOff 7 CH.CTRL) 4 2 ≠ 2 ∧ (st [(chOff 7 CH.CTRL, 0x20)]).fl (chOff 7 CH.CTRL) 4 2 = 2
    ∧ (st [(chOff 7 CH.CTRL, 0x10)]).fl (chOff 7 CH.CTRL) 4 2 = 1 ∧ cntMode (st [(chOff 7 CH.CTRL, 0x10)]) 7 ≠ 4
    ∧ (0x20 : Word) &&& 0xE0E0E0E0 ≠ 0 := by decide

theorem test_witness_LatchedReads :
    let s := (st [(chOff 9 CH.CTRL, 0xA)]).updCh 8 (fun c => { c with fifo := [⟨7, 3, true, 1⟩] })
    s.ch[9].fifo = [] ∧ s.ch[8].fifo = [⟨7, 3, true, 1⟩] ∧ (9 : Fin 96).val = (8 : Fin 96).val + 1 ∧ cntMode s 9 = 5 := by decide

/-- A group up at its period, with a split period under HOLDSPLIT and without, an up-down peak with PEAKX, armed LOAD, and an armed start. -/
theorem test_witness_GroupCounting :
    let g (ctrl : Word) (cnt : Word) (f : Pg → Pg) := (st [(pgOff 2 PG.CTRL, ctrl), (pgOff 2 PG.PERIOD_ACT, 9), (pgOff 2 PG.CNT, cnt)]).updPg 2
      (fun x => f { x with run := true, pwrit := true })
    let split (s : State) : Prop := tMode s 2 = 0 ∧ s.pg[2].pwrit = true ∧ s.pg[2].cwrit = false ∧ s.pg[2].held = false
    (∃ a, pgAdvance (g 0x41 9 id) 2 = some a ∧ a.bound = true) ∧ split (g 0x41 9 id) ∧ (g 0x41 9 id).bt (pgOff 2 PG.CTRL) 6 = true
    ∧ (g 0x41 9 (fun x => { x with held := true })).pg[2].held = true ∧ split (g 0x01 9 id) ∧ (g 0x01 9 id).bt (pgOff 2 PG.CTRL) 6 = false
    ∧ (∃ a, pgAdvance (g 0x25 8 id) 2 = some a ∧ a.peak = true ∧ a.bound = false) ∧ (g 0x25 8 id).bt (pgOff 2 PG.CTRL) 5 = true
    ∧ (tMode (g 0x09 9 id) 2 = 1 ∧ (g 0x09 9 (fun x => { x with loadArm := true })).pg[2].loadArm = true ∧ tMode (g 0x11 9 id) 2 = 2)
    ∧ (let s := g 0x01 9 (fun x => { x with run := false, armed := true }); pgEn s 2 = true ∧ s.pg[2].armed = true ∧ s.pg[2].run = false)
    ∧ (let s := st [(chOff 20 CH.CTRL, 8), (chOff 20 CH.PWM, 2)]; follows s 20 = some 2 ∧ s.ch[20].frozen = false) :=
  ⟨⟨_, rfl, rfl⟩, by decide, by decide, by decide, by decide, by decide, ⟨_, rfl, rfl, rfl⟩, by decide, by decide, by decide, by decide⟩

theorem test_witness_GroupCommands :
    let s := st [(pgOff 1 PG.CTRL, 1)]
    (pgEn s 1 = true ∧ s.pg[1].run = false ∧ s.fl (pgOff 1 PG.CTRL) 8 2 = 0) ∧ pgEn State.reset 1 = false
    ∧ tMode (st [(pgOff 1 PG.CTRL, 9)]) 1 = 1 ∧ tMode s 1 ≠ 1
    ∧ ((List.finRange 12).filter (fun k : Fin 12 => (st [(pgOff 1 (PG.MCH + 8), 0x80)]).bt (pgOff 1 (PG.MCH + 4 * k.val)) 7)) = [2] := by decide

theorem test_witness_TripsAndOutputs :
    let s := (st [(pgOff 1 PG.TRIP, 0x01010000)]).updCh 5 (fun c => { c with riseAt := some ⟨1, 0⟩, closeAt := some ⟨1, 0⟩ })
    let q := (s.updCh 5 (fun c => { c with closeAt := none, dec := !s.ch[5].refLvl })).updCh 5 (fun c => { c with counted := false })
    s.fl (pgOff 1 PG.TRIP) 16 8 ≠ 0 ∧ s.fl (pgOff 1 PG.TRIP) 16 8 ≤ 1 ∧ s.pg[1].latched = false ∧ s.pg[1].tripIn = false
    ∧ (s.updPg 1 (fun g => { g with tripIn := true })).pg[1].tripIn = true ∧ (s.updPg 1 (fun g => { g with forcedAt := 1 })).pg[1].forcedAt = s.now
    ∧ s.pg[1].forcedAt ≠ s.now ∧ State.reset.pg[1].tripTot = false
    ∧ s.ch[5].riseAt = some ⟨1, 0⟩ ∧ s.ch[5].closeAt = some ⟨1, 0⟩ ∧ foreseeLen q 5 (!s.ch[5].refLvl) 0 = none
    ∧ (let s := (st [(pgOff 1 PG.CTRL, 1), (pgOff 1 PG.PERIOD_ACT, 99), (pgOff 1 PG.CNT, 10), (pgOff 1 PG.MINPW, 20), (chOff 5 CH.CTRL, 9),
        (chOff 5 CH.PWM, 1), (chOff 5 CH.OUTCFG, 8), (chOff 5 CH.CMPA_ACT, 12)]).updPg 1 (fun g => { g with run := true })
       let s := s.updCh 5 (fun c => { c with closeAt := some ⟨1, 0⟩ })
       let q := (s.updCh 5 (fun c => { c with closeAt := none, dec := !s.ch[5].refLvl })).updCh 5 (fun c => { c with counted := false })
       (∃ r ∈ foreseeLen q 5 (!s.ch[5].refLvl) 0, isShort r (dtMinpw s 5).1 (dtMinpw s 5).2 = true) ∧ minPolicy s 5 (dtMinpw s 5).1 = 0) := by decide

/-- Newel 0 tracks a wheel of 5 − 1 teeth; the gap ends at tooth 0. `f` changes its state. -/
def wheel (f : Nwl → Nwl) : State :=
  (st [(R.CLK_STAT, 3), (nwlOff 0 NWL.CTRL, 1), (nwlOff 0 NWL.WHEEL, 0x00120004), (nwlOff 0 NWL.CLASS, 0x00004040), (nwlOff 0 NWL.WHL, 0x400000),
    (nwlOff 0 (NWL.WHL + 4), 294912), (nwlOff 0 (NWL.WHL + 8), 589824), (nwlOff 0 (NWL.WHL + 12), 884736)]).updNwl 0
    (fun w => f { w with on := true, mode := 0, state := .sync, pred := true, ppred := 1000, anext := 294912, tooth := some 0, idx := 1, fast := false })

/-- A rejected interval just under REJ, an accepted one, on no evidence of a gap, on evidence of none, and on that of a gap that is none. -/
theorem test_witness_ToothTracking :
    let e (d : Nat) : EdgeInfo := ⟨0, true, BitVec.ofNat 64 (d / 32), BitVec.ofNat 5 (d % 32)⟩
    let time (x : EdgeInfo) : Nat := x.coarse.toNat * 32 + x.fine.toNat
    let s (d : Nat) (h : List Period) := wheel (fun w => { w with inbox := [e d], hist := h })
    let gap (s : State) (d : Nat) := gapTest s 0 ((⟨d, false⟩ :: s.nwl[0].hist).take 4)
    time (e 249) = 249 ∧ (s 249 []).nwl[0].inbox = [e 249] ∧ (s 249 []).nwl[0].on = true ∧ (s 249 []).nwl[0].mode = 0
    ∧ ((s 249 []).nwl[0].state = .sync ∧ curPred (s 249 []).nwl[0] = true ∧ (s 249 []).nwl[0].fast = false ∧ classOf (s 249 []) 0 249 = .rejected)
    ∧ (classOf (s 250 []) 0 250 ≠ .rejected ∧ gap (s 250 []) 250 = none ∧ (s 250 []).nwl[0].idx + 1 < max 1 (nTeeth (s 250 []) 0))
    ∧ (let q := s 1000 [⟨1000, false⟩, ⟨1000, false⟩]; classOf q 0 1000 = .normal ∧ gap q 1000 = some false ∧ gapEnd q 0 q.nwl[0].idx = false)
    ∧ (let q := s 1000 [⟨2000, false⟩, ⟨1000, false⟩]; gap q 1000 = some (!gapEnd q 0 q.nwl[0].idx))
    ∧ (let q := wheel (fun w => { w with state := .seek, tooth := none, hist := [], inbox := [e 5] })
       q.nwl[0].state = .seek ∧ q.nwl[0].tooth = none ∧ q.nwl[0].hist = [] ∧ q.nwl[0].inbox = [e 5])
    ∧ State.reset.nwl[0].on = false ∧ (wheel (fun w => { w with mode := 2 })).nwl[0].mode ≠ 0
    ∧ (wheel (fun w => { w with load := some ⟨5, 294912, 1000, true, 0, 9⟩ })).nwl[0].load = some ⟨5, 294912, 1000, true, 0, 9⟩ := by decide

theorem test_witness_NewelStates :
    let s (f : Nwl → Nwl) := (((wheel f).wr (nwlOff 0 NWL.CAME) 0xC00000).wr (nwlOff 0 NWL.CAMWIN) 100)
    let cand (w : Nwl) : Nwl := { w with state := .confirm }
    let q := s cand
    let m (s : State) (a : Nat) := camMatches s 0 0 a true
    let ang (s : State) (x : Nat) := angleAt s 0 x
    (q.nwl[0].on = true ∧ q.nwl[0].mode = 0 ∧ q.nwl[0].state ≠ .seek ∧ q.nwl[0].state = .confirm ∧ q.nwl[0].phok = false ∧ q.nwl[0].fast = false ∧ State.reset.nwl[0].on = false)
    ∧ ((m q (ang q 0) = true ∧ m q ((ang q 0 + revLen) % nwlC q 0) = false) ∧ ang q 500 ≠ 0 ∧ m q (ang q 500) = false ∧ m q ((ang q 500 + revLen) % nwlC q 0) = false)
    ∧ (s (fun w => { w with state := .hold })).nwl[0].state = .hold
    ∧ (q.nwl[0].votes = 0 ∧ camVote q 0 = 1 ∧ 1 < camVote (q.wr (nwlOff 0 NWL.WHEEL) 0x00220004) 0)
    ∧ (let b := q.wr (nwlOff 0 (NWL.CAME + 4)) (0xC00000 + 1474560#32); m b (ang b 0) = true ∧ m b ((ang b 0 + revLen) % nwlC b 0) = true)
    ∧ (let y := (s (fun w => { w with phok := true })).setBt (nwlOff 0 NWL.CTRL) 6 true
       y.nwl[0].state = .sync ∧ y.bt (nwlOff 0 NWL.CTRL) 6 = true ∧ m y (ang y 500) = false ∧ m y ((ang y 500 + revLen) % nwlC y 0) = false)
    ∧ stallDue State.reset 0 = false
    ∧ (let late (f : Nwl → Nwl) := { wheel f with tb := { Tb.reset with tb := 0xFFFFFFFFFF } }
       stallDue (late cand) 0 = true ∧ stallDue (late (fun w => { w with mode := 2 })) 0 = true ∧ stallDue (late (fun w => { w with state := .seek })) 0 = true)
    ∧ (q.bt (nwlOff 0 NWL.CTRL) 0 = true ∧ State.reset.bt (nwlOff 0 NWL.CTRL) 0 = false ∧ descOk State.reset 0 = false ∧ descOk (wheel id) 0 = true
      ∧ State.reset.fl (nwlOff 0 NWL.CTRL) 1 2 ≠ 1 ∧ State.reset.fl (nwlOff 0 NWL.CTRL) 1 2 ≠ 2 ∧ (st [(nwlOff 0 NWL.CTRL, 2)]).fl (nwlOff 0 NWL.CTRL) 1 2 = 1) := by decide

theorem test_witness_EncoderAndCycles :
    let e (ch : Fin 96) (l : Bool) : EdgeInfo := ⟨ch, l, 77, 0⟩
    let s (f : Nwl → Nwl) := (st [(nwlOff 1 NWL.CTRL, 0x83), (nwlOff 1 NWL.ENCCFG, 4000), (nwlOff 1 NWL.ZCFG, 0x02000000), (nwlOff 1 NWL.ENCPOS, 3997)]).updNwl 1
      (fun w => f { w with on := true, mode := 1 })
    let q := s id
    let off (s : State) (pos : Nat) : Nat := min (fwd 4000 0 (pos % 4000)) (4000 - fwd 4000 0 (pos % 4000))
    let first (s : State) : Bool := s.agenda.any (fun d => d.tick ≤ s.ticks && (match d.cmd with | .encoderEdge m x => m == 1 && x.ch != 5 | _ => false))
    let b := q.after 0 (.encoderEdge 1 (e 0 true))
    (q.nwl[1].on = true ∧ q.nwl[1].mode = 1 ∧ q.nwl[1].encSame ≠ some 77 ∧ q.nwl[1].encT = none ∧ q.agenda = [] ∧ State.reset.nwl[1].on = false)
    ∧ (b.nwl[1].on = true ∧ b.nwl[1].mode = 1 ∧ decide (b.fl (nwlOff 1 NWL.INPUT) 0 7 = (5 : Fin 96).val) = false ∧ first b = true ∧ first q = false)
    ∧ (s (fun w => { w with encSame := some 77 })).nwl[1].encSame = some (e 0 true).coarse.toNat
    ∧ encCpc q 1 = 4000 ∧ q.fl (nwlOff 1 NWL.ENCPOS) 0 24 = 3997 ∧ q.fl (nwlOff 1 NWL.ZCFG) 24 8 = 2 ∧ 2 < off q 3997 ∧ off q 3998 ≤ 2
    ∧ q.bt (nwlOff 1 NWL.CTRL) 7 = true ∧ State.reset.bt (nwlOff 1 NWL.CTRL) 7 = false
    ∧ (cyclePass (s (fun w => { w with state := .sync, aLast := some 9999999 })) 1 = some true) ∧ cyclePass q 1 = none := by decide

/-- Newel 0 in SYNC with its scheduler on, and slot 5 live with this angle, state and LATE word; the tooth has just come to 294912. -/
def slots (ang stt late : Nat) (f : Nwl → Nwl) : State :=
  ((((wheel (fun w => f { w with toothang := 294912, aPrev := 0, passD := 1000, passA := 294912, tlast := 0 })).wr (nwlOff 0 NWL.EVCTRL) 3).wr (evOff 0 5 EV.ANG)
    (BitVec.ofNat 32 (ang + stt * 2 ^ 22))).wr (evOff 0 5 EV.CFG) 0x107).wr (evOff 0 5 EV.LATE) (BitVec.ofNat 32 (late + 2 ^ 29))
    |>.setBt (evOff 0 5 EV.CFG) 7 true |>.wr (chOff 7 CH.CTRL) 1

/-- Slot 5 may be offered: live, ARMED, its channel enabled with room and no entry of its own (the premise of an accepted offer). -/
def offerable (s : State) : Prop := slotLive s 0 5 = true ∧ slotState s 0 5 = 1 ∧ chEn s (slotCh s 0 5) = true ∧ s.ch[slotCh s 0 5].firedAt ≠ s.now
    ∧ s.ch[slotCh s 0 5].aq.length < 8 ∧ ∀ x ∈ s.ch[slotCh s 0 5].aq, ¬(x.tagv = true ∧ x.origin = .newel 0 ∧ x.tag = 5)

/-- An event 100 behind the tooth with a LATEMAX of 100 and of 99; a window that ends at the event. -/
theorem test_witness_AngleEventOffers :
    let a := slots 294812 1 100 id
    let b := slots 294812 1 99 id
    let w (ang : Nat) := slots ang 1 0 id
    schedOn State.reset 0 = false
    ∧ (schedOn a 0 = true ∧ 5 ∈ slotsOn a 0 ∧ passedNow a 0 5 = true ∧ a.nwl[0].reofferQ = [] ∧ slotBehind a 0 5 ≤ slotLatemax a 0 5)
    ∧ (5 ∈ slotsOn b 0 ∧ passedNow b 0 5 = true ∧ slotLatemax b 0 5 < slotBehind b 0 5)
    ∧ ((w 294962).nwl[0].pred = true ∧ (w 294962).nwl[0].load = none ∧ Machine.inWindow (w 294913) 0 5 = true ∧ Machine.inWindow (w 294912) 0 5 = false
      ∧ Machine.inWindow (w (294912 + windowOf (w 0) 0)) 0 5 = true ∧ Machine.inWindow (w (294912 + windowOf (w 0) 0 + 1)) 0 5 = false) := by decide

/-- An offer with 7 entries before it, to a disabled channel, and an entry to freeze. -/
theorem test_witness_AngleEventOffers_queues :
    let o : SlotOffer := { slot := 5, tgt := 400, inst := 1, frz := false, late := false, cancel := false }
    let e : AqEntry := { coarse := 9, fine := 0, act := 1, record := true, frz := false, tagv := true, tag := 5, origin := .newel 0, late := false, cancel := false }
    let c := (slots 294962 1 0 (fun w => { w with conv := some o })).updCh 7 (fun x => { x with aq := List.replicate 7 { e with tag := 6 } })
    let l := slots 294962 1 0 (fun w => { w with lateQ := [o] })
    (c.nwl[0].lateQ = [] ∧ c.nwl[0].conv = some o ∧ offerable c ∧ slotDone c 0 5 o.inst = false) ∧ (l.nwl[0].lateQ = [o] ∧ offerable l ∧ slotDone l 0 5 o.inst = false)
    ∧ slotDone c 0 5 128 = true
    ∧ (let d := c.setBt (chOff 7 CH.CTRL) 0 false; o.cancel = false ∧ slotLive d 0 5 = true ∧ slotState d 0 5 = 1 ∧ chEn d (slotCh d 0 5) = false)
    ∧ (let q := (slots 294962 2 0 id).updCh 7 (fun x => { x with aq := [e] }); slotState q 0 5 = 2 ∧ entryCh q 0 5 = some 7)
    ∧ slotState c 0 5 ≠ 2 := by unfold offerable; decide

theorem test_witness_AngleEventOffers_holds :
    let o (i : Nat) : SlotOffer := { slot := 5, tgt := 400, inst := i, frz := false, late := false, cancel := false }
    let h (ang : Nat) := slots ang 2 0 (fun w => { w with holdAng := 294912 })
    let r (i : Nat) := slots 294962 1 0 (fun w => { w with reofferQ := [o i] })
    (holdReached (h 294962) 0 = true ∧ schedOn (h 294962) 0 = true ∧ advLim (h 294962) 0 < slotAhead (h 294962) 0 5
      ∧ instGone (h 294962) 0 (slotAng (h 294962) 0 5) (slotInst (h 294962) 0 5) = false)
    ∧ slotAhead (h 294912) 0 5 ≤ advLim (h 294912) 0 ∧ holdReached State.reset 0 = false
    ∧ ((r 1).nwl[0].reofferQ.find? (fun x => x.slot == 5) = some (o 1) ∧ offerable (r 1) ∧ offerGone (r 1) 0 (o 1) = false ∧ slotDone (r 1) 0 5 (o 1).inst = false)
    ∧ (slotLive (r 255) 0 5 = true ∧ slotState (r 255) 0 5 = 1 ∧ offerGone (r 255) 0 (o 255) = true) ∧ State.reset.nwl[0].reofferQ = [] := by
  unfold offerable; decide

theorem test_witness_AngleEventControl :
    let o : SlotOffer := { slot := 5, tgt := 400, inst := 1, frz := false, late := false, cancel := true }
    let c := slots 294962 1 0 (fun w => { w with cancelQ := [o], reevalQ := [5] })
    let p := slots 294962 2 0 id
    let q := { slots 294962 1 99 (fun w => { w with reevalQ := [5] }) with tb := { Tb.reset with tb := 10 } }
    let oc := p.wr (evOff 0 5 EV.CFG) 0x1187
    (slotState p 0 5 = 2 ∧ p.bt (evOff 0 5 EV.CFG) 12 = false)
    ∧ (5 ∈ slotsOn oc 0 ∧ slotLive oc 0 5 = true ∧ slotState oc 0 5 = 2 ∧ oc.bt (evOff 0 5 EV.CFG) 12 = true
      ∧ slotDone oc 0 5 (instNext oc 0 (slotAng oc 0 5)) = false)
    ∧ State.reset.nwl[0].cancelQ = [] ∧ (c.nwl[0].cancelQ = [o] ∧ o.slot = 5 ∧ slotDone c 0 5 o.inst = false ∧ offerable c)
    ∧ ((0x80000000 : Word) &&& ~~~slotMask .ang ≠ 0 ∧ 10 ≤ fld 0xA80 8 4 ∧ State.reset.bt (evOff 0 5 EV.CFG) 7 = false ∧ slotState (slots 0 3 0 id) 0 5 = 3)
    ∧ (schedOn c 0 = true ∧ curPred c.nwl[0] = true ∧ c.nwl[0].offerAt ≠ c.now ∧ c.nwl[0].reevalQ = [5] ∧ Machine.inWindow c 0 5 = true
      ∧ ¬(0 < slotAhead c 0 5 ∧ slotAhead c 0 5 ≤ advNow c 0))
    ∧ (schedOn q 0 = true ∧ curPred q.nwl[0] = true ∧ q.nwl[0].offerAt ≠ q.now ∧ q.nwl[0].reevalQ = [5] ∧ slotLive q 0 5 = true ∧ slotState q 0 5 = 1
      ∧ 0 < slotAhead q 0 5 ∧ slotAhead q 0 5 ≤ advNow q 0 ∧ slotDone q 0 5 (instAhead q 0 (slotAng q 0 5)) = false
      ∧ slotLatemax q 0 5 < advNow q 0 - slotAhead q 0 5)
    ∧ (let l := q.setFl (evOff 0 5 EV.LATE) 0 22 (advNow q 0 - slotAhead q 0 5)
       offerable l ∧ advNow l 0 - slotAhead l 0 5 ≤ slotLatemax l 0 5 ∧ l.nwl[0].reevalQ = [5] ∧ slotDone l 0 5 (instAhead l 0 (slotAng l 0 5)) = false)
    ∧ schedOn State.reset 0 = false := by
  unfold offerable; decide

theorem test_witness_ThreadScheduling :
    let th (k v : Nat) : Nat × Word := (tstatOff 2 (Fin.ofNat 32 k), BitVec.ofNat 32 v)
    let run : Nat × Word := (feOff 2 FE.STAT, 1)
    let en (l : List (Nat × Word)) (f : Eng → Eng) (g : Bank → Bank) := ((st l).updEng 2 f).updBank 2 1 g
    let d := en [run, th 4 2, (thOff 2 4, 0x50000)] (fun x => { x with level := some 1, disp := some 9 }) id
    let h := en [run] (fun x => { x with level := some 1, disp := some 9 }) (fun x => { x with thread := some 4 })
    let p := en [run, th 4 3, th 5 2, (thOff 2 5, 0x40000)] (fun x => { x with level := some 1 }) (fun x => { x with thread := some 4 })
    let w := en [run] id (fun x => { x with thread := some 4, wait := some (.lane 3 0 2) })
    (thState State.reset 2 4 = TS.DISABLED ∧ thState (st [th 4 1]) 2 4 ≠ TS.DISABLED ∧ thPend (st [th 4 1]) 2 4 = false ∧ thPend (st [th 4 9]) 2 4 = true)
    ∧ (d.eng[2].level = some 1 ∧ d.eng[2].disp = some 9 ∧ feRun d 2 = true ∧ (d.bank 2 1).thread = none ∧ readyThread d 2 1 = some 4)
    ∧ (h.eng[2].level = some 1 ∧ h.eng[2].disp = some 9 ∧ feRun h 2 = true ∧ (h.bank 2 1).thread = some 4 ∧ (h.bank 2 1).wait = none)
    ∧ (preempts p 2 = true ∧ executing p 2 = some 1 ∧ (p.bank 2 1).thread = some 4 ∧ thState p 2 4 = TS.RUNNING ∧ pick p 2 = some 0)
    ∧ State.reset.eng[2].disp = none ∧ preempts State.reset 2 = false
    ∧ ((w.bank 2 1).wait = some (.lane 3 0 2) ∧ laneCond w 3 0 = true ∧ laneCond w 3 1 = false ∧ feRun w 2 = true) := by decide

theorem test_witness_ThreadScheduling_commands :
    let t (v : Word) := st [(thOff 2 4, v)]
    wakeDue (st [(wakeC 2 3, 0x100)]) 2 3 = true ∧ wakeDue State.reset 2 3 = false ∧ isPort .host = true ∧ isPort (.bank 0 0) = false
    ∧ bit 8 3 = true ∧ bit 4 3 = false ∧ (st [(feOff 2 FE.MBXCFG, 0x100)]).bt (feOff 2 FE.MBXCFG) 8 = true
    ∧ feRun State.reset 2 = false ∧ feRun (st [(feOff 2 FE.STAT, 1)]) 2 = true ∧ thEn (t 0) 2 4 = false ∧ thEn (t 0x40000) 2 4 = true
    ∧ bit 0x40000 18 = true ∧ bit 0 18 = false ∧ thState (st [(tstatOff 2 4, 1)]) 2 4 = TS.IDLE ∧ thState (st [(tstatOff 2 4, 3)]) 2 4 = TS.RUNNING := by decide

/-- GO for two stopped engines and for three while the Vestibule refuses. -/
theorem test_witness_RunControl :
    let run : Nat × Word := (feOff 1 FE.STAT, 1)
    let warn : Nat × Word := (fsrcStat FS.SUPPLY_WARN, 0x20000)
    let up (s : State) : Prop := feRun s 1 = true ∧ feStopping s 1 = false
    let no := st [(feOff 1 FE.CODE, 0x00010005)]
    let b := ((st [run, (R.DBG_BP, 0x80020007)]).updEng 1 (fun x => { x with level := some 0 })).updBank 1 0 (fun x => { x with thread := some 2, pc := 7 })
    let g (w : Bool) := { State.reset with go := some ⟨2, w, none⟩ }
    (up (st [run]) ∧ ¬up State.reset ∧ startRefused no 1 = true ∧ ¬up no)
    ∧ (startRefused State.reset 1 = false ∧ feHalted State.reset 1 = false ∧ loading State.reset = false
      ∧ (let h := State.reset.updPatch (fun p => { p with checks := [⟨[], false, true, 9⟩] }); ¬up h ∧ startRefused h 1 = false ∧ loading h = true))
    ∧ (feRun (st [(feOff 1 FE.STAT, 3)]) 1 = true ∧ feStopping (st [(feOff 1 FE.STAT, 3)]) 1 = true ∧ feRun State.reset 1 = false ∧ feStopping State.reset 1 = false)
    ∧ goStopped State.reset 3 = 2 ∧ (2 < goStopped (st [warn]) 7 ∧ vestRefusing (st [warn]) = true ∧ ∀ q ∈ (st [warn]).vest.queue, q.kind ≠ .go)
    ∧ ((g false).go = some ⟨2, false, none⟩ ∧ (g true).go = some ⟨2, true, none⟩ ∧ bit 2 1 = true ∧ bit 2 0 = false)
    ∧ ((barComplete State.reset 2 && State.reset.hasDue (.barrierRelease 2)) = false
      ∧ (let c := (st [(barOff 2, 0x101)]).after 0 (.barrierRelease 2); (barComplete c 2 && c.hasDue (.barrierRelease 2)) = true))
    ∧ (executing b 1 = some 0 ∧ bpMatch b 1 (b.bank 1 0).pc = true ∧ executing State.reset 1 = none) := by decide

theorem test_witness_LaneCommands :
    let s := st [(lnOff 4 LN.PINS, 0xF21), (lnOff 5 LN.PINS, 0xF32)]
    let l (f : Lane → Lane) := s.updLane 4 f
    s.lane[4].on = false ∧ (l (fun x => { x with on := true })).lane[4].on = true
    ∧ (s.lane[4].txb = none ∧ (l (fun x => { x with txb := some 0 })).lane[4].txb ≠ none ∧ s.lane[4].rx = [] ∧ (l (fun x => { x with rx := [1, 2] })).lane[4].rx = [1, 2])
    ∧ (let r := (st [(lnOff 4 LN.CTRL, 3)]).updLane 4 (fun x => { x with on := true }); r.lane[4].on = true ∧ laneMode r 4 = 1 ∧ laneClk r 4 = 0)
    ∧ laneMode s 4 ≠ 1 ∧ (let r := l (fun x => { x with stop := true, drv := true, paused := true }); r.lane[4].stop = true ∧ r.lane[4].drv = true ∧ r.lane[4].paused = true)
    ∧ s.lane[4].stop = false ∧ s.lane[4].paused = false ∧ s.lane[4].sh = none
    ∧ (let r := l (fun x => { x with sh := some 0 }); r.lane[4].sh ≠ none ∧ r.lane[4].drv = false) := by decide

/-- An enable that is taken, one that asks for a partner's clock on an even lane, and one whose clock pin the twin's data pin is. -/
theorem test_witness_LaneCommands_enable :
    let s := st [(lnOff 4 LN.PINS, 0xF21), (lnOff 5 LN.PINS, 0xF32)]
    let ctrl (v : Word) := s.wr (lnOff 4 LN.CTRL) (setBit v 0 true &&& 0x7FFFF)
    s.lane[4].on = false ∧ s.lane[laneTwin 4].on = false ∧ laneClk (ctrl 0) 4 = 0 ∧ laneClk (ctrl 0x10) 4 = 2
    ∧ (s.updLane 5 (fun x => { x with on := true })).lane[laneTwin 4].on = true ∧ 26 ∈ lanePins (ctrl 0) 4 ∧ 26 ∈ lanePins (ctrl 0) (laneTwin 4) := by decide

/-- A receive buffer of one word and of two; PULSE mode with and without a falling edge before. -/
theorem test_witness_LaneWords :
    let e : EdgeInfo := ⟨1, false, 9, 0⟩
    let s (c : Word) (f : Lane → Lane) := (st [(R.CLK_STAT, 3), (lnOff 4 LN.CTRL, c)]).updLane 4 (fun x => f { x with on := true })
    let tx := s 1 (fun x => { x with txb := some 5 })
    let ext := s 0xB id
    let out (b : Nat) := s 0x9 (fun x => { x with sh := some 5, driven := b })
    let rx := s 0x1B id
    let done (n : Nat) := s 0x3 (fun x => { x with done := true, rx := List.replicate n 0 })
    let pulse (u : Option Nat) := s 0x5 (fun x => { x with fall := u })
    (laneCanStart tx 4 = true ∧ laneMode tx 4 = 0 ∧ laneCanStart (s 3 (fun x => { x with start := true })) 4 = true ∧ laneCanStart State.reset 4 = false)
    ∧ (ext.lane[4].on = true ∧ laneClk ext 4 = 1 ∧ laneMode ext 4 = 1 ∧ ext.bt (lnOff 4 LN.CTRL) 13 = false
      ∧ ((true != laneCpol ext 4) != laneCpha ext 4) = true ∧ ext.lane[4].done = false)
    ∧ ((out 31).lane[4].sh = some 5 ∧ laneMode (out 31) 4 = 0 ∧ laneClk (out 31) 4 = 1 ∧ (out 31).lane[4].driven < laneWidth (out 31) 4
      ∧ ((false != laneCpol (out 31) 4) != laneCpha (out 31) 4) = false ∧ (out 1).lane[4].bits < (out 1).lane[4].driven)
    ∧ (laneMode rx 4 = 1 ∧ laneClk rx 4 = 3 ∧ rx.lane[4].sh = none ∧ e.level = false)
    ∧ ((done 1).lane[4].done = true ∧ laneMode (done 1) 4 = 1 ∧ (done 1).lane[4].rx.length < 2 ∧ 2 ≤ (done 2).lane[4].rx.length
      ∧ laneMode (s 1 (fun x => { x with done := true })) 4 ≠ 1 ∧ tx.lane[4].done = false)
    ∧ (laneMode (pulse none) 4 = 2 ∧ (pulse none).lane[4].fall = none ∧ (pulse (some 0)).lane[4].fall = some 0) := by decide

/-- Whatever the fuses hold, SVN 0 does not exceed them and SVN 127 does. -/
theorem test_witness_Brotis :
    let p (f : Patch → Patch) := State.reset.updPatch f
    anyEngine State.reset = false ∧ loading State.reset = false ∧ anyEngine (st [(feOff 3 FE.STAT, 1)]) = true
    ∧ loading (p (fun x => { x with checks := [⟨[], false, false, 9⟩] })) = true
    ∧ chestWriting State.reset = false ∧ chestWriting (p (fun x => { x with chestwr := true })) = true
    ∧ State.reset.patch.checks = [] ∧ State.reset.patch.fusing = false ∧ State.reset.bt (fsrcStat FS.SUPPLY_WARN) 17 = false
    ∧ (State.reset.updPatch (fun p => { p with fusing := true })).patch.fusing = true
    ∧ chestBusy (st [(R.CHEST_STAT, 1)]) = true := by decide

theorem test_witness_Brotis_fuses : (st [(R.MC_VER, 0)]).fl R.MC_VER 16 7 = 0 ∧ (st [(R.MC_VER, 0x007F0000)]).fl R.MC_VER 16 7 = 127
    ∧ ∀ s : State, (s.fl R.MC_VER 16 7 = 0 → s.fl R.MC_VER 16 7 ≤ fuseCnt s) ∧ (s.fl R.MC_VER 16 7 = 127 → fuseCnt s < s.fl R.MC_VER 16 7) :=
  ⟨by decide, by decide, fun s => ⟨fun h => by omega, fun h => by unfold fuseCnt; omega⟩⟩

/-- An empty container fails its format check. Whether a container passes is up to the keys, which the model leaves free: with any one that
does, the premises of the clauses about it are met together. -/
theorem test_witness_Brotis_containers :
    let s (c : List Byte) (w : Bool) := (st [(R.CHEST_STAT, 1)]).updPatch (fun p => { p with checks := [⟨c, w, false, 9⟩], heldStart := [3] })
    btcCheck (s [] false) [] = .error MC.FORMAT ∧ chestBusy (st [(R.CHEST_STAT, 1)]) = true
    ∧ (chestBusy State.reset = false ∧ vestRefusing State.reset = false ∧ State.reset.vest.queue.length < 8)
    ∧ (chestBusy (st [(fsrcStat FS.SUPPLY_WARN, 0x20000)]) = false ∧ vestRefusing (st [(fsrcStat FS.SUPPLY_WARN, 0x20000)]) = true)
    ∧ ∀ c ws, btcCheck (st [(R.CHEST_STAT, 1)]) c = .ok ws →
        (s c false).patch.checks = [⟨c, false, false, 9⟩] ∧ btcCheck (s c false) c = .ok ws ∧ (s c true).patch.checks = [⟨c, true, false, 9⟩]
          ∧ btcCheck (s c true) c = .ok ws :=
  ⟨rfl, by decide, by decide, by decide, fun _ _ h => ⟨rfl, h, rfl, h⟩⟩

/-- A full doorbell and one past it; HALT with and without descriptors left. -/
theorem test_witness_RingControl :
    let off (o : Nat) : Nat := ringOff 3 o
    let s (stt : Nat) (more : List (Nat × Word)) := st ([(R.CLK_STAT, 3), (off RING.STAT, BitVec.ofNat 32 stt)] ++ more)
    let n := ringN (s 1 []) 3
    let k (s : State) : Prop := ringEnableOk (s.wr (off RING.CFG) (setBit (s.rd (off RING.CFG) &&& 0x3FFFFF) 0 false)) 3 = true
    let capt (stt : Nat) (more : List (Nat × Word)) := st ([(ringOff 40 RING.STAT, BitVec.ofNat 32 stt)] ++ more)
    (ringState (s 0 []) 3 = 0 ∧ supLocked (s 0 []) 3 = false ∧ k (s 0 [(off RING.CFG, 0x00380050)]) ∧ ¬k (s 0 [(off RING.CFG, 0x00380030)]))
    ∧ supLocked (s 0 [(R.RING_SUPLOCK0, 8)]) 3 = true ∧ (ringState (s 1 []) 3 = 1 ∧ ringState (s 4 []) 3 = 4 ∧ ringState (s 5 []) 3 = 5)
    ∧ drained (s 3 []) 3 = true ∧ drained (s 1 []) 3 = false
    ∧ (ownsRing (s 1 []) .host 3 = true ∧ ownerProduced (s 1 []) 3 = true ∧ ((BitVec.ofNat 32 n : Word) - 0).toNat ≤ n
      ∧ ¬(((BitVec.ofNat 32 (n + 1) : Word) - 0).toNat ≤ n) ∧ ownsRing (s 1 []) .sup 3 = false)
    ∧ (ownsRing (capt 1 []) .host 40 = true ∧ ownerProduced (capt 1 []) 40 = false ∧ ((0 : Word) - 0).toNat ≤ ((0 : Word) - 0).toNat)
    ∧ ((s 2 []).updRing 3 (fun x => { x with asked := 2 })).ring[3].asked ≠ 0 ∧ (s 2 []).ring[3].asked = 0 ∧ (s 2 []).ring[3].cur = none
    ∧ (s 4 []).rd (off RING.DONE) = (s 4 []).rd (off RING.TAIL) ∧ (s 4 [(off RING.TAIL, 2)]).rd (off RING.DONE) ≠ (s 4 [(off RING.TAIL, 2)]).rd (off RING.TAIL)
    ∧ (let t := { s 5 [(R.RING_HOSTSTAT, 1)] with pcie := { Pcie.reset with bme := true } }; ringState t 3 = 5 ∧ linkUp t = true ∧ t.pcie.bme = true)
    ∧ linkUp (s 5 []) = false ∧ (s 0 []).bt (off RING.STAT) 3 = false ∧ (s 9 []).bt (off RING.STAT) 3 = true
    ∧ (let t := (s 1 [(off RING.IRQ, 0x40)]).updRing 3 (fun x => { x with cnt := 1 })
       0 < t.ring[3].cnt ∧ t.bt (off RING.STAT) 3 = false ∧ t.bt (off RING.IRQ) 6 = true) := by decide

/-- Ring 3 has these words at its head, its context is free, and the host link is up. -/
def headed (ws : List Word) : State :=
  { (st [(R.CLK_STAT, 3), (R.RING_HOSTSTAT, 1), (ringOff 3 RING.STAT, 2)]).updRing 3 (fun x => { x with fetched := [(0, ws)] }) with
    pcie := { Pcie.reset with bme := true } }

/-- For each opcode a descriptor that passes its checks, and one that fails them. -/
theorem test_witness_DescriptorStarts :
    let ok (ws : List Word) (k : Nat) : Prop := descHead (headed ws) 3 = some ws ∧ opcOf ws = k ∧ descCheck (headed ws) 3 ws = ST.OK
    ok [0, 0, 0, 0, 0, 0, 0, 0] 0 ∧ ok [0x01, 0x00200100, 5, 6, 0, 0, 0, 0] 1 ∧ ok [0x4001, 0x00100100, 5, 0, 0, 0, 0, 0] 1
    ∧ ok [0x02, 1, 0x100, 5, 0, 0, 0, 0] 2 ∧ ok [0x03, 0x00200100, 0, 0, 0, 0, 0, 0] 3
    ∧ ok [4, 64, 0x1000, 0, 0x9000, 0, 0, 0] 4 ∧ ok [5, 64, 7, 0, 0x9000, 0, 0, 0] 5
    ∧ ok [6, 0, 0, 0, 0, 0, 0, 0] 6 ∧ ok [7, 2, 0, 0, 0, 0, 0, 0] 7 ∧ ok [8, 2, 0, 0, 0, 0, 0, 0] 8 ∧ ok [9, 2, 0, 0, 0, 0, 0, 0] 9
    ∧ ok [0xA, 0, 0, 0, 0, 0, 0, 0] 10 ∧ descCheck (headed [0x80, 0, 0, 0, 0, 0, 0, 0]) 3 [0x80, 0, 0, 0, 0, 0, 0, 0] ≠ ST.OK := by decide

/-- A descriptor with these words that has ended with a status, or not yet. -/
def desc (ws : List Word) (status : Nat) (ended : Bool) (reads : List Nat) : Desc :=
  { ws := ws, idx := 0, prog := 0, moving := true, asked := 0, reads := reads, inb := [], dn := 0, tlpAt := 0, tlp := [], status := status,
    result := 0, ended := ended, waits := false, counts := true }

/-- A completion ring that can take the record, and one that is full. -/
theorem test_witness_DescriptorEnds :
    let s (d : Desc) (more : List (Nat × Word)) := (st ([(R.CLK_STAT, 3), (R.RING_HOSTSTAT, 1), (ringOff 3 RING.STAT, 2), (ringOff 56 RING.STAT, 1)] ++ more)).updRing 3
      (fun x => { x with cur := some d })
    let up (s : State) := { s with pcie := { Pcie.reset with bme := true } }
    let w := s (desc [4] 0 false [16, 8]) []
    let g := { w with gc := w.gc.set 5 ⟨some (3, .desc), 0⟩ }
    let e := desc [0x100] 0 true []
    let q := desc [0] 0 true []
    let c : Fin 64 := cring (s e []) 3
    descHead State.reset 3 = none ∧ State.reset.gc[5].work = none ∧ State.reset.ring[3].cur = none
    ∧ (g.gc[5].work = some (3, .desc) ∧ g.ring[3].cur = some (desc [4] 0 false [16, 8]) ∧ (List.replicate 16 (0 : Byte)).length = 16)
    ∧ (w.ring[3].cur = some (desc [4] 0 false [16, 8]) ∧ (s q []).ring[3].cur = some q ∧ q.ended = true ∧ needsRecord (s q []) 3 q = false)
    ∧ ((s e []).ring[3].cur = some e ∧ needsRecord (s e []) 3 e = true ∧ canIssue (s e []) c = false)
    ∧ (let u := up (s e [(ringOff 3 RING.CFG, 0x00380050)]); u.ring[3].cur = some e ∧ needsRecord u 3 e = true ∧ canIssue u (cring u 3) = true) := by decide

/-- A CAPT ring with these groups held, its host there. -/
def capt (regs : List (Nat × Word)) (f : Landing → Landing) (g : Ring → Ring) : State :=
  let s := ((st ([(R.CLK_STAT, 3), (R.RING_HOSTSTAT, 1), (ringOff 40 RING.STAT, 1), (ringOff 40 RING.CFG, 0x44)] ++ regs)).updLand f).updRing 40 g
  { s with pcie := { Pcie.reset with bme := true } }

theorem test_witness_CaptureAndOutput :
    let g (ext : List Nat) : RecGroup := { src := 114, typ := 0, lvl := false, fine := 0, coarse := 0, ext := ext, ring := 40 }
    let h (n : Nat) : Held := ⟨{ g [] with ring := 40 }, 0, 0, 0, n⟩
    let evt := ((st [(R.CLK_STAT, 3), (R.RING_HOSTSTAT, 1), (ringOff 60 RING.STAT, 1)]).updRing 60 (fun x => { x with q := [⟨[1, 2], false⟩] }))
    let up (s : State) := { s with pcie := { Pcie.reset with bme := true } }
    (capt [] id (fun x => { x with issued := some ⟨[1], false⟩ })).ring[40].issued = some ⟨[1], false⟩
    ∧ (let s := up evt; s.ring[60].issued = none ∧ 3 ≤ ringType s 60 ∧ canIssue s 60 = true ∧ s.ring[60].lost = none ∧ s.ring[60].q = [⟨[1, 2], false⟩])
    ∧ (State.reset.ring[40].issued = none ∧ State.reset.ring[40].q = [] ∧ State.reset.ring[40].lost = none ∧ State.reset.ring[40].blk = none)
    ∧ (let s := capt [] (fun l => { l with pool := [h 0] }) (fun x => { x with flushDue := true }); blockDue s 40 = true ∧ s.gc[ringGc s 40].work = none ∧ 0 < untakenCount s 40)
    ∧ blockDue State.reset 40 = false ∧ untakenCount State.reset 40 = 0 ∧ (capt [] id (fun x => { x with blk := some ([1], 0) })).ring[40].blk = some ([1], 0)
    ∧ (let s := capt [] id id; groupRing s (g []) = 40 ∧ enteredNow s + groupSize (g []) ≤ 32 ∧ s.land.entq = [] ∧ takesRecords s 40 = true
      ∧ ordinary (g []) = true ∧ s.land.reserve = [] ∧ ringOcc s 40 + 1 ≤ quotaEntries s 40 ∧ 1 ≤ poolRoom s ∧ discarding s 40 = false ∧ s.land.tallies = [])
    ∧ (takesRecords State.reset 40 = false ∧ enteredNow (capt [] (fun l => { l with entered := 31 }) id) + 1 ≤ 32)
    ∧ (let s := capt [] (fun l => { l with entered := 32 }) id; ¬(enteredNow s + 1 ≤ 32) ∧ entqDepth s + 1 ≤ 512)
    ∧ (let s := capt [(capOff 40 CAP.CFG, 1)] (fun l => { l with pool := List.replicate 32 (h 0) }) id
       takesRecords s 40 = true ∧ quotaEntries s 40 < ringOcc s 40 + 1 ∧ dropOld s 40 = false ∧ s.land.tallies = [])
    ∧ (leavesDiscarding (st [(capOff 40 CAP.STAT, 0x20000)]) 40 = true ∧ leavesDiscarding State.reset 40 = false)
    ∧ (let s := capt [] (fun l => { l with entq := [g []] }) id; s.land.reserve = [] ∧ s.land.entq = [g []] ∧ enteredNow s + groupSize (g []) ≤ 32) := by decide

/-- A TB target one tick ahead and one that is reached. -/
theorem test_witness_Transactions :
    let s (w b : Word) := (st [(txnOff 2 TXN.STAT, w), (txnOff 2 TXN.BOUND, b), (txnOff 2 TXN.AT_LO, 1)]).updTxn 2 (fun t => { t with owner := .host })
    let owns (s : State) : Prop := txnOpenFor s .host 2 = true
    let b (s : State) := s.fl (txnOff 2 TXN.BOUND) 0 2
    let u (s : State) := s.fl (txnOff 2 TXN.BOUND) 8 4
    txnState State.reset 2 = 0 ∧ (txnState (s 1 0) 2 ≠ 0 ∧ owns (s 1 0) ∧ b (s 1 0) = 0 ∧ (s 1 0).bt (txnOff 2 TXN.BOUND) 4 = false) ∧ ¬owns State.reset
    ∧ ownerCode (s 1 0).txn[2].owner ≠ ownerCode .sup ∧ (owns (s 1 1) ∧ b (s 1 1) = 1 ∧ (s 1 1).tb.tb.toNat < 1 ∧ 0 ≤ State.reset.tb.tb.toNat)
    ∧ (owns (s 1 0x402) ∧ b (s 1 0x402) = 2 ∧ 4 ≤ u (s 1 0x402)) ∧ (owns (s 1 0x302) ∧ b (s 1 0x302) = 2 ∧ u (s 1 0x302) = (3 : Fin 4).val)
    ∧ (let t := (s 1 0x302).updNwl 3 (fun w => { w with on := true, state := .sync }); owns t ∧ t.nwl[3].on = true ∧ t.nwl[3].state = .sync)
    ∧ (owns (s 1 0xF03) ∧ b (s 1 0xF03) = 3 ∧ u (s 1 0xF03) = (15 : Fin 16).val)
    ∧ (let t := ((s 1 0xF03).wr (pgOff 15 PG.CTRL) 1).updPg 15 (fun g => { g with run := true }); owns t ∧ pgEn t 15 = true ∧ t.pg[15].run = true)
    ∧ txnState (s 2 0) 2 = 2 ∧ transactable 0x60000 = true ∧ transactable 0x60002 = false ∧ (s 1 0).staged = [] := by decide

theorem test_witness_Snapshots :
    let s (x : List (Nat × Nat)) (w : Option Nat) (c : List (Fin 64 × Bool)) := { State.reset with snap := { Snap.reset with strobe := x, waiting := w, copying := c } }
    let blocked : List (Fin 64 × Bool) := [(3, !Snap.reset.latestB)]
    let p (l : List PeerDuty) := { State.reset with peer := { Peer.reset with duties := l } }
    let now (s : State) := s.snap.strobe.filter (fun x => decide (x.2 ≤ s.ticks))
    (now (s [(0, 0)] none []) = [(0, 0)] ∧ snapBlocked (s [(0, 0)] none []) = false ∧ snapBlocked (s [(0, 0)] none blocked) = true ∧ now (s [(0, 1)] none []) = [])
    ∧ (now (s [] (some 1) []) = [] ∧ (s [] (some 1) []).snap.waiting = some 1 ∧ snapBlocked (s [] (some 1) []) = false) ∧ timedDue State.reset = false
    ∧ (let t := { State.reset with snap := { Snap.reset with timed := some 0 } }; timedDue t = true ∧ now t = [] ∧ dutiesNow t true = [] ∧ snapBlocked t = false)
    ∧ (let t := { State.reset with snap := { Snap.reset with timed := some 0, strobe := [(0, 0)] } }; timedDue t = true ∧ now t ≠ [])
    ∧ ringUp (st [(R.PEER_STAT, 0x10)]) = true ∧ ringUp State.reset = false ∧ dutiesNow (p []) true = []
    ∧ dutiesNow (p [⟨0, 1, 5, none⟩]) true ≠ [] ∧ snapBlocked (p [⟨0, 1, 5, none⟩]) = false := by decide

theorem test_witness_Faults :
    let r : Raise := { tick := 0, tb := 0, src := 1, detail := 5, injected := false, rmask := 0x3F, transient := false }
    let s (t : Nat) := { State.reset with ticks := t, flt := { Flt.reset with raised := [r] } }
    let p := (st [(R.FLT_PEND, 2)]).updRec 1 (fun x => { x with last := 7 })
    ((∀ q ∈ (s 1).flt.raised, (s 1).ticks < q.tick + 2) ∧ (s 2).flt.raised = [r] ∧ r.tick + 2 ≤ (s 2).ticks ∧ srcClass (s 2) r.src.val ≤ 4)
    ∧ (p.fltPend 1 = true ∧ p.bt (fsrcStat 1) 17 = false ∧ (p.rec? 1).last ≠ p.now) ∧ bit 0x80000000 31 = true ∧ bit 0x7FFFFFFF 31 = false
    ∧ (let a := st [(R.FLT_SAFEACT, 4)]; a.bt R.FLT_SAFEACT 2 = true ∧ safeHeld a 2 = false)
    ∧ ((st []).updRing 3 (fun x => { x with cur := some (desc [4] 0 false []) })).ring[3].cur = some (desc [4] 0 false [])
    ∧ txnState (st [(txnOff 2 TXN.STAT, 2)]) 2 = 2 ∧ executing (onBank id) 0 = some 0 ∧ ((onBank id).bank 0 0).thread = some 3 := by decide

theorem test_witness_BackgroundWork :
    let v : Word := 0x1000
    let tgt (v : Word) := fld v 8 7
    let warn : Nat × Word := (fsrcStat FS.SUPPLY_WARN, 0x20000)
    let cal (f : Calib → Calib) := { State.reset with bg := { Bg.reset with cal := Bg.reset.cal.set 2 (f Bg.reset.cal[2]) } }
    let sw := { cal (fun c => { c with swapBy := some 0 }) with ticks := 100 }
    (bgState State.reset = 0 ∧ bgState (st [(R.BG_STAT, 1)]) = 1 ∧ bgState (st [(R.BG_STAT, 3)]) = 3 ∧ bgTargetOk 1 (tgt 0xC00) = true ∧ bgTargetOk 1 (tgt 0xD00) = false
      ∧ bgTargetOk 2 (tgt 0x4000) = true ∧ bgTargetOk 2 (tgt 0x4800) = false)
    ∧ (bgIdle State.reset (tgt v) = true ∧ bgIdle (st [(ringOff 3 RING.CFG, 1)]) 16 = false ∧ bgIdle (st [(feOff 2 FE.STAT, 1)]) 2 = false)
    ∧ (vestRefusing State.reset = false ∧ State.reset.vest.queue = [] ∧ vestF State.reset + vestG State.reset + 20 ≤ vestBudget State.reset)
    ∧ vestRefusing (st [warn]) = true
    ∧ (State.reset.bg.cal[2].swapBy = none ∧ sw.bg.cal[2].swapBy = some 0 ∧ swapQuiet sw 2 = true ∧ swapQuiet State.reset 2 = false ∧ 0 ≤ sw.ticks)
    ∧ ({ State.reset with bg := { Bg.reset with scrubOn := true } }.bg.scrubOn = true ∧ State.reset.bg.scrubOn = false ∧ State.reset.vest.paused = false
      ∧ scrubDue { State.reset with bg := { Bg.reset with scrubOn := true, scrubAt := 0 }, ticks := 2 ^ 40 } = true ∧ scrubDue State.reset = false)
    ∧ ((st [(R.TEL_CTRL, 1)]).bt R.TEL_CTRL 0 = true ∧ State.reset.bt R.TEL_CTRL 0 = false ∧ evtEnabled State.reset 0 = false) := by decide

/-- The first and the last address of an open area, and one word past the array. -/
theorem test_witness_ChestAndLogs :
    let s (a : Nat) (more : List (Nat × Word)) := st ([(R.CHEST_ADDR, BitVec.ofNat 32 a)] ++ more)
    let addr (s : State) := s.fl R.CHEST_ADDR 3 15 * 8
    let op (o : ChestOp) := State.reset.updChest (fun c => { c with op := some o, begun := true })
    chestBusy (s 0 [(R.CHEST_STAT, 1)]) = true ∧ chestBusy (s 0 []) = false ∧ 0x37000 < addr (s 0x36FF8 []) + 8 * 2 ∧ addr (s 0x36FF8 []) + 8 * 1 ≤ 0x37000
    ∧ (0x2000 ≤ addr (s 0x2000 []) ∧ addr (s 0x2000 []) + 8 * 64 ≤ 0x22000) ∧ addr (s 0x1FF8 []) + 8 ≤ 0x37000 ∧ ¬(0x2000 ≤ addr (s 0x1FF8 []))
    ∧ (addr (s 0x23FF8 []) + 8 * 1 ≤ 0x24000 ∧ ¬(addr (s 0x23FF8 []) + 8 * 2 ≤ 0x24000))
    ∧ vestF State.reset + vestG State.reset + 24 ≤ vestBudget State.reset
    ∧ (op (.read 0x2000 64)).chestCtl.op = some (.read 0x2000 64)
    ∧ ((op (.write 0x2000 [1, 2] false)).chestCtl.op = some (.write 0x2000 [1, 2] false) ∧ (op (.write 0x2000 [1, 2] false)).chestCtl.begun = true)
    ∧ ((op (.write 0x2000 [1] false)).chestCtl.tries = 0 ∧ ((op (.write 0x2000 [1] false)).updChest (fun c => { c with tries := 1 })).chestCtl.tries ≠ 0) := by decide

/-- A block in a physical block that failed, and one that need not move. -/
theorem test_witness_ChestAndLogs_moves :
    let s := State.reset.updChest (fun c => { c with bad := [5], words := [], since := [] })
    let p := { State.reset with flt := { Flt.reset with plogQ := [⟨[1, 2, 3, 4, 5, 6], true⟩] } }
    (st [(R.PWR_STAT, 0x800)]).bt R.PWR_STAT 11 = true ∧ (s.bt R.PWR_STAT 11 = false ∧ physBlock s 5 ∈ s.chestCtl.bad)
    ∧ (sinceOf s 6 < 2 ^ 20 ∧ physBlock s 6 ∉ s.chestCtl.bad) ∧ ({ s with vest := { Vest.reset with paused := true } }.vest.paused = true ∧ physBlock s 6 ∉ s.chestCtl.bad)
    ∧ State.reset.power.lgs = none ∧ State.reset.vest.paused = false ∧ State.reset.flt.plogQ = []
    ∧ (State.reset.updPower (fun p => { p with lgs := some [] })).power.lgs.isSome = true
    ∧ (p.flt.plogQ = [⟨[1, 2, 3, 4, 5, 6], true⟩] ∧ ([1, 2, 3, 4, 5, 6] : List Word).length ≤ 6 ∧ p.power.lgs = none) := by decide

/-- With every word of the array written no more than another, block 220 is a spare one to move to. -/
theorem test_witness_ChestAndLogs_spare : (leastWorn (State.reset.updChest (fun c => { c with bad := [5] }))).isSome = true := by decide +kernel

theorem test_witness_PowerModes :
    let on (l : List (Nat × Word)) (f : Power → Power) := (st l).updPower (fun p => f { p with boot := .done })
    let mode (m : Nat) : Nat × Word := (R.PWR_STAT, BitVec.ofNat 32 m)
    let dip := on [] (fun p => { p with dips := p.dips.set 0 (some ⟨7, true⟩) })
    (monitored State.reset 0 = false ∧ monitored (on [] id) 0 = true ∧ (on [] id).bt R.PWR_STAT 3 = false ∧ monitored (on [(R.PWR_STAT, 0x100), (R.PWR_CTRL, 1)] id) 1 = true)
    ∧ ((on [] (fun p => { p with pfail := true })).power.pfail = true ∧ (on [] id).bt (fsrcStat FS.PFAIL) 17 = false ∧ pwrMode (on [mode 3] id) = 3 ∧ (on [mode 3] id).power.lgs = none)
    ∧ ((on [] (fun p => { p with recovered := true })).power.recovered = true ∧ (on [(R.PWR_CTRL, 0x28)] id).bt R.PWR_CTRL 5 = true ∧ (on [(R.PWR_CTRL, 8)] id).bt R.PWR_CTRL 3 = true)
    ∧ ((on [] (fun p => { p with dormant := true, woken := true })).power.woken = true ∧ vestRefusing State.reset = false ∧ vestRefusing (st [(fsrcStat FS.SUPPLY_WARN, 0x20000)]) = true)
    ∧ ((on [] id).power.dips[0] = none ∧ dip.power.dips[0] = some ⟨7, true⟩) ∧ State.reset.power.boot = .held ∧ (on [] id).power.boot ≠ .held
    ∧ ((on [(R.PWR_CTRL, 0x10)] id).bt R.PWR_CTRL 4 = true ∧ (on [] id).power.lgs = none ∧ (on [] id).power.barred = false ∧ (on [(R.PWR_CTRL, 0)] id).bt R.PWR_CTRL 4 = false)
    ∧ ((on [] (fun p => { p with lgs := some [1, 2, 3, 4] })).power.lgs = some [1, 2, 3, 4] ∧ ([1, 2, 3, 4] : List Word).length = 4)
    ∧ ((st [(fsrcStat FS.SUPPLY_WARN, 0x20000)]).bt (fsrcStat FS.SUPPLY_WARN) 17 = true ∧ State.reset.bt (fsrcStat FS.SUPPLY_WARN) 17 = false ∧ State.reset.power.pfail = false)
    ∧ (pwrMode (on [mode 0] id) = 0 ∧ pwrMode (on [mode 1] id) = 1 ∧ pwrMode (on [mode 2] id) = 2 ∧ pwrMode (on [mode 3] id) = 3)
    ∧ (timingIdle State.reset = true ∧ timingIdle (on [(R.SYNCOUT_CTRL, 1)] id) = false ∧ (State.reset.power.lgs = none))
    ∧ (let s := on [(R.LOB_WPIN, 8), (R.LOB_WCTRL, 0x10)] (fun p => { p with dormant := true })
       s.power.dormant = true ∧ s.bt R.LOB_WPIN 3 = true ∧ s.fl R.LOB_WCTRL 0 5 ≠ 3 ∧ s.bt R.LOB_WPIN 4 = false ∧ State.reset.power.dormant = false)
    ∧ (lobDue State.reset 2 = false ∧ lobDue (on [(lobC 2, 0x101)] id) 2 = true ∧ (on [(lobC 2, 0x101)] id).fl (lobC 2) 8 8 ≠ 0 ∧ lobDue (on [(lobC 2, 1)] id) 2 = true
      ∧ (on [(lobC 2, 1)] id).fl (lobC 2) 8 8 = 0) := by decide

theorem test_witness_PowerModes_doze : dozeReady (st [(R.PWR_STAT, 2)]) = true ∧ dozeReady State.reset = false
    ∧ ∀ r, ringState State.reset r = 0 := by decide +kernel

theorem test_witness_ResetsAndBoot :
    let p (f : Power → Power) := State.reset.updPower f
    let w : Word × Word := (0x02000000, 5)
    (p (fun x => { x with boot := .done })).power.dormant = false ∧ monitored (p (fun x => { x with boot := .done })) 0 = true ∧ monitored State.reset 0 = false
    ∧ (p (fun x => { x with dormant := true })).power.dormant = true ∧ (State.reset.power.boot = .held ∧ State.reset.power.dormant = false)
    ∧ (let s := p (fun x => { x with dormant := true, woken := true }); s.power.boot = .held ∧ s.power.dormant = true ∧ s.power.woken = true)
    ∧ (let s := p (fun x => { x with dormant := true, vddFell := true }); s.power.boot = .held ∧ s.power.dormant = true ∧ s.power.woken = false ∧ s.power.vddFell = true)
    ∧ (p (fun x => { x with boot := .sram })).power.boot = .sram ∧ (p (fun x => { x with boot := .patch })).power.boot = .patch
    ∧ (let s := p (fun x => { x with boot := .image, image := [w] }); s.power.boot = .image ∧ s.power.image = [w] ∧ fld w.1 24 4 = 2 ∧ fld 0x0100C000 24 4 ≠ 2)
    ∧ (let s := p (fun x => { x with boot := .image }); s.power.boot = .image ∧ s.power.image = [])
    ∧ (State.reset.chestWord 0x1000 = 0 ∧ imgWord State.reset 0 = 0 ∧ imgBad State.reset = false) := by decide

theorem test_witness_HostLink :
    let s (l : List (Nat × Word)) (f : Pcie → Pcie) := { (st l).updPower (fun p => { p with boot := .done }) with pcie := f Pcie.reset }
    linkUp (s [(R.RING_HOSTSTAT, 1)] id) = true ∧ linkUp State.reset = false
    ∧ ((s [] (fun p => { p with perst := true })).pcie.perst = true ∧ (s [] id).power.boot = .done ∧ State.reset.power.boot ≠ .done)
    ∧ ((s [] (fun p => { p with perst := false, training := true })).pcie.perst = false ∧ (s [] (fun p => { p with perst := false, training := true })).pcie.training = true)
    ∧ ((s [(R.RING_HOSTSTAT, 1)] id).fl R.PCIE_STAT 6 3 = 0 ∧ (s [] id).pcie.l1ss ≤ 2 ∧ (s [(R.PCIE_STAT, 0x40)] id).fl R.PCIE_STAT 6 3 ≠ 0)
    ∧ (Pcie.reset.pba = 0 ∧ bit 1 0 = true ∧ fld 1 1 2 ≠ 3 ∧ bit 6 0 = false ∧ fld 6 1 2 = 3) := by decide

theorem test_witness_PeerRing :
    let s (l : List (Nat × Word)) (f : Peer → Peer) := { st l with peer := f { Peer.reset with lock := true } }
    let h (d n : Fin 4) : FrameHead := ⟨d, n⟩
    let hears (s : State) : Prop := s.bt R.PEER_CFG 0 = true ∧ s.peer.lock = true
    let sec := s [(R.PEER_CFG, 1), (R.PEER_STAT, 0x12)] id
    let pri := s [(R.PEER_CFG, 3)] id
    hears sec ∧ sec.bt R.PEER_CFG 1 = false ∧ (h 1 0).dev.val ≠ sec.fl R.PEER_STAT 0 2 ∧ (h 2 0).dev.val = sec.fl R.PEER_STAT 0 2
    ∧ (h 0 2).hops.val ≠ 0 ∧ (h 0 0).hops.val = 0 ∧ ¬hears State.reset ∧ State.reset.bt R.PEER_CFG 0 = false ∧ sec.bt R.PEER_CFG 0 = true
    ∧ (hears pri ∧ pri.bt R.PEER_CFG 1 = true ∧ ringUp pri = false) ∧ (let u := s [(R.PEER_CFG, 3), (R.PEER_STAT, 0x10)] id; hears u ∧ ringUp u = true)
    ∧ ({ sec with peer := { Peer.reset with lock := false } }.peer.lock = false ∧ ({ pri with peer := Peer.reset }).bt R.PEER_CFG 1 = true ∧ Peer.reset.lock = false)
    ∧ ((s [(R.PEER_CFG, 3)] (fun p => { p with sentAt := some 9 })).peer.sentAt = some 9 ∧ pri.peer.sentAt = none)
    ∧ ((s [] (fun p => { p with acted := [(1, 5)] })).peer.acted = [(1, 5)] ∧ (s [] (fun p => { p with opened := [(5, none)] })).peer.opened = [(5, none)]) := by decide

/-- An address in the device, the last word of it, and one past it. -/
theorem test_witness_PortsAndDebug :
    let on (l : List (Nat × Word)) (f : Ports → Ports) := { (st l).updPower (fun p => { p with boot := .done }) with ports := f Ports.reset }
    let hb := on [(R.SUP_HB_CTRL, 1)] (fun p => { p with hbKicked := true, hbAt := some 0 })
    let up := on [(R.CLK_STAT, 3)] id
    let doze := on [(R.CLK_STAT, 3), (R.PWR_STAT, 1)] id
    (Agent.host ≠ .sup ∧ hb.bt R.SUP_HB_CTRL 0 = true ∧ State.reset.bt R.SUP_HB_CTRL 0 = false ∧ fld 1 0 16 = (hb.fl R.SUP_HB_STAT 0 16 + 1) % 65536
      ∧ ¬(fld 2 0 16 = (hb.fl R.SUP_HB_STAT 0 16 + 1) % 65536) ∧ hb.ports.hbKicked = true)
    ∧ (hbDue hb = true ∧ hbDue State.reset = false) ∧ (supServes up = true ∧ supServes State.reset = false ∧ accessWaits up .sup = false ∧ readBusy up .sup = false)
    ∧ (supServes doze = true ∧ accessWaits doze .sup = true) ∧ (0xFFFFC < 0x100000 ∧ 0xFFFFC % 4 = 0 ∧ 0x100000 ≤ 0x100000)
    ∧ (let d := on [(R.CLK_STAT, 3), (R.DBG_CTRL, 1)] (fun p => { p with ir := .debug })
       d.ports.ir = .debug ∧ d.bt R.DBG_CTRL 0 = true ∧ coreOn d = true ∧ enginesToCome d = false ∧ (st [(R.DBG_CTRL, 0)]).bt R.DBG_CTRL 0 = false ∧ State.reset.ports.ir ≠ .debug)
    ∧ (let d := on [(R.DBG_CTRL, 1), (feOff 0 FE.STAT, 1)] (fun p => { p with ir := .debug }); coreOn d = true ∧ enginesToCome d = true)
    ∧ (xspiWriting up = false ∧ xspiWriting (up.after 1 (.xspiWrite 0 [])) = true)
    ∧ ((10000000000000#54).getLsbD 52 = false ∧ (0x10000000000000#54).getLsbD 52 = true)
    ∧ (let e := st [(feOff 1 FE.STAT, 4), (R.DBG_SEL, 0x1101)]; bit 2 1 = true ∧ feHalted e 1 = true ∧ feRun e 1 = false ∧ e.eng[1].stopAt ≠ e.now
        ∧ feHalted e (dbgEng e) = true ∧ dbgReg e = 17 ∧ feHalted State.reset (dbgEng State.reset) = false ∧ 26 < dbgReg (st [(R.DBG_SEL, 0x1B00)])) := by decide

theorem test_witness_SysIdWrites :
    let s := State.reset.updPower (fun p => { p with boot := .image })
    served s .host = true ∧ s.pcie.l1 = false ∧ s.pcie.d3 = false ∧ accessWaits s .host = false ∧ (0 : Word) ≠ 1 := by decide

/-- Sizes 0, 1, 4, 8 and 9; a request that ends its word and one that goes past it; the ends of the windows. -/
theorem test_witness_Accesses :
    let on (l : List (Nat × Word)) := (st l).updPower (fun p => { p with boot := .done })
    let doze := on [(R.CLK_STAT, 3), (R.PWR_STAT, 1)]
    let run := on [(R.CLK_STAT, 3)]
    let r : Ring → Ring := fun x => { x with cur := some { desc [3, 0x00200100, 0, 0, 0, 0, 0, 0] 0 false [] with moving := true } }
    (served run .sup = true ∧ served run .host = true ∧ served run (.bank 0 0) = false ∧ served State.reset .host = false ∧ accessWaits run .sup = false ∧ unsupported run .sup = false)
    ∧ (0xFFFF8 < 0x100000 ∧ 0x100000 < 0xFFFFF + 4 ∧ 0x13FFF8 < 0x140000 ∧ 8 < 9 ∧ 0x140000 < 0x200000 ∧ 0x202000 < 0x201FFF + 2 ∧ ctxZero 0xA7F02 = true ∧ ctxZero 0xA7F01 = false)
    ∧ accessWaits doze .sup = true ∧ accessWaits run .host = false ∧ (isRam 0x3100 = true ∧ isRam 0x32FF = true ∧ isRam 0x3300 = false ∧ isRam 0xE07FC = true ∧ chestBufBusy State.reset 0x3100 = false)
    ∧ (0x60003 % 4 + 1 ≤ 4 ∧ 4 < 0x60003 % 4 + 2) ∧ (unsupported { run with pcie := { Pcie.reset with d3 := true } } .host = true ∧ readBusy run .host = false)
    ∧ readBusy (run.updRing 3 r) .host = true ∧ (codeRefused State.reset 0 = false ∧ codeRefused (st [(feOff 0 FE.STAT, 1), (feOff 0 FE.CODE, 0xFFFF0000)]) 0 = true) := by decide

theorem test_witness_Accesses_registers : regRow? R.SYS_ID ≠ none ∧ regRow? 0xFFFFC = none ∧ (∃ r ∈ regRow? (feOff 0 FE.CMD), r.wo ≠ 0) := by decide +kernel

theorem test_witness_StepTakesFront : State.reset.pending = [] := rfl

/-- The reset state meets the premise, also with a command waiting. -/
theorem test_witness_StepsKeepCanonical : Canonical { State.reset with pending := [.nop 0] } := ⟨rfl, rfl, rfl, rfl⟩

end Sys2Proof.Tests
end

/-!
# Every step keeps the canonical form (O60)

One lemma for each function of the model that answers a state, in the order of the model's files: the canonical form of its
argument gives that of its result. A command's lemma (`…_keeps`) says as well that the command goes on.
-/

namespace Sys2Proof.Machine
section
variable {s t u : State}

/-- What changes other fields than the four stores keeps the canonical form. (The users prove `e` by `by rfl`, which waits until
`t` is known from the goal.) -/
theorem Canonical.same (h : Canonical s) (e : (t.regs, t.lat, t.mem, t.chest) = (s.regs, s.lat, s.mem, s.chest)) :
    Canonical t := by
  simp only [Prod.mk.injEq] at e
  obtain ⟨hregs, hlat, hmem, hchest⟩ := e
  exact h.of_stores hregs hlat hmem hchest

section Branches
variable {c : Prop} [Decidable c]

theorem Canonical.ite (ht : Canonical t) (hu : Canonical u) : Canonical (if c then t else u) := by
  split
  · exact ht
  · exact hu
theorem Canonical.onIf (h : Canonical s) (ht : Canonical s → Canonical t) : Canonical (if c then t else s) := .ite (ht h) h
theorem Canonical.onElse (h : Canonical s) (ht : Canonical s → Canonical t) : Canonical (if c then s else t) := .ite h (ht h)
theorem Canonical.ifElse (h : Canonical s) (ht : Canonical s → Canonical t) (hu : Canonical s → Canonical u) :
    Canonical (if c then t else u) := .ite (ht h) (hu h)
theorem Canonical.iteFst {α : Type} {p q : State × α} (hp : Canonical p.1) (hq : Canonical q.1) :
    Canonical (if c then p else q).1 := by
  split
  · exact hp
  · exact hq
theorem Canonical.iteSnd {α : Type} {p q : α × State} (hp : Canonical p.2) (hq : Canonical q.2) :
    Canonical (if c then p else q).2 := by
  split
  · exact hp
  · exact hq
end Branches

theorem Canonical.ofFst {α : Type} {p : State × α} {x : α} (h : Canonical p.1) (e : p = (s, x)) : Canonical s := by
  rw [e] at h
  exact h
theorem Canonical.ofSnd {α : Type} {p : α × State} {x : α} (h : Canonical p.2) (e : p = (x, s)) : Canonical s := by
  rw [e] at h
  exact h

theorem Canonical.fold {α : Type} {f : State → α → State} {l : List α} (h : Canonical s)
    (hf : ∀ {t a}, Canonical t → Canonical (f t a)) : Canonical (l.foldl f s) :=
  Canonical.foldl f (fun _ _ => hf) l h

/-- A command goes on from `s` with the outcome `o`, and keeps the canonical form. -/
def Keeps (s : State) (o : Host.Outcome State Fault Refusal) : Prop := ∃ t, o = .next t ∧ (Canonical s → Canonical t)

theorem Keeps.next (h : Canonical s → Canonical t) : Keeps s (.next t) := ⟨t, rfl, h⟩

theorem Keeps.ite {c : Prop} [Decidable c] {o p : Host.Outcome State Fault Refusal} (ho : Keeps s o) (hp : Keeps s p) :
    Keeps s (if c then o else p) := by
  split
  · exact ho
  · exact hp

theorem Keeps.of {o : Host.Outcome State Fault Refusal} (ho : Keeps t o) (h : Canonical s → Canonical t) : Keeps s o := by
  obtain ⟨u, e, hu⟩ := ho
  exact ⟨u, e, fun hs => hu (h hs)⟩

/-! ### The shared operations (Ops.lean) -/

theorem Canonical.journal {o : Nat} (h : Canonical s) : Canonical (s.journal o) := h.same (by rfl)
theorem Canonical.servePram {a : Fin 11} (h : Canonical s) : Canonical (s.servePram a) := h.same (by rfl)
theorem Canonical.enq {c : Instr} (h : Canonical s) : Canonical (s.enq c) := h.same (by rfl)
theorem Canonical.enqAll {cs : List Instr} (h : Canonical s) : Canonical (s.enqAll cs) := h.same (by rfl)
theorem Canonical.afterTicks {d : Nat} {c : Instr} (h : Canonical s) : Canonical (s.afterTicks d c) := h.same (by rfl)
theorem Canonical.laterTicks {d : Nat} {l : Later} (h : Canonical s) : Canonical (s.laterTicks d l) := h.same (by rfl)
theorem Canonical.redate {f : Nat → Nat} (h : Canonical s) : Canonical (s.redate f) := h.same (by rfl)
theorem Canonical.toLclk (h : Canonical s) : Canonical s.toLclk := h.redate
theorem Canonical.fromLclk (h : Canonical s) : Canonical s.fromLclk := h.redate
theorem Canonical.noteEdge (h : Canonical s) : Canonical s.noteEdge := h.same (by rfl)

/-! ### Event slots (Slots.lean) -/

theorem Canonical.setSlotState {n : Fin 4} {k : Fin 512} {v : Nat} (h : Canonical s) : Canonical (setSlotState s n k v) :=
  h.setFl _ _ _ _
theorem Canonical.updNwl {n : Fin 4} {f : Nwl → Nwl} (h : Canonical s) : Canonical (s.updNwl n f) := h.same (by rfl)
theorem Canonical.evEvent {n : Fin 4} {k : Fin 512} {b : Nat} (h : Canonical s) : Canonical (evEvent s n k b) :=
  ((h.setEv _ _).onIf (·.raise _ _)).onIf (·.srqVia _ _ _)
theorem Canonical.setInst {n : Fin 4} {k : Fin 512} {i : Nat} (h : Canonical s) : Canonical (setInst s n k i) := h.updNwl
theorem Canonical.completeSlot {n : Fin 4} {k : Fin 512} {i last : Nat} (h : Canonical s) :
    Canonical (completeSlot s n k i last) :=
  ((h.setFl _ _ _ _).setFl _ _ _ _).updNwl.setSlotState
theorem Canonical.countDrop {n : Fin 4} (h : Canonical s) : Canonical (countDrop s n) := h.satFl _ _ _
theorem Canonical.countLate {n : Fin 4} (h : Canonical s) : Canonical (countLate s n) := h.satFl _ _ _
theorem Canonical.withdraw {n : Fin 4} {k : Fin 512} (h : Canonical s) : Canonical (withdraw s n k) := by
  unfold Machine.withdraw
  refine .ite ?_ h
  extract_lets s1
  have h1 : Canonical s1 := by
    unfold s1
    split
    · exact h.same (by rfl)
    · exact h
  exact h1.setSlotState
theorem Canonical.dropSlot {n : Fin 4} {k : Fin 512} {i tgt : Nat} (h : Canonical s) : Canonical (dropSlot s n k i tgt) :=
  h.withdraw.completeSlot.countDrop.evEvent.offer _ _
theorem Canonical.newelFired {n : Fin 4} {k : Fin 512} {e : AqEntry} {isLate : Bool} {lateness : Nat} (h : Canonical s) :
    Canonical (newelFired s n k e isLate lateness) :=
  ((h.completeSlot.wr _ _).wr _ _).evEvent.onIf (·.countLate)
theorem Canonical.newelFlushed {n : Fin 4} {k : Fin 512} (h : Canonical s) : Canonical (newelFlushed s n k) :=
  h.completeSlot.countDrop.evEvent

/-! ### Pads and the output path (Output.lean) -/

theorem Canonical.updCh {n : Fin 96} {f : Chan → Chan} (h : Canonical s) : Canonical (s.updCh n f) := h.same (by rfl)
theorem Canonical.updPg {m : Fin 16} {f : Pg → Pg} (h : Canonical s) : Canonical (s.updPg m f) := h.same (by rfl)
theorem Canonical.chEvent {n : Fin 96} {b : Nat} (h : Canonical s) : Canonical (chEvent s n b) :=
  (h.setEv _ _).onIf (·.srqVia _ _ _)
theorem Canonical.ownEdge {n : Fin 96} {lvl : Bool} {q : Nat} (h : Canonical s) : Canonical (ownEdge s n lvl q) :=
  (h.same (by rfl)).afterTicks
theorem Canonical.updPad {n : Fin 96} {cause fine dt : Nat} (h : Canonical s) : Canonical (updPad s n cause fine dt) :=
  h.onElse (fun h => (h.noteEdge.updCh.onIf (·.ownEdge)).onIf (·.offer _ _))
theorem Canonical.driveTo {n : Fin 96} {lvl : Bool} {at' : Placement} {dt cause : Nat} (h : Canonical s) :
    Canonical (driveTo s n lvl at' dt cause) := by
  unfold Machine.driveTo
  refine .ite (h.onElse (fun h => .ite h.updCh.updPad (h.updCh.dropDue _).afterTicks)) ?_
  extract_lets s1 s2
  have h1 : Canonical s1 := by
    unfold s1
    split
    · exact h.onIf (·.updCh.updPad)
    · exact h
  have h2 : Canonical s2 := h1.updCh.dropDue _
  exact h2.updPad
theorem Canonical.setRef {n : Fin 96} {lvl : Bool} {at' : Placement} {cause : Nat} (h : Canonical s) :
    Canonical (setRef s n lvl at' cause) := by
  unfold Machine.setRef
  extract_lets dt s1 s2
  have h1 : Canonical s1 := h.updCh
  have h2 : Canonical s2 := h1.driveTo
  split
  · exact h2.onIf (·.driveTo)
  · exact h2
theorem Canonical.countShort {n : Fin 96} {pol : Nat} (h : Canonical s) : Canonical (countShort s n pol) := h.satFl _ _ _
theorem Canonical.holdClose {n : Fin 96} {start' : Placement} {dt mp : Nat} (h : Canonical s) :
    Canonical (holdClose s n start' dt mp) :=
  (h.updCh.dropDue _).afterTicks
theorem Canonical.openStretch {n : Fin 96} {lvl : Bool} {at' : Placement} {cause : Nat} {byCompare : Bool} {soon : Option Nat}
    (h : Canonical s) : Canonical (openStretch s n lvl at' cause byCompare soon) := by
  unfold Machine.openStretch
  split
  · exact h.updCh.ifElse (·.setRef) (fun h => h.updCh.countShort.ifElse (·.updCh) (fun h => h.setRef.onIf (·.holdClose)))
theorem Canonical.closeMoved {n : Fin 96} {p : Placement} {soon : Option Nat} (h : Canonical s) :
    Canonical (closeMoved s n p soon) :=
  h.updCh.openStretch
theorem Canonical.refStep {n : Fin 96} {lvl : Bool} {at' : Placement} {cause : Nat} {byCompare : Bool} (h : Canonical s) :
    Canonical (refStep s n lvl at' cause byCompare) := by
  unfold Machine.refStep
  extract_lets c start' s1
  have h1 : Canonical s1 := h.updCh.countShort
  split
  refine .ite (.ite h.updCh h.updCh.openStretch) (.ite h (.ite h (.ite ?_ h.openStretch)))
  exact .ite h.countShort.openStretch (.ite h.countShort.openStretch (.ite h1.holdClose h1.openStretch))
theorem Canonical.refChange {n : Fin 96} {lvl : Bool} {at' : Placement} {cause : Nat} {byCompare : Bool} (h : Canonical s) :
    Canonical (refChange s n lvl at' cause byCompare) := by
  unfold Machine.refChange
  split
  · exact h.onIf (·.closeMoved.refStep)
  · exact h.refStep
theorem Canonical.decide' {n : Fin 96} {lvl : Bool} {fine cause : Nat} {byCompare : Bool} (h : Canonical s) :
    Canonical (decide' s n lvl fine cause byCompare) :=
  h.updCh.onElse (fun h => .ite h.updCh h.refChange)
theorem Canonical.flushPend {n : Fin 96} (h : Canonical s) : Canonical (flushPend s n) := by
  unfold Machine.flushPend
  split
  · exact h.updCh.refChange
  · exact h
theorem Canonical.forceRef {n : Fin 96} {lvl : Bool} {cause : Nat} (h : Canonical s) : Canonical (forceRef s n lvl cause) := by
  unfold Machine.forceRef
  extract_lets s1 at' c dt s2
  have h1 : Canonical s1 := h.updCh.dropDue _
  have h2 : Canonical s2 := h1.updCh.driveTo
  refine .ite h1.driveTo ?_
  refine .ite h1.updCh ?_
  split
  · exact h2.onIf (·.driveTo)
  · exact h2
theorem Canonical.idleOut {n : Fin 96} {cause : Nat} (h : Canonical s) : Canonical (idleOut s n cause) := h.onElse (·.forceRef)
theorem Canonical.pairIdle {n : Fin 96} (h : Canonical s) : Canonical (pairIdle s n) := h.onIf (·.idleOut)
theorem execDeadTimeExpiry_keeps {n : Fin 96} : Keeps s (execDeadTimeExpiry n s) := by
  unfold execDeadTimeExpiry
  split
  · exact .next id
  · exact .next (·.updCh.updPad)
theorem execStretchClose_keeps {n : Fin 96} : Keeps s (execStretchClose n s) := by
  unfold execStretchClose
  split
  · exact .next id
  · exact .next (·.updCh.closeMoved)

/-! ### Timer channels (Channel.lean) -/

theorem Canonical.takeCount {n : Fin 96} {cnt : Nat} {down : Bool} (h : Canonical s) : Canonical (takeCount s n cnt down) :=
  (h.wr _ _).updCh
theorem Canonical.copyShadows {n : Fin 96} {withPeriod : Bool} (h : Canonical s) : Canonical (copyShadows s n withPeriod) :=
  ((((((h.onIf (·.wr _ _)).wr _ _).wr _ _).wr _ _).wr _ _).wr _ _).setBt _ _ _
theorem Canonical.transferPoint {n : Fin 96} {load : Bool} (h : Canonical s) : Canonical (transferPoint s n load) := by
  unfold Machine.transferPoint
  extract_lets c s1 s2 s3 s4
  have h1 : Canonical s1 := h.upd _ _
  have h2 : Canonical s2 := h1.updCh
  have h3 : Canonical s3 := .ite h h2.chEvent
  have h4 : Canonical s4 := h3.onIf (·.upd _ _)
  split
  · exact h3.copyShadows
  · exact h4.onIf (·.updCh.copyShadows)
  · exact h3
theorem Canonical.cascadeFrom {n : Fin 96} (h : Canonical s) : Canonical (cascadeFrom s n) := by
  unfold Machine.cascadeFrom
  split
  · exact h.onIf (·.after _ _)
  · exact h
theorem Canonical.applyAdvance {n : Fin 96} {a : Advance} (h : Canonical s) : Canonical (applyAdvance s n a) :=
  ((h.takeCount.onIf (·.chEvent)).onIf (·.transferPoint)).onIf (·.cascadeFrom)
theorem execCounterBoundary_keeps {n : Fin 96} : Keeps s (execCounterBoundary n s) := by
  unfold execCounterBoundary
  split
  · exact .ite (.next (·.applyAdvance)) (.next id)
  · exact .next id
theorem execCounterPeak_keeps {n : Fin 96} : Keeps s (execCounterPeak n s) := by
  unfold execCounterPeak
  split
  · exact .ite (.next (·.applyAdvance)) (.next id)
  · exact .next id
theorem execCascadeAdvance_keeps {n : Fin 96} : Keeps s (execCascadeAdvance n s) := by
  unfold execCascadeAdvance
  refine .ite ?_ (.next id)
  split
  · exact .next (·.applyAdvance)
  · exact .next id
theorem execCompareMatch_keeps {n : Fin 96} {k : Fin 4} : Keeps s (execCompareMatch n k s) :=
  .ite (.ite (.next (·.chEvent)) <|
    .ite (.next (·.chEvent.chEvent)) <|
    .ite (.next (·.chEvent)) (.next (·.chEvent.updCh.decide')))
  (.next id)
theorem Canonical.writeShadow {n : Fin 96} {r : Shadow} {v : Word} (h : Canonical s) : Canonical (writeShadow s n r v) := by
  unfold Machine.writeShadow
  extract_lets o s1
  have h1 : Canonical s1 := h.wr _ _
  split
  · refine .ite h1 ?_
    extract_lets s2
    have h2 : Canonical s2 := h1.updPg
    split
    · exact (h2.wr _ _).upd _ _
    · exact h2.upd _ _
    · exact h2.upd _ _
  · split
    · exact (h1.wr _ _).upd _ _
    · exact h1.upd _ _
    · exact h1.upd _ _
theorem Canonical.chLoadCmd {n : Fin 96} (h : Canonical s) : Canonical (chLoadCmd s n) := h.onIf (·.updCh.upd _ _)
theorem Canonical.chCntWrite {n : Fin 96} {v : Word} (h : Canonical s) : Canonical (chCntWrite s n v) := h.onElse (·.updCh)
theorem Canonical.chStartCmd {n : Fin 96} (h : Canonical s) : Canonical (chStartCmd s n) := h.onIf (·.updCh)
theorem Canonical.chStopCmd {n : Fin 96} (h : Canonical s) : Canonical (chStopCmd s n) := h.updCh
theorem Canonical.aqRefuse {n : Fin 96} (h : Canonical s) : Canonical (aqRefuse s n) := h.chEvent.raise _ _
theorem Canonical.aqOfferEntry {n : Fin 96} {e : AqEntry} (h : Canonical s) : Canonical (aqOfferEntry s n e).1 := by
  unfold Machine.aqOfferEntry
  extract_lets c same
  exact Canonical.iteFst h.aqRefuse <|
    Canonical.iteFst h (Canonical.iteFst (Canonical.iteFst h.aqRefuse h.updCh) (Canonical.iteFst h.updCh h.aqRefuse))
theorem Canonical.writeAqA {a : Agent} {n : Fin 96} {v : Word} (h : Canonical s) : Canonical (writeAqA s a n v) :=
  (h.onIf (·.rsvd _ _)).aqOfferEntry
theorem Canonical.flushQueue {n : Fin 96} (h : Canonical s) : Canonical (flushQueue s n) := by
  refine h.updCh.fold fun h => ?_
  split
  · exact h.newelFlushed
  · exact h
theorem Canonical.aqAct {n : Fin 96} {act fine : Nat} (h : Canonical s) : Canonical (aqAct s n act fine) := by
  unfold Machine.aqAct
  extract_lets s1 lvl fol
  have h1 : Canonical s1 := h.updCh
  split
  · exact h1.decide'
  · exact h1.decide'
  · exact h1.decide'
  · exact (h.setBt _ _ _).updPad
  · exact (h.setBt _ _ _).updPad
  · exact h.onElse (·.chStartCmd)
  · exact h.onElse (·.chStopCmd)
  · exact h.onElse (·.chCntWrite)
  · exact h.onElse (·.transferPoint)
  · exact h
theorem execAqFire_keeps {n : Fin 96} : Keeps s (execAqFire n s) := by
  unfold execAqFire
  split
  · exact .next id
  · refine .ite (.next id) ?_
    extract_lets isLate lateness fine at' s1 s2 s3 nwl slot s4 s5
    have h1 : Canonical s → Canonical s1 := (·.updCh)
    have h2 : Canonical s → Canonical s2 := fun h => (h1 h).onIf (·.chEvent)
    have h3 : Canonical s → Canonical s3 := fun h => (h2 h).aqAct
    have h4 : Canonical s → Canonical s4 := fun h => (h3 h).onIf (·.offer _ _)
    have h5 : Canonical s → Canonical s5 := by
      intro h
      unfold s5
      clear_value nwl
      split
      · exact (h4 h).newelFired
      · exact h4 h
    exact .next fun h => (h5 h).onIf (·.later' _ _)
theorem execAqTWrite_keeps {a : Agent} {n : Fin 96} {v : Word} : Keeps s (execAqTWrite a n v s) := .next (·.setLat _ _ _)
theorem execAqOffer_keeps {a : Agent} {n : Fin 96} {v : Word} : Keeps s (execAqOffer a n v s) := .next (·.writeAqA)
theorem Canonical.tripSample {m : Fin 16} {lvl : Bool} (h : Canonical s) : Canonical (tripSample s m lvl) :=
  .ite (h.same (by rfl)) (h.onElse (·.later' _ _))
theorem Canonical.tripAccept {m : Fin 16} {on : Bool} (h : Canonical s) : Canonical (tripAccept s m on) := h.updPg.after _ _
theorem Canonical.tripInput {m : Fin 16} (h : Canonical s) : Canonical (tripInput s m) := h.tripSample
theorem Canonical.feedLanes {n : Fin 96} {level : Bool} {coarse : Time} {fine : BitVec 5} (h : Canonical s) :
    Canonical (feedLanes s n level coarse fine) := by
  unfold Machine.feedLanes
  extract_lets e feed
  have hfeed : ∀ {t k}, Canonical t → Canonical (feed t k) := fun h =>
    h.onElse (fun h => .ite (h.onIf (·.after _ _)) (.ite (h.onIf (·.after _ _)) (h.onIf (·.after _ _))))
  exact hfeed (hfeed h)
theorem Canonical.deferSample {n : Fin 96} {level : Bool} (h : Canonical s) : Canonical (deferSample s n level) :=
  (h.dropDue _).after _ _
theorem execInputEdgeSampled_keeps {n : Fin 96} {level : Bool} {fine : BitVec 5} :
    Keeps s (execInputEdgeSampled n level fine s) := by
  unfold execInputEdgeSampled
  extract_lets c s1 s2 inTick cnt
  have h1 : Canonical s → Canonical s1 := (·.updCh)
  have h2 : Canonical s → Canonical s2 := fun h => (h1 h).fold (·.tripSample)
  refine .ite (.next id) ?_
  refine .ite (.next (·.deferSample)) ?_
  refine .ite (.next id) ?_
  refine .ite (.next (fun h => (h2 h).updCh.feedLanes)) ?_
  refine .ite (.next (fun h => ((h2 h).dropDue _).after _ _)) ?_
  refine .ite (.next h2) ?_
  split
  · exact .next fun h => (h2 h).updCh.after _ _
theorem execGlitchFilterExpiry_keeps {n : Fin 96} : Keeps s (execGlitchFilterExpiry n s) := by
  unfold execGlitchFilterExpiry
  split
  · exact .next id
  · exact .ite (.next (fun h => (h.updCh.dropDue _).satFl _ _ _)) <|
      .ite (.next (fun h => (((h.updCh.dropDue _).updCh.feedLanes.upd _ _).onIf (·.later' _ _)).updCh.after _ _)) <|
      .next (fun h => ((h.updCh.dropDue _).updCh.feedLanes.upd _ _).onIf (·.later' _ _))
theorem Canonical.fifoPush {n : Fin 96} {e : FifoEntry} (h : Canonical s) : Canonical (fifoPush s n e) :=
  .ite h.updCh (((h.satFl _ _ _).chEvent.onElse (·.raise _ _)).onIf (·.updCh))
theorem Canonical.recordEdge {n : Fin 96} {rising : Bool} (h : Canonical s) : Canonical (recordEdge s n rising).2 := by
  unfold Machine.recordEdge
  extract_lets w k s1
  have h1 : Canonical s1 := h.updCh
  refine Canonical.iteSnd ?_ h
  split
  · exact h1
  · exact h1
  · exact h1
theorem Canonical.feedNewels {n : Fin 96} {e : EdgeInfo} (h : Canonical s) : Canonical (feedNewels s n e) :=
  h.fold fun h =>
    h.onElse fun h =>
      .ite ((h.onIf (·.after _ _)).onIf (·.after _ _)) (((h.onIf (·.after _ _)).onIf (·.after _ _)).onIf (·.after _ _))
theorem execCapture_keeps {n : Fin 96} : Keeps s (execCapture n s) := by
  unfold execCapture
  split
  · exact .next id
  · exact .ite (.next (·.updCh.chEvent)) <|
      .next fun h =>
        (((h.updCh.noteEdge.updCh.wr _ _).wr _ _).upd _ _).chEvent.later' _ _
          |>.ifElse (·.recordEdge.offer _ _) (·.recordEdge)
          |>.feedNewels
theorem Canonical.readCapa {a : Agent} {n : Fin 96} (h : Canonical s) : Canonical (readCapa s a n).2 := by
  unfold Machine.readCapa
  extract_lets s1
  have h1 : Canonical s1 := (h.setLat _ _ _).setLat _ _ _
  exact h1
theorem Canonical.readFifoT {a : Agent} {n : Fin 96} (h : Canonical s) : Canonical (readFifoT s a n).2 := by
  unfold Machine.readFifoT
  split
  · exact h.setLat _ _ _
  · extract_lets s1
    have h1 : Canonical s1 := h.updCh
    exact h1.setLat _ _ _
theorem Canonical.readCnt {a : Agent} {n : Fin 96} (h : Canonical s) : Canonical (readCnt s a n).2 := by
  unfold Machine.readCnt
  extract_lets v
  split
  · exact Canonical.iteSnd (h.setLat _ _ _) h
  · exact h
theorem execCapaRead_keeps {a : Agent} {n : Fin 96} : Keeps s (execCapaRead a n s) := .next (·.readCapa.keep _ _)
theorem execFifoTRead_keeps {a : Agent} {n : Fin 96} : Keeps s (execFifoTRead a n s) := .next (·.readFifoT.keep _ _)
theorem execCntRead_keeps {a : Agent} {n : Fin 96} : Keeps s (execCntRead a n s) := .next (·.readCnt.keep _ _)
theorem Canonical.chEnable {n : Fin 96} (h : Canonical s) : Canonical (chEnable s n) := by
  unfold Machine.chEnable
  extract_lets s1 s2
  have h1 : Canonical s1 := h.setBt _ _ _
  have h2 : Canonical s2 := h1.updCh
  refine .ite ?_ h2
  split
  · exact h2.driveTo
  · exact h2
theorem Canonical.chDisable {n : Fin 96} (h : Canonical s) : Canonical (chDisable s n) :=
  ((h.setBt _ _ _).flushQueue.updCh.dropDue _).idleOut
theorem Canonical.writeChCtrl {a : Agent} {n : Fin 96} {v : Word} (h : Canonical s) : Canonical (writeChCtrl s a n v) :=
  ((h.wr _ _).onIf (·.rsvd _ _)).ifElse (·.chDisable) (fun h => h.onElse (·.chEnable))
theorem Canonical.writeOutcfg {n : Fin 96} {v : Word} (h : Canonical s) : Canonical (writeOutcfg s n v) :=
  (h.wr _ _).updPad.pairIdle
theorem Canonical.writeChPwm {a : Agent} {n : Fin 96} {v : Word} (h : Canonical s) : Canonical (writeChPwm s a n v) := by
  unfold Machine.writeChPwm
  extract_lets o was s1 s2 s3
  have h1 : Canonical s1 := h.wr _ _
  have h2 : Canonical s2 := h1.onIf (·.rsvd _ _)
  have h3 : Canonical s3 := by
    unfold s3
    split
    · exact .ite (h2.pairIdle.onIf (·.driveTo)) (h2.onIf (·.forceRef))
    · exact h2
  exact h3.updPad.pairIdle
theorem Canonical.writeChCmd {n : Fin 96} {v : Word} (h : Canonical s) : Canonical (writeChCmd s n v) :=
  (((h.onIf (·.chLoadCmd)).onIf (·.flushQueue)).onIf (·.updCh)).onElse (fun h => .ite h.chStopCmd (h.onIf (·.chStartCmd)))
theorem execChLoad_keeps {x : Agent} {n : Fin 96} : Keeps s (execChLoad x n s) := .next (·.chLoadCmd)
theorem execFlush_keeps {x : Agent} {n : Fin 96} : Keeps s (execFlush x n s) := .next (·.flushQueue)
theorem execFifoclr_keeps {x : Agent} {n : Fin 96} : Keeps s (execFifoclr x n s) := .next (·.updCh)
theorem execChStop_keeps {x : Agent} {n : Fin 96} : Keeps s (execChStop x n s) := .next (·.chStopCmd)
theorem execChStart_keeps {x : Agent} {n : Fin 96} : Keeps s (execChStart x n s) := .next (·.chStartCmd)
theorem execChannelEnable_keeps {x : Agent} {n : Fin 96} : Keeps s (execChannelEnable x n s) :=
  .next fun h => h.onElse (·.chEnable)
theorem execChannelDisable_keeps {x : Agent} {n : Fin 96} : Keeps s (execChannelDisable x n s) := .next (·.chDisable)
theorem execCntWrite_keeps {x : Agent} {n : Fin 96} {v : Word} : Keeps s (execCntWrite x n v s) := .next (·.chCntWrite)
theorem Canonical.shadowWriteBy {a : Agent} {n : Fin 96} {r : Shadow} {v : Word} (h : Canonical s) :
    Canonical (shadowWriteBy s a n r v) :=
  (h.onElse (·.rsvd _ _)).writeShadow
theorem execShadowWrite_keeps {a : Agent} {n : Fin 96} {r : Shadow} {v : Word} : Keeps s (execShadowWrite a n r v s) :=
  .next (·.shadowWriteBy)
theorem execChannelFreeze_keeps {n : Fin 96} : Keeps s (execChannelFreeze n s) := .next (·.updCh)

/-! ### Transactions, for those that fail them (TxnBase.lean) -/

theorem Canonical.updTxn {t' : Fin 8} {f : Txn → Txn} (h : Canonical s) : Canonical (s.updTxn t' f) := h.same (by rfl)
theorem Canonical.endDesc {r : Fin 64} {st : Nat} {result : Word} (h : Canonical s) : Canonical (endDesc s r st result) := by
  unfold Machine.endDesc
  split
  · exact h.same (by rfl)
  · exact h
theorem Canonical.endCommit {t' : Fin 8} {st : Nat} {result : Word} (h : Canonical s) :
    Canonical (endCommit s t' st result) := by
  unfold Machine.endCommit
  extract_lets s'
  have hs' : Canonical s' := h.updTxn
  split
  · exact hs'.endDesc
  · exact hs'
theorem Canonical.txnFailed {t' : Fin 8} (h : Canonical s) : Canonical (txnFailed s t') :=
  ((h.setEv _ _).setFl _ _ _ _).raise _ _
theorem Canonical.failCommit {t' : Fin 8} (h : Canonical s) : Canonical (failCommit s t') :=
  h.onIf (fun h => ((h.setFl _ _ _ _).dropDue _).txnFailed.endCommit)
theorem Canonical.failCommits {bound unit : Nat} (h : Canonical s) : Canonical (failCommits s bound unit) :=
  h.fold (fun h => h.onIf (·.failCommit))

/-! ### PWM groups (Pwm.lean) -/

theorem Canonical.eachMember {m : Fin 16} {f : State → Fin 96 → State} (h : Canonical s)
    (hf : ∀ {t n}, Canonical t → Canonical (f t n)) : Canonical (eachMember s m f) :=
  h.fold hf
theorem Canonical.pgEvent {m : Fin 16} {b : Nat} (h : Canonical s) : Canonical (pgEvent s m b) :=
  (h.setEv _ _).onIf (·.srqVia _ _ _)
theorem Canonical.countMembers {m : Fin 16} (h : Canonical s) : Canonical (countMembers s m) :=
  h.eachMember (fun h => h.onIf (·.takeCount))
theorem Canonical.settleMember {n : Fin 96} (h : Canonical s) : Canonical (settleMember s n) := by
  unfold Machine.settleMember
  split
  · exact h.onIf (·.takeCount)
  · exact h
theorem Canonical.setGroupCount {m : Fin 16} {cnt : Nat} {down : Bool} (h : Canonical s) :
    Canonical (setGroupCount s m cnt down) :=
  (h.wr _ _).updPg
theorem Canonical.copyPhases {m : Fin 16} (h : Canonical s) : Canonical (copyPhases s m) := h.updPg
theorem Canonical.memberXfer {xfer : Bool} {n : Fin 96} (h : Canonical s) : Canonical (memberXfer s xfer n) :=
  .ite (h.onIf (·.updCh)) (((h.upd _ _).updCh.chEvent.onIf (·.upd _ _)).onIf (·.updCh.copyShadows))
theorem Canonical.copyPeriod {m : Fin 16} (h : Canonical s) : Canonical (copyPeriod s m) := (h.wr _ _).setBt _ _ _
theorem Canonical.pgTransferPoint {m : Fin 16} (h : Canonical s) : Canonical (pgTransferPoint s m) :=
  (((h.upd _ _).updPg.onIf (·.pgEvent.raise _ _)).onIf (·.copyPhases)).ifElse (·.upd _ _) (fun h => h.onIf (·.copyPeriod))
    |>.eachMember (·.memberXfer)
theorem Canonical.padMembers {m : Fin 16} {cause : Nat} (h : Canonical s) : Canonical (padMembers s m cause) :=
  h.eachMember (·.updPad)
theorem Canonical.tripFire {m : Fin 16} (h : Canonical s) : Canonical (tripFire s m) :=
  ((h.pgEvent.onElse (·.raise _ _)).onElse (fun h => (h.satFl _ _ _).upd _ _)).updPg.onIf (·.updPg.pgEvent.raiseLevel _ _)
    |>.padMembers
theorem Canonical.releaseMembers {m : Fin 16} (h : Canonical s) : Canonical (releaseMembers s m) :=
  h.updPg.eachMember (fun h => .ite (h.updCh.dropDue _).afterTicks.updPad h.updPad)
theorem Canonical.tripBoundary {m : Fin 16} (h : Canonical s) : Canonical (tripBoundary s m) :=
  h.updPg.ifElse (fun h => h.onIf (·.tripFire)) (fun h => h.onIf (·.releaseMembers))
theorem execTripAssert_keeps {m : Fin 16} : Keeps s (execTripAssert m s) := .next (·.updPg.tripFire)
theorem execTripInputInactive_keeps {m : Fin 16} : Keeps s (execTripInputInactive m s) := .next (·.updPg)
theorem Canonical.actTripclr {m : Fin 16} (h : Canonical s) : Canonical (actTripclr s m) :=
  h.onIf (fun h => (h.updPg.endLevel _).onIf (·.releaseMembers))
theorem Canonical.actForce {m : Fin 16} (h : Canonical s) : Canonical (actForce s m) :=
  h.onIf (fun h => h.updPg.onElse (·.tripFire))
theorem Canonical.startFollowers {m : Fin 16} (h : Canonical s) : Canonical (startFollowers s m) :=
  h.fold (fun h => h.onIf (·.after _ _))
theorem Canonical.pgApply {m : Fin 16} {a : Advance} (h : Canonical s) : Canonical (pgApply s m a) :=
  ((h.setGroupCount.onIf (·.pgEvent)).onIf (·.pgEvent)).onIf (fun h => h.pgEvent.eachMember (·.chEvent))
    |>.onIf (·.pgTransferPoint)
    |>.countMembers.onIf (·.updPg.tripBoundary.startFollowers)
    |>.onIf (fun h => h.eachMember (fun h => h.onIf (·.cascadeFrom)))
theorem execPgBoundary_keeps {m : Fin 16} : Keeps s (execPgBoundary m s) := by
  unfold execPgBoundary
  split
  · exact .ite (.next (·.pgApply)) (.next id)
  · exact .next id
theorem execPgPeak_keeps {m : Fin 16} : Keeps s (execPgPeak m s) := by
  unfold execPgPeak
  split
  · exact .ite (.next (·.pgApply)) (.next id)
  · exact .next id
theorem Canonical.pgStartCmd {m : Fin 16} (h : Canonical s) : Canonical (pgStartCmd s m) := h.onIf (·.updPg)
theorem Canonical.pgStopCmd {m : Fin 16} (h : Canonical s) : Canonical (pgStopCmd s m) := h.updPg.failCommits
theorem execPgStart_keeps {x : Agent} {m : Fin 16} : Keeps s (execPgStart x m s) := .next (·.pgStartCmd)
theorem execPgStop_keeps {x : Agent} {m : Fin 16} : Keeps s (execPgStop x m s) := .next (·.pgStopCmd)
theorem execPgDisable_keeps {x : Agent} {m : Fin 16} : Keeps s (execPgDisable x m s) := .next fun h => (h.setBt _ _ _).pgStopCmd
theorem execPgGroupStart_keeps {m : Fin 16} : Keeps s (execPgGroupStart m s) :=
  .ite (.next (·.updPg.pgEvent.pgTransferPoint.setGroupCount.countMembers)) (.next id)
theorem execChannelRelease_keeps {n : Fin 96} : Keeps s (execChannelRelease n s) := by
  unfold execChannelRelease
  extract_lets s1 s2
  have h1 : Canonical s → Canonical s1 := (·.updCh)
  have h2 : Canonical s → Canonical s2 := by
    intro h
    unfold s2
    split
    · exact (h1 h).onIf (fun h => (h.wr _ _).updCh)
    · exact h1 h
  exact .next fun h => (h2 h).updPad
theorem Canonical.pgEpochWrite {m : Fin 16} (h : Canonical s) : Canonical (pgEpochWrite s m) := by
  unfold Machine.pgEpochWrite
  split
  · exact h.upd _ _
  · exact h.upd _ _
  · exact h.upd _ _
theorem Canonical.writePgPeriod {m : Fin 16} {v : Word} (h : Canonical s) : Canonical (writePgPeriod s m v) :=
  ((h.wr _ _).updPg.onIf (·.wr _ _)).pgEpochWrite
theorem Canonical.writePgPhase {m : Fin 16} {k : Fin 12} {v : Word} (h : Canonical s) : Canonical (writePgPhase s m k v) :=
  ((h.wr _ _).onIf (·.updPg)).pgEpochWrite
theorem Canonical.pgLoadCmd {m : Fin 16} (h : Canonical s) : Canonical (pgLoadCmd s m) :=
  h.onIf (fun h => (h.updPg.upd _ _).eachMember (·.upd _ _))
theorem execPgLoad_keeps {x : Agent} {m : Fin 16} : Keeps s (execPgLoad x m s) := .next (·.pgLoadCmd)
theorem Canonical.staggerCmd {m : Fin 16} (h : Canonical s) : Canonical (staggerCmd s m) := h.fold (·.writePgPhase)
theorem execStagger_keeps {x : Agent} {m : Fin 16} : Keeps s (execStagger x m s) := .next (·.staggerCmd)
theorem Canonical.tripclrCmd {m : Fin 16} (h : Canonical s) : Canonical (tripclrCmd s m) := h.onElse (·.updPg)
theorem execTripclr_keeps {x : Agent} {m : Fin 16} : Keeps s (execTripclr x m s) := .next (·.tripclrCmd)
theorem execForce_keeps {x : Agent} {m : Fin 16} : Keeps s (execForce x m s) := .next (·.updPg)
theorem execPgCntWrite_keeps {x : Agent} {m : Fin 16} {v : Word} : Keeps s (execPgCntWrite x m v s) := .next (·.updPg)
theorem Canonical.writePgCtrl {m : Fin 16} {v : Word} (h : Canonical s) : Canonical (writePgCtrl s m v) :=
  (h.wr _ _).onElse (·.pgStopCmd)
theorem Canonical.writePgCmd {m : Fin 16} {v : Word} (h : Canonical s) : Canonical (writePgCmd s m v) :=
  (((Canonical.ite h.pgStartCmd (h.onIf (·.pgStopCmd))).onIf (·.pgLoadCmd)).onIf (·.staggerCmd)).onIf (·.tripclrCmd)
    |>.onIf (·.updPg)
theorem Canonical.writePgTrip {m : Fin 16} {v : Word} (h : Canonical s) : Canonical (writePgTrip s m v) := (h.wr _ _).laterTicks

/-! ### Records on their way to the rings (Landing.lean) -/

theorem Canonical.updRing {r : Fin 64} {f : Ring → Ring} (h : Canonical s) : Canonical (s.updRing r f) := h.same (by rfl)
theorem Canonical.updLand {f : Landing → Landing} (h : Canonical s) : Canonical (s.updLand f) := h.same (by rfl)
theorem Canonical.countLoss {r : Fin 64} {k : Nat} (h : Canonical s) : Canonical (countLoss s r k) := h.note _ _
theorem Canonical.tallyGroup {g : RecGroup} {r : Fin 64} {cause : Nat} (h : Canonical s) :
    Canonical (tallyGroup s g r cause) := by
  unfold Machine.tallyGroup
  split
  · exact h.updLand.countLoss
  · exact h.updLand.countLoss
theorem Canonical.appendPool {g : RecGroup} (h : Canonical s) : Canonical (appendPool s g) :=
  (h.onIf (·.updRing)).updLand.onIf (·.note _ _)
theorem Canonical.writeTally {t' : Tally} (h : Canonical s) : Canonical (writeTally s t') := h.updLand.appendPool
theorem Canonical.enterDiscarding {r : Fin 64} (h : Canonical s) : Canonical (enterDiscarding s r) :=
  h.onElse (fun h => ((h.setBt _ _ _).setEv _ _).onElse (·.raise _ _))
theorem Canonical.dropUntilFits {r : Fin 64} {need cause : Nat} :
    ∀ {fuel : Nat} {s : State}, Canonical s → dropUntilFits r need cause fuel s = some t → Canonical t
  | 0, _, _, e => by cases e
  | fuel + 1, s, h, e => by
    unfold Machine.dropUntilFits at e
    split at e
    · cases e
      exact h
    · split at e
      · cases e
      · exact Canonical.dropUntilFits h.updLand.tallyGroup e
theorem Canonical.displaceFor {r : Fin 64} :
    ∀ {fuel : Nat} {s : State}, Canonical s → displaceFor r fuel s = some t → Canonical t
  | 0, _, _, e => by cases e
  | fuel + 1, s, h, e => by
    unfold Machine.displaceFor at e
    split at e
    · cases e
      exact h
    · split at e
      · cases e
      · exact Canonical.displaceFor h.updLand.tallyGroup e
theorem Canonical.reserveAnchor {g : RecGroup} (h : Canonical s) : Canonical (reserveAnchor s g) := h.updLand
theorem Canonical.anchorLetIn {g : RecGroup} (h : Canonical s) : Canonical (enterAnchor.letIn g s) := by
  unfold enterAnchor.letIn
  split
  · rename_i e
    exact (h.displaceFor e).appendPool
  · exact h.reserveAnchor
theorem Canonical.enterAnchor {g : RecGroup} (h : Canonical s) : Canonical (enterAnchor s g) := by
  unfold Machine.enterAnchor
  split
  · exact .ite h.updLand h.anchorLetIn
  · exact h.anchorLetIn

theorem Canonical.noRingFor {g : RecGroup} {r : Fin 64} (h : Canonical s) : Canonical (noRingFor s g r) :=
  ((h.note _ _).wr _ _).onIf (·.raise _ _)
theorem Canonical.refuseGroup {g : RecGroup} {r : Fin 64} {cause : Nat} (h : Canonical s) :
    Canonical (refuseGroup s g r cause) :=
  h.enterDiscarding.tallyGroup
theorem Canonical.letIn {g : RecGroup} (h : Canonical s) : Canonical (letIn s g) := by
  unfold Machine.letIn
  split
  · exact .ite h.appendPool (.ite h.writeTally.appendPool h.refuseGroup)
  · exact h.appendPool
theorem Canonical.enterOrdinary {g : RecGroup} (h : Canonical s) : Canonical (enterOrdinary s g) := by
  unfold Machine.enterOrdinary
  extract_lets r n waits room overQuota old quotaCause cause s1
  have h1 : Canonical s1 := h.enterDiscarding
  refine .ite ?_ h.letIn
  refine .ite ?_ h1.tallyGroup
  split
  · rename_i e
    exact (h1.dropUntilFits e).letIn
  · exact h1.tallyGroup
theorem Canonical.enterPool {g : RecGroup} (h : Canonical s) : Canonical (enterPool s g) :=
  .ite h.noRingFor (.ite h.enterAnchor (.ite h.appendPool h.enterOrdinary))
theorem Canonical.openTick (h : Canonical s) : Canonical (openTick s) := h.onElse (·.updLand)
theorem execRecordEntry_keeps {g : RecGroup} : Keeps s (execRecordEntry g s) :=
  .ite (.next (·.openTick.reserveAnchor)) <|
  .ite (.next (·.openTick.enterPool)) <|
  .ite (.next (·.openTick.updLand)) <|
  .ite (.next (·.openTick.updLand)) (.ite (.next (·.openTick.tallyGroup.raise _ _)) (.next (·.openTick.noRingFor)))
theorem execEntryQueueEntry_keeps : Keeps s (execEntryQueueEntry s) := by
  unfold execEntryQueueEntry
  extract_lets s1
  have h1 : Canonical s → Canonical s1 := (·.openTick)
  split
  · exact .next fun h => (h1 h).updLand.enterPool
  · exact .next fun h => (h1 h).updLand.enterPool
  · exact .next h1
theorem execLeaveDiscarding_keeps {r : Fin 64} : Keeps s (execLeaveDiscarding r s) :=
  .ite (.next (fun h => (h.openTick.setBt _ _ _).fold (·.writeTally))) (.next id)
theorem Canonical.discardRing {r : Fin 64} (h : Canonical s) : Canonical (discardRing s r) := h.countLoss.updLand.setBt _ _ _
theorem Canonical.anchorAll {reason : Nat} (h : Canonical s) : Canonical (anchorAll s reason) :=
  h.fold (fun h => h.onIf (·.offer _ _))
theorem execTbWrapPassage_keeps : Keeps s (execTbWrapPassage s) := .next (·.anchorAll)
theorem Canonical.galMark {a : Agent} {v : Word} (h : Canonical s) : Canonical (galMark s a v) := by
  unfold Machine.galMark
  extract_lets go
  split
  · exact h.offer _ _
  · exact h.offer _ _
  · exact h.offer _ _
  · exact h
theorem execGalMarkWrite_keeps {a : Agent} {v : Word} : Keeps s (execGalMarkWrite a v s) := .next (·.galMark)

/-! ### Ring output (RingOut.lean) -/

theorem Canonical.updPcie {f : Pcie → Pcie} (h : Canonical s) : Canonical (s.updPcie f) := h.same (by rfl)
theorem Canonical.setRingState {r : Fin 64} {v : Nat} (h : Canonical s) : Canonical (setRingState s r v) := h.setFl _ _ _ _
theorem Canonical.settleRing {r : Fin 64} (h : Canonical s) : Canonical (settleRing s r) := h.onIf (·.setRingState)
theorem Canonical.hostWrite {addr : Nat} {bytes : List Byte} {ro : Bool} (h : Canonical s) :
    Canonical (hostWrite s addr bytes ro) :=
  h.same (by rfl)
theorem Canonical.memWrite {o : Nat} {bytes : List Byte} (h : Canonical s) : Canonical (memWrite s o bytes) :=
  h.fold (·.setByte _ _)
theorem Canonical.ownerWrite {r : Fin 64} {addr : Nat} {bytes : List Byte} {ro : Bool} (h : Canonical s) :
    Canonical (ownerWrite s r addr bytes ro) :=
  .ite h.hostWrite h.memWrite
theorem Canonical.issueMsi {vec : Nat} (h : Canonical s) : Canonical (issueMsi s vec) := .ite (h.same (by rfl)) h.updPcie
theorem Canonical.sendMsi {vec : Nat} (h : Canonical s) : Canonical (sendMsi s vec) :=
  .ite (.ite h.updPcie h.issueMsi) (h.onIf (·.issueMsi))
theorem Canonical.irqSent {r : Fin 64} (h : Canonical s) : Canonical (irqSent s r) :=
  (h.setEv _ _).ifElse (·.sendMsi) (·.setEv _ _)
theorem Canonical.ringIrq {r : Fin 64} (h : Canonical s) : Canonical (ringIrq s r) :=
  ((h.updRing.dropDue _).setBt _ _ _).later' _ _
theorem Canonical.countEntry {r : Fin 64} {irq : Bool} (h : Canonical s) : Canonical (countEntry s r irq) :=
  h.onElse (fun h => h.updRing.onElse (fun h => .ite h.ringIrq (h.onIf (·.afterTicks))))
theorem Canonical.releaseHold {r : Fin 64} (h : Canonical s) : Canonical (releaseHold s r) :=
  h.onElse (fun h => (h.setBt _ _ _).ifElse (·.ringIrq) (·.updRing.dropDue _))
theorem execIrqTimerExpiry_keeps {r : Fin 64} : Keeps s (execIrqTimerExpiry r s) := .next fun h => h.onIf (·.ringIrq)
theorem execRearm_keeps {x : Agent} {r : Fin 64} : Keeps s (execRearm x r s) := .next (·.releaseHold)
theorem Canonical.writeback {r : Fin 64} (h : Canonical s) : Canonical (writeback s r) :=
  h.onElse (fun h => .ite h.updRing h.updRing.ownerWrite)
theorem Canonical.publish {r : Fin 64} {irq : Bool} (h : Canonical s) : Canonical (publish s r irq) :=
  ((h.upd _ _).upd _ _).onElse (·.settleRing.writeback.countEntry)
theorem Canonical.galMoves {g : Fin 16} {n : Nat} (h : Canonical s) : Canonical (galMoves s g n) := by
  unfold Machine.galMoves
  extract_lets s1 src
  have h1 : Canonical s1 := h.note _ _
  exact h1.same (by rfl)
theorem Canonical.setWork {g : Fin 16} {w : Option (Fin 64 × Work)} (h : Canonical s) : Canonical (setWork s g w) :=
  h.same (by rfl)
theorem Canonical.putEntry {r : Fin 64} {e : Entry} (h : Canonical s) : Canonical (putEntry s r e) :=
  h.updRing.ownerWrite.setWork.galMoves
theorem Canonical.issueEntry {r : Fin 64} (h : Canonical s) : Canonical (issueEntry s r) := by
  unfold Machine.issueEntry
  refine .ite h ?_
  split
  · exact h.updRing.putEntry
  · split
    · exact h.updRing.putEntry
    · exact h
theorem execEntryPublish_keeps {r : Fin 64} : Keeps s (execEntryPublish r s) := by
  unfold execEntryPublish
  extract_lets s1 g s2
  have h1 : Canonical s → Canonical s1 := fun h => h.onIf (·.issueEntry)
  have h2 : Canonical s → Canonical s2 := fun h => (h1 h).onIf (·.setWork)
  split
  · exact .next fun h => (h2 h).updRing.publish
  · exact .next h1
theorem Canonical.evtPost {r : Fin 64} {kind : Nat} {time : Word} {payload : List Word} (h : Canonical s) :
    Canonical (evtPost s r kind time payload) := by
  unfold Machine.evtPost
  extract_lets x full s1
  have h1 : Canonical s1 := h.note _ _
  refine .ite ?_ h.updRing
  split
  · exact h1.updRing.raise _ _
  · exact h1.updRing
theorem Canonical.ringEvent {r : Fin 64} (h : Canonical s) : Canonical (ringEvent s r) := h.onIf (·.evtPost)
theorem Canonical.discardEntries {r : Fin 64} (h : Canonical s) : Canonical (discardEntries s r) :=
  (h.onIf (·.note _ _)).updRing
theorem execBlockWrite_keeps {r : Fin 64} : Keeps s (execBlockWrite r s) := by
  unfold execBlockWrite
  refine .ite ?_ (.next id)
  split
  · exact .next (·.updLand.updRing.setWork)
theorem Canonical.blockLeaves {r : Fin 64} {blk : List (BitVec 64)} (h : Canonical s) : Canonical (blockLeaves s r blk) :=
  h.ownerWrite
theorem Canonical.freeTaken {r : Fin 64} (h : Canonical s) : Canonical (freeTaken s r) := h.updLand
theorem execBlockPublish_keeps {r : Fin 64} : Keeps s (execBlockPublish r s) := by
  unfold execBlockPublish
  split
  · exact .next id
  · exact .next fun h => (h.blockLeaves.updRing.freeTaken.onIf (·.setWork)).publish
theorem execFlushTimerExpiry_keeps {r : Fin 64} : Keeps s (execFlushTimerExpiry r s) := .next fun h => h.onIf (·.updRing)

/-! ### The banister (Banister.lean) -/

theorem Canonical.updFlt {f : Flt → Flt} (h : Canonical s) : Canonical (s.updFlt f) := h.same (by rfl)
theorem Canonical.wrWords {o : Nat} {ws : List Word} (h : Canonical s) : Canonical (wrWords s o ws) := h.fold (·.wr _ _)
theorem Canonical.volatileLog {k : Nat} (h : Canonical s) : Canonical (volatileLog s k) :=
  (((h.onIf (fun h => (h.satFl _ _ _).onIf (·.setBt _ _ _))).wrWords.setBt _ _ _).setFl _ _ _ _).setFl _ _ _ _
theorem Canonical.persistentLog {k : Nat} {thenReset : Bool} (h : Canonical s) : Canonical (persistentLog s k thenReset) :=
  .ite h.updFlt.afterTicks ((h.satFl _ _ _).onIf (·.after _ _))
theorem Canonical.faultEvtNow {r : Fin 64} {time : Word} {payload : List Word} (h : Canonical s) :
    Canonical (faultEvtNow s r time payload) :=
  .ite h.evtPost (h.satFl _ _ _)
theorem Canonical.faultEvt {k ring : Nat} (h : Canonical s) : Canonical (faultEvt s k ring) := h.later' _ _
theorem Canonical.faultMessage (h : Canonical s) : Canonical (faultMessage s) := .ite (h.later' _ _) h.sendMsi
theorem Canonical.logRecord {k : Nat} {reset : Bool} (h : Canonical s) : Canonical (logRecord s k reset) :=
  (((h.volatileLog.onElse (fun h => h.onIf (·.persistentLog))).onIf (·.faultEvt)).onIf (·.faultEvt)).onIf (·.offer _ _)
theorem Canonical.padSafe {j : Fin 8} {cause : Nat} (h : Canonical s) : Canonical (padSafe s j cause) :=
  h.fold (fun h => h.onIf (·.updPad))
theorem Canonical.forceSafe {j : Fin 8} (h : Canonical s) : Canonical (forceSafe s j) := (h.setBt _ _ _).padSafe
theorem Canonical.releaseSafe {j : Fin 8} (h : Canonical s) : Canonical (releaseSafe s j) :=
  (h.setBt _ _ _).fold (fun h => h.onElse (fun h => .ite (h.updCh.dropDue _).afterTicks.updPad h.updPad))
theorem Canonical.applyReact {k react : Nat} (h : Canonical s) : Canonical (applyReact s k react) :=
  ((h.onIf (·.logRecord)).onIf (fun h => (h.setEv _ _).later' _ _)).onIf (·.setEv _ _)
    |>.onIf (fun h => (h.updRec _ _).forceSafe)
    |>.onIf (fun h => h.fold (·.after _ _))
    |>.onIf (·.persistentLog)
    |>.later' _ _
theorem Canonical.reactRest {k : Nat} (h : Canonical s) : Canonical (reactRest s k) :=
  h.onIf (fun h => (h.updRec _ _).applyReact)
theorem Canonical.makeRecord {k : Nat} {rs : List Raise} {more : Nat} (h : Canonical s) : Canonical (makeRecord s k rs more) :=
  (((((((h.upd _ _).setFl _ _ _ _).setBt _ _ _).setBt _ _ _).setBt _ _ _).updRec _ _).setFltPend _ _).updFlt
theorem Canonical.firstFault {x : State × Bool} {k : Nat} (h : Canonical x.1) : Canonical (firstFault x k).1 := by
  exact .iteFst h (.iteFst (h.setBt _ _ _).wrWords.updFlt (.iteFst (h.setBt _ _ _) h))
theorem Canonical.foldFirstFault {ks : List Nat} {x : State × Bool} (h : Canonical x.1) :
    Canonical (ks.foldl Machine.firstFault x).1 := by
  induction ks generalizing x with
  | nil => exact h
  | cons k ks ih => exact ih h.firstFault
theorem execRecordCreate_keeps : Keeps s (execRecordCreate s) := by
  unfold execRecordCreate
  split
  · exact .next id
  · extract_lets mine ks later merged s1 s2 s3 s4
    refine .next fun h => ?_
    have h3 : Canonical s3 := (h.updFlt.fold (·.makeRecord)).fold (·.mergeRaise _)
    have h4 : Canonical s4 := Canonical.foldFirstFault (x := (s3, false)) h3
    exact h4.fold (·.applyReact)
theorem Canonical.clearPend {i : Fin 8} {v : Word} (h : Canonical s) : Canonical (clearPend s i v) :=
  (h.fold (fun h => h.onIf (fun h => ((h.setFltPend _ _).updRec _ _).onIf (·.offer _ _)))).later' _ _
theorem Canonical.ffclrCmd (h : Canonical s) : Canonical (ffclrCmd s) := (h.setBt _ _ _).wrWords.wrWords
theorem Canonical.logclrCmd (h : Canonical s) : Canonical (logclrCmd s) :=
  (h.wrWords.upd _ _).fold (fun h => h.onIf (·.setBt _ _ _))
theorem Canonical.pendclrCmd (h : Canonical s) : Canonical (pendclrCmd s) := h.fold (·.clearPend)
theorem Canonical.injectCmd {v : Word} (h : Canonical s) : Canonical (injectCmd s v) := h.onIf (·.later' _ _)
theorem Canonical.injectRaise {k : Fin 256} {rmask : Nat} (h : Canonical s) : Canonical (injectRaise s k rmask) := h.raiseWith _
theorem Canonical.safeclrCmd {v : Word} (h : Canonical s) : Canonical (safeclrCmd s v) :=
  h.fold (fun h => h.onIf (·.later' _ _))
theorem Canonical.writeFltCmd {v : Word} (h : Canonical s) : Canonical (writeFltCmd s v) :=
  ((h.onIf (·.ffclrCmd)).onIf (·.logclrCmd)).onIf (·.pendclrCmd)
theorem Canonical.writeSafeMask {o : Nat} {v : Word} (h : Canonical s) : Canonical (writeSafeMask s o v) :=
  (h.wr _ _).onIf (fun h => h.fold (·.updPad))
theorem execPendClear_keeps {x : Agent} {i : Fin 8} {v : Word} : Keeps s (execPendClear x i v s) := .next (·.clearPend)
theorem execFfclr_keeps : Keeps s (execFfclr s) := .next (·.ffclrCmd)
theorem execLogclr_keeps : Keeps s (execLogclr s) := .next (·.logclrCmd)
theorem execPendclr_keeps : Keeps s (execPendclr s) := .next (·.pendclrCmd)
theorem execInject_keeps {x : Agent} {v : Word} : Keeps s (execInject x v s) := .next (·.injectCmd)
theorem execSafeclr_keeps {x : Agent} {v : Word} : Keeps s (execSafeclr x v s) := .next (·.safeclrCmd)

/-! ### The Vestibule (Vestibule.lean) -/

theorem Canonical.updVest {f : Vest → Vest} (h : Canonical s) : Canonical (s.updVest f) := h.same (by rfl)
theorem Canonical.chestRefused (h : Canonical s) : Canonical (chestRefused s) :=
  (h.same (by rfl)).ifElse (fun h => ((h.setFl _ _ _ _).same (by rfl)).setFl _ _ _ _) (fun h => (h.setFl _ _ _ _).setFl _ _ _ _)
theorem Canonical.refuseAct {k : Heavy} (h : Canonical s) : Canonical (refuseAct s k) := by
  unfold Machine.refuseAct
  split
  · exact (h.setBt _ _ _).same (by rfl)
  · exact h.chestRefused
  · exact (h.setFl _ _ _ _).setFl _ _ _ _
  · exact (h.setFl _ _ _ _).setFl _ _ _ _
  · exact h
  · exact h
theorem Canonical.refuse {k : Heavy} (h : Canonical s) : Canonical (refuse s k) :=
  (((h.setEv _ _).satFl _ _ _).raise _ _).refuseAct
theorem Canonical.grantAct {k : Heavy} (h : Canonical s) : Canonical (grantAct s k) := by
  unfold Machine.grantAct
  split
  · split
    · exact h
    · extract_lets late
      exact .ite ((h.same (by rfl)).setEv _ _) (h.same (by rfl))
  · exact (h.setBt _ _ _).same (by rfl)
  · exact (h.setFl _ _ _ _).same (by rfl)
  · exact h.setFl _ _ _ _
  · exact h
  · exact h
theorem Canonical.grant {k : Heavy} {u : Nat} (h : Canonical s) : Canonical (grant s k u) := (h.updVest.satFl _ _ _).grantAct
theorem Canonical.request {k : Heavy} {u : Nat} (h : Canonical s) : Canonical (request s k u) := by
  unfold Machine.request
  split
  · exact .ite h.grant (h.updVest.setEv _ _)
  · exact .ite h.refuse (.ite h.grant (.ite h.refuse h.updVest))
theorem Canonical.withdrawReq {p : Heavy → Bool} (h : Canonical s) : Canonical (withdrawReq s p) := h.updVest
theorem Canonical.endGrant {p : Heavy → Bool} (h : Canonical s) : Canonical (endGrant s p) := h.updVest
theorem Canonical.expireGrants (h : Canonical s) : Canonical (expireGrants s) := h.updVest
theorem Canonical.startRefusing (h : Canonical s) : Canonical (startRefusing s) := h.onIf (fun h => h.updVest.fold (·.refuse))
theorem Canonical.serveQueue : ∀ {n : Nat} {s : State}, Canonical s → Canonical (serveQueue n s)
  | 0, _, h => h
  | n + 1, s, h => by
    unfold Machine.serveQueue
    split
    · exact h.onIf fun h => h.updVest.grant.serveQueue
    · exact h
theorem Canonical.serveBursts (h : Canonical s) : Canonical (serveBursts s) :=
  h.onElse (fun h => h.fold (fun h => h.onIf (·.updVest.grant)))
theorem Canonical.endBurst {g : Fin 16} (h : Canonical s) : Canonical (endBurst s g) := h.endGrant.updVest

/-! ### The Chest (Chest.lean) -/

theorem Canonical.updChest {f : ChestCtl → ChestCtl} (h : Canonical s) : Canonical (s.updChest f) := h.same (by rfl)
theorem Canonical.countWrite {addr : Nat} (h : Canonical s) : Canonical (countWrite s addr) := h.updChest.setFl _ _ _ _
theorem Canonical.wearLevel (h : Canonical s) : Canonical (wearLevel s) := .ite (h.raiseLevel _ _) (h.endLevel _)
theorem Canonical.blockWrite {b : Nat} (h : Canonical s) : Canonical (blockWrite s b) := h.updChest.onIf (·.after _ _)
theorem Canonical.programRow {addr words : Nat} (h : Canonical s) : Canonical (programRow s addr words) :=
  ((h.fold (·.countWrite)).blockWrite.onElse (·.blockWrite)).wearLevel
theorem execWearLevelMove_keeps {b : Nat} : Keeps s (execWearLevelMove b s) := by
  unfold execWearLevelMove
  refine .ite (.next (·.afterTicks)) ?_
  refine .ite (.next id) ?_
  split
  · exact .next id
  · exact .next fun h => (h.updChest.fold (·.countWrite)).updVest.wearLevel.satFl _ _ _
theorem Canonical.chestResult {r : Nat} (h : Canonical s) : Canonical (chestResult s r) := h.setFl _ _ _ _
theorem Canonical.beginBurst {addr : Nat} {ws : List Word} {patch : Bool} (h : Canonical s) :
    Canonical (beginBurst s addr ws patch) :=
  ((h.updChest.setBt _ _ _).setBt _ _ _).request
theorem Canonical.chestReadCmd {cnt : Nat} (h : Canonical s) : Canonical (chestReadCmd s cnt) :=
  .ite h.chestResult (.ite h.chestResult (h.updChest.chestResult.setBt _ _ _))
theorem Canonical.chestWriteCmd {cnt : Nat} (h : Canonical s) : Canonical (chestWriteCmd s cnt) := by
  unfold Machine.chestWriteCmd
  extract_lets addr
  refine .ite h.chestResult ?_
  refine .ite h.chestResult ?_
  split
  · exact h.chestResult
  · exact .ite h.chestResult h.chestResult.beginBurst
theorem Canonical.writeChestCmd {v : Word} (h : Canonical s) : Canonical (writeChestCmd s v) := by
  unfold Machine.writeChestCmd
  split
  · exact h.chestResult
  · exact h.chestReadCmd
  · exact h.chestWriteCmd
  · exact h
theorem execChestRead_keeps {x : Agent} {cnt : BitVec 7} : Keeps s (execChestRead x cnt s) := .next (·.writeChestCmd)
theorem execChestWrite_keeps {x : Agent} {cnt : BitVec 7} : Keeps s (execChestWrite x cnt s) := .next (·.writeChestCmd)
theorem execChestReadDone_keeps {ok : Bool} : Keeps s (execChestReadDone ok s) := by
  unfold execChestReadDone
  split
  · exact .next fun h => (h.fold (fun h => (h.setMem _ _ _).setMem _ _ _)).updChest.chestResult.setBt _ _ _
  · exact .next id
theorem Canonical.endChestBurst {patch : Bool} {res : Nat} (h : Canonical s) : Canonical (endChestBurst s patch res) :=
  (h.updChest.setFl _ _ _ _).endGrant.ifElse (fun h => (h.setFl _ _ _ _).same (by rfl)) (·.chestResult)
theorem Canonical.raiseTransient {k : Nat} {d : Word} (h : Canonical s) : Canonical (s.raiseTransient k d) := h.raiseWith _
theorem execChestRowDone_keeps {ok : Bool} : Keeps s (execChestRowDone ok s) := by
  unfold execChestRowDone
  split
  · refine .ite (.next id) ?_
    extract_lets row s1 s2 s3 rest b s4 s5
    have h1 : Canonical s → Canonical s1 := (·.programRow)
    have h3 : Canonical s → Canonical s3 := fun h => ((h1 h).onElse (·.raiseTransient)).fold (·.setChestWord _ _)
    have h5 : Canonical s → Canonical s5 := fun h => ((h1 h).raise _ _).updChest
    refine .ite (.ite (.next fun h => (h3 h).endChestBurst) ?_) ?_
    · exact .ite (.next fun h => (h3 h).endChestBurst) (.next fun h => (h3 h).updChest)
    · exact .ite (.next fun h => (h1 h).updChest) (.next fun h => ((h5 h).after _ _).endChestBurst)
  · exact .next id
theorem Canonical.plogWrite (h : Canonical s) : Canonical (plogWrite s) := by
  unfold Machine.plogWrite
  split
  · exact h
  · exact ((h.updFlt.fold (·.setChestWord _ _)).programRow.setFl _ _ _ _).onIf (fun h => (h.satFl _ _ _).raise _ _)
        |>.onIf (·.after _ _)
theorem execPersistentLogWrite_keeps : Keeps s (execPersistentLogWrite s) :=
  .next fun h => .ite h.plogWrite (.ite (h.after _ _) h.afterTicks)
theorem Canonical.commitLife (h : Canonical s) : Canonical (commitLife s) := by
  unfold Machine.commitLife
  extract_lets s1
  have h1 : Canonical s1 := h.fold (·.setChestWord _ _)
  clear_value s1
  exact h1.programRow.programRow.updVest
theorem execLifetimeCommit_keeps : Keeps s (execLifetimeCommit s) := .next fun h => .ite h.afterTicks h.commitLife
theorem Canonical.lifeSecond (h : Canonical s) : Canonical (lifeSecond s) := (h.satFl _ _ _).onIf (·.after _ _)

/-! ### Newels (Newel.lean) -/

theorem Canonical.takeLimits {n : Fin 4} (h : Canonical s) : Canonical (takeLimits s n) := h.updNwl
theorem Canonical.nwlEvent {n : Fin 4} {b : Nat} (h : Canonical s) : Canonical (nwlEvent s n b) :=
  ((h.setEv _ _).onIf (·.raise _ _)).onIf (·.srqVia _ _ _)
theorem Canonical.toothRecord {n : Fin 4} {t' : Nat} {cls : Cls} (h : Canonical s) : Canonical (toothRecord s n t' cls) :=
  h.onIf (·.offer _ _)
theorem Canonical.cancelNext {n : Fin 4} (h : Canonical s) : Canonical (cancelNext s n) :=
  (h.dropDue _).updNwl.onElse (·.after _ _)
theorem Canonical.syncEntered {n : Fin 4} (h : Canonical s) : Canonical (syncEntered s n) :=
  (h.updNwl.fold (·.setFl _ _ _ _)).nwlEvent
theorem Canonical.goto {n : Fin 4} {st : Sync} (h : Canonical s) : Canonical (goto s n st) :=
  ((h.onIf (·.cancelNext)).onIf (·.endLevel _)).updNwl.nwlEvent.onIf (·.syncEntered)
    |>.onIf (fun h => h.nwlEvent.onIf (·.raiseLevel _ _))
    |>.onIf (·.nwlEvent.raise _ _)
theorem Canonical.predict {n : Fin 4} {d a an : Nat} (h : Canonical s) : Canonical (predict s n d a an).1 := by
  unfold Machine.predict
  extract_lets w r
  exact h.updNwl
theorem Canonical.decidePhase {n : Fin 4} {v : Bool} (h : Canonical s) : Canonical (decidePhase s n v) :=
  (h.onIf (·.updNwl)).updNwl.nwlEvent.onIf (·.goto)
theorem Canonical.syncError {n : Fin 4} {kind : Nat} (h : Canonical s) : Canonical (syncError s n kind) := by
  unfold Machine.syncError
  extract_lets s1 s2 w e s3
  have h1 : Canonical s1 := h.updNwl
  have h2 : Canonical s2 := by
    unfold s2
    split
    · exact h1.nwlEvent.raise _ _
    · exact h1
    · exact (h1.nwlEvent.raise _ _).satFl _ _ _
  have h3 : Canonical s3 := h2.updNwl
  exact .ite (h3.onIf (·.goto)) h2
theorem Canonical.stepIndex {n : Fin 4} {stp : Nat} (h : Canonical s) : Canonical (stepIndex s n stp) :=
  .ite h.updNwl (h.upd _ _).updNwl
theorem Canonical.toToothAngle {n : Fin 4} (h : Canonical s) : Canonical (toToothAngle s n) := h.updNwl
theorem Canonical.establish {n : Fin 4} {g : Nat} (h : Canonical s) : Canonical (establish s n g).1 := by
  unfold Machine.establish
  extract_lets nt s1 s2 s3
  have h1 : Canonical s1 := h.updNwl.goto
  have h2 : Canonical s2 := h1.updNwl
  have h3 : Canonical s3 := h2.toToothAngle
  split
  · extract_lets s4
    have h4 : Canonical s4 := h3.updNwl
    exact h4.predict
  · exact h3
theorem Canonical.rejectTooth {n : Fin 4} {t' : Nat} (h : Canonical s) : Canonical (rejectTooth s n t') :=
  (h.satFl _ _ _).updNwl.nwlEvent.toothRecord
theorem Canonical.acceptTooth {n : Fin 4} {t' : Nat} {cls : Cls} {d an p : Nat} {pred : Bool} (h : Canonical s) :
    Canonical (acceptTooth s n t' cls d an p pred) :=
  (h.updNwl.updNwl.nwlEvent.after _ _).toothRecord
theorem Canonical.openPass {n : Fin 4} {d a aPrev : Nat} {entry : Bool} (h : Canonical s) :
    Canonical (openPass s n d a aPrev entry) :=
  h.updNwl.onElse (·.after _ _)
theorem Canonical.gapFound {n : Fin 4} (h : Canonical s) : Canonical (gapFound s n).1 := by
  unfold Machine.gapFound
  split
  · extract_lets r
    exact h.establish
  · extract_lets s1
    have h1 : Canonical s1 := h.onElse (·.goto)
    exact h1.updNwl
theorem Canonical.seekTooth {n : Fin 4} {t' : Nat} (h : Canonical s) : Canonical (seekTooth s n t') := by
  unfold Machine.seekTooth
  extract_lets w d short push s1 s2 s3 s4 s5 s6 s7 a s8 r
  have h1 : Canonical s1 := h.updNwl
  have h2 : Canonical s2 := h1.goto
  have h3 : Canonical s3 := h2.updNwl
  have h4 : Canonical s4 := h3.stepIndex.toToothAngle
  have h5 : Canonical s5 := h.onIf (·.updNwl)
  have h6 : Canonical s6 := (h.onIf (·.updNwl)).updNwl
  have h7 : Canonical s7 := h6.stepIndex.toToothAngle
  have h8 : Canonical s8 := h7.updNwl
  refine .ite h.rejectTooth ?_
  split
  · exact .ite h4.acceptTooth h1.goto.acceptTooth
  · exact .ite h.updNwl.goto.acceptTooth (h.onIf (·.updNwl)).acceptTooth
  · refine .ite ?_ h5.acceptTooth
    split
    · rename_i e
      exact (h5.gapFound.ofFst e).acceptTooth
    · rename_i e
      exact (h5.gapFound.ofFst e).acceptTooth
  · exact h8.predict.acceptTooth
theorem Canonical.gapOutcome {n : Fin 4} {g : Option Bool} {ge : Bool} (h : Canonical s) :
    Canonical (gapOutcome s n g ge).1 := by
  unfold Machine.gapOutcome
  extract_lets w s1 s2 ok s3 s4 s5
  have h1 : Canonical s1 := h.onIf (·.updNwl)
  have h2 : Canonical s2 := h1.updNwl
  have h3 : Canonical s3 := h2.updNwl
  have h4 : Canonical s4 := h1.syncError
  have h5 : Canonical s5 := h1.syncError
  split
  · exact Canonical.iteFst (Canonical.iteFst h3.goto h2) (Canonical.iteFst h4.gapFound h4.updNwl)
  · exact Canonical.iteFst (Canonical.iteFst h5.goto h5) h1
  · exact h1
theorem Canonical.trackTooth {n : Fin 4} {t' : Nat} (h : Canonical s) : Canonical (trackTooth s n t') := by
  unfold Machine.trackTooth
  extract_lets w d cls ins stp a aPrev s1 s2
  have h1 : Canonical s1 := by
    unfold s1
    clear_value cls
    split
    · exact h.nwlEvent.satFl _ _ _
    · exact h.nwlEvent
    · exact h.nwlEvent
    · exact h
  have h2 : Canonical s2 := h1.updNwl
  refine .ite h.rejectTooth ?_
  split
  · rename_i e
    exact (h2.gapOutcome.ofFst e).acceptTooth
  · rename_i e
    exact h2.gapOutcome.ofFst e
        |>.stepIndex.toToothAngle.ifElse (·.acceptTooth) fun h =>
            (h.predict.onIf (fun h => .ite h.goto h.updNwl)).acceptTooth.onIf (·.openPass)
theorem execToothReceive_keeps {n : Fin 4} {e : EdgeInfo} : Keeps s (execToothReceive n e s) :=
  .ite (.next (·.updNwl.after _ _)) (.next id)
theorem execToothClassify_keeps {n : Fin 4} : Keeps s (execToothClassify n s) := by
  unfold execToothClassify
  extract_lets w track
  split
  · exact .next id
  · exact .ite (.next (·.updNwl)) (.next (fun h => h.updNwl.takeLimits.ifElse (·.trackTooth) (·.seekTooth)))
theorem Canonical.lifeSpeed {n : Fin 4} {rpm : Nat} (h : Canonical s) : Canonical (lifeSpeed s n rpm) :=
  (h.setFl _ _ _ _).onElse (fun h => .ite (h.satFl _ _ _).updNwl (h.onIf (·.updNwl)))
theorem Canonical.peerSend {f : PeerFrame} (h : Canonical s) : Canonical (peerSend s f) := h.same (by rfl)
theorem Canonical.toothFrames {n : Fin 4} {l : Load} (h : Canonical s) : Canonical (toothFrames s n l) :=
  h.onIf (·.peerSend.peerSend)
theorem Canonical.loadTooth {n : Fin 4} {l : Load} (h : Canonical s) : Canonical (loadTooth s n l) :=
  (((h.updNwl.wr _ _).wr _ _).wr _ _).onIf (fun h => (((h.wr _ _).wr _ _).onIf (·.nwlEvent)).onIf (·.lifeSpeed))
theorem execPredictionLoad_keeps {n : Fin 4} : Keeps s (execPredictionLoad n s) := by
  unfold execPredictionLoad
  extract_lets w s1 s2 s3
  have h1 : Canonical s → Canonical s1 := by
    intro h
    unfold s1
    split
    · exact h.loadTooth.toothFrames
    · exact h
  have h2 : Canonical s → Canonical s2 := fun h => (h1 h).onIf (·.srqVia _ _ _)
  have h3 : Canonical s → Canonical s3 := fun h => (h2 h).updNwl
  exact .ite (.next id) (.next (fun h => (h3 h).onIf (·.updNwl)))
theorem execPhaseInputEdge_keeps {n : Fin 4} {j : Fin 2} {e : EdgeInfo} : Keeps s (execPhaseInputEdge n j e s) :=
  .ite (.next id) <|
  .next fun h =>
    Canonical.ite (h.satFl _ _ _) (h.onElse (fun h => (h.onIf (·.updNwl)).onElse (fun h => h.updNwl.onIf (·.decidePhase))))
      |>.onIf (·.syncError)
theorem Canonical.peerLost {n : Fin 4} (h : Canonical s) : Canonical (peerLost s n) := h.goto.updNwl.raiseLevel _ _
theorem execStallTimeout_keeps {n : Fin 4} : Keeps s (execStallTimeout n s) := by
  unfold execStallTimeout
  refine .ite (.next id) ?_
  extract_lets s1
  have h1 : Canonical s → Canonical s1 := (·.satFl _ _ _)
  refine .ite (.next (fun h => (h1 h).peerLost)) ?_
  split
  · exact .next fun h => (h1 h).updNwl.goto.nwlEvent
  · exact .next fun h => (h1 h).updNwl.goto
  · exact .next fun h => (h1 h).goto
theorem Canonical.encError {n : Fin 4} {b : Nat} (h : Canonical s) : Canonical (encError s n b) :=
  ((h.nwlEvent.satFl _ _ _).onIf (·.raise _ _)).syncError
theorem Canonical.withdrawAll {n : Fin 4} (h : Canonical s) : Canonical (withdrawAll s n) :=
  h.fold (fun h => h.onIf (·.withdraw))
theorem Canonical.encResume {n : Fin 4} (h : Canonical s) : Canonical (encResume s n) := h.onIf (·.goto.updNwl)
theorem Canonical.encStep {n : Fin 4} {up : Bool} {t' : Nat} (h : Canonical s) : Canonical (encStep s n up t') :=
  (h.encResume.setFl _ _ _ _).updNwl.onIf (·.updNwl)
    |>.onIf fun h =>
        (h.onIf (·.lifeSpeed)).ifElse (·.updNwl.openPass.after _ _) (fun h => h.updNwl.onElse (·.withdrawAll))
theorem execEncoderEdge_keeps {n : Fin 4} {e : EdgeInfo} : Keeps s (execEncoderEdge n e s) :=
  .ite (.next id) <|
  .ite (.next (·.takeLimits.after _ _)) <|
  .ite (.next (·.takeLimits.updNwl.updNwl.encError)) <|
  .ite (.next (·.takeLimits.updNwl.updNwl)) <|
  .ite (.next (fun h => (h.takeLimits.updNwl.setFl _ _ _ _).encError)) (.next (·.takeLimits.updNwl.encStep))
theorem execZEdge_keeps {n : Fin 4} {e : EdgeInfo} : Keeps s (execZEdge n e s) := by
  unfold execZEdge
  extract_lets w t s1 o cpc z d off c a0 s2 a1 ahead cyc s3 s4 s5
  have h1 : Canonical s → Canonical s1 := (·.updNwl)
  have h2 : Canonical s → Canonical s2 := fun h => (h1 h).setFl _ _ _ _
  have h3 : Canonical s → Canonical s3 := fun h => (h2 h).updNwl
  have h4 : Canonical s → Canonical s4 := fun h => .ite (h3 h).encError (h3 h).updNwl
  have h5 : Canonical s → Canonical s5 := by
    intro h
    unfold s5
    refine .ite ?_ (h1 h).encResume
    split
    · exact (h4 h).goto
    · exact (h4 h).encResume
    · exact h4 h
  exact .ite (.next id) (.next (fun h => (h5 h).toothRecord))
theorem Canonical.applyBroadcast {n : Fin 4} {t0 : Tooth0} {t1 : Tooth1} (h : Canonical s) :
    Canonical (applyBroadcast s n t0 t1) := by
  unfold Machine.applyBroadcast
  extract_lets s1 w s2 t c aPrev d tooth a cls st track wraps moved s3 s4 s5 s6 s7 s8
  have h1 : Canonical s1 := h.endLevel _
  have h2 : Canonical s2 := h1.takeLimits
  have h3 : Canonical s3 := h2.onIf (·.upd _ _)
  have h4 : Canonical s4 := h3.onElse (·.goto)
  have h5 : Canonical s5 := h4.updNwl
  have h6 : Canonical s6 := by
    unfold s6
    clear_value cls
    split
    · exact h5.nwlEvent.satFl _ _ _
    · exact h5.nwlEvent
    · exact h5.nwlEvent
    · exact h5
  have h7 : Canonical s7 := h6.acceptTooth
  have h8 : Canonical s8 := by
    unfold s8
    split
    · exact h7.loadTooth
    · exact h7
  exact .ite h1 (h8.onIf (·.openPass))
theorem Canonical.newelStop {n : Fin 4} (h : Canonical s) : Canonical (newelStop s n) := ((h.endLevel _).dropDue _).updNwl
theorem Canonical.newelEnable {n : Fin 4} (h : Canonical s) : Canonical (newelEnable s n) :=
  (h.onIf (·.newelStop)).ifElse (·.nwlEvent.raise _ _) (fun h => (h.setBt _ _ _).updNwl.takeLimits)
theorem Canonical.newelDisable {n : Fin 4} (h : Canonical s) : Canonical (newelDisable s n) :=
  (h.setBt _ _ _).cancelNext.onIf (·.updNwl)
theorem Canonical.writeNwlCtrl {n : Fin 4} {v : Word} (h : Canonical s) : Canonical (writeNwlCtrl s n v) :=
  (h.wr _ _).ifElse (·.newelDisable) (fun h => h.onElse (·.newelEnable))
theorem Canonical.writeNwlCmd {n : Fin 4} {v : Word} (h : Canonical s) : Canonical (writeNwlCmd s n v) := h.updNwl
theorem Canonical.nwlActs {n : Fin 4} (h : Canonical s) : Canonical (nwlActs s n) :=
  (h.updNwl.onIf (·.goto)).onIf (·.peerLost)
    |>.ifElse (·.updNwl.goto.updNwl) (fun h => (h.onIf (·.decidePhase)).onIf (·.goto))
    |>.onIf (·.updNwl)
    |>.onIf (·.newelStop)
theorem execNewelEnable_keeps {x : Agent} {n : Fin 4} : Keeps s (execNewelEnable x n s) :=
  .next fun h => h.onElse (·.newelEnable)
theorem execNewelDisable_keeps {x : Agent} {n : Fin 4} : Keeps s (execNewelDisable x n s) := .next (·.newelDisable)
theorem execResync_keeps {x : Agent} {n : Fin 4} : Keeps s (execResync x n s) := .next (·.writeNwlCmd)
theorem execPhset_keeps {x : Agent} {n : Fin 4} {phval : Bool} : Keeps s (execPhset x n phval s) := .next (·.writeNwlCmd)
theorem execErrclr_keeps {x : Agent} {n : Fin 4} : Keeps s (execErrclr x n s) := .next (·.writeNwlCmd)
theorem execHold_keeps {x : Agent} {n : Fin 4} : Keeps s (execHold x n s) := .next (·.writeNwlCmd)
theorem Canonical.readToothT {a : Agent} {n : Fin 4} (h : Canonical s) : Canonical (readToothT s a n).2 := by
  unfold Machine.readToothT
  extract_lets lat
  exact (((h.setLat _ _ _).setLat _ _ _).setLat _ _ _).setLat _ _ _
theorem execToothtRead_keeps {a : Agent} {n : Fin 4} : Keeps s (execToothtRead a n s) := .next (·.readToothT.keep _ _)

/-! ### Angle events (AngleEvents.lean) -/

theorem Canonical.makeOffer {n : Fin 4} {o : SlotOffer} (h : Canonical s) : Canonical (makeOffer s n o) := by
  unfold Machine.makeOffer
  extract_lets k ch s1 s2
  have h1 : Canonical s1 := h.updNwl
  have h2 : Canonical s2 := h1.onIf (·.withdraw)
  refine .ite h ?_
  split
  · rename_i e
    exact (h2.aqOfferEntry.ofFst e).setSlotState.setInst.updNwl.onIf (·.evEvent)
  · rename_i e
    exact h2.aqOfferEntry.ofFst e
  · rename_i e
    exact (h2.aqOfferEntry.ofFst e).setSlotState.evEvent.ifElse (·.updNwl) (fun h => .ite h.updNwl h.completeSlot.countDrop)
theorem execLatePass_keeps {n : Fin 4} : Keeps s (execLatePass n s) :=
  .ite (.next id) (.next (fun h => ((h.fold (·.dropSlot)).fold (·.after _ _)).updNwl))
theorem execSlotConversion_keeps {n : Fin 4} {k : Fin 512} : Keeps s (execSlotConversion n k s) :=
  .ite (.next (·.updNwl)) (.next id)
theorem execNewelOffer_keeps {n : Fin 4} {k : Fin 512} : Keeps s (execNewelOffer n k s) := by
  unfold execNewelOffer
  extract_lets w
  split
  · exact .ite (.next (·.updNwl.makeOffer)) (.next id)
  · split
    · exact .ite (.next (·.updNwl.makeOffer)) (.next id)
    · exact .next id
theorem Canonical.freezeEntry {n : Fin 4} {k : Fin 512} (h : Canonical s) : Canonical (freezeEntry s n k) := by
  unfold Machine.freezeEntry
  split
  · exact h.updCh.setSlotState
  · exact h
theorem execCommitFreeze_keeps {n : Fin 4} {k : Fin 512} : Keeps s (execCommitFreeze n k s) :=
  .next fun h => h.onIf (·.freezeEntry)
theorem execHoldAngleReached_keeps {n : Fin 4} : Keeps s (execHoldAngleReached n s) :=
  .ite (.next id) <|
  .ite (.next (·.updNwl)) <|
  .next (fun h => ((h.updNwl.fold (fun h => h.onIf (·.updTxn))).fold (·.withdraw)).onElse (·.evEvent))
theorem execReoffer_keeps {n : Fin 4} {k : Fin 512} : Keeps s (execReoffer n k s) := by
  unfold execReoffer
  split
  · exact .next id
  · exact .ite (.next (·.updNwl)) (.ite (.next (·.updNwl.dropSlot)) (.next (·.updNwl.makeOffer)))
theorem execCancel_keeps {n : Fin 4} : Keeps s (execCancel n s) :=
  .next fun h => (h.fold (fun h => h.withdraw.onElse (·.completeSlot.countDrop))).updNwl.evEvent.failCommits.updNwl
theorem execCancelOffer_keeps {n : Fin 4} : Keeps s (execCancelOffer n s) := by
  unfold execCancelOffer
  split
  · exact .next id
  · exact .next (·.updNwl.makeOffer)
theorem Canonical.writeSlot {n : Fin 4} {k : Fin 512} {r : SlotReg} {v : Word} (h : Canonical s) :
    Canonical (writeSlot s n k r v) :=
  (h.wr _ _).onIf (fun h => (h.setFl _ _ _ _).setFl _ _ _ _)
    |>.onElse (fun h => .ite h.withdraw.updNwl.setSlotState ((h.onIf (·.setSlotState)).onIf (·.updNwl)))
theorem Canonical.slotWriteBy {a : Agent} {n : Fin 4} {k : Fin 512} {r : SlotReg} {v : Word} (h : Canonical s) :
    Canonical (slotWriteBy s a n k r v) :=
  (h.onIf (·.rsvd _ _)).writeSlot
theorem execSlotWrite_keeps {a : Agent} {n : Fin 4} {k : Fin 512} {r : SlotReg} {v : Word} :
    Keeps s (execSlotWrite a n k r v s) :=
  .next (·.slotWriteBy)
theorem Canonical.reevaluate {n : Fin 4} {k : Fin 512} (h : Canonical s) : Canonical (reevaluate s n k) :=
  h.onElse (fun h => .ite (.ite h.withdraw (.ite h.makeOffer h.dropSlot)) (.ite h.makeOffer h.withdraw))
theorem Canonical.reevaluateAll {n : Fin 4} : ∀ {ks : List (Fin 512)} {s : State},
    Canonical s → Canonical (reevaluateAll n ks s)
  | [], _, h => h.updNwl
  | _ :: _, _, h => h.reevaluate.ifElse (·.updNwl) (·.reevaluateAll)
theorem execReEvaluation_keeps {n : Fin 4} : Keeps s (execReEvaluation n s) := .ite (.next (·.reevaluateAll)) (.next id)
theorem Canonical.writeEvctrl {n : Fin 4} {v : Word} (h : Canonical s) : Canonical (writeEvctrl s n v) :=
  (h.wr _ _).onElse (·.cancelNext)
theorem Canonical.takeAngle {n : Fin 4} (h : Canonical s) : Canonical (takeAngle s n) := h.updNwl
theorem Canonical.passCycle {n : Fin 4} (h : Canonical s) : Canonical (passCycle s n) := by
  unfold Machine.passCycle
  split
  · exact h.updNwl.takeAngle
  · exact h.takeAngle
theorem execAngleCyclePassage_keeps {n : Fin 4} : Keeps s (execAngleCyclePassage n s) := .next fun h => h.onIf (·.passCycle)
theorem Canonical.convCommit {n : Fin 4} {t' : Fin 8} (h : Canonical s) : Canonical (convCommit s n t') := h.updTxn
theorem Canonical.readEvlastT {a : Agent} {n : Fin 4} (h : Canonical s) : Canonical (readEvlastT s a n).2 := h.setLat _ _ _
theorem execEvlastTRead_keeps {a : Agent} {n : Fin 4} : Keeps s (execEvlastTRead a n s) := .next (·.readEvlastT.keep _ _)

/-! ### Lanes (Lanes.lean) -/

theorem Canonical.updLane {k : Fin 16} {f : Lane → Lane} (h : Canonical s) : Canonical (s.updLane k f) := h.same (by rfl)
theorem Canonical.lanePad {n : Option (Fin 96)} {lvl : Bool} (h : Canonical s) : Canonical (lanePad s n lvl) := by
  unfold Machine.lanePad
  split
  · exact h.updCh.updPad
  · exact h
theorem Canonical.laneDrive {k : Fin 16} (h : Canonical s) : Canonical (laneDrive s k) :=
  ((h.onIf (·.lanePad)).onIf (·.lanePad)).onIf (·.lanePad)
theorem Canonical.laneRelease {k : Fin 16} (h : Canonical s) : Canonical (laneRelease s k) := h.fold (·.updCh.updPad)
theorem Canonical.laneEnableCmd {a : Agent} {k : Fin 16} (h : Canonical s) : Canonical (laneEnableCmd s a k) :=
  .ite (((h.setBt _ _ _).setEv _ _).raise _ _) h.updLane.laneDrive
theorem Canonical.laneDisableCmd {k : Fin 16} (h : Canonical s) : Canonical (laneDisableCmd s k) :=
  h.laneRelease.updLane.setFl _ _ _ _
theorem Canonical.writeLnCtrl {a : Agent} {k : Fin 16} {v : Word} (h : Canonical s) : Canonical (writeLnCtrl s a k v) :=
  .ite (h.laneDisableCmd.wr _ _) (((h.onIf (·.laneRelease)).wr _ _).ifElse (·.laneDrive) (fun h => h.onIf (·.laneEnableCmd)))
theorem Canonical.writeLnPins {k : Fin 16} {v : Word} (h : Canonical s) : Canonical (writeLnPins s k v) :=
  .ite (h.laneRelease.wr _ _).laneDrive (h.wr _ _)
theorem execLaneEnable_keeps {a : Agent} {k : Fin 16} {v : Word} : Keeps s (execLaneEnable a k v s) := .next (·.writeLnCtrl)
theorem execLaneDisable_keeps {a : Agent} {k : Fin 16} : Keeps s (execLaneDisable a k s) := .next (·.writeLnCtrl)
theorem Canonical.laneOvr {k : Fin 16} (h : Canonical s) : Canonical (laneOvr s k) := (h.setEv _ _).onElse (·.raise _ _)
theorem Canonical.writeTxbuf {k : Fin 16} {v : Word} (h : Canonical s) : Canonical (writeTxbuf s k v) :=
  .ite h.laneOvr h.updLane
theorem execTxbufWrite_keeps {x : Agent} {k : Fin 16} {v : Word} : Keeps s (execTxbufWrite x k v s) := .next (·.writeTxbuf)
theorem Canonical.readRxbuf {k : Fin 16} (h : Canonical s) : Canonical (readRxbuf s k).2 := by
  unfold Machine.readRxbuf
  split
  · exact h
  · exact h.updLane
theorem execRxbufRead_keeps {a : Agent} {k : Fin 16} : Keeps s (execRxbufRead a k s) := .next (·.readRxbuf.keep _ _)
theorem Canonical.laneBitDone {k : Fin 16} (h : Canonical s) : Canonical (laneBitDone s k) := h.updLane.setFl _ _ _ _
theorem Canonical.laneSample {k : Fin 16} (h : Canonical s) : Canonical (laneSample s k) := h.updLane
theorem Canonical.laneSampled {k : Fin 16} {away : Bool} (h : Canonical s) : Canonical (laneSampled s k away) :=
  .ite h.updLane h.laneBitDone
theorem Canonical.laneReturn {k : Fin 16} {away : Bool} (h : Canonical s) : Canonical (laneReturn s k away) :=
  h.onIf (·.updLane.laneBitDone)
theorem Canonical.laneEdge {k : Fin 16} {level : Bool} (h : Canonical s) : Canonical (laneEdge s k level) := by
  unfold Machine.laneEdge
  extract_lets away samples s1 l start'
  have h1 : Canonical s1 := h.laneReturn
  refine .ite (h1.onIf (·.laneSample.laneSampled)) ?_
  split
  · exact h1
  · exact h1.onElse (fun h => .ite (h.onIf (·.laneSampled)) (h.onIf (·.updLane.laneDrive)))
theorem execLaneClockEdge_keeps {k : Fin 16} {level : Bool} : Keeps s (execLaneClockEdge k level s) :=
  .next fun h => h.onIf (·.laneEdge)
theorem Canonical.laneClkMove {k : Fin 16} {away : Bool} (h : Canonical s) : Canonical (laneClkMove s k away) :=
  (h.updLane.laneDrive.onIf (·.laneSample)).onIf (·.laneEdge)
theorem Canonical.laneDriveBit {k : Fin 16} (h : Canonical s) : Canonical (laneDriveBit s k) := by
  unfold Machine.laneDriveBit
  extract_lets l
  split
  · exact h.updLane.laneDrive
  · exact h
theorem Canonical.laneStep {k : Fin 16} (h : Canonical s) : Canonical (laneStep s k) := h.updLane
theorem Canonical.laneHalf {k : Fin 16} (h : Canonical s) : Canonical (laneHalf s k) :=
  .ite h.updLane.laneDriveBit.laneStep <|
  .ite h.updLane.laneDrive <|
  .ite h.laneClkMove.laneStep <|
  .ite h.laneDriveBit.laneStep <|
  h.laneClkMove.laneBitDone.ifElse (·.laneStep) fun h =>
    .ite (h.updLane.after _ _) (.ite h.updLane h.laneDriveBit.laneStep)
theorem Canonical.laneAsync {k : Fin 16} (h : Canonical s) : Canonical (laneAsync s k) :=
  (h.onIf (·.laneSample.laneBitDone)).laneStep
theorem Canonical.laneBoundary {k : Fin 16} (h : Canonical s) : Canonical (laneBoundary s k) :=
  (h.onIf (·.updLane)).ifElse (·.laneAsync) (·.laneHalf)
theorem execLaneWordStart_keeps {k : Fin 16} : Keeps s (execLaneWordStart k s) := .ite (.next (·.updLane.laneDrive)) (.next id)
theorem execLaneRxStartEdge_keeps {k : Fin 16} {e : EdgeInfo} : Keeps s (execLaneRxStartEdge k e s) :=
  .ite (.next (·.updLane)) (.next id)
theorem Canonical.laneDeliver {k : Fin 16} {w : Word} {hit : Bool} (h : Canonical s) : Canonical (laneDeliver s k w hit) :=
  ((Canonical.ite h.updLane (h.satFl _ _ _).laneOvr).onIf (·.setEv _ _)).setEv _ _
theorem execLaneWordComplete_keeps {k : Fin 16} : Keeps s (execLaneWordComplete k s) :=
  .ite (.next id) (.next (fun h => (Canonical.ite h.laneDeliver (h.setEv _ _)).updLane.setFl _ _ _ _))
theorem execPulseEdge_keeps {k : Fin 16} {e : EdgeInfo} : Keeps s (execPulseEdge k e s) := by
  unfold execPulseEdge
  refine .ite (.next id) ?_
  extract_lets s'
  have hs' : Canonical s → Canonical s' := (·.updLane)
  split
  · exact .next fun h => (hs' h)
  · exact .next fun h => (hs' h).laneDeliver
theorem Canonical.laneStartCmd {k : Fin 16} (h : Canonical s) : Canonical (laneStartCmd s k) := h.onIf (·.updLane)
theorem Canonical.laneResetCmd {k : Fin 16} (h : Canonical s) : Canonical (laneResetCmd s k) :=
  (h.updLane.setFl _ _ _ _).onIf (·.laneDrive)
theorem Canonical.laneCont {k : Fin 16} (h : Canonical s) : Canonical (laneCont s k) := h.onIf (·.updLane)
theorem Canonical.divRestart {k : Fin 16} {t' : Nat} (h : Canonical s) : Canonical (divRestart s k t') := h.onIf (·.updLane)
theorem Canonical.writeLnCmd {k : Fin 16} {v : Word} (h : Canonical s) : Canonical (writeLnCmd s k v) :=
  ((Canonical.ite h.laneResetCmd (h.onIf (·.laneCont))).onIf (·.laneStartCmd)).onIf (·.divRestart)
theorem execLaneStart_keeps {x : Agent} {k : Fin 16} : Keeps s (execLaneStart x k s) := .next (·.laneStartCmd)
theorem execLaneReset_keeps {x : Agent} {k : Fin 16} : Keeps s (execLaneReset x k s) := .next (·.laneResetCmd)
theorem execCont_keeps {x : Agent} {k : Fin 16} : Keeps s (execCont x k s) := .next (·.laneCont)
theorem execDivrst_keeps {x : Agent} {k : Fin 16} : Keeps s (execDivrst x k s) := .next (·.divRestart)
theorem Canonical.lanesStop {e : Fin 8} (h : Canonical s) : Canonical (lanesStop s e) := h.fold (fun h => h.onIf (·.updLane))
theorem execLanePause_keeps {k : Fin 16} : Keeps s (execLanePause k s) := .ite (.next (·.updLane)) (.next id)

/-! ### Clocks and the timebase (Timebase.lean) -/

theorem Canonical.updTb {f : Tb → Tb} (h : Canonical s) : Canonical (s.updTb f) := h.same (by rfl)
theorem Canonical.advanceTb {k : Nat} (h : Canonical s) : Canonical (advanceTb s k) := h.updTb.onIf (·.after _ _)
theorem Canonical.lobbyLevels (h : Canonical s) : Canonical (lobbyLevels s) :=
  (Canonical.ite (h.raiseLevel _ _) (h.endLevel _)).ifElse (·.raiseLevel _ _) (·.endLevel _)
    |>.ifElse (·.raiseLevel _ _) (·.endLevel _)
theorem Canonical.clockLevels (h : Canonical s) : Canonical (clockLevels s) := h.later' _ _
theorem execLtrimWindowEnd_keeps {counted : Nat} : Keeps s (execLtrimWindowEnd counted s) :=
  .ite (.next (fun h => ((((h.wr _ _).same (by rfl)).onElse (·.setFl _ _ _ _)).setBt _ _ _).clockLevels)) (.next id)
theorem execX32Lock_keeps : Keeps s (execX32Lock s) := .next fun h => h.onIf (fun h => (h.setBt _ _ _).clockLevels)
theorem execX32Stop_keeps : Keeps s (execX32Stop s) := .next fun h => (h.setBt _ _ _).clockLevels
theorem Canonical.writeClkCtrl {v : Word} (h : Canonical s) : Canonical (writeClkCtrl s v) :=
  ((h.wr _ _).onElse (·.setBt _ _ _)).clockLevels
theorem Canonical.startLclk (h : Canonical s) : Canonical (startLclk s) := (h.setFl _ _ _ _).updTb.toLclk
theorem execPllUnlock_keeps : Keeps s (execPllUnlock s) :=
  .ite (.next (fun h => (h.setBt _ _ _).updTb.raiseLevel _ _)) (.next (fun h => (h.setBt _ _ _).updTb))
theorem execXinLoss_keeps : Keeps s (execXinLoss s) := .next fun h => ((h.setBt _ _ _).raiseLevel _ _).onIf (·.after _ _)
theorem execPllLock_keeps : Keeps s (execPllLock s) :=
  .ite (.next id) <|
  .next fun h =>
    ((h.setBt _ _ _).onIf (fun h => (h.same (by rfl)).afterTicks)).ifElse (fun h => h.onIf (·.updTb.endLevel _)) (·.updTb)
theorem execTbclkCountingReturn_keeps : Keeps s (execTbclkCountingReturn s) :=
  .ite (.next (fun h => (((h.setFl _ _ _ _).setBt _ _ _).endLevel _).fromLclk.updTb.anchorAll)) (.next id)
theorem Canonical.tbRefuse {a : Agent} (h : Canonical s) : Canonical (tbRefuse s a) := (h.setEv _ _).raise _ _
theorem Canonical.writeTbCmd {a : Agent} {v : Word} (h : Canonical s) : Canonical (writeTbCmd s a v) :=
  h.onElse (fun h => .ite h.updTb h.tbRefuse)
theorem execTbStep_keeps {a : Agent} : Keeps s (execTbStep a s) := .next (·.writeTbCmd)
theorem execFofsclr_keeps {a : Agent} : Keeps s (execFofsclr a s) := .next (·.writeTbCmd)
theorem execSlewAdjust_keeps : Keeps s (execSlewAdjust s) := .ite (.next id) (.next (fun h => (h.setFl _ _ _ _).advanceTb))
theorem Canonical.setSlew {v : Word} (h : Canonical s) : Canonical (setSlew s v) := (h.wr _ _).onElse (·.updTb)
theorem Canonical.writeTbSlew {a : Agent} {v : Word} (h : Canonical s) : Canonical (writeTbSlew s a v) :=
  (h.onIf (·.rsvd _ _)).onElse (·.setSlew)
theorem Canonical.writeLclkTrim {v : Word} (h : Canonical s) : Canonical (writeLclkTrim s v) := h.onElse (·.wr _ _)
theorem execTbSlewWrite_keeps {a : Agent} {v : Word} : Keeps s (execTbSlewWrite a v s) := .next (·.writeTbSlew)
theorem Canonical.readTbLo {a : Agent} (h : Canonical s) : Canonical (readTbLo s a).2 := h.setLat _ _ _
theorem Canonical.readSyncTs {a : Agent} (h : Canonical s) : Canonical (readSyncTs s a).2 := by
  unfold Machine.readSyncTs
  extract_lets s1
  have h1 : Canonical s1 := (h.setLat _ _ _).setLat _ _ _
  exact h1.onIf (·.updTb)
theorem execTbLoRead_keeps {a : Agent} : Keeps s (execTbLoRead a s) := .next (·.readTbLo.keep _ _)
theorem execSyncinTsLoRead_keeps {a : Agent} : Keeps s (execSyncinTsLoRead a s) := .next (·.readSyncTs.keep _ _)
theorem Canonical.syncAccept {level : Bool} {t' real : Nat} (h : Canonical s) : Canonical (syncAccept s level t' real) := by
  unfold Machine.syncAccept
  extract_lets ctrl s1 sel s2 s3 s4 s5 s6 s7
  have h1 : Canonical s1 := (h.setBt _ _ _).updTb
  have h2 : Canonical s2 := h1.upd _ _
  have h3 : Canonical s3 := h2.onIf (·.setEv _ _)
  have h4 : Canonical s4 := by
    unfold s4
    split
    · exact h3.wr _ _
    · exact h3
  have h5 : Canonical s5 := (h4.wr _ _).wr _ _
  have h6 : Canonical s6 := h5.setFl _ _ _ _
  have h7 : Canonical s7 := h6.updTb
  exact .ite h1 (.ite h2 (h7.onIf (·.offer _ _)))
theorem Canonical.syncFilterEnds (h : Canonical s) : Canonical (syncFilterEnds s) := by
  unfold Machine.syncFilterEnds
  split
  · exact h.syncAccept
  · exact h
theorem Canonical.syncSample {level : Bool} {fine : BitVec 5} (h : Canonical s) : Canonical (syncSample s level fine) := by
  unfold Machine.syncSample
  extract_lets s1 s2
  have h1 : Canonical s1 := h.updTb
  have h2 : Canonical s2 := h1.same (by rfl)
  split
  · exact h2.onElse (fun h => .ite h.syncAccept (h.updTb.later' _ _))
theorem execSyncInEdge_keeps {level : Bool} {fine : BitVec 5} {held : Nat} : Keeps s (execSyncInEdge level fine held s) :=
  .ite (.next id) <|
  .ite (.next (fun h => (h.dropDue _).after _ _)) (.ite (.next id) (.next (fun h => h.syncSample.onElse (·.after _ _))))
theorem Canonical.soRecord {lvl : Bool} (h : Canonical s) : Canonical (soRecord s lvl) := h.onIf (·.offer _ _)
theorem Canonical.soDrive {active : Bool} (h : Canonical s) : Canonical (soDrive s active) :=
  h.onElse (fun h => (h.setBt _ _ _).soRecord)
theorem Canonical.soStart (h : Canonical s) : Canonical (soStart s) :=
  (h.setFl _ _ _ _).ifElse (·.updTb) (fun h => .ite h.updTb (h.setEv _ _).updTb)
theorem Canonical.soStop (h : Canonical s) : Canonical (soStop s) := h.updTb.soDrive
theorem Canonical.soPulse (h : Canonical s) : Canonical (soPulse s) := .ite h.updTb.soDrive h.updTb.soDrive
theorem execSyncoutActiveEdge_keeps : Keeps s (execSyncoutActiveEdge s) :=
  .ite (.next id) <|
  .ite (.next (·.soStop)) (.next (fun h => ((h.satFl _ _ _).ifElse (·.updTb) (·.updTb)).updTb.soPulse.onIf (·.soStop)))
theorem execSyncoutPulseEnd_keeps : Keeps s (execSyncoutPulseEnd s) :=
  .ite (.next id) (.next (fun h => h.updTb.soDrive.onIf (·.soStop)))
theorem Canonical.soOff (h : Canonical s) : Canonical (soOff s) := h.onElse (·.soDrive)
theorem Canonical.writeSyncoutCtrl {v : Word} (h : Canonical s) : Canonical (writeSyncoutCtrl s v) :=
  (h.wr _ _).ifElse (·.soStart) (fun h => h.onIf (·.updTb.later' _ _))
theorem Canonical.writeSyncoutWidth {v : Word} (h : Canonical s) : Canonical (writeSyncoutWidth s v) :=
  (h.wr _ _).onIf (·.soPulse)
theorem execSyncoutEnable_keeps : Keeps s (execSyncoutEnable s) := .next (·.writeSyncoutCtrl)
theorem execSyncoutDisable_keeps : Keeps s (execSyncoutDisable s) := .next (·.writeSyncoutCtrl)
theorem Canonical.writeClkFrz {m : Fin 3} {v : Word} (h : Canonical s) : Canonical (writeClkFrz s m v) :=
  (h.wr _ _).fold (fun h => h.onElse (fun h => .ite (h.after _ _) (h.onIf (·.after _ _))))
theorem execClkFrzWrite_keeps {x : Agent} {m : Fin 3} {v : Word} : Keeps s (execClkFrzWrite x m v s) := .next (·.writeClkFrz)
theorem Canonical.freezeRouted {e : Fin 8} {halted : Bool} (h : Canonical s) : Canonical (freezeRouted s e halted) :=
  h.fold (fun h => h.onIf (·.after _ _))

/-! ### Banks (Bank.lean) -/

theorem Canonical.updEng {e : Fin 8} {f : Eng → Eng} (h : Canonical s) : Canonical (s.updEng e f) := h.same (by rfl)
theorem Canonical.updBank {e : Fin 8} {b : Fin 4} {f : Bank → Bank} (h : Canonical s) : Canonical (s.updBank e b f) := h.updEng
theorem Canonical.setReg {e : Fin 8} {b : Fin 4} {r : Fin 16} {v : Word} (h : Canonical s) : Canonical (setReg s e b r v) :=
  h.updBank
theorem Canonical.setAcc {e : Fin 8} {b : Fin 4} {a : Bool} {v : BitVec 64} (h : Canonical s) : Canonical (setAcc s e b a v) :=
  h.updBank
theorem Canonical.stickST {e : Fin 8} {b : Fin 4} {i : Nat} {c : Bool} (h : Canonical s) : Canonical (stickST s e b i c) :=
  h.onIf (·.updBank)
theorem Canonical.setSp {e : Fin 8} {b : Fin 4} {v : BitVec 16} (h : Canonical s) : Canonical (setSp s e b v) := h.updBank
theorem Canonical.ioRsvd {e : Fin 8} {a : Nat} (h : Canonical s) : Canonical (ioRsvd s e a) := h.raise _ _
theorem Canonical.writeSpec {e : Fin 8} {b : Fin 4} {n : Nat} {v : Word} (h : Canonical s) :
    Canonical (writeSpec s e b n v) := by
  unfold Machine.writeSpec
  split
  · exact h.setSp
  · extract_lets s1
    have h1 : Canonical s1 := h.updBank
    split
    · exact h1.wr _ _
    · exact h1
  · exact h.updBank
  · exact h.updBank.onElse (·.ioRsvd)
  · exact h.updBank
  · exact h
theorem Canonical.putSel {q : Run} {e : Fin 8} {b : Fin 4} {k : Nat} {v : Word} (h : Canonical s) :
    Canonical (putSel q s e b k v).2 := by
  unfold Machine.putSel
  split
  · exact h.setReg
  · exact h.setReg
  · exact h.setReg
  · exact h.setSp
  · exact h
  · exact h.setAcc
  · exact h.setAcc
  · exact h.updBank
  · exact h.updBank
  · exact h.updBank
  · exact h.updBank
  · exact h.updBank
  · exact h.writeSpec
  · exact h

/-! ### Engines (Engine.lean) -/

theorem Canonical.setThState {e : Fin 8} {k : Fin 32} {v : Nat} (h : Canonical s) : Canonical (setThState s e k v) :=
  h.setFl _ _ _ _
theorem Canonical.setCtx {e : Fin 8} {k : Fin 32} {w : Nat} {v : BitVec 16} (h : Canonical s) : Canonical (setCtx s e k w v) :=
  h.setMem _ _ _
theorem Canonical.clearThread {e : Fin 8} {k : Fin 32} (h : Canonical s) : Canonical (clearThread s e k) := h.upd _ _
theorem execSrqArrival_keeps {e : Fin 8} {k : Fin 32} {src : SrqSource} : Keeps s (execSrqArrival e k src s) := by
  unfold execSrqArrival
  extract_lets s1 was s2 new
  have h1 : Canonical s → Canonical s1 := fun h => h.onIf (·.after _ _)
  have h2 : Canonical s → Canonical s2 := fun h => (h1 h).setEv _ _
  refine .ite (.next (fun h => (h2 h).onElse (·.raise _ _))) ?_
  split
  · extract_lets id
    split
    · exact .next fun h =>
        ((((h1 h).onIf (·.updEng)).ifElse (·.satFl _ _ _) (·.setBt _ _ _)).setBt _ _ _).onIf (·.later' _ _)
theorem Canonical.threadReady {e : Fin 8} {k : Fin 32} (h : Canonical s) : Canonical (threadReady s e k) :=
  h.onIf (·.setThState)
theorem Canonical.schedule {e : Fin 8} {res dis : Nat} (h : Canonical s) : Canonical (schedule s e res dis) := by
  unfold Machine.schedule
  refine .ite ?_ h.updEng
  split
  · exact h.updEng
  · exact h.updEng
theorem Canonical.suspendOthers {e : Fin 8} {b : Fin 4} (h : Canonical s) : Canonical (suspendOthers s e b) := by
  refine h.fold fun h => ?_
  split
  · exact h.onIf (·.setThState)
  · exact h
theorem execThreadDispatch_keeps {e : Fin 8} : Keeps s (execThreadDispatch e s) := by
  unfold execThreadDispatch
  split
  · refine .ite (.next id) ?_
    split
    · exact .ite (.next (·.schedule)) (.next (·.updEng.setThState.suspendOthers))
    · split
      · exact .next (·.schedule)
      · exact .next fun h => (h.updBank.upd _ _).updEng.setThState.suspendOthers
  · exact .next id
theorem execPreemption_keeps {e : Fin 8} : Keeps s (execPreemption e s) := by
  unfold execPreemption
  refine .ite ?_ (.next id)
  split
  · extract_lets s1 w s2
    have h1 : Canonical s → Canonical s1 := by
      intro h
      unfold s1
      split
      · exact h.setThState
      · exact h
    have h2 : Canonical s → Canonical s2 := fun h => (h1 h).updBank.updEng
    exact .next fun h => (h2 h).schedule
  · exact .next id
theorem Canonical.countWait {e : Fin 8} (h : Canonical s) : Canonical (countWait s e) :=
  .ite (h.onIf (·.updEng)) (h.onElse (·.updEng))
theorem Canonical.reselect {e : Fin 8} (h : Canonical s) : Canonical (reselect s e) := by
  unfold Machine.reselect
  refine .ite h ?_
  split
  · exact h.schedule
  · exact h.onIf (·.schedule)
  · exact h
theorem Canonical.freeBank {e : Fin 8} {b : Fin 4} (h : Canonical s) : Canonical (freeBank s e b) := h.updBank
theorem Canonical.releaseBank {e : Fin 8} {b : Fin 4} (h : Canonical s) : Canonical (releaseBank s e b) :=
  h.freeBank.updBank.updEng
theorem Canonical.settleThread {e : Fin 8} {k : Fin 32} (h : Canonical s) : Canonical (settleThread s e k) :=
  .ite h.clearThread.setThState h.setThState
theorem Canonical.disableThread {e : Fin 8} {b : Fin 4} {parcel : BitVec 16} (h : Canonical s) :
    Canonical (disableThread s e b parcel) := by
  unfold Machine.disableThread
  split
  · exact (h.setBt _ _ _).clearThread.setThState.setCtx.setCtx.releaseBank.schedule
  · exact h
theorem Canonical.threadFault {e : Fin 8} {b : Fin 4} {parcel : BitVec 16} {evt : Option Nat} {src : Nat} (h : Canonical s) :
    Canonical (threadFault s e b parcel evt src) := by
  unfold Machine.threadFault
  extract_lets k s1
  have h1 : Canonical s1 := by
    unfold s1
    split
    · exact h.setEv _ _
    · exact h
  exact h1.disableThread.raise _ _
theorem Canonical.wrapShadows {e : Fin 8} (h : Canonical s) : Canonical (wrapShadows s e) := h.wr _ _
theorem Canonical.wrapPass {e : Fin 8} {pc : BitVec 16} (h : Canonical s) : Canonical (wrapPass s e pc) :=
  h.onIf (·.wrapShadows)
theorem Canonical.leaveWait {e : Fin 8} {b : Fin 4} (h : Canonical s) : Canonical (leaveWait s e b) := by
  unfold Machine.leaveWait
  extract_lets s1
  have h1 : Canonical s1 := h.updBank
  split
  · exact h1.setThState
  · exact h1
theorem Canonical.passWait {e : Fin 8} {b : Fin 4} (h : Canonical s) : Canonical (passWait s e b) := h.updBank.wrapPass
theorem Canonical.endWait {e : Fin 8} {b : Fin 4} {v : Word} (h : Canonical s) : Canonical (endWait s e b v) := by
  unfold Machine.endWait
  split
  · exact h
  · split
    · exact h.setReg.leaveWait.passWait
    · exact h.putSel.updBank.leaveWait.onIf (·.passWait)
theorem Canonical.beginWait {e : Fin 8} {b : Fin 4} {w : Wait} (h : Canonical s) : Canonical (beginWait s e b w) := by
  unfold Machine.beginWait
  extract_lets s1 s2
  have h1 : Canonical s1 := h.updBank
  have h2 : Canonical s2 := by
    unfold s2
    split
    · exact h1.setThState
    · exact h1
  exact h2.updEng.schedule
theorem execLwaitRelease_keeps {e : Fin 8} {b : Fin 4} : Keeps s (execLwaitRelease e b s) := by
  unfold execLwaitRelease
  split
  · exact .ite (.next (·.endWait.reselect)) (.next id)
  · exact .next id
theorem Canonical.releaseWaiters {ws : List (Fin 8 × Fin 4)} {code : Nat} (h : Canonical s) :
    Canonical (releaseWaiters s ws code) :=
  h.fold (·.endWait.reselect)
theorem Canonical.barTest {b : Fin 8} (h : Canonical s) : Canonical (barTest s b) := .ite (h.onElse (·.after _ _)) (h.dropDue _)
theorem Canonical.barClear {b : Fin 8} {code : Nat} (h : Canonical s) : Canonical (barClear s b code) :=
  ((h.setFl _ _ _ _).dropDue _).releaseWaiters
theorem execBarrierRelease_keeps {b : Fin 8} : Keeps s (execBarrierRelease b s) := .next (·.barClear)
theorem execBarrierTimeout_keeps {b : Fin 8} : Keeps s (execBarrierTimeout b s) :=
  .ite (.next (·.after _ _)) (.next (fun h => ((h.setEv _ _).raise _ _).barClear))
theorem Canonical.writeBar {b : Fin 8} {v : Word} (h : Canonical s) : Canonical (writeBar s b v) :=
  ((h.journal.setFl _ _ _ _).setFl _ _ _ _).later' _ _
theorem Canonical.barMask {b : Fin 8} (h : Canonical s) : Canonical (barMask s b) :=
  ((h.setFl _ _ _ _).onIf (·.dropDue _)).releaseWaiters.barTest
theorem execBarMaskWrite_keeps {x : Agent} {b : Fin 8} {v : Word} : Keeps s (execBarMaskWrite x b v s) := .next (·.writeBar)
theorem Canonical.barArrive {e b : Fin 8} (h : Canonical s) : Canonical (barArrive s e b) :=
  ((h.onIf (·.after _ _)).setBt _ _ _).barTest
theorem Canonical.barWithdraw {e b : Fin 8} (h : Canonical s) : Canonical (barWithdraw s e b) :=
  ((h.setBt _ _ _).onIf (·.dropDue _)).barTest
theorem Canonical.feCfgErr {a : Agent} {e : Fin 8} {o : Nat} (h : Canonical s) : Canonical (feCfgErr s a e o) :=
  (h.setEv _ _).raise _ _
theorem Canonical.startCmd {a : Agent} {e : Fin 8} (h : Canonical s) : Canonical (startCmd s a e) :=
  h.onElse (fun h => .ite h.feCfgErr (.ite (h.same (by rfl)) (.ite h.updEng h.updEng)))
theorem Canonical.beginRun {e : Fin 8} (h : Canonical s) : Canonical (beginRun s e) := (h.setBt _ _ _).updEng.schedule
theorem Canonical.stopCmd {e : Fin 8} (h : Canonical s) : Canonical (stopCmd s e) := .ite (h.setBt _ _ _).updEng h.updEng
theorem execFeStart_keeps {a : Agent} {e : Fin 8} : Keeps s (execFeStart a e s) := .next (·.startCmd)
theorem execFeStop_keeps {x : Agent} {e : Fin 8} : Keeps s (execFeStop x e s) := .next (·.stopCmd)
theorem Canonical.abandonWait {e : Fin 8} {b : Fin 4} (h : Canonical s) : Canonical (abandonWait s e b) := by
  unfold Machine.abandonWait
  extract_lets quit
  split
  · exact h
  · exact (h.endWait.onIf (·.passWait)).setEv _ _
  · exact ((h.endWait.onIf (·.passWait)).setEv _ _).barWithdraw
theorem execFeStopComplete_keeps {e : Fin 8} : Keeps s (execFeStopComplete e s) := by
  unfold execFeStopComplete
  extract_lets s1 s2 s3 s4 was s5
  have h4 : Canonical s → Canonical s4 := fun h =>
    (((h.setBt _ _ _).setBt _ _ _).updEng.fold (fun h => .ite h.abandonWait h.updBank)).lanesStop
  have h5 : Canonical s → Canonical s5 := fun h => ((h4 h).setBt _ _ _).updEng
  exact .ite (.next id) (.ite (.next fun h => (h5 h).onElse (·.freezeRouted)) (.next h4))
theorem Canonical.haltCmd {e : Fin 8} (h : Canonical s) : Canonical (haltCmd s e) :=
  .ite (h.setBt _ _ _).updEng (.ite (h.onIf (·.updEng)) (h.setBt _ _ _).updEng.lanesStop.freezeRouted)
theorem Canonical.resumeCmd {e : Fin 8} (h : Canonical s) : Canonical (resumeCmd s e) :=
  h.onIf (fun h => (h.setBt _ _ _).updEng.freezeRouted)
theorem Canonical.stepCmd {e : Fin 8} (h : Canonical s) : Canonical (stepCmd s e) := h.onIf (·.updEng)
theorem Canonical.stepEnds {e : Fin 8} (h : Canonical s) : Canonical (stepEnds s e) := h.onIf (·.haltCmd)
theorem execBreakpointHit_keeps {e : Fin 8} : Keeps s (execBreakpointHit e s) := by
  unfold execBreakpointHit
  split
  · exact .ite (.next (fun h => (h.setEv _ _).haltCmd)) (.next id)
  · exact .next id
theorem Canonical.resetCmd {a : Agent} {e : Fin 8} (h : Canonical s) : Canonical (resetCmd s a e) :=
  .ite h.feCfgErr ((h.fold (·.updBank)).fold (fun h => h.clearThread.ifElse (·.setCtx.setThState) (·.setThState)))
theorem execFeReset_keeps {a : Agent} {e : Fin 8} : Keeps s (execFeReset a e s) := .next (·.resetCmd)
theorem Canonical.writeFeCmd {a : Agent} {e : Fin 8} {v : Word} (h : Canonical s) : Canonical (writeFeCmd s a e v) :=
  (h.onIf (·.resetCmd)).onElse (fun h => .ite h.startCmd (h.onIf (·.stopCmd)))
theorem Canonical.writeTh {a : Agent} {e : Fin 8} {k : Fin 32} {v : Word} (h : Canonical s) : Canonical (writeTh s a e k v) :=
  (Canonical.ite h.feCfgErr (h.upd _ _)).setBt _ _ _
    |>.ifElse (fun h => h.setCtx.onIf (·.setThState)) (fun h => h.onIf (·.clearThread.setThState))
theorem execThreadConfigWrite_keeps {a : Agent} {e : Fin 8} {k : Fin 32} {v : Word} :
    Keeps s (execThreadConfigWrite a e k v s) :=
  .next (·.writeTh)
theorem Canonical.writeFeCode {a : Agent} {e : Fin 8} {v : Word} (h : Canonical s) : Canonical (writeFeCode s a e v) :=
  .ite h.feCfgErr (h.wr _ _)
theorem Canonical.dropGoGrant (h : Canonical s) : Canonical (dropGoGrant s) := h.updVest
theorem Canonical.writeGo {v : Word} (h : Canonical s) : Canonical (writeGo s v) :=
  ((h.dropGoGrant.setBt _ _ _).same (by rfl)).ifElse (·.withdrawReq) (fun h =>
    .ite (.ite h.withdrawReq.refuse h.updVest) h.request)
theorem execFeGoWrite_keeps {x : Agent} {v : Word} : Keeps s (execFeGoWrite x v s) := .next (·.writeGo)
theorem Canonical.goMiss (h : Canonical s) : Canonical (goMiss s) := by
  unfold Machine.goMiss
  split
  · exact h.onIf (·.same (by rfl))
  · exact h
theorem execGoAct_keeps : Keeps s (execGoAct s) := by
  unfold execGoAct
  split
  · exact .next id
  · refine .ite (.next id) ?_
    extract_lets src s1 s2 s3
    have hsrc : Canonical s → Canonical src := fun h => (h.setBt _ _ _).setEv _ _
    have h1 : Canonical s → Canonical s1 := fun h => (hsrc h).same (by rfl)
    have h2 : Canonical s → Canonical s2 := fun h => (h1 h).updVest
    have h3 : Canonical s → Canonical s3 :=
      fun h => (h2 h).fold (fun h => h.onElse (fun h => .ite (h.setEv _ _) (.ite h.updEng (.ite h.updEng h.beginRun))))
    exact .next fun h => (h3 h).fold (fun h => h.onIf (·.divRestart))
theorem execWakeTimerFire_keeps {e j : Fin 8} : Keeps s (execWakeTimerFire e j s) :=
  .ite (.next (fun h => (h.setBt _ _ _).srq _ _ _ _)) (.next id)
theorem Canonical.writeMbxdb {a : Agent} {e : Fin 8} {v : Word} (h : Canonical s) : Canonical (writeMbxdb s a e v) :=
  h.onElse (fun h => h.fold (fun h => h.onElse (fun h => (h.setBt _ _ _).onIf (·.srq _ _ _ _))))
theorem Canonical.writeMbxack {e : Fin 8} {v : Word} (h : Canonical s) : Canonical (writeMbxack s e v) :=
  h.fold (fun h => h.onIf (fun h => (h.setBt _ _ _).setEv _ _))
theorem execMbxdb_keeps {a : Agent} {e : Fin 8} {v : Word} : Keeps s (execMbxdb a e v s) := .next (·.writeMbxdb)
theorem execMbxack_keeps {x : Agent} {e : Fin 8} {v : Word} : Keeps s (execMbxack x e v s) := .next (·.writeMbxack)
theorem Canonical.writeMbxWord {a : Agent} {e : Fin 8} {o : Nat} {v : Word} (h : Canonical s) :
    Canonical (writeMbxWord s a e o v) :=
  .ite ((h.setEv _ _).raise _ _) (h.wr _ _)
theorem Canonical.codeRefuse {parcel port : Nat} (h : Canonical s) : Canonical (codeRefuse s parcel port) :=
  ((h.fold (·.setEv _ _)).note _ _).raise _ _
theorem Canonical.writeCode {o be : Nat} {v : Word} {port : Nat} (h : Canonical s) : Canonical (writeCode s o be v port) := by
  unfold Machine.writeCode
  extract_lets one
  have hone : ∀ {t k}, Canonical t → Canonical (one t k) := fun h => h.onElse (fun h => .ite h.codeRefuse (h.setMem _ _ _))
  exact hone (hone h)

/-! ### Rings as their owners drive them (Rings.lean) -/

theorem Canonical.ringCfgNotice {a : Agent} {r : Fin 64} {o : Nat} (h : Canonical s) : Canonical (ringCfgNotice s a r o) :=
  h.raise _ _
theorem Canonical.ringStart {r : Fin 64} (h : Canonical s) : Canonical (ringStart s r) :=
  (((((h.wr _ _).wr _ _).wr _ _).updRing.setBt _ _ _).setBt _ _ _).setRingState.onIf (·.offer _ _)
theorem Canonical.enableRing {a : Agent} {r : Fin 64} (h : Canonical s) : Canonical (enableRing s a r) :=
  .ite (h.setBt _ _ _).ringStart ((h.setBt _ _ _).setEv _ _).ringCfgNotice
theorem Canonical.abortRing {r : Fin 64} (h : Canonical s) : Canonical (abortRing s r) := by
  unfold Machine.abortRing
  extract_lets s1 tail s2
  have h1 : Canonical s1 := h.updRing
  have h2 : Canonical s2 := (h1.wr _ _).wr _ _
  split
  · exact h2
  · exact h2.onIf (fun h => h.fold (fun h => h.onIf (fun h => ((h.setFl _ _ _ _).dropDue _).endCommit)))
theorem Canonical.discardHeld {r : Fin 64} (h : Canonical s) : Canonical (discardHeld s r) :=
  .ite h.discardRing h.discardEntries
theorem Canonical.clearIrq {r : Fin 64} (h : Canonical s) : Canonical (clearIrq s r) := (h.updRing.dropDue _).setBt _ _ _
theorem Canonical.freeDesc {r : Fin 64} (h : Canonical s) : Canonical (freeDesc s r) := h.onIf (·.setWork.endBurst.wr _ _)
theorem Canonical.dropCur {r : Fin 64} (h : Canonical s) : Canonical (dropCur s r) := (h.same (by rfl)).freeDesc.updRing
theorem Canonical.disableRing {r : Fin 64} (h : Canonical s) : Canonical (disableRing s r) :=
  (h.setBt _ _ _).onElse (·.discardHeld)
    |>.ifElse (·.dropCur.updRing.clearIrq.setRingState) fun h =>
        h.onIf (fun h => (h.onIf (·.abortRing)).clearIrq.setRingState)
theorem Canonical.writeRingCfg {a : Agent} {r : Fin 64} {v : Word} (h : Canonical s) : Canonical (writeRingCfg s a r v) :=
  .ite h.ringCfgNotice (.ite ((h.wr _ _).onIf (·.enableRing)) ((h.onElse (·.ringCfgNotice)).onElse (·.disableRing)))
theorem Canonical.writeRingAddr {a : Agent} {r : Fin 64} {o : Nat} {v : Word} (h : Canonical s) :
    Canonical (writeRingAddr s a r o v) :=
  .ite h.ringCfgNotice (.ite (h.wr _ _) (h.onElse (·.ringCfgNotice)))
theorem execRingEnable_keeps {a : Agent} {r : Fin 64} : Keeps s (execRingEnable a r s) := .next (·.writeRingCfg)
theorem execRingDisable_keeps {a : Agent} {r : Fin 64} : Keeps s (execRingDisable a r s) := .next (·.writeRingCfg)
theorem execDrainEnd_keeps {r : Fin 64} : Keeps s (execDrainEnd r s) := .next fun h => h.onIf (·.setRingState)
theorem Canonical.ringDoorbell {a : Agent} {r : Fin 64} {v : Word} (h : Canonical s) : Canonical (ringDoorbell s a r v) :=
  .ite ((h.setEv _ _).raise _ _) (.ite (h.wr _ _).settleRing (h.onElse (fun h => (h.wr _ _).settleRing.releaseHold)))
theorem execDoorbell_keeps {a : Agent} {r : Fin 64} {v : Word} : Keeps s (execDoorbell a r v s) := .next (·.ringDoorbell)
theorem Canonical.fetchRing {r : Fin 64} (h : Canonical s) : Canonical (fetchRing s r) :=
  h.updRing.ifElse (·.same (by rfl)) (·.after _ _)
theorem Canonical.haltRing {r : Fin 64} (h : Canonical s) : Canonical (haltRing s r) :=
  (h.setRingState.setEv _ _).ringEvent.onIf (·.later' _ _)
theorem Canonical.headToDone {r : Fin 64} (h : Canonical s) : Canonical (headToDone s r) := h.wr _ _
theorem execDescriptorArrival_keeps {r : Fin 64} {ok : Bool} {ws : List Word} : Keeps s (execDescriptorArrival r ok ws s) :=
  .ite (.next id) <|
  .ite (.next (·.updRing.updRing.wr _ _)) <|
  .next (fun h => (((h.updRing.updRing.wr _ _).setEv _ _).raise _ _).onElse (·.haltRing))
theorem Canonical.accountDesc {r : Fin 64} {d : Desc} (h : Canonical s) : Canonical (accountDesc s r d) :=
  ((h.freeDesc.updRing.onIf (fun h => (h.wr _ _).onIf (·.wr _ _))).setBt _ _ _).onElse (fun h => (h.setFl _ _ _ _).wr _ _)
    |>.onElse (·.writeback)
    |>.ifElse (·.haltRing) (·.settleRing)
theorem execDescriptorComplete_keeps {r : Fin 64} : Keeps s (execDescriptorComplete r s) := by
  unfold execDescriptorComplete
  split
  · exact .next id
  · exact .ite (.next id) <|
      .ite (.next (·.accountDesc)) (.ite (.next (·.freeDesc.putEntry.accountDesc)) (.next (fun h => h.onIf (·.setBt _ _ _))))
theorem Canonical.abortCmd {r : Fin 64} (h : Canonical s) : Canonical (abortCmd s r) :=
  h.onIf (·.abortRing.setRingState.settleRing)
theorem Canonical.resumeRing {r : Fin 64} (h : Canonical s) : Canonical (resumeRing s r) :=
  h.onIf (fun h => (h.onIf (·.headToDone)).setRingState.settleRing)
theorem Canonical.attachRing {r : Fin 64} (h : Canonical s) : Canonical (attachRing s r) :=
  .ite (((h.updRing.onIf (·.headToDone)).setRingState.settleRing.ringEvent.onElse (·.setBt _ _ _)).onIf (·.offer _ _)) <|
  h.setEv _ _
theorem Canonical.writeRingCmd {r : Fin 64} {v : Word} (h : Canonical s) : Canonical (writeRingCmd s r v) :=
  .ite h.abortCmd (.ite h.resumeRing (.ite h.attachRing (h.onIf (·.releaseHold))))
theorem execAbort_keeps {x : Agent} {r : Fin 64} : Keeps s (execAbort x r s) := .next (·.abortCmd)
theorem execResume_keeps {x : Agent} {r : Fin 64} : Keeps s (execResume x r s) := .next (·.resumeRing)
theorem execAttach_keeps {x : Agent} {r : Fin 64} : Keeps s (execAttach x r s) := .next (·.attachRing)
theorem Canonical.writeSuplock {a : Agent} {i : Fin 2} {v : Word} (h : Canonical s) : Canonical (writeSuplock s a i v) := by
  unfold Machine.writeSuplock
  extract_lets o
  split
  · exact h.wr _ _
  · exact h.raise _ _
theorem Canonical.detachRing {r : Fin 64} (h : Canonical s) : Canonical (detachRing s r) :=
  h.onElse fun h =>
    .ite (h.updLand.onIf (·.setWork)).updRing.dropCur.updRing.setRingState
      (((((h.updLand.onIf (·.setWork)).updRing.onIf (·.wr _ _)).setRingState.setEv _ _).setBt _ _ _).clearIrq.setBt _ _ _
         |>.ringEvent)
theorem Canonical.resetConfig (h : Canonical s) : Canonical (resetConfig s) := by
  unfold Machine.resetConfig
  extract_lets s1
  have h1 : Canonical s1 := h.fold (·.setByte _ _)
  clear_value s1
  exact h1.same (by rfl)
theorem Canonical.hostGone (h : Canonical s) : Canonical (hostGone s) := by
  unfold Machine.hostGone
  extract_lets s1
  have h1 : Canonical s1 := (h.setBt _ _ _).setEv _ _
  clear_value s1
  exact (h1.fold (·.detachRing)).resetConfig
theorem Canonical.hostLost (h : Canonical s) : Canonical (hostLost s) := ((h.setBt _ _ _).hostGone.wr _ _).raiseLevel _ _
theorem execHostReset_keeps : Keeps s (execHostReset s) := .next (·.hostLost)
theorem execFlr_keeps : Keeps s (execFlr s) := .next fun h => h.onIf (·.hostGone.setFl _ _ _ _)
theorem execLinkDown_keeps : Keeps s (execLinkDown s) := .next fun h => h.onIf (·.hostLost)
theorem execPerstN_keeps : Keeps s (execPerstN s) := .next (·.updPcie.hostLost.dropDue _)
theorem execPerstNRelease_keeps : Keeps s (execPerstNRelease s) := .next fun h => h.updPcie.onIf (·.afterTicks)
theorem execLinkTrainingStart_keeps : Keeps s (execLinkTrainingStart s) := .next fun h => h.onIf (·.updPcie)
theorem execLinkUp_keeps : Keeps s (execLinkUp s) := .ite (.next id) (.next (fun h => ((h.setBt _ _ _).wr _ _).endLevel _))
theorem Canonical.sendDeferred (h : Canonical s) : Canonical (sendDeferred s) :=
  h.onIf (fun h => h.updPcie.fold (·.same (by rfl)))
theorem Canonical.wakeLink (h : Canonical s) : Canonical (wakeLink s) := (h.onIf (·.updPcie.setFl _ _ _ _)).onIf (·.after _ _)
theorem Canonical.pbaSend (h : Canonical s) : Canonical (pbaSend s) := h.fold (·.updPcie.issueMsi)
theorem execConfigurationWrite_keeps {v : Word} : Keeps s (execConfigurationWrite v s) :=
  .ite (.next id) <|
  .next (fun h => (((h.wakeLink.updPcie.setBt _ _ _).setFl _ _ _ _).onElse (·.updPcie)).pbaSend.sendDeferred)

/-! ### Transactions and snapshots (Txn.lean) -/

theorem Canonical.freeStaged {t' : Fin 8} (h : Canonical s) : Canonical (freeStaged s t') :=
  ((h.same (by rfl)).setFl _ _ _ _).setFl _ _ _ _
theorem Canonical.beginTxn {a : Agent} {t' : Fin 8} (h : Canonical s) : Canonical (beginTxn s a t').2 :=
  Canonical.iteSnd (h.wr _ _).updTxn h
theorem Canonical.rollbackTxn {a : Agent} {t' : Fin 8} (h : Canonical s) : Canonical (rollbackTxn s a t').2.2 := by
  unfold Machine.rollbackTxn
  split
  · extract_lets n s1 s2
    have h1 : Canonical s1 := h.freeStaged.setFl _ _ _ _
    have h2 : Canonical s2 := (h1.dropDue _).endCommit
    exact h2
  · exact h
theorem Canonical.stageWrites {a : Agent} {t' : Fin 8} {ws : List (Nat × Word)} (h : Canonical s) :
    Canonical (stageWrites s a t' ws).2 := by
  unfold Machine.stageWrites
  refine Canonical.iteSnd h ?_
  refine Canonical.iteSnd h ?_
  refine Canonical.iteSnd h ?_
  extract_lets xs new s1
  have h1 : Canonical s1 := h.same (by rfl)
  exact Canonical.iteSnd h ((h1.setFl _ _ _ _).setFl _ _ _ _)
theorem Canonical.openRound {t' : Option (Fin 8)} {at' : Nat} (h : Canonical s) : Canonical (openRound s t' at') :=
  (h.same (by rfl)).later' _ _
theorem Canonical.makePending {t' : Fin 8} {ring : Option (Fin 64)} {bound unit at' inst : Nat} (h : Canonical s) :
    Canonical (makePending s t' ring bound unit at' inst) :=
  (h.setFl _ _ _ _).updTxn
theorem Canonical.commitTxn {a : Agent} {t' : Fin 8} {ring : Option (Fin 64)} (h : Canonical s) :
    Canonical (commitTxn s a t' ring).2 := by
  unfold Machine.commitTxn
  refine Canonical.iteSnd h ?_
  extract_lets b unit lo tgt tb fail n a m
  split
  · exact Canonical.iteSnd (Canonical.iteSnd h.makePending.openRound h.txnFailed) (h.makePending.after _ _)
  · exact Canonical.iteSnd (Canonical.iteSnd h.makePending.openRound h.txnFailed) (Canonical.iteSnd h.txnFailed h.makePending)
  · exact Canonical.iteSnd h.txnFailed (Canonical.iteSnd h.makePending h.txnFailed)
  · exact Canonical.iteSnd h.makePending h.txnFailed
theorem Canonical.txnRefuse {a : Agent} {t' : Fin 8} {o st : Nat} (h : Canonical s) : Canonical (txnRefuse s a t' o st) :=
  (h.setFl _ _ _ _).raise _ _
theorem Canonical.txnAnswer {a : Agent} {t' : Fin 8} {st : Nat} (h : Canonical s) : Canonical (txnAnswer s a t' st) :=
  h.onElse (·.txnRefuse)
theorem Canonical.beginReg {a : Agent} {t' : Fin 8} (h : Canonical s) : Canonical (beginReg s a t') := h.beginTxn.txnAnswer
theorem Canonical.rollbackReg {a : Agent} {t' : Fin 8} (h : Canonical s) : Canonical (rollbackReg s a t') :=
  h.rollbackTxn.txnAnswer
theorem Canonical.commitReg {a : Agent} {t' : Fin 8} (h : Canonical s) : Canonical (commitReg s a t') := h.commitTxn.txnAnswer
theorem Canonical.writeTxnCmd {a : Agent} {t' : Fin 8} {v : Word} (h : Canonical s) : Canonical (writeTxnCmd s a t' v) := by
  unfold Machine.writeTxnCmd
  split
  · exact h
  · exact h.beginReg
  · exact h.rollbackReg
  · exact h.commitReg
  · exact h.txnRefuse
theorem Canonical.writeSofs {a : Agent} {t' : Fin 8} {v : Word} (h : Canonical s) : Canonical (writeSofs s a t' v) :=
  (h.setLat _ _ _).onElse (·.rsvd _ _)
theorem Canonical.writeSval {a : Agent} {t' : Fin 8} {v : Word} (h : Canonical s) : Canonical (writeSval s a t' v) :=
  (h.stageWrites.setLat _ _ _).onElse (·.txnRefuse)
theorem execBegin_keeps {a : Agent} {t' : Fin 8} : Keeps s (execBegin a t' s) := .next (·.beginReg)
theorem execRollback_keeps {a : Agent} {t' : Fin 8} : Keeps s (execRollback a t' s) := .next (·.rollbackReg)
theorem execCommit_keeps {a : Agent} {t' : Fin 8} : Keeps s (execCommit a t' s) := .next (·.commitReg)
theorem execSofsWrite_keeps {a : Agent} {t' : Fin 8} {v : Word} : Keeps s (execSofsWrite a t' v s) := .next (·.writeSofs)
theorem execSvalWrite_keeps {a : Agent} {t' : Fin 8} {v : Word} : Keeps s (execSvalWrite a t' v s) := .next (·.writeSval)
theorem Canonical.landed {t' : Fin 8} (h : Canonical s) : Canonical (landed s t') :=
  (((h.freeStaged.setFl _ _ _ _).setEv _ _).wr _ _).endCommit
theorem Canonical.strobeIn {o d : Nat} (h : Canonical s) : Canonical (strobeIn s o d) := h.same (by rfl)
theorem Canonical.snapChannel {n : Fin 96} (h : Canonical s) : Canonical (snapChannel s n) := h.wr _ _
theorem Canonical.setSnapBank {b : Bool} {ws : List Word} (h : Canonical s) : Canonical (setSnapBank s b ws) := h.same (by rfl)
theorem Canonical.takeSnap {origin : Nat} (h : Canonical s) : Canonical (takeSnap s origin) := by
  unfold Machine.takeSnap
  extract_lets seq b s1 s2 s3 s4 rs reads snap s5
  have h2 : Canonical s2 := (h.setFl _ _ _ _).fold (·.onElse (·.snapChannel))
  clear_value s2
  have h4 : Canonical s4 := (h2.fold (·.wr _ _)).setSnapBank
  clear_value s4
  have h5 : Canonical s5 := h4.same (by rfl)
  refine h5.fold fun h => ?_
  split
  · exact .ite h.updRing h.endDesc
  · exact h
theorem Canonical.snapLate (h : Canonical s) : Canonical (snapLate s) := by
  unfold Machine.snapLate
  split
  · refine .ite ?_ h
    extract_lets late s1 ws s2 src
    have h1 : Canonical s1 := h.fold (·.snapChannel)
    have h2 : Canonical s2 := h1.setSnapBank
    exact h2.same (by rfl)
  · exact h
theorem Canonical.strobeNow {origin : Nat} (h : Canonical s) : Canonical (strobeNow s origin) :=
  .ite ((h.satFl _ _ _).same (by rfl)) h.takeSnap
theorem execSnapStrobe_keeps : Keeps s (execSnapStrobe s) := by
  unfold execSnapStrobe
  refine .ite (.next (fun h => (h.same (by rfl)).strobeNow)) ?_
  split
  · exact .ite (.next id) (.next (·.takeSnap))
  · exact .next id
theorem Canonical.snapFails (h : Canonical s) : Canonical (snapFails s) := (h.fold (fun h => h.onElse (·.setEv _ _))).setEv _ _
theorem Canonical.peerSnapCmd (h : Canonical s) : Canonical (peerSnapCmd s) := .ite h.openRound h.snapFails
theorem execPeerSnap_keeps : Keeps s (execPeerSnap s) := .next (·.peerSnapCmd)
theorem Canonical.writeSnapCmd {a : Agent} {v : Word} (h : Canonical s) : Canonical (writeSnapCmd s a v) :=
  h.onElse (fun h =>
    .ite (.ite ((h.same (by rfl)).setBt _ _ _).strobeIn ((h.same (by rfl)).setBt _ _ _)) (.ite h.peerSnapCmd h.strobeIn))
theorem Canonical.dropDuties {ds : List PeerDuty} (h : Canonical s) : Canonical (dropDuties s ds) := h.same (by rfl)
theorem Canonical.sendStatus {d : PeerDuty} {acted : Bool} (h : Canonical s) : Canonical (sendStatus s d acted) :=
  h.onIf (·.peerSend)
theorem Canonical.noteActed {d : PeerDuty} (h : Canonical s) : Canonical (noteActed s d) := h.same (by rfl)
theorem Canonical.commitDuty {d : PeerDuty} (h : Canonical s) : Canonical (commitDuty s d) := by
  unfold Machine.commitDuty
  split
  · exact .ite (.ite (h.after _ _).noteActed.sendStatus h.sendStatus) (h.onIf (fun h => (h.makePending.after _ _).noteActed))
  · exact h
theorem Canonical.commitDuties (h : Canonical s) : Canonical (commitDuties s) := h.dropDuties.fold (·.commitDuty)
theorem execTimedSnap_keeps : Keeps s (execTimedSnap s) :=
  .ite (.next (fun h => ((h.setBt _ _ _).same (by rfl)).ifElse (·.strobeIn) (·.strobeNow))) (.next id)
theorem execPeerSnapLatch_keeps : Keeps s (execPeerSnapLatch s) :=
  .ite (.next id) <|
  .next (fun h => (h.dropDuties.fold (fun h => (h.onIf (·.noteActed)).sendStatus)).ifElse (·.strobeIn) (·.strobeNow))

/-! ### Background work (Background.lean) -/

theorem Canonical.updBg {f : Bg → Bg} (h : Canonical s) : Canonical (s.updBg f) := h.same (by rfl)
theorem Canonical.updCal {fl : Fin 8} {f : Calib → Calib} (h : Canonical s) : Canonical (s.updCal fl f) := h.updBg
theorem Canonical.setBgState {v : Nat} (h : Canonical s) : Canonical (setBgState s v) := h.setFl _ _ _ _
theorem Canonical.bgResult {v : Nat} (h : Canonical s) : Canonical (bgResult s v) := h.setFl _ _ _ _
theorem Canonical.bgAsk (h : Canonical s) : Canonical (bgAsk s) := h.setBgState.ifElse (·.request) (·.request)
theorem Canonical.bgCancelCmd (h : Canonical s) : Canonical (bgCancelCmd s) := h.onIf (·.withdrawReq.setBgState.bgResult)
theorem Canonical.bgRequest {op t' : Nat} {defer : Bool} (h : Canonical s) : Canonical (bgRequest s op t' defer) :=
  .ite h.bgResult (.ite h.bgResult (h.bgResult.updBg.ifElse (·.bgAsk) (fun h => .ite h.setBgState h.bgResult)))
theorem Canonical.writeBgReq {v : Word} (h : Canonical s) : Canonical (writeBgReq s v) := .ite h.bgRequest h.bgCancelCmd
theorem execSelfTest_keeps {x : Agent} {v : Word} : Keeps s (execSelfTest x v s) := .next (·.writeBgReq)
theorem execRecalibrate_keeps {x : Agent} {v : Word} : Keeps s (execRecalibrate x v s) := .next (·.writeBgReq)
theorem execBgCancel_keeps : Keeps s (execBgCancel s) := .next (·.bgCancelCmd)
theorem Canonical.zeroMem {lo hi : Nat} (h : Canonical s) : Canonical (zeroMem s lo hi) := h.filterMem _
theorem Canonical.zeroBank {k : Nat} (h : Canonical s) : Canonical (zeroBank s k) := by
  unfold Machine.zeroBank
  exact .ite h.zeroMem (.ite h.zeroMem (.ite h.zeroMem (.ite h.updLand (.ite h.zeroMem (h.onIf (·.filterRegs _))))))
theorem execSelfTestEnd_keeps {pass : Bool} {ofs : BitVec 20} : Keeps s (execSelfTestEnd pass ofs s) :=
  .ite (.next (fun h => h.zeroBank.setBgState.endGrant.ifElse (·.bgResult) (fun h => (h.bgResult.wr _ _).raise _ _))) <|
  .next id
theorem Canonical.calStart {fl : Fin 8} (h : Canonical s) : Canonical (calStart s fl) :=
  h.onElse (fun h => .ite h.updCal h.updCal)
theorem Canonical.calForcedEnd {fl : Fin 8} {res : Nat} (h : Canonical s) : Canonical (calForcedEnd s fl res) :=
  h.onIf (fun h => h.updCal.onIf (·.setBgState.bgResult))
theorem execCalibrationTurn_keeps {fl : Fin 8} {ok : Bool} : Keeps s (execCalibrationTurn fl ok s) :=
  .ite (.next id) <|
  .ite (.next (·.updVest.updCal.updCal)) (.next (fun h => ((h.updVest.updCal.satFl _ _ _).raise _ _).calForcedEnd))
theorem execDelayLineSwap_keeps {fl : Fin 8} : Keeps s (execDelayLineSwap fl s) :=
  .ite (.next (fun h => (h.wr _ _).updCal.updVest.calForcedEnd)) (.next id)
theorem execSwapSkip_keeps {fl : Fin 8} : Keeps s (execSwapSkip fl s) := by
  unfold execSwapSkip
  split
  · exact .ite (.next (fun h => (h.updCal.satFl _ _ _).raise _ _)) (.next id)
  · exact .next id
theorem execScrubPass_keeps : Keeps s (execScrubPass s) := .ite (.next (fun h => h.onIf (·.updBg.raise _ _))) (.next (·.updBg))
theorem Canonical.scrubFixes (h : Canonical s) : Canonical (scrubFixes s) := (h.same (by rfl)).fold (·.raise _ _)
theorem execScrubPassEnd_keeps : Keeps s (execScrubPassEnd s) :=
  .ite (.next (fun h => ((h.scrubFixes.setFl _ _ _ _).setFl _ _ _ _).updBg)) (.next id)
theorem Canonical.newWindow (h : Canonical s) : Canonical (newWindow s) := by
  unfold Machine.newWindow
  extract_lets s1
  have h1 : Canonical s1 := h.updVest
  exact h1.same (by rfl)
theorem execEvaluation_keeps : Keeps s (execEvaluation s) :=
  .next fun h =>
    ((h.setFl _ _ _ _).expireGrants.onIf (fun h => (h.setEv _ _).raise _ _)
       |>.ifElse (·.startRefusing) (·.serveQueue.serveBursts)
       |>.note _ _
       |>.updVest.onIf (·.bgAsk)
       |>.newWindow)
theorem Canonical.tempLevel {src : Nat} {thr : Int} (h : Canonical s) : Canonical (tempLevel s src thr) := by
  unfold Machine.tempLevel
  extract_lets hot
  clear_value hot
  split
  · exact h.raiseLevel _ _
  · exact h.onIf (·.endLevel _)
theorem execTempMeasure_keeps {t01 t23 : Word} : Keeps s (execTempMeasure t01 t23 s) :=
  .next fun h => ((h.wr _ _).wr _ _).tempLevel.tempLevel.startRefusing
theorem Canonical.telSupplies (h : Canonical s) : Canonical (telSupplies s) := ((h.fresh.fresh.fresh.wr _ _).wr _ _).wr _ _
theorem execTelemetrySample_keeps : Keeps s (execTelemetrySample s) := by
  unfold execTelemetrySample
  refine .ite (.next id) ?_
  extract_lets s1 r rs npart occ cycles parts s2 s3 s4
  have h1 : Canonical s → Canonical s1 := (·.telSupplies)
  have h2 : Canonical s → Canonical s2 := fun h => .ite ((h1 h).fold (·.evtPost)) (((h1 h).satFl _ _ _).raise _ _)
  have h3 : Canonical s → Canonical s3 := fun h => (h2 h).setFl _ _ _ _
  have h4 : Canonical s → Canonical s4 := fun h => (h3 h).updVest
  exact .next fun h => (h4 h).same (by rfl)

/-! ### Power modes and resets (Power.lean) -/

theorem Canonical.updPower {f : Power → Power} (h : Canonical s) : Canonical (s.updPower f) := h.same (by rfl)
theorem Canonical.setMode {m : Nat} (h : Canonical s) : Canonical (setMode s m) := h.setFl _ _ _ _
theorem Canonical.pwrEvt {b : Nat} (h : Canonical s) : Canonical (pwrEvt s b) := h.setEv _ _
/-- A boot-sequence reset keeps some registers and the Chest, and empties the latches and the memory windows (R392). -/
theorem Canonical.coreReset {lobby : Bool} (h : Canonical s) : Canonical (coreReset s lobby) := by
  unfold Machine.coreReset
  extract_lets keep z fatal tb pcie patch bg ctl power z1 z2 z3
  obtain ⟨hregs, -, -, hchest⟩ := h
  obtain ⟨-, zlat, zmem, -⟩ := canonical_reset
  have h1 : Canonical z1 := ⟨Store.wf_filter _ hregs, zlat, zmem, hchest⟩
  clear_value z1
  have h3 : Canonical z3 := ((h1.setFl _ _ _ _).setBt _ _ _).setBt _ _ _
  clear_value z3
  exact .ite (h3.fresh.same (by rfl)) h3
theorem execPowerOnReset_keeps : Keeps s (execPowerOnReset s) := .next (·.coreReset.wr _ _)
theorem execResetN_keeps : Keeps s (execResetN s) := .next (·.coreReset.setBt _ _ _)
theorem execFaultReset_keeps : Keeps s (execFaultReset s) := .next fun h => (h.coreReset.setBt _ _ _).setBt _ _ _
theorem execSupplyReset_keeps {k : Fin 5} : Keeps s (execSupplyReset k s) :=
  .ite execPowerOnReset_keeps <|
  .ite (.next (fun h => h.onIf (·.updPower))) (.ite (.next (·.coreReset.setBt _ _ _)) (.next id))
theorem Canonical.setArmed (h : Canonical s) : Canonical (setArmed s) := (h.setBt _ _ _).onIf (·.updPower)
theorem Canonical.arm (h : Canonical s) : Canonical (arm s) := h.updChest.setArmed
theorem Canonical.hbRestart (h : Canonical s) : Canonical (hbRestart s) := h.same (by rfl)
theorem Canonical.leaveDoze {lgs : Bool} (h : Canonical s) : Canonical (leaveDoze s lgs) :=
  h.onElse (fun h => (h.setMode.pwrEvt.onIf (·.hbRestart)).ifElse (·.updPower) (·.grant))
theorem Canonical.lgsTrigger {trig : Nat} (h : Canonical s) : Canonical (lgsTrigger s trig) :=
  h.onElse (fun h => (((h.onIf (·.setMode.pwrEvt)).setChestWord _ _).setBt _ _ _).updPower.leaveDoze.afterTicks.arm)
theorem Canonical.chestWords {addr : Nat} {ws : List Word} (h : Canonical s) : Canonical (chestWords s addr ws) :=
  (h.fold (·.setChestWord _ _)).fold (·.programRow)
theorem Canonical.lgsRewrite (h : Canonical s) : Canonical (lgsRewrite s) := h.laterTicks
theorem execLgsDone_keeps : Keeps s (execLgsDone s) := by
  unfold execLgsDone
  split
  · exact .next id
  · exact .next fun h =>
        (((((h.chestWords.chestWords.wr _ _).wr _ _).wr _ _).pwrEvt.setBt _ _ _).updPower.onIf (·.lgsRewrite)).setArmed
theorem Canonical.lgsRecovered (h : Canonical s) : Canonical (lgsRecovered s) := ((h.setChestWord _ _).wr _ _).pwrEvt.setArmed
theorem execLgs_keeps : Keeps s (execLgs s) := .next (·.lgsTrigger)
theorem execSupplyWarn_keeps {k : Fin 5} : Keeps s (execSupplyWarn k s) :=
  .ite (.next id) <|
  .next fun h =>
    (((h.setBt _ _ _).updPower.ifElse (·.raise _ _) (·.raiseLevel _ _)).startRefusing.arm.onElse (·.lgsTrigger)).leaveDoze
theorem Canonical.dipRecord {k : Fin 5} {d : Dip} {minmv : BitVec 16} {dur : Word} (h : Canonical s) :
    Canonical (dipRecord s k d minmv dur) :=
  h.onElse (fun h => .ite h.evtPost h.pwrEvt)
theorem execDipRecovery_keeps {k : Fin 5} {minmv : BitVec 16} {dur : Word} : Keeps s (execDipRecovery k minmv dur s) := by
  unfold execDipRecovery
  split
  · exact .next id
  · exact .ite (.next id) <|
      .next fun h =>
        (((h.setBt _ _ _).updPower.onElse (·.endLevel _)).wr _ _).wr _ _
          |>.pwrEvt.dipRecord.onIf (fun h => .ite h.updPower h.lgsRewrite)
          |>.setArmed
theorem execPfailN_keeps : Keeps s (execPfailN s) :=
  .ite (.next (·.updPower)) (.next (fun h => (h.updPower.clockLevels.arm.onIf (·.lgsTrigger)).leaveDoze))
theorem execPfailNRelease_keeps : Keeps s (execPfailNRelease s) := .next (·.updPower.clockLevels.setArmed)
theorem Canonical.dozeCmd (h : Canonical s) : Canonical (dozeCmd s) := .ite h.pwrEvt (h.onIf (·.setMode))
theorem execDoze_keeps : Keeps s (execDoze s) := .next (·.dozeCmd)
theorem execDozeEntry_keeps : Keeps s (execDozeEntry s) :=
  .ite (.next (fun h => ((h.setMode.pwrEvt.setBt _ _ _).startLclk.onIf (·.same (by rfl))).updVest)) (.next id)
theorem execDozeExit_keeps : Keeps s (execDozeExit s) := .next (·.leaveDoze)
theorem Canonical.runCmd (h : Canonical s) : Canonical (runCmd s) := .ite h.setMode h.leaveDoze
theorem execRun_keeps : Keeps s (execRun s) := .next (·.runCmd)
theorem Canonical.exitReady (h : Canonical s) : Canonical (exitReady s) := h.onIf (·.updPower.grant)
theorem Canonical.flushPlog : ∀ {n : Nat} {s : State}, Canonical s → Canonical (flushPlog n s)
  | 0, _, h => h
  | _ + 1, _, h => h.onElse (·.plogWrite.flushPlog)
theorem Canonical.dormantCmd (h : Canonical s) : Canonical (dormantCmd s) :=
  h.onElse (fun h => .ite h.setMode.laterTicks h.pwrEvt)
theorem execDormant_keeps : Keeps s (execDormant s) := .next (·.dormantCmd)
theorem Canonical.dormantEnter (h : Canonical s) : Canonical (dormantEnter s) := by
  unfold Machine.dormantEnter
  refine .ite h (.ite h.laterTicks ?_)
  extract_lets s1 z
  have h1 : Canonical s1 := h.flushPlog.commitLife
  clear_value s1
  have hz : Canonical z := (h1.coreReset.setFl _ _ _ _).updPower
  clear_value z
  exact hz.same (by rfl)
theorem Canonical.wake {kind idx : Nat} (h : Canonical s) : Canonical (wake s kind idx) :=
  h.onElse (fun h => (h.wr _ _).onElse (·.updPower.setBt _ _ _))
theorem execWakePin_keeps {n : Fin 16} : Keeps s (execWakePin n s) := .next fun h => h.onIf (·.wake)
theorem execLobbyWakeTimer_keeps {j : Fin 8} : Keeps s (execLobbyWakeTimer j s) :=
  .ite (.next id) <|
  .ite (.next (fun h => (h.setFl _ _ _ _).updPower)) (.next (fun h => ((h.setBt _ _ _).setEv _ _).wake.leaveDoze))
theorem Canonical.lobRearm (h : Canonical s) : Canonical (lobRearm s) := h.updPower
theorem Canonical.writeLob {j : Fin 8} {o : Nat} {v : Word} (h : Canonical s) : Canonical (writeLob s j o v) :=
  (Canonical.ite (h.wr _ _) (h.upd _ _)).updPower
theorem Canonical.writePwrCmd {v : Word} (h : Canonical s) : Canonical (writePwrCmd s v) := by
  unfold Machine.writePwrCmd
  split
  · exact h
  · exact h.dozeCmd
  · exact h.runCmd
  · exact h.dormantCmd
  · exact h.lgsTrigger
  · exact h.pwrEvt
theorem Canonical.writeRstSw {v : Word} (h : Canonical s) : Canonical (writeRstSw s v) := by
  unfold Machine.writeRstSw
  extract_lets at'
  have hat : ∀ {t b c}, Canonical t → Canonical (at' t b c) := fun h => h.onIf (·.after _ _)
  exact hat (hat (hat (hat (hat h))))
theorem Canonical.resetRegs {p : Nat → Bool} (h : Canonical s) : Canonical (resetRegs s p) :=
  ((h.filterRegs _).filterLat _).same (by rfl)
theorem Canonical.ringGone {r : Fin 64} (h : Canonical s) : Canonical (ringGone s r) := by
  unfold Machine.ringGone
  extract_lets s1 s2 src s3 g s4 s5
  have h1 : Canonical s1 := .ite h.countLoss h.discardEntries
  have h2 : Canonical s2 := h1.updLand
  have h3 : Canonical s3 := h2.same (by rfl)
  have h4 : Canonical s4 := by
    unfold s4
    split
    · exact h3.onIf (·.setWork.endBurst)
    · exact h3
  have h5 : Canonical s5 := h4.updRing.dropDue _
  exact ((h5.setBt _ _ _).wr _ _).setBt _ _ _
theorem execSupReset_keeps : Keeps s (execSupReset s) :=
  .next fun h => (h.fold (fun h => h.onElse (·.ringGone))).resetRegs.onElse (·.same (by rfl))
theorem execGalReset_keeps : Keeps s (execGalReset s) := by
  unfold execGalReset
  extract_lets s1 s2 keep s3 s4
  have h1 : Canonical s → Canonical s1 := fun h => h.fold (·.ringGone)
  have h2 : Canonical s → Canonical s2 := fun h => (h1 h).updLand
  have h3 : Canonical s → Canonical s3 := fun h => (h2 h).resetRegs
  have h4 : Canonical s → Canonical s4 := fun h => (h3 h).setBt _ _ _
  exact .next fun h => (h4 h).same (by rfl)
theorem execTimingReset_keeps : Keeps s (execTimingReset s) := by
  unfold execTimingReset
  extract_lets s1 s2 s3 chan s4
  refine .next fun h => ?_
  have h3 : Canonical s3 := ((h.fold (·.endCommit)).fold (·.endDesc)).resetRegs
  clear_value s3
  have h4 : Canonical s4 := h3.same (by rfl)
  clear_value s4
  exact (h4.dropDue _).fold (·.endLevel _)

/-! ### Microcode (Micro.lean) -/

theorem Canonical.updPatch {f : Patch → Patch} (h : Canonical s) : Canonical (s.updPatch f) := h.same (by rfl)
theorem Canonical.mcResult {r : Nat} (h : Canonical s) : Canonical (mcResult s r) := h.setFl _ _ _ _
theorem Canonical.mcRefuse {r : Nat} (h : Canonical s) : Canonical (mcRefuse s r) := h.mcResult.raise _ _
theorem Canonical.mcCheck {d : Nat} {c : Check} (h : Canonical s) : Canonical (mcCheck s d c) := h.updPatch.afterTicks
theorem Canonical.mcVerify {c : List Byte} {fromChest chestwr : Bool} (h : Canonical s) :
    Canonical (mcVerify s c fromChest chestwr) :=
  h.mcCheck
theorem Canonical.mcLoadCmd (h : Canonical s) : Canonical (mcLoadCmd s) := .ite h.mcRefuse h.mcVerify
theorem execMcLoad_keeps : Keeps s (execMcLoad s) := .next (·.mcLoadCmd)
theorem Canonical.loadEnds (h : Canonical s) : Canonical (loadEnds s) := h.updPatch.fold (·.after _ _)
theorem Canonical.activate {c : Check} {ws : List Nat} (h : Canonical s) : Canonical (activate s c ws) := h.updPatch.wr _ _
theorem execPatchActivate_keeps : Keeps s (execPatchActivate s) := by
  unfold execPatchActivate
  split
  · exact .next id
  · extract_lets src s1 n bs s2
    have hsrc : Canonical s → Canonical src := (·.updPatch)
    have h1 : Canonical s → Canonical s1 := fun h => (hsrc h).same (by rfl)
    have h2 : Canonical s → Canonical s2 := fun h => (h1 h).updPatch
    split
    · exact .next fun h => (h1 h).mcRefuse
    · exact .next fun h => (Canonical.ite ((h1 h).mcResult.raise _ _) (h1 h).mcRefuse).loadEnds
    · exact .next fun h => (h1 h).activate.mcResult.loadEnds
    · exact .ite (.next (fun h => (h1 h).mcCheck)) (.next (fun h => (h2 h).beginBurst))
theorem Canonical.unloadCmd (h : Canonical s) : Canonical (unloadCmd s) := .ite h.mcRefuse (h.updPatch.wr _ _).mcResult
theorem execUnload_keeps : Keeps s (execUnload s) := .next (·.unloadCmd)
theorem Canonical.advsvnCmd (h : Canonical s) : Canonical (advsvnCmd s) :=
  .ite h.mcResult (.ite h.mcResult h.updPatch.afterTicks)
theorem execAdvsvn_keeps : Keeps s (execAdvsvn s) := .next (·.advsvnCmd)
theorem execFuseStep_keeps : Keeps s (execFuseStep s) :=
  .ite (.next id) <|
  .ite (.next (fun h => (h.updPatch.dropDue _).afterTicks)) (.next (fun h => (h.updPatch.dropDue _).updPatch.mcResult))
theorem Canonical.chestwrCmd (h : Canonical s) : Canonical (chestwrCmd s) := .ite h.mcResult h.mcVerify
theorem execChestwr_keeps : Keeps s (execChestwr s) := .next (·.chestwrCmd)
theorem Canonical.writeMcCmd {v : Word} (h : Canonical s) : Canonical (writeMcCmd s v) := by
  unfold Machine.writeMcCmd
  split
  · exact h
  · exact h.mcLoadCmd
  · exact h.unloadCmd
  · exact h.advsvnCmd
  · exact h.chestwrCmd
  · exact h.mcResult

/-! ### Ports (Ports.lean) -/

theorem Canonical.updPorts {f : Ports → Ports} (h : Canonical s) : Canonical (s.updPorts f) := h.same (by rfl)
theorem Canonical.updPeer {f : Peer → Peer} (h : Canonical s) : Canonical (s.updPeer f) := h.same (by rfl)
theorem Canonical.writeHbCtrl {a : Agent} {v : Word} (h : Canonical s) : Canonical (writeHbCtrl s a v) :=
  .ite (h.onIf (·.rsvd _ _)) (((h.onIf (·.rsvd _ _)).wr _ _).ifElse (·.updPorts.hbRestart) (fun h => h.onIf (·.updPorts)))
theorem execHbLock_keeps : Keeps s (execHbLock s) := .next (·.writeHbCtrl)
theorem Canonical.writeHbKick {a : Agent} {v : Word} (h : Canonical s) : Canonical (writeHbKick s a v) :=
  .ite (h.rsvd _ _) ((h.onIf (·.rsvd _ _)).onElse (fun h => .ite (h.setFl _ _ _ _).updPorts.hbRestart (h.satFl _ _ _)))
theorem execHbKick_keeps {a : Agent} {v : Word} : Keeps s (execHbKick a v s) := .next (·.leaveDoze.writeHbKick)
theorem execHeartbeatExpiry_keeps : Keeps s (execHeartbeatExpiry s) :=
  .ite (.next (fun h => (((h.setEv _ _).setEv _ _).raise _ _).hbRestart)) (.next id)
theorem execReadStatus_keeps : Keeps s (execReadStatus s) := .next fun h => h.onIf (·.updPorts)
theorem execReadId_keeps : Keeps s (execReadId s) := .next fun h => h.onIf (·.updPorts)
theorem execL1Entry_keeps : Keeps s (execL1Entry s) := .ite (.next (fun h => (h.updPcie.setFl _ _ _ _).updPorts)) (.next id)
theorem execPcieError_keeps {k : Fin 3} : Keeps s (execPcieError k s) := .next fun h => (h.satFl _ _ _).raise _ _
theorem Canonical.ringDown (h : Canonical s) : Canonical (ringDown s) :=
  (((((h.upd _ _).setBt _ _ _).raiseLevel _ _).endLevel _).onIf (·.setEv _ _)).failCommits.onIf (·.snapFails)
    |>.updPeer.dropDue _
    |>.fold (fun h => h.onIf (·.peerLost))
theorem Canonical.ringRises {ndev : Nat} (h : Canonical s) : Canonical (ringRises s ndev) :=
  (((h.setFl _ _ _ _).setBt _ _ _).endLevel _).onElse (fun h => h.onIf (·.setBt _ _ _))
theorem Canonical.enumSend (h : Canonical s) : Canonical (enumSend s) := (h.same (by rfl)).onIf (·.peerSend.laterTicks)
theorem Canonical.peerCheck (h : Canonical s) : Canonical (peerCheck s) := h.onIf (·.raiseLevel _ _)
theorem Canonical.writePeerCfg {v : Word} (h : Canonical s) : Canonical (writePeerCfg s v) :=
  ((h.wr _ _).onIf (·.setBt _ _ _)).ifElse (fun h => (h.same (by rfl)).updPeer.laterTicks)
    (fun h => h.onIf (·.updPeer.ringDown.endLevel _))
theorem execPeerEnable_keeps : Keeps s (execPeerEnable s) := .next (·.writePeerCfg)
theorem execCommaLock_keeps : Keeps s (execCommaLock s) :=
  .ite (.next (fun h => h.updPeer.onIf (fun h => (h.setFl _ _ _ _).enumSend))) (.next id)
theorem execPeerLinkDown_keeps : Keeps s (execPeerLinkDown s) :=
  .ite (.next (fun h => (h.updPeer.satFl _ _ _).peerSend.ringDown)) (.next id)
theorem execPeerReset_keeps : Keeps s (execPeerReset s) := by
  unfold execPeerReset
  extract_lets s1 s2 s3 src
  have h1 : Canonical s → Canonical s1 := fun h => h.onIf (·.ringDown)
  have h2 : Canonical s → Canonical s2 := fun h => (h1 h).resetRegs
  have h3 : Canonical s → Canonical s3 := fun h => (h2 h).same (by rfl)
  exact .next fun h => (h3 h).updPeer
theorem Canonical.forward {hd : FrameHead} {f : PeerFrame} (h : Canonical s) : Canonical (forward s hd f) :=
  h.onElse (·.laterTicks)
theorem execEnumFrame_keeps {hd : FrameHead} : Keeps s (execEnumFrame hd s) :=
  .ite (.next id) <|
  .ite (.ite (.next id) (.next (·.updPeer.ringRises.after _ _))) <|
  .ite (.next (·.raiseLevel _ _)) (.next (fun h => (h.setFl _ _ _ _).laterTicks))
theorem execTimeFrameSend_keeps : Keeps s (execTimeFrameSend s) := .ite (.next (·.updPeer.peerSend.afterTicks)) (.next id)
theorem Canonical.joinStep {d : Int} (h : Canonical s) : Canonical (joinStep s d) :=
  .ite ((h.wr _ _).wr _ _).updTb (h.setBt _ _ _)
theorem Canonical.align {t' : Time} {fine arr : BitVec 5} (h : Canonical s) : Canonical (align s t' fine arr) :=
  h.setFl _ _ _ _
    |>.updPeer.ifElse (·.joinStep) fun h =>
        ((h.updPeer.setBt _ _ _).ifElse (·.endLevel _) (·.raiseLevel _ _)).onIf (·.setSlew)
theorem execTimeFrame_keeps {hd : FrameHead} {t' : Time} {fine arr : BitVec 5} : Keeps s (execTimeFrame hd t' fine arr s) := by
  unfold execTimeFrame
  refine .ite (.next id) ?_
  refine .ite ?_ (.next (fun h => (h.onElse (·.fresh.ringRises)).align.forward))
  split
  · exact .next (·.updPeer)
  · exact .next id
theorem execTooth0Frame_keeps {hd : FrameHead} {t' : Tooth0} : Keeps s (execTooth0Frame hd t' s) :=
  .ite (.next id) (.next (·.updPeer.forward))
theorem execTooth1Frame_keeps {hd : FrameHead} {t' : Tooth1} : Keeps s (execTooth1Frame hd t' s) := by
  unfold execTooth1Frame
  refine .ite (.next id) ?_
  extract_lets s1 s2
  have h1 : Canonical s → Canonical s1 := by
    intro h
    unfold s1
    split
    · exact h.fold (·.applyBroadcast.passCycle)
    · exact h
  have h2 : Canonical s → Canonical s2 := fun h => (h1 h).updPeer
  exact .next fun h => (h2 h).forward
theorem Canonical.addDuty {hd : FrameHead} {round : Nat} {t' : Option (Fin 8)} {at' : Word} (h : Canonical s) :
    Canonical (addDuty s hd round t' at') :=
  h.updPeer
theorem execSnapFrame_keeps {hd : FrameHead} {round : Nat} {at' : Word} : Keeps s (execSnapFrame hd round at' s) :=
  .ite (.next id) (.next (·.addDuty.forward))
theorem execCommitFrame_keeps {hd : FrameHead} {round : Nat} {t' : Fin 8} {at' : Word} :
    Keeps s (execCommitFrame hd round t' at' s) :=
  .ite (.next id) (.next (·.addDuty.forward))
theorem Canonical.closeRound {round : Nat} {acted : BitVec 4} (h : Canonical s) : Canonical (closeRound s round acted) := by
  unfold Machine.closeRound
  split
  · exact h
  · exact (h.updPeer.fold (·.setEv _ _)).setEv _ _
theorem execStatusFrame_keeps {hd : FrameHead} {round : Nat} {acted : BitVec 4} : Keeps s (execStatusFrame hd round acted s) :=
  .ite (.next id) (.ite (.next (·.closeRound.updPeer)) (.next (·.updPeer.forward)))
theorem execLinkdnFrame_keeps {hd : FrameHead} : Keeps s (execLinkdnFrame hd s) :=
  .ite (.next id) (.next (fun h => (h.ringDown.onIf (·.laterTicks)).forward))
theorem execPeerFrameDiscard_keeps : Keeps s (execPeerFrameDiscard s) :=
  .next fun h => h.onIf (fun h => (h.satFl _ _ _).raise _ _)
theorem Canonical.tap {i : TapIr} (h : Canonical s) : Canonical (tap s i) := h.updPorts
theorem Canonical.bscanLevels (h : Canonical s) : Canonical (bscanLevels s).2 := by
  unfold Machine.bscanLevels
  split
  · rename_i e
    extract_lets tio other bs
    exact h.fresh.ofSnd e
theorem execSamplePreload_keeps : Keeps s (execSamplePreload s) := .next (·.bscanLevels.fresh.fresh.fresh.fresh.updPorts.tap)
theorem execExtest_keeps : Keeps s (execExtest s) := .next (·.tap)
theorem execHighz_keeps : Keeps s (execHighz s) := .next (·.tap)
theorem execClamp_keeps : Keeps s (execClamp s) := .next (·.tap)
theorem execIdcode_keeps : Keeps s (execIdcode s) := .next (·.tap)
theorem execBypass_keeps : Keeps s (execBypass s) := .next (·.tap)
theorem execDebug_keeps : Keeps s (execDebug s) :=
  .ite execBypass_keeps (.next (fun h => (h.onElse (·.raise _ _)).updPorts.tap))
theorem Canonical.writeDbgHalt {v : Word} (h : Canonical s) : Canonical (writeDbgHalt s v) :=
  h.fold (fun h => h.onIf (·.haltCmd))
theorem Canonical.writeDbgResume {v : Word} (h : Canonical s) : Canonical (writeDbgResume s v) :=
  h.fold (fun h => h.onIf (·.resumeCmd))
theorem Canonical.writeDbgStep {v : Word} (h : Canonical s) : Canonical (writeDbgStep s v) :=
  h.fold (fun h => h.onIf (·.stepCmd))
theorem execDbgHalt_keeps {x : Agent} {v : Word} : Keeps s (execDbgHalt x v s) := .next (·.writeDbgHalt)
theorem execDbgResume_keeps {x : Agent} {v : Word} : Keeps s (execDbgResume x v s) := .next (·.writeDbgResume)
theorem execDbgStep_keeps {x : Agent} {v : Word} : Keeps s (execDbgStep x v s) := .next (·.writeDbgStep)

/-! ### Accesses (Access.lean) -/

theorem Canonical.writeDbgData {v : Word} (h : Canonical s) : Canonical (writeDbgData s v) := by
  unfold Machine.writeDbgData
  extract_lets e b lo16
  refine .ite (h.setEv _ _) ?_
  split
  · exact h.updBank
  · exact h.updBank
  · exact h.updBank
  · exact h.updBank
  · exact h.updBank
  · exact h.updBank
  · exact h.updBank
  · exact h.updBank
  · exact h.updBank
  · exact h.updBank
  · exact h.setFl _ _ _ _
  · exact h.onIf (·.updBank)
theorem execDbgDataWrite_keeps {x : Agent} {v : Word} : Keeps s (execDbgDataWrite x v s) := .next (·.writeDbgData)
theorem Canonical.clearRc {o : Nat} {r : RegRow} (h : Canonical s) : Canonical (clearRc s o r) := by
  unfold Machine.clearRc
  refine .ite h ?_
  extract_lets src
  have hsrc : Canonical src := h.upd _ _
  exact hsrc.same (by rfl)
theorem Canonical.beforeEvents {o : Nat} {r : RegRow} (h : Canonical s) : Canonical (beforeEvents s o r) := by
  unfold Machine.beforeEvents
  split
  · exact h.onElse (·.upd _ _)
  · exact h
theorem Canonical.readReg {a : Agent} {o : Nat} (h : Canonical s) : Canonical (readReg s a o).2 := by
  unfold Machine.readReg
  extract_lets o' row v
  have hv : Canonical v := h.beforeEvents
  split
  · exact Canonical.iteSnd h.readTbLo (Canonical.iteSnd h.readSyncTs h.clearRc)
  · extract_lets x
    exact Canonical.iteSnd h.readCnt (Canonical.iteSnd h.readCapa (Canonical.iteSnd h.readFifoT h.clearRc))
  · extract_lets x
    exact h.clearRc
  · extract_lets x
    exact Canonical.iteSnd h.readToothT (Canonical.iteSnd h.readEvlastT h.clearRc)
  · exact h
  · extract_lets x
    exact Canonical.iteSnd h (Canonical.iteSnd h h.clearRc)
  · extract_lets x
    exact Canonical.iteSnd h.readRxbuf h.clearRc
  · exact h.clearRc
  · exact h.clearRc
  · extract_lets x
    exact h.clearRc
  · exact h
  · exact h
  · exact h
theorem Canonical.notePram {a : Agent} {o : Nat} (h : Canonical s) : Canonical (notePram s a o) := by
  unfold Machine.notePram
  refine .ite h ?_
  split
  · exact h.servePram
  · exact h.servePram
  · exact h
theorem Canonical.serveRead {a : Agent} {o : Nat} (h : Canonical s) : Canonical (serveRead s a o).2 := by
  unfold Machine.serveRead
  refine Canonical.iteSnd h.notePram ?_
  split
  · extract_lets r
    exact h.readReg
  · exact h
theorem Canonical.plainWrite {o : Nat} {r : RegRow} {v : Word} (h : Canonical s) : Canonical (plainWrite s o r v) := h.upd _ _
theorem Canonical.writeGlob {a : Agent} {o : Nat} {r : RegRow} {v : Word} (h : Canonical s) : Canonical (writeGlob s a o r v) :=
  h.onIf (·.journal)
    |>.ifElse (·.writeClkCtrl) fun h =>
        .ite h.writeLclkTrim <|
        .ite h.writeTbSlew <|
        .ite h.writeTbCmd <|
        .ite h.writeSyncoutCtrl <|
        .ite h.writeSyncoutWidth <|
        .ite h.writeClkFrz <|
        .ite h.writePwrCmd <|
        .ite h.writeRstSw <|
        .ite h.writeLob <|
        .ite (h.plainWrite.later' _ _) <|
        .ite h.writeFltCmd <|
        .ite h.injectCmd <|
        .ite h.clearPend <|
        .ite h.writeSafeMask <|
        .ite h.safeclrCmd <|
        .ite h.writeBgReq <|
        .ite h.plainWrite.startRefusing <|
        .ite h.writeChestCmd <|
        .ite h.writeSuplock <|
        .ite h.galMark <|
        .ite h.writeSnapCmd <|
        .ite h.writeHbCtrl <|
        .ite h.writeHbKick <|
        .ite h.writePeerCfg <|
        .ite h.writeMcCmd <|
        .ite h.writeDbgHalt (.ite h.writeDbgResume (.ite h.writeDbgStep (.ite h.writeDbgData h.plainWrite)))
theorem Canonical.writeCh {a : Agent} {n : Fin 96} {o : Nat} {r : RegRow} {v : Word} (h : Canonical s) :
    Canonical (writeCh s a n o r v) := by
  unfold Machine.writeCh
  extract_lets x s1
  have h1 : Canonical s1 := h.journal
  refine .ite h1.writeChCtrl ?_
  refine .ite h1.writeOutcfg ?_
  refine .ite h1.plainWrite.updCh ?_
  refine .ite h1.writeChPwm ?_
  refine .ite h1.writeChCmd ?_
  refine .ite h1.chCntWrite ?_
  refine .ite (h1.setLat _ _ _) ?_
  refine .ite h1.writeAqA ?_
  split
  · exact h1.writeShadow
  · exact h1.plainWrite
theorem Canonical.writePg {m : Fin 16} {o : Nat} {r : RegRow} {v : Word} (h : Canonical s) : Canonical (writePg s m o r v) :=
  h.journal.ifElse (·.writePgCtrl) fun h =>
    .ite h.writePgCmd (.ite h.updPg (.ite h.writePgPeriod (.ite h.writePgTrip (.ite h.writePgPhase h.plainWrite))))
theorem Canonical.writeNwl {n : Fin 4} {o : Nat} {r : RegRow} {v : Word} (h : Canonical s) : Canonical (writeNwl s n o r v) :=
  h.journal.ifElse (·.writeNwlCtrl) (fun h => .ite h.writeNwlCmd (.ite h.writeEvctrl (.ite (h.raise _ _) h.plainWrite)))
theorem Canonical.writeFe {a : Agent} {e : Fin 8} {o : Nat} {r : RegRow} {v : Word} (h : Canonical s) :
    Canonical (writeFe s a e o r v) :=
  .ite h.writeFeCmd <|
  .ite h.writeFeCode <|
  .ite (h.onElse (fun h => h.plainWrite.onElse (·.later' _ _))) <|
  .ite h.writeMbxdb <|
  .ite h.writeMbxack (.ite h.writeMbxWord (.ite h.writeTh (.ite h.writeGo (.ite h.writeBar h.plainWrite))))
theorem Canonical.writeLn {a : Agent} {k : Fin 16} {o : Nat} {r : RegRow} {v : Word} (h : Canonical s) :
    Canonical (writeLn s a k o r v) :=
  .ite h.writeLnCtrl (.ite h.writeLnPins (.ite h.writeLnCmd (.ite h.writeTxbuf h.plainWrite)))
theorem Canonical.writeRing {a : Agent} {k : Fin 64} {o : Nat} {r : RegRow} {v : Word} (h : Canonical s) :
    Canonical (writeRing s a k o r v) :=
  .ite h.writeRingCfg (.ite h.writeRingAddr (.ite h.ringDoorbell (.ite h.writeRingCmd h.plainWrite)))
theorem Canonical.writeGc {a : Agent} {g : Fin 16} {o : Nat} {r : RegRow} {v : Word} (h : Canonical s) :
    Canonical (writeGc s a g o r v) :=
  .ite ((h.setFl _ _ _ _).ifElse (·.raise _ _) (·.setFl _ _ _ _)) h.plainWrite
theorem Canonical.writeTxn {a : Agent} {t' : Fin 8} {o : Nat} {r : RegRow} {v : Word} (h : Canonical s) :
    Canonical (writeTxn s a t' o r v) :=
  .ite h.writeTxnCmd (.ite (h.setLat _ _ _) (.ite h.writeSval h.plainWrite))
theorem Canonical.writeReg {a : Agent} {o : Nat} {v : Word} (h : Canonical s) : Canonical (writeReg s a o v) := by
  unfold Machine.writeReg
  split
  · exact h.onElse (·.rsvd _ _)
  · extract_lets s1
    have h1 : Canonical s1 := h.onIf (·.rsvd _ _)
    split
    · exact h1.writeGlob
    · exact h1.writeCh
    · exact h1.writePg
    · exact h1.writeNwl
    · exact h1.writeSlot
    · exact h1.writeFe
    · exact h1.writeLn
    · exact h1.writeRing
    · exact h1.writeGc
    · exact h1.plainWrite
    · exact h1.writeTxn
    · exact h1
    · exact h1
theorem Canonical.writeRam {a : Agent} {o be : Nat} {v : Word} (h : Canonical s) : Canonical (writeRam s a o be v) :=
  .ite h.writeCode (h.onElse (·.setMem _ _ _))
theorem Canonical.serveWrite {a : Agent} {o be : Nat} {v : Word} (h : Canonical s) : Canonical (serveWrite s a o be v) :=
  .ite h.notePram.writeRam (.ite h.writeReg (h.raise _ _))
theorem Canonical.writeMw2 {a : Agent} {o be : Nat} {v : Word} (h : Canonical s) : Canonical (writeMw2 s a o be v) :=
  .ite (h.raise _ _) (h.onIf (·.ringDoorbell))
theorem Canonical.writeMw4 {o be : Nat} {v : Word} (h : Canonical s) : Canonical (writeMw4 s o be v) :=
  h.onIf (fun h => (h.setMem _ _ _).pbaSend)
theorem Canonical.readWord {a : Agent} {x : Window} (h : Canonical s) : Canonical (readWord s a x).2 := by
  unfold Machine.readWord
  split
  · exact h.serveRead
  · exact h
  · exact h
theorem Canonical.writeWord {a : Agent} {be : Nat} {v : Word} {x : Window} (h : Canonical s) :
    Canonical (writeWord s a be v x) := by
  unfold Machine.writeWord
  split
  · exact h.serveWrite
  · exact h.writeMw2
  · exact h.writeMw4
theorem Canonical.xspiProto (h : Canonical s) : Canonical (xspiProto s) := (h.setEv _ _).raise _ _
theorem Canonical.restWrite {c : Nat → Nat → BitVec 64 → Instr} {off size k : Nat} {v : BitVec 64} (h : Canonical s) :
    Canonical (restWrite s c off size k v) :=
  h.onIf (·.after _ _)
theorem requestWrite_keeps {a : Agent} {c : Nat → Nat → BitVec 64 → Instr} {off size : Nat} {v : BitVec 64} :
    Keeps s (requestWrite s a c off size v) := by
  unfold requestWrite
  refine .ite (.next id) ?_
  refine .ite (.next (·.xspiProto)) ?_
  refine .ite (.next (·.wakeLink)) ?_
  refine .ite (.next (fun h => (h.after _ _).after _ _)) ?_
  extract_lets s1
  have h1 : Canonical s → Canonical s1 := fun h => h.onIf (·.wakeLink)
  split
  · exact .next h1
  · exact .next fun h => (h1 h).writeWord.restWrite
theorem execRegisterWrite_keeps {a : Agent} {off size : Nat} {v : BitVec 64} : Keeps s (execRegisterWrite a off size v s) :=
  requestWrite_keeps
theorem execCodeRamWrite_keeps {a : Agent} {off size : Nat} {v : BitVec 64} : Keeps s (execCodeRamWrite a off size v s) :=
  requestWrite_keeps
theorem execRcRead_keeps {a : Agent} {off size : Nat} : Keeps s (execRcRead a off size s) := by
  unfold execRcRead
  refine .ite (.next id) ?_
  refine .ite (.next (·.xspiProto)) ?_
  refine .ite (.next (·.wakeLink)) ?_
  refine .ite (.next (fun h => (h.after _ _).after _ _)) ?_
  refine .ite (.next (·.after _ _)) ?_
  extract_lets s1
  have h1 : Canonical s → Canonical s1 := fun h => h.onIf (·.wakeLink)
  split
  · exact .next h1
  · exact .next fun h => ((h1 h).readWord.keep _ _).onIf (·.after _ _)
theorem Canonical.readBurst : ∀ {n o : Nat} {s : State}, Canonical s → Canonical (readBurst n o s).2
  | 0, _, _, h => h
  | _ + 1, _, _, h => h.serveRead.readBurst
theorem execXspiRead_keeps {off len : Nat} : Keeps s (execXspiRead off len s) :=
  .ite (.next id) <|
  .ite (.next (·.xspiProto)) <|
  .ite (.next (fun h => ((h.after _ _).setEv _ _).updPorts.keep _ _)) <|
  .ite (.next (·.after _ _)) (.next (·.readBurst.updPorts.keep _ _))
theorem execXspiWrite_keeps {off : Nat} {data : List Byte} : Keeps s (execXspiWrite off data s) := by
  unfold execXspiWrite
  refine .ite (.next id) ?_
  refine .ite (.next (·.xspiProto)) ?_
  split
  · exact .next id
  · exact .ite (.next (fun h => ((h.onIf (·.setEv _ _)).after _ _).after _ _)) <|
      .next (fun h => h.serveWrite.onElse (·.after _ _))
theorem execDebugUpdateDr_keeps {dr : BitVec 54} : Keeps s (execDebugUpdateDr dr s) :=
  .ite (.next id) <|
  .ite (.next (·.updPorts.after _ _)) (.ite (.next (·.updPorts.serveWrite)) (.next (·.updPorts.serveRead.keep _ _)))

/-! ### Boot (Boot.lean) -/

theorem execVddGood_keeps {vio : BitVec 3} : Keeps s (execVddGood vio s) :=
  .ite (.next (fun h => h.onIf (·.wake))) <|
  .next (fun h => ((((h.onIf (·.wake)).onIf (·.coreReset)).updPower.setFl _ _ _ _).onIf (·.clockLevels)).setArmed)
theorem execXinRunning_keeps : Keeps s (execXinRunning s) :=
  .ite (.next id) (.next (fun h => ((h.setBt _ _ _).endLevel _).onIf (·.updPower)))
theorem execBootPatchLoad_keeps : Keeps s (execBootPatchLoad s) :=
  .ite (.next id) <|
  .next fun h =>
    ((h.updPower.ifElse (fun h => (h.fresh.setBt _ _ _).raise _ _) (·.fresh)).ifElse (·.setBt _ _ _) (·.mcVerify)).afterTicks
theorem Canonical.loadChest (h : Canonical s) : Canonical (loadChest s) :=
  (((((h.fold (·.wr _ _)).satFl _ _ _).wr _ _).wr _ _).wr _ _).updPower
theorem Canonical.imageDone (h : Canonical s) : Canonical (imageDone s) := h.after _ _
theorem Canonical.imageStep (h : Canonical s) : Canonical (imageStep s) := by
  unfold Machine.imageStep
  split
  · exact h.imageDone
  · exact h.updPower.ifElse (·.afterTicks) (fun h => h.serveWrite.ifElse (fun h => (h.wr _ _).imageDone) (·.after _ _))
theorem execConfigImageApply_keeps : Keeps s (execConfigImageApply s) := by
  unfold execConfigImageApply
  split
  · exact .next fun h => (h.loadChest.setFl _ _ _ _).updChest.updPower
      |>.ifElse (fun h => .ite (h.wr _ _).imageDone (h.after _ _)) (·.imageDone)
  · exact .next fun h => h.onElse (·.imageStep)
  · exact .next id
theorem execImageWaitExpiry_keeps : Keeps s (execImageWaitExpiry s) :=
  .next fun h => h.onIf (fun h => .ite (h.wr _ _).imageDone h.imageStep)
theorem execAutogoStart_keeps : Keeps s (execAutogoStart s) := by
  unfold execAutogoStart
  refine .ite (.next id) ?_
  extract_lets s1 src s2 s3 m s4
  have h1 : Canonical s → Canonical s1 := (·.updPower)
  have h2 : Canonical s → Canonical s2 := fun h => ((h1 h).same (by rfl)).later' _ _
  have h3 : Canonical s → Canonical s3 := fun h => (h2 h).wr _ _
  have h4 : Canonical s → Canonical s4 := fun h => (h3 h).onElse (·.writeGo)
  exact .next fun h => (h4 h).onElse (·.afterTicks)

/-! ### Descriptors (Descriptors.lean) -/

theorem execLanding_keeps {t' : Fin 8} : Keeps s (execLanding t' s) :=
  .ite (.next (fun h => (h.fold (·.serveWrite)).landed)) (.next id)
theorem Canonical.startDesc {r : Fin 64} (h : Canonical s) : Canonical (startDesc s r) := by
  unfold Machine.startDesc
  split
  · exact h.updRing.setWork
  · exact h
theorem Canonical.updDesc {r : Fin 64} {f : Desc → Desc} (h : Canonical s) : Canonical (updDesc s r f) := h.updRing
theorem Canonical.runDesc {r : Fin 64} {opc : Nat} {body : State → State} (h : Canonical s) (hb : ∀ {t}, Canonical t →
    Canonical (body t)) : Canonical (runDesc s r opc body) :=
  h.onIf fun h => h.startDesc.ifElse hb (·.endDesc)
theorem Canonical.badOpcode {r : Fin 64} (h : Canonical s) : Canonical (badOpcode s r) := by
  unfold Machine.badOpcode
  split
  · exact h.onIf (·.startDesc.endDesc)
  · exact h
theorem Canonical.chipPut : ∀ {bs : List (Nat × Byte)} {s : State}, Canonical s → Canonical (chipPut bs s).2
  | [], _, h => h
  | (o, b) :: rest, s, h => by
    unfold Machine.chipPut
    split
    · exact h.codeRefuse
    · exact (h.setByte o b).chipPut
theorem Canonical.galPram {o : Nat} (h : Canonical s) : Canonical (galPram s o) := h.onIf (·.servePram)
theorem Canonical.hostTlps {ro : Bool} : ∀ {fuel a : Nat} {bs : List Byte} {s : State},
    Canonical s → Canonical (hostTlps ro fuel a bs s)
  | 0, _, _, _, h => h
  | _ + 1, _, _, _, h => h.onElse (·.hostWrite.hostTlps)
theorem Canonical.deliver {r : Fin 64} {chip : Bool} {result : Word} (h : Canonical s) :
    Canonical (deliver s r chip result) := by
  unfold Machine.deliver
  split
  · exact h
  · exact .ite h.galPram.chipPut.galMoves.endDesc (.ite h.endDesc (h.onElse (·.hostTlps.galMoves.endDesc)))
theorem Canonical.takeAccess (h : Canonical s) : Canonical (takeAccess s) := h.same (by rfl)
theorem Canonical.writeStep {r : Fin 64} {d : Desc} {ws : List (Nat × Word)} (h : Canonical s) :
    Canonical (writeStep s r d ws) := by
  unfold Machine.writeStep
  split
  · exact h
  · exact h.onElse (fun h => h.takeAccess.updDesc.serveWrite.onIf (·.endDesc))
theorem Canonical.readStep {r : Fin 64} {d : Desc} (h : Canonical s) : Canonical (readStep s r d) :=
  .ite h.deliver (h.onElse (fun h => h.takeAccess.serveRead.updDesc.onIf (·.deliver)))
theorem Canonical.snapStep {r : Fin 64} {d : Desc} (h : Canonical s) : Canonical (snapStep s r d) := by
  unfold Machine.snapStep
  split
  · exact h
  · exact (h.onIf (·.updDesc)).onIf (fun h => h.deliver.onIf (·.same (by rfl)))
theorem Canonical.descStep {r : Fin 64} (h : Canonical s) : Canonical (descStep s r) := by
  unfold Machine.descStep
  split
  · exact h
  · refine .ite h ?_
    split
    · exact h.writeStep
    · exact h.writeStep
    · exact h.readStep
    · exact h.snapStep
    · exact h
theorem Canonical.beginMoving {r : Fin 64} (h : Canonical s) : Canonical (beginMoving s r) := h.updDesc.onIf (·.descStep)
theorem Canonical.portAccesses {host : Bool} (h : Canonical s) : Canonical (portAccesses s host) :=
  h.fold (fun h => h.onIf (·.descStep))
theorem Canonical.supAccess (h : Canonical s) : Canonical (supAccess s) := h.portAccesses
theorem Canonical.stageDesc {r : Fin 64} {t' : Fin 8} {ws : List (Nat × Word)} (h : Canonical s) :
    Canonical (stageDesc s r t' ws) :=
  h.stageWrites.endDesc
theorem Canonical.writeBody {r : Fin 64} (h : Canonical s) : Canonical (writeBody r s) := .ite h.stageDesc h.beginMoving
theorem Canonical.writepBody {r : Fin 64} (h : Canonical s) : Canonical (writepBody r s) := .ite h.stageDesc h.beginMoving
theorem Canonical.moveBody {r : Fin 64} (h : Canonical s) : Canonical (moveBody r s) := (h.updDesc.wr _ _).onIf (·.request)
theorem Canonical.txnBeginBody {r : Fin 64} (h : Canonical s) : Canonical (txnBeginBody r s) := h.beginTxn.endDesc
theorem Canonical.txnCommitBody {r : Fin 64} (h : Canonical s) : Canonical (txnCommitBody r s) := by
  unfold Machine.txnCommitBody
  extract_lets ws w1 t a s1 s2 x
  have h1 : Canonical s1 := (h.setFl _ _ _ _).setFl _ _ _ _
  have h2 : Canonical s2 := (h1.wr _ _).wr _ _
  refine .ite h.endDesc ?_
  refine .ite h2.commitTxn.updDesc ?_
  exact h2.commitTxn.endDesc
theorem Canonical.txnRollbackBody {r : Fin 64} (h : Canonical s) : Canonical (txnRollbackBody r s) := h.rollbackTxn.endDesc
theorem Canonical.snapBody {r : Fin 64} (h : Canonical s) : Canonical (snapBody r s) := (h.same (by rfl)).strobeIn
theorem execDescNop_keeps {r : Fin 64} : Keeps s (execDescNop r s) := .next fun h => h.runDesc (·.endDesc)
theorem execDescWrite_keeps {r : Fin 64} : Keeps s (execDescWrite r s) := .next fun h => h.runDesc (·.writeBody)
theorem execWritep_keeps {r : Fin 64} : Keeps s (execWritep r s) := .next fun h => h.runDesc (·.writepBody)
theorem execDescRead_keeps {r : Fin 64} : Keeps s (execDescRead r s) := .next fun h => h.runDesc (·.beginMoving)
theorem execCopy_keeps {r : Fin 64} : Keeps s (execCopy r s) := .next fun h => h.runDesc (·.moveBody)
theorem execFill_keeps {r : Fin 64} : Keeps s (execFill r s) := .next fun h => h.runDesc (·.moveBody)
theorem execDescFence_keeps {r : Fin 64} : Keeps s (execDescFence r s) := .next fun h => h.runDesc (·.endDesc)
theorem execTxnBegin_keeps {r : Fin 64} : Keeps s (execTxnBegin r s) := .next fun h => h.runDesc (·.txnBeginBody)
theorem execTxnCommit_keeps {r : Fin 64} : Keeps s (execTxnCommit r s) := .next fun h => h.runDesc (·.txnCommitBody)
theorem execTxnRollback_keeps {r : Fin 64} : Keeps s (execTxnRollback r s) := .next fun h => h.runDesc (·.txnRollbackBody)
theorem execSnapDescriptor_keeps {r : Fin 64} : Keeps s (execSnapDescriptor r s) := .next fun h => h.runDesc (·.snapBody)

/-! ### The Gallery (Gallery.lean) -/

theorem Canonical.fetchSource {r : Fin 64} {d : Desc} (h : Canonical s) : Canonical (fetchSource s r d) := by
  unfold Machine.fetchSource
  extract_lets back chip at' left k lo s1
  have h1 : Canonical s1 := h.updDesc
  exact .ite h (.ite h.galPram.updDesc (.ite h.endDesc (.ite h (h1.same (by rfl)))))
theorem execHostReadCompletion_keeps {g : Fin 16} {ok : Bool} {data : List Byte} :
    Keeps s (execHostReadCompletion g ok data s) := by
  unfold execHostReadCompletion
  split
  · split
    · split
      · exact .ite (.next id) (.ite (.next (·.updDesc)) (.next (·.endDesc)))
      · exact .next id
    · exact .next id
  · exact .next id
theorem Canonical.movedBytes {r : Fin 64} {d : Desc} {k : Nat} (h : Canonical s) : Canonical (movedBytes s r d k) :=
  (h.galMoves.wr _ _).updDesc
theorem Canonical.chipBeat {r : Fin 64} {d : Desc} {k : Nat} (h : Canonical s) : Canonical (chipBeat s r d k) :=
  h.galPram.chipPut.movedBytes.ifElse (·.endDesc) (fun h => h.onIf (·.endDesc))
theorem Canonical.hostBeat {r : Fin 64} {d : Desc} {k : Nat} (h : Canonical s) : Canonical (hostBeat s r d k) :=
  (h.movedBytes.ifElse (·.hostWrite.updDesc) (·.updDesc)).onIf (·.endDesc)
theorem Canonical.entryBeat {r : Fin 64} (h : Canonical s) : Canonical (entryBeat s r) := by
  unfold Machine.entryBeat
  split
  · exact h.enq
  · exact h.issueEntry
theorem Canonical.paceBlock {r : Fin 64} (h : Canonical s) : Canonical (paceBlock s r) := (h.same (by rfl)).updRing
theorem Canonical.moveBeat {g : Fin 16} (h : Canonical s) : Canonical (moveBeat s g) := by
  unfold Machine.moveBeat
  split
  · split
    · exact (h.onIf (·.paceBlock)).updRing.galMoves
    · exact h
  · split
    · exact .ite h.chipBeat h.hostBeat
    · exact h
  · exact h.entryBeat
  · exact h
theorem Canonical.galleryBeat (h : Canonical s) : Canonical (galleryBeat s) := by
  unfold Machine.galleryBeat
  split
  · exact h
  · exact ((h.onIf (·.satFl _ _ _)).same (by rfl)).moveBeat
theorem Canonical.hostLostDesc {r : Fin 64} (h : Canonical s) : Canonical (hostLostDesc s r) := by
  unfold Machine.hostLostDesc
  split
  · exact h.onIf (·.endDesc)
  · exact h
theorem Canonical.sourceStep {g : Fin 16} (h : Canonical s) : Canonical (sourceStep s g) := by
  unfold Machine.sourceStep
  split
  · split
    · exact h.onIf (·.fetchSource)
    · exact h
  · exact h
theorem Canonical.galleryCycle (h : Canonical s) : Canonical (galleryCycle s) := by
  unfold Machine.galleryCycle
  extract_lets s1
  have h1 : Canonical s1 := h.portAccesses.fold (·.hostLostDesc)
  clear_value s1
  exact (h1.fold (·.sourceStep)).galleryBeat

/-! ### What engine instructions do (IsaOps.lean) -/

theorem Canonical.dataRsvd {e : Fin 8} {a : Nat} (h : Canonical s) : Canonical (dataRsvd s e a) := h.raise _ _
theorem Canonical.setDataByte {e : Fin 8} {b : Fin 4} {a : Nat} {v : Byte} (h : Canonical s) :
    Canonical (setDataByte s e b a v) := by
  unfold Machine.setDataByte
  split
  · exact h.setByte _ _
  · exact h.setFl _ _ _ _
  · exact h
theorem Canonical.dataStore {e : Fin 8} {b : Fin 4} {a : Word} {n : Nat} {v : Word} (h : Canonical s) :
    Canonical (dataStore s e b a n v) :=
  (h.fold (·.setDataByte)).onIf (·.dataRsvd)
theorem Canonical.dataStall {e : Fin 8} {a : Word} (h : Canonical s) : Canonical (dataStall s e a).2 :=
  Canonical.iteSnd h.servePram h
theorem Canonical.writeBankReg {e : Fin 8} {b : Fin 4} {i : Nat} {v : Word} (h : Canonical s) :
    Canonical (writeBankReg s e b i v) := by
  unfold Machine.writeBankReg
  extract_lets rw s1
  have h1 : Canonical s1 := h.onElse (·.ioRsvd)
  split
  · exact h1.setFl _ _ _ _
  · exact h1.updBank
  · exact h1
theorem Canonical.ioRead {e : Fin 8} {b : Fin 4} {a : Word} (h : Canonical s) : Canonical (ioRead s e b a).2 := by
  unfold Machine.ioRead
  split
  · exact h.serveRead
  · exact h
  · exact h
  · exact h
theorem Canonical.ioWrite {e : Fin 8} {b : Fin 4} {a v : Word} (h : Canonical s) : Canonical (ioWrite s e b a v) := by
  unfold Machine.ioWrite
  split
  · exact h.serveWrite
  · exact h.writeBankReg
  · exact h.onElse (·.ioRsvd)
  · exact h.onElse (·.ioRsvd)
theorem Canonical.endLoad {e : Fin 8} {b : Fin 4} {load : Option (Fin 16 × Word)} (h : Canonical s) :
    Canonical (endLoad s e b load) :=
  h.updBank
theorem Canonical.endPc {e : Fin 8} {b : Fin 4} {len : Nat} {goto : Option (BitVec 16)} (h : Canonical s) :
    Canonical (endPc s e b len goto) :=
  h.updBank
theorem Canonical.endTime {e : Fin 8} {after : Nat} (h : Canonical s) : Canonical (endTime s e after) := h.updEng
theorem Canonical.passPc {e : Fin 8} {b : Fin 4} {pc : BitVec 16} (h : Canonical s) : Canonical (passPc s e b pc) := by
  unfold Machine.passPc
  split
  · exact h
  · exact h.wrapPass
theorem Canonical.close {e : Fin 8} {b : Fin 4} {len : Nat} {load : Option (Fin 16 × Word)} {goto : Option (BitVec 16)} {after
    : Nat} (h : Canonical s) : Canonical (close s e b len load goto after) :=
  h.endLoad.endPc.passPc.endTime
theorem Canonical.retire {e : Fin 8} {b : Fin 4} {len : Nat} {load : Option (Fin 16 × Word)} {goto : Option (BitVec 16)} {after
    : Nat} (h : Canonical s) : Canonical (retire s e b len load goto after) :=
  h.updBank.close
theorem Canonical.finish {e : Fin 8} {b : Fin 4} {len : Nat} {load : Option (Fin 16 × Word)} {goto : Option (BitVec 16)} {after
    : Nat} (h : Canonical s) : Canonical (finish s e b len load goto after) :=
  h.retire.stepEnds
theorem Canonical.beginRepi {e : Fin 8} {b : Fin 4} (h : Canonical s) : Canonical (beginRepi s e b) := .ite h.updBank h.updBank
theorem Canonical.finishReg {e : Fin 8} {b : Fin 4} {len : Nat} {rd : Fin 16} {v : Word} {after : Nat} (h : Canonical s) :
    Canonical (finishReg s e b len rd v after) :=
  h.setReg.finish
theorem Canonical.finishLoad {e : Fin 8} {b : Fin 4} {len : Nat} {rd : Fin 16} {a v : Word} (h : Canonical s) :
    Canonical (finishLoad s e b len rd a v) :=
  h.dataStall.finish
theorem Canonical.finishStore {e : Fin 8} {b : Fin 4} {len : Nat} {a : Word} {n : Nat} {v : Word} (h : Canonical s) :
    Canonical (finishStore s e b len a n v) :=
  h.dataStall.dataStore.finish
theorem Canonical.illegal {e : Fin 8} {b : Fin 4} (h : Canonical s) : Canonical (illegal s e b) := h.threadFault.stepEnds
theorem Canonical.stackFault {e : Fin 8} {b : Fin 4} (h : Canonical s) : Canonical (stackFault s e b) := h.threadFault.stepEnds
theorem Canonical.pushWord {e : Fin 8} {b : Fin 4} {v : Word} (h : Canonical s) : Canonical (pushWord s e b v) :=
  h.setSp.dataStore
theorem Canonical.withTail {e : Fin 8} {b : Fin 4} {t' : RomTail} (h : Canonical s) : Canonical (withTail s e b t') :=
  h.updBank.updEng
theorem Canonical.saveCtx {e : Fin 8} {b : Fin 4} {pc : Fin 32 → BitVec 16} (h : Canonical s) :
    Canonical (saveCtx s e b pc) := by
  unfold Machine.saveCtx
  split
  · exact h.setCtx.setCtx
  · exact h
theorem Canonical.threadDone {e : Fin 8} {b : Fin 4} (h : Canonical s) : Canonical (threadDone s e b) := h.saveCtx.withTail
theorem Canonical.threadYield {e : Fin 8} {b : Fin 4} (h : Canonical s) : Canonical (threadYield s e b) := h.saveCtx.withTail
theorem Canonical.leaveBank {e : Fin 8} {b : Fin 4} {done : Bool} (h : Canonical s) : Canonical (leaveBank s e b done) := by
  unfold Machine.leaveBank
  split
  · exact h.wrapPass.freeBank.ifElse (·.settleThread) (·.setThState)
  · exact h
theorem Canonical.afterRelease {e : Fin 8} {b : Fin 4} (h : Canonical s) : Canonical (afterRelease s e b) :=
  h.releaseBank.schedule.stepEnds
theorem Canonical.romTail {e : Fin 8} {b : Fin 4} (h : Canonical s) : Canonical (romTail s e b) := by
  unfold Machine.romTail
  extract_lets go
  split
  · exact h.leaveBank.afterRelease
  · exact h.leaveBank.afterRelease
  · exact h.updBank.finishReg
  · exact h.updBank
  · exact h
theorem Canonical.laneWait {e : Fin 8} {b : Fin 4} {rd k : Fin 16} {c : Fin 4} (h : Canonical s) :
    Canonical (laneWait s e b rd k c) :=
  .ite h.finishReg h.beginWait.stepEnds
theorem Canonical.barrierWait {e : Fin 8} {b : Fin 4} {rd : Fin 16} {j : Fin 8} (h : Canonical s) :
    Canonical (barrierWait s e b rd j) :=
  .ite h.beginWait.barArrive.stepEnds h.withTail
theorem Canonical.accumulate {e : Fin 8} {b : Fin 4} {a : Bool} {p : Int} (h : Canonical s) :
    Canonical (accumulate s e b a p) :=
  h.setAcc.stickST
theorem Canonical.accumulateU {e : Fin 8} {b : Fin 4} {a : Bool} {p : Nat} (h : Canonical s) :
    Canonical (accumulateU s e b a p) :=
  h.setAcc.stickST

/-! ### Memory errors (Ecc.lean) -/

theorem Canonical.retryStall {q : Requester} (h : Canonical s) : Canonical (retryStall s q) := by
  unfold Machine.retryStall
  split
  · exact h.updEng
  · exact h
theorem Canonical.padEntry {r : Fin 64} {i : Nat} (h : Canonical s) : Canonical (padEntry s r i) := by
  unfold Machine.padEntry
  split
  · exact h
  · extract_lets owners
    split
    · exact h
    · exact h.updRing.updLand.countLoss
theorem Canonical.eccOutcome {off : Nat} {q : Requester} (h : Canonical s) : Canonical (eccOutcome s off q) := by
  unfold Machine.eccOutcome
  split
  · split
    · exact h.disableThread
    · exact h
  · split
    · exact h.onElse (fun h => (h.same (by rfl)).endDesc)
    · exact h
  · exact h.padEntry
  · exact h.writeSlot
  · exact h.failCommit
  · extract_lets s1
    have h1 : Canonical s1 := by
      unfold s1
      split
      · exact h.updPorts
      · exact h
    exact h1.keep _ _
  · exact h
  · exact h.updChest
theorem execReadRetry_keeps {mem : Fin 10} {off : Nat} {q : Requester} {clean : Bool} :
    Keeps s (execReadRetry mem off q clean s) :=
  .next fun h => h.retryStall.ifElse (·.raiseTransient) (fun h => (h.raise _ _).eccOutcome)

/-! ### Fetch (Fetch.lean) -/

theorem Canonical.detected {e : Fin 8} {b : Fin 4} {x : Detected} (h : Canonical s) : Canonical (detected s e b x) := by
  unfold Machine.detected
  split
  · exact h.stackFault
  · exact h.illegal

/-! ### The sequencer (Sequencer.lean) -/

theorem Canonical.loadDivide {e : Fin 8} {b : Fin 4} {x y : Word} {signed : Bool} (h : Canonical s) :
    Canonical (loadDivide s e b x y signed) :=
  h.updBank
theorem Canonical.divResult {e : Fin 8} {b : Fin 4} {rem : Bool} (h : Canonical s) : Canonical (divResult s e b rem).2 := by
  unfold Machine.divResult
  extract_lets x
  exact Canonical.iteSnd h.fresh h
theorem Canonical.macdStall {e : Fin 8} {x y : Word} (h : Canonical s) : Canonical (macdStall s e x y).2 := by
  unfold Machine.macdStall
  extract_lets serial st st'
  exact Canonical.iteSnd h.dataStall h.dataStall.dataStall
theorem Canonical.microEnd {q : Run} {e : Fin 8} {b : Fin 4} {stall : Nat} (h : Canonical s) :
    Canonical (microEnd q s e b stall) :=
  h.updBank.ifElse (·.endLoad.afterRelease) (fun h => (h.close.onIf (·.beginRepi)).stepEnds)
theorem Canonical.microFault {q : Run} {e : Fin 8} {b : Fin 4} {a : Nat} (h : Canonical s) : Canonical (microFault q s e b a) :=
  (h.note _ _).ifElse (fun h => ((h.endLoad.setEv _ _).disableThread.raise _ _).stepEnds) (·.threadFault.stepEnds)
/-- The state that a microword leaves is in canonical form. -/
def Micro.Canon : Micro → Prop
  | .ok _ s _ _ => Canonical s
  | .wait _ _ s => Canonical s
  | .fault => True
  | .stack => True

/-- The state that the cycle of a microword leaves is in canonical form. -/
def Cycle.Canon : Cycle → Prop
  | .more _ s _ => Canonical s
  | .done _ s _ => Canonical s
  | .wait _ _ s => Canonical s
  | .fault _ => True
  | .stack => True

section Microwords
variable {q : Run} {e : Fin 8} {b : Fin 4}

theorem Micro.Canon.ite {c : Prop} [Decidable c] {m n : Micro} (hm : m.Canon) (hn : n.Canon) : (if c then m else n).Canon := by
  split
  · exact hm
  · exact hn

theorem Canonical.microPut {k : Nat} {v : Word} (h : Canonical s) : (microPut q s e b k v).Canon := .ite trivial h.putSel

theorem Canonical.microAlu {w : Word} (h : Canonical s) : (microAlu q s e b w).Canon := by
  refine .ite trivial ?_
  split
  · exact h.microPut
  · trivial

theorem Canonical.microLoaded {k : Nat} {v : Word} {stall : Nat} (h : Canonical s) : (microLoaded q s e b k v stall).Canon :=
  .ite (.ite trivial h) h.putSel

theorem Canonical.microMem {w : Word} (h : Canonical s) : (microMem q s e b w).Canon :=
  .ite trivial <|
  .ite trivial (.ite (.ite h.ioWrite h.ioRead.microLoaded) (.ite h.dataStall.dataStore h.dataStall.microLoaded))

theorem Canonical.microStep {w : Word} (h : Canonical s) : (microStep q s e b w).Canon := by
  refine .ite trivial ?_
  split
  · exact h.loadDivide
  · exact h.loadDivide
  · exact h.updBank
  · exact h.macdStall
  refine .ite trivial ?_
  split
  · exact h.divResult.stickST.putSel
  · exact h.divResult.stickST.putSel
  · exact h.accumulate
  · exact h.accumulate
  · exact h.accumulateU
  · exact h.setAcc
  · exact h.accumulate.setReg.setReg
  · trivial

theorem Canonical.microBr {w : Word} (h : Canonical s) : (microBr q s e b w).Canon := by
  refine .ite trivial ?_
  split
  · exact h
  · exact h
  · exact h
  · exact h
  · exact h
  · trivial

theorem Canonical.microSys {w : Word} (h : Canonical s) : (microSys q s e b w).Canon := by
  refine .ite trivial (.ite (.ite trivial h) (.ite trivial ?_))
  split
  · exact h.saveCtx
  · exact h.saveCtx
  · exact h.leaveBank
  · exact .ite h.putSel h
  · exact .ite h.barArrive h
  · exact .ite h.putSel (.ite h h.putSel)
  · exact h.srq _ _ _ _
  · exact h.updBank
  · trivial

theorem Canonical.microword {w : Word} (h : Canonical s) : (microword q s e b w).Canon := by
  unfold Machine.microword
  split
  · exact h.microAlu
  · exact h.microPut
  · exact h.microMem
  · exact h.microStep
  · exact h.microBr
  · exact h.microSys
  · trivial

theorem Canonical.microCycle (h : Canonical s) : (microCycle q s e b).Canon := by
  unfold Machine.microCycle
  extract_lets a w commits s1
  have h1 : Canonical s1 := h.onIf (·.updBank)
  split
  · trivial
  have hm : (Machine.microword (q.advance w) s1 e b w).Canon := h1.microword
  split <;> rename_i heq <;> rw [heq] at hm
  · trivial
  · trivial
  · exact hm
  · split
    · exact hm
    · exact hm

theorem Canonical.microRun (h : Canonical s) : Canonical (microRun q s e b) := by
  unfold Machine.microRun
  have hc := h.microCycle (q := q) (e := e) (b := b)
  split <;> rename_i heq <;> rw [heq] at hc
  · exact Canonical.updEng (Canonical.updBank hc)
  · exact Canonical.microEnd hc
  · exact h.microFault
  · exact h.stackFault
  · exact (Canonical.beginWait (Canonical.updBank hc)).stepEnds
end Microwords
theorem Canonical.toCommit {e : Fin 8} {b : Fin 4} : ∀ {fuel : Nat} {q : Run} {s : State},
    Canonical s → Canonical (toCommit e b fuel q s).2
  | 0, _, _, h => h
  | fuel + 1, q, s, h => by
    unfold Machine.toCommit
    have hc := h.microCycle (q := q) (e := e) (b := b)
    split
    · rename_i heq
      rw [heq] at hc
      split
      · exact h
      · exact Canonical.toCommit hc
    · exact h
theorem Canonical.clearTemps {e : Fin 8} {b : Fin 4} (h : Canonical s) : Canonical (clearTemps s e b) := h.updBank
theorem instr_keeps {i : Instr} {e : Fin 8} {body : State → Fin 4 → State}
    (hb : ∀ {t b}, Canonical t → Canonical (body t b)) : Keeps s (instr i e s body) := by
  unfold instr
  split
  · exact .next id
  split
  · exact .next id
  split
  · exact .next (·.toCommit.microRun)
  · exact .next (·.detected)
  split
  · exact .next (·.clearTemps.toCommit.microRun)
  · exact .next hb
theorem Canonical.beginInstr {e : Fin 8} {b : Fin 4} {i : Instr} (h : Canonical s) : Canonical (beginInstr s e b i) := by
  unfold Machine.beginInstr
  extract_lets at'
  refine .ite h.updEng ?_
  split
  · exact h.clearTemps.updBank
  · exact h.updEng

/-! ### The engine instructions (Isa.lean) -/

theorem alu_keeps {i : Instr} {e : Fin 8} {rd rs rt : Fin 16} {long : Bool} {f : Word → Word → Word} :
    Keeps s (alu i e rd rs rt long f s) :=
  instr_keeps (·.finishReg)
theorem aluImm_keeps {i : Instr} {e : Fin 8} {len : Nat} {rd rs : Fin 16} {k : Word} {f : Word → Word → Word} :
    Keeps s (aluImm i e len rd rs k f s) :=
  instr_keeps (·.finishReg)
theorem division_keeps {i : Instr} {e : Fin 8} {rd rs rt : Fin 16} {f : Word → Word → Word} :
    Keeps s (division i e rd rs rt f s) :=
  instr_keeps (·.stickST.finishReg)
theorem accOp_keeps {i : Instr} {e : Fin 8} {a : Bool} {rs rt : Fin 16} {neg : Bool} : Keeps s (accOp i e a rs rt neg s) :=
  instr_keeps (·.accumulate.finish)
theorem load_keeps {i : Instr} {e : Fin 8} {len : Nat} {rd rs : Fin 16} {k : Word} {n : Nat} {sx : Bool} :
    Keeps s (load i e len rd rs k n sx s) :=
  instr_keeps (·.finishLoad)
theorem store_keeps {i : Instr} {e : Fin 8} {len : Nat} {rs rb : Fin 16} {k : Word} {n : Nat} :
    Keeps s (store i e len rs rb k n s) :=
  instr_keeps (·.finishStore)
theorem branch_keeps {i : Instr} {e : Fin 8} {ofs : BitVec 16} {long : Bool} {c : State → Fin 4 → Bool} :
    Keeps s (branch i e ofs long c s) :=
  instr_keeps (fun h => .ite h.finish h.finish)
theorem Canonical.callTo {e : Fin 8} {b : Fin 4} {t' : BitVec 16} (h : Canonical s) : Canonical (callTo s e b t') :=
  h.dataStall.pushWord.finish.withTail
theorem Canonical.repeatBy {e : Fin 8} {b : Fin 4} {n : BitVec 16} (h : Canonical s) : Canonical (repeatBy s e b n) :=
  h.retire.updBank.beginRepi.stepEnds
theorem execNop_keeps {e : Fin 8} : Keeps s (execNop e s) := instr_keeps (·.finish)
theorem execDone_keeps {e : Fin 8} : Keeps s (execDone e s) := instr_keeps (·.threadDone)
theorem execYield_keeps {e : Fin 8} : Keeps s (execYield e s) := instr_keeps (·.threadYield)
theorem execRet_keeps {e : Fin 8} : Keeps s (execRet e s) := instr_keeps (·.dataStall.setSp.finish)
theorem execRep_keeps {e : Fin 8} {n : Fin 16} : Keeps s (execRep e n s) := instr_keeps (·.retire.updBank)
theorem execPush_keeps {e : Fin 8} {r : Fin 16} : Keeps s (execPush e r s) := instr_keeps (·.dataStall.pushWord.finish)
theorem execPop_keeps {e : Fin 8} {r : Fin 16} : Keeps s (execPop e r s) := instr_keeps (·.setSp.finishLoad)
theorem execMov_keeps {e : Fin 8} {rd rs : Fin 16} : Keeps s (execMov e rd rs s) := instr_keeps (·.finishReg)
theorem execAdd_keeps {e : Fin 8} {rd rs rt : Fin 16} {long : Bool} : Keeps s (execAdd e rd rs rt long s) := alu_keeps
theorem execSub_keeps {e : Fin 8} {rd rs rt : Fin 16} {long : Bool} : Keeps s (execSub e rd rs rt long s) := alu_keeps
theorem execAnd_keeps {e : Fin 8} {rd rs rt : Fin 16} {long : Bool} : Keeps s (execAnd e rd rs rt long s) := alu_keeps
theorem execOr_keeps {e : Fin 8} {rd rs rt : Fin 16} {long : Bool} : Keeps s (execOr e rd rs rt long s) := alu_keeps
theorem execXor_keeps {e : Fin 8} {rd rs rt : Fin 16} {long : Bool} : Keeps s (execXor e rd rs rt long s) := alu_keeps
theorem execShl_keeps {e : Fin 8} {rd rs rt : Fin 16} {long : Bool} : Keeps s (execShl e rd rs rt long s) := alu_keeps
theorem execShr_keeps {e : Fin 8} {rd rs rt : Fin 16} {long : Bool} : Keeps s (execShr e rd rs rt long s) := alu_keeps
theorem execSar_keeps {e : Fin 8} {rd rs rt : Fin 16} {long : Bool} : Keeps s (execSar e rd rs rt long s) := alu_keeps
theorem execRor_keeps {e : Fin 8} {rd rs rt : Fin 16} : Keeps s (execRor e rd rs rt s) := alu_keeps
theorem execNeg_keeps {e : Fin 8} {rd rs : Fin 16} : Keeps s (execNeg e rd rs s) := instr_keeps (·.finishReg)
theorem execNot_keeps {e : Fin 8} {rd rs : Fin 16} : Keeps s (execNot e rd rs s) := instr_keeps (·.finishReg)
theorem execSlt_keeps {e : Fin 8} {rd rs rt : Fin 16} {long : Bool} : Keeps s (execSlt e rd rs rt long s) := alu_keeps
theorem execSltu_keeps {e : Fin 8} {rd rs rt : Fin 16} {long : Bool} : Keeps s (execSltu e rd rs rt long s) := alu_keeps
theorem execSeq_keeps {e : Fin 8} {rd rs rt : Fin 16} {long : Bool} : Keeps s (execSeq e rd rs rt long s) := alu_keeps
theorem execSne_keeps {e : Fin 8} {rd rs rt : Fin 16} {long : Bool} : Keeps s (execSne e rd rs rt long s) := alu_keeps
theorem execSbefore_keeps {e : Fin 8} {rd rs rt : Fin 16} {long : Bool} : Keeps s (execSbefore e rd rs rt long s) := alu_keeps
theorem execTadd_keeps {e : Fin 8} {rd rs rt : Fin 16} : Keeps s (execTadd e rd rs rt s) := alu_keeps
theorem execSoadd_keeps {e : Fin 8} {rd rs rt : Fin 16} : Keeps s (execSoadd e rd rs rt s) := alu_keeps
theorem execSosub_keeps {e : Fin 8} {rd rs rt : Fin 16} : Keeps s (execSosub e rd rs rt s) := alu_keeps
theorem execSoneg_keeps {e : Fin 8} {rd rs : Fin 16} : Keeps s (execSoneg e rd rs s) := instr_keeps (·.finishReg)
theorem execMin_keeps {e : Fin 8} {rd rs rt : Fin 16} : Keeps s (execMin e rd rs rt s) := alu_keeps
theorem execMax_keeps {e : Fin 8} {rd rs rt : Fin 16} : Keeps s (execMax e rd rs rt s) := alu_keeps
theorem execMinu_keeps {e : Fin 8} {rd rs rt : Fin 16} : Keeps s (execMinu e rd rs rt s) := alu_keeps
theorem execMaxu_keeps {e : Fin 8} {rd rs rt : Fin 16} : Keeps s (execMaxu e rd rs rt s) := alu_keeps
theorem execClz_keeps {e : Fin 8} {rd rs : Fin 16} : Keeps s (execClz e rd rs s) := instr_keeps (·.finishReg)
theorem execAddi8_keeps {e : Fin 8} {rd : Fin 16} {imm : BitVec 8} : Keeps s (execAddi8 e rd imm s) := aluImm_keeps
theorem execLi8_keeps {e : Fin 8} {rd : Fin 16} {imm : BitVec 8} : Keeps s (execLi8 e rd imm s) := aluImm_keeps
theorem execLwsp_keeps {e : Fin 8} {rd : Fin 16} {u : BitVec 8} : Keeps s (execLwsp e rd u s) := instr_keeps (·.finishLoad)
theorem execSwsp_keeps {e : Fin 8} {rs : Fin 16} {u : BitVec 8} : Keeps s (execSwsp e rs u s) := instr_keeps (·.finishStore)
theorem execBz_keeps {e : Fin 8} {rs : Fin 16} {ofs : BitVec 16} {long : Bool} : Keeps s (execBz e rs ofs long s) :=
  branch_keeps
theorem execBnz_keeps {e : Fin 8} {rs : Fin 16} {ofs : BitVec 16} {long : Bool} : Keeps s (execBnz e rs ofs long s) :=
  branch_keeps
theorem execBr_keeps {e : Fin 8} {ofs : BitVec 16} {long : Bool} : Keeps s (execBr e ofs long s) := branch_keeps
theorem execShli_keeps {e : Fin 8} {rd : Fin 16} {amt : BitVec 6} : Keeps s (execShli e rd amt s) := aluImm_keeps
theorem execShri_keeps {e : Fin 8} {rd : Fin 16} {amt : BitVec 6} : Keeps s (execShri e rd amt s) := aluImm_keeps
theorem execSari_keeps {e : Fin 8} {rd : Fin 16} {amt : BitVec 6} : Keeps s (execSari e rd amt s) := aluImm_keeps
theorem execRori_keeps {e : Fin 8} {rd : Fin 16} {amt : BitVec 6} : Keeps s (execRori e rd amt s) := aluImm_keeps
theorem execLw4_keeps {e : Fin 8} {rd rb : Fin 16} {u : BitVec 4} : Keeps s (execLw4 e rd rb u s) := load_keeps
theorem execSw4_keeps {e : Fin 8} {rs rb : Fin 16} {u : BitVec 4} : Keeps s (execSw4 e rs rb u s) := store_keeps
theorem execMul_keeps {e : Fin 8} {rd rs rt : Fin 16} : Keeps s (execMul e rd rs rt s) := alu_keeps
theorem execMulh_keeps {e : Fin 8} {rd rs rt : Fin 16} : Keeps s (execMulh e rd rs rt s) := alu_keeps
theorem execMulhu_keeps {e : Fin 8} {rd rs rt : Fin 16} : Keeps s (execMulhu e rd rs rt s) := alu_keeps
theorem execDiv_keeps {e : Fin 8} {rd rs rt : Fin 16} : Keeps s (execDiv e rd rs rt s) := division_keeps
theorem execDivu_keeps {e : Fin 8} {rd rs rt : Fin 16} : Keeps s (execDivu e rd rs rt s) := division_keeps
theorem execRem_keeps {e : Fin 8} {rd rs rt : Fin 16} : Keeps s (execRem e rd rs rt s) := division_keeps
theorem execRemu_keeps {e : Fin 8} {rd rs rt : Fin 16} : Keeps s (execRemu e rd rs rt s) := division_keeps
theorem execMac_keeps {e : Fin 8} {a : Bool} {rs rt : Fin 16} : Keeps s (execMac e a rs rt s) := accOp_keeps
theorem execMsu_keeps {e : Fin 8} {a : Bool} {rs rt : Fin 16} : Keeps s (execMsu e a rs rt s) := accOp_keeps
theorem execMacu_keeps {e : Fin 8} {a : Bool} {rs rt : Fin 16} : Keeps s (execMacu e a rs rt s) :=
  instr_keeps (·.accumulateU.finish)
theorem execWra_keeps {e : Fin 8} {a : Bool} {rs rt : Fin 16} : Keeps s (execWra e a rs rt s) := instr_keeps (·.setAcc.finish)
theorem execRdal_keeps {e : Fin 8} {rd : Fin 16} {a : Bool} : Keeps s (execRdal e rd a s) := instr_keeps (·.finishReg)
theorem execRdah_keeps {e : Fin 8} {rd : Fin 16} {a : Bool} : Keeps s (execRdah e rd a s) := instr_keeps (·.finishReg)
theorem execShra_keeps {e : Fin 8} {rd rt : Fin 16} {a : Bool} : Keeps s (execShra e rd rt a s) :=
  instr_keeps (·.stickST.finishReg)
theorem execMacd_keeps {e : Fin 8} {gx gy : Fin 16} {half a : Bool} : Keeps s (execMacd e gx gy half a s) :=
  instr_keeps (·.macdStall.accumulate.setReg.setReg.finish)
theorem execAngadd_keeps {e : Fin 8} {rd rs rt : Fin 16} : Keeps s (execAngadd e rd rs rt s) := instr_keeps (·.finishReg)
theorem execAngsub_keeps {e : Fin 8} {rd rs rt : Fin 16} : Keeps s (execAngsub e rd rs rt s) := instr_keeps (·.finishReg)
theorem execLi_keeps {e : Fin 8} {rd : Fin 16} {imm : BitVec 16} : Keeps s (execLi e rd imm s) := aluImm_keeps
theorem execLui_keeps {e : Fin 8} {rd : Fin 16} {imm : BitVec 16} : Keeps s (execLui e rd imm s) := aluImm_keeps
theorem execAddi_keeps {e : Fin 8} {rd rs : Fin 16} {imm : BitVec 16} : Keeps s (execAddi e rd rs imm s) := aluImm_keeps
theorem execAndi_keeps {e : Fin 8} {rd rs : Fin 16} {imm : BitVec 16} : Keeps s (execAndi e rd rs imm s) := aluImm_keeps
theorem execOri_keeps {e : Fin 8} {rd rs : Fin 16} {imm : BitVec 16} : Keeps s (execOri e rd rs imm s) := aluImm_keeps
theorem execXori_keeps {e : Fin 8} {rd rs : Fin 16} {imm : BitVec 16} : Keeps s (execXori e rd rs imm s) := aluImm_keeps
theorem execSlti_keeps {e : Fin 8} {rd rs : Fin 16} {imm : BitVec 16} : Keeps s (execSlti e rd rs imm s) := aluImm_keeps
theorem execSltui_keeps {e : Fin 8} {rd rs : Fin 16} {imm : BitVec 16} : Keeps s (execSltui e rd rs imm s) := aluImm_keeps
theorem execSeqi_keeps {e : Fin 8} {rd rs : Fin 16} {imm : BitVec 16} : Keeps s (execSeqi e rd rs imm s) := aluImm_keeps
theorem execSnei_keeps {e : Fin 8} {rd rs : Fin 16} {imm : BitVec 16} : Keeps s (execSnei e rd rs imm s) := aluImm_keeps
theorem execLw_keeps {e : Fin 8} {rd rs : Fin 16} {imm : BitVec 16} : Keeps s (execLw e rd rs imm s) := load_keeps
theorem execLh_keeps {e : Fin 8} {rd rs : Fin 16} {imm : BitVec 16} : Keeps s (execLh e rd rs imm s) := load_keeps
theorem execLhu_keeps {e : Fin 8} {rd rs : Fin 16} {imm : BitVec 16} : Keeps s (execLhu e rd rs imm s) := load_keeps
theorem execLb_keeps {e : Fin 8} {rd rs : Fin 16} {imm : BitVec 16} : Keeps s (execLb e rd rs imm s) := load_keeps
theorem execLbu_keeps {e : Fin 8} {rd rs : Fin 16} {imm : BitVec 16} : Keeps s (execLbu e rd rs imm s) := load_keeps
theorem execSw_keeps {e : Fin 8} {rs rb : Fin 16} {imm : BitVec 16} : Keeps s (execSw e rs rb imm s) := store_keeps
theorem execSh_keeps {e : Fin 8} {rs rb : Fin 16} {imm : BitVec 16} : Keeps s (execSh e rs rb imm s) := store_keeps
theorem execSb_keeps {e : Fin 8} {rs rb : Fin 16} {imm : BitVec 16} : Keeps s (execSb e rs rb imm s) := store_keeps
theorem execLwpi_keeps {e : Fin 8} {rd rb : Fin 16} {imm : BitVec 16} : Keeps s (execLwpi e rd rb imm s) :=
  instr_keeps (·.setReg.finishLoad)
theorem execSwpi_keeps {e : Fin 8} {rs rb : Fin 16} {imm : BitVec 16} : Keeps s (execSwpi e rs rb imm s) :=
  instr_keeps (·.setReg.finishStore)
theorem execCall_keeps {e : Fin 8} {target : BitVec 16} : Keeps s (execCall e target s) := instr_keeps (·.callTo)
theorem execJr_keeps {e : Fin 8} {rs : Fin 16} : Keeps s (execJr e rs s) := instr_keeps (·.finish)
theorem execCallr_keeps {e : Fin 8} {rs : Fin 16} : Keeps s (execCallr e rs s) := instr_keeps (·.callTo)
theorem execRepi_keeps {e : Fin 8} {n : BitVec 16} : Keeps s (execRepi e n s) := instr_keeps (·.repeatBy)
theorem execRepir_keeps {e : Fin 8} {rs : Fin 16} : Keeps s (execRepir e rs s) := instr_keeps (·.repeatBy)
theorem execInp_keeps {e : Fin 8} {rd rb : Fin 16} {imm : BitVec 16} : Keeps s (execInp e rd rb imm s) :=
  instr_keeps (·.ioRead.finish)
theorem execOut_keeps {e : Fin 8} {rs rb : Fin 16} {imm : BitVec 16} : Keeps s (execOut e rs rb imm s) :=
  instr_keeps (·.ioWrite.finish)
theorem execLwait_keeps {e : Fin 8} {rd lane : Fin 16} {cond : Fin 4} : Keeps s (execLwait e rd lane cond s) :=
  instr_keeps (·.laneWait)
theorem execBar_keeps {e : Fin 8} {rd : Fin 16} {j : Fin 8} : Keeps s (execBar e rd j s) := instr_keeps (·.barrierWait)
theorem execSig_keeps {e t' : Fin 8} {th : Fin 32} : Keeps s (execSig e t' th s) :=
  instr_keeps (fun h => (h.srq _ _ _ _).finish)
theorem execMfs_keeps {e : Fin 8} {rd : Fin 16} {sr : Fin 6} : Keeps s (execMfs e rd sr s) := instr_keeps (·.finishReg)
theorem execMts_keeps {e : Fin 8} {sr : Fin 5} {rs : Fin 16} : Keeps s (execMts e sr rs s) := instr_keeps (·.writeSpec.finish)
theorem execIllegalInstruction_keeps {e : Fin 8} : Keeps s (execIllegalInstruction e s) := instr_keeps (·.illegal)

/-! ### Every command (Dispatch.lean) -/

theorem exec_keeps {i : Instr} : Keeps s (exec i s) := by
  unfold exec
  split
  · exact execRegisterWrite_keeps
  · exact execRcRead_keeps
  · exact execCodeRamWrite_keeps
  · exact execLtrimWindowEnd_keeps
  · exact execX32Lock_keeps
  · exact execX32Stop_keeps
  · exact execPllUnlock_keeps
  · exact execXinLoss_keeps
  · exact execPllLock_keeps
  · exact execTbclkCountingReturn_keeps
  · exact execTbStep_keeps
  · exact execFofsclr_keeps
  · exact execSlewAdjust_keeps
  · exact execTbSlewWrite_keeps
  · exact execTbLoRead_keeps
  · exact execTbWrapPassage_keeps
  · exact execSyncInEdge_keeps
  · exact execSyncinTsLoRead_keeps
  · exact execSyncoutEnable_keeps
  · exact execSyncoutActiveEdge_keeps
  · exact execSyncoutPulseEnd_keeps
  · exact execSyncoutDisable_keeps
  · exact execClkFrzWrite_keeps
  · exact execChannelFreeze_keeps
  · exact execChannelRelease_keeps
  · exact execCounterBoundary_keeps
  · exact execCounterPeak_keeps
  · exact execCascadeAdvance_keeps
  · exact execCompareMatch_keeps
  · exact execInputEdgeSampled_keeps
  · exact execGlitchFilterExpiry_keeps
  · exact execCapture_keeps
  · exact execCapaRead_keeps
  · exact execFifoTRead_keeps
  · exact execCntRead_keeps
  · exact execAqTWrite_keeps
  · exact execAqOffer_keeps
  · exact execAqFire_keeps
  · exact execChLoad_keeps
  · exact execFlush_keeps
  · exact execFifoclr_keeps
  · exact execChStop_keeps
  · exact execChStart_keeps
  · exact execChannelEnable_keeps
  · exact execChannelDisable_keeps
  · exact execCntWrite_keeps
  · exact execShadowWrite_keeps
  · exact execPgBoundary_keeps
  · exact execPgPeak_keeps
  · exact execPgStart_keeps
  · exact execPgGroupStart_keeps
  · exact execPgStop_keeps
  · exact execPgDisable_keeps
  · exact execPgLoad_keeps
  · exact execStagger_keeps
  · exact execTripclr_keeps
  · exact execForce_keeps
  · exact execPgCntWrite_keeps
  · exact execDeadTimeExpiry_keeps
  · exact execStretchClose_keeps
  · exact execTripAssert_keeps
  · exact execNewelEnable_keeps
  · exact execNewelDisable_keeps
  · exact execToothReceive_keeps
  · exact execToothClassify_keeps
  · exact execPredictionLoad_keeps
  · exact execHoldAngleReached_keeps
  · exact execPhaseInputEdge_keeps
  · exact execStallTimeout_keeps
  · exact execResync_keeps
  · exact execPhset_keeps
  · exact execErrclr_keeps
  · exact execHold_keeps
  · exact execEncoderEdge_keeps
  · exact execZEdge_keeps
  · exact execToothtRead_keeps
  · exact execLatePass_keeps
  · exact execSlotConversion_keeps
  · exact execNewelOffer_keeps
  · exact execCommitFreeze_keeps
  · exact execReoffer_keeps
  · exact execCancel_keeps
  · exact execCancelOffer_keeps
  · exact execSlotWrite_keeps
  · exact execReEvaluation_keeps
  · exact execEvlastTRead_keeps
  · exact execSrqArrival_keeps
  · exact execThreadDispatch_keeps
  · exact execPreemption_keeps
  · exact execThreadConfigWrite_keeps
  · exact execFeStart_keeps
  · exact execFeStop_keeps
  · exact execFeStopComplete_keeps
  · exact execFeReset_keeps
  · exact execFeGoWrite_keeps
  · exact execGoAct_keeps
  · exact execBarMaskWrite_keeps
  · exact execBarrierRelease_keeps
  · exact execBarrierTimeout_keeps
  · exact execWakeTimerFire_keeps
  · exact execMbxdb_keeps
  · exact execMbxack_keeps
  · exact execLwaitRelease_keeps
  · exact execLaneEnable_keeps
  · exact execLaneDisable_keeps
  · exact execTxbufWrite_keeps
  · exact execRxbufRead_keeps
  · exact execLaneWordStart_keeps
  · exact execLaneWordComplete_keeps
  · exact execPulseEdge_keeps
  · exact execLaneStart_keeps
  · exact execLaneReset_keeps
  · exact execCont_keeps
  · exact execDivrst_keeps
  · exact execLanePause_keeps
  · exact execNop_keeps
  · exact execDone_keeps
  · exact execYield_keeps
  · exact execRet_keeps
  · exact execRep_keeps
  · exact execPush_keeps
  · exact execPop_keeps
  · exact execMov_keeps
  · exact execAdd_keeps
  · exact execSub_keeps
  · exact execAnd_keeps
  · exact execOr_keeps
  · exact execXor_keeps
  · exact execShl_keeps
  · exact execShr_keeps
  · exact execSar_keeps
  · exact execRor_keeps
  · exact execNeg_keeps
  · exact execNot_keeps
  · exact execSlt_keeps
  · exact execSltu_keeps
  · exact execSeq_keeps
  · exact execSne_keeps
  · exact execSbefore_keeps
  · exact execTadd_keeps
  · exact execSoadd_keeps
  · exact execSosub_keeps
  · exact execSoneg_keeps
  · exact execMin_keeps
  · exact execMax_keeps
  · exact execMinu_keeps
  · exact execMaxu_keeps
  · exact execClz_keeps
  · exact execAddi8_keeps
  · exact execLi8_keeps
  · exact execLwsp_keeps
  · exact execSwsp_keeps
  · exact execBz_keeps
  · exact execBnz_keeps
  · exact execBr_keeps
  · exact execShli_keeps
  · exact execShri_keeps
  · exact execSari_keeps
  · exact execRori_keeps
  · exact execLw4_keeps
  · exact execSw4_keeps
  · exact execMul_keeps
  · exact execMulh_keeps
  · exact execMulhu_keeps
  · exact execDiv_keeps
  · exact execDivu_keeps
  · exact execRem_keeps
  · exact execRemu_keeps
  · exact execMac_keeps
  · exact execMsu_keeps
  · exact execMacu_keeps
  · exact execWra_keeps
  · exact execRdal_keeps
  · exact execRdah_keeps
  · exact execShra_keeps
  · exact execMacd_keeps
  · exact execAngadd_keeps
  · exact execAngsub_keeps
  · exact execLi_keeps
  · exact execLui_keeps
  · exact execAddi_keeps
  · exact execAndi_keeps
  · exact execOri_keeps
  · exact execXori_keeps
  · exact execSlti_keeps
  · exact execSltui_keeps
  · exact execSeqi_keeps
  · exact execSnei_keeps
  · exact execLw_keeps
  · exact execLh_keeps
  · exact execLhu_keeps
  · exact execLb_keeps
  · exact execLbu_keeps
  · exact execSw_keeps
  · exact execSh_keeps
  · exact execSb_keeps
  · exact execLwpi_keeps
  · exact execSwpi_keeps
  · exact execCall_keeps
  · exact execJr_keeps
  · exact execCallr_keeps
  · exact execRepi_keeps
  · exact execRepir_keeps
  · exact execInp_keeps
  · exact execOut_keeps
  · exact execLwait_keeps
  · exact execBar_keeps
  · exact execSig_keeps
  · exact execMfs_keeps
  · exact execMts_keeps
  · exact execIllegalInstruction_keeps
  · exact execMcLoad_keeps
  · exact execPatchActivate_keeps
  · exact execUnload_keeps
  · exact execAdvsvn_keeps
  · exact execFuseStep_keeps
  · exact execChestwr_keeps
  · exact execDoorbell_keeps
  · exact execDescriptorArrival_keeps
  · exact execHostReadCompletion_keeps
  · exact execDescNop_keeps
  · exact execDescWrite_keeps
  · exact execWritep_keeps
  · exact execDescRead_keeps
  · exact execCopy_keeps
  · exact execFill_keeps
  · exact execDescFence_keeps
  · exact execTxnBegin_keeps
  · exact execTxnCommit_keeps
  · exact execTxnRollback_keeps
  · exact execSnapDescriptor_keeps
  · exact execDescriptorComplete_keeps
  · exact execRingEnable_keeps
  · exact execRingDisable_keeps
  · exact execDrainEnd_keeps
  · exact execAbort_keeps
  · exact execResume_keeps
  · exact execAttach_keeps
  · exact execRearm_keeps
  · exact execIrqTimerExpiry_keeps
  · exact execEntryPublish_keeps
  · exact execBlockPublish_keeps
  · exact execPerstN_keeps
  · exact execLinkDown_keeps
  · exact execLinkUp_keeps
  · exact execRecordEntry_keeps
  · exact execEntryQueueEntry_keeps
  · exact execLeaveDiscarding_keeps
  · exact execFlushTimerExpiry_keeps
  · exact execBlockWrite_keeps
  · exact execGalMarkWrite_keeps
  · exact execBegin_keeps
  · exact execRollback_keeps
  · exact execCommit_keeps
  · exact execSofsWrite_keeps
  · exact execSvalWrite_keeps
  · exact execLanding_keeps
  · exact execSnapStrobe_keeps
  · exact execTimedSnap_keeps
  · exact execPeerSnap_keeps
  · exact execPeerSnapLatch_keeps
  · exact execReadRetry_keeps
  · exact execRecordCreate_keeps
  · exact execPersistentLogWrite_keeps
  · exact execFaultReset_keeps
  · exact execPendClear_keeps
  · exact execFfclr_keeps
  · exact execLogclr_keeps
  · exact execPendclr_keeps
  · exact execInject_keeps
  · exact execSafeclr_keeps
  · exact execEvaluation_keeps
  · exact execBgCancel_keeps
  · exact execSelfTest_keeps
  · exact execRecalibrate_keeps
  · exact execSelfTestEnd_keeps
  · exact execScrubPass_keeps
  · exact execCalibrationTurn_keeps
  · exact execDelayLineSwap_keeps
  · exact execSwapSkip_keeps
  · exact execTelemetrySample_keeps
  · exact execTempMeasure_keeps
  · exact execChestRead_keeps
  · exact execChestReadDone_keeps
  · exact execChestWrite_keeps
  · exact execChestRowDone_keeps
  · exact execWearLevelMove_keeps
  · exact execLifetimeCommit_keeps
  · exact execSupplyWarn_keeps
  · exact execDipRecovery_keeps
  · exact execSupplyReset_keeps
  · exact execPfailN_keeps
  · exact execLgs_keeps
  · exact execLgsDone_keeps
  · exact execDoze_keeps
  · exact execDozeEntry_keeps
  · exact execRun_keeps
  · exact execDozeExit_keeps
  · exact execDormant_keeps
  · exact execWakePin_keeps
  · exact execLobbyWakeTimer_keeps
  · exact execPowerOnReset_keeps
  · exact execResetN_keeps
  · exact execHostReset_keeps
  · exact execSupReset_keeps
  · exact execPeerReset_keeps
  · exact execGalReset_keeps
  · exact execTimingReset_keeps
  · exact execVddGood_keeps
  · exact execXinRunning_keeps
  · exact execBootPatchLoad_keeps
  · exact execConfigImageApply_keeps
  · exact execImageWaitExpiry_keeps
  · exact execAutogoStart_keeps
  · exact execLinkTrainingStart_keeps
  · exact execFlr_keeps
  · exact execL1Entry_keeps
  · exact execPcieError_keeps
  · exact execXspiRead_keeps
  · exact execXspiWrite_keeps
  · exact execReadStatus_keeps
  · exact execReadId_keeps
  · exact execHbKick_keeps
  · exact execHeartbeatExpiry_keeps
  · exact execHbLock_keeps
  · exact execPeerEnable_keeps
  · exact execEnumFrame_keeps
  · exact execTimeFrameSend_keeps
  · exact execTimeFrame_keeps
  · exact execTooth0Frame_keeps
  · exact execTooth1Frame_keeps
  · exact execSnapFrame_keeps
  · exact execCommitFrame_keeps
  · exact execStatusFrame_keeps
  · exact execLinkdnFrame_keeps
  · exact execPeerLinkDown_keeps
  · exact execExtest_keeps
  · exact execSamplePreload_keeps
  · exact execIdcode_keeps
  · exact execHighz_keeps
  · exact execClamp_keeps
  · exact execBypass_keeps
  · exact execDebug_keeps
  · exact execDebugUpdateDr_keeps
  · exact execDbgHalt_keeps
  · exact execDbgResume_keeps
  · exact execDbgStep_keeps
  · exact execBreakpointHit_keeps
  · exact execDbgDataWrite_keeps
  · exact execCommaLock_keeps
  · exact execPerstNRelease_keeps
  · exact execPfailNRelease_keeps
  · exact execTripInputInactive_keeps
  · exact execConfigurationWrite_keeps
  · exact execAngleCyclePassage_keeps
  · exact execScrubPassEnd_keeps
  · exact execLaneClockEdge_keeps
  · exact execLaneRxStartEdge_keeps
  · exact execPeerFrameDiscard_keeps

/-! ### The passing of time (Tick.lean) -/

theorem Canonical.takeDue {p : Instr → Bool} (h : Canonical s) (e : takeDue s p = some t) : Canonical t := by
  unfold Machine.takeDue at e
  split at e
  · cases e
    exact h.same (by rfl)
  · cases e
theorem Canonical.to {p : Nat} (h : Canonical s) : Canonical (s.to p) := h.same (by rfl)
theorem Canonical.runLater {x : Later} (h : Canonical s) : Canonical (runLater s x) := by
  unfold Machine.runLater
  split
  · exact h.chEvent
  · exact h.fifoPush
  · exact h
  · exact h.same (by rfl)
  · exact h.faultEvtNow
  · exact h.faultMessage
  · exact h.releaseSafe
  · exact h.reactRest
  · exact h.injectRaise
  · exact h.irqSent
  · exact h.peerSend
  · exact h.enumSend
  · exact h.peerCheck
  · exact h.dormantEnter
  · exact h.lgsRecovered
  · exact h.lobbyLevels
  · exact h.syncFilterEnds
  · exact h.soOff
  · exact h.tripAccept
  · exact h.tripInput
  · exact h.threadReady
  · exact h.barMask
  · exact h.wrapShadows
theorem Canonical.runLaters (h : Canonical s) : Canonical (runLaters s) := (h.same (by rfl)).fold (·.runLater)
theorem Canonical.runEnds (h : Canonical s) : Canonical (runEnds s) := (h.same (by rfl)).fold (·.runLater)
theorem Canonical.stepTb {slew : Bool} (h : Canonical s) : Canonical (stepTb s slew) :=
  ((h.updTb.onIf (·.setFl _ _ _ _)).setEv _ _).anchorAll
theorem Canonical.clearFofs (h : Canonical s) : Canonical (clearFofs s) := ((h.setFl _ _ _ _).setEv _ _).updTb
theorem Canonical.tbTick (h : Canonical s) : Canonical (tbTick s) :=
  (h.updTb.onIf (·.clearFofs)).ifElse (·.stepTb) (fun h => .ite h.enq h.advanceTb)
    |>.updTb.onIf (fun h => (h.setBt _ _ _).startLclk)
theorem Canonical.tbLclk (h : Canonical s) : Canonical (tbLclk s) := by
  unfold Machine.tbLclk
  extract_lets s1 acc k
  have h1 : Canonical s1 := h.onIf (·.clearFofs)
  refine .ite h1.stepTb ?_
  split
  · exact h1.updTb
  · exact h1.enq
  · exact h1.onIf (·.updTb.advanceTb.same (by rfl))
theorem Canonical.clockTick (h : Canonical s) : Canonical (clockTick s) :=
  ((h.same (by rfl)).ifElse (·.tbTick) (·.tbLclk)).runLaters
theorem Canonical.landsAt {t' : Fin 8} (h : Canonical s) : Canonical (landsAt s t') := h.onElse (·.after _ _)
theorem Canonical.landings (h : Canonical s) : Canonical (landings s) := (h.commitDuties.fold (·.landsAt)).onElse (·.enqAll)
theorem Canonical.periodEnds (h : Canonical s) : Canonical (periodEnds s) := h.onIf (fun h => h.fold (·.landsAt))
theorem Canonical.takeLanding (h : Canonical s) (e : takeLanding s = some t) : Canonical t := h.takeDue e
theorem Canonical.groupCntWr {m : Fin 16} (h : Canonical s) : Canonical (groupCntWr s m) := by
  unfold Machine.groupCntWr
  split
  · exact h.updPg.setGroupCount.countMembers
  · exact h
theorem Canonical.groupTick {m : Fin 16} (h : Canonical s) : Canonical (groupTick s m) := by
  unfold Machine.groupTick
  extract_lets s1 g c timed
  have h1 : Canonical s1 := h.actTripclr
  refine .ite h1.enq ?_
  refine .ite (h1.onElse (·.groupCntWr)) ?_
  split
  · exact .ite h1.enq (.ite h1.enq h1.pgApply)
  · exact h1
theorem Canonical.counterTick {n : Fin 96} (h : Canonical s) : Canonical (counterTick s n) := by
  unfold Machine.counterTick
  split
  · exact h.updCh.takeCount
  · refine .ite h ?_
    split
    · exact .ite h.enq (.ite h.enq h.applyAdvance)
    · exact h
theorem Canonical.counters (h : Canonical s) : Canonical (counters s) := by
  unfold Machine.counters
  extract_lets s1 s2
  have h1 : Canonical s1 := h.fold (·.groupTick)
  clear_value s1
  have h2 : Canonical s2 := h1.fold (·.counterTick)
  clear_value s2
  exact h2.onIf (·.same (by rfl))
theorem Canonical.settleCounts (h : Canonical s) : Canonical (settleCounts s) := (h.fold (·.groupCntWr)).fold (·.settleMember)
theorem Canonical.nextSub (h : Canonical s) : Canonical (nextSub s) := h.same (by rfl)
theorem Canonical.angleTick {n : Fin 4} (h : Canonical s) : Canonical (angleTick s n) :=
  ((Canonical.ite h.enq h.takeAngle).onIf (·.enq)).fold (·.convCommit)
theorem Canonical.wakeRows (h : Canonical s) : Canonical (wakeRows s) := h.goMiss.enqAll.onIf (·.enq)
theorem Canonical.engStart {e : Fin 8} (h : Canonical s) : Canonical (engStart s e) := (h.onIf (·.beginRun)).onIf (·.enq)
theorem Canonical.dropRepi {e : Fin 8} {b : Fin 4} (h : Canonical s) : Canonical (dropRepi s e b) :=
  h.onIf (·.updBank.beginRepi)
theorem Canonical.engBegin {e : Fin 8} (h : Canonical s) : Canonical (engBegin s e) := by
  unfold Machine.engBegin
  split
  · exact h
  · exact h.onElse (fun h => h.dropRepi.ifElse (·.threadFault) (fun h => .ite h.enq h.beginInstr))
theorem Canonical.countBusy {e : Fin 8} (h : Canonical s) : Canonical (countBusy s e) :=
  h.onIf (fun h => (h.satFl _ _ _).updEng)
theorem Canonical.doWork {e : Fin 8} {x : EngWork} (h : Canonical s) : Canonical (doWork s e x) := by
  unfold Machine.doWork
  split
  · exact h.enq
  · exact h.microRun
  · exact h.romTail
theorem Canonical.takeEntry {g : Fin 16} (h : Canonical s) : Canonical (takeEntry s g) := by
  unfold Machine.takeEntry
  split
  · exact h.onIf (·.setWork)
  · exact h
theorem Canonical.contextTick {g : Fin 16} (h : Canonical s) : Canonical (contextTick s g) := by
  unfold Machine.contextTick
  split
  · exact h
  · refine .ite h.setWork ?_
    refine .ite h.enq ?_
    split
    · split
      · exact h.enq
      · exact h.badOpcode
    · exact h
theorem Canonical.freeContext {g : Fin 16} (h : Canonical s) : Canonical (freeContext s g) := by
  unfold Machine.freeContext
  split
  · split
    · exact h.onIf (·.freeDesc)
    · exact h
  · exact h.onIf (·.setWork)
  · exact h
theorem Canonical.ringTick {r : Fin 64} (h : Canonical s) : Canonical (ringTick s r) :=
  ((((h.onIf (·.fetchRing)).onIf (·.writeback)).onIf (·.enq)).onIf (·.enq)).onIf (·.enq)
theorem Canonical.syncOutRow (h : Canonical s) (e : syncOutRow s = some t) : Canonical t := by
  unfold Machine.syncOutRow at e
  extract_lets at e
  split at e
  · cases e
    exact h.enq
  · split at e
    · cases e
      exact h.enq
    · cases e
theorem Canonical.calTick {fl : Fin 8} (h : Canonical s) : Canonical (calTick s fl) := by
  unfold Machine.calTick
  extract_lets s1
  have h1 : Canonical s1 := h.onIf (·.calStart)
  split
  · exact .ite h1.enq (h1.onIf (·.enq))
  · exact h1
theorem Canonical.telTick (h : Canonical s) : Canonical (telTick s) := h.updVest.ifElse (·.updVest) (fun h => h.onIf (·.enq))
theorem Canonical.lobbyTick (h : Canonical s) : Canonical (lobbyTick s) := h.lobRearm.enqAll
theorem Canonical.periodic (h : Canonical s) : Canonical (periodic s) :=
  (((((h.expireGrants.telTick.fold (·.calTick)).onIf (·.enq)).onIf (·.lifeSecond)).onIf (·.enq)).onIf (·.enq)).onIf (·.enq)
    |>.onIf (·.wakeLink)
    |>.exitReady
/-- What takes the place of a phase while commands are due, or the phase itself. -/
theorem Canonical.getD {o : Option State} (ho : ∀ t, o = some t → Canonical t) (h : Canonical s) : Canonical (o.getD s) := by
  cases o with
  | none => exact h
  | some t => exact ho t rfl
theorem Canonical.afterDue {f : State → State} (h : Canonical s) (hf : Canonical s → Canonical (f s)) :
    Canonical (afterDue s f) :=
  .getD (fun _ => h.takeDue) (hf h)
theorem Canonical.afterAll {f : State → State} (h : Canonical s) (hf : Canonical s → Canonical (f s)) :
    Canonical (afterAll s f) :=
  .getD (fun _ => h.takeDue) (hf h)
theorem Canonical.onClock {f : State → State} (h : Canonical s) (hf : Canonical s → Canonical (f s)) :
    Canonical (onClock s f) :=
  h.onIf hf
theorem Canonical.endPhase (h : Canonical s) : Canonical (endPhase s) := by
  unfold Machine.endPhase
  split
  · exact h.to
  · exact Canonical.to (h.onClock fun h => (h.snapLate.onIf (·.enq)).onElse (·.enq))
  · exact Canonical.to (h.onClock (·.onIf (·.enq)))
  · exact h.afterAll fun h => (h.onClock (·.enqAll)).to
theorem Canonical.countPhase (h : Canonical s) : Canonical (countPhase s) := by
  unfold Machine.countPhase
  split
  · exact h.enq.ite (.getD (fun _ => h.takeDue) h.to)
  · exact h.landings.to
  · exact (h.onClock (·.counters)).to
  · exact .getD (fun _ => h.takeDue) (h.onClock (·.settleCounts)).to
  · exact .getD (fun _ => h.takeDue) (.to (h.onClock fun h => (h.fold (·.actForce)).onIf (·.enqAll)))
  · exact (h.onClock (·.enqAll)).to
  · exact .ite (.to (h.fold (·.flushPend))) h.nextSub.to
theorem Canonical.workPhase (h : Canonical s) : Canonical (workPhase s) := by
  unfold Machine.workPhase
  split
  · exact h.afterDue (·.enqAll.to)
  · exact .to (.fold (h.same (by rfl)) (·.onIf (·.nwlActs)))
  · exact h.afterDue fun h => .to (h.fold (·.angleTick))
  · exact h.afterDue (·.enqAll.enqAll.periodEnds.to)
  · exact h.enqAll.to
  · exact h.enqAll.to
  · exact .getD (fun _ => h.takeLanding) (h.afterDue fun h => .to (h.wakeRows.onClock (·.fold (·.engStart))))
  · exact .to (h.onClock (·.enqAll))
  · exact .to (h.onClock fun h => (h.fold (·.countBusy)).fold (·.engBegin))
  · exact h.afterDue (·.enqAll.to)
  · exact h.lobbyTick.to
  · exact .to (h.fold (·.onIf (·.laneBoundary)))
  · exact .getD (fun _ => h.syncOutRow) h.to
  · exact (Canonical.enqAll (h.fold (·.freeContext))).to
  · exact .to (.galleryCycle (h.fold (·.takeEntry)))
  · exact .to (h.fold (·.contextTick))
  · exact .to (h.fold (·.ringTick))
  · exact .getD (fun _ => h.takeDue) (h.afterDue (·.periodic.lobbyTick.to))
theorem Canonical.latePhase (h : Canonical s) : Canonical (latePhase s) := by
  unfold Machine.latePhase
  split
  · exact (h.onClock (·.supAccess)).to
  · exact h.afterAll (·.runEnds.enqAll.to)
  · exact h.afterAll (fun h => (h.onClock (fun h => (h.fold (·.countWait)).enqAll)).to)
  · exact (h.onIf (·.enq)).to
  · exact (h.onClock (fun h => h.fold (·.reselect))).clockTick.to
  · refine .ite h.to ?_
    refine .ite ?_ ?_
    · split
      · exact h.doWork.to
      · exact h.to
    · split
      · exact h.doWork.to
      · exact h.to
theorem Canonical.idle (h : Canonical s) : Canonical (idle s) :=
  .ite h.endPhase (.ite h.countPhase (.ite h.workPhase h.latePhase))

/-! ### A step (Step.lean) -/

theorem step_keeps : Keeps s (step s) := by
  unfold step
  split
  · exact .next (·.idle)
  · exact Keeps.of exec_keeps (·.same (by rfl))
end

/-- Settles O60: no command ends a run, and every one keeps the canonical form. -/
theorem stepsKeepCanonical : Obligations.StepsKeepCanonical := by
  unfold Obligations.StepsKeepCanonical
  intro s
  obtain ⟨t, e, ht⟩ := step_keeps (s := s)
  refine ⟨⟨t, e⟩, fun h u hu => ?_⟩
  rw [e] at hu
  cases hu
  exact ht h

end Sys2Proof.Machine

/-!
# The form of a step and the reset state (O58, O59)
-/

namespace Sys2Proof.Machine

/-- Settles O58, by the two equations of `step`. -/
theorem stepTakesFront : Obligations.StepTakesFront := by
  unfold Obligations.StepTakesFront
  intro s c rest
  refine ⟨step_cons { s with pending := c :: rest } c rest rfl, fun h => ⟨idle s, step_nil s h⟩⟩

/-- Settles O59: the reset state lists nothing in its stores and queues. -/
theorem resetState : Obligations.ResetState := by
  unfold Obligations.ResetState
  refine ⟨rfl, fun _ => rfl, rfl, rfl, rfl, rfl, rfl, rfl, fun n => ?_, canonical_reset⟩
  have hn : State.reset.ch[n] = Chan.reset := Vector.getElem_replicate n.isLt
  rw [hn]
  exact ⟨rfl, rfl⟩

end Sys2Proof.Machine

/-!
# What a raise reaches

A raise changes the registers of the records and of FLT_PEND, the Banister itself and what falls due later, and nothing else.
-/

namespace Sys2Proof.Machine

section
variable {s t u : State}

/-- The state `t` with the registers, the Banister, the agenda and the later happenings of `s`. -/
def State.withReports (t s : State) : State := { t with regs := s.regs, flt := s.flt, agenda := s.agenda, later := s.later }

/-- From `s` to `t` a report has reached the Banister: registers that `p` holds of may have changed, and beside them the
Banister itself and what falls due later. -/
structure Reports (p : Nat → Prop) (s t : State) : Prop where
  rd : ∀ o, ¬p o → t.rd o = s.rd o
  rest : t.withReports s = s

section
variable {p q : Nat → Prop}

theorem Reports.refl : Reports p s s := ⟨fun _ _ => rfl, rfl⟩

theorem Reports.trans (h : Reports p s t) (k : Reports p t u) : Reports p s u := by
  refine ⟨fun o ho => (k.rd o ho).trans (h.rd o ho), ?_⟩
  calc u.withReports s = (u.withReports t).withReports s := rfl
    _ = s := by rw [k.rest, h.rest]

theorem Reports.mono (h : Reports p s t) (hpq : ∀ o, p o → q o) : Reports q s t :=
  ⟨fun o ho => h.rd o fun hp => ho (hpq o hp), h.rest⟩

theorem Reports.upd {o : Nat} {f : Word → Word} (ho : p o) : Reports p s (s.upd o f) := by
  refine ⟨fun x hx => ?_, rfl⟩
  have hne : x ≠ o := fun e => hx (e ▸ ho)
  rw [State.upd_rd, if_neg hne]

theorem Reports.wr {o : Nat} {v : Word} (ho : p o) : Reports p s (s.wr o v) := .upd (f := fun _ => v) ho

theorem Reports.setBt {o i : Nat} {b : Bool} (ho : p o) : Reports p s (s.setBt o i b) := .upd ho
theorem Reports.setFl {o lo len v : Nat} (ho : p o) : Reports p s (s.setFl o lo len v) := .upd ho
theorem Reports.updRec {k : Nat} {f : FltRec → FltRec} : Reports p s (s.updRec k f) := ⟨fun _ _ => rfl, rfl⟩
theorem Reports.later' {d : Nat} {l : Later} : Reports p s (s.later' d l) := ⟨fun _ _ => rfl, rfl⟩

theorem Reports.ite {c : Prop} [Decidable c] (ht : Reports p s t) (hu : Reports p s u) : Reports p s (if c then t else u) := by
  split
  · exact ht
  · exact hu

variable (h : Reports p s t)
include h
theorem Reports.ticks : t.ticks = s.ticks := (congrArg State.ticks h.rest :)
theorem Reports.tb : t.tb = s.tb := (congrArg State.tb h.rest :)
theorem Reports.mem : t.mem = s.mem := (congrArg State.mem h.rest :)
theorem Reports.chest : t.chest = s.chest := (congrArg State.chest h.rest :)
theorem Reports.ch : t.ch = s.ch := (congrArg State.ch h.rest :)
theorem Reports.pg : t.pg = s.pg := (congrArg State.pg h.rest :)
theorem Reports.nwl : t.nwl = s.nwl := (congrArg State.nwl h.rest :)
theorem Reports.eng : t.eng = s.eng := (congrArg State.eng h.rest :)
theorem Reports.lane : t.lane = s.lane := (congrArg State.lane h.rest :)
theorem Reports.ring : t.ring = s.ring := (congrArg State.ring h.rest :)
end

/-- The registers of the first-fault record, of the sources' records and of the volatile log. -/
def recordReg (o : Nat) : Prop := (0x1020 ≤ o ∧ o < 0x1040) ∨ (0x1800 ≤ o ∧ o < 0x2000)

/-- The registers that a raise may change: those of the records, and FLT_PEND. -/
def raiseReg (o : Nat) : Prop := recordReg o ∨ (0x1060 ≤ o ∧ o < 0x1080)

/-- A field is below its number of values. -/
theorem fl_lt (s : State) (o lo len : Nat) : s.fl o lo len < 2 ^ len := Nat.mod_lt _ (Nat.two_pow_pos len)

/-- A merge into a record in handling writes the source's record, its log entry and the first-fault record (R331). -/
theorem mergeRaise_reports (s : State) (r : Raise) : Reports recordReg s (s.mergeRaise r) := by
  unfold State.mergeRaise
  extract_lets k st m s1 log first both s2 real s3 s4 s5
  have hst : recordReg st := .inr (by have := r.src.isLt; simp only [st, k, fsrcStat, R.FSRC_STAT]; omega)
  have hlog : ∀ i, i < 16 → recordReg (log + i) := fun i hi =>
    .inr (by have := fl_lt s1 st 22 6; simp only [log, R.FLT_LOG]; omega)
  have hfirst : ∀ i, i < 16 → recordReg (R.FLT_FIRST_W + i) := fun i hi => .inl (by simp only [R.FLT_FIRST_W]; omega)
  have hboth : ∀ (u : State) (f : State → Nat → State),
      (∀ v o, (∀ i, i < 16 → recordReg (o + i)) → Reports recordReg v (f v o)) → Reports recordReg u (both u f) := by
    intro u f hf
    have hif : Reports recordReg u (if u.bt st 21 then f u log else u) := .ite (hf _ _ hlog) .refl
    exact .ite (hif.trans (hf _ _ hfirst)) hif
  have h1 : Reports recordReg s s1 := (Reports.setFl hst).trans .updRec
  have h2 : Reports recordReg s s2 := h1.trans (hboth _ _ fun _ _ ho => .setFl (ho 12 (by omega)))
  have h3 : Reports recordReg s s3 := (h2.trans (.setBt hst)).trans (hboth _ _ fun _ _ ho => .setBt (ho 0 (by omega)))
  have h4 : Reports recordReg s s4 := (h2.trans (.setBt hst)).trans .updRec
  have h5 : Reports recordReg s s5 :=
    h4.trans (hboth _ _ fun _ _ ho => (Reports.setBt (ho 0 (by omega))).trans (.wr (ho 8 (by omega))))
  have h6 := (h3.trans (.setBt hst)).trans
    (hboth (s3.setBt st 19 true) (fun s o => s.setBt o 12 true) fun _ _ ho => .setBt (ho 0 (by omega)))
  exact .ite (.ite h6 h3) (.ite h2 (h5.trans .later'))

/-- A raise writes its record where one is in handling, or sets PEND, or waits for its record (R329, R331). -/
theorem raiseWith_reports (s : State) (r : Raise) : Reports raiseReg s (s.raiseWith r) := by
  have merge (u : State) : Reports raiseReg u (u.mergeRaise r) := (mergeRaise_reports u r).mono fun _ => .inl
  have pend : Reports raiseReg s (s.setFltPend r.src.val true) :=
    .setBt (.inr (by have := r.src.isLt; simp only [R.FLT_PEND]; omega))
  unfold State.raiseWith
  refine .ite (merge s) (.ite (pend.trans (merge _)) ?_)
  exact .ite ⟨fun _ _ => rfl, rfl⟩ ⟨fun _ _ => rfl, rfl⟩

theorem raise_reports (s : State) (k : Nat) (d : Word) : Reports raiseReg s (s.raise k d) := raiseWith_reports s _

/-- A report keeps PEND of every source. -/
theorem Reports.fltPend (h : Reports recordReg s t) {k : Nat} (hk : k < 256) : t.fltPend k = s.fltPend k := by
  have hr : ¬recordReg (R.FLT_PEND + 4 * (k / 32)) := by
    simp only [recordReg, R.FLT_PEND]
    omega
  simp only [State.fltPend, State.bt, h.rd _ hr]

/-- A raise has reached the Banister (R329, R331). -/
theorem raiseWith_raised (s : State) (r : Raise) : Raised (s.raiseWith r) r.src.val := by
  unfold State.raiseWith
  extract_lets k flt s1
  split
  · next hp => exact .inl (((mergeRaise_reports s r).fltPend r.src.isLt).trans hp)
  split
  · refine .inl (((mergeRaise_reports _ r).fltPend r.src.isLt).trans ?_)
    simp only [State.setFltPend, State.fltPend, State.bt, State.setBt_rd, if_true, k]
    rw [bit_setBit _ _ _ _ (Nat.mod_lt _ (by omega)), if_pos rfl]
  · have hr : r ∈ s1.flt.raised := List.mem_append_right _ (List.mem_singleton.mpr rfl)
    split
    · exact .inr ⟨r, hr, rfl⟩
    · exact .inr ⟨r, hr, rfl⟩

theorem raise_raised (s : State) {k : Nat} (hk : k < 256) (d : Word) : Raised (s.raise k d) k := by
  have h := raiseWith_raised s ⟨s.ticks, s.tb.tb.toNat, Fin.ofNat 256 k, d, false, 0x3F, false⟩
  rwa [show (Fin.ofNat 256 k).val = k from Nat.mod_eq_of_lt hk] at h
end

end Sys2Proof.Machine

/-!
# Requests of the ports

What a read leaves, which bytes a write sets, and what a request comes to, for O56 and O57.
-/

namespace Sys2Proof.Machine

section
variable {s t : State} {a : Agent} {o n k : Nat}

/-! ### What a read of a register leaves (R9) -/

/-- A read leaves the memory windows and the count of ticks. -/
def ReadFrame (s : State) (p : Word × State) : Prop := p.2.mem = s.mem ∧ p.2.ticks = s.ticks

theorem ReadFrame.ite {c : Prop} [Decidable c] {p q : Word × State} (hp : ReadFrame s p) (hq : ReadFrame s q) :
    ReadFrame s (if c then p else q) := by
  split
  · exact hp
  · exact hq

theorem readTbLo_frame : ReadFrame s (readTbLo s a) := by simp [ReadFrame, readTbLo]
theorem readSyncTs_mem : (readSyncTs s a).2.mem = s.mem := by
  unfold readSyncTs
  dsimp only
  split
  · rw [State.updTb_mem, State.setLat_mem, State.setLat_mem]
  · rw [State.setLat_mem, State.setLat_mem]
theorem readSyncTs_ticks : (readSyncTs s a).2.ticks = s.ticks := by
  unfold readSyncTs
  dsimp only
  split
  · rw [State.updTb_ticks, State.setLat_ticks, State.setLat_ticks]
  · rw [State.setLat_ticks, State.setLat_ticks]
theorem readCnt_frame {n : Fin 96} : ReadFrame s (readCnt s a n) := by
  unfold readCnt
  split
  · exact .ite ⟨State.setLat_mem .., State.setLat_ticks ..⟩ ⟨rfl, rfl⟩
  · exact ⟨rfl, rfl⟩
theorem readCapa_frame {n : Fin 96} : ReadFrame s (readCapa s a n) := by simp [ReadFrame, readCapa]
theorem readFifoT_frame {n : Fin 96} : ReadFrame s (readFifoT s a n) := by
  unfold readFifoT
  split
  · exact ⟨State.setLat_mem .., State.setLat_ticks ..⟩
  · simp [ReadFrame]
theorem readToothT_frame {n : Fin 4} : ReadFrame s (readToothT s a n) := by simp [ReadFrame, readToothT]
theorem readEvlastT_frame {n : Fin 4} : ReadFrame s (readEvlastT s a n) := by simp [ReadFrame, readEvlastT]
theorem readRxbuf_frame {k : Fin 16} : ReadFrame s (readRxbuf s k) := by
  unfold readRxbuf
  split
  · exact ⟨rfl, rfl⟩
  · exact ⟨rfl, rfl⟩
theorem clearRc_frame {r : RegRow} {w : Word} : ReadFrame s (w, clearRc s o r) := by
  unfold clearRc
  split
  · exact ⟨rfl, rfl⟩
  · exact ⟨rfl, rfl⟩

theorem readReg_frame : ReadFrame s (readReg s a o) := by
  unfold readReg
  split
  · exact .ite readTbLo_frame (.ite ⟨readSyncTs_mem, readSyncTs_ticks⟩ clearRc_frame)
  · exact .ite readCnt_frame (.ite readCapa_frame (.ite readFifoT_frame clearRc_frame))
  · exact clearRc_frame
  · exact .ite readToothT_frame (.ite readEvlastT_frame clearRc_frame)
  · exact ⟨rfl, rfl⟩
  · exact .ite ⟨rfl, rfl⟩ (.ite ⟨rfl, rfl⟩ clearRc_frame)
  · exact .ite readRxbuf_frame clearRc_frame
  · exact clearRc_frame
  · exact clearRc_frame
  · exact clearRc_frame
  · exact ⟨rfl, rfl⟩
  · exact ⟨rfl, rfl⟩
  · exact ⟨rfl, rfl⟩

/-- Parameter RAM's note of a port's access (R167) changes nothing else. -/
theorem notePram_eq (s : State) (a : Agent) (o : Nat) : ∃ p, notePram s a o = { s with pram := p } := by
  unfold notePram
  split
  · exact ⟨s.pram, rfl⟩
  · split
    · exact ⟨_, rfl⟩
    · exact ⟨_, rfl⟩
    · exact ⟨s.pram, rfl⟩

theorem serveRead_frame : ReadFrame s (serveRead s a o) := by
  unfold serveRead
  split
  · obtain ⟨p, hp⟩ := notePram_eq s a o
    rw [hp]
    exact ⟨rfl, rfl⟩
  · split
    · exact readReg_frame
    · exact ⟨rfl, rfl⟩

/-! ### The bytes of a write (R8) -/

/-- A write of some bytes of a word changes these bytes alone, but for those that read 0 (R170). -/
theorem setMem_byte (s : State) (o be : Nat) (v : Word) (x : Nat) : (s.setMem o be v).byte x =
    if o ≤ x ∧ x < o + 4 ∧ be.testBit (x - o) = true ∧ ctxZero x = false then byteOf v (x - o) else s.byte x := by
  have put (s : State) (i : Nat) : (if be.testBit i then s.setByte (o + i) (byteOf v i) else s).byte x =
      if x = o + i ∧ be.testBit (x - o) = true ∧ ctxZero x = false then byteOf v (x - o) else s.byte x := by
    split
    · next hb =>
      rw [State.setByte_byte]
      by_cases hx : x = o + i
      · subst hx
        simp [hb]
      · simp [hx]
    · next hb =>
      rw [if_neg]
      rintro ⟨rfl, hb', -⟩
      rw [Nat.add_sub_cancel_left] at hb'
      exact hb hb'
  show (if be.testBit 3 then _ else _ : State).byte x = _
  rw [put, put, put, put]
  by_cases hx : o ≤ x ∧ x < o + 4
  · obtain ⟨i, rfl⟩ := Nat.exists_eq_add_of_le hx.1
    have hi : i < 4 := by omega
    interval_cases i <;> simp
  · have hne : x ≠ o + 0 ∧ x ≠ o + 1 ∧ x ≠ o + 2 ∧ x ≠ o + 3 := by omega
    rw [if_neg fun h => hne.2.2.2 h.1, if_neg fun h => hne.2.2.1 h.1, if_neg fun h => hne.2.1 h.1, if_neg fun h => hne.1 h.1,
      if_neg fun h => hx ⟨h.1, h.2.1⟩]

/-- The byte enables of a request cover its bytes in its first word. -/
theorem testBit_firstBytes {i : Nat} : (firstBytes o n).1.testBit i = decide (o % 4 ≤ i ∧ i < o % 4 + min n (4 - o % 4)) := by
  simp only [firstBytes, Nat.testBit_mul_two_pow, Nat.testBit_two_pow_sub_one]
  by_cases h : o % 4 ≤ i
  · simp only [h, decide_true, true_and, Bool.true_and, decide_eq_decide]
    omega
  · simp [h]

theorem byteOf_eq (w : Word) (i : Nat) : byteOf w i = (w >>> (8 * i)).setWidth 8 := by
  apply BitVec.eq_of_toNat_eq
  simp [byteOf]

/-- Byte `i` of a value that a request places from byte `m` of a word on. -/
theorem byteOf_placed (v : BitVec 64) {m i : Nat} (h : m + i < 4) :
    byteOf ((v <<< (8 * m)).setWidth 32) (m + i) = (v >>> (8 * i)).setWidth 8 := by
  rw [byteOf_eq]
  apply BitVec.eq_of_getLsbD_eq
  intro j hj
  have h1 : 8 * (m + i) + j < 32 := by omega
  have h2 : ¬8 * (m + i) + j < 8 * m := by omega
  have h4 : 8 * (m + i) + j - 8 * m = 8 * i + j := by omega
  simp [hj, h1, h2, h4]
end

section
variable {s t : State} {a : Agent} {o n : Nat} {v : BitVec 64} {c : Nat → Nat → BitVec 64 → Instr}

/-! ### The agenda and the link -/

/-- What falls due stands in the agenda. -/
theorem mem_insertDue (d : Due) (l : List Due) : d ∈ insertDue d l := by
  induction l with
  | nil => exact List.mem_singleton_self d
  | cons x xs ih =>
    unfold insertDue
    split
    · exact List.mem_cons_of_mem x ih
    · exact List.mem_cons_self

theorem mem_insertDue_of_mem {d x : Due} {l : List Due} (h : x ∈ l) : x ∈ insertDue d l := by
  induction l with
  | nil => exact absurd h List.not_mem_nil
  | cons y ys ih =>
    unfold insertDue
    split
    · rcases List.mem_cons.mp h with rfl | hy
      · exact List.mem_cons_self
      · exact List.mem_cons_of_mem y (ih hy)
    · exact List.mem_cons_of_mem d h

/-- The state that serves a port's request: the host's traffic has woken the link (R403). -/
def atPort (s : State) (a : Agent) : State := if a = .host then wakeLink s else s

/-- The state `t` with the registers, the link and the agenda of `s`. -/
def State.withLink (t s : State) : State := { t with regs := s.regs, pcie := s.pcie, agenda := s.agenda }

theorem atPort_of_ne (h : a ≠ .host) : atPort s a = s := if_neg h

/-- From `s` to `t` the link has woken: PCIE_STAT may have changed, and beside it the link itself and the agenda. -/
def Woken (s t : State) : Prop := t.withLink s = s ∧ ∀ o, o ≠ R.PCIE_STAT → t.rd o = s.rd o

theorem wakeLink_woken (s : State) : Woken s (wakeLink s) := by
  unfold wakeLink
  extract_lets s1
  have h1 : Woken s s1 := by
    unfold s1
    split
    · refine ⟨rfl, fun o ho => ?_⟩
      rw [State.setFl_rd, if_neg ho, State.updPcie_rd]
    · exact ⟨rfl, fun _ _ => rfl⟩
  split
  · exact h1
  · exact h1

theorem atPort_woken (s : State) (a : Agent) : Woken s (atPort s a) := by
  unfold atPort
  split
  · exact wakeLink_woken s
  · exact ⟨rfl, fun _ _ => rfl⟩

theorem atPort_withLink (s : State) (a : Agent) : (atPort s a).withLink s = s := (atPort_woken s a).1

theorem atPort_rd (ho : o ≠ R.PCIE_STAT) : (atPort s a).rd o = s.rd o := (atPort_woken s a).2 o ho

@[simp] theorem atPort_mem : (atPort s a).mem = s.mem := (congrArg State.mem (atPort_withLink s a) :)
@[simp] theorem atPort_ch : (atPort s a).ch = s.ch := (congrArg State.ch (atPort_withLink s a) :)
@[simp] theorem atPort_eng : (atPort s a).eng = s.eng := (congrArg State.eng (atPort_withLink s a) :)
@[simp] theorem atPort_bg : (atPort s a).bg = s.bg := (congrArg State.bg (atPort_withLink s a) :)
@[simp] theorem atPort_ticks : (atPort s a).ticks = s.ticks := (congrArg State.ticks (atPort_withLink s a) :)
@[simp] theorem atPort_tb : (atPort s a).tb = s.tb := (congrArg State.tb (atPort_withLink s a) :)

theorem atPort_samples {d : Nat} : (atPort s a).samples d = s.samples d :=
  State.samples_eq atPort_ticks atPort_tb (atPort_rd (by decide)) (atPort_rd (by decide)) d

/-! ### What a request comes to (R8, R387, R402, R409) -/

theorem requestWrite_unserved (h : served s a = false) : requestWrite s a c o n v = .next s := by
  simp [requestWrite, h]
theorem rcRead_unserved (h : served s a = false) : execRcRead a o n s = .next s := by
  simp [execRcRead, h]

theorem requestWrite_malformed (h : served s .sup = true) (ho : 0x100000 ≤ o) :
    requestWrite s .sup c o n v = .next (xspiProto s) := by
  simp [requestWrite, h, ho]
theorem rcRead_malformed (h : served s .sup = true) (ho : 0x100000 ≤ o) : execRcRead .sup o n s = .next (xspiProto s) := by
  simp [execRcRead, h, ho]

/-- Only a request of the host can be unsupported. -/
theorem eq_host_of_unsupported (h : unsupported s a = true) : a = .host := by
  simp only [unsupported, Bool.and_eq_true, beq_iff_eq] at h
  exact h.1

theorem requestWrite_unsupported (h : served s a = true) (hu : unsupported s a = true) :
    requestWrite s a c o n v = .next (wakeLink s) := by
  have ha := eq_host_of_unsupported hu
  subst ha
  simp [requestWrite, h, hu]
theorem rcRead_unsupported (h : served s a = true) (hu : unsupported s a = true) : execRcRead a o n s = .next (wakeLink s) := by
  have ha := eq_host_of_unsupported hu
  subst ha
  simp [execRcRead, h, hu]

theorem requestWrite_waits (h : served s a = true) (hu : unsupported s a = false) (ho : o < 0x100000)
    (hw : accessWaits s a = true) : requestWrite s a c o n v = .next ((s.after 0 .dozeExit).after 1 (c o n v)) := by
  simp [requestWrite, h, hu, ho, hw]
theorem rcRead_waits (h : served s a = true) (hu : unsupported s a = false) (ho : o < 0x100000) (hw : accessWaits s a = true) :
    execRcRead a o n s = .next ((s.after 0 .dozeExit).after 1 (.rcRead a o n)) := by
  simp [execRcRead, h, hu, ho, hw]

/-- A port's request is served at once. -/
structure Ready (s : State) (a : Agent) : Prop where
  served : served s a = true
  waits : accessWaits s a = false
  supported : unsupported s a = false

/-- The bytes that a host's request in MW0 covers lie in MW0, at most 8 of them (R402). -/
def Fits (a : Agent) (o n : Nat) : Prop := a = .host → o + n ≤ 0x100000 ∧ n ≤ 8

theorem reach_mw0 (ho : o < 0x100000) (hf : Fits a o n) : reach a o n = some o := by
  cases a with
  | host =>
    obtain ⟨h1, h2⟩ := hf rfl
    simp [reach, h1, h2]
  | sup => simp [reach, Nat.mod_eq_of_lt ho]
  | debug => simp [reach, Nat.mod_eq_of_lt ho]
  | bank e b => simp [reach, Nat.mod_eq_of_lt ho]
  | newel m => simp [reach, Nat.mod_eq_of_lt ho]

theorem window_mw0 (ho : o < 0x100000) : window o = some (.mw0 o) := if_pos ho

theorem requestWrite_mw0 (h : Ready s a) (ho : o < 0x100000) (hf : Fits a o n) : requestWrite s a c o n v =
    .next (restWrite (serveWrite (atPort s a) a (o / 4 * 4) (firstBytes o n).1 ((v <<< (8 * (o % 4))).setWidth 32))
      c o n (firstBytes o n).2 v) := by
  simp [requestWrite, h.served, h.waits, h.supported, ho, reach_mw0 ho hf, window_mw0 ho, writeWord, Window.align, atPort]

theorem rcRead_mw0 (h : Ready s a) (ha : a ≠ .host) (hb : readBusy s a = false) (ho : o < 0x100000) : execRcRead a o n s =
    .next (let r := serveRead s a (o / 4 * 4)
      let f := (firstBytes o n).2
      let t := r.2.keep a (narrow r.1 o f)
      if f < n then t.after 1 (.rcRead a (o + f) (n - f)) else t) := by
  have hf : Fits a o n := fun e => absurd e ha
  simp [execRcRead, h.served, h.waits, h.supported, hb, ho, ha, reach_mw0 ho hf, window_mw0 ho, readWord, Window.align]

theorem rcRead_busy (h : Ready s a) (ho : o < 0x100000) (hb : readBusy s a = true) :
    execRcRead a o n s = .next (s.after 1 (.rcRead a o n)) := by
  simp [execRcRead, h.served, h.waits, h.supported, hb, ho]

/-- Outside the windows of the host port, or too large for them (R402). -/
def Outside (o n : Nat) : Prop :=
  (o < 0x100000 ∧ 0x100000 < o + n) ∨ (o < 0x140000 ∧ 8 < n) ∨ (0x140000 ≤ o ∧ o < 0x200000) ∨ 0x202000 < o + n

/-- No window takes a host's request outside of them. -/
theorem reach_outside (h : Outside o n) : (reach .host o n).bind (fun x => (window x).map (fun w => (x, w))) = none := by
  unfold Outside at h
  by_cases hr : reach .host o n = none
  · rw [hr]
    rfl
  · have hs : reach .host o n = some o := by
      simp only [reach] at hr ⊢
      split at hr
      · next hc => rw [if_pos hc]
      · exact absurd rfl hr
    have hw : window o = none := by
      simp only [reach, ite_eq_right_iff, Bool.or_eq_true, Bool.and_eq_true, decide_eq_true_eq, reduceCtorEq, imp_false,
        Decidable.not_not] at hr
      unfold window
      rw [if_neg (by omega)]
      by_cases h2 : o < 0x200000
      · rw [if_pos h2, if_neg (by omega)]
      · omega
    rw [hs]
    simp [hw]

theorem requestWrite_outside (h : Ready s .host) (ho : Outside o n) : requestWrite s .host c o n v = .next (wakeLink s) := by
  simp [requestWrite, h.served, h.waits, h.supported, reach_outside ho]
theorem rcRead_outside (h : Ready s .host) (hb : readBusy s .host = false) (ho : Outside o n) :
    execRcRead .host o n s = .next (wakeLink s) := by
  simp [execRcRead, h.served, h.waits, h.supported, hb, reach_outside ho]

/-- A request of each of the three kinds, from what a write request and a read request come to. -/
theorem answers_requests {P : Instr → State → Prop} {t : Instr → State}
    (hw : ∀ c : Nat → Nat → BitVec 64 → Instr, requestWrite s a c o n v = .next (t (c o n v)))
    (hr : execRcRead a o n s = .next (t (.rcRead a o n))) (hP : ∀ c, P c (t c)) :
    ∀ c ∈ [.registerWrite a o n v, .codeRamWrite a o n v, .rcRead a o n], Answers c s (P c) := by
  simp only [List.forall_mem_cons, List.not_mem_nil, false_implies, implies_true, and_true]
  exact ⟨⟨_, hw (.registerWrite a), hP _⟩, ⟨_, hw (.codeRamWrite a), hP _⟩, ⟨_, hr, hP _⟩⟩

/-! ### Words of a request -/

theorem restWrite_done {k : Nat} (h : n ≤ k) : restWrite s c o n k v = s := if_neg (by omega)

theorem restWrite_more {k : Nat} (h : k < n) : restWrite s c o n k v = s.after 1 (c (o + k) (n - k) (v >>> (8 * k))) := if_pos h

/-- What a request covers within its word. -/
theorem firstBytes_within (h : o % 4 + n ≤ 4) : (firstBytes o n).2 = n := Nat.min_eq_left (by omega)

theorem firstBytes_over (h : 4 ≤ o % 4 + n) : (firstBytes o n).2 = 4 - o % 4 := Nat.min_eq_right (by omega)

theorem firstBytes_word (h : o % 4 = 0) (hn : 4 ≤ n) : firstBytes o n = (15, 4) := by
  simp [firstBytes, h, hn]

/-- A part of a word does not have all byte enables. -/
theorem firstBytes_part (hn : 0 < n) (h4 : n < 4) (h : o % 4 + n ≤ 4) : (firstBytes o n).1 % 16 ≠ 15 := by
  have hm : o % 4 < 4 := Nat.mod_lt _ (by omega)
  have hmin : min n (4 - o % 4) = n := Nat.min_eq_left (by omega)
  simp only [firstBytes, hmin]
  generalize o % 4 = m at *
  interval_cases n <;> interval_cases m <;> simp_all

theorem narrow_word (h : o % 4 = 0) (w : Word) : narrow w o 4 = w := by
  have hones : w32 (2 ^ (8 * 4) - 1) = BitVec.allOnes 32 := by decide
  rw [narrow, hones, BitVec.and_allOnes, h, Nat.mul_zero, BitVec.ushiftRight_zero]

theorem placed_word (h : o % 4 = 0) (v : BitVec 64) : (v <<< (8 * (o % 4))).setWidth 32 = v.setWidth 32 := by
  simp [h]
end

end Sys2Proof.Machine

/-!
# Writes of SYS_ID (O56)
-/

namespace Sys2Proof.Machine

section
variable {s t : State} {a : Agent} {o n : Nat} {v : Word}

/-! ### A write of SYS_ID (R3) -/

/-- What `Obligations.SysIdWrites` calls ignored: SYS_ID stays, a nonzero value is reported, and nothing else changes but what the
report does. -/
def Ignored (s : State) (v : Word) (t : State) : Prop :=
  t.rd R.SYS_ID = s.rd R.SYS_ID ∧ (v ≠ 0 → Raised t FS.RSVD_WRITE) ∧ (v = 0 → t.flt = s.flt ∧ t.rd = s.rd)
    ∧ t.ch = s.ch ∧ t.pg = s.pg ∧ t.nwl = s.nwl ∧ t.eng = s.eng ∧ t.lane = s.lane ∧ t.ring = s.ring ∧ t.mem = s.mem
    ∧ t.chest = s.chest

theorem and_not_zero (w : Word) : w &&& ~~~ w32 0 = w := by
  rw [show ~~~ w32 0 = BitVec.allOnes 32 by decide, BitVec.and_allOnes]

/-- A write of a register without writable fields changes no register. -/
theorem plainWrite_rd {r : RegRow} (hrw : r.rw = 0) (h1c : r.w1c = 0) (h1s : r.w1s = 0) : (plainWrite s o r v).rd = s.rd := by
  funext j
  have hv : v &&& w32 0 = 0#32 := BitVec.and_zero
  simp only [plainWrite, State.upd_rd, hrw, h1c, h1s]
  split
  · next e =>
    rw [e, and_not_zero, hv, BitVec.zero_and, BitVec.or_zero, BitVec.or_zero, BitVec.not_zero, BitVec.and_allOnes]
  · rfl

/-- The table's row of SYS_ID, which has no field to write. -/
def sysIdRow : RegRow := ⟨0, 1, 0x4, "SYS_ID", 0, 0, 0, 0, 0, 0x809600A1, []⟩

theorem regRow?_sysId : regRow? R.SYS_ID = some sysIdRow := by rfl
theorem place_sysId : ∃ rows, place R.SYS_ID = .glob rows := ⟨_, rfl⟩

/-- A write of SYS_ID raises RSVD_WRITE for what it finds set. -/
theorem raisesRsvd_sysId : raisesRsvd R.SYS_ID sysIdRow v = (v != 0) := by
  obtain ⟨rows, hp⟩ := place_sysId
  have hbad : writeBad sysIdRow v = (v != 0) := by
    show (v &&& ~~~ w32 0 != 0 || false) = (v != 0)
    rw [and_not_zero, Bool.or_false]
  have hhere : reservedHere R.SYS_ID v = false := by simp [reservedHere, hp]
  simp [raisesRsvd, hbad, hhere, R.SYS_ID, R.TB_SLEW, R.SUP_HB_CTRL, R.SUP_HB_KICK]

theorem writeGlob_sysId : writeGlob s a R.SYS_ID sysIdRow v = plainWrite s R.SYS_ID sysIdRow v := rfl

theorem serveWrite_sysId : serveWrite s a R.SYS_ID 15 v =
    plainWrite (if v = 0 then s else s.rsvd a R.SYS_ID) R.SYS_ID sysIdRow v := by
  obtain ⟨rows, hp⟩ := place_sysId
  have hram : isRam R.SYS_ID = false := by decide
  simp only [serveWrite, hram, writeReg, regRow?_sysId, hp, raisesRsvd_sysId, writeGlob_sysId]
  simp

theorem serveWrite_sysId_ignored : Ignored s v (serveWrite s a R.SYS_ID 15 v) := by
  rw [serveWrite_sysId]
  have hrd (u : State) : (plainWrite u R.SYS_ID sysIdRow v).rd = u.rd := plainWrite_rd rfl rfl rfl
  by_cases h : v = 0
  · rw [if_pos h]
    exact ⟨congrFun (hrd s) _, fun hv => absurd h hv, fun _ => ⟨rfl, hrd s⟩, rfl, rfl, rfl, rfl, rfl, rfl, rfl, rfl⟩
  · rw [if_neg h]
    have hr : Reports raiseReg s (s.rsvd a R.SYS_ID) := raise_reports ..
    have hp : Raised (s.rsvd a R.SYS_ID) FS.RSVD_WRITE := raise_raised s (by decide) _
    have hkeep : Raised (plainWrite (s.rsvd a R.SYS_ID) R.SYS_ID sysIdRow v) FS.RSVD_WRITE := by
      simp only [Raised, State.fltPend, State.bt, hrd]
      exact hp
    have hid : ¬raiseReg R.SYS_ID := by simp [raiseReg, recordReg]
    exact ⟨(congrFun (hrd _) _).trans (hr.rd _ hid), fun _ => hkeep, fun hv => absurd hv h, hr.ch, hr.pg, hr.nwl, hr.eng, hr.lane,
      hr.ring, hr.mem, hr.chest⟩

/-- A link that is out of L1 may still end DOZE. -/
theorem wakeLink_of_l1 (hl : s.pcie.l1 = false) : wakeLink s = s ∨ wakeLink s = s.after 0 .dozeExit := by
  simp only [wakeLink, hl, Bool.false_eq_true, if_false]
  by_cases h : s.fl R.PWR_STAT 0 2 = 1
  · exact .inr (if_pos h)
  · exact .inl (if_neg h)

theorem Ignored.ofAtPort (hl : a = .host → s.pcie.l1 = false) (h : Ignored (atPort s a) v t) : Ignored s v t := by
  by_cases ha : a = .host
  · subst ha
    have hat : atPort s .host = wakeLink s := rfl
    rcases wakeLink_of_l1 (hl rfl) with e | e
    · rwa [hat, e] at h
    · rw [hat, e] at h
      exact h
  · rwa [atPort_of_ne ha] at h
end

/-- Settles O56: SYS_ID has no field to write (`serveWrite_sysId`), and a port's request of its word is that write. -/
theorem sysIdWrites : Obligations.SysIdWrites := by
  unfold Obligations.SysIdWrites
  intro s a v
  refine ⟨serveWrite_sysId_ignored, fun hs hl hw => ?_⟩
  have hu : unsupported s a = false := by
    simp only [unsupported, Bool.and_eq_false_imp, beq_iff_eq]
    exact fun e => (hl e).2
  have hv : (v.setWidth 64 <<< (8 * (R.SYS_ID % 4))).setWidth 32 = v := by
    rw [placed_word rfl]
    simp
  refine ⟨_, requestWrite_mw0 ⟨hs, hw, hu⟩ (by decide) (fun _ => ⟨by decide, by decide⟩), ?_⟩
  rw [firstBytes_word rfl (le_refl 4), restWrite_done (le_refl 4), hv]
  exact Ignored.ofAtPort (fun e => (hl e).1) serveWrite_sysId_ignored

end Sys2Proof.Machine

/-!
# Accesses of the ports (O57)
-/

namespace Sys2Proof.Machine

section
variable {s t : State} {a : Agent} {o n : Nat} {v : BitVec 64} {c : Nat → Nat → BitVec 64 → Instr}

/-! ### RAM windows (R8, R181) -/

theorem isRam_iff : isRam o = true ↔
    (0x18000 ≤ o ∧ o < 0x20000) ∨ (0x40000 ≤ o ∧ o < 0xE0800) ∨ (0x3100 ≤ o ∧ o < 0x3300) := by
  simp only [isRam, Bool.or_eq_true, Bool.and_eq_true, decide_eq_true_eq]
  omega

/-- A word lies in a RAM window as a whole, or not at all. -/
theorem isRam_word : isRam (o / 4 * 4) = isRam o := by
  rw [Bool.eq_iff_iff, isRam_iff, isRam_iff]
  omega

theorem lt_of_isRam (h : isRam o = true) : o < 0xE0800 := by
  rw [isRam_iff] at h
  omega

theorem notePram_mem : (notePram s a o).mem = s.mem := by
  obtain ⟨p, hp⟩ := notePram_eq s a o
  rw [hp]
theorem notePram_regs : (notePram s a o).regs = s.regs := by
  obtain ⟨p, hp⟩ := notePram_eq s a o
  rw [hp]
theorem notePram_samples {d : Nat} : (notePram s a o).samples d = s.samples d := by
  obtain ⟨p, hp⟩ := notePram_eq s a o
  rw [hp]
  rfl
theorem notePram_ticks : (notePram s a o).ticks = s.ticks := by
  obtain ⟨p, hp⟩ := notePram_eq s a o
  rw [hp]
theorem notePram_chestBufBusy {x : Nat} : chestBufBusy (notePram s a o) x = chestBufBusy s x := by
  obtain ⟨p, hp⟩ := notePram_eq s a o
  rw [hp]
  rfl
theorem notePram_codeRefused {k : Nat} : codeRefused (notePram s a o) k = codeRefused s k := by
  obtain ⟨p, hp⟩ := notePram_eq s a o
  rw [hp]
  rfl

/-- A write of a RAM word outside the code RAM sets its bytes, but those of CHEST_BUF under a Chest command. -/
theorem serveWrite_ram {be : Nat} {w : Word} (hr : isRam o = true) (hc : o < 0x40000 ∨ 0x60000 ≤ o) :
    serveWrite s a o be w = if chestBufBusy s o then notePram s a o else (notePram s a o).setMem o be w := by
  have hcode : ¬(0x40000 ≤ o ∧ o < 0x60000) := by omega
  simp [serveWrite, writeRam, hr, hcode, notePram_chestBufBusy]

/-- A write of code RAM goes parcel by parcel. -/
theorem serveWrite_code {be : Nat} {w : Word} (h1 : 0x40000 ≤ o) (h2 : o < 0x60000) :
    serveWrite s a o be w = writeCode (notePram s a o) o be w (codePort a) := by
  have hr : isRam o = true := isRam_iff.mpr (by omega)
  simp [serveWrite, writeRam, hr, h1, h2]

/-- A write of one parcel of a word. -/
theorem writeCode_parcel {w : Word} {port i : Nat} (hi : i < 2) : writeCode s o (3 * 4 ^ i) w port =
    if codeRefused s ((o - 0x40000) / 2 + i) then codeRefuse s ((o - 0x40000) / 2 + i) port else s.setMem o (3 * 4 ^ i) w := by
  interval_cases i
  · simp [writeCode]
  · simp [writeCode]

/-- The bytes after a request within a word has been written. -/
theorem setMem_request_byte (h : o % 4 + n ≤ 4) (x : Nat) :
    (s.setMem (o / 4 * 4) (firstBytes o n).1 ((v <<< (8 * (o % 4))).setWidth 32)).byte x =
      if o ≤ x ∧ x < o + n ∧ ctxZero x = false then (v >>> (8 * (x - o))).setWidth 8 else s.byte x := by
  have hw : o / 4 * 4 = o - o % 4 := by omega
  rw [setMem_byte]
  have hmin : min n (4 - o % 4) = n := Nat.min_eq_left (by omega)
  by_cases hx : o ≤ x ∧ x < o + n
  · have hb : x - o / 4 * 4 = o % 4 + (x - o) := by omega
    have ht : (firstBytes o n).1.testBit (x - o / 4 * 4) = true := by
      rw [testBit_firstBytes, hmin, decide_eq_true_eq]
      omega
    rw [hb] at ht
    have hlo : o / 4 * 4 ≤ x ∧ x < o / 4 * 4 + 4 := by omega
    simp only [hx, hlo, ht, true_and, hb]
    rw [byteOf_placed v (by omega)]
  · have ht : ¬(o / 4 * 4 ≤ x ∧ (firstBytes o n).1.testBit (x - o / 4 * 4) = true) := by
      rw [testBit_firstBytes, hmin, decide_eq_true_eq]
      omega
    rw [if_neg fun h => ht ⟨h.1, h.2.2.1⟩, if_neg fun h => hx ⟨h.1, h.2.1⟩]

theorem byte_eq_of_mem (h : t.mem = s.mem) (x : Nat) : t.byte x = s.byte x := by
  unfold State.byte
  rw [h]

/-! ### What the read and write requests of `Obligations.Accesses` come to -/

/-- A write within a word of RAM. -/
theorem requestWrite_ram (h : Ready s a) (hr : isRam o = true) (hc : o < 0x40000 ∨ 0x60000 ≤ o)
    (hb : chestBufBusy s (o / 4 * 4) = false) (hn : o % 4 + n ≤ 4) : ∃ t, requestWrite s a c o n v = .next t ∧
      ∀ x, t.byte x = if o ≤ x ∧ x < o + n ∧ ctxZero x = false then (v >>> (8 * (x - o))).setWidth 8 else s.byte x := by
  have ho := lt_of_isRam hr
  refine ⟨_, requestWrite_mw0 h (by omega) (fun _ => by omega), fun x => ?_⟩
  have hbusy : chestBufBusy (atPort s a) (o / 4 * 4) = false := by
    simpa only [chestBufBusy, chestBusy, State.bt, atPort_rd (show R.CHEST_STAT ≠ R.PCIE_STAT by decide)] using hb
  rw [firstBytes_within hn, restWrite_done (le_refl n), serveWrite_ram (isRam_word.trans hr) (by omega), if_neg (by simp [hbusy]),
    setMem_request_byte hn, byte_eq_of_mem (notePram_mem.trans atPort_mem)]

/-- A write of RAM that goes past its word. -/
theorem requestWrite_ram_rest (h : Ready s a) (hr : isRam o = true) (hc : o < 0x40000 ∨ 0x60000 ≤ o) (hn : n ≤ 8)
    (h4 : 4 < o % 4 + n) : ∃ t, requestWrite s a c o n v = .next t ∧
      ⟨s.ticks + s.samples 1, c (o + (4 - o % 4)) (n - (4 - o % 4)) (v >>> (8 * (4 - o % 4)))⟩ ∈ t.agenda := by
  have ho := lt_of_isRam hr
  refine ⟨_, requestWrite_mw0 h (by omega) (fun _ => by omega), ?_⟩
  have hticks : (notePram (atPort s a) a (o / 4 * 4)).ticks = s.ticks := notePram_ticks.trans atPort_ticks
  have hsamples : (notePram (atPort s a) a (o / 4 * 4)).samples 1 = s.samples 1 := notePram_samples.trans atPort_samples
  rw [firstBytes_over (by omega), restWrite_more (by omega), serveWrite_ram (isRam_word.trans hr) (by omega), State.after_agenda]
  split
  · rw [hticks, hsamples]
    exact mem_insertDue _ _
  · rw [State.setMem_ticks, State.setMem_samples, hticks, hsamples]
    exact mem_insertDue _ _
end

section
variable {s t : State} {a : Agent} {o n : Nat} {v : BitVec 64} {c : Nat → Nat → BitVec 64 → Instr}

/-- A write of a whole register by the supervisor or the debug agent. -/
theorem requestWrite_reg (h : Ready s a) (ha : a ≠ .host) (ho : o < 0x100000) (hr : isRam o = false) (h4 : o % 4 = 0) :
    requestWrite s a c o 4 v = .next (writeReg s a o (v.setWidth 32)) := by
  have hw : o / 4 * 4 = o := by omega
  rw [requestWrite_mw0 h ho fun e => absurd e ha, firstBytes_word h4 (le_refl 4), restWrite_done (le_refl 4), hw, placed_word h4,
    atPort_of_ne ha]
  simp [serveWrite, hr]

/-- A write where no register lies changes nothing; a nonzero one is reported (R12). -/
theorem writeReg_hole {w : Word} (h : regRow? o = none) : (writeReg s a o w).ch = s.ch ∧ (writeReg s a o w).mem = s.mem
    ∧ (w ≠ 0 → Raised (writeReg s a o w) FS.RSVD_WRITE) := by
  have he : writeReg s a o w = if w = 0 then s else s.rsvd a o := by simp only [writeReg, h]
  rw [he]
  by_cases hw : w = 0
  · rw [if_pos hw]
    exact ⟨rfl, rfl, fun hn => absurd hw hn⟩
  · rw [if_neg hw]
    exact ⟨(raise_reports ..).ch, (raise_reports ..).mem, fun _ => raise_raised s (by decide) _⟩

/-- A write of a part of a register is ignored and reported (R8). -/
theorem requestWrite_part (h : Ready s a) (ho : o < 0x100000) (hr : isRam (o / 4 * 4) = false) (hn : 0 < n) (h4 : n < 4)
    (hw : o % 4 + n ≤ 4) : ∃ d, requestWrite s a c o n v = .next ((atPort s a).raise FS.ACCESS_WIDTH d) := by
  refine ⟨accessDetail a (o / 4 * 4), ?_⟩
  rw [requestWrite_mw0 h ho fun _ => by omega, firstBytes_within hw, restWrite_done (le_refl n)]
  simp [serveWrite, hr, firstBytes_part hn h4 hw]

theorem serveRead_ram (hr : isRam o = true) (hb : chestBufBusy s o = false) :
    (serveRead s a o).1 = s.memWord o ∧ (serveRead s a o).2.regs = s.regs := by
  simp [serveRead, hr, hb, notePram_regs]

theorem serveRead_hole (hr : isRam o = false) (h : regRow? o = none) : serveRead s a o = (0, s) := by
  simp [serveRead, hr, h]

theorem serveRead_writeOnly {r : RegRow} (hr : isRam o = false) (h : regRow? o = some r) (hw : r.wo ≠ 0) :
    (serveRead s a o).1 = 0 := by
  simp [serveRead, hr, h, hw]

theorem keep_mem {w : Word} : (s.keep a w).mem = s.mem := by
  cases a <;> rfl
theorem keep_regs {w : Word} : (s.keep a w).regs = s.regs := by
  cases a <;> rfl
theorem keep_ticks {w : Word} : (s.keep a w).ticks = s.ticks := by
  cases a <;> rfl
theorem keep_samples {w : Word} {d : Nat} : (s.keep a w).samples d = s.samples d := by
  cases a <;> rfl

/-- A read of a word by the supervisor or the debug agent. -/
theorem rcRead_word (h : Ready s a) (ha : a ≠ .host) (hb : readBusy s a = false) (ho : o < 0x100000) (h4 : o % 4 = 0) :
    execRcRead a o 4 s = .next ((serveRead s a o).2.keep a (serveRead s a o).1) := by
  have hw : o / 4 * 4 = o := by omega
  rw [rcRead_mw0 h ha hb ho, firstBytes_word h4 (le_refl 4), hw]
  simp [narrow_word h4]

/-- A read of two words goes on with the second one. -/
theorem rcRead_two (h : Ready s a) (ha : a ≠ .host) (hb : readBusy s a = false) (ho : o < 0x100000) (h4 : o % 4 = 0) :
    ∃ t, execRcRead a o 8 s = .next t ∧ ⟨s.ticks + (serveRead s a o).2.samples 1, .rcRead a (o + 4) 4⟩ ∈ t.agenda := by
  have hw : o / 4 * 4 = o := by omega
  refine ⟨_, rcRead_mw0 h ha hb ho, ?_⟩
  obtain ⟨-, hticks⟩ := serveRead_frame (s := s) (a := a) (o := o)
  rw [firstBytes_word h4 (by omega), hw, ← hticks]
  simp only [Nat.reduceLT, if_true, Nat.reduceSub, State.after_agenda, keep_ticks, keep_samples]
  exact mem_insertDue _ _

/-! ### Code RAM (R181) -/

/-- A write of a word of code RAM is the same under either request. -/
theorem requestWrite_code_word (h : Ready s a) (ho : o < 0x60000) (h4 : o % 4 = 0) {d : Nat → Nat → BitVec 64 → Instr} :
    requestWrite s a c o 4 v = requestWrite s a d o 4 v := by
  have hf : Fits a o 4 := fun _ => by omega
  rw [requestWrite_mw0 h (by omega) hf, requestWrite_mw0 h (by omega) hf, firstBytes_word h4 (le_refl 4),
    restWrite_done (le_refl 4), restWrite_done (le_refl 4)]

theorem atPort_codeUsers {k : Nat} : codeUsers (atPort s a) k = codeUsers s k := by
  have hfe (e : Fin 8) (x : Nat) (hx : x < 0x380) : (atPort s a).rd (feOff e x) = s.rd (feOff e x) :=
    atPort_rd (by have := e.isLt; simp only [feOff, R.PCIE_STAT]; omega)
  refine List.filter_congr fun e _ => ?_
  unfold feRun feStopping State.bt State.fl
  rw [hfe e FE.STAT (by decide), hfe e FE.CODE (by decide)]

theorem atPort_codeRefused {k : Nat} : codeRefused (atPort s a) k = codeRefused s k := by
  unfold codeRefused State.fl
  rw [atPort_codeUsers, atPort_rd (by decide), atPort_bg]

/-- A write of a parcel: where the parcel stands, and which bytes of its word it is. -/
theorem firstBytes_parcel (h2 : o % 2 = 0) : (firstBytes o 2).1 = 3 * 4 ^ (o % 4 / 2) := by
  have hm : o % 4 = 0 ∨ o % 4 = 2 := by omega
  rcases hm with hm | hm
  · simp [firstBytes, hm]
  · simp [firstBytes, hm]

theorem requestWrite_parcel (h : Ready s a) (h1 : 0x40000 ≤ o) (h3 : o + 2 ≤ 0x60000) (h2 : o % 2 = 0) :
    ∃ t : State, t.mem = s.mem ∧ requestWrite s a c o 2 v = .next
      (if codeRefused s ((o - 0x40000) / 2) then codeRefuse t ((o - 0x40000) / 2) (codePort a)
      else t.setMem (o / 4 * 4) (firstBytes o 2).1 ((v <<< (8 * (o % 4))).setWidth 32)) := by
  have hparcel : (o / 4 * 4 - 0x40000) / 2 + o % 4 / 2 = (o - 0x40000) / 2 := by omega
  refine ⟨notePram (atPort s a) a (o / 4 * 4), notePram_mem.trans atPort_mem, ?_⟩
  rw [requestWrite_mw0 h (by omega) (fun _ => by omega), firstBytes_within (by omega), restWrite_done (le_refl 2),
    serveWrite_code (by omega) (by omega), firstBytes_parcel h2, writeCode_parcel (by omega), hparcel, notePram_codeRefused,
    atPort_codeRefused]

/-- A refused parcel changes no memory and is reported (R181). -/
theorem codeRefuse_mem {parcel port : Nat} : (codeRefuse s parcel port).mem = s.mem := by
  have hfold (es : List (Fin 8)) (u : State) : (es.foldl (fun s e => s.setEv (feOff e FE.EVT) 3) u).mem = u.mem := by
    induction es generalizing u with
    | nil => rfl
    | cons e es ih => exact ih _
  exact (raise_reports ..).mem.trans (hfold _ _)

theorem codeRefuse_raised {parcel port : Nat} : Raised (codeRefuse s parcel port) FS.FE_CODE_WR := raise_raised _ (by decide) _

/-! ### Malformed requests and those that wait -/

theorem xspiProto_spec : (xspiProto s).bt R.SUP_STAT 1 = true ∧ Raised (xspiProto s) FS.XSPI_PROTO ∧ (xspiProto s).mem = s.mem
    ∧ (xspiProto s).ch = s.ch ∧ (xspiProto s).eng = s.eng := by
  have hr : Reports raiseReg (s.setEv R.SUP_STAT 1) (xspiProto s) := raise_reports ..
  have hbt : (xspiProto s).bt R.SUP_STAT 1 = true := by
    rw [State.bt, hr.rd _ (by simp [raiseReg, recordReg, R.SUP_STAT])]
    simp
  exact ⟨hbt, raise_raised _ (by decide) _, hr.mem, hr.ch, hr.eng⟩

theorem samples_zero : s.samples 0 = 0 := by simp [State.samples]

theorem due_wait (i : Instr) : (⟨s.ticks + 0, .dozeExit⟩ : Due) ∈ ((s.after 0 .dozeExit).after 1 i).agenda
    ∧ (⟨s.ticks + s.samples 1, i⟩ : Due) ∈ ((s.after 0 .dozeExit).after 1 i).agenda := by
  simp only [State.after_agenda, State.after_ticks, State.after_samples, samples_zero]
  exact ⟨mem_insertDue_of_mem (mem_insertDue _ _), mem_insertDue _ _⟩
end

/-- Settles O57, clause by clause from what a request comes to (`requestWrite_…`, `rcRead_…`). -/
theorem accesses : Obligations.Accesses := by
  unfold Obligations.Accesses
  intro s a o n v here ready after' all
  have toReady : ready → Ready s a := fun ⟨hs, hw, hu⟩ => ⟨hs, hw, hu⟩
  refine ⟨?unserved, ?malformed, ?unsupported, ?outside, ?waits, ?ram, ?ramRest, ?reg, ?part, ?busy, ?read, ?readTwo, ?code,
    ?parcel, ?refused⟩
  case unserved =>
    intro h
    have hs : served s a = false := by simpa [here] using h
    exact answers_requests (t := fun _ => s) (fun _ => requestWrite_unserved hs) (rcRead_unserved hs) fun _ => rfl
  case malformed =>
    rintro h rfl ho
    exact answers_requests (t := fun _ => xspiProto s) (fun _ => requestWrite_malformed h ho) (rcRead_malformed h ho)
      fun _ => xspiProto_spec
  case unsupported =>
    intro h hu
    exact answers_requests (t := fun _ => wakeLink s) (fun _ => requestWrite_unsupported h hu)
      (rcRead_unsupported h hu) fun _ => rfl
  case outside =>
    rintro rfl h hb ho
    exact answers_requests (t := fun _ => wakeLink s) (fun _ => requestWrite_outside (toReady h) ho)
      (rcRead_outside (toReady h) hb ho) fun _ => rfl
  case waits =>
    intro h hu ho hw
    exact answers_requests (P := fun c t => after' .dozeExit 0 t ∧ after' c (s.samples 1) t ∧ t.regs = s.regs ∧ t.mem = s.mem)
      (t := fun c => (s.after 0 .dozeExit).after 1 c) (fun _ => requestWrite_waits h hu ho hw) (rcRead_waits h hu ho hw)
      fun c => ⟨(due_wait c).1, (due_wait c).2, rfl, rfl⟩
  case ram =>
    intro h hr hc hb _ hn
    obtain ⟨t, ht, hbyte⟩ := requestWrite_ram (v := v) (c := .registerWrite a) (toReady h) hr hc hb hn
    refine ⟨t, ht, fun i hi => ?_, fun x hx => ?_⟩
    · rw [hbyte, Nat.add_sub_cancel_left]
      by_cases hz : ctxZero (o + i) = true
      · simp [hz]
      · simp [hz, hi]
    · rw [hbyte, if_neg fun e => hx ⟨e.1, e.2.1⟩]
  case ramRest =>
    intro h hr hc _ hn h4
    exact requestWrite_ram_rest (toReady h) hr hc hn h4
  case reg =>
    intro h ha ho hr h4
    exact ⟨_, requestWrite_reg (toReady h) ha ho hr h4, rfl, writeReg_hole⟩
  case part =>
    intro h ho hr h4 hn hw
    obtain ⟨d, hd⟩ := requestWrite_part (v := v) (c := .registerWrite a) (toReady h) ho hr hn h4 hw
    have hrep := raise_reports (atPort s a) FS.ACCESS_WIDTH d
    exact ⟨_, hd, raise_raised _ (by decide) d, hrep.ch.trans atPort_ch, hrep.eng.trans atPort_eng, hrep.mem.trans atPort_mem⟩
  case busy =>
    intro h ho hb
    exact ⟨_, rcRead_busy (toReady h) ho hb, mem_insertDue _ _, rfl, rfl⟩
  case read =>
    intro h ha ho h4 hb
    refine ⟨_, rcRead_word (toReady h) ha hb ho h4, fun e => by rw [e]; rfl, fun e => by rw [e]; rfl, ?_, keep_regs, ?_, ?_, ?_⟩
    · exact keep_mem.trans serveRead_frame.1
    · exact fun hr hbuf => ⟨(serveRead_ram hr hbuf).1, keep_regs.trans (serveRead_ram hr hbuf).2⟩
    · intro hr hrow
      rw [serveRead_hole hr hrow]
      exact ⟨rfl, keep_regs⟩
    · exact fun r hr hrow hwo => serveRead_writeOnly hr hrow hwo
  case readTwo =>
    intro h ha ho h4 hb
    exact rcRead_two (toReady h) ha hb ho h4
  case code =>
    intro h _ ho h4
    exact requestWrite_code_word (toReady h) (by omega) h4
  case parcel =>
    intro h h1 h3 h2 hok
    obtain ⟨t, hmem, ht⟩ := requestWrite_parcel (v := v) (c := .codeRamWrite a) (toReady h) h1 h3 h2
    rw [if_neg (by simp [hok])] at ht
    have hz (x : Nat) (hx : x < 0x60000) : ctxZero x = false := by
      have hlo : ¬0xA0000 ≤ x := by omega
      simp [ctxZero, hlo]
    refine ⟨_, ht, ?_, ?_, fun x hx hx1 => ?_⟩
    · rw [setMem_request_byte (by omega), if_pos ⟨le_refl o, by omega, hz o (by omega)⟩, Nat.sub_self]
      rfl
    · rw [setMem_request_byte (by omega), if_pos ⟨by omega, by omega, hz (o + 1) (by omega)⟩, Nat.add_sub_cancel_left]
    · rw [setMem_request_byte (by omega), if_neg (by omega), byte_eq_of_mem hmem]
  case refused =>
    intro h h1 h3 h2 hno
    obtain ⟨t, hmem, ht⟩ := requestWrite_parcel (v := v) (c := .codeRamWrite a) (toReady h) h1 h3 h2
    rw [if_pos hno] at ht
    exact ⟨_, ht, codeRefuse_mem.trans hmem, codeRefuse_raised⟩

end Sys2Proof.Machine

/-!
# The clock, what falls due, and what an agent has latched

What the commands of chapter 02 and of a channel's input path share: which updates leave the length of a sample, what dating a command
leaves, what a raise leaves of the levels of the sources, and what a latch holds.
-/

namespace Sys2Proof.Machine

section
variable {s t u : State} {a : Agent} {o j k : Nat}

/-! ### The clock of the core (R34, R85) -/

/-- In `t` the core counts the same clock as in `s`: a number of samples lasts as long. -/
structure SameClock (s t : State) : Prop where
  ticks : t.ticks = s.ticks
  edge : t.tb.lclkAt = s.tb.lclkAt
  frac : t.tb.lclkFrac = s.tb.lclkFrac
  tbclk : t.tbclk = s.tbclk
  step : t.lclkStep = s.lclkStep

theorem SameClock.refl : SameClock s s := ⟨rfl, rfl, rfl, rfl, rfl⟩

theorem SameClock.trans (h : SameClock s t) (g : SameClock t u) : SameClock s u :=
  ⟨g.ticks.trans h.ticks, g.edge.trans h.edge, g.frac.trans h.frac, g.tbclk.trans h.tbclk, g.step.trans h.step⟩

theorem SameClock.edgeTick (h : SameClock s t) : t.edgeTick k = s.edgeTick k := by
  simp only [State.edgeTick, h.ticks, h.edge, h.frac, h.step]

theorem SameClock.samples (h : SameClock s t) : t.samples k = s.samples k := by
  simp only [State.samples, h.ticks, h.tbclk, h.edgeTick]

/-- The clock is a matter of the ticks, of the next LCLK edge and of two registers. -/
theorem SameClock.of_rd (hk : t.ticks = s.ticks) (he : t.tb.lclkAt = s.tb.lclkAt) (hf : t.tb.lclkFrac = s.tb.lclkFrac)
    (hr : t.rd R.CLK_STAT = s.rd R.CLK_STAT) (hl : t.rd R.TB_LSTEP = s.rd R.TB_LSTEP) : SameClock s t :=
  ⟨hk, he, hf, by unfold State.tbclk State.fl; rw [hr], by unfold State.lclkStep State.bt; rw [hr, hl]⟩

/-- A register other than CLK_STAT and TB_LSTEP. -/
def clockReg (o : Nat) : Prop := o = R.CLK_STAT ∨ o = R.TB_LSTEP

theorem SameClock.upd {f : Word → Word} (h : ¬clockReg o) : SameClock s (s.upd o f) := by
  have hs : R.CLK_STAT ≠ o := fun e => h (.inl e.symm)
  have hl : R.TB_LSTEP ≠ o := fun e => h (.inr e.symm)
  exact .of_rd rfl rfl rfl (by rw [State.upd_rd, if_neg hs]) (by rw [State.upd_rd, if_neg hl])

theorem SameClock.wr {v : Word} (h : ¬clockReg o) : SameClock s (s.wr o v) := .upd (f := fun _ => v) h

/-- What changes neither the registers nor the next LCLK edge leaves the clock. (The users prove `e` by `by rfl`, which waits until
`t` is known from the goal.) -/
theorem SameClock.same (h : SameClock s t)
    (e : (u.ticks, u.tb.lclkAt, u.tb.lclkFrac, u.regs) = (t.ticks, t.tb.lclkAt, t.tb.lclkFrac, t.regs)) : SameClock s u := by
  simp only [Prod.mk.injEq] at e
  obtain ⟨hk, he, hf, hr⟩ := e
  have hrd : u.rd = t.rd := by
    funext x
    simp only [State.rd, hr]
  exact h.trans (.of_rd hk he hf (congrFun hrd _) (congrFun hrd _))

theorem SameClock.ite {c : Prop} [Decidable c] (ht : SameClock s t) (hu : SameClock s u) : SameClock s (if c then t else u) := by
  split
  · exact ht
  · exact hu

/-- A raise leaves the clock. -/
theorem Reports.clock (h : Reports raiseReg s t) : SameClock s t :=
  .of_rd h.ticks (congrArg Tb.lclkAt h.tb) (congrArg Tb.lclkFrac h.tb) (h.rd _ (by simp [raiseReg, recordReg, R.CLK_STAT]))
    (h.rd _ (by simp [raiseReg, recordReg, R.TB_LSTEP]))

/-! ### What falls due -/

/-- From `s` to `t` commands have been dated: what was due stays due, and nothing else has changed. -/
structure Dates (s t : State) : Prop where
  rest : t = { s with agenda := t.agenda }
  kept : ∀ d ∈ s.agenda, d ∈ t.agenda

theorem Dates.refl : Dates s s := ⟨rfl, fun _ h => h⟩

theorem Dates.trans (h : Dates s t) (g : Dates t u) : Dates s u := by
  refine ⟨?_, fun d hd => g.kept d (h.kept d hd)⟩
  calc u = { t with agenda := u.agenda } := g.rest
    _ = { s with agenda := u.agenda } := by rw [h.rest]

theorem Dates.after {c : Instr} : Dates s (s.after k c) := ⟨rfl, fun _ => mem_insertDue_of_mem⟩

theorem Dates.ite {c : Prop} [Decidable c] (ht : Dates s t) (hu : Dates s u) : Dates s (if c then t else u) := by
  split
  · exact ht
  · exact hu

theorem Dates.onIf {c : Prop} [Decidable c] (ht : Dates s t) : Dates s (if c then t else s) := .ite ht .refl

theorem Dates.foldl {α : Type} {f : State → α → State} (hf : ∀ u x, Dates u (f u x)) (l : List α) : Dates s (l.foldl f s) :=
  List.foldlRecOn l f .refl fun u hu x _ => hu.trans (hf u x)

/-- What one element of a list dates is due when the whole list has been gone through. -/
theorem Dates.foldl_due {α : Type} {f : State → α → State} {d : Due} {x : α} (hf : ∀ u x, Dates u (f u x))
    (hd : ∀ u, Dates s u → d ∈ (f u x).agenda) {l : List α} (hx : x ∈ l) : d ∈ (l.foldl f s).agenda := by
  obtain ⟨l1, l2, rfl⟩ := List.append_of_mem hx
  rw [List.foldl_append, List.foldl_cons]
  exact (Dates.foldl hf l2).kept d (hd _ (.foldl hf l1))

section
variable (h : Dates s t)
include h
theorem Dates.regs : t.regs = s.regs := (congrArg State.regs h.rest :)
theorem Dates.ticks : t.ticks = s.ticks := (congrArg State.ticks h.rest :)
theorem Dates.later : t.later = s.later := (congrArg State.later h.rest :)
theorem Dates.tb : t.tb = s.tb := (congrArg State.tb h.rest :)
theorem Dates.ch : t.ch = s.ch := (congrArg State.ch h.rest :)
theorem Dates.rd : t.rd = s.rd := (congrArg State.rd h.rest :)
theorem Dates.clock : SameClock s t := SameClock.refl.same (by rw [h.ticks, h.tb, h.regs])
end

/-- A command dated now is due in this tick. -/
theorem due_now {c : Instr} : (⟨s.ticks, c⟩ : Due) ∈ (s.after 0 c).agenda := by
  have h : (⟨s.ticks + s.samples 0, c⟩ : Due) ∈ (s.after 0 c).agenda := mem_insertDue _ _
  rwa [samples_zero] at h

/-- A command dated a number of samples ahead is due then, by the clock of any state before it that has the same one. -/
theorem SameClock.due {c : Instr} (h : SameClock s t) : (⟨s.ticks + s.samples k, c⟩ : Due) ∈ (t.after k c).agenda := by
  rw [← h.ticks, ← h.samples]
  exact mem_insertDue _ _

/-- So is a happening without a row of its own. -/
theorem SameClock.due_later {l : Later} (h : SameClock s t) : (s.ticks + s.samples k, l) ∈ (t.later' k l).later := by
  rw [← h.ticks, ← h.samples]
  exact List.mem_append_right _ (List.mem_singleton_self _)

/-! ### Level sources (R330) -/

/-- The levels of the fault sources read in `t` as in `s`. -/
structure KeepsLevels (s t : State) : Prop where
  level : ∀ k, k < 256 → t.bt (fsrcStat k) 17 = s.bt (fsrcStat k) 17

theorem KeepsLevels.refl : KeepsLevels s s := ⟨fun _ _ => rfl⟩
theorem KeepsLevels.trans (h : KeepsLevels s t) (g : KeepsLevels t u) : KeepsLevels s u :=
  ⟨fun k hk => (g.level k hk).trans (h.level k hk)⟩
theorem KeepsLevels.ite {c : Prop} [Decidable c] (ht : KeepsLevels s t) (hu : KeepsLevels s u) :
    KeepsLevels s (if c then t else u) := by
  split
  · exact ht
  · exact hu

theorem KeepsLevels.setFl {lo len v : Nat} (h : 17 < lo ∨ lo + len ≤ 17) : KeepsLevels s (s.setFl o lo len v) := by
  refine ⟨fun k _ => ?_⟩
  simp only [State.bt, State.setFl_rd]
  split
  · next e => rw [bit_setFld_ne _ _ _ _ _ h, e]
  · rfl
theorem KeepsLevels.setBt {i : Nat} {b : Bool} (h : 17 < i ∨ i + 1 ≤ 17) : KeepsLevels s (s.setBt o i b) := .setFl h
theorem KeepsLevels.wr {v : Word} (h : ∀ k, k < 256 → fsrcStat k ≠ o) : KeepsLevels s (s.wr o v) := by
  refine ⟨fun k hk => ?_⟩
  rw [State.bt, State.wr_rd, if_neg (h k hk)]
  rfl

theorem KeepsLevels.updRec {f : FltRec → FltRec} : KeepsLevels s (s.updRec k f) := ⟨fun _ _ => rfl⟩
theorem KeepsLevels.later' {l : Later} : KeepsLevels s (s.later' k l) := ⟨fun _ _ => rfl⟩

/-- A merge into a record in handling keeps the levels. -/
theorem mergeRaise_keepsLevels (s : State) (r : Raise) : KeepsLevels s (s.mergeRaise r) := by
  unfold State.mergeRaise
  extract_lets c st m s1 log first both s2 real s3 s4 s5
  have hlog : ∀ k, k < 256 → fsrcStat k ≠ log + 8 := fun k hk => by
    simp only [log, fsrcStat, R.FSRC_STAT, R.FLT_LOG]
    omega
  have hfirst : ∀ k, k < 256 → fsrcStat k ≠ R.FLT_FIRST_W + 8 := fun k hk => by
    simp only [fsrcStat, R.FSRC_STAT, R.FLT_FIRST_W]
    omega
  have hboth : ∀ (v : State) (f : State → Nat → State),
      (∀ w o, (∀ k, k < 256 → fsrcStat k ≠ o + 8) → KeepsLevels w (f w o)) → KeepsLevels v (both v f) := by
    intro v f hf
    have hif : KeepsLevels v (if v.bt st 21 then f v log else v) := .ite (hf _ _ hlog) .refl
    exact .ite (hif.trans (hf _ _ hfirst)) hif
  have h1 : KeepsLevels s s1 := .trans (.setFl (by decide)) .updRec
  have h2 : KeepsLevels s s2 := h1.trans (hboth _ (fun s o => s.setFl (o + 12) 0 16 m) fun _ _ _ => .setFl (by decide))
  have h3 : KeepsLevels s s3 :=
    (h2.trans (.setBt (by decide))).trans (hboth _ (fun s o => s.setBt o 11 true) fun _ _ _ => .setBt (by decide))
  have h4 : KeepsLevels s s4 := (h2.trans (.setBt (by decide))).trans .updRec
  have h5 : KeepsLevels s s5 := h4.trans
    (hboth _ (fun s o => (s.setBt o 12 true).wr (o + 8) r.detail) fun _ _ ho => KeepsLevels.trans (.setBt (by decide)) (.wr ho))
  have h6 := (h3.trans (.setBt (o := st) (i := 19) (b := true) (by decide))).trans
    (hboth (s3.setBt st 19 true) (fun s o => s.setBt o 12 true) fun _ _ _ => .setBt (by decide))
  exact .ite (.ite h6 h3) (.ite h2 (h5.trans .later'))

/-- A raise keeps the levels: only the source's own condition sets or ends its level. -/
theorem raise_keepsLevels (s : State) (k : Nat) (d : Word) : KeepsLevels s (s.raise k d) := by
  have pend (r : Raise) : KeepsLevels s (s.setFltPend r.src.val true) := by
    refine ⟨fun k hk => ?_⟩
    have hne : fsrcStat k ≠ R.FLT_PEND + 4 * (r.src.val / 32) := by
      have := r.src.isLt
      simp only [fsrcStat, R.FSRC_STAT, R.FLT_PEND]
      omega
    rw [State.bt, State.setFltPend, State.setBt_rd, if_neg hne]
    rfl
  unfold State.raise State.raiseWith
  exact .ite (mergeRaise_keepsLevels _ _) (.ite ((pend _).trans (mergeRaise_keepsLevels _ _)) (.ite ⟨fun _ _ => rfl⟩ ⟨fun _ _ => rfl⟩))

theorem fsrcStat_raiseReg (hk : k < 256) : raiseReg (fsrcStat k) :=
  .inl (.inr (by simp only [fsrcStat, R.FSRC_STAT]; omega))

theorem raiseLevel_reports (hk : k < 256) (d : Word) : Reports raiseReg s (s.raiseLevel k d) :=
  .ite .refl (Reports.trans (.setBt (fsrcStat_raiseReg hk)) (raise_reports ..))

/-- The level of a source whose condition has come reads 1. -/
theorem raiseLevel_active (hk : k < 256) (d : Word) : (s.raiseLevel k d).bt (fsrcStat k) 17 = true := by
  unfold State.raiseLevel
  split
  · assumption
  · rw [(raise_keepsLevels _ k d).level k hk, State.bt, State.setBt_rd, if_pos rfl, bit_setBit _ _ _ _ (by decide), if_pos rfl]

theorem endLevel_inactive : (s.endLevel k).bt (fsrcStat k) 17 = false := by
  rw [State.endLevel, State.bt, State.setBt_rd, if_pos rfl, bit_setBit _ _ _ _ (by decide), if_pos rfl]

/-! ### Latches (R40) -/

/-- An agent's latch after a write of one of its latches. -/
@[simp] theorem State.setLat_lat (o : Nat) (v : Word) (j : Nat) : (s.setLat a o v).lat? a j = if j = o then v else s.lat? a j := by
  have hkey : latKey a j = latKey a o ↔ j = o := by simp [latKey]
  simp only [State.lat?, State.setLat, Store.get_set, hkey]

end

end Sys2Proof.Machine

/-!
# Reads with latches (O28)
-/

namespace Sys2Proof.Machine

section
variable {s : State} {a : Agent} {n : Fin 96} {w : Word}

/-- A port keeps the word that its read returned. -/
theorem keep_kept : (a = .host → (s.keep a w).rdHost = w) ∧ (a = .sup → (s.keep a w).rdSup = w)
    ∧ (a = .debug → (s.keep a w).rdDebug = w) := by
  cases a with
  | host => exact ⟨fun _ => rfl, nofun, nofun⟩
  | sup => exact ⟨nofun, fun _ => rfl, nofun⟩
  | debug => exact ⟨nofun, nofun, fun _ => rfl⟩
  | bank e b => exact ⟨nofun, nofun, nofun⟩
  | newel m => exact ⟨nofun, nofun, nofun⟩

theorem keep_tb : (s.keep a w).tb = s.tb := by
  cases a <;> rfl
theorem keep_ch : (s.keep a w).ch = s.ch := by
  cases a <;> rfl
theorem keep_lat {b : Agent} {o : Nat} : (s.keep a w).lat? b o = s.lat? b o := by
  cases a <;> rfl

/-- The same of a read that answers the word `w`. -/
theorem keep_kept_of {r : Word × State} (h : r.1 = w) :
    (a = .host → (r.2.keep a r.1).rdHost = w) ∧ (a = .sup → (r.2.keep a r.1).rdSup = w) ∧ (a = .debug → (r.2.keep a r.1).rdDebug = w) := by
  rw [h]
  exact keep_kept

/-! A state under a latch is compared by rewriting with the laws of `setLat`: to compare it by unfolding is costly. -/

theorem readTbLo_latched : (readTbLo s a).2.lat? a R.TB_HI = BitVec.ofNat 32 (s.tb.tb.toNat / 2 ^ 32) := by
  rw [readTbLo, State.setLat_lat, if_pos rfl]

/-- The state in which an agent has latched the upper part of the timestamp, FINE and COUNT (R48). -/
def latchSyncTs (s : State) (a : Agent) : State :=
  (s.setLat a R.SYNCIN_TS_HI (s.rd R.SYNCIN_TS_HI)).setLat a R.SYNCIN_STAT (s.rd R.SYNCIN_STAT &&& 0x1FFFFF)

theorem latchSyncTs_regs : (latchSyncTs s a).regs = s.regs := by
  rw [latchSyncTs, State.setLat_regs, State.setLat_regs]
theorem latchSyncTs_tb : (latchSyncTs s a).tb = s.tb := by
  rw [latchSyncTs, State.setLat_tb, State.setLat_tb]

theorem readSyncTs_eq : readSyncTs s a =
    (s.rd R.SYNCIN_TS_LO, if a = .host then (latchSyncTs s a).updTb (fun b => { b with syncUnread := false }) else latchSyncTs s a) := by
  simp only [readSyncTs, latchSyncTs, State.setLat_rd]

theorem readSyncTs_snd : (readSyncTs s a).2 =
    if a = .host then (latchSyncTs s a).updTb (fun b => { b with syncUnread := false }) else latchSyncTs s a := by
  rw [readSyncTs_eq]

theorem readSyncTs_lat {o : Nat} : (readSyncTs s a).2.lat? a o = (latchSyncTs s a).lat? a o := by
  rw [readSyncTs_snd]
  split
  · exact State.updTb_lat_ ..
  · rfl

/-- A read of the timestamp latches its upper part, FINE and COUNT for the agent that reads (R48). -/
theorem readSyncTs_latched : (readSyncTs s a).2.lat? a R.SYNCIN_TS_HI = s.rd R.SYNCIN_TS_HI
    ∧ (readSyncTs s a).2.lat? a R.SYNCIN_STAT = s.rd R.SYNCIN_STAT &&& 0x1FFFFF := by
  rw [readSyncTs_lat, readSyncTs_lat, latchSyncTs, State.setLat_lat, State.setLat_lat, State.setLat_lat, if_neg (by decide), if_pos rfl,
    if_pos rfl]
  exact ⟨rfl, rfl⟩

theorem readSyncTs_regs : (readSyncTs s a).2.regs = s.regs := by
  rw [readSyncTs_snd]
  split
  · exact (State.updTb_regs ..).trans latchSyncTs_regs
  · exact latchSyncTs_regs

/-- The host's read, and no other, makes the timestamp read (R48). -/
theorem readSyncTs_unread : (readSyncTs s a).2.tb.syncUnread = if a = .host then false else s.tb.syncUnread := by
  rw [readSyncTs_snd]
  split
  · rw [State.updTb_tb]
  · rw [latchSyncTs_tb]

/-- A read of CHn_CAPA latches CAPB and CAPINFO (R71). -/
theorem readCapa_latched : (readCapa s a n).2.lat? a (chOff n CH.CAPB) = s.rd (chOff n CH.CAPB)
    ∧ (readCapa s a n).2.lat? a (chOff n CH.CAPINFO) = s.rd (chOff n CH.CAPINFO) := by
  have hne : chOff n CH.CAPB ≠ chOff n CH.CAPINFO := by simp [chOff, CH.CAPB, CH.CAPINFO]
  simp only [readCapa, State.rdCh, State.setLat_lat, State.setLat_rd, if_neg hne, if_true, and_self]

theorem readCapa_val : (readCapa s a n).1 = s.rd (chOff n CH.CAPA) := by
  simp only [readCapa, State.rdCh, State.setLat_rd]
theorem readCapa_regs : (readCapa s a n).2.regs = s.regs := by
  rw [readCapa, State.setLat_regs, State.setLat_regs]
theorem readCapa_ch : (readCapa s a n).2.ch = s.ch := by
  rw [readCapa, State.setLat_ch, State.setLat_ch]

/-- Every enabled capture ring is offered its anchor in this tick (R295). -/
theorem anchorAll_dates {reason : Nat} : Dates s (anchorAll s reason) := .foldl (fun _ _ => .onIf .after) _

theorem anchorAll_offers {r : Fin 64} {reason : Nat} (h : takesRecords s r = true) :
    ⟨s.ticks, .recordEntry (anchorGroup s r reason)⟩ ∈ (anchorAll s reason).agenda := by
  refine Dates.foldl_due (fun _ _ => .onIf .after) (fun u hu => ?_) (List.mem_finRange r)
  have htakes : takesRecords u r = takesRecords s r := by
    simp only [takesRecords, ringType, ringState, State.fl, hu.rd]
  have hgroup : anchorGroup u r reason = anchorGroup s r reason := by
    simp only [anchorGroup, State.fofs, State.tbclk, State.fl, hu.rd, hu.tb]
  rw [if_pos (htakes.trans h), hgroup, ← hu.ticks]
  exact due_now

/-- A read of CHn_FIFO_T takes the oldest entry and latches its fields (R72). -/
theorem readFifoT_cons {e : FifoEntry} {q : List FifoEntry} (h : s.ch[n].fifo = e :: q) : readFifoT s a n =
    (e.coarse, (s.updCh n (fun c => { c with fifo := q })).setLat a (chOff n CH.FIFO_X)
      (w32 (e.fine + e.level.toNat * 256 + 2 ^ 15 + e.cnt16 * 65536))) := by
  simp only [readFifoT, h]

theorem readFifoT_nil (h : s.ch[n].fifo = []) : readFifoT s a n = (0, s.setLat a (chOff n CH.FIFO_X) 0) := by
  simp only [readFifoT, h]

theorem nextCh_eq {k : Fin 96} (h : k.val = n.val + 1) : nextCh n = some k := by
  have hk := k.isLt
  rw [nextCh, dif_pos (by omega)]
  exact congrArg some (Fin.ext h.symm)

/-- A read of a count changes no more than a latch (R64). -/
theorem readCnt_val_rest : (readCnt s a n).1 = s.rd (chOff n CH.CNT) ∧ (readCnt s a n).2.regs = s.regs ∧ (readCnt s a n).2.ch = s.ch := by
  unfold readCnt
  dsimp only
  split
  · split
    · exact ⟨rfl, State.setLat_regs .., State.setLat_ch ..⟩
    · exact ⟨rfl, rfl, rfl⟩
  · exact ⟨rfl, rfl, rfl⟩

theorem readCnt_cascaded {k : Fin 96} (h : k.val = n.val + 1) (hk : cntMode s k = 5) :
    (readCnt s a n).2.lat? a (chOff n CH.CNTX) = s.rd (chOff k CH.CNT) := by
  simp only [readCnt, nextCh_eq h, hk, if_true, State.setLat_lat, State.rdCh]
end

/-- Settles O28, read by read: what it latches (`State.setLat_lat`), and what the port keeps (`keep_kept`). -/
theorem latchedReads : Obligations.LatchedReads := by
  unfold Obligations.LatchedReads
  intro s a n kept
  refine ⟨?tbLo, ?syncTs, ⟨_, rfl, anchorAll_dates.rest, fun r => anchorAll_offers⟩, ?capa, fun h => ?empty, fun e q h => ?pop, ?cnt⟩
  case tbLo =>
    exact ⟨_, rfl, keep_kept_of rfl, keep_lat.trans readTbLo_latched, keep_tb.trans (State.setLat_tb ..), keep_regs.trans (State.setLat_regs ..),
      keep_mem.trans (State.setLat_mem ..)⟩
  case syncTs =>
    obtain ⟨hhi, hstat⟩ := readSyncTs_latched (s := s) (a := a)
    refine ⟨_, rfl, keep_kept_of (by rw [readSyncTs_eq]), keep_lat.trans hhi, keep_lat.trans hstat, keep_regs.trans readSyncTs_regs,
      keep_mem.trans readSyncTs_mem, (congrArg Tb.syncUnread keep_tb).trans readSyncTs_unread⟩
  case capa =>
    obtain ⟨hcapb, hinfo⟩ := readCapa_latched (s := s) (a := a) (n := n)
    exact ⟨_, rfl, keep_kept_of readCapa_val, keep_lat.trans hcapb, keep_lat.trans hinfo, keep_regs.trans readCapa_regs,
      keep_ch.trans readCapa_ch⟩
  case empty =>
    refine ⟨_, rfl, ?_⟩
    rw [readFifoT_nil h]
    exact ⟨keep_kept, keep_lat.trans (by rw [State.setLat_lat, if_pos rfl]), keep_regs.trans (State.setLat_regs ..),
      keep_ch.trans (State.setLat_ch ..)⟩
  case pop =>
    refine ⟨_, rfl, ?_⟩
    rw [readFifoT_cons h]
    refine ⟨keep_kept, ?_, keep_lat.trans (by rw [State.setLat_lat, if_pos rfl]), keep_regs.trans (State.setLat_regs ..), fun m hm => ?_⟩
    · rw [keep_ch, State.setLat_ch, State.updCh_ch, if_pos rfl]
    · rw [keep_ch, State.setLat_ch, State.updCh_ch, if_neg hm]
  case cnt =>
    obtain ⟨hval, hregs, hch⟩ := readCnt_val_rest (s := s) (a := a) (n := n)
    exact ⟨_, rfl, keep_kept_of hval, keep_regs.trans hregs, keep_ch.trans hch, fun k hk hc => keep_lat.trans (readCnt_cascaded hk hc)⟩

end Sys2Proof.Machine

/-!
# Steps and slews of the timebase (O17)
-/

namespace Sys2Proof.Machine

section
variable {s : State} {a : Agent} {v : Word}

/-- A command of TB_CMD with timing idle waits for the next tick (R44, R46). -/
theorem writeTbCmd_idle (h : timingIdle s = true) (hv : bit v 0 = true ∨ bit v 1 = true) :
    writeTbCmd s a v = s.updTb (fun b => { b with stepNext := b.stepNext || bit v 0, fofsNext := b.fofsNext || bit v 1 }) := by
  have hset : (!bit v 0 && !bit v 1) = false := by
    rcases hv with h | h <;> simp [h]
  simp [writeTbCmd, hset, h]

/-- One without it is refused (R44). -/
theorem writeTbCmd_busy (h : timingIdle s = false) (hv : bit v 0 = true ∨ bit v 1 = true) : writeTbCmd s a v = tbRefuse s a := by
  have hset : (!bit v 0 && !bit v 1) = false := by
    rcases hv with h | h <;> simp [h]
  simp [writeTbCmd, hset, h]

theorem tbRefuse_spec : (tbRefuse s a).tb = s.tb ∧ (tbRefuse s a).bt R.TB_STAT 1 = true ∧ Raised (tbRefuse s a) FS.TB_STEP_REFUSED := by
  have hr : Reports raiseReg (s.setEv R.TB_STAT 1) (tbRefuse s a) := raise_reports ..
  refine ⟨hr.tb, ?_, raise_raised _ (by decide) _⟩
  rw [State.bt, hr.rd _ (by simp [raiseReg, recordReg, R.TB_STAT])]
  simp

/-- Counting moves effective time by whole ticks. -/
theorem advanceTb_eff {k : Nat} (h : s.tb.tb.toNat + k < 2 ^ 64) : (advanceTb s k).eff = (s.tb.tb.toNat + k) * 32 + s.fofs := by
  have ht : (BitVec.ofNat 64 (s.tb.tb.toNat + k)).toNat = s.tb.tb.toNat + k := by
    rw [BitVec.toNat_ofNat, Nat.mod_eq_of_lt h]
  unfold advanceTb
  dsimp only
  split
  · simp [State.eff, ht]
  · simp [State.eff, ht]

theorem fofs_lt : s.fofs < 32 := fl_lt s R.TB_FOFS 0 5

/-- An adjustment that adds moves FOFS and the ticks of TB by 33 fine units together, where a tick alone is 32 (R45). -/
theorem slewStep_add {f : Nat} (h : f < 32) :
    (slewStep 1 f).1 < 32 ∧ (slewStep 1 f).2 ≤ 2 ∧ (slewStep 1 f).2 * 32 + (slewStep 1 f).1 = f + 33 := by
  by_cases h31 : f = 31
  · simp [slewStep, h31]
  · simp only [slewStep, h31, if_true, if_false]
    omega

/-- One that drops moves them by 31 (R45). -/
theorem slewStep_drop {f : Nat} (h : f < 32) :
    (slewStep 2 f).1 < 32 ∧ (slewStep 2 f).2 ≤ 1 ∧ (slewStep 2 f).2 * 32 + (slewStep 2 f).1 = f + 31 := by
  by_cases h0 : f = 0
  · simp [slewStep, h0]
  · simp only [slewStep, h0, if_true, if_false, OfNat.ofNat_ne_one]
    omega

/-- What an adjustment moves FOFS and TB by is what effective time moves by (R39, R45). -/
theorem slewAdjust_eff {d k : Nat} (hd : slewDir s = d) (h0 : d ≠ 0) (hf : (slewStep d s.fofs).1 < 32)
    (ht : s.tb.tb.toNat + (slewStep d s.fofs).2 < 2 ^ 64) (hk : (slewStep d s.fofs).2 * 32 + (slewStep d s.fofs).1 = s.fofs + k) :
    Answers .slewAdjust s (fun t => t.eff = s.eff + k) := by
  subst hd
  have hfofs (x : Nat) (hx : x < 32) : (s.setFl R.TB_FOFS 0 5 x).fofs = x := by
    simp [State.fofs, State.fl, Nat.mod_eq_of_lt hx]
  refine ⟨_, (exec_slewAdjust s).trans (if_neg h0), (advanceTb_eff (s := s.setFl R.TB_FOFS 0 5 _) ht).trans ?_⟩
  rw [hfofs _ hf, State.setFl_tb, State.eff]
  omega

/-- The fields of TB_SLEW as a write of it sets them, without the peer link's bit (R45). -/
theorem setSlew_rd (h : s.bt R.TB_SLEW 3 = false) : (setSlew s v).rd R.TB_SLEW = v &&& 0x0FFFFFF3 := by
  have hold : s.rd R.TB_SLEW &&& 8 = 0#32 := by
    apply BitVec.eq_of_getLsbD_eq
    intro i hi
    have h8 : (8 : Word).getLsbD i = decide (i = 3) := by
      interval_cases i <;> rfl
    rw [BitVec.getLsbD_and, h8]
    by_cases h3 : i = 3
    · subst h3
      simpa [State.bt, bit] using h
    · simp [h3]
  unfold setSlew
  dsimp only
  rw [hold, BitVec.or_zero]
  split
  · simp
  · simp

/-- A change of DIR or INTERVAL restarts the count (R45). -/
theorem setSlew_restarts (h : fld (s.rd R.TB_SLEW) 0 2 ≠ fld v 0 2 ∨ fld (s.rd R.TB_SLEW) 4 24 ≠ fld v 4 24) :
    (setSlew s v).tb.slewCnt = 0 := by
  unfold setSlew
  dsimp only
  split
  · next he =>
    simp only [Bool.and_eq_true, decide_eq_true_eq] at he
    exact absurd he fun e => h.elim (· e.1) (· e.2)
  · rfl

theorem setSlew_raised {k : Nat} (h : Raised s k) : Raised (setSlew s v) k := by
  have hne : R.FLT_PEND + 4 * (k / 32) ≠ R.TB_SLEW := by
    simp only [R.FLT_PEND, R.TB_SLEW]
    omega
  have hpend : (setSlew s v).fltPend k = s.fltPend k := by
    unfold setSlew
    dsimp only
    split
    · simp [State.fltPend, State.bt, hne]
    · simp [State.fltPend, State.bt, hne]
  have hflt : (setSlew s v).flt = s.flt := by
    unfold setSlew
    dsimp only
    split
    · rfl
    · rfl
  rwa [Raised, hpend, hflt]

theorem rsvd_tbSlew : (s.rsvd a R.TB_SLEW).rd R.TB_SLEW = s.rd R.TB_SLEW :=
  (raise_reports ..).rd _ (by simp [raiseReg, recordReg, R.TB_SLEW])

/-- A write of TB_SLEW sets its fields, after the report of what it may not set (R11, R56). -/
theorem writeTbSlew_own (h : s.bt R.TB_SLEW 3 = false) : ∃ u : State, writeTbSlew s a v = setSlew u v ∧ u.rd R.TB_SLEW = s.rd R.TB_SLEW
    ∧ (v &&& 0xF000000C ≠ 0 ∨ fld v 0 2 = 3 → Raised u FS.RSVD_WRITE) := by
  by_cases hbad : v &&& 0xF000000C ≠ 0 ∨ fld v 0 2 = 3
  · have hb : (v &&& 0xF000000C != 0 || (!false && decide (fld v 0 2 = 3))) = true := by simpa using hbad
    refine ⟨s.rsvd a R.TB_SLEW, ?_, rsvd_tbSlew, fun _ => raise_raised s (by decide) _⟩
    simp only [writeTbSlew, hb, h, if_true, Bool.false_eq_true, if_false]
  · have hb : (v &&& 0xF000000C != 0 || (!false && decide (fld v 0 2 = 3))) = false := by simpa using hbad
    refine ⟨s, ?_, rfl, fun e => absurd e hbad⟩
    simp only [writeTbSlew, hb, h, Bool.false_eq_true, if_false]

/-- The peer link owns the fields (R56). -/
theorem writeTbSlew_peer (h : s.bt R.TB_SLEW 3 = true) : (writeTbSlew s a v).rd R.TB_SLEW = s.rd R.TB_SLEW := by
  simp only [writeTbSlew, h, if_true]
  split
  · exact rsvd_tbSlew
  · rfl
end

/-- Settles O17, from what a write of TB_CMD, an adjustment (`slewAdjust_eff`) and a write of TB_SLEW do. -/
theorem timebaseSteering : Obligations.TimebaseSteering := by
  unfold Obligations.TimebaseSteering
  intro s a v
  refine ⟨fun h => ⟨_, rfl, ?step⟩, fun h => ⟨_, rfl, ?clear⟩, fun h c hc => ?refused, fun ht hd => ?add, fun hd ht => ?drop,
    fun hp => ⟨_, rfl, ?own⟩, fun hp => ⟨_, rfl, writeTbSlew_peer hp⟩⟩
  case step =>
    rw [writeTbCmd_idle h (.inl rfl)]
    simp [State.updTb, bit]
  case clear =>
    rw [writeTbCmd_idle h (.inr rfl)]
    simp [State.updTb, bit]
  case refused =>
    rcases hc with rfl | rfl
    · refine ⟨_, rfl, ?_⟩
      rw [writeTbCmd_busy h (.inl rfl)]
      exact tbRefuse_spec
    · refine ⟨_, rfl, ?_⟩
      rw [writeTbCmd_busy h (.inr rfl)]
      exact tbRefuse_spec
  case add =>
    obtain ⟨hf, h2, hk⟩ := slewStep_add (fofs_lt (s := s))
    exact slewAdjust_eff (by simp [slewDir, hd]) (by decide) hf (by omega) hk
  case drop =>
    obtain ⟨hf, h1, hk⟩ := slewStep_drop (fofs_lt (s := s))
    exact slewAdjust_eff (by simp [slewDir, hd]) (by decide) hf (by omega) hk
  case own =>
    obtain ⟨u, he, hrd, hrsvd⟩ := writeTbSlew_own (a := a) (v := v) hp
    rw [he]
    refine ⟨setSlew_rd (by rw [State.bt, hrd]; exact hp), fun h => setSlew_restarts (by rwa [hrd]), fun h => ?_⟩
    exact setSlew_raised (hrsvd h)

end Sys2Proof.Machine

/-!
# The oscillators, the PLL and what TB counts (O16)
-/

namespace Sys2Proof.Machine

section
variable {s : State} {counted : Nat}

/-! ### The trim of LCLK (R31, R32) -/

theorem sext_nine_range (v : Nat) : -256 ≤ sext 9 v ∧ sext 9 v ≤ 255 := by
  simp only [sext, Nat.reducePow, Nat.reduceSub]
  split
  · omega
  · omega

theorem sext_nine_emod {x : Int} (h1 : -256 ≤ x) (h2 : x ≤ 255) : sext 9 (x % 512).toNat = x := by
  simp only [sext, Nat.reducePow, Nat.reduceSub]
  split
  · omega
  · omega

/-- The trim after a window, one step toward nominal. -/
theorem sext_trimStep (trim : Nat) : sext 9 (trimStep trim counted % 2 ^ 9) =
    if 390625 < counted then min 255 (sext 9 trim + 1) else if counted < 390625 then max (-256) (sext 9 trim - 1) else sext 9 trim := by
  have hr := sext_nine_range trim
  have hlt : trimStep trim counted < 2 ^ 9 := by
    simp only [trimStep]
    omega
  rw [Nat.mod_eq_of_lt hlt, trimStep]
  refine sext_nine_emod ?_ ?_
  · split_ifs <;> omega
  · split_ifs <;> omega

/-- The state in which the ticks of a trim window are counted. -/
def measured (s : State) (counted : Nat) : State := { s.wr R.TB_LSTEP (w32 (counted * 64)) with vest := { s.vest with bg := true } }

/-- The state at the end of the window, before the Lobby's levels are dated anew. -/
def trimmed (s : State) (counted : Nat) : State :=
  let u := measured s counted
  let u := if u.bt R.CLK_STAT 2 then u else u.setFl R.LCLK_TRIM 0 9 (trimStep (u.fl R.LCLK_TRIM 0 9) counted)
  u.setBt R.CLK_STAT 3 (decide ((if counted < 390625 then 390625 - counted else counted - 390625) * 1000 ≤ 390625))

theorem execLtrimWindowEnd_eq (hc : s.bt R.CLK_CTRL 1 = true) (hx : s.bt R.CLK_STAT 1 = true) :
    execLtrimWindowEnd counted s = .next (clockLevels (trimmed s counted)) :=
  if_pos (by rw [hc, hx]; rfl)

theorem measured_rd (o : Nat) : (measured s counted).rd o = if o = R.TB_LSTEP then w32 (counted * 64) else s.rd o :=
  State.wr_rd ..

/-- X32 disciplines LCLK: the trim stays. -/
theorem trimmed_x32 (h : s.bt R.CLK_STAT 2 = true) : trimmed s counted = (measured s counted).setBt R.CLK_STAT 3
    (decide ((if counted < 390625 then 390625 - counted else counted - 390625) * 1000 ≤ 390625)) := by
  have hx : (measured s counted).bt R.CLK_STAT 2 = true := by
    rwa [State.bt, measured_rd, if_neg (by decide)]
  simp only [trimmed, hx, if_true]

/-- LCLK runs by itself: its trim moves. -/
theorem trimmed_free (h : s.bt R.CLK_STAT 2 = false) : trimmed s counted =
    ((measured s counted).setFl R.LCLK_TRIM 0 9 (trimStep (s.fl R.LCLK_TRIM 0 9) counted)).setBt R.CLK_STAT 3
      (decide ((if counted < 390625 then 390625 - counted else counted - 390625) * 1000 ≤ 390625)) := by
  have hx : (measured s counted).bt R.CLK_STAT 2 = false := by
    rwa [State.bt, measured_rd, if_neg (by decide)]
  have ht : (measured s counted).fl R.LCLK_TRIM 0 9 = s.fl R.LCLK_TRIM 0 9 := by
    rw [State.fl, measured_rd, if_neg (by decide)]
    rfl
  simp only [trimmed, hx, ht, Bool.false_eq_true, if_false]

/-- Whether a count of ticks lies within 0.1 % of the nominal one (R31). -/
theorem within_iff : (if counted < 390625 then 390625 - counted else counted - 390625) * 1000 ≤ 390625 ↔
    (counted ≤ 390625 ∧ (390625 - counted) * 1000 ≤ 390625) ∨ (390625 ≤ counted ∧ (counted - 390625) * 1000 ≤ 390625) := by
  split
  · omega
  · omega

/-- What `Obligations.ClocksAndCounting` says of the end of a window. -/
theorem trimmed_spec : (trimmed s counted).rd R.TB_LSTEP = BitVec.ofNat 32 (counted * 64)
    ∧ ((trimmed s counted).bt R.CLK_STAT 3 = true ↔
      (counted ≤ 390625 ∧ (390625 - counted) * 1000 ≤ 390625) ∨ (390625 ≤ counted ∧ (counted - 390625) * 1000 ≤ 390625))
    ∧ (if s.bt R.CLK_STAT 2 then sext 9 ((trimmed s counted).fl R.LCLK_TRIM 0 9) = sext 9 (s.fl R.LCLK_TRIM 0 9)
      else sext 9 ((trimmed s counted).fl R.LCLK_TRIM 0 9) = sext 9 (trimStep (s.fl R.LCLK_TRIM 0 9) counted % 2 ^ 9))
    ∧ (trimmed s counted).tb = s.tb := by
  rw [← within_iff]
  cases h : s.bt R.CLK_STAT 2
  · rw [trimmed_free h]
    refine ⟨?_, ?_, ?_, rfl⟩
    · simp [measured_rd]
    · simp [State.bt]
    · simp [State.fl]
  · rw [trimmed_x32 h]
    refine ⟨?_, ?_, ?_, rfl⟩
    · simp [measured_rd]
    · simp [State.bt]
    · simp [State.fl, measured_rd]

/-! ### CLK_STAT -/

/-- A bit of CLK_STAT outside CNTSRC leaves what TB counts. -/
theorem setBt_tbclk {i : Nat} {b : Bool} (h : i < 4 ∨ 6 ≤ i) : (s.setBt R.CLK_STAT i b).tbclk = s.tbclk := by
  simp only [State.tbclk, State.fl, State.setBt_rd, if_true, fld_setBit_ne _ i 4 2 _ (show i < 4 ∨ 4 + 2 ≤ i from h)]

theorem setBt_bt {o i j : Nat} {b : Bool} (hi : i < 32) : (s.setBt o i b).bt o j = if j = i then b else s.bt o j := by
  rw [State.bt, State.setBt_rd, if_pos rfl, bit_setBit _ _ _ _ hi]
  rfl

/-- XINOK leaves the length of a sample. -/
theorem SameClock.xinOk {b : Bool} : SameClock s (s.setBt R.CLK_STAT 1 b) := by
  refine ⟨rfl, rfl, rfl, setBt_tbclk (by decide), ?_⟩
  have hx : (s.setBt R.CLK_STAT 1 b).bt R.CLK_STAT 2 = s.bt R.CLK_STAT 2 := by
    rw [setBt_bt (by decide), if_neg (by decide)]
  have hl : (s.setBt R.CLK_STAT 1 b).rd R.TB_LSTEP = s.rd R.TB_LSTEP := by
    rw [State.setBt_rd, if_neg (by decide)]
  unfold State.lclkStep
  rw [hx, hl]

/-! ### The PLL (R34, R41) -/

/-- The loss of lock while TB counts TBCLK. -/
theorem pllUnlock_tbclk (h : s.tbclk = true) : execPllUnlock s =
    .next (((s.setBt R.CLK_STAT 0 false).updTb (fun b => { b with dropping := true })).raiseLevel FS.PLL_UNLOCK) :=
  if_pos ((setBt_tbclk (by decide)).trans h)

theorem pllUnlock_lclk (h : s.tbclk = false) : execPllUnlock s =
    .next ((s.setBt R.CLK_STAT 0 false).updTb (fun b => { b with returnIn := none })) :=
  if_neg (by rw [setBt_tbclk (by decide), h]; decide)

/-- The state in which a lock is shown; in the boot its next step is dated (R394). -/
def lockShown (s : State) : State :=
  let s := s.setBt R.CLK_STAT 0 true
  if s.power.boot = .pll then ({ s with power := { s.power with boot := .sram } }).afterTicks 1400000 .bootPatchLoad else s

theorem lockShown_rd (o : Nat) : (lockShown s).rd o = (s.setBt R.CLK_STAT 0 true).rd o := by
  unfold lockShown
  dsimp only
  split
  · rfl
  · rfl

theorem lockShown_tb : (lockShown s).tb = s.tb := by
  unfold lockShown
  dsimp only
  split
  · rfl
  · rfl

theorem lockShown_tbclk : (lockShown s).tbclk = s.tbclk := by
  rw [← setBt_tbclk (s := s) (i := 0) (b := true) (by decide)]
  simp only [State.tbclk, State.fl, lockShown_rd]

theorem execPllLock_eq (h : pllOn s = true) : execPllLock s = .next (let s := lockShown s
    if s.tbclk then (if s.tb.dropping then (s.updTb (fun b => { b with dropping := false })).endLevel FS.PLL_UNLOCK else s)
      else s.updTb (fun b => { b with returnIn := some 3 })) :=
  if_neg (by rw [h]; decide)

/-- What a lock comes to (R41): it is shown, TB stays, and under LCLK counting the return begins. -/
theorem execPllLock_spec (h : pllOn s = true) : ∃ t, execPllLock s = .next t ∧ t.bt R.CLK_STAT 0 = true ∧ t.tb.tb = s.tb.tb
    ∧ (s.tbclk = false → t.tb.returnIn = some 3) := by
  have hlock : (lockShown s).bt R.CLK_STAT 0 = true := by
    rw [State.bt, lockShown_rd]
    exact (setBt_bt (by decide)).trans (if_pos rfl)
  have htb : (lockShown s).tb.tb = s.tb.tb := congrArg Tb.tb lockShown_tb
  refine ⟨_, execPllLock_eq h, ?_⟩
  dsimp only
  cases hc : (lockShown s).tbclk
  · rw [if_neg (by decide)]
    exact ⟨hlock, htb, fun _ => rfl⟩
  · have ht : s.tbclk = true := by rw [← lockShown_tbclk, hc]
    rw [if_pos rfl]
    split
    · refine ⟨?_, htb, fun e => by simp [ht] at e⟩
      rw [State.endLevel, State.bt, State.setBt_rd, if_neg (by decide)]
      exact hlock
    · exact ⟨hlock, htb, fun e => by simp [ht] at e⟩

/-- The registers with TBCLK counting again (R41), and the level of PLL_UNLOCK ended. -/
def tbclkShown (s : State) : State := ((s.setFl R.CLK_STAT 4 2 0).setBt R.CLK_STAT 6 false).endLevel FS.PLL_UNLOCK

theorem tbclkShown_spec : (tbclkShown s).tbclk = true ∧ (tbclkShown s).bt R.CLK_STAT 6 = false
    ∧ (tbclkShown s).bt (fsrcStat FS.PLL_UNLOCK) 17 = false := by
  have hstat : (tbclkShown s).rd R.CLK_STAT = setBit (setFld (s.rd R.CLK_STAT) 4 2 0) 6 false := by
    rw [tbclkShown, State.endLevel, State.setBt_rd, if_neg (by decide), State.setBt_rd, if_pos rfl, State.setFl_rd, if_pos rfl]
  refine ⟨?_, ?_, endLevel_inactive⟩
  · simp only [State.tbclk, State.fl, hstat, fld_setBit_ne _ 6 4 2 _ (by decide), fld_setFld _ 4 2 0 (by decide)]
    rfl
  · rw [State.bt, hstat, bit_setBit _ _ _ _ (by decide), if_pos rfl]

/-- The counting of TB after the return (R41, R45): the fraction is discarded. -/
def tbclkCounts (s : State) : State := (tbclkShown s).fromLclk.updTb (fun b => { b with frac := 0, slewCnt := 1, returnIn := none })

theorem execTbclkCountingReturn_eq (h : s.bt R.CLK_STAT 0 = true) (hc : s.tbclk = false) :
    execTbclkCountingReturn s = .next (anchorAll (tbclkCounts s) 3) :=
  if_pos (by rw [h, hc]; rfl)
end

section
variable {s : State}

/-- What `Obligations.ClocksAndCounting` says of the loss of lock. -/
theorem execPllUnlock_spec : ∃ t, execPllUnlock s = .next t ∧ t.bt R.CLK_STAT 0 = false ∧ t.tb.tb = s.tb.tb
    ∧ (s.tbclk = true → t.tbclk = true ∧ t.tb.dropping = true ∧ t.bt (fsrcStat FS.PLL_UNLOCK) 17 = true)
    ∧ (s.tbclk = false → t.tb.returnIn = none) := by
  have hlost : (s.setBt R.CLK_STAT 0 false).bt R.CLK_STAT 0 = false := (setBt_bt (by decide)).trans (if_pos rfl)
  cases h : s.tbclk
  · exact ⟨_, pllUnlock_lclk h, hlost, rfl, nofun, fun _ => rfl⟩
  · refine ⟨_, pllUnlock_tbclk h, ?_⟩
    have hr := raiseLevel_reports (s := (s.setBt R.CLK_STAT 0 false).updTb (fun b => { b with dropping := true }))
      (k := FS.PLL_UNLOCK) (by decide) 0
    refine ⟨?_, (congrArg Tb.tb hr.tb :), fun _ => ⟨hr.clock.tbclk.trans ((setBt_tbclk (by decide)).trans h), (congrArg Tb.dropping hr.tb :),
      raiseLevel_active (by decide) 0⟩, nofun⟩
    rw [State.bt, hr.rd _ (by simp [raiseReg, recordReg, R.CLK_STAT])]
    exact hlost

/-- What it says of the loss of XIN: a locked PLL unlocks in the next tick. -/
theorem execXinLoss_spec : ∃ t, execXinLoss s = .next t ∧ t.bt R.CLK_STAT 1 = false ∧ t.bt (fsrcStat FS.XIN_LOSS) 17 = true ∧ t.tb = s.tb
    ∧ (s.bt R.CLK_STAT 0 = true → ⟨s.ticks + s.samples 1, .pllUnlock⟩ ∈ t.agenda) := by
  have hr := raiseLevel_reports (s := s.setBt R.CLK_STAT 1 false) (k := FS.XIN_LOSS) (by decide) 0
  have hstat (i : Nat) : ((s.setBt R.CLK_STAT 1 false).raiseLevel FS.XIN_LOSS).bt R.CLK_STAT i = if i = 1 then false else s.bt R.CLK_STAT i := by
    rw [State.bt, hr.rd _ (by simp [raiseReg, recordReg, R.CLK_STAT])]
    exact setBt_bt (by decide)
  have hd : Dates ((s.setBt R.CLK_STAT 1 false).raiseLevel FS.XIN_LOSS) (if ((s.setBt R.CLK_STAT 1 false).raiseLevel FS.XIN_LOSS).bt R.CLK_STAT 0
      then ((s.setBt R.CLK_STAT 1 false).raiseLevel FS.XIN_LOSS).after 1 .pllUnlock
      else (s.setBt R.CLK_STAT 1 false).raiseLevel FS.XIN_LOSS) := .onIf .after
  refine ⟨_, rfl, ?_, ?_, hd.tb.trans hr.tb, fun h => ?_⟩
  · rw [State.bt, hd.rd]
    exact (hstat 1).trans (if_pos rfl)
  · rw [State.bt, hd.rd]
    exact raiseLevel_active (by decide) 0
  · rw [if_pos ((hstat 0).trans ((if_neg (by decide)).trans h))]
    exact (SameClock.xinOk.trans hr.clock).due
end

/-- Settles O16, command by command. -/
theorem clocksAndCounting : Obligations.ClocksAndCounting := by
  unfold Obligations.ClocksAndCounting
  intro s counted
  refine ⟨fun hc hx => ?trim, fun h => ⟨_, congrArg Host.Outcome.next (if_pos h), ?x32Lock⟩,
    ⟨_, rfl, (setBt_bt (by decide)).trans (if_pos rfl), rfl⟩, execPllUnlock_spec, ⟨?lclk, rfl, rfl, rfl⟩, execXinLoss_spec, execPllLock_spec, fun h hc => ?counts⟩
  case trim =>
    obtain ⟨hstep, hok, htrim, htb⟩ := trimmed_spec (s := s) (counted := counted)
    refine ⟨_, execLtrimWindowEnd_eq hc hx, hstep, hok, ?_, htb⟩
    rw [sext_trimStep] at htrim
    dsimp only
    split_ifs at htrim ⊢ <;> exact htrim
  case x32Lock => exact ⟨(setBt_bt (by decide)).trans (if_pos rfl), rfl⟩
  case lclk =>
    have hstat : (startLclk s).rd R.CLK_STAT = setFld (s.rd R.CLK_STAT) 4 2 1 := (State.setFl_rd ..).trans (if_pos rfl)
    simp [State.fl, hstat]
  case counts =>
    obtain ⟨htbclk, hdip, hlevel⟩ := tbclkShown_spec (s := s)
    have hd : Dates (tbclkCounts s) (anchorAll (tbclkCounts s) 3) := anchorAll_dates
    refine ⟨_, execTbclkCountingReturn_eq h hc, hd.clock.tbclk.trans htbclk, ?_, (congrArg Tb.frac hd.tb :), (congrArg Tb.tb hd.tb :), ?_⟩
    · rw [State.bt, hd.rd]
      exact hdip
    · rw [State.bt, hd.rd]
      exact hlevel

end Sys2Proof.Machine

/-!
# SYNC_IN (O18)
-/

namespace Sys2Proof.Machine

section
variable {s : State} {level : Bool} {time real : Nat} {fine : BitVec 5}

/-! ### An accepted edge (R47, R48) -/

/-- EDGE of SYNCIN_CTRL selects edges to this level (R47). -/
def syncSelects (s : State) (level : Bool) : Bool :=
  bit (s.rd R.SYNCIN_CTRL) 0 && (match fld (s.rd R.SYNCIN_CTRL) 1 2 with | 0 => level | 1 => !level | 2 => true | _ => false)

theorem syncSelects_of (h0 : bit (s.rd R.SYNCIN_CTRL) 0 = true)
    (h : fld (s.rd R.SYNCIN_CTRL) 1 2 = 0 ∧ level = true ∨ fld (s.rd R.SYNCIN_CTRL) 1 2 = 1 ∧ level = false ∨ fld (s.rd R.SYNCIN_CTRL) 1 2 = 2) :
    syncSelects s level = true := by
  rw [syncSelects, h0]
  rcases h with ⟨h, hl⟩ | ⟨h, hl⟩ | h
  · simp [h, hl]
  · simp [h, hl]
  · simp [h]

/-- A last edge was timestamped less than 40 ns before. -/
def syncClose (s : State) (real : Nat) : Bool := match s.tb.syncPrev with | some p => decide (real < p + 16 * 32) | none => false

/-- An accepted edge that EDGE selects counts (R48). -/
def syncCounted (s : State) (level : Bool) : State :=
  ((s.setBt R.SYNCIN_STAT 22 level).updTb (fun b => { b with syncFilt := none })).upd R.SYNCIN_STAT (fun w => setFld w 0 16 (fld w 0 16 + 1))

/-- MISS, where the host has not read the timestamp before (R48). -/
def syncMissed (s : State) : State := if s.tb.syncUnread then s.setEv R.SYNCIN_STAT 21 else s

/-- The period since the last timestamped edge (R48). -/
def syncPeriod (s : State) (real : Nat) : State :=
  match s.tb.syncPrev with
  | some p => s.wr R.SYNCIN_PERIOD (w32 (min 0xFFFFFFFF ((real + s.fofs) / 32 - (p + s.fofs) / 32)))
  | none => s

/-- The timestamp of an edge (R48). -/
def syncStamped (s : State) (time real : Nat) : State :=
  (((s.wr R.SYNCIN_TS_LO (w32 (time / 32))).wr R.SYNCIN_TS_HI (w32 (time / 2 ^ 37))).setFl R.SYNCIN_STAT 16 5 (time % 32)).updTb
    (fun b => { b with syncPrev := some real, syncUnread := true })

/-- The state after an edge that is timestamped, but for its record. -/
def syncPassed (s : State) (level : Bool) (time real : Nat) : State :=
  syncStamped (syncPeriod (syncMissed (syncCounted s level)) real) time real

/-- The record of a timestamped edge, where REC asks for it. -/
def syncRecorded (s : State) (rec' : Bool) (level : Bool) (time : Nat) : State :=
  if rec' then s.offer 1 { src := 112, typ := 0, lvl := level, fine := time % 32, coarse := coarse48 (time / 32), ext := [], ring := noRing }
  else s

theorem syncAccept_selected (h : syncSelects s level = true) : syncAccept s level time real =
    if syncClose s real then syncCounted s level
    else syncRecorded (syncPassed s level time real) (bit (s.rd R.SYNCIN_CTRL) 3) level time := by
  have hsel : ¬(!syncSelects s level) = true := by simp [h]
  exact if_neg hsel

theorem syncCounted_stat : (syncCounted s level).rd R.SYNCIN_STAT =
    setFld (setBit (s.rd R.SYNCIN_STAT) 22 level) 0 16 (fld (setBit (s.rd R.SYNCIN_STAT) 22 level) 0 16 + 1) := by
  simp [syncCounted]

theorem syncCounted_rd {o : Nat} (h : o ≠ R.SYNCIN_STAT) : (syncCounted s level).rd o = s.rd o := by
  simp [syncCounted, h]

theorem syncCounted_tb : (syncCounted s level).tb = { s.tb with syncFilt := none } := rfl

/-- A counted edge: LEVEL and COUNT (R48). -/
theorem syncCounted_spec : (syncCounted s level).bt R.SYNCIN_STAT 22 = level
    ∧ (syncCounted s level).fl R.SYNCIN_STAT 0 16 = (s.fl R.SYNCIN_STAT 0 16 + 1) % 65536 := by
  refine ⟨?_, ?_⟩
  · rw [State.bt, syncCounted_stat, bit_setFld_ne _ _ _ _ _ (by decide), bit_setBit _ _ _ _ (by decide), if_pos rfl]
  · rw [State.fl, syncCounted_stat, fld_setFld _ _ _ _ (by decide), fld_setBit_ne _ _ _ _ _ (by decide)]
    rfl

theorem syncMissed_rd {o : Nat} : (syncMissed s).rd o =
    if o = R.SYNCIN_STAT ∧ s.tb.syncUnread = true then setBit (s.rd o) 21 true else s.rd o := by
  unfold syncMissed
  split
  · next h => simp only [State.setEv_rd, h, and_true]; split <;> simp_all
  · next h => simp [h]

theorem syncMissed_tb : (syncMissed s).tb = s.tb := by
  unfold syncMissed
  split
  · rfl
  · rfl

theorem syncPeriod_some {p : Nat} (h : s.tb.syncPrev = some p) : syncPeriod s real =
    s.wr R.SYNCIN_PERIOD (w32 (min 0xFFFFFFFF ((real + s.fofs) / 32 - (p + s.fofs) / 32))) := by
  simp only [syncPeriod, h]

theorem syncPeriod_none (h : s.tb.syncPrev = none) : syncPeriod s real = s := by
  simp only [syncPeriod, h]

theorem syncPeriod_rd {o : Nat} (h : o ≠ R.SYNCIN_PERIOD) : (syncPeriod s real).rd o = s.rd o := by
  cases hp : s.tb.syncPrev with
  | none => rw [syncPeriod_none hp]
  | some p => rw [syncPeriod_some hp, State.wr_rd, if_neg h]

theorem syncPeriod_tb : (syncPeriod s real).tb = s.tb := by
  cases hp : s.tb.syncPrev with
  | none => rw [syncPeriod_none hp]
  | some p => rw [syncPeriod_some hp, State.wr_tb]

theorem syncStamped_stat : (syncStamped s time real).rd R.SYNCIN_STAT = setFld (s.rd R.SYNCIN_STAT) 16 5 (time % 32) := by
  simp [syncStamped]
theorem syncStamped_lo : (syncStamped s time real).rd R.SYNCIN_TS_LO = w32 (time / 32) := by
  simp [syncStamped]
theorem syncStamped_hi : (syncStamped s time real).rd R.SYNCIN_TS_HI = w32 (time / 2 ^ 37) := by
  simp [syncStamped]
theorem syncStamped_period : (syncStamped s time real).rd R.SYNCIN_PERIOD = s.rd R.SYNCIN_PERIOD := by
  simp [syncStamped]
theorem syncStamped_tb : (syncStamped s time real).tb = { s.tb with syncPrev := some real, syncUnread := true } := rfl

theorem syncRecorded_dates {b : Bool} : Dates s (syncRecorded s b level time) := .onIf .after

/-- What `Obligations.SyncInput` says of an accepted edge. -/
structure SyncAccepted (s t : State) (level : Bool) (time real : Nat) : Prop where
  level : t.bt R.SYNCIN_STAT 22 = level
  count : t.fl R.SYNCIN_STAT 0 16 = (s.fl R.SYNCIN_STAT 0 16 + 1) % 65536
  passed : t.tb.syncFilt = none
  stamped : (∀ p, s.tb.syncPrev = some p → p + 16 * 32 ≤ real) →
    t.rd R.SYNCIN_TS_LO = BitVec.ofNat 32 (time / 32) ∧ t.rd R.SYNCIN_TS_HI = BitVec.ofNat 32 (time / 2 ^ 37)
    ∧ t.fl R.SYNCIN_STAT 16 5 = time % 32 ∧ t.tb.syncPrev = some real ∧ t.tb.syncUnread = true
    ∧ (∀ p, s.tb.syncPrev = some p →
        t.rd R.SYNCIN_PERIOD = BitVec.ofNat 32 (min 0xFFFFFFFF ((real + s.fofs) / 32 - (p + s.fofs) / 32)))
    ∧ (s.tb.syncUnread = true → t.bt R.SYNCIN_STAT 21 = true)
  close : ∀ p, s.tb.syncPrev = some p → real < p + 16 * 32 →
    t.rd R.SYNCIN_TS_LO = s.rd R.SYNCIN_TS_LO ∧ t.tb.syncPrev = s.tb.syncPrev ∧ t.tb.syncUnread = s.tb.syncUnread

theorem syncPassed_tb : (syncPassed s level time real).tb = { s.tb with syncFilt := none, syncPrev := some real, syncUnread := true } := by
  rw [syncPassed, syncStamped_tb, syncPeriod_tb, syncMissed_tb, syncCounted_tb]

theorem syncPassed_stat : (syncPassed s level time real).rd R.SYNCIN_STAT = setFld
    (if s.tb.syncUnread then setBit ((syncCounted s level).rd R.SYNCIN_STAT) 21 true else (syncCounted s level).rd R.SYNCIN_STAT) 16 5 (time % 32) := by
  rw [syncPassed, syncStamped_stat, syncPeriod_rd (by decide), syncMissed_rd]
  simp only [true_and]
  rfl

theorem syncPassed_spec : (syncPassed s level time real).bt R.SYNCIN_STAT 22 = level
    ∧ (syncPassed s level time real).fl R.SYNCIN_STAT 0 16 = (s.fl R.SYNCIN_STAT 0 16 + 1) % 65536
    ∧ (syncPassed s level time real).fl R.SYNCIN_STAT 16 5 = time % 32
    ∧ (s.tb.syncUnread = true → (syncPassed s level time real).bt R.SYNCIN_STAT 21 = true) := by
  obtain ⟨hlevel, hcount⟩ := syncCounted_spec (s := s) (level := level)
  rw [State.bt] at hlevel
  rw [State.fl] at hcount
  simp only [State.bt, State.fl, syncPassed_stat] at *
  refine ⟨?_, ?_, ?_, fun h => ?_⟩
  · rw [bit_setFld_ne _ _ _ _ _ (by decide)]
    split
    · rwa [bit_setBit _ _ _ _ (by decide), if_neg (by decide)]
    · exact hlevel
  · rw [fld_setFld_ne _ _ _ _ _ _ (by decide)]
    split
    · rwa [fld_setBit_ne _ _ _ _ _ (by decide)]
    · exact hcount
  · rw [fld_setFld _ _ _ _ (by decide)]
    omega
  · rw [if_pos h, bit_setFld_ne _ _ _ _ _ (by decide), bit_setBit _ _ _ _ (by decide), if_pos rfl]

theorem syncPassed_period {p : Nat} (h : s.tb.syncPrev = some p) : (syncPassed s level time real).rd R.SYNCIN_PERIOD =
    BitVec.ofNat 32 (min 0xFFFFFFFF ((real + s.fofs) / 32 - (p + s.fofs) / 32)) := by
  have hprev : (syncMissed (syncCounted s level)).tb.syncPrev = some p := by
    rw [syncMissed_tb, syncCounted_tb]
    exact h
  have hfofs : (syncMissed (syncCounted s level)).fofs = s.fofs := by
    rw [State.fofs, State.fl, syncMissed_rd, if_neg (fun e => absurd e.1 (by decide)), syncCounted_rd (by decide)]
    rfl
  rw [syncPassed, syncStamped_period, syncPeriod_some hprev, State.wr_rd, if_pos rfl, hfofs]

theorem syncClose_of_lt {p : Nat} (h : s.tb.syncPrev = some p) : syncClose s real = decide (real < p + 16 * 32) := by
  simp only [syncClose, h]

/-- Accepting an edge that EDGE selects. -/
theorem syncAccept_spec (h : syncSelects s level = true) : SyncAccepted s (syncAccept s level time real) level time real := by
  rw [syncAccept_selected h]
  cases hc : syncClose s real
  · rw [if_neg (by decide)]
    obtain ⟨hlevel, hcount, hfine, hmiss⟩ := syncPassed_spec (s := s) (level := level) (time := time) (real := real)
    have hd : Dates (syncPassed s level time real) (syncRecorded (syncPassed s level time real) (bit (s.rd R.SYNCIN_CTRL) 3) level time) :=
      syncRecorded_dates
    refine ⟨?_, ?_, ?_, fun _ => ?_, fun p hp hlt => ?_⟩
    · rwa [State.bt, hd.rd]
    · rwa [State.fl, hd.rd]
    · rw [hd.tb, syncPassed_tb]
    · simp only [State.bt, State.fl, hd.rd, hd.tb, syncPassed_tb, true_and] at *
      exact ⟨syncStamped_lo, syncStamped_hi, hfine, fun p hp => syncPassed_period hp, hmiss⟩
    · rw [syncClose_of_lt hp] at hc
      exact absurd hlt (of_decide_eq_false hc)
  · rw [if_pos rfl]
    obtain ⟨hlevel, hcount⟩ := syncCounted_spec (s := s) (level := level)
    refine ⟨hlevel, hcount, rfl, fun hfar => ?_, fun p _ _ => ⟨syncCounted_rd (by decide), rfl, rfl⟩⟩
    cases hp : s.tb.syncPrev with
    | none => simp [syncClose, hp] at hc
    | some p =>
      rw [syncClose_of_lt hp] at hc
      exact absurd (of_decide_eq_true hc) (Nat.not_lt.mpr (hfar p hp))

/-- What does not touch the registers and the timebase keeps an edge accepted. -/
theorem SyncAccepted.of_eq {t u : State} (h : SyncAccepted s t level time real) (hrd : u.rd = t.rd) (htb : u.tb = t.tb) :
    SyncAccepted s u level time real := by
  obtain ⟨hlevel, hcount, hpassed, hstamped, hclose⟩ := h
  refine ⟨?_, ?_, ?_, ?_, ?_⟩
  · rwa [State.bt, hrd]
  · rwa [State.fl, hrd]
  · rwa [htb]
  · simpa only [State.bt, State.fl, hrd, htb] using hstamped
  · simpa only [hrd, htb] using hclose

theorem syncCounted_clock : SameClock s (syncCounted s level) :=
  .of_rd rfl rfl rfl (syncCounted_rd (by decide)) (syncCounted_rd (by decide))

theorem syncPassed_clock : SameClock s (syncPassed s level time real) := by
  have hmissed (u : State) : SameClock u (syncMissed u) := .ite (.of_rd rfl rfl rfl (by simp) (by simp)) .refl
  have hperiod (u : State) : SameClock u (syncPeriod u real) := by
    cases hp : u.tb.syncPrev with
    | none =>
      rw [syncPeriod_none hp]
      exact .refl
    | some p =>
      rw [syncPeriod_some hp]
      exact .wr (by simp [clockReg])
  have hstamped (u : State) : SameClock u (syncStamped u time real) :=
    .of_rd rfl rfl rfl (by simp [syncStamped]) (by simp [syncStamped])
  exact ((syncCounted_clock.trans (hmissed _)).trans (hperiod _)).trans (hstamped _)

/-- Accepting an edge leaves the clock. -/
theorem syncAccept_clock (h : syncSelects s level = true) : SameClock s (syncAccept s level time real) := by
  rw [syncAccept_selected h]
  exact .ite syncCounted_clock (syncPassed_clock.trans syncRecorded_dates.clock)

/-! ### A sample (R47) -/

/-- The state in which SYNC_IN has been sampled, with nothing in its filter. -/
def syncSampled (s : State) (level : Bool) : State :=
  { s with tb := { s.tb with syncPin := level, syncFilt := none }, later := s.later.filter (fun x => x.2 != .syncFilter) }

theorem syncSampled_clock : SameClock s (syncSampled s level) := SameClock.refl.same (by rfl)

theorem syncSample_eq : syncSample s level fine =
    if level == s.bt R.SYNCIN_STAT 22 then syncSampled s level
    else if s.fl R.SYNCIN_CTRL 8 8 = 0 then syncAccept (syncSampled s level) level (edgeTimes s fine).1 (edgeTimes s fine).2
    else ((syncSampled s level).updTb (fun b => { b with syncFilt := some (level, edgeTimes s fine) })).later' (s.fl R.SYNCIN_CTRL 8 8) .syncFilter := rfl

theorem syncSample_back (h : s.bt R.SYNCIN_STAT 22 = level) : syncSample s level fine = syncSampled s level := by
  rw [syncSample_eq, if_pos (by simpa using h.symm)]

theorem syncSample_unfiltered (h : s.bt R.SYNCIN_STAT 22 ≠ level) (hf : s.fl R.SYNCIN_CTRL 8 8 = 0) :
    syncSample s level fine = syncAccept (syncSampled s level) level (edgeTimes s fine).1 (edgeTimes s fine).2 := by
  rw [syncSample_eq, if_neg (by simpa using h.symm), if_pos hf]

theorem syncSample_filtered (h : s.bt R.SYNCIN_STAT 22 ≠ level) (hf : s.fl R.SYNCIN_CTRL 8 8 ≠ 0) : syncSample s level fine =
    ((syncSampled s level).updTb (fun b => { b with syncFilt := some (level, edgeTimes s fine) })).later' (s.fl R.SYNCIN_CTRL 8 8) .syncFilter := by
  rw [syncSample_eq, if_neg (by simpa using h.symm), if_neg hf]

/-- The return of a pulse is dated behind what its edge has done. -/
def syncReturns (s : State) (level : Bool) (held : Nat) : State := if held = 0 then s else s.after held (.syncInEdge (!level) 0 0)

theorem syncReturns_dates {held : Nat} : Dates s (syncReturns s level held) := .ite .refl .after

theorem execSyncInEdge_eq {held : Nat} (hb : s.bt R.PWR_STAT 10 = true) (hw : sampleWaits s = false) (hp : s.tb.syncPin ≠ level) :
    execSyncInEdge level fine held s = .next (syncReturns (syncSample s level fine) level held) := by
  simp [execSyncInEdge, hb, hw, hp, syncReturns]

theorem syncReturns_due {t : State} {held : Nat} (h : SameClock s t) (h0 : held ≠ 0) :
    ⟨s.ticks + s.samples held, .syncInEdge (!level) 0 0⟩ ∈ (syncReturns t level held).agenda := by
  rw [syncReturns, if_neg h0]
  exact h.due
end

/-- Settles O18: a sample (`syncSample_eq`), and what accepting an edge does (`syncAccept_spec`). -/
theorem syncInput : Obligations.SyncInput := by
  unfold Obligations.SyncInput
  intro s level fine held time real ctrl filt accepted returns selected
  have hret {t : State} (h : SameClock s t) : returns (syncReturns t level held) := fun h0 => syncReturns_due h h0
  refine ⟨fun hb hw hp => ⟨fun hl hf hs he => ?passes, fun hl hf => ?filtered, fun hl => ?back⟩, fun hf hs => ?ends⟩
  case passes =>
    have hsel : syncSelects (syncSampled s level) level = true := syncSelects_of hs.1 hs.2
    have hd : Dates (syncAccept (syncSampled s level) level time real) (syncReturns (syncAccept (syncSampled s level) level time real) level held) :=
      syncReturns_dates
    have ha := (syncAccept_spec (time := time) (real := real) hsel).of_eq hd.rd hd.tb
    refine ⟨_, execSyncInEdge_eq hb hw hp, ?_⟩
    rw [syncSample_unfiltered hl hf, ← he]
    exact ⟨⟨ha.level, ha.count, ha.passed, ha.stamped, ha.close⟩, hret (syncSampled_clock.trans (syncAccept_clock hsel))⟩
  case filtered =>
    have hclock : SameClock s ((syncSampled s level).updTb (fun b => { b with syncFilt := some (level, edgeTimes s fine) })) :=
      (syncSampled_clock (level := level)).same (by rfl)
    refine ⟨_, execSyncInEdge_eq hb hw hp, ?_⟩
    rw [syncSample_filtered hl hf]
    refine ⟨syncReturns_dates.regs, syncReturns_dates.tb, hret (hclock.same (by rfl)), ?_⟩
    rw [syncReturns_dates.later]
    exact hclock.due_later
  case back =>
    refine ⟨_, execSyncInEdge_eq hb hw hp, ?_⟩
    rw [syncSample_back hl]
    exact ⟨syncReturns_dates.regs, syncReturns_dates.tb, hret syncSampled_clock⟩
  case ends =>
    have hends : syncFilterEnds s = syncAccept s level time real := by
      simp only [syncFilterEnds, hf]
    have ha := syncAccept_spec (time := time) (real := real) (syncSelects_of hs.1 hs.2)
    rw [hends]
    exact ⟨ha.level, ha.count, ha.passed, ha.stamped, ha.close⟩

end Sys2Proof.Machine

/-!
# SYNC_OUT (O19)
-/

namespace Sys2Proof.Machine

section
variable {s t : State} {b : Bool} {o : Nat}

/-! ### The pin (R49) -/

theorem soRecord_dates : Dates s (soRecord s b) := .onIf .after

theorem soDrive_tb : (soDrive s b).tb = s.tb := by
  unfold soDrive
  split
  · rfl
  · exact soRecord_dates.tb

theorem soDrive_level : (soDrive s b).bt R.SYNCOUT_STAT 16 = b := by
  unfold soDrive
  split
  · next h => exact eq_of_beq h
  · rw [State.bt, soRecord_dates.rd]
    exact (setBt_bt (by decide)).trans (if_pos rfl)

/-- What a change of the pin leaves of the registers: all but its level in SYNCOUT_STAT. -/
structure SoKeeps (s t : State) : Prop where
  rd : ∀ o, o ≠ R.SYNCOUT_STAT → t.rd o = s.rd o
  count : t.fl R.SYNCOUT_STAT 0 16 = s.fl R.SYNCOUT_STAT 0 16

theorem SoKeeps.trans {u : State} (h : SoKeeps s t) (g : SoKeeps t u) : SoKeeps s u :=
  ⟨fun o ho => (g.rd o ho).trans (h.rd o ho), g.count.trans h.count⟩

theorem soDrive_keeps : SoKeeps s (soDrive s b) := by
  unfold soDrive
  split
  · exact ⟨fun _ _ => rfl, rfl⟩
  · refine ⟨fun o ho => ?_, ?_⟩
    · rw [soRecord_dates.rd, State.setBt_rd, if_neg ho]
    · rw [State.fl, soRecord_dates.rd, State.setBt_rd, if_pos rfl, fld_setBit_ne _ _ _ _ _ (by decide)]
      rfl

theorem SoKeeps.soDone (h : SoKeeps s t) : soDone t = soDone s := by
  have hc : t.fl R.SYNCOUT_COUNT 0 16 = s.fl R.SYNCOUT_COUNT 0 16 := congrArg (fld · 0 16) (h.rd _ (by decide))
  simp only [Machine.soDone, hc, h.count]

theorem soDone_iff : soDone s = true ↔ s.fl R.SYNCOUT_COUNT 0 16 ≠ 0 ∧ s.fl R.SYNCOUT_COUNT 0 16 ≤ s.fl R.SYNCOUT_STAT 0 16 := by
  simp [soDone]

theorem soStop_tb : (soStop s).tb = { s.tb with soRun := false, soEnd := none, soSoon := none } := soDrive_tb

/-! ### The start of a train (R49, R50) -/

/-- START, as TB reaches it. -/
def soStartAt (s : State) : Nat := (s.rd R.SYNCOUT_START_HI).toNat * 2 ^ 32 + (s.rd R.SYNCOUT_START_LO).toNat

/-- The train runs from its base `x` with pulse number `k`, or with a single pulse that falls at a tick of its own. -/
def soRuns (s : State) (x k p : Nat) (soon : Option Nat) : State :=
  s.updTb (fun b => { b with soRun := true, soStart := x, soK := k, soPeriod := p, soEnd := none, soSoon := soon })

theorem soRuns_base {x k p : Nat} {soon : Option Nat} : (soRuns s x k p soon).tb.soStart = x := rfl
theorem soRuns_next {x k p : Nat} {soon : Option Nat} : (soRuns s x k p soon).tb.soK = k := rfl
theorem soRuns_soon {x k p : Nat} {soon : Option Nat} : (soRuns s x k p soon).tb.soSoon = soon := rfl

/-- START is not reached. -/
theorem soStart_waits (h : s.tb.tb.toNat < soStartAt s) :
    soStart s = soRuns (s.setFl R.SYNCOUT_STAT 0 16 0) (soStartAt s) 0 (s.rd R.SYNCOUT_PERIOD).toNat none := if_pos h

/-- START is past, and the train is one pulse. -/
theorem soStart_single (h : ¬s.tb.tb.toNat < soStartAt s) (hp : (s.rd R.SYNCOUT_PERIOD).toNat = 0) :
    soStart s = soRuns (s.setFl R.SYNCOUT_STAT 0 16 0) (soStartAt s) 0 (s.rd R.SYNCOUT_PERIOD).toNat (some (s.ticks + s.samples 1)) := by
  have hclock : SameClock s (s.setFl R.SYNCOUT_STAT 0 16 0) := .upd (by simp [clockReg])
  rw [← hclock.samples]
  exact (if_neg h).trans (if_pos hp)

/-- START is past, and the train keeps its phase. -/
theorem soStart_skips (h : ¬s.tb.tb.toNat < soStartAt s) (hp : (s.rd R.SYNCOUT_PERIOD).toNat ≠ 0) :
    soStart s = soRuns ((s.setFl R.SYNCOUT_STAT 0 16 0).setEv R.SYNCOUT_STAT 17) (soStartAt s)
      ((s.tb.tb.toNat - soStartAt s) / (s.rd R.SYNCOUT_PERIOD).toNat + 1) (s.rd R.SYNCOUT_PERIOD).toNat none :=
  (if_neg h).trans (if_neg hp)

theorem soRuns_rd {x k p : Nat} {soon : Option Nat} : (soRuns s x k p soon).rd o = s.rd o := rfl
theorem soRuns_run {x k p : Nat} {soon : Option Nat} : (soRuns s x k p soon).tb.soRun = true := rfl

/-- A train starts with no pulse counted, and SYNCOUT_CTRL as it stands. -/
theorem soStart_runs : (soStart s).rd R.SYNCOUT_CTRL = s.rd R.SYNCOUT_CTRL ∧ (soStart s).tb.soRun = true ∧ (soStart s).fl R.SYNCOUT_STAT 0 16 = 0 := by
  have hzero : fld (setFld (s.rd R.SYNCOUT_STAT) 0 16 0) 0 16 = 0 := fld_setFld _ _ _ _ (by decide)
  by_cases h : s.tb.tb.toNat < soStartAt s
  · rw [soStart_waits h, State.fl, soRuns_rd, soRuns_rd, soRuns_run]
    simp
  by_cases hp : (s.rd R.SYNCOUT_PERIOD).toNat = 0
  · rw [soStart_single h hp, State.fl, soRuns_rd, soRuns_rd, soRuns_run]
    simp
  · rw [soStart_skips h hp, State.fl, soRuns_rd, soRuns_rd, soRuns_run]
    simp [fld_setBit_ne]

/-! ### A write of EN (R50, R51) -/

/-- SYNCOUT_CTRL with EN set or cleared. -/
def soCtrl (s : State) (b : Bool) : State := s.wr R.SYNCOUT_CTRL (setBit (s.rd R.SYNCOUT_CTRL) 0 b &&& 7)

theorem soCtrl_en : (soCtrl s b).bt R.SYNCOUT_CTRL 0 = b := by
  have h7 : (7 : Word).getLsbD 0 = true := by decide
  have hb := bit_setBit (s.rd R.SYNCOUT_CTRL) 0 0 b (by decide)
  rw [if_pos rfl, bit] at hb
  rw [State.bt, soCtrl, State.wr_rd, if_pos rfl, bit, BitVec.getLsbD_and, hb, h7, Bool.and_true]

theorem soCtrl_rd (h : o ≠ R.SYNCOUT_CTRL) : (soCtrl s b).rd o = s.rd o := by
  rw [soCtrl, State.wr_rd, if_neg h]

theorem soCtrl_clock : SameClock s (soCtrl s b) := .wr (by simp [clockReg])

theorem bit_setBit_zero (w : Word) (b : Bool) : bit (setBit w 0 b) 0 = b := (bit_setBit _ _ _ _ (by decide)).trans (if_pos rfl)

theorem execSyncoutEnable_eq (h : s.bt R.SYNCOUT_CTRL 0 = false) : execSyncoutEnable s = .next (soStart (soCtrl s true)) := by
  refine congrArg Host.Outcome.next (if_pos ?_)
  rw [h, bit_setBit_zero]
  rfl

theorem execSyncoutDisable_eq (h : s.bt R.SYNCOUT_CTRL 0 = true) : execSyncoutDisable s =
    .next (((soCtrl s false).updTb (fun b => { b with soRun := false, soEnd := none, soSoon := none })).later' 1 .soOff) := by
  refine congrArg Host.Outcome.next ((if_neg ?_).trans (if_pos ?_))
  · rw [h]
    simp
  · rw [h, bit_setBit_zero]
    rfl

/-! ### An active edge (R49, R51) -/

theorem soEdgeDue_of (hr : s.tb.soRun = true) (h : s.tb.soSoon = none ∧ s.tb.soStart + s.tb.soK * s.tb.soPeriod ≤ s.tb.tb.toNat
    ∨ ∃ k, s.tb.soSoon = some k ∧ k ≤ s.ticks) : soEdgeDue s = true := by
  rw [soEdgeDue, hr]
  rcases h with ⟨h, hle⟩ | ⟨k, h, hle⟩
  · simp only [h, soNext]
    exact decide_eq_true hle
  · simpa [h] using hle

/-- The state in which the pulse of an active edge is counted, and PERIOD as written taken. -/
def soCounts (s : State) : State :=
  let p := (s.rd R.SYNCOUT_PERIOD).toNat
  let u := s.satFl R.SYNCOUT_STAT 0 16
  let u := if p = u.tb.soPeriod then u.updTb (fun b => { b with soK := b.soK + 1 })
    else u.updTb (fun b => { b with soStart := soNext s, soK := 1, soPeriod := p })
  u.updTb (fun b => { b with soRun := p != 0, soEdge := u.now, soSoon := none })

theorem execSyncoutActiveEdge_eq (h : soEdgeDue s = true) (hd : soDone s = false) : execSyncoutActiveEdge s =
    .next (if (soPulse (soCounts s)).tb.soEnd.isNone && soDone (soPulse (soCounts s)) then soStop (soPulse (soCounts s)) else soPulse (soCounts s)) :=
  (if_neg (by rw [h]; decide)).trans (if_neg (by rw [hd]; decide))

theorem soCounts_rd : (soCounts s).rd o = (s.satFl R.SYNCOUT_STAT 0 16).rd o := by
  unfold soCounts
  dsimp only
  split
  · rfl
  · rfl

theorem soCounts_tb : (soCounts s).tb.tb = s.tb.tb ∧ (soCounts s).tb.soRun = decide ((s.rd R.SYNCOUT_PERIOD).toNat ≠ 0) := by
  unfold soCounts
  dsimp only
  split
  · exact ⟨rfl, by simp [bne, beq_eq_decide]⟩
  · exact ⟨rfl, by simp [bne, beq_eq_decide]⟩

theorem soCounts_width : soWidth (soCounts s) = soWidth s := by
  simp [soWidth, soCounts_rd]

theorem soCounts_count : (soCounts s).fl R.SYNCOUT_STAT 0 16 = min 65535 (s.fl R.SYNCOUT_STAT 0 16 + 1) := by
  rw [State.fl, soCounts_rd, State.satFl_rd, if_pos rfl, fld_setFld _ _ _ _ (by decide)]
  simp only [satInc, State.fl]
  omega

/-- A pulse of some width is driven for that width. -/
theorem soPulse_of_pos (h : 0 < soWidth s) : soPulse s = soDrive (s.updTb (fun b => { b with soEnd := some (b.tb.toNat + soWidth s) })) true :=
  if_neg (by omega)
/-- What `Obligations.SyncOutput` says of an active edge. -/
theorem soPulse_spec (h : 0 < soWidth s) : (soPulse (soCounts s)).fl R.SYNCOUT_STAT 0 16 = min 65535 (s.fl R.SYNCOUT_STAT 0 16 + 1)
    ∧ (soPulse (soCounts s)).bt R.SYNCOUT_STAT 16 = true ∧ (soPulse (soCounts s)).tb.soEnd = some (s.tb.tb.toNat + soWidth s)
    ∧ (soPulse (soCounts s)).tb.soRun = decide ((s.rd R.SYNCOUT_PERIOD).toNat ≠ 0) ∧ (soPulse (soCounts s)).tb.tb = s.tb.tb := by
  obtain ⟨htb, hrun⟩ := soCounts_tb (s := s)
  rw [soPulse_of_pos (by rwa [soCounts_width])]
  refine ⟨soDrive_keeps.count.trans soCounts_count, soDrive_level, ?_, ?_, ?_⟩
  · rw [soDrive_tb, State.updTb_tb, soCounts_width, htb]
  · rw [soDrive_tb, State.updTb_tb, hrun]
  · rw [soDrive_tb, State.updTb_tb, htb]

/-! ### The end of a pulse (R49) -/

theorem execSyncoutPulseEnd_eq (h : soEndDue s = true) : execSyncoutPulseEnd s =
    .next (let u := soDrive (s.updTb (fun b => { b with soEnd := none })) false
      if soDone u then soStop u else u) :=
  if_neg (by rw [h]; decide)

/-- What the statement says of it: the pin returns, and the train ends when COUNT pulses are done. -/
theorem execSyncoutPulseEnd_spec (h : soEndDue s = true) : ∃ t, execSyncoutPulseEnd s = .next t ∧ t.bt R.SYNCOUT_STAT 16 = false
    ∧ t.tb.soEnd = none
    ∧ (s.fl R.SYNCOUT_COUNT 0 16 ≠ 0 → s.fl R.SYNCOUT_COUNT 0 16 ≤ s.fl R.SYNCOUT_STAT 0 16 → t.tb.soRun = false) := by
  have hdone : soDone (soDrive (s.updTb (fun b => { b with soEnd := none })) false) = soDone s :=
    (soDrive_keeps (s := s.updTb (fun b => { b with soEnd := none }))).soDone
  refine ⟨_, execSyncoutPulseEnd_eq h, ?_⟩
  dsimp only
  rw [hdone]
  split
  · exact ⟨soDrive_level, congrArg Tb.soEnd soStop_tb, fun _ _ => congrArg Tb.soRun soStop_tb⟩
  · next hn =>
    exact ⟨soDrive_level, congrArg Tb.soEnd soDrive_tb, fun h0 hle => absurd (soDone_iff.mpr ⟨h0, hle⟩) hn⟩

end

/-- Settles O19, command by command. -/
theorem syncOutput : Obligations.SyncOutput := by
  unfold Obligations.SyncOutput
  intro s start p now width
  have hperiod : (soCtrl s true).rd R.SYNCOUT_PERIOD = s.rd R.SYNCOUT_PERIOD := soCtrl_rd (by decide)
  have hstart : soStartAt (soCtrl s true) = start := by
    rw [soStartAt, soCtrl_rd (by decide), soCtrl_rd (by decide)]
  refine ⟨fun h => ?enable, fun hr hdue hc hw => ?edge, fun hend => ?pulseEnd, fun h => ?disable, fun h => ?off⟩
  case enable =>
    obtain ⟨hctrl, hrun, hzero⟩ := soStart_runs (s := soCtrl s true)
    refine ⟨_, execSyncoutEnable_eq h, ?_, hrun, hzero, fun hlt => ?_, fun hle hp => ?_, fun hle hp => ?_⟩
    · rw [State.bt, hctrl]
      exact soCtrl_en
    · rw [← hstart] at hlt ⊢
      rw [soStart_waits (s := soCtrl s true) hlt]
      exact ⟨soRuns_base, soRuns_next⟩
    · rw [← hstart] at hle
      rw [soStart_single (s := soCtrl s true) (Nat.not_lt.mpr hle) (by rwa [hperiod]), soRuns_soon, soCtrl_clock.samples, soCtrl_clock.ticks]
    · rw [← hstart] at hle ⊢
      rw [soStart_skips (s := soCtrl s true) (Nat.not_lt.mpr hle) (by rwa [hperiod]), soRuns_base, soRuns_next, State.bt, soRuns_rd, hperiod]
      exact ⟨rfl, by simp⟩
  case edge =>
    have hd : soDone s = false := by
      rw [Bool.eq_false_iff, Ne, soDone_iff]
      omega
    obtain ⟨hcount, hlevel, hend, hrun, htb⟩ := soPulse_spec (s := s) hw
    refine ⟨_, execSyncoutActiveEdge_eq (soEdgeDue_of hr hdue) hd, ?_⟩
    rw [hend, if_neg (by simp)]
    exact ⟨hcount, hlevel, hend, hrun, htb⟩
  case pulseEnd =>
    obtain ⟨e, he, hle⟩ := hend
    exact execSyncoutPulseEnd_spec (by simp only [soEndDue, he]; exact decide_eq_true hle)
  case disable =>
    exact ⟨_, execSyncoutDisable_eq h, soCtrl_en, rfl, rfl,
      (soCtrl_clock.same (u := (soCtrl s false).updTb (fun b => { b with soRun := false, soEnd := none, soSoon := none })) (by rfl)).due_later⟩
  case off =>
    rw [soOff, h, if_neg (by decide)]
    exact soDrive_level

end Sys2Proof.Machine

/-!
# The pin of a channel

What the pin's taking its resolved state changes (R39, R82), for O20 and O24.
-/

namespace Sys2Proof.Machine

section
variable {s t : State} {n m : Fin 96} {o cause fine dt : Nat}

/-- Registers of one channel lie apart. -/
@[simp] theorem chOff_inj {x y : Nat} : chOff n x = chOff n y ↔ x = y := by simp [chOff]

/-- A forced safe set is a matter of the registers below those of the channels. -/
theorem safeForced_congr (h : ∀ o, o < 0x10000 → t.rd o = s.rd o) : safeForced t n = safeForced s n := by
  have hn := n.isLt
  rw [Bool.eq_iff_iff, safeForced, safeForced, List.any_eq_true, List.any_eq_true]
  refine exists_congr fun j => and_congr_right fun hj => ?_
  have hj8 := List.mem_range.mp hj
  rw [State.bt, State.bt, State.bt, State.bt, h _ (by decide), h _ (by simp only [R.FLT_SAFE_M]; omega)]

theorem follows_congr (h : t.rd (chOff n CH.CTRL) = s.rd (chOff n CH.CTRL)) (hp : t.rd (chOff n CH.PWM) = s.rd (chOff n CH.PWM)) :
    follows t n = follows s n := by
  unfold follows cntMode State.fl
  rw [h, hp]

/-- What the pin's resolved state depends on (R82). -/
theorem padOf_congr (hlow : ∀ o, o < 0x10000 → t.rd o = s.rd o) (hctrl : t.rd (chOff n CH.CTRL) = s.rd (chOff n CH.CTRL))
    (hpwm : t.rd (chOff n CH.PWM) = s.rd (chOff n CH.PWM)) (hout : t.rd (chOff n CH.OUTCFG) = s.rd (chOff n CH.OUTCFG))
    (hpg : t.pg = s.pg) {down : Bool} (hch : t.ch[n] = { s.ch[n] with down := down }) : padOf t n = padOf s n := by
  unfold padOf chForced
  rw [safeForced_congr hlow, follows_congr hctrl hpwm]
  unfold State.fl State.bt
  rw [hpwm, hout, hpg, hch]

/-- The state in which the pin has taken its resolved state. -/
def padMoved (s : State) (n : Fin 96) (fine dt : Nat) : State :=
  s.noteEdge.updCh n (fun c => { c with padDrv := (padOf s n).1, padLvl := (padOf s n).2, padAt := physAt s fine dt,
                                        edgeAt := if chForced s n then c.edgeAt else physAt s fine dt / 32 })

/-- The state in which its sampler will see it. -/
def padSensed (s : State) (n : Fin 96) (fine dt : Nat) : State :=
  if (padOf s n).1 && pinUsable s n then ownEdge (padMoved s n fine dt) n (padOf s n).2 (physAt s fine dt) else padMoved s n fine dt

theorem updPad_same (h : padOf s n = (s.ch[n].padDrv, s.ch[n].padLvl)) : updPad s n cause fine dt = s := if_pos h

/-- A change of the pin is recorded where the channel asks for it (R73). -/
theorem updPad_moved (h : padOf s n ≠ (s.ch[n].padDrv, s.ch[n].padLvl)) : Dates (padSensed s n fine dt) (updPad s n cause fine dt) := by
  have he : updPad s n cause fine dt = if (padSensed s n fine dt).bt (chOff n CH.REC) 4 then
      (padSensed s n fine dt).offer (3 + dt)
        { src := n.val, typ := 0, lvl := (padOf s n).2, fine := fine, coarse := coarse48 ((padSensed s n fine dt).tb.tb.toNat + dt),
          ext := [cause + (padOf s n).1.toNat * 16], ring := noRing }
      else padSensed s n fine dt := if_neg h
  rw [he]
  exact .onIf .after

theorem padSensed_eq : padSensed s n fine dt = { padMoved s n fine dt with agenda := (padSensed s n fine dt).agenda } := by
  unfold padSensed
  split
  · rfl
  · rfl

theorem padSensed_ch : (padSensed s n fine dt).ch = (padMoved s n fine dt).ch := by
  rw [padSensed_eq]
theorem padSensed_regs : (padSensed s n fine dt).regs = s.regs := by
  rw [padSensed_eq]
  rfl

/-- The pin's taking its state changes no register. -/
theorem updPad_regs : (updPad s n cause fine dt).regs = s.regs := by
  by_cases h : padOf s n = (s.ch[n].padDrv, s.ch[n].padLvl)
  · rw [updPad_same h]
  · exact (updPad_moved h).regs.trans padSensed_regs

theorem updPad_rd : (updPad s n cause fine dt).rd o = s.rd o := by
  rw [State.rd, updPad_regs]
  rfl

/-- What it changes of the channel is the pin. -/
theorem updPad_ch : ∃ q e, (updPad s n cause fine dt).ch[n] =
    { s.ch[n] with padDrv := (padOf s n).1, padLvl := (padOf s n).2, padAt := q, edgeAt := e } := by
  by_cases h : padOf s n = (s.ch[n].padDrv, s.ch[n].padLvl)
  · refine ⟨s.ch[n].padAt, s.ch[n].edgeAt, ?_⟩
    rw [updPad_same h, h]
  · rw [(updPad_moved h).ch, padSensed_ch]
    exact ⟨_, _, (State.updCh_ch ..).trans (if_pos rfl)⟩

theorem updPad_ch_ne (hm : m ≠ n) : (updPad s n cause fine dt).ch[m] = s.ch[m] := by
  by_cases h : padOf s n = (s.ch[n].padDrv, s.ch[n].padLvl)
  · rw [updPad_same h]
  · rw [(updPad_moved h).ch, padSensed_ch]
    exact (State.updCh_ch ..).trans (if_neg hm)
end

end Sys2Proof.Machine

/-!
# The debug freeze of channels (O20)
-/

namespace Sys2Proof.Machine

section
variable {s t : State} {n c : Fin 96} {m : Fin 3} {v : Word} {k : Fin 32}

/-! ### A write of CLK_FRZm (R52) -/

/-- What a write of CLK_FRZm does with one channel, whose bit is `b`. -/
def clkFrzChannel (s : State) (b : Bool) (n : Fin 96) : State :=
  if !engineHalted s n then s
  else if b && (!s.ch[n].frozen || s.hasDue (.channelRelease n)) then s.after 2 (.channelFreeze n)
  else if !b && (s.ch[n].frozen || s.hasDue (.channelFreeze n)) then s.after 2 (.channelRelease n)
  else s

/-- The channels of a word in turn. -/
def clkFrzStep (m : Fin 3) (v : Word) (s : State) (k : Fin 32) : State :=
  clkFrzChannel s (bit v k.val) (Fin.ofNat 96 (32 * m.val + k.val))

theorem writeClkFrz_eq : writeClkFrz s m v = (List.finRange 32).foldl (clkFrzStep m v) (s.wr (R.CLK_FRZ0 + 4 * m.val) v) := rfl

theorem clkFrzStep_dates : Dates s (clkFrzStep m v s k) := .ite .refl (.ite .after (.onIf .after))

theorem writeClkFrz_dates : Dates (s.wr (R.CLK_FRZ0 + 4 * m.val) v) (writeClkFrz s m v) := .foldl (fun _ _ => clkFrzStep_dates) _

/-- A bit set freezes the channel of a halted engine, a bit cleared releases it, each two ticks ahead. -/
theorem clkFrzStep_due (hc : c.val = 32 * m.val + k.val) (hh : engineHalted s c = true) :
    (bit v k.val = true → s.ch[c].frozen = false → ⟨s.ticks + s.samples 2, .channelFreeze c⟩ ∈ (clkFrzStep m v s k).agenda)
    ∧ (bit v k.val = false → s.ch[c].frozen = true → ⟨s.ticks + s.samples 2, .channelRelease c⟩ ∈ (clkFrzStep m v s k).agenda) := by
  have hn : Fin.ofNat 96 (32 * m.val + k.val) = c := by
    rw [← hc]
    exact Fin.ext (Nat.mod_eq_of_lt c.isLt)
  refine ⟨fun hb hf => ?_, fun hb hf => ?_⟩
  · have he : clkFrzStep m v s k = s.after 2 (.channelFreeze c) := by
      rw [clkFrzStep, hn]
      exact (if_neg (by rw [hh]; decide)).trans (if_pos (by rw [hb, hf]; rfl))
    rw [he]
    exact SameClock.refl.due
  · have he : clkFrzStep m v s k = s.after 2 (.channelRelease c) := by
      rw [clkFrzStep, hn]
      exact (if_neg (by rw [hh]; decide)).trans ((if_neg (by rw [hb, Bool.false_and]; decide)).trans (if_pos (by rw [hb, hf]; rfl)))
    rw [he]
    exact SameClock.refl.due

/-- The registers that a route and HALTED stand in lie apart from CLK_FRZm. -/
theorem engineHalted_congr (h : ∀ o, 0x10000 ≤ o → t.rd o = s.rd o) : engineHalted t c = engineHalted s c := by
  simp only [engineHalted, State.bt, State.fl, h _ (show 0x10000 ≤ chOff c CH.ROUTE by simp only [chOff]; omega)]
  rw [h _ (by simp only [feOff]; omega)]

theorem writeClkFrz_due (hc : c.val = 32 * m.val + k.val) (hh : engineHalted s c = true) :
    (bit v k.val = true → s.ch[c].frozen = false → ⟨s.ticks + s.samples 2, .channelFreeze c⟩ ∈ (writeClkFrz s m v).agenda)
    ∧ (bit v k.val = false → s.ch[c].frozen = true → ⟨s.ticks + s.samples 2, .channelRelease c⟩ ∈ (writeClkFrz s m v).agenda) := by
  have hm := m.isLt
  have hclock : SameClock s (s.wr (R.CLK_FRZ0 + 4 * m.val) v) := .wr (by simp only [clockReg, R.CLK_FRZ0, R.CLK_STAT, R.TB_LSTEP]; omega)
  have hstep {u : State} (hu : Dates (s.wr (R.CLK_FRZ0 + 4 * m.val) v) u) := by
    have hhalted : engineHalted u c = true := by
      rw [engineHalted_congr (s := s) fun o ho => ?_, hh]
      rw [hu.rd, State.wr_rd, if_neg (by simp only [R.CLK_FRZ0]; omega)]
    have hd := clkFrzStep_due (v := v) hc hhalted
    rw [hu.ch, State.wr_ch, (hclock.trans hu.clock).samples, hu.ticks, State.wr_ticks] at hd
    exact hd
  have hdue {d : Due} (h : ∀ u, Dates (s.wr (R.CLK_FRZ0 + 4 * m.val) v) u → d ∈ (clkFrzStep m v u k).agenda) :
      d ∈ (writeClkFrz s m v).agenda := by
    have hk : k ∈ List.finRange 32 := List.mem_finRange k
    have hf := Dates.foldl_due (s := s.wr (R.CLK_FRZ0 + 4 * m.val) v) (f := clkFrzStep m v) (fun _ _ => clkFrzStep_dates) h hk
    rwa [← writeClkFrz_eq] at hf
  refine ⟨fun hb hf => hdue fun u hu => ?_, fun hb hf => hdue fun u hu => ?_⟩
  · obtain ⟨h1, -⟩ := hstep hu
    exact h1 hb hf
  · obtain ⟨-, h2⟩ := hstep hu
    exact h2 hb hf

/-! ### The release of a channel (R54) -/

/-- The channel goes on. -/
def unfrozen (s : State) (n : Fin 96) : State := s.updCh n (fun c => { c with frozen := false })

/-- A member of a stopped group takes its group's count. -/
def resettled (s : State) (n : Fin 96) (g : Fin 16) : State :=
  ((unfrozen s n).wr (chOff n CH.CNT) (w32 (memberCount s g n).1)).updCh n (fun x => { x with down := (memberCount s g n).2 })

/-- The channel as it goes on, before its pin is resolved again. -/
def releasing (s : State) (n : Fin 96) : State :=
  match follows s n with
  | some g => if chEn s n && s.ch[n].run && !s.pg[g].run then resettled s n g else unfrozen s n
  | none => unfrozen s n

theorem execChannelRelease_eq : execChannelRelease n s = .next (updPad (releasing s n) n 12 (releasing s n).fine0 0) := by
  have hfollows : follows (unfrozen s n) n = follows s n := follows_congr rfl rfl
  have hen : chEn (unfrozen s n) n = chEn s n := State.updCh_bt ..
  have hrun : (unfrozen s n).ch[n].run = s.ch[n].run := by
    rw [unfrozen, State.updCh_ch, if_pos rfl]
  have hcount (g : Fin 16) : memberCount (unfrozen s n) g n = memberCount s g n := by
    simp only [memberCount, memberSlot, pgMode, unfrozen, State.rdPg, State.updCh_rd, State.updCh_fl, State.updCh_pg]
  have he : releasing s n = match follows (unfrozen s n) n with
    | some g =>
      if chEn (unfrozen s n) n && (unfrozen s n).ch[n].run && !(unfrozen s n).pg[g].run then
        ((unfrozen s n).wr (chOff n CH.CNT) (w32 (memberCount (unfrozen s n) g n).1)).updCh n (fun x =>
          { x with down := (memberCount (unfrozen s n) g n).2 })
      else unfrozen s n
    | none => unfrozen s n := by
    rw [hfollows, hen, hrun]
    simp only [hcount]
    rfl
  rw [he]
  rfl

theorem releasing_member {g : Fin 16} (hf : follows s n = some g) (he : chEn s n = true) (hr : s.ch[n].run = true) (hg : s.pg[g].run = false) :
    releasing s n = resettled s n g := by
  simp only [releasing, hf, he, hr, hg, Bool.not_false, Bool.and_true, if_true]

theorem releasing_other (h : ∀ g, follows s n = some g → chEn s n = true → s.ch[n].run = true → s.pg[g].run = true) :
    releasing s n = unfrozen s n := by
  cases hf : follows s n with
  | none => simp only [releasing, hf]
  | some g =>
    simp only [releasing, hf]
    refine if_neg fun hc => ?_
    simp only [Bool.and_eq_true, Bool.not_eq_true'] at hc
    rw [h g hf hc.1.1 hc.1.2] at hc
    exact absurd hc.2 (by decide)

/-- The pin that a released channel takes does not depend on its count. -/
theorem padOf_resettled {g : Fin 16} : padOf (resettled s n g) n = padOf (unfrozen s n) n := by
  have hrd {o : Nat} (ho : o ≠ chOff n CH.CNT) : (resettled s n g).rd o = (unfrozen s n).rd o := by
    rw [resettled, State.updCh_rd, State.wr_rd, if_neg ho]
  refine padOf_congr (down := (memberCount s g n).2) (fun o ho => hrd ?_) (hrd ?_) (hrd ?_) (hrd ?_) rfl ?_
  · simp only [chOff]
    omega
  · simp
  · simp
  · simp
  · rw [resettled, State.updCh_ch, if_pos rfl]
    rfl

theorem writeClkFrz_rd {o : Nat} : (writeClkFrz s m v).rd o = if o = R.CLK_FRZ0 + 4 * m.val then v else s.rd o := by
  rw [writeClkFrz_dates.rd, State.wr_rd]

/-- A write of CLK_FRZm changes its word and what is due. -/
theorem writeClkFrz_rest : writeClkFrz s m v = { s with regs := (writeClkFrz s m v).regs, agenda := (writeClkFrz s m v).agenda } := by
  have hd := writeClkFrz_dates (s := s) (m := m) (v := v)
  rw [hd.regs]
  exact hd.rest

theorem unfrozen_ch : (unfrozen s n).ch[n] = { s.ch[n] with frozen := false } := (State.updCh_ch ..).trans (if_pos rfl)

theorem resettled_ch {g : Fin 16} : (resettled s n g).ch[n] = { s.ch[n] with frozen := false, down := (memberCount s g n).2 } := by
  rw [resettled, State.updCh_ch, if_pos rfl, State.wr_ch, unfrozen_ch]

theorem resettled_cnt {g : Fin 16} : (resettled s n g).rd (chOff n CH.CNT) = w32 (memberCount s g n).1 := by
  rw [resettled, State.updCh_rd, State.wr_rd, if_pos rfl]

theorem releasing_cases : releasing s n = unfrozen s n ∨ ∃ g, releasing s n = resettled s n g := by
  unfold releasing
  split
  · split
    · exact .inr ⟨_, rfl⟩
    · exact .inl rfl
  · exact .inl rfl

theorem releasing_frozen : (releasing s n).ch[n].frozen = false := by
  obtain h | ⟨g, h⟩ := releasing_cases (s := s) (n := n)
  · rw [h, unfrozen_ch]
  · rw [h, resettled_ch]

theorem releasing_padOf : padOf (releasing s n) n = padOf (unfrozen s n) n := by
  obtain h | ⟨g, h⟩ := releasing_cases (s := s) (n := n)
  · rw [h]
  · rw [h, padOf_resettled]

theorem releasing_ch_ne (hc : c ≠ n) : (releasing s n).ch[c] = s.ch[c] := by
  obtain h | ⟨g, h⟩ := releasing_cases (s := s) (n := n)
  · rw [h, unfrozen, State.updCh_ch, if_neg hc]
  · rw [h, resettled, State.updCh_ch, if_neg hc, State.wr_ch, unfrozen, State.updCh_ch, if_neg hc]

end

/-- Settles O20: the channels of the word are gone through in turn, each dating at most one command; a release changes of its channel, before
the pin is resolved again, at most FROZEN, CNT and the direction, and of these the pin's state depends on FROZEN alone. -/
theorem debugFreeze : Obligations.DebugFreeze := by
  intro s a m v n
  refine ⟨⟨_, rfl, ?write⟩, ⟨_, rfl, ?freeze⟩, ⟨_, execChannelRelease_eq, ?release⟩⟩
  case write => exact ⟨writeClkFrz_rest, fun o => writeClkFrz_rd, fun k c hc hh => writeClkFrz_due hc hh⟩
  case freeze => exact ⟨rfl, (State.updCh_ch ..).trans (if_pos rfl), fun c hc => (State.updCh_ch ..).trans (if_neg hc)⟩
  case release =>
    obtain ⟨q, e, hn⟩ := updPad_ch (s := releasing s n) (n := n) (cause := 12) (fine := (releasing s n).fine0) (dt := 0)
    refine ⟨?_, fun h => ?_, fun g hf he hr hg => ?_, ?_, fun c hc => ?_⟩
    · rw [hn]
      exact releasing_frozen
    · rw [updPad_regs, releasing_other h]
      rfl
    · rw [hn, updPad_rd, releasing_member hf he hr hg, resettled_cnt, resettled_ch]
      exact ⟨rfl, rfl⟩
    · rw [hn]
      exact releasing_padOf
    · rw [updPad_ch_ne hc, releasing_ch_ne hc]

end Sys2Proof.Machine

/-!
# The input path of a channel (O24)
-/

namespace Sys2Proof.Machine

section
variable {s t : State} {n : Fin 96} {level : Bool} {fine : BitVec 5} {e : PinEdge} {o b : Nat}

/-- The registers of the channels lie apart from those of the clock and of the Banister. -/
theorem chOff_not_clockReg {x : Nat} : ¬clockReg (chOff n x) := by
  simp only [clockReg, chOff, R.CLK_STAT, R.TB_LSTEP]
  omega
theorem chOff_not_raiseReg {x : Nat} : ¬raiseReg (chOff n x) := by
  simp only [raiseReg, recordReg, chOff]
  omega

theorem Dates.was (h : Dates s t) : t.was o = s.was o := (congrArg (State.was · o) h.rest :)

/-- A count field reads one more, saturating. -/
theorem satFl_fl {lo len : Nat} (h : lo + len ≤ 32) : (s.satFl o lo len).fl o lo len = min (2 ^ len - 1) (s.fl o lo len + 1) := by
  have hpos := Nat.two_pow_pos len
  rw [State.fl, State.satFl_rd, if_pos rfl, fld_setFld _ _ _ _ h, satInc, State.fl]
  exact Nat.mod_eq_of_lt (by omega)

/-- An event of a channel sets its bit, and can send a service request. -/
theorem chEvent_dates : Dates (s.setEv (chOff n CH.EVT) b) (chEvent s n b) := .onIf .after

theorem chEvent_rd : (chEvent s n b).rd o = if o = chOff n CH.EVT then setBit (s.rd (chOff n CH.EVT)) b true else s.rd o := by
  rw [chEvent_dates.rd, State.setEv_rd]

theorem chEvent_event (hb : b < 32) : (chEvent s n b).bt (chOff n CH.EVT) b = true := by
  rw [State.bt, chEvent_rd, if_pos rfl, bit_setBit _ _ _ _ hb, if_pos rfl]

theorem chEvent_ch : (chEvent s n b).ch = s.ch := chEvent_dates.ch
theorem chEvent_ticks : (chEvent s n b).ticks = s.ticks := chEvent_dates.ticks

/-! ### The sample (R69) -/

/-- The state in which the pin has taken the level. -/
def pinTaken (s : State) (n : Fin 96) (level : Bool) : State := s.updCh n (fun c => { c with pin := level })

/-- The state in which the trip inputs on the pin have seen it. -/
def pinSampled (s : State) (n : Fin 96) (level : Bool) : State :=
  (tripGroups (pinTaken s n level) n).foldl (fun s m => tripSample s m level) (pinTaken s n level)

/-- From `s` to `t` only the happenings without a row of their own have changed. -/
def Waits (s t : State) : Prop := t = { s with later := t.later }

theorem Waits.trans {u : State} (h : Waits s t) (g : Waits t u) : Waits s u := by
  calc u = { t with later := u.later } := g
    _ = { s with later := u.later } := by rw [h]

section
variable (h : Waits s t)
include h
theorem Waits.ch : t.ch = s.ch := (congrArg State.ch h :)
theorem Waits.ticks : t.ticks = s.ticks := (congrArg State.ticks h :)
theorem Waits.rd : t.rd = s.rd := (congrArg State.rd h :)
theorem Waits.was : t.was o = s.was o := (congrArg (State.was · o) h :)
theorem Waits.clock : SameClock s t := by
  refine SameClock.refl.same ?_
  rw [h]
end

/-- A trip input that sees a level starts, ends or leaves its filter. -/
theorem tripSample_waits {m : Fin 16} : Waits s (tripSample s m level) := by
  unfold tripSample
  extract_lets on running
  split
  · rfl
  · split
    · rfl
    · rfl

theorem pinSampled_waits : Waits (pinTaken s n level) (pinSampled s n level) :=
  List.foldlRecOn (motive := Waits (pinTaken s n level)) _ _ rfl fun _ hu _ _ => hu.trans tripSample_waits

theorem pinTaken_ch : (pinTaken s n level).ch[n] = { s.ch[n] with pin := level } := (State.updCh_ch ..).trans (if_pos rfl)

theorem pinSampled_ch : (pinSampled s n level).ch[n] = { s.ch[n] with pin := level } := by
  rw [pinSampled_waits.ch, pinTaken_ch]

theorem pinSampled_en : chEn (pinSampled s n level) n = chEn s n := by
  rw [chEn, State.bt, pinSampled_waits.rd]
  rfl

theorem pinSampled_ticks : (pinSampled s n level).ticks = s.ticks := pinSampled_waits.ticks

theorem pinSampled_was : (pinSampled s n level).was o = s.was o := pinSampled_waits.was

theorem pinSampled_clock : SameClock s (pinSampled s n level) :=
  (SameClock.refl.same (by rfl) : SameClock s (pinTaken s n level)).trans pinSampled_waits.clock

theorem feedLanes_dates {coarse : Time} : Dates s (feedLanes s n level coarse fine) := by
  unfold feedLanes
  extract_lets e feed
  have hfeed (u : State) (k : Fin 16) : Dates u (feed u k) := .ite .refl (.ite (.onIf .after) (.ite (.onIf .after) (.onIf .after)))
  exact (hfeed _ _).trans (hfeed _ _)

/-- The edge with which a glitch filter starts. -/
def startingEdge (s : State) (n : Fin 96) (level : Bool) (fine : BitVec 5) : PinEdge :=
  let u := pinSampled s n level
  let inTick := fine == 0 || !u.tbclk
  ⟨level, BitVec.ofNat 64 ((edgeTimes u fine).1 / 32), (edgeTimes u fine).1 % 32,
    if inTick || s.ch[n].took != u.now then u.rdCh n CH.CNT else s.ch[n].prevCnt, (edgeTimes u fine).2⟩

/-- The state in which it has started. -/
def filterStarted (s : State) (n : Fin 96) (level : Bool) (fine : BitVec 5) : State :=
  (pinSampled s n level).updCh n (fun c => { c with filt := some (startingEdge s n level fine) })

section
variable (hu : pinUsable s n = true) (hw : sampleWaits s = false) (hp : s.ch[n].pin ≠ level)
include hu hw hp

/-- A level that differs from the pin's is taken in its tick. -/
theorem execInputEdgeSampled_eq : execInputEdgeSampled n level fine s =
    if !chEn (pinSampled s n level) n then .next (feedLanes ((pinSampled s n level).updCh n (fun c => { c with level := level })) n level
      (pinSampled s n level).tb.tb (BitVec.ofNat 5 (pinSampled s n level).fofs))
    else if s.ch[n].filt.isSome then
      .next (((pinSampled s n level).dropDue (· == .glitchFilterExpiry n)).after 0 (.glitchFilterExpiry n))
    else if level == s.ch[n].level then .next (pinSampled s n level)
    else .next ((filterStarted s n level fine).after ((filterStarted s n level fine).wasFl (chOff n CH.CAPCFG) 8 8) (.glitchFilterExpiry n)) :=
  (if_neg (by simp [hu])).trans ((if_neg (by simp [hw])).trans (if_neg (by simpa using hp)))

/-- What `Obligations.ChannelInput` says of a change at an enabled channel whose filter rests. -/
theorem execInputEdgeSampled_starts (he : chEn s n = true) (hf : s.ch[n].filt = none) (hl : s.ch[n].level ≠ level) :
    ∃ t, execInputEdgeSampled n level fine s = .next t ∧ t.ch[n].pin = level ∧ t.ch[n].level = s.ch[n].level
      ∧ (∃ e, t.ch[n].filt = some e ∧ e.level = level)
      ∧ ⟨s.ticks + s.samples (s.wasFl (chOff n CH.CAPCFG) 8 8), .glitchFilterExpiry n⟩ ∈ t.agenda := by
  have hch : (filterStarted s n level fine).ch[n] = { s.ch[n] with pin := level, filt := some (startingEdge s n level fine) } := by
    rw [filterStarted, State.updCh_ch, if_pos rfl, pinSampled_ch]
  have hclock : SameClock s (filterStarted s n level fine) := pinSampled_clock.same (by rfl)
  have hwas : (filterStarted s n level fine).wasFl (chOff n CH.CAPCFG) 8 8 = s.wasFl (chOff n CH.CAPCFG) 8 8 := by
    rw [State.wasFl, filterStarted, State.updCh_was, pinSampled_was]
    rfl
  rw [execInputEdgeSampled_eq hu hw hp, if_neg (by simp [pinSampled_en, he]), if_neg (by rw [hf]; decide),
    if_neg (by simpa using hl.symm), hwas]
  refine ⟨_, rfl, ?_, ?_, ⟨startingEdge s n level fine, ?_, rfl⟩, hclock.due⟩
  · rw [State.after_ch, hch]
  · rw [State.after_ch, hch]
  · rw [State.after_ch, hch]

/-- … of one while the filter runs: it undoes the change that the filter holds. -/
theorem execInputEdgeSampled_undoes (he : chEn s n = true) (hf : s.ch[n].filt.isSome = true) :
    ∃ t, execInputEdgeSampled n level fine s = .next t ∧ t.ch[n].pin = level ∧ t.ch[n].level = s.ch[n].level
      ∧ ⟨s.ticks, .glitchFilterExpiry n⟩ ∈ t.agenda := by
  rw [execInputEdgeSampled_eq hu hw hp, if_neg (by simp [pinSampled_en, he]), if_pos hf]
  refine ⟨_, rfl, ?_, ?_, ?_⟩
  · rw [State.after_ch, State.dropDue_ch, pinSampled_ch]
  · rw [State.after_ch, State.dropDue_ch, pinSampled_ch]
  · rw [← pinSampled_ticks (s := s) (n := n) (level := level)]
    exact due_now (s := (pinSampled s n level).dropDue (· == .glitchFilterExpiry n))

/-- … and at a disabled channel, whose LEVEL follows. -/
theorem execInputEdgeSampled_follows (he : chEn s n = false) :
    ∃ t, execInputEdgeSampled n level fine s = .next t ∧ t.ch[n].pin = level ∧ t.ch[n].level = level := by
  rw [execInputEdgeSampled_eq hu hw hp, if_pos (by simp [pinSampled_en, he])]
  refine ⟨_, rfl, ?_⟩
  rw [feedLanes_dates.ch, State.updCh_ch, if_pos rfl, pinSampled_ch]
  exact ⟨rfl, rfl⟩
end

/-! ### The end of the glitch filter (R69, R57) -/

/-- The state in which channel `n`'s filter rests. -/
def filterEnded (s : State) (n : Fin 96) : State := (s.updCh n (fun c => { c with filt := none })).dropDue (· == .glitchFilterExpiry n)

/-- The state in which the level is accepted and counted. -/
def levelAccepted (s : State) (n : Fin 96) (e : PinEdge) : State :=
  (feedLanes ((filterEnded s n).updCh n (fun c => { c with level := e.level })) n e.level e.coarse (BitVec.ofNat 5 e.fine)).upd
    (chOff n CH.EDGECNT) (· + 1)

/-- The state in which an edge-counted channel waits for its advance. -/
def edgeCounted (s : State) (n : Fin 96) (e : PinEdge) : State :=
  let u := levelAccepted s n e
  if u.wasBt (chOff n CH.CTRL) 7 && (edgeSelected u n e.level || u.wasFl (chOff n CH.CAPCFG) 0 2 == 3) then u.later' 1 (.chCount n) else u

theorem filterEnded_ch : (filterEnded s n).ch[n] = { s.ch[n] with filt := none } := by
  rw [filterEnded, State.dropDue_ch, State.updCh_ch, if_pos rfl]

theorem edgeCounted_waits : Waits (levelAccepted s n e) (edgeCounted s n e) := by
  unfold edgeCounted
  extract_lets u
  split
  · rfl
  · rfl

theorem levelAccepted_ch : (levelAccepted s n e).ch[n] = { s.ch[n] with filt := none, level := e.level } := by
  rw [levelAccepted, State.upd_ch, feedLanes_dates.ch, State.updCh_ch, if_pos rfl, filterEnded_ch]

theorem levelAccepted_count : (levelAccepted s n e).rd (chOff n CH.EDGECNT) = s.rd (chOff n CH.EDGECNT) + 1 := by
  rw [levelAccepted, State.upd_rd, if_pos rfl, feedLanes_dates.rd]
  rfl

theorem levelAccepted_clock : SameClock s (levelAccepted s n e) :=
  ((SameClock.refl.same (by rfl)).trans feedLanes_dates.clock).trans (.upd chOff_not_clockReg)

/-- The count is written apart from the configuration, so that it selects the same edges. -/
theorem levelAccepted_was (h : o ≠ chOff n CH.EDGECNT) : (levelAccepted s n e).was o = s.was o := by
  have hrd : (levelAccepted s n e).rd o = s.rd o := by
    rw [levelAccepted, State.upd_rd, if_neg h, feedLanes_dates.rd]
    rfl
  have hold : (levelAccepted s n e).old = s.old := by
    rw [levelAccepted, State.upd_old]
    exact (congrArg State.old feedLanes_dates.rest :)
  rw [State.was, State.was, hrd, hold]

theorem edgeSelected_of {l : Bool} (h : s.wasFl (chOff n CH.CAPCFG) 0 2 = 2 ∨ (s.wasFl (chOff n CH.CAPCFG) 0 2 = 0 ∧ l = true)
    ∨ (s.wasFl (chOff n CH.CAPCFG) 0 2 = 1 ∧ l = false)) : edgeSelected s n l = true := by
  rcases h with h | ⟨h, rfl⟩ | ⟨h, rfl⟩
  · simp only [edgeSelected, h]
  · simp only [edgeSelected, h]
  · simp only [edgeSelected, h, Bool.not_false]

theorem levelAccepted_selected {l : Bool} : edgeSelected (levelAccepted s n e) n l = edgeSelected s n l := by
  rw [edgeSelected, edgeSelected, State.wasFl, State.wasFl, levelAccepted_was (by simp)]

section
variable (hf : s.ch[n].filt = some e)
include hf

theorem execGlitchFilterExpiry_eq : execGlitchFilterExpiry n s =
    if (filterEnded s n).ch[n].pin != e.level then .next ((filterEnded s n).satFl (chOff n CH.FILTCNT) 0 16)
    else if edgeSelected (levelAccepted s n e) n e.level then
      .next (((edgeCounted s n e).updCh n (fun c => { c with caps := c.caps ++ [e] })).after 3 (.capture n))
    else .next (edgeCounted s n e) := by
  unfold execGlitchFilterExpiry
  rw [hf]
  rfl

theorem execGlitchFilterExpiry_accepts (hp : s.ch[n].pin = e.level) :
    ∃ t, execGlitchFilterExpiry n s = .next t ∧ t.ch[n].level = e.level ∧ t.ch[n].filt = none
      ∧ t.rd (chOff n CH.EDGECNT) = s.rd (chOff n CH.EDGECNT) + 1
      ∧ (edgeSelected s n e.level = true → t.ch[n].caps = s.ch[n].caps ++ [e] ∧ ⟨s.ticks + s.samples 3, .capture n⟩ ∈ t.agenda) := by
  have hch : (edgeCounted s n e).ch[n] = { s.ch[n] with filt := none, level := e.level } := by
    rw [edgeCounted_waits.ch, levelAccepted_ch]
  have hrd : (edgeCounted s n e).rd (chOff n CH.EDGECNT) = s.rd (chOff n CH.EDGECNT) + 1 := by
    rw [edgeCounted_waits.rd, levelAccepted_count]
  have hclock : SameClock s ((edgeCounted s n e).updCh n (fun c => { c with caps := c.caps ++ [e] })) :=
    (levelAccepted_clock.trans edgeCounted_waits.clock).same (by rfl)
  rw [execGlitchFilterExpiry_eq hf, if_neg (by simp only [filterEnded_ch, hp, bne_self_eq_false, Bool.false_eq_true, not_false_eq_true]),
    levelAccepted_selected]
  cases hs : edgeSelected s n e.level
  case false =>
    refine ⟨_, if_neg (by decide), ?_, ?_, hrd, fun h => absurd h (by decide)⟩
    · rw [hch]
    · rw [hch]
  case true =>
    refine ⟨_, if_pos rfl, ?_, ?_, hrd, fun _ => ⟨?_, hclock.due⟩⟩
    · rw [State.after_ch, State.updCh_ch, if_pos rfl, hch]
    · rw [State.after_ch, State.updCh_ch, if_pos rfl, hch]
    · rw [State.after_ch, State.updCh_ch, if_pos rfl, hch]

/-- A change that did not last is counted. -/
theorem execGlitchFilterExpiry_rejects (hp : s.ch[n].pin ≠ e.level) :
    ∃ t, execGlitchFilterExpiry n s = .next t ∧ t.fl (chOff n CH.FILTCNT) 0 16 = min 65535 (s.fl (chOff n CH.FILTCNT) 0 16 + 1)
      ∧ t.ch[n].level = s.ch[n].level ∧ t.ch[n].filt = none := by
  rw [execGlitchFilterExpiry_eq hf, if_pos (by rw [filterEnded_ch]; simpa using hp)]
  refine ⟨_, rfl, ?_, ?_, ?_⟩
  · exact satFl_fl (s := filterEnded s n) (by decide)
  · rw [State.satFl_ch, filterEnded_ch]
  · rw [State.satFl_ch, filterEnded_ch]
end

end

end Sys2Proof.Machine

/-!
# The captures of a channel and their FIFO (O24)
-/

namespace Sys2Proof.Machine

section
variable {s t : State} {n : Fin 96} {e : PinEdge} {o : Nat}

/-! ### The timestamp (R70, R71) -/

/-- Whether the edge lies less than 16 ticks of time behind the last timestamped one. -/
def capClose (s : State) (n : Fin 96) (e : PinEdge) : Bool :=
  s.tbclk && (match s.ch[n].lastTs with | some l => decide (e.real < l + 16 * 32) | none => false)

theorem capClose_iff : capClose s n e = true ↔ s.tbclk = true ∧ ∃ l, s.ch[n].lastTs = some l ∧ e.real < l + 16 * 32 := by
  rw [capClose, Bool.and_eq_true]
  refine and_congr_right fun _ => ?_
  cases s.ch[n].lastTs with
  | none => simp
  | some l => simp

/-- The effective time of an edge in fine units, its coarse part and CAPINFO as its capture leaves it. -/
def capTime (e : PinEdge) : Nat := e.coarse.toNat * 32 + e.fine
def capCoarse (e : PinEdge) : Time := BitVec.ofNat 64 (capTime e / 32)
def capInfo (e : PinEdge) (w : Word) : Word := w32 (capTime e % 32 + e.level.toNat * 256 + (fld w 16 16 + 1) % 65536 * 65536)

theorem capCoarse_low : (capCoarse e).setWidth 32 = BitVec.ofNat 32 (capTime e / 32) := by
  simp [capCoarse]

/-- A number below 2^32 that consists of a fine value, a level and a count. -/
theorem packed_lt {f c : Nat} {l : Bool} (hf : f < 32) (hc : c < 65536) : f + l.toNat * 256 + c * 65536 < 2 ^ 32 := by
  have := l.toNat_lt
  omega

theorem capInfo_fields (w : Word) : fld (capInfo e w) 0 5 = capTime e % 32 ∧ bit (capInfo e w) 8 = e.level
    ∧ fld (capInfo e w) 16 16 = (fld w 16 16 + 1) % 65536 := by
  have hf : capTime e % 32 < 32 := Nat.mod_lt _ (by decide)
  have hc : (fld w 16 16 + 1) % 65536 < 65536 := Nat.mod_lt _ (by decide)
  have hl := e.level.toNat_lt
  have hlt := packed_lt (l := e.level) hf hc
  have hn : (capInfo e w).toNat = capTime e % 32 + e.level.toNat * 256 + (fld w 16 16 + 1) % 65536 * 65536 := by
    rw [capInfo, w32, BitVec.toNat_ofNat, Nat.mod_eq_of_lt hlt]
  generalize (fld w 16 16 + 1) % 65536 = c at *
  generalize capTime e % 32 = f at *
  refine ⟨?_, ?_, ?_⟩
  · rw [fld, hn, Nat.shiftRight_eq_div_pow]
    omega
  · have hb : bit (capInfo e w) 8 = decide (e.level.toNat = 1) := by
      rw [bit, ← BitVec.testBit_toNat, hn, Nat.testBit_eq_decide_div_mod_eq]
      congr 1
      rw [eq_iff_iff]
      omega
    rw [hb]
    cases e.level
    · rfl
    · rfl
  · rw [fld, hn, Nat.shiftRight_eq_div_pow]
    omega

/-- The state without the captured edge. -/
def capTaken (s : State) (n : Fin 96) (rest : List PinEdge) : State := s.updCh n (fun c => { c with caps := rest })

/-- The state in which the edge is timestamped. -/
def capStamped (s : State) (n : Fin 96) (e : PinEdge) (rest : List PinEdge) : State :=
  let u := (capTaken s n rest).noteEdge.updCh n (fun c => { c with lastTs := some e.real, edgeAt := s.ticks })
  let u := (u.wr (chOff n CH.CAPA) ((capCoarse e).setWidth 32)).wr (chOff n CH.CAPB) e.count
  chEvent (u.upd (chOff n CH.CAPINFO) (capInfo e)) n 6

/-- … and waits to enter the FIFO. -/
def capQueued (s : State) (n : Fin 96) (e : PinEdge) (rest : List PinEdge) : State :=
  (capStamped s n e rest).later' 0 (.fifoPush n ⟨(capCoarse e).setWidth 32, capTime e % 32, e.level, e.count.toNat % 65536⟩)

/-- … and is recorded where RMODE asks for it. -/
def capRecorded (s : State) (n : Fin 96) (e : PinEdge) : State :=
  if (recordEdge s n e.level).1 then
    (recordEdge s n e.level).2.offer 1
      { src := n.val, typ := 0, lvl := e.level, fine := capTime e % 32, coarse := coarse48 (capCoarse e).toNat, ext := [], ring := noRing }
  else (recordEdge s n e.level).2

theorem capTaken_ch {rest : List PinEdge} : (capTaken s n rest).ch[n] = { s.ch[n] with caps := rest } := (State.updCh_ch ..).trans (if_pos rfl)

theorem execCapture_eq {rest : List PinEdge} (h : s.ch[n].caps = e :: rest) : execCapture n s =
    if capClose (capTaken s n rest) n e then .next (chEvent (capTaken s n rest) n 11)
    else .next (feedNewels (capRecorded (capQueued s n e rest) n e) n ⟨n, e.level, capCoarse e, BitVec.ofNat 5 (capTime e % 32)⟩) := by
  unfold execCapture
  rw [h]
  rfl

/-- The registers that a capture writes hold in turn the event, CAPINFO, the count and the time. -/
theorem capStamped_rd {rest : List PinEdge} : (capStamped s n e rest).rd o =
    if o = chOff n CH.EVT then setBit (s.rd (chOff n CH.EVT)) 6 true
    else if o = chOff n CH.CAPINFO then capInfo e (s.rd (chOff n CH.CAPINFO))
    else if o = chOff n CH.CAPB then e.count
    else if o = chOff n CH.CAPA then BitVec.ofNat 32 (capTime e / 32)
    else s.rd o := by
  simp only [capStamped, capTaken, chEvent_rd, State.upd_rd, State.wr_rd, State.updCh_rd, State.noteEdge_rd, capCoarse_low, chOff_inj]
  rfl

theorem capStamped_ch {rest : List PinEdge} :
    (capStamped s n e rest).ch[n] = { s.ch[n] with caps := rest, lastTs := some e.real, edgeAt := s.ticks } := by
  rw [capStamped, chEvent_ch, State.upd_ch, State.wr_ch, State.wr_ch, State.updCh_ch, if_pos rfl, State.noteEdge_ch, capTaken_ch]

theorem capStamped_ticks {rest : List PinEdge} : (capStamped s n e rest).ticks = s.ticks := by
  rw [capStamped, chEvent_ticks, State.upd_ticks, State.wr_ticks, State.wr_ticks, State.updCh_ticks, State.noteEdge_ticks, capTaken, State.updCh_ticks]

/-- RMODE counts an edge that it may record. -/
theorem recordEdge_counts {r : Bool} : (recordEdge s n r).2 = s ∨ (recordEdge s n r).2 = s.updCh n (fun c => { c with decim := s.ch[n].decim + 1 }) := by
  unfold recordEdge
  extract_lets w k u
  by_cases hb : bit w (if r then 2 else 3) = true
  · rw [if_pos hb]
    refine .inr ?_
    split
    · rfl
    · rfl
    · rfl
  · rw [if_neg hb]
    exact .inl rfl

theorem recordEdge_keeps {r : Bool} : (recordEdge s n r).2.rd = s.rd ∧ (recordEdge s n r).2.later = s.later
    ∧ (recordEdge s n r).2.ch[n].lastTs = s.ch[n].lastTs := by
  obtain h | h := recordEdge_counts (s := s) (n := n) (r := r)
  · rw [h]
    exact ⟨rfl, rfl, rfl⟩
  · rw [h, State.updCh_ch, if_pos rfl]
    exact ⟨rfl, rfl, rfl⟩

theorem capRecorded_keeps : (capRecorded s n e).rd = s.rd ∧ (capRecorded s n e).later = s.later
    ∧ (capRecorded s n e).ch[n].lastTs = s.ch[n].lastTs := by
  unfold capRecorded
  split
  · exact recordEdge_keeps
  · exact recordEdge_keeps

theorem feedNewels_dates {i : EdgeInfo} : Dates s (feedNewels s n i) :=
  .foldl (fun _ _ => .ite .refl (.ite (.trans (.onIf .after) (.onIf .after))
    (.trans (.trans (.onIf .after) (.onIf .after)) (.onIf .after)))) _

theorem capQueued_due {rest : List PinEdge} :
    (s.ticks, Later.fifoPush n ⟨BitVec.ofNat 32 (capTime e / 32), capTime e % 32, e.level, e.count.toNat % 65536⟩) ∈ (capQueued s n e rest).later := by
  have h := SameClock.refl.due_later (s := capStamped s n e rest) (k := 0)
    (l := .fifoPush n ⟨(capCoarse e).setWidth 32, capTime e % 32, e.level, e.count.toNat % 65536⟩)
  rw [samples_zero, Nat.add_zero, capStamped_ticks] at h
  rw [← capCoarse_low]
  exact h

section
variable {rest : List PinEdge} (h : s.ch[n].caps = e :: rest)
include h

theorem execCapture_close (hc : capClose s n e = true) : ∃ t, execCapture n s = .next t ∧ t.bt (chOff n CH.EVT) 11 = true
    ∧ t.rd (chOff n CH.CAPA) = s.rd (chOff n CH.CAPA) ∧ t.ch[n].fifo = s.ch[n].fifo := by
  have hc' : capClose (capTaken s n rest) n e = true := by
    rw [← hc, capClose, capClose, capTaken_ch]
    rfl
  rw [execCapture_eq h, if_pos hc']
  refine ⟨_, rfl, chEvent_event (by decide), ?_, ?_⟩
  · rw [chEvent_rd, if_neg (by simp)]
    rfl
  · rw [chEvent_ch, capTaken_ch]

theorem execCapture_stamps (hc : capClose s n e = false) : ∃ t, execCapture n s = .next t ∧ t.rd (chOff n CH.CAPA) = BitVec.ofNat 32 (capTime e / 32)
    ∧ t.rd (chOff n CH.CAPB) = e.count ∧ t.fl (chOff n CH.CAPINFO) 0 5 = capTime e % 32 ∧ t.bt (chOff n CH.CAPINFO) 8 = e.level
    ∧ t.fl (chOff n CH.CAPINFO) 16 16 = (s.fl (chOff n CH.CAPINFO) 16 16 + 1) % 65536
    ∧ t.bt (chOff n CH.EVT) 6 = true ∧ t.ch[n].lastTs = some e.real
    ∧ (s.ticks, Later.fifoPush n ⟨BitVec.ofNat 32 (capTime e / 32), capTime e % 32, e.level, e.count.toNat % 65536⟩) ∈ t.later := by
  have hc' : capClose (capTaken s n rest) n e = false := by
    rw [← hc, capClose, capClose, capTaken_ch]
    rfl
  rw [execCapture_eq h, if_neg (by rw [hc']; decide)]
  refine ⟨_, rfl, ?_⟩
  generalize ht : feedNewels _ _ _ = t
  have hd : Dates (capRecorded (capQueued s n e rest) n e) t := ht ▸ feedNewels_dates
  obtain ⟨hrec, hlater, hlast⟩ := capRecorded_keeps (s := capQueued s n e rest) (n := n) (e := e)
  have hrd : t.rd = (capStamped s n e rest).rd := hd.rd.trans hrec
  have hinfo : t.rd (chOff n CH.CAPINFO) = capInfo e (s.rd (chOff n CH.CAPINFO)) := by
    rw [hrd, capStamped_rd, if_neg (by simp), if_pos rfl]
  obtain ⟨hfine, hlevel, hcount⟩ := capInfo_fields (e := e) (s.rd (chOff n CH.CAPINFO))
  refine ⟨?_, ?_, ?_, ?_, ?_, ?_, ?_, ?_⟩
  · rw [hrd, capStamped_rd, if_neg (by simp), if_neg (by simp), if_neg (by simp), if_pos rfl]
  · rw [hrd, capStamped_rd, if_neg (by simp), if_neg (by simp), if_pos rfl]
  · rw [State.fl, hinfo, hfine]
  · rw [State.bt, hinfo, hlevel]
  · rw [State.fl, hinfo, hcount, State.fl]
  · rw [State.bt, hrd, capStamped_rd, if_pos rfl, bit_setBit _ _ _ _ (by decide), if_pos rfl]
  · rw [hd.ch, hlast, capQueued, State.later'_ch, capStamped_ch]
  · rw [hd.later, hlater]
    exact capQueued_due
end

/-! ### The FIFO (R72) -/

/-- The state in which a full FIFO has reported the overflow. -/
def fifoOverflowed (s : State) (n : Fin 96) : State :=
  let u := s.satFl (chOff n CH.FIFOSTAT) 8 8
  if u.bt (chOff n CH.EVT) 7 then chEvent u n 7 else (chEvent u n 7).raise FS.CAPFIFO_OVF (w32 n.val)

theorem fifoPush_full {f : FifoEntry} (h : 8 ≤ s.ch[n].fifo.length) : fifoPush s n f =
    if (fifoOverflowed s n).bt (chOff n CH.CAPCFG) 16 then (fifoOverflowed s n).updCh n (fun c => { c with fifo := s.ch[n].fifo.tail ++ [f] })
    else fifoOverflowed s n :=
  if_neg (by omega)

theorem fifoOverflowed_reports : Reports raiseReg (chEvent (s.satFl (chOff n CH.FIFOSTAT) 8 8) n 7) (fifoOverflowed s n) :=
  .ite .refl (raise_reports ..)

theorem fifoOverflowed_ch : (fifoOverflowed s n).ch = s.ch := by
  rw [fifoOverflowed_reports.ch, chEvent_ch, State.satFl_ch]

theorem fifoOverflowed_rd {x : Nat} : (fifoOverflowed s n).rd (chOff n x) =
    if x = CH.EVT then setBit (s.rd (chOff n CH.EVT)) 7 true else (s.satFl (chOff n CH.FIFOSTAT) 8 8).rd (chOff n x) := by
  have hevt : (s.satFl (chOff n CH.FIFOSTAT) 8 8).rd (chOff n CH.EVT) = s.rd (chOff n CH.EVT) := by
    rw [State.satFl_rd, if_neg (by simp)]
  rw [fifoOverflowed_reports.rd _ chOff_not_raiseReg, chEvent_rd, hevt]
  simp only [chOff_inj]

theorem fifoPush_full_rd {f : FifoEntry} (h : 8 ≤ s.ch[n].fifo.length) : (fifoPush s n f).rd o = (fifoOverflowed s n).rd o := by
  rw [fifoPush_full h]
  split
  · rfl
  · rfl

theorem fifoPush_full_spec {f : FifoEntry} (h : 8 ≤ s.ch[n].fifo.length) : (fifoPush s n f).bt (chOff n CH.EVT) 7 = true
    ∧ (fifoPush s n f).fl (chOff n CH.FIFOSTAT) 8 8 = min 255 (s.fl (chOff n CH.FIFOSTAT) 8 8 + 1)
    ∧ (fifoPush s n f).ch[n].fifo = (if s.bt (chOff n CH.CAPCFG) 16 then s.ch[n].fifo.tail ++ [f] else s.ch[n].fifo) := by
  refine ⟨?_, ?_, ?_⟩
  · rw [State.bt, fifoPush_full_rd h, fifoOverflowed_rd, if_pos rfl, bit_setBit _ _ _ _ (by decide), if_pos rfl]
  · rw [State.fl, fifoPush_full_rd h, fifoOverflowed_rd, if_neg (by decide)]
    exact satFl_fl (by decide)
  · have hpol : (fifoOverflowed s n).bt (chOff n CH.CAPCFG) 16 = s.bt (chOff n CH.CAPCFG) 16 := by
      rw [State.bt, fifoOverflowed_rd, if_neg (by decide), State.satFl_rd, if_neg (by simp)]
      rfl
    rw [fifoPush_full h, hpol]
    split
    · exact congrArg Chan.fifo ((State.updCh_ch ..).trans (if_pos rfl))
    · exact congrArg (fun (x : Vector Chan 96) => x[n].fifo) fifoOverflowed_ch

/-! ### A level that the pin's own driver makes (R69, R434) -/

/-- Both pads' delay of a channel, in fine units (R434). -/
def bothPads (n : Fin 96) : Nat := 32 + (Config.padDelay n).toNat % 33

theorem bothPads_range : 32 ≤ bothPads n ∧ bothPads n ≤ 64 := by
  unfold bothPads
  omega

/-- Where the sampler sees the change made at `q`. -/
def ownArrival (n : Fin 96) (q : Nat) : Nat := min (q + bothPads n) ((q / 32 + 2) * 32)

section
variable {l : Bool} {q fine dt cause : Nat}

theorem ownEdge_due (h : s.tbclk = true) : ⟨s.ticks + ((ownArrival n q + 31) / 32 - s.ticks),
    .inputEdgeSampled n l (BitVec.ofNat 5 (ownArrival n q % 32))⟩ ∈ (ownEdge s n l q).agenda := by
  unfold ownEdge
  simp only [h, if_true, State.afterTicks_agenda, Nat.add_assoc]
  exact mem_insertDue _ _

/-- Under LCLK counting it is sampled at an LCLK edge. -/
theorem ownEdge_lclk (h : s.tbclk = false) :
    ∃ j, ⟨s.ticks + (s.edgeTick (j + 1) - s.ticks), .inputEdgeSampled n l 0⟩ ∈ (ownEdge s n l q).agenda := by
  unfold ownEdge
  simp only [h, Bool.false_eq_true, if_false, State.afterTicks_agenda]
  exact ⟨_, mem_insertDue _ _⟩

theorem padMoved_clock : SameClock s (padMoved s n fine dt) := SameClock.refl.same (by rfl)

theorem padMoved_ch : (padMoved s n fine dt).ch[n] = { s.ch[n] with
    padDrv := (padOf s n).1, padLvl := (padOf s n).2, padAt := physAt s fine dt,
    edgeAt := if chForced s n then s.ch[n].edgeAt else physAt s fine dt / 32 } :=
  (State.updCh_ch ..).trans (if_pos rfl)

/-- What `Obligations.ChannelInput` says of a level that the driver makes. -/
theorem updPad_sampled (hu : pinUsable s n = true) (hp : padOf s n = (true, l)) (hne : (s.ch[n].padDrv, s.ch[n].padLvl) ≠ (true, l)) :
    (updPad s n cause fine dt).ch[n].padDrv = true ∧ (updPad s n cause fine dt).ch[n].padLvl = l
    ∧ (updPad s n cause fine dt).ch[n].padAt = physAt s fine dt
    ∧ (s.tbclk = true → ⟨s.ticks + ((ownArrival n (physAt s fine dt) + 31) / 32 - s.ticks),
        .inputEdgeSampled n l (BitVec.ofNat 5 (ownArrival n (physAt s fine dt) % 32))⟩ ∈ (updPad s n cause fine dt).agenda)
    ∧ (s.tbclk = false → ∃ j, ⟨s.ticks + (s.edgeTick (j + 1) - s.ticks), .inputEdgeSampled n l 0⟩ ∈ (updPad s n cause fine dt).agenda) := by
  have hd := updPad_moved (s := s) (n := n) (cause := cause) (fine := fine) (dt := dt) (by rw [hp]; exact hne.symm)
  have hch : (updPad s n cause fine dt).ch[n] = (padMoved s n fine dt).ch[n] := by
    rw [hd.ch, padSensed_ch]
  have hs : padSensed s n fine dt = ownEdge (padMoved s n fine dt) n l (physAt s fine dt) := by
    rw [padSensed, hp, hu]
    rfl
  rw [hs] at hd
  have hclock : SameClock s (padMoved s n fine dt) := padMoved_clock
  refine ⟨?_, ?_, ?_, fun ht => ?_, fun ht => ?_⟩
  · rw [hch, padMoved_ch, hp]
  · rw [hch, padMoved_ch, hp]
  · rw [hch, padMoved_ch]
  · rw [← hclock.tbclk] at ht
    rw [← hclock.ticks]
    exact hd.kept _ (ownEdge_due ht)
  · rw [← hclock.tbclk] at ht
    obtain ⟨j, hj⟩ := ownEdge_lclk (n := n) (l := l) (q := physAt s fine dt) ht
    rw [hclock.edgeTick, hclock.ticks] at hj
    exact ⟨j, hd.kept _ hj⟩
end

end

/-- Settles O24, a part of the path at a time: the sample, the end of the glitch filter, the capture, the FIFO, and the pin's own driver. -/
theorem channelInput : Obligations.ChannelInput := by
  intro s n level fine filt edge picks seen
  refine ⟨?starts, ?undoes, ?follows, ?accepts, ?rejects, ?captures, ?enters, ?full, ?driven⟩
  case starts =>
    rintro ⟨hu, hw, hp⟩ he hf hl
    exact execInputEdgeSampled_starts hu hw hp he hf hl
  case undoes =>
    rintro ⟨hu, hw, hp⟩ he hf
    exact execInputEdgeSampled_undoes hu hw hp he hf
  case follows =>
    rintro ⟨hu, hw, hp⟩ he
    exact execInputEdgeSampled_follows hu hw hp he
  case accepts =>
    intro e hf hp
    obtain ⟨t, ht, hlevel, hfilt, hcount, hcap⟩ := execGlitchFilterExpiry_accepts hf hp
    exact ⟨t, ht, hlevel, hfilt, hcount, fun h => hcap (edgeSelected_of h)⟩
  case rejects =>
    intro e hf hp
    exact execGlitchFilterExpiry_rejects hf hp
  case captures =>
    intro e rest h time close
    refine ⟨fun hc => execCapture_close h (capClose_iff.mpr hc), fun hc => execCapture_stamps h ?_⟩
    exact Bool.eq_false_iff.mpr fun hclose => hc (capClose_iff.mp hclose)
  case enters => exact fun f h => if_pos h
  case full => exact fun f h => fifoPush_full_spec h
  case driven =>
    intro l cause at_ dt hu hp hne place
    obtain ⟨hdrv, hlvl, hat, htb, hlclk⟩ := updPad_sampled (cause := cause) (fine := at_) (dt := dt) hu hp hne
    obtain ⟨hmin, hmax⟩ := bothPads_range (n := n)
    exact ⟨hdrv, hlvl, hat, bothPads n, hmin, hmax, htb, hlclk⟩

end Sys2Proof.Machine

/-!
# What the commands of a channel reach

An operation on a channel changes some registers, some channels, the marks of the tick, the agenda and the pin activity; the output path
(R99 to R104) changes of a channel its path alone.
-/

namespace Sys2Proof.Machine

section
variable {s t u : State} {n m : Fin 96} {p p' : Nat → Prop} {q q' : Fin 96 → Prop} {o b k : Nat}

/-! ### Operations on channels -/

/-- The state `t` with the registers, marks, agenda, pin activity and channels of `s`. -/
def State.withChannels (t s : State) : State :=
  { t with regs := s.regs, marks := s.marks, agenda := s.agenda, vest := s.vest, ch := s.ch }

/-- From `s` to `t` registers that `p` holds of and channels that `q` holds of may have changed, and beside them the marks of the tick, the
agenda and the pin activity. -/
structure Acts (p : Nat → Prop) (q : Fin 96 → Prop) (s t : State) : Prop where
  rd : ∀ o, ¬p o → t.rd o = s.rd o
  ch_ne : ∀ m : Fin 96, ¬q m → t.ch[m] = s.ch[m]
  rest : t.withChannels s = s

theorem Acts.refl : Acts p q s s := ⟨fun _ _ => rfl, fun _ _ => rfl, rfl⟩

theorem Acts.trans (h : Acts p q s t) (g : Acts p q t u) : Acts p q s u := by
  refine ⟨fun o ho => (g.rd o ho).trans (h.rd o ho), fun m hm => (g.ch_ne m hm).trans (h.ch_ne m hm), ?_⟩
  calc u.withChannels s = (u.withChannels t).withChannels s := rfl
    _ = s := by rw [g.rest, h.rest]

theorem Acts.mono (h : Acts p q s t) (hp : ∀ o, p o → p' o) (hq : ∀ m, q m → q' m) : Acts p' q' s t :=
  ⟨fun o ho => h.rd o fun hp' => ho (hp o hp'), fun m hm => h.ch_ne m fun hq' => hm (hq m hq'), h.rest⟩

theorem Acts.ite {c : Prop} [Decidable c] (ht : Acts p q s t) (hu : Acts p q s u) : Acts p q s (if c then t else u) := by
  split
  · exact ht
  · exact hu

theorem Acts.updCh {f : Chan → Chan} (hn : q n) (h : Acts p q s t) : Acts p q s (t.updCh n f) := by
  refine h.trans ⟨fun _ _ => rfl, fun m hm => ?_, rfl⟩
  have hne : m ≠ n := fun e => hm (e ▸ hn)
  rw [State.updCh_ch, if_neg hne]

theorem Acts.note {f : Word → Word} (ho : p o) (h : Acts p q s t) : Acts p q s (t.note o f) := by
  refine h.trans ⟨fun x hx => ?_, fun _ _ => rfl, rfl⟩
  have hne : x ≠ o := fun e => hx (e ▸ ho)
  rw [State.note_rd, if_neg hne]

theorem Acts.upd {f : Word → Word} (ho : p o) (h : Acts p q s t) : Acts p q s (t.upd o f) := by
  refine h.trans ⟨fun x hx => ?_, fun _ _ => rfl, rfl⟩
  have hne : x ≠ o := fun e => hx (e ▸ ho)
  rw [State.upd_rd, if_neg hne]

theorem Acts.wr {v : Word} (ho : p o) (h : Acts p q s t) : Acts p q s (t.wr o v) := .upd (f := fun _ => v) ho h
theorem Acts.setBt {i : Nat} {c : Bool} (ho : p o) (h : Acts p q s t) : Acts p q s (t.setBt o i c) := .upd ho h

theorem Acts.dates (g : Dates t u) (h : Acts p q s t) : Acts p q s u := by
  refine h.trans ⟨fun o _ => congrFun g.rd o, fun m _ => by rw [g.ch], ?_⟩
  rw [g.rest]
  rfl

theorem Acts.chEvent (ho : p (chOff n CH.EVT)) (h : Acts p q s t) : Acts p q s (chEvent t n b) := .dates chEvent_dates (.note ho h)

section
variable (h : Acts p q s t)
include h
theorem Acts.ticks : t.ticks = s.ticks := (congrArg State.ticks h.rest :)
theorem Acts.now : t.now = s.now := (congrArg State.now h.rest :)
theorem Acts.sub : t.sub = s.sub := (congrArg State.sub h.rest :)
theorem Acts.near : t.near = s.near := (congrArg State.near h.rest :)
theorem Acts.tb : t.tb = s.tb := (congrArg State.tb h.rest :)
theorem Acts.mem : t.mem = s.mem := (congrArg State.mem h.rest :)
theorem Acts.pg : t.pg = s.pg := (congrArg State.pg h.rest :)
theorem Acts.later : t.later = s.later := (congrArg State.later h.rest :)

/-- The clock of the core stands in registers below those of the channels. -/
theorem Acts.clock (hp : ∀ o, clockReg o → ¬p o) : SameClock s t :=
  .of_rd h.ticks (congrArg Tb.lclkAt h.tb) (congrArg Tb.lclkFrac h.tb) (h.rd _ (hp _ (.inl rfl))) (h.rd _ (hp _ (.inr rfl)))

theorem Acts.follows (hc : ¬p (chOff m CH.CTRL)) (hw : ¬p (chOff m CH.PWM)) : follows t m = follows s m :=
  follows_congr (h.rd _ hc) (h.rd _ hw)
end

/-! ### The output path -/

/-- Channel `c` with the output path of `d`: its shaped reference level and stretch, its output and its pin. -/
def Chan.withPath (c d : Chan) : Chan :=
  { c with out := d.out, refLvl := d.refLvl, refAt := d.refAt, counted := d.counted, swallow := d.swallow, closeAt := d.closeAt,
           riseAt := d.riseAt, padDrv := d.padDrv, padLvl := d.padLvl, padAt := d.padAt, edgeAt := d.edgeAt }

/-- From `s` to `t` the output paths of channels that `q` holds of may have changed, and registers that `p` holds of. -/
structure Drives (p : Nat → Prop) (q : Fin 96 → Prop) (s t : State) : Prop extends Acts p q s t where
  path : ∀ m : Fin 96, t.ch[m].withPath s.ch[m] = s.ch[m]

theorem Drives.refl : Drives p q s s := ⟨.refl, fun _ => rfl⟩

theorem Drives.trans (h : Drives p q s t) (g : Drives p q t u) : Drives p q s u := by
  refine ⟨h.toActs.trans g.toActs, fun m => ?_⟩
  calc u.ch[m].withPath s.ch[m] = (u.ch[m].withPath t.ch[m]).withPath s.ch[m] := rfl
    _ = s.ch[m] := by rw [g.path, h.path]

theorem Drives.mono (h : Drives p q s t) (hp : ∀ o, p o → p' o) (hq : ∀ m, q m → q' m) : Drives p' q' s t :=
  ⟨h.toActs.mono hp hq, h.path⟩

theorem Drives.ite {c : Prop} [Decidable c] (ht : Drives p q s t) (hu : Drives p q s u) : Drives p q s (if c then t else u) := by
  split
  · exact ht
  · exact hu

/-- An update of the path of one channel. -/
theorem Drives.updCh {f : Chan → Chan} (hn : q n) (hf : ∀ c, (f c).withPath c = c) (h : Drives p q s t) : Drives p q s (t.updCh n f) := by
  refine h.trans ⟨.updCh hn .refl, fun m => ?_⟩
  rw [State.updCh_ch]
  split
  · next e => rw [e]; exact hf _
  · rfl

theorem Drives.satFl {lo len : Nat} (ho : p o) (h : Drives p q s t) : Drives p q s (t.satFl o lo len) := h.trans ⟨.note ho .refl, fun _ => rfl⟩
theorem Drives.dropDue {f : Instr → Bool} (h : Drives p q s t) : Drives p q s (t.dropDue f) :=
  h.trans ⟨⟨fun _ _ => rfl, fun _ _ => rfl, rfl⟩, fun _ => rfl⟩
theorem Drives.afterTicks {c : Instr} (h : Drives p q s t) : Drives p q s (t.afterTicks k c) :=
  h.trans ⟨⟨fun _ _ => rfl, fun _ _ => rfl, rfl⟩, fun _ => rfl⟩

section
variable (h : Drives p q s t)
include h
theorem Drives.dec : t.ch[m].dec = s.ch[m].dec := (congrArg Chan.dec (h.path m) :)
theorem Drives.aq : t.ch[m].aq = s.ch[m].aq := (congrArg Chan.aq (h.path m) :)
theorem Drives.fired : t.ch[m].fired = s.ch[m].fired := (congrArg Chan.fired (h.path m) :)
theorem Drives.firedAt : t.ch[m].firedAt = s.ch[m].firedAt := (congrArg Chan.firedAt (h.path m) :)
theorem Drives.cmpPinAt : t.ch[m].cmpPinAt = s.ch[m].cmpPinAt := (congrArg Chan.cmpPinAt (h.path m) :)
theorem Drives.cmpLetter : t.ch[m].cmpLetter = s.ch[m].cmpLetter := (congrArg Chan.cmpLetter (h.path m) :)
theorem Drives.run : t.ch[m].run = s.ch[m].run := (congrArg Chan.run (h.path m) :)
theorem Drives.level : t.ch[m].level = s.ch[m].level := (congrArg Chan.level (h.path m) :)
theorem Drives.filt : t.ch[m].filt = s.ch[m].filt := (congrArg Chan.filt (h.path m) :)
theorem Drives.caps : t.ch[m].caps = s.ch[m].caps := (congrArg Chan.caps (h.path m) :)
end

variable {cause fine dt lo len : Nat} {lvl : Bool} {at' : Placement} {soon : Option Nat} {byCompare : Bool}

/-- The pin's taking its state is a matter of the pin (R82). -/
theorem Drives.updPad (hn : q n) (h : Drives p q s t) : Drives p q s (updPad t n cause fine dt) := by
  have hrest : (Machine.updPad t n cause fine dt).withChannels t = t := by
    by_cases h : padOf t n = (t.ch[n].padDrv, t.ch[n].padLvl)
    · rw [updPad_same h]
      rfl
    · rw [(updPad_moved h).rest, padSensed_eq]
      rfl
  refine h.trans ⟨⟨fun _ _ => updPad_rd, fun m hm => updPad_ch_ne fun e => hm (e ▸ hn), hrest⟩, fun m => ?_⟩
  by_cases hm : m = n
  · obtain ⟨q, e, hch⟩ := updPad_ch (s := t) (n := n) (cause := cause) (fine := fine) (dt := dt)
    rw [hm, hch]
    rfl
  · rw [updPad_ch_ne hm]
    rfl

/-- An output's moving to a level is a matter of its path (R99). -/
theorem Drives.driveTo (hn : q n) (h : Drives p q s t) : Drives p q s (driveTo t n lvl at' dt cause) := by
  refine h.trans ?_
  unfold Machine.driveTo
  split
  · refine .ite .refl (.ite ?_ ?_)
    · exact .updPad hn (.updCh hn (fun _ => rfl) .refl)
    · exact .afterTicks (.dropDue (.updCh hn (fun _ => rfl) .refl))
  · extract_lets v w
    have hv : Drives p q t v := by
      unfold v
      split
      · exact .ite (.updPad hn (.updCh hn (fun _ => rfl) .refl)) .refl
      · exact .refl
    exact .updPad hn (.dropDue (.updCh hn (fun _ => rfl) hv))

/-- The partner of a pair's base is another channel. -/
theorem partnerOf_ne {k : Fin 96} (h : partnerOf s n = some k) : k ≠ n := by
  rintro rfl
  simp only [partnerOf, nextCh] at h
  split at h
  · next hk =>
    split at hk
    · cases hk
      split at h
      · have hv := congrArg Fin.val (Option.some.inj h)
        simp at hv
      · cases h
    · cases hk
  · cases h

/-- The output path of an enabled partner follows the base's reference. -/
def drivePartner (s : State) (n : Fin 96) (lvl : Bool) (at' : Placement) (dt cause : Nat) : State :=
  match partnerOf s n with
  | some k => if chEn s k then driveTo s k lvl at' dt cause else s
  | none => s

theorem Drives.drivePartner (hq : ∀ m, m ≠ n → q m) (h : Drives p q s t) : Drives p q s (drivePartner t n lvl at' dt cause) := by
  refine h.trans ?_
  unfold Machine.drivePartner
  split
  · next k hk => exact .ite (.driveTo (hq k (partnerOf_ne hk)) .refl) .refl
  · exact .refl

theorem setRef_eq : setRef s n lvl at' cause =
    drivePartner (driveTo (s.updCh n (fun c => { c with refLvl := lvl, refAt := some at' })) n lvl at' (dtMinpw s n).1 cause)
      n (!lvl) at' (dtMinpw s n).1 cause := rfl

/-! ### The stretches of a channel (R101 to R104) -/

/-- The register in which a channel counts its short stretches. -/
def shortReg (n : Fin 96) (o : Nat) : Prop := o = chOff n CH.SHORTCNT

/-- The stretch rules change output paths, and count in CHn_SHORTCNT. -/
abbrev Shapes (n : Fin 96) (s t : State) : Prop := Drives (shortReg n) (fun _ => True) s t

theorem Drives.setRef (h : Shapes n s t) : Shapes n s (setRef t n lvl at' cause) := by
  rw [setRef_eq]
  exact .drivePartner (fun _ _ => trivial) (.driveTo trivial (.updCh trivial (fun _ => rfl) h))

theorem Drives.countShort (h : Shapes n s t) : Shapes n s (countShort t n k) := .satFl rfl h

theorem Drives.holdClose {mp : Nat} (h : Shapes n s t) : Shapes n s (holdClose t n at' dt mp) :=
  .afterTicks (.dropDue (.updCh trivial (fun _ => rfl) h))

/-- A reference change opens a stretch: it is not yet counted as short. -/
def stretchOpened (s : State) (n : Fin 96) : State := s.updCh n (fun c => { c with counted := false })

/-- Whether the stretch that a change opens is short, as far as it is foreseen. -/
def opensShort (s : State) (n : Fin 96) (lvl : Bool) (at' : Placement) (byCompare : Bool) (soon : Option Nat) : Bool :=
  byCompare && (match (match soon with | some r => some r | none => foreseeLen (stretchOpened s n) n lvl at'.fine) with
    | some r => isShort r (dtMinpw s n).1 (dtMinpw s n).2
    | none => false)

/-- The state in which a foreseen short stretch is counted. -/
def shortCounted (s : State) (n : Fin 96) : State :=
  countShort ((stretchOpened s n).updCh n (fun c => { c with counted := true })) n (minPolicy (stretchOpened s n) n (dtMinpw s n).1)

theorem openStretch_eq : openStretch s n lvl at' cause byCompare soon =
    if !opensShort s n lvl at' byCompare soon then setRef (stretchOpened s n) n lvl at' cause
    else if minPolicy (stretchOpened s n) n (dtMinpw s n).1 = 0 then (shortCounted s n).updCh n (fun c => { c with swallow := true })
    else if minPolicy (stretchOpened s n) n (dtMinpw s n).1 = 1 then
      holdClose (setRef (shortCounted s n) n lvl at' cause) n at' (dtMinpw s n).1 (dtMinpw s n).2
    else setRef (shortCounted s n) n lvl at' cause := rfl

theorem Drives.openStretch (h : Shapes n s t) : Shapes n s (openStretch t n lvl at' cause byCompare soon) := by
  have h0 : Shapes n s (stretchOpened t n) := .updCh trivial (fun _ => rfl) h
  have h1 : Shapes n s (shortCounted t n) := .countShort (.updCh trivial (fun _ => rfl) h0)
  rw [openStretch_eq]
  exact .ite (.setRef h0) (.ite (.updCh trivial (fun _ => rfl) h1) (.ite (.holdClose (.setRef h1)) (.setRef h1)))

theorem Drives.closeMoved (h : Shapes n s t) : Shapes n s (closeMoved t n at' soon) := .openStretch (.updCh trivial (fun _ => rfl) h)

theorem Drives.refStep (h : Shapes n s t) : Shapes n s (refStep t n lvl at' cause byCompare) := by
  have hs : Shapes n s (t.updCh n (fun c => { c with swallow := false })) := .updCh trivial (fun _ => rfl) h
  have h1 : Shapes n s (Machine.countShort (t.updCh n (fun c => { c with counted := true })) n 1) := .countShort (.updCh trivial (fun _ => rfl) h)
  unfold Machine.refStep
  refine .ite (.ite hs (.openStretch hs)) (.ite h (.ite h (.ite (.ite ?_ (.ite ?_ ?_)) (.openStretch h))))
  · exact .openStretch (.countShort h)
  · exact .openStretch (.countShort h)
  · exact .ite (.holdClose h1) (.openStretch h1)

theorem Drives.refChange (h : Shapes n s t) : Shapes n s (refChange t n lvl at' cause byCompare) := by
  unfold Machine.refChange
  split
  · exact .ite (.refStep (.closeMoved h)) h
  · exact .refStep h

/-- The channel as its own actions have decided its level (R82). -/
def decided (s : State) (n : Fin 96) (lvl : Bool) : State := s.updCh n (fun c => { c with dec := lvl, lcPend := none })

/-- A decided level reaches the output path at once, or at the end of an LCLK step. -/
theorem decide'_cases : decide' s n lvl fine cause byCompare = (decided s n lvl).updCh n (fun c => { c with lcPend := some (fine, cause, byCompare) })
    ∨ Shapes n (decided s n lvl) (decide' s n lvl fine cause byCompare) := by
  unfold decide'
  extract_lets u
  split
  · exact .inr .refl
  · split
    · exact .inl rfl
    · exact .inr (.refChange .refl)

theorem decide'_dec : (decide' s n lvl fine cause byCompare).ch[n].dec = lvl := by
  obtain h | h := decide'_cases (s := s) (n := n) (lvl := lvl) (fine := fine) (cause := cause) (byCompare := byCompare)
  · rw [h, State.updCh_ch, if_pos rfl, decided, State.updCh_ch, if_pos rfl]
  · rw [h.dec, decided, State.updCh_ch, if_pos rfl]
end

end Sys2Proof.Machine

/-!
# The counters of the channels (O21, O22) and their compares (O23)
-/

namespace Sys2Proof.Machine

section
variable {s t u : State} {n m : Fin 96} {p : Nat → Prop} {q : Fin 96 → Prop} {o b : Nat} {load : Bool}

/-! ### Transfer points (R60, R66) -/

/-- The registers of a channel that a transfer of its shadows writes: the active registers, and PEND in CHn_EPOCH. -/
def activeReg (n : Fin 96) (o : Nat) : Prop := (chOff n CH.PERIOD_ACT ≤ o ∧ o ≤ chOff n CH.CMPFINE_ACT) ∨ o = chOff n CH.EPOCH

/-- The registers of a channel that a transfer point writes. -/
def pointReg (n : Fin 96) (o : Nat) : Prop := activeReg n o ∨ o = chOff n CH.EVT

/-- A register of the channel lies apart from those of a transfer point. (The users prove `h` by `decide`.) -/
theorem not_pointReg {x : Nat} (h : (x < CH.PERIOD_ACT ∨ CH.CMPFINE_ACT < x) ∧ x ≠ CH.EPOCH ∧ x ≠ CH.EVT) : ¬pointReg n (chOff n x) := by
  simp only [pointReg, activeReg, chOff] at *
  omega

/-- Of another channel every register does, that lies below them. -/
theorem ctrl_not_pointReg : ¬pointReg n (chOff m CH.CTRL) := by
  simp only [pointReg, activeReg, chOff, CH.CTRL, CH.PERIOD_ACT, CH.CMPFINE_ACT, CH.EPOCH, CH.EVT]
  omega

theorem chOff_eq_chOff {x y : Nat} (hx : x < 0x100) (hy : y < 0x100) : chOff n x = chOff m y ↔ n = m ∧ x = y := by
  simp only [chOff, Fin.ext_iff]
  omega

/-- Before PEND clears, a transfer of the shadows has written active registers alone. -/
theorem copyShadows_eq {withPeriod : Bool} : ∃ v, copyShadows s n withPeriod = v.setBt (chOff n CH.EPOCH) 16 false
    ∧ Acts (fun o => chOff n CH.PERIOD_ACT ≤ o ∧ o ≤ chOff n CH.CMPFINE_ACT) q s v := by
  have hcp {v : State} {x : Nat} (hx : CH.PERIOD ≤ x ∧ x ≤ CH.CMPFINE)
      (h : Acts (fun o => chOff n CH.PERIOD_ACT ≤ o ∧ o ≤ chOff n CH.CMPFINE_ACT) q s v) :
      Acts (fun o => chOff n CH.PERIOD_ACT ≤ o ∧ o ≤ chOff n CH.CMPFINE_ACT) q s (v.wr (chOff n (x + 0x20)) (v.rdCh n x)) := by
    refine .wr ?_ h
    simp only [chOff, CH.PERIOD, CH.CMPFINE, CH.PERIOD_ACT, CH.CMPFINE_ACT] at *
    omega
  refine ⟨_, rfl, hcp (by decide) (hcp (by decide) (hcp (by decide) (hcp (by decide) (hcp (by decide) ?_))))⟩
  exact .ite (hcp (by decide) .refl) .refl

theorem Acts.copyShadows {withPeriod : Bool} (hp : ∀ o, activeReg n o → p o) (h : Acts p q s t) : Acts p q s (copyShadows t n withPeriod) := by
  obtain ⟨v, hv, ha⟩ := copyShadows_eq (s := t) (n := n) (q := q) (withPeriod := withPeriod)
  rw [hv]
  exact .setBt (hp _ (.inr rfl)) (h.trans (ha.mono (fun o ho => hp o (.inl ho)) fun _ => id))

/-- A transfer of the shadows leaves the epoch. -/
theorem copyShadows_epoch {withPeriod : Bool} : (copyShadows s n withPeriod).fl (chOff n CH.EPOCH) 0 8 = s.fl (chOff n CH.EPOCH) 0 8 := by
  obtain ⟨v, hv, ha⟩ := copyShadows_eq (s := s) (n := n) (q := fun _ => True) (withPeriod := withPeriod)
  have hne : ¬(chOff n CH.PERIOD_ACT ≤ chOff n CH.EPOCH ∧ chOff n CH.EPOCH ≤ chOff n CH.CMPFINE_ACT) := by
    simp only [chOff, CH.EPOCH, CH.PERIOD_ACT, CH.CMPFINE_ACT]
    omega
  rw [hv, State.fl, State.setBt_rd, if_pos rfl, fld_setBit_ne _ _ _ _ _ (by decide), ha.rd _ hne]
  rfl

/-- The state in which the transfer point is counted, once in a tick. -/
def pointCounted (s : State) (n : Fin 96) : State :=
  if s.ch[n].xferAt = s.now then s
  else chEvent ((s.upd (chOff n CH.EPOCH) (fun w => setFld w 0 8 (fld w 0 8 + 1))).updCh n (fun c => { c with xferAt := s.now })) n 4

/-- The state in which what waited for a LOAD lands with it. -/
def loadLanded (s : State) (n : Fin 96) (load armed : Bool) : State :=
  if load && !armed then s.upd (chOff n CH.EPOCH) (fun w => if bit w 16 then setFld w 8 8 (fld w 0 8) else w) else s

theorem transferPoint_eq : transferPoint s n load = match updMode (pointCounted s n) n with
    | 0 => copyShadows (pointCounted s n) n true
    | 1 => if load || s.ch[n].loadArm then copyShadows ((loadLanded (pointCounted s n) n load s.ch[n].loadArm).updCh n
          (fun c => { c with loadArm := false })) n true else loadLanded (pointCounted s n) n load s.ch[n].loadArm
    | _ => pointCounted s n := rfl

/-- At a transfer point channel `n` counts it, and its shadows can transfer. -/
structure AtPoint (n : Fin 96) (s t : State) : Prop extends Acts (pointReg n) (· = n) s t where
  chan : ∃ x l, t.ch[n] = { s.ch[n] with xferAt := x, loadArm := l }
  event : ∀ b, b < 32 → s.bt (chOff n CH.EVT) b = true → t.bt (chOff n CH.EVT) b = true

/-- After its counting, the rest of a transfer point leaves the epoch and CHn_EVT. -/
structure Lands (n : Fin 96) (s t : State) : Prop extends Acts (activeReg n) (· = n) s t where
  chan : ∃ l, t.ch[n] = { s.ch[n] with loadArm := l }
  epoch : t.fl (chOff n CH.EPOCH) 0 8 = s.fl (chOff n CH.EPOCH) 0 8

theorem transferPoint_lands : Lands n (pointCounted s n) (transferPoint s n load) := by
  generalize hv : pointCounted s n = v
  have hload (l : Bool) : Lands n v (loadLanded v n load l) := by
    unfold loadLanded
    split
    · refine ⟨.upd (.inr rfl) .refl, ⟨v.ch[n].loadArm, rfl⟩, ?_⟩
      rw [State.fl, State.upd_rd, if_pos rfl]
      split
      · rw [fld_setFld_ne _ _ _ _ _ _ (by decide)]
        rfl
      · rfl
    · exact ⟨.refl, ⟨v.ch[n].loadArm, rfl⟩, rfl⟩
  have hcopy {w : State} (hw : Lands n v w) : Lands n v (copyShadows w n true) := by
    obtain ⟨x, hx, ha⟩ := copyShadows_eq (s := w) (n := n) (q := fun _ => False) (withPeriod := true)
    refine ⟨.copyShadows (fun _ => id) hw.toActs, ?_, copyShadows_epoch.trans hw.epoch⟩
    rw [hx, State.setBt_ch, ha.ch_ne n id]
    exact hw.chan
  rw [transferPoint_eq, hv]
  split
  · exact hcopy ⟨.refl, ⟨v.ch[n].loadArm, rfl⟩, rfl⟩
  · have hl := hload s.ch[n].loadArm
    split
    · obtain ⟨l, hc⟩ := hl.chan
      refine hcopy ⟨.updCh rfl hl.toActs, ⟨false, ?_⟩, hl.epoch⟩
      rw [State.updCh_ch, if_pos rfl, hc]
    · exact hl
  · exact ⟨.refl, ⟨v.ch[n].loadArm, rfl⟩, rfl⟩

theorem evt_not_activeReg : ¬activeReg n (chOff n CH.EVT) := by
  simp only [activeReg, chOff, CH.EVT, CH.PERIOD_ACT, CH.CMPFINE_ACT, CH.EPOCH]
  omega

/-- An event of a channel keeps those that have been set. -/
theorem chEvent_keeps_events (hb : b < 32) {i : Nat} (h : s.bt (chOff n CH.EVT) i = true) : (chEvent s n b).bt (chOff n CH.EVT) i = true := by
  rw [State.bt, chEvent_rd, if_pos rfl, bit_setBit _ _ _ _ hb]
  split
  · rfl
  · exact h

theorem transferPoint_atPoint : AtPoint n s (transferPoint s n load) := by
  have hc : AtPoint n s (pointCounted s n) := by
    unfold pointCounted
    split
    · exact ⟨.refl, ⟨_, _, rfl⟩, fun _ _ => id⟩
    · refine ⟨.chEvent (.inr rfl) (.updCh rfl (.upd (.inl (.inr rfl)) .refl)), ⟨s.now, s.ch[n].loadArm, ?_⟩, fun b _ h => ?_⟩
      · rw [chEvent_ch, State.updCh_ch, if_pos rfl, State.upd_ch]
      · refine chEvent_keeps_events (by decide) ?_
        rwa [State.bt, State.updCh_rd, State.upd_rd, if_neg (by simp)]
  have hl := transferPoint_lands (s := s) (n := n) (load := load)
  refine ⟨hc.toActs.trans (hl.toActs.mono (fun _ => .inl) fun _ => id), ?_, fun b hb h => ?_⟩
  · obtain ⟨x, l, h⟩ := hc.chan
    obtain ⟨l', h'⟩ := hl.chan
    exact ⟨x, l', by rw [h', h]⟩
  · rw [State.bt, hl.rd _ evt_not_activeReg]
    exact hc.event b hb h

/-- The first transfer point of a tick raises BOUND and counts EPOCH. -/
theorem transferPoint_first (h : s.ch[n].xferAt ≠ s.now) :
    (transferPoint s n load).bt (chOff n CH.EVT) 4 = true ∧ (transferPoint s n load).ch[n].xferAt = s.now
    ∧ (transferPoint s n load).fl (chOff n CH.EPOCH) 0 8 = (s.fl (chOff n CH.EPOCH) 0 8 + 1) % 256 := by
  have hl := transferPoint_lands (s := s) (n := n) (load := load)
  rw [pointCounted, if_neg h] at hl
  refine ⟨?_, ?_, ?_⟩
  · rw [State.bt, hl.rd _ evt_not_activeReg]
    exact chEvent_event (by decide)
  · obtain ⟨l, hc⟩ := hl.chan
    rw [hc, chEvent_ch, State.updCh_ch, if_pos rfl]
  · rw [hl.epoch, State.fl, chEvent_rd, if_neg (by simp), State.updCh_rd, State.upd_rd, if_pos rfl, fld_setFld _ _ _ _ (by decide)]
    rfl

/-! ### The advance of a counter (R58, R59) -/

/-- The state in which the counter has taken its value, with SHORT where it was beyond the period. -/
def countTaken (s : State) (n : Fin 96) (a : Advance) : State :=
  if a.boundShort || a.peakShort then chEvent (takeCount s n a.cnt a.down) n 5 else takeCount s n a.cnt a.down

/-- The state in which the transfer point of the advance, where it has one, has passed. -/
def pointPassed (s : State) (n : Fin 96) (a : Advance) : State :=
  if a.bound || (a.peak && (countTaken s n a).bt (chOff n CH.CTRL) 6) then transferPoint (countTaken s n a) n false else countTaken s n a

theorem applyAdvance_eq {a : Advance} : applyAdvance s n a = if a.bound then cascadeFrom (pointPassed s n a) n else pointPassed s n a := rfl

/-- The registers that an advance writes besides those of a transfer point. -/
def countReg (n : Fin 96) (o : Nat) : Prop := o = chOff n CH.CNT ∨ pointReg n o

theorem countTaken_acts {a : Advance} : Acts (countReg n) (· = n) s (countTaken s n a) := by
  have h : Acts (countReg n) (· = n) s (takeCount s n a.cnt a.down) := by
    unfold takeCount
    exact .updCh rfl (.wr (.inl rfl) .refl)
  exact .ite (.chEvent (.inr (.inr rfl)) h) h

theorem takeCount_ch {cnt : Nat} {down : Bool} :
    (takeCount s n cnt down).ch[n] = { s.ch[n] with prevCnt := s.rdCh n CH.CNT, took := s.now, down := down } :=
  (State.updCh_ch ..).trans (if_pos rfl)

theorem takeCount_rd {cnt : Nat} {down : Bool} : (takeCount s n cnt down).rd o = if o = chOff n CH.CNT then BitVec.ofNat 32 cnt else s.rd o :=
  State.wr_rd ..

theorem countTaken_ch {a : Advance} :
    (countTaken s n a).ch[n] = { s.ch[n] with prevCnt := s.rdCh n CH.CNT, took := s.now, down := a.down } := by
  have h : (countTaken s n a).ch = (takeCount s n a.cnt a.down).ch := by
    unfold countTaken
    split
    · exact chEvent_ch
    · rfl
  rw [h, takeCount_ch]

theorem countTaken_rd {a : Advance} (h : o ≠ chOff n CH.EVT) :
    (countTaken s n a).rd o = if o = chOff n CH.CNT then BitVec.ofNat 32 a.cnt else s.rd o := by
  unfold countTaken
  split
  · rw [chEvent_rd, if_neg h, takeCount_rd]
  · exact takeCount_rd

theorem countTaken_short {a : Advance} (h : a.boundShort = true ∨ a.peakShort = true) : (countTaken s n a).bt (chOff n CH.EVT) 5 = true := by
  rw [countTaken, if_pos (by simpa using h)]
  exact chEvent_event (by decide)

theorem pointPassed_atPoint {a : Advance} : AtPoint n (countTaken s n a) (pointPassed s n a) := by
  unfold pointPassed
  split
  · exact transferPoint_atPoint
  · exact ⟨.refl, ⟨_, _, rfl⟩, fun _ _ => id⟩

theorem cascadeFrom_dates : Dates s (cascadeFrom s n) := by
  unfold cascadeFrom
  split
  · exact .onIf .after
  · exact .refl

theorem applyAdvance_dates {a : Advance} : Dates (pointPassed s n a) (applyAdvance s n a) := by
  rw [applyAdvance_eq]
  exact .onIf cascadeFrom_dates

/-- What `Obligations.ChannelCounting` says of every advance. -/
theorem applyAdvance_moved {a : Advance} : (applyAdvance s n a).rd (chOff n CH.CNT) = BitVec.ofNat 32 a.cnt
    ∧ (applyAdvance s n a).ch[n].down = a.down ∧ (applyAdvance s n a).ch[n].took = s.now
    ∧ (a.boundShort = true ∨ a.peakShort = true → (applyAdvance s n a).bt (chOff n CH.EVT) 5 = true)
    ∧ (∀ m, m ≠ n → (applyAdvance s n a).ch[m] = s.ch[m]) ∧ (applyAdvance s n a).mem = s.mem := by
  have hd := applyAdvance_dates (s := s) (n := n) (a := a)
  have hp := pointPassed_atPoint (s := s) (n := n) (a := a)
  obtain ⟨x, l, hch⟩ := hp.chan
  refine ⟨?_, ?_, ?_, fun h => ?_, fun m hm => ?_, ?_⟩
  · rw [hd.rd, hp.rd _ (not_pointReg (by decide)), countTaken_rd (by simp), if_pos rfl]
  · rw [hd.ch, hch, countTaken_ch]
  · rw [hd.ch, hch, countTaken_ch]
  · rw [State.bt, hd.rd]
    exact hp.event 5 (by decide) (countTaken_short h)
  · rw [hd.ch, hp.ch_ne m hm, countTaken_acts.ch_ne m hm]
  · rw [hd.rest]
    exact hp.mem.trans countTaken_acts.mem

theorem ctrl_not_countReg : ¬countReg n (chOff m CH.CTRL) := by
  rintro (h | h)
  · rw [chOff_eq_chOff (by decide) (by decide)] at h
    exact absurd h.2 (by decide)
  · exact ctrl_not_pointReg h

/-- … and of one that ends in a boundary. -/
theorem applyAdvance_bounded {a : Advance} (hb : a.bound = true) (hx : s.ch[n].xferAt ≠ s.now) :
    (applyAdvance s n a).bt (chOff n CH.EVT) 4 = true ∧ (applyAdvance s n a).ch[n].xferAt = s.now
    ∧ (applyAdvance s n a).fl (chOff n CH.EPOCH) 0 8 = (s.fl (chOff n CH.EPOCH) 0 8 + 1) % 256
    ∧ ∀ k : Fin 96, k.val = n.val + 1 → cntMode s k = 5 → n.val % 12 ≠ 11 → ⟨s.ticks, .cascadeAdvance k⟩ ∈ (applyAdvance s n a).agenda := by
  have hd := applyAdvance_dates (s := s) (n := n) (a := a)
  have hp : pointPassed s n a = transferPoint (countTaken s n a) n false := by
    rw [pointPassed, if_pos (by rw [hb, Bool.true_or])]
  have hnow : (countTaken s n a).now = s.now := countTaken_acts.now
  have hfirst : (countTaken s n a).ch[n].xferAt ≠ (countTaken s n a).now := by
    rwa [countTaken_ch, hnow]
  obtain ⟨h4, hxfer, hepoch⟩ := transferPoint_first (load := false) hfirst
  rw [← hp] at h4 hxfer hepoch
  refine ⟨?_, ?_, ?_, fun k hk hmode hn => ?_⟩
  · rw [State.bt, hd.rd]
    exact h4
  · rw [hd.ch, hxfer, hnow]
  · rw [State.fl, hd.rd]
    refine hepoch.trans ?_
    rw [State.fl, countTaken_rd (by simp), if_neg (by simp)]
    rfl
  · have hacts : Acts (countReg n) (· = n) s (pointPassed s n a) :=
      countTaken_acts.trans (pointPassed_atPoint.toActs.mono (fun _ => .inr) fun _ => id)
    have hmode' : cntMode (pointPassed s n a) k = 5 := by
      rw [← hmode, cntMode, cntMode, State.fl, hacts.rd _ ctrl_not_countReg]
      rfl
    rw [applyAdvance_eq, if_pos hb, cascadeFrom, nextCh_eq hk]
    simp only [hmode', if_true, if_neg hn]
    rw [← hacts.ticks]
    exact due_now

/-- The first clauses of `Obligations.ChannelCounting`: an advance that ends in a boundary, or at the peak, or of a cascaded channel. -/
theorem execCounterBoundary_next {a : Advance} (h : chAdvance s n = some a) (hb : a.bound = true) :
    execCounterBoundary n s = .next (applyAdvance s n a) := by
  simp only [execCounterBoundary, h, hb, if_true]

theorem execCounterPeak_next {a : Advance} (h : chAdvance s n = some a) (hp : a.peak = true) (hb : a.bound = false) :
    execCounterPeak n s = .next (applyAdvance s n a) := by
  simp only [execCounterPeak, h, hp, hb, Bool.not_false, Bool.and_self, if_true]

theorem execCascadeAdvance_next {a : Advance} (h : chAdvance s n = some a) (hm : cntMode s n = 5) (hc : s.ch[n].cntSet ≠ s.now) :
    execCascadeAdvance n s = .next (applyAdvance s n a) := by
  rw [execCascadeAdvance, if_pos (by simpa [hm] using hc), h]

/-! ### Compares (R62, R63) -/

/-- The action that CHn_OUTCFG names for a letter. -/
def letterAct (s : State) (n : Fin 96) (k : Fin 4) : Nat := fld (s.rd (chOff n CH.OUTCFG)) (2 + 2 * k.val) 2

theorem letterAct_lt {k : Fin 4} : letterAct s n k < 4 := Nat.mod_lt _ (by decide)

/-- An action that acts gives the level that its code names. -/
theorem actLevel_match {act : Nat} {l : Bool} :
    act ≠ 0 → act < 4 → actLevel act l = match act with | 1 => true | 2 => false | _ => !l := by
  intro h hlt
  obtain rfl | rfl | rfl : act = 1 ∨ act = 2 ∨ act = 3 := by omega
  · rfl
  · rfl
  · rfl

/-- The channel as a compare has taken its level. -/
def compareTaken (s : State) (n : Fin 96) (k : Fin 4) : State :=
  (chEvent s n k.val).updCh n (fun c => { c with cmpPinAt := (chEvent s n k.val).now, cmpLetter := k.val })

theorem execCompareMatch_eq {k : Fin 4} (he : chEn s n = true) (hf : s.ch[n].frozen = false) : execCompareMatch n k s =
    if letterAct (chEvent s n k.val) n k = 0 then .next (chEvent s n k.val)
    else if (chEvent s n k.val).ch[n].aqPinAt = (chEvent s n k.val).now then .next (chEvent (chEvent s n k.val) n 10)
    else if (chEvent s n k.val).ch[n].cmpPinAt = (chEvent s n k.val).now && k.val < (chEvent s n k.val).ch[n].cmpLetter then
      .next (chEvent s n k.val)
    else .next (decide' (compareTaken s n k) n (actLevel (letterAct (chEvent s n k.val) n k) (compareTaken s n k).ch[n].dec)
      (cmpFineOf ((compareTaken s n k).rdCh n CH.CMPFINE_ACT) k.val) (1 + k.val) true) :=
  if_pos (by rw [he, hf]; rfl)

variable {lvl byCompare : Bool} {fine cause : Nat}

/-- A decision keeps the registers but for the count of short stretches. -/
theorem decide'_rd (h : ¬shortReg n o) : (decide' s n lvl fine cause byCompare).rd o = s.rd o := by
  obtain hd | hd := decide'_cases (s := s) (n := n) (lvl := lvl) (fine := fine) (cause := cause) (byCompare := byCompare)
  · rw [hd]
    rfl
  · rw [hd.rd _ h]
    rfl

/-- The channel as decided, but for its path and for a change that waits for the end of an LCLK step. -/
theorem decide'_ch : ∃ x, ((decide' s n lvl fine cause byCompare).ch[n]).withPath s.ch[n] = { s.ch[n] with dec := lvl, lcPend := x } := by
  have hdec : (decided s n lvl).ch[n] = { s.ch[n] with dec := lvl, lcPend := none } := (State.updCh_ch ..).trans (if_pos rfl)
  obtain hd | hd := decide'_cases (s := s) (n := n) (lvl := lvl) (fine := fine) (cause := cause) (byCompare := byCompare)
  · refine ⟨some (fine, cause, byCompare), ?_⟩
    rw [hd, State.updCh_ch, if_pos rfl, hdec]
    rfl
  · refine ⟨none, ?_⟩
    have hp := hd.path n
    rw [hdec] at hp
    exact hp

theorem letterAct_event {k : Nat} {j : Fin 4} : letterAct (chEvent s n k) n j = letterAct s n j := by
  rw [letterAct, letterAct, chEvent_rd, if_neg (by simp)]

theorem chEvent_now {k : Nat} : (chEvent s n k).now = s.now := congrArg (· + 1) chEvent_ticks

/-- What `Obligations.CompareActions` says. -/
theorem execCompareMatch_acts {k : Fin 4} (he : chEn s n = true) (hf : s.ch[n].frozen = false) : ∃ t, execCompareMatch n k s = .next t
    ∧ t.bt (chOff n CH.EVT) k.val = true
    ∧ (letterAct s n k = 0 → t.ch = s.ch)
    ∧ (letterAct s n k ≠ 0 → s.ch[n].aqPinAt = s.now → t.bt (chOff n CH.EVT) 10 = true ∧ t.ch = s.ch)
    ∧ (letterAct s n k ≠ 0 → s.ch[n].aqPinAt ≠ s.now → s.ch[n].cmpPinAt = s.now → k.val < s.ch[n].cmpLetter → t.ch = s.ch)
    ∧ (letterAct s n k ≠ 0 → s.ch[n].aqPinAt ≠ s.now → ¬(s.ch[n].cmpPinAt = s.now ∧ k.val < s.ch[n].cmpLetter) →
        t.ch[n].dec = actLevel (letterAct s n k) s.ch[n].dec ∧ t.ch[n].cmpPinAt = s.now ∧ t.ch[n].cmpLetter = k.val) := by
  have hk : k.val < 32 := by omega
  have hevent : (chEvent s n k.val).bt (chOff n CH.EVT) k.val = true := chEvent_event hk
  have htaken : (compareTaken s n k).ch[n] = { s.ch[n] with cmpPinAt := s.now, cmpLetter := k.val } := by
    rw [compareTaken, State.updCh_ch, if_pos rfl, chEvent_ch, chEvent_now]
  rw [execCompareMatch_eq he hf, letterAct_event, chEvent_ch, chEvent_now]
  by_cases h0 : letterAct s n k = 0
  · rw [if_pos h0]
    exact ⟨_, rfl, hevent, fun _ => chEvent_ch, fun h => absurd h0 h, fun h => absurd h0 h, fun h => absurd h0 h⟩
  rw [if_neg h0]
  by_cases hq : s.ch[n].aqPinAt = s.now
  · rw [if_pos hq]
    refine ⟨_, rfl, chEvent_keeps_events (by decide) hevent, fun h => absurd h h0, fun _ _ => ⟨chEvent_event (by decide), ?_⟩,
      fun _ h => absurd hq h, fun _ h => absurd hq h⟩
    rw [chEvent_ch, chEvent_ch]
  rw [if_neg hq]
  by_cases hl : s.ch[n].cmpPinAt = s.now ∧ k.val < s.ch[n].cmpLetter
  · rw [if_pos (by simpa using hl)]
    exact ⟨_, rfl, hevent, fun _ => chEvent_ch, fun _ h => absurd h hq, fun _ _ _ _ => chEvent_ch, fun _ _ h => absurd hl h⟩
  rw [if_neg (by simpa using hl), htaken]
  refine ⟨_, rfl, ?_, fun h => absurd h h0, fun _ h => absurd h hq, fun _ _ h1 h2 => absurd ⟨h1, h2⟩ hl, fun _ _ _ => ?_⟩
  · rw [State.bt, decide'_rd (by simp [shortReg])]
    exact hevent
  · obtain ⟨x, hch⟩ := decide'_ch (s := compareTaken s n k) (n := n) (lvl := actLevel (letterAct s n k) s.ch[n].dec)
      (fine := cmpFineOf ((compareTaken s n k).rdCh n CH.CMPFINE_ACT) k.val) (cause := 1 + k.val) (byCompare := true)
    rw [htaken] at hch
    exact ⟨decide'_dec, (congrArg Chan.cmpPinAt hch :), (congrArg Chan.cmpLetter hch :)⟩
end

/-- Settles O21: in each clause the conditions decide the branch of `countStep`. -/
theorem counterAdvance : Obligations.CounterAdvance := by
  intro cnt p down _ _
  refine ⟨fun h => ?_, fun h => ?_, fun h => ?_, rfl, fun h => ?_, fun hp h => ?_, fun hp h => ?_, rfl, fun hc hp => ?_, fun hp => ?_, ?_, ?_⟩
  · simp [countStep, Nat.not_le.mpr h]
  · simp [countStep, h]
  · simp [countStep, Nat.pos_iff_ne_zero.mp h]
  · have hle : ¬p ≤ cnt := by omega
    have hne : cnt + 1 ≠ p := by omega
    have h0 : p ≠ 0 := by omega
    simp [countStep, h0, hle, hne]
  · have hle : ¬p ≤ cnt := by omega
    simp [countStep, Nat.pos_iff_ne_zero.mp hp, hle, h]
  · have hle : p ≤ cnt := by omega
    have hc : cnt ≠ 0 := by omega
    have h1 : cnt - 1 ≠ 0 := by omega
    simp [countStep, Nat.pos_iff_ne_zero.mp hp, hle, h, hc, h1]
  · have h0 : cnt ≠ 0 := by omega
    have h1 : cnt - 1 ≠ 0 := by omega
    simp [countStep, Nat.pos_iff_ne_zero.mp hp, h0, h1]
  · simp [countStep, Nat.pos_iff_ne_zero.mp hp]
  · by_cases h : p ≤ cnt
    · simp [countStep, h]
    · simp only [countStep, if_true, if_neg h]
      omega
  · by_cases h : cnt = 0
    · simp [countStep, h]
    · simp only [countStep, if_neg h]
      exact (Nat.sub_le ..).trans (le_max_right ..)

/-- Settles O22: each of the three commands applies the advance, whose count and transfer point write apart from each other. -/
theorem channelCounting : Obligations.ChannelCounting := by
  intro s n a h moved bounded
  refine ⟨fun hb hx => ⟨_, execCounterBoundary_next h hb, applyAdvance_moved, applyAdvance_bounded hb hx⟩,
    fun hp hb => ⟨_, execCounterPeak_next h hp hb, applyAdvance_moved⟩,
    fun hm hc => ⟨_, execCascadeAdvance_next h hm hc, applyAdvance_moved⟩⟩

/-- Settles O23: the event comes first; then the action's own code, the queue and the higher letters decide in turn. -/
theorem compareActions : Obligations.CompareActions := by
  intro s n k act he hf
  obtain ⟨t, ht, hevent, hnone, hqueue, hhigher, hacts⟩ := execCompareMatch_acts (k := k) he hf
  refine ⟨t, ht, hevent, hnone, hqueue, hhigher, fun h hq hl => ?_⟩
  obtain ⟨hdec, hpin, hletter⟩ := hacts h hq hl
  exact ⟨hdec.trans (actLevel_match h letterAct_lt), hpin, hletter⟩

end Sys2Proof.Machine

/-!
# The action queue of a channel (O25, O26)
-/

namespace Sys2Proof.Machine

section
variable {s t u : State} {n : Fin 96} {a : Agent} {e : AqEntry} {v : Word} {o b : Nat}

/-! ### An offer (R75) -/

/-- Whether a queue entry is the one that the offer `e` names: its own of the same tag. -/
def AqEntry.isNamedBy (x e : AqEntry) : Bool := x.tagv && x.origin == e.origin && x.tag == e.tag

/-- The entry that the offer names fired in this tick. -/
def Absorbed (s : State) (n : Fin 96) (e : AqEntry) : Prop :=
  e.tagv = true ∧ s.ch[n].firedAt = s.now ∧ ∃ x, s.ch[n].fired = some x ∧ x.isNamedBy e = true

/-- The entry that the offer names waits in the queue. -/
def Named (s : State) (n : Fin 96) (e : AqEntry) : Prop := e.tagv = true ∧ s.ch[n].aq.any (·.isNamedBy e) = true

theorem absorbed_iff : (e.tagv && s.ch[n].firedAt == s.now && (match s.ch[n].fired with | some x => x.isNamedBy e | none => false)) = true
    ↔ Absorbed s n e := by
  rw [Bool.and_eq_true, Bool.and_eq_true, beq_iff_eq, and_assoc, Absorbed]
  refine and_congr_right fun _ => and_congr_right fun _ => ?_
  cases s.ch[n].fired with
  | none => simp
  | some x => simp

section
variable (he : chEn s n = true) (ha : e.act < 10)

theorem aqOfferEntry_barred (h : chEn s n = false ∨ 10 ≤ e.act) : aqOfferEntry s n e = (aqRefuse s n, .refused) :=
  if_pos (by rcases h with h | h <;> simp [h])

include he ha

/-- What an enabled channel does with an offer that holds an action. -/
theorem aqOfferEntry_eq : aqOfferEntry s n e =
    if e.tagv && s.ch[n].firedAt == s.now && (match s.ch[n].fired with | some x => x.isNamedBy e | none => false) then (s, .absorbed)
    else if e.tagv && s.ch[n].aq.any (·.isNamedBy e) then
      if s.ch[n].aq.any (fun x => x.isNamedBy e && x.frz) then (aqRefuse s n, .refused)
      else (s.updCh n (fun c => { c with aq := aqInsert s.near e (s.ch[n].aq.filter (fun x => !x.isNamedBy e)) }), .accepted)
    else if s.ch[n].aq.length < 8 then (s.updCh n (fun c => { c with aq := aqInsert s.near e c.aq }), .accepted)
    else (aqRefuse s n, .refused) :=
  if_neg (by simpa [he] using ha)

theorem aqOfferEntry_absorbed (h : Absorbed s n e) : aqOfferEntry s n e = (s, .absorbed) := by
  rw [aqOfferEntry_eq he ha, if_pos (absorbed_iff.mpr h)]

variable (h : ¬Absorbed s n e)
include h

theorem aqOfferEntry_enters (hn : ¬Named s n e) (hl : s.ch[n].aq.length < 8) :
    aqOfferEntry s n e = (s.updCh n (fun c => { c with aq := aqInsert s.near e c.aq }), .accepted) := by
  rw [aqOfferEntry_eq he ha, if_neg (fun h' => h (absorbed_iff.mp h')), if_neg (by rwa [Bool.and_eq_true]), if_pos hl]

theorem aqOfferEntry_full (hn : ¬Named s n e) (hl : 8 ≤ s.ch[n].aq.length) : aqOfferEntry s n e = (aqRefuse s n, .refused) := by
  rw [aqOfferEntry_eq he ha, if_neg (fun h' => h (absorbed_iff.mp h')), if_neg (by rwa [Bool.and_eq_true]), if_neg (by omega)]

theorem aqOfferEntry_replaces (hn : Named s n e) (hf : s.ch[n].aq.any (fun x => x.isNamedBy e && x.frz) = false) : aqOfferEntry s n e =
    (s.updCh n (fun c => { c with aq := aqInsert s.near e (s.ch[n].aq.filter (fun x => !x.isNamedBy e)) }), .accepted) := by
  rw [aqOfferEntry_eq he ha, if_neg (fun h' => h (absorbed_iff.mp h')), if_pos ((Bool.and_eq_true ..).mpr hn),
    if_neg (by rw [hf]; decide)]

theorem aqOfferEntry_frozen (hn : Named s n e) (hf : s.ch[n].aq.any (fun x => x.isNamedBy e && x.frz) = true) :
    aqOfferEntry s n e = (aqRefuse s n, .refused) := by
  rw [aqOfferEntry_eq he ha, if_neg (fun h' => h (absorbed_iff.mp h')), if_pos ((Bool.and_eq_true ..).mpr hn), if_pos hf]
end

/-- A refusal raises AQREF and NOTICE AQ_REFUSED, and leaves the channels. -/
theorem aqRefuse_reports : Reports raiseReg (chEvent s n 9) (aqRefuse s n) := raise_reports ..

theorem aqRefuse_spec : (aqRefuse s n).ch = s.ch ∧ (aqRefuse s n).bt (chOff n CH.EVT) 9 = true ∧ Raised (aqRefuse s n) FS.AQ_REFUSED := by
  refine ⟨aqRefuse_reports.ch.trans chEvent_ch, ?_, raise_raised _ (by decide) _⟩
  rw [State.bt, aqRefuse_reports.rd _ chOff_not_raiseReg]
  exact chEvent_event (by decide)

/-! ### A write of CHn_AQ_A (R74, R75) -/

/-- The entry that a write of CHn_AQ_A offers. -/
def offeredEntry (s : State) (a : Agent) (n : Fin 96) (v : Word) : AqEntry := aqEntryOf a (s.lat? a (chOff n CH.AQ_T)) v

theorem writeAqA_valid (h : (offeredEntry s a n v).act < 10) : writeAqA s a n v = (aqOfferEntry s n (offeredEntry s a n v)).1 := by
  have hs : (if 10 ≤ (offeredEntry s a n v).act then s.rsvd a (chOff n CH.AQ_A) else s) = s := if_neg (by omega)
  exact congrArg (fun u => (aqOfferEntry u n (offeredEntry s a n v)).1) hs

/-- The offer is refused. -/
def AqRefused (s : State) (n : Fin 96) (t : State) : Prop := t.ch = s.ch ∧ t.bt (chOff n CH.EVT) 9 = true ∧ Raised t FS.AQ_REFUSED

theorem aqRefused_of (h : writeAqA s a n v = aqRefuse s n) : AqRefused s n (writeAqA s a n v) := by
  rw [h]
  exact aqRefuse_spec

/-- A disabled channel and a reserved code refuse; a reserved code has raised RSVD_WRITE before. -/
theorem writeAqA_barred (h : chEn s n = false ∨ 10 ≤ (offeredEntry s a n v).act) : AqRefused s n (writeAqA s a n v) := by
  by_cases hr : 10 ≤ (offeredEntry s a n v).act
  · have hw : writeAqA s a n v = aqRefuse (s.rsvd a (chOff n CH.AQ_A)) n := by
      have hs : (if 10 ≤ (offeredEntry s a n v).act then s.rsvd a (chOff n CH.AQ_A) else s) = s.rsvd a (chOff n CH.AQ_A) := if_pos hr
      refine (congrArg (fun u => (aqOfferEntry u n (offeredEntry s a n v)).1) hs).trans ?_
      simp only [aqOfferEntry_barred (.inr hr)]
    have hraise : Reports raiseReg s (s.rsvd a (chOff n CH.AQ_A)) := raise_reports ..
    obtain ⟨hch, hevent, hraised⟩ := aqRefuse_spec (s := s.rsvd a (chOff n CH.AQ_A)) (n := n)
    rw [hw]
    exact ⟨hch.trans hraise.ch, hevent, hraised⟩
  · refine aqRefused_of ?_
    rw [writeAqA_valid (by omega), aqOfferEntry_barred h]

/-- So does a channel to which the offer, were it enabled, would be one too many, or that holds the named entry frozen. -/
theorem writeAqA_refused (h : chEn s n = true → (offeredEntry s a n v).act < 10 →
    aqOfferEntry s n (offeredEntry s a n v) = (aqRefuse s n, .refused)) : AqRefused s n (writeAqA s a n v) := by
  by_cases hb : chEn s n = false ∨ 10 ≤ (offeredEntry s a n v).act
  · exact writeAqA_barred hb
  · rw [not_or, Bool.not_eq_false, not_le] at hb
    refine aqRefused_of ?_
    rw [writeAqA_valid hb.2, h hb.1 hb.2]

/-! ### What a slot's settling reaches (R146, R157, R158) -/

/-- The registers of the Newels and of their slots. -/
def newelReg (o : Nat) : Prop := (0x8000 ≤ o ∧ o < 0x9000) ∨ (0x30000 ≤ o ∧ o < 0x38000)

/-- The state `t` with the registers, marks, agenda and Newels of `s`. -/
def State.withSlots (t s : State) : State := { t with regs := s.regs, marks := s.marks, agenda := s.agenda, nwl := s.nwl }

/-- From `s` to `t` registers that `p` holds of may have changed, and beside them the marks of the tick, the agenda and the Newels. -/
structure Settles (p : Nat → Prop) (s t : State) : Prop where
  rd : ∀ o, ¬p o → t.rd o = s.rd o
  rest : t.withSlots s = s

section
variable {p : Nat → Prop} {w : Fin 4} {k : Fin 512} {i last lo len x : Nat}

theorem Settles.refl : Settles p s s := ⟨fun _ _ => rfl, rfl⟩

theorem Settles.trans (h : Settles p s t) (g : Settles p t u) : Settles p s u := by
  refine ⟨fun o ho => (g.rd o ho).trans (h.rd o ho), ?_⟩
  calc u.withSlots s = (u.withSlots t).withSlots s := rfl
    _ = s := by rw [g.rest, h.rest]

theorem Settles.note {f : Word → Word} (ho : p o) (h : Settles p s t) : Settles p s (t.note o f) := by
  refine h.trans ⟨fun x hx => ?_, rfl⟩
  have hne : x ≠ o := fun e => hx (e ▸ ho)
  rw [State.note_rd, if_neg hne]

theorem Settles.upd {f : Word → Word} (ho : p o) (h : Settles p s t) : Settles p s (t.upd o f) := by
  refine h.trans ⟨fun x hx => ?_, rfl⟩
  have hne : x ≠ o := fun e => hx (e ▸ ho)
  rw [State.upd_rd, if_neg hne]

theorem Settles.wr (ho : p o) (h : Settles p s t) : Settles p s (t.wr o v) := .upd (f := fun _ => v) ho h
theorem Settles.setFl {y : Nat} (ho : p o) (h : Settles p s t) : Settles p s (t.setFl o lo len y) := .upd ho h
theorem Settles.updNwl {f : Nwl → Nwl} (h : Settles p s t) : Settles p s (t.updNwl w f) := h.trans ⟨fun _ _ => rfl, rfl⟩

theorem Settles.dates (g : Dates t u) (h : Settles p s t) : Settles p s u := by
  refine h.trans ⟨fun o _ => congrFun g.rd o, ?_⟩
  rw [g.rest]
  rfl

theorem Settles.foldl {α : Type} {f : State → α → State} (hf : ∀ u x, Settles p u (f u x)) (l : List α) : Settles p s (l.foldl f s) :=
  List.foldlRecOn l f .refl fun u hu x _ => hu.trans (hf u x)

section
variable (h : Settles p s t)
include h
theorem Settles.ch : t.ch = s.ch := (congrArg State.ch h.rest :)
theorem Settles.ticks : t.ticks = s.ticks := (congrArg State.ticks h.rest :)
theorem Settles.now : t.now = s.now := (congrArg State.now h.rest :)
theorem Settles.tb : t.tb = s.tb := (congrArg State.tb h.rest :)
theorem Settles.later : t.later = s.later := (congrArg State.later h.rest :)
theorem Settles.clock (hp : ∀ o, clockReg o → ¬p o) : SameClock s t :=
  .of_rd h.ticks (congrArg Tb.lclkAt h.tb) (congrArg Tb.lclkFrac h.tb) (h.rd _ (hp _ (.inl rfl))) (h.rd _ (hp _ (.inr rfl)))
end

theorem nwlOff_newelReg (hx : x < 0x400) : newelReg (nwlOff w x) := by
  simp only [newelReg, nwlOff]
  omega

theorem evOff_newelReg (hx : x < 0x10) : newelReg (evOff w k x) := by
  simp only [newelReg, evOff]
  omega

theorem chOff_not_newelReg (hx : x < 0x100) : ¬newelReg (chOff n x) := by
  simp only [newelReg, chOff]
  omega

theorem clockReg_not_newelReg (o : Nat) (h : clockReg o) : ¬newelReg o := by
  rcases h with rfl | rfl
  · simp [newelReg, R.CLK_STAT]
  · simp [newelReg, R.TB_LSTEP]

/-- An event of a Newel's scheduler that is no drop sets its bit, and can send a service request. -/
theorem evEvent_dates (hb : b ≠ 2) : Dates (s.setEv (nwlOff w NWL.EVEVT) b) (evEvent s w k b) := by
  have he : evEvent s w k b = if (s.setEv (nwlOff w NWL.EVEVT) b).wasBt (nwlOff w NWL.EVSRQEN) b then
      (s.setEv (nwlOff w NWL.EVEVT) b).srqVia (nwlOff w NWL.ROUTE) (.nwl w) 0 else s.setEv (nwlOff w NWL.EVEVT) b := by
    have hraise : (decide (b = 2) && !s.bt (nwlOff w NWL.EVEVT) b) = false := by
      rw [decide_eq_false hb, Bool.false_and]
    simp only [evEvent, hraise, Bool.false_eq_true, if_false]
  rw [he]
  exact .onIf .after

theorem Settles.evEvent (hb : b ≠ 2) (hp : p (nwlOff w NWL.EVEVT)) (h : Settles p s t) : Settles p s (evEvent t w k b) :=
  .dates (evEvent_dates hb) (.note hp h)

theorem Settles.completeSlot (hl : p (evOff w k EV.LATE)) (ha : p (evOff w k EV.ANG)) (h : Settles p s t) :
    Settles p s (completeSlot t w k i last) :=
  .setFl ha (.updNwl (.setFl ha (.setFl hl h)))

theorem Settles.newelFired {late : Bool} {d : Nat} (h : Settles newelReg s t) : Settles newelReg s (newelFired t w k e late d) := by
  have hev : Settles newelReg s (Machine.evEvent ((((Machine.completeSlot t w k (slotInst t w k) (if late || e.cancel then 2 else 1)).wr
      (nwlOff w NWL.EVLAST_T) e.coarse).wr (nwlOff w NWL.EVLAST_X)
      (w32 (e.fine + late.toNat * 32 + k.val * 128 + min d 0xFFFF * 65536)))) w k 0) :=
    .evEvent (by decide) (nwlOff_newelReg (by decide)) (.wr (nwlOff_newelReg (by decide)) (.wr (nwlOff_newelReg (by decide))
      (.completeSlot (evOff_newelReg (by decide)) (evOff_newelReg (by decide)) h)))
  unfold Machine.newelFired
  extract_lets s1 s2 s3 s4
  split
  · exact .note (nwlOff_newelReg (by decide)) hev
  · exact hev

theorem Settles.newelFlushed (h : Settles newelReg s t) : Settles newelReg s (newelFlushed t w k) :=
  .evEvent (by decide) (nwlOff_newelReg (by decide)) (.note (nwlOff_newelReg (by decide))
    (.completeSlot (evOff_newelReg (by decide)) (evOff_newelReg (by decide)) h))

/-- A flush empties the queue, and completes the instances of the Newels' entries in it. -/
theorem flushQueue_settles : Settles newelReg (s.updCh n (fun c => { c with aq := [] })) (flushQueue s n) := by
  unfold flushQueue
  refine .foldl (fun u x => ?_) _
  split
  · exact .newelFlushed .refl
  · exact .refl

theorem flushQueue_ch : (flushQueue s n).ch[n] = { s.ch[n] with aq := [] } := by
  rw [flushQueue_settles.ch, State.updCh_ch, if_pos rfl]

theorem flushQueue_ch_ne {m : Fin 96} (hm : m ≠ n) : (flushQueue s n).ch[m] = s.ch[m] := by
  rw [flushQueue_settles.ch, State.updCh_ch, if_neg hm]

theorem flushQueue_rd (h : ¬newelReg o) : (flushQueue s n).rd o = s.rd o := flushQueue_settles.rd o h
end

/-! ### The action of a firing entry (R79) -/

/-- A register of the channel. -/
def ownReg (n : Fin 96) (o : Nat) : Prop := ∃ x, x < 0x100 ∧ o = chOff n x

/-- A channel's own action leaves the queue and what fired, and keeps the events that have been set. -/
structure Performs (n : Fin 96) (s t : State) : Prop extends Acts (ownReg n) (fun _ => True) s t where
  aq : t.ch[n].aq = s.ch[n].aq
  fired : t.ch[n].fired = s.ch[n].fired
  firedAt : t.ch[n].firedAt = s.ch[n].firedAt
  event : ∀ b, b < 32 → s.bt (chOff n CH.EVT) b = true → t.bt (chOff n CH.EVT) b = true

theorem Performs.refl : Performs n s s := ⟨.refl, rfl, rfl, rfl, fun _ _ => id⟩

theorem Performs.trans (h : Performs n s t) (g : Performs n t u) : Performs n s u :=
  ⟨h.toActs.trans g.toActs, g.aq.trans h.aq, g.fired.trans h.fired, g.firedAt.trans h.firedAt, fun b hb hs => g.event b hb (h.event b hb hs)⟩

theorem Performs.updCh {f : Chan → Chan} (hf : ∀ c, (f c).aq = c.aq ∧ (f c).fired = c.fired ∧ (f c).firedAt = c.firedAt) :
    Performs n s (s.updCh n f) := by
  obtain ⟨h1, h2, h3⟩ := hf s.ch[n]
  refine ⟨.updCh trivial .refl, ?_, ?_, ?_, fun _ _ => id⟩
  · rw [State.updCh_ch, if_pos rfl, h1]
  · rw [State.updCh_ch, if_pos rfl, h2]
  · rw [State.updCh_ch, if_pos rfl, h3]

theorem shortReg_ownReg (o : Nat) (h : shortReg n o) : ownReg n o := ⟨CH.SHORTCNT, by decide, h⟩

theorem Performs.of_shapes (h : Shapes n s t) : Performs n s t := by
  refine ⟨h.toActs.mono shortReg_ownReg fun _ => id, h.aq, h.fired, h.firedAt, fun b _ hb => ?_⟩
  rw [State.bt, h.rd _ (by simp [shortReg])]
  exact hb

theorem Performs.decide' {lvl byCompare : Bool} {fine cause : Nat} : Performs n s (decide' s n lvl fine cause byCompare) := by
  have hd : Performs n s (decided s n lvl) := .updCh fun _ => ⟨rfl, rfl, rfl⟩
  obtain h | h := decide'_cases (s := s) (n := n) (lvl := lvl) (fine := fine) (cause := cause) (byCompare := byCompare)
  · rw [h]
    exact hd.trans (.updCh fun _ => ⟨rfl, rfl, rfl⟩)
  · exact hd.trans (.of_shapes h)

theorem Performs.transferPoint {load : Bool} : Performs n s (transferPoint s n load) := by
  have h := transferPoint_atPoint (s := s) (n := n) (load := load)
  obtain ⟨x, l, hc⟩ := h.chan
  have hp (o : Nat) (ho : pointReg n o) : ownReg n o := by
    refine ⟨o - chOff n 0, ?_, ?_⟩
    · simp only [pointReg, activeReg, chOff, CH.PERIOD_ACT, CH.CMPFINE_ACT, CH.EPOCH, CH.EVT] at *
      omega
    · simp only [pointReg, activeReg, chOff, CH.PERIOD_ACT, CH.CMPFINE_ACT, CH.EPOCH, CH.EVT] at *
      omega
  exact ⟨h.toActs.mono hp fun _ _ => trivial, by rw [hc], by rw [hc], by rw [hc], h.event⟩

/-- The level that an entry of the queue sets. -/
def aqLevel (s : State) (n : Fin 96) (l : Bool) (fine : Nat) : State :=
  decide' (s.updCh n (fun c => { c with aqPinAt := s.now })) n l fine 5 false

/-- The driver as an entry of the queue sets it. -/
def aqDriver (s : State) (n : Fin 96) (on : Bool) (fine : Nat) : State := updPad (s.setBt (chOff n CH.OUTCFG) 0 on) n 12 fine 0

variable {act fine : Nat}

theorem aqLevel_performs {l : Bool} : Performs n s (aqLevel s n l fine) :=
  (Performs.updCh (f := fun c => { c with aqPinAt := s.now }) fun _ => ⟨rfl, rfl, rfl⟩).trans .decide'

theorem aqLevel_dec {l : Bool} : (aqLevel s n l fine).ch[n].dec = l := decide'_dec

theorem aqDriver_performs {on : Bool} : Performs n s (aqDriver s n on fine) := by
  have hb : Performs n s (s.setBt (chOff n CH.OUTCFG) 0 on) := by
    refine ⟨.setBt ⟨CH.OUTCFG, by decide, rfl⟩ .refl, rfl, rfl, rfl, fun b _ h => ?_⟩
    rwa [State.bt, State.setBt_rd, if_neg (by simp)]
  exact hb.trans (.of_shapes (.updPad trivial .refl))

theorem aqDriver_oe {on : Bool} : (aqDriver s n on fine).bt (chOff n CH.OUTCFG) 0 = on := by
  rw [State.bt, aqDriver, updPad_rd, State.setBt_rd, if_pos rfl, bit_setBit _ _ _ _ (by decide), if_pos rfl]

theorem aqAct_performs : Performs n s (aqAct s n act fine) := by
  have hif {c : Prop} [Decidable c] {w : State} (hw : Performs n s w) : Performs n s (if c then s else w) := by
    split
    · exact .refl
    · exact hw
  have hchan {c : Prop} [Decidable c] {f : Chan → Chan} (hf : ∀ c, (f c).aq = c.aq ∧ (f c).fired = c.fired ∧ (f c).firedAt = c.firedAt) :
      Performs n s (if c then s.updCh n f else s) := by
    split
    · exact .updCh hf
    · exact .refl
  unfold aqAct
  extract_lets lvl fol
  split
  · exact aqLevel_performs
  · exact aqLevel_performs
  · exact aqLevel_performs
  · exact aqDriver_performs
  · exact aqDriver_performs
  · exact hif (hchan fun _ => ⟨rfl, rfl, rfl⟩)
  · exact hif (.updCh fun _ => ⟨rfl, rfl, rfl⟩)
  · exact hif (hif (.updCh fun _ => ⟨rfl, rfl, rfl⟩))
  · exact hif .transferPoint
  · exact .refl

/-! ### The head of the queue fires (R77) -/

/-- The target of an entry is reached exactly when it is the present near time or before it (R37). -/
theorem reached_iff {x now : Word} : reached x now = true ↔ x = now ∨ (x - now).toInt < 0 := by
  rw [reached, before, Bool.or_eq_true, beq_iff_eq, BitVec.msb_eq_toInt, decide_eq_true_eq]

/-- The state in which the entry has left the queue. -/
def headTaken (s : State) (n : Fin 96) (e : AqEntry) (q : List AqEntry) : State :=
  s.updCh n (fun c => { c with aq := q, fired := some e, firedAt := s.now })

/-- … and has shown LATE where its target is passed. -/
def headTimed (s : State) (n : Fin 96) (e : AqEntry) (q : List AqEntry) : State :=
  if e.coarse != s.near then chEvent (headTaken s n e q) n 12 else headTaken s n e q

/-- The fine position at which it acts. -/
def headFine (s : State) (e : AqEntry) : Nat := if e.coarse != s.near || !s.tbclk then s.fine0 else e.fine

/-- … and has acted. -/
def headActed (s : State) (n : Fin 96) (e : AqEntry) (q : List AqEntry) : State := aqAct (headTimed s n e q) n e.act (headFine s e)

theorem execAqFire_fires {q : List AqEntry} (h : s.ch[n].aq = e :: q) (hf : s.ch[n].frozen = false) (hr : reached e.coarse s.near = true) :
    ∃ t, execAqFire n s = .next (if q.isEmpty then t.later' 1 (.chEvt n 8) else t) ∧ Settles newelReg (headActed s n e q) t := by
  unfold execAqFire
  rw [h]
  refine ⟨_, if_neg (by rw [hf, hr]; decide), ?_⟩
  split
  · exact .newelFired (.dates (.onIf .after) .refl)
  · exact .dates (.onIf .after) .refl

theorem headTaken_ch {q : List AqEntry} : (headTaken s n e q).ch[n] = { s.ch[n] with aq := q, fired := some e, firedAt := s.now } :=
  (State.updCh_ch ..).trans (if_pos rfl)

theorem headTimed_acts {q : List AqEntry} : Acts (ownReg n) (fun _ => True) s (headTimed s n e q) := by
  have h : Acts (ownReg n) (fun _ => True) s (headTaken s n e q) := .updCh trivial .refl
  exact .ite (.chEvent ⟨CH.EVT, by decide, rfl⟩ h) h

theorem headTimed_ch {q : List AqEntry} : (headTimed s n e q).ch[n] = { s.ch[n] with aq := q, fired := some e, firedAt := s.now } := by
  have h : (headTimed s n e q).ch = (headTaken s n e q).ch := by
    unfold headTimed
    split
    · exact chEvent_ch
    · rfl
  rw [h, headTaken_ch]

theorem clockReg_not_ownReg (o : Nat) (h : clockReg o) : ¬ownReg n o := by
  rintro ⟨x, -, rfl⟩
  exact chOff_not_clockReg h

section
variable {q : List AqEntry}

theorem headActed_performs : Performs n (headTimed s n e q) (headActed s n e q) := aqAct_performs

theorem headActed_clock : SameClock s (headActed s n e q) :=
  (headTimed_acts.clock clockReg_not_ownReg).trans (headActed_performs.clock clockReg_not_ownReg)

theorem headActed_late (h : e.coarse ≠ s.near) : (headActed s n e q).bt (chOff n CH.EVT) 12 = true := by
  refine headActed_performs.event 12 (by decide) ?_
  rw [headTimed, if_pos (by simpa using h)]
  exact chEvent_event (by decide)

/-- The actions on the level and on the driver (R79). -/
theorem headActed_acts : (e.act = 1 → (headActed s n e q).ch[n].dec = true) ∧ (e.act = 2 → (headActed s n e q).ch[n].dec = false)
    ∧ (e.act = 3 → (headActed s n e q).ch[n].dec = !s.ch[n].dec)
    ∧ (e.act = 4 → (headActed s n e q).bt (chOff n CH.OUTCFG) 0 = false) ∧ (e.act = 5 → (headActed s n e q).bt (chOff n CH.OUTCFG) 0 = true) := by
  unfold headActed
  refine ⟨fun h => ?_, fun h => ?_, fun h => ?_, fun h => ?_, fun h => ?_⟩
  · rw [h]
    exact aqLevel_dec
  · rw [h]
    exact aqLevel_dec
  · rw [h]
    refine aqLevel_dec.trans ?_
    rw [headTimed_ch]
  · rw [h]
    exact aqDriver_oe
  · rw [h]
    exact aqDriver_oe
end

/-- What `Obligations.ActionQueueFire` says of the head. -/
theorem execAqFire_head {q : List AqEntry} (h : s.ch[n].aq = e :: q) (hf : s.ch[n].frozen = false) (hr : reached e.coarse s.near = true) :
    ∃ t, execAqFire n s = .next t ∧ t.ch = (headActed s n e q).ch ∧ (∀ x, x < 0x100 → t.rd (chOff n x) = (headActed s n e q).rd (chOff n x))
      ∧ (q = [] → (s.ticks + s.samples 1, Later.chEvt n 8) ∈ t.later) := by
  obtain ⟨u, hu, hs⟩ := execAqFire_fires h hf hr
  refine ⟨_, hu, ?_, fun x hx => ?_, ?_⟩
  · rw [← hs.ch]
    split
    · rfl
    · rfl
  · rw [← hs.rd _ (chOff_not_newelReg hx)]
    split
    · rfl
    · rfl
  · rintro rfl
    exact (headActed_clock.trans (hs.clock clockReg_not_newelReg)).due_later
end

/-- Settles O25: the offer's entry is the one that the write stages and names, and each clause decides the branches of `aqOfferEntry`. -/
theorem actionQueueOffer : Obligations.ActionQueueOffer := by
  intro s a n v e same refused absorbed named
  refine ⟨?stages, ?enters, ?replaces, ?absorbs, ?disabled, ?reserved, ?frozen, ?full⟩
  case stages =>
    refine ⟨_, rfl, ?_, rfl⟩
    rw [State.setLat_lat, if_pos rfl]
  case enters =>
    intro he ha habs hnamed hl
    have hw := (writeAqA_valid ha).trans (congrArg Prod.fst (aqOfferEntry_enters he ha habs hnamed hl))
    exact ⟨_, congrArg Host.Outcome.next hw, (State.updCh_ch ..).trans (if_pos rfl), rfl, fun m hm => (State.updCh_ch ..).trans (if_neg hm)⟩
  case replaces =>
    intro he ha habs hnamed hf
    have hw := (writeAqA_valid ha).trans (congrArg Prod.fst (aqOfferEntry_replaces he ha habs hnamed hf))
    exact ⟨_, congrArg Host.Outcome.next hw, (State.updCh_ch ..).trans (if_pos rfl), rfl, fun m hm => (State.updCh_ch ..).trans (if_neg hm)⟩
  case absorbs =>
    intro he ha habs
    have hw := (writeAqA_valid ha).trans (congrArg Prod.fst (aqOfferEntry_absorbed he ha habs))
    exact ⟨_, congrArg Host.Outcome.next hw, rfl⟩
  case disabled => exact fun h => ⟨_, rfl, writeAqA_barred (.inl h)⟩
  case reserved => exact fun h => ⟨_, rfl, writeAqA_barred (.inr h)⟩
  case frozen => exact fun habs hn hf => ⟨_, rfl, writeAqA_refused fun he ha => aqOfferEntry_frozen he ha habs hn hf⟩
  case full => exact fun habs hn hl => ⟨_, rfl, writeAqA_refused fun he ha => aqOfferEntry_full he ha habs hn hl⟩

/-- Settles O26: the head leaves the queue before it acts, and no action touches the queue or what fired; what follows settles a Newel's slot. -/
theorem actionQueueFire : Obligations.ActionQueueFire := by
  intro s a n
  refine ⟨?fires, ?empty, ?flush⟩
  case fires =>
    intro e q h hf hr
    obtain ⟨t, ht, hch, hrd, hlater⟩ := execAqFire_head h hf (reached_iff.mpr hr)
    have hp := headActed_performs (s := s) (n := n) (e := e) (q := q)
    obtain ⟨h1, h2, h3, h4, h5⟩ := headActed_acts (s := s) (n := n) (e := e) (q := q)
    have hout : t.bt (chOff n CH.OUTCFG) 0 = (headActed s n e q).bt (chOff n CH.OUTCFG) 0 := by
      rw [State.bt, hrd _ (by decide)]
      rfl
    rw [← hout] at h4 h5
    rw [← hch] at h1 h2 h3
    refine ⟨t, ht, ?_, ?_, ?_, fun hl => ?_, h1, h2, h3, h4, h5, hlater⟩
    · rw [hch, hp.aq, headTimed_ch]
    · rw [hch, hp.firedAt, headTimed_ch]
    · rw [hch, hp.fired, headTimed_ch]
    · rw [State.bt, hrd _ (by decide)]
      exact headActed_late hl
  case empty =>
    intro h
    refine ⟨s, ?_, rfl⟩
    rw [exec_aqFire, execAqFire, h]
  case flush =>
    exact ⟨_, rfl, flushQueue_ch, fun m hm => flushQueue_ch_ne hm, flushQueue_rd (chOff_not_newelReg (by decide)), flushQueue_settles.later⟩

end Sys2Proof.Machine

/-!
# The commands and shadow writes of a channel (O27)
-/

namespace Sys2Proof.Machine

section
variable {s t u : State} {n m : Fin 96} {p : Nat → Prop} {q : Fin 96 → Prop} {o cause dt : Nat} {lvl : Bool} {at' : Placement}

/-! ### Enable (R83) -/

/-- The channel as EN has started it. -/
def chEnabled (s : State) (n : Fin 96) : State :=
  (s.setBt (chOff n CH.CTRL) 0 true).updCh n (fun c => { c with run := true, level := c.pin, filt := none, caps := [] })

/-- An enabled partner takes the level that its base gives it. -/
theorem chEnable_drives : Drives (fun _ => False) (· = n) (chEnabled s n) (chEnable s n) := by
  unfold chEnable
  refine .ite ?_ .refl
  split
  · exact .driveTo rfl .refl
  · exact .refl

theorem chEnabled_ch : (chEnabled s n).ch[n] = { s.ch[n] with run := true, level := s.ch[n].pin, filt := none, caps := [] } :=
  (State.updCh_ch ..).trans (if_pos rfl)

theorem chEnabled_en : chEn (chEnabled s n) n = true := by
  rw [chEn, State.bt, chEnabled, State.updCh_rd, State.setBt_rd, if_pos rfl, bit_setBit _ _ _ _ (by decide), if_pos rfl]

/-! ### Disable (R83, R99) -/

/-- What the output path moves to a level keeps but for the level itself: a rise comes at once without dead time, a fall always does. -/
theorem driveTo_out (h : lvl = true → s.ch[n].out = true ∨ dt = 0) : (driveTo s n lvl at' dt cause).ch[n].out = lvl := by
  have hpad {v : State} {f : Chan → Chan} {c fine d : Nat} : (updPad (v.updCh n f) n c fine d).ch[n].out = (f v.ch[n]).out := by
    obtain ⟨x, y, hc⟩ := updPad_ch (s := v.updCh n f) (n := n) (cause := c) (fine := fine) (dt := d)
    rw [hc, State.updCh_ch, if_pos rfl]
  unfold driveTo
  cases lvl with
  | true =>
    rw [if_pos rfl]
    by_cases ho : s.ch[n].out = true
    · rw [if_pos ho, ho]
    · rw [if_neg ho, if_pos ((h rfl).resolve_left ho), hpad]
  | false =>
    rw [if_neg (by decide)]
    extract_lets v w
    obtain ⟨x, y, hc⟩ := updPad_ch (s := w) (n := n) (cause := cause) (fine := at'.fine) (dt := at'.tick - w.ticks)
    rw [hc]
    simp only [w, State.dropDue_ch, State.updCh_ch, if_true]

/-- The channel as its level is forced, its stretches forgotten. -/
def levelForced (s : State) (n : Fin 96) (lvl : Bool) : State :=
  (s.updCh n (fun c => { c with dec := lvl, swallow := false, closeAt := none, counted := false })).dropDue (· == .stretchClose n)

/-- … and its reference set with the dead time of the pair. -/
def refForced (s : State) (n : Fin 96) (lvl : Bool) (dt cause : Nat) : State :=
  driveTo (s.updCh n (fun c => { c with refLvl := lvl, refAt := none })) n lvl ⟨s.ticks + 1, s.fine0⟩ dt cause

theorem forceRef_eq : forceRef s n lvl cause =
    let u := levelForced s n lvl
    if isPartner u n then driveTo u n lvl ⟨u.ticks + 1, u.fine0⟩ 0 cause
    else if u.ch[n].refLvl == lvl && (u.ch[n].out == lvl || u.ch[n].riseAt.isSome) then u.updCh n (fun c => { c with refAt := none })
    else drivePartner (refForced u n lvl (dtMinpw u n).1 cause) n (!lvl) ⟨u.ticks + 1, u.fine0⟩ (dtMinpw u n).1 cause := rfl

theorem levelForced_ch : (levelForced s n lvl).ch[n] = { s.ch[n] with dec := lvl, swallow := false, closeAt := none, counted := false } := by
  rw [levelForced, State.dropDue_ch, State.updCh_ch, if_pos rfl]

theorem Drives.forceRef : Drives p (fun _ => True) (levelForced s n lvl) (forceRef s n lvl cause) := by
  rw [forceRef_eq]
  refine .ite (.driveTo trivial .refl) (.ite (.updCh trivial (fun _ => rfl) .refl) ?_)
  exact .drivePartner (fun _ _ => trivial) (.driveTo trivial (.updCh trivial (fun _ => rfl) .refl))

theorem drivePartner_ch : (drivePartner s n lvl at' dt cause).ch[n] = s.ch[n] :=
  (Drives.drivePartner (p := fun _ => False) (q := (· ≠ n)) (fun _ => id) .refl).ch_ne n fun h => h rfl

/-- Without a rise that waits and without a dead time to wait for, the output has the forced level. -/
theorem forceRef_out (hr : s.ch[n].riseAt = none) (h : lvl = false ∨ (dtMinpw (levelForced s n lvl) n).1 = 0) :
    (forceRef s n lvl cause).ch[n].out = lvl := by
  rw [forceRef_eq]
  extract_lets u
  have hrise : u.ch[n].riseAt = none := by rw [levelForced_ch, hr]
  split
  · exact driveTo_out fun _ => .inr rfl
  · split
    · next hc =>
      rw [hrise, Option.isSome_none, Bool.or_false, Bool.and_eq_true, beq_iff_eq, beq_iff_eq] at hc
      rw [State.updCh_ch, if_pos rfl]
      exact hc.2
    · rw [drivePartner_ch]
      refine driveTo_out fun hl => .inr (h.resolve_left ?_)
      rw [hl]
      decide

/-- The channel as EN has stopped it, before its output takes IDLE. -/
def chStopped (s : State) (n : Fin 96) : State :=
  ((flushQueue (s.setBt (chOff n CH.CTRL) 0 false) n).updCh n (fun c => { c with run := false, level := c.pin, filt := none, caps := [] })).dropDue
    (fun i => i == .glitchFilterExpiry n || i == .capture n)

theorem chStopped_rd (h : ¬newelReg o) : (chStopped s n).rd o = if o = chOff n CH.CTRL then setBit (s.rd (chOff n CH.CTRL)) 0 false else s.rd o :=
  (flushQueue_rd h).trans (State.setBt_rd ..)

theorem chStopped_own {x : Nat} (h : x < 0x100) (hx : x ≠ CH.CTRL) : (chStopped s n).rd (chOff n x) = s.rd (chOff n x) := by
  rw [chStopped_rd (chOff_not_newelReg h), if_neg (by simpa using hx)]

theorem chStopped_ch : (chStopped s n).ch[n] = { s.ch[n] with aq := [], run := false, level := s.ch[n].pin, filt := none, caps := [] } := by
  rw [chStopped, State.dropDue_ch, State.updCh_ch, if_pos rfl, flushQueue_ch]
  rfl

theorem chStopped_en : chEn (chStopped s n) n = false := by
  rw [chEn, State.bt, chStopped_rd (chOff_not_newelReg (by decide)), if_pos rfl, bit_setBit _ _ _ _ (by decide), if_pos rfl]

/-- A disabled channel's level becomes IDLE. -/
theorem chDisable_eq : chDisable s n = forceRef (chStopped s n) n (s.bt (chOff n CH.OUTCFG) 1) 11 := by
  have h : chDisable s n = forceRef (chStopped s n) n ((chStopped s n).bt (chOff n CH.OUTCFG) 1) 11 := if_neg (Bool.eq_false_iff.mp chStopped_en)
  rw [h, State.bt, chStopped_own (by decide) (by decide)]
  rfl

/-- The dead time depends on the mode of the channel, and on registers that a disable leaves. -/
theorem dtMinpw_congr (hm : cntMode t n = cntMode s n) (hr : ∀ o, o ≠ chOff n CH.CTRL → ¬newelReg o → t.rd o = s.rd o) :
    dtMinpw t n = dtMinpw s n := by
  have hpwm (k : Fin 96) : t.rd (chOff k CH.PWM) = s.rd (chOff k CH.PWM) := by
    refine hr _ ?_ (chOff_not_newelReg (by decide))
    rw [Ne, chOff_eq_chOff (by decide) (by decide)]
    exact fun h => absurd h.2 (by decide)
  have hpg (g : Fin 16) (x : Nat) (hx : x < 0x100) : t.rd (pgOff g x) = s.rd (pgOff g x) := by
    refine hr _ ?_ ?_
    · simp only [pgOff, chOff]
      omega
    · simp only [newelReg, pgOff]
      omega
  have hpartner : partnerOf t n = partnerOf s n := by
    have hp (k : Fin 96) : isPartner t k = isPartner s k := by rw [isPartner, isPartner, State.bt, State.bt, hpwm]
    unfold partnerOf
    cases nextCh n with
    | none => rfl
    | some k =>
      dsimp only
      rw [hp]
  have hfollows : follows t n = follows s n := by
    rw [follows, follows, hm, State.fl, State.fl, hpwm]
  simp only [dtMinpw, hfollows, hpartner, State.fl, hpg _ PG.DT (by decide), hpg _ PG.MINPW (by decide)]

theorem chStopped_dtMinpw : dtMinpw (chStopped s n) n = dtMinpw s n := by
  refine dtMinpw_congr ?_ fun o ho hn => by rw [chStopped_rd hn, if_neg ho]
  have hmode : (chStopped s n).fl (chOff n CH.CTRL) 1 3 = s.fl (chOff n CH.CTRL) 1 3 := by
    rw [State.fl, chStopped_rd (chOff_not_newelReg (by decide)), if_pos rfl, fld_setBit_ne _ _ _ _ _ (by decide)]
    rfl
  unfold cntMode
  rw [hmode]

theorem chDisable_out (hr : s.ch[n].riseAt = none) (h : s.bt (chOff n CH.OUTCFG) 1 = false ∨ (dtMinpw s n).1 = 0) :
    (chDisable s n).ch[n].out = s.bt (chOff n CH.OUTCFG) 1 := by
  rw [chDisable_eq]
  refine forceRef_out ?_ (h.imp id fun hd => ?_)
  · rw [chStopped_ch]
    exact hr
  · rw [← chStopped_dtMinpw] at hd
    exact hd

/-- What `Obligations.ChannelCommands` says of a disable. -/
theorem chDisable_spec : chEn (chDisable s n) n = false ∧ (chDisable s n).ch[n].run = false ∧ (chDisable s n).ch[n].aq = []
    ∧ (chDisable s n).ch[n].filt = none ∧ (chDisable s n).ch[n].caps = [] ∧ (chDisable s n).ch[n].dec = s.bt (chOff n CH.OUTCFG) 1
    ∧ (chDisable s n).rd (chOff n CH.CNT) = s.rd (chOff n CH.CNT) := by
  rw [chDisable_eq]
  have h : Drives (fun _ => False) (fun _ => True) (levelForced (chStopped s n) n (s.bt (chOff n CH.OUTCFG) 1))
    (forceRef (chStopped s n) n (s.bt (chOff n CH.OUTCFG) 1) 11) := .forceRef
  refine ⟨?_, ?_, ?_, ?_, ?_, ?_, ?_⟩
  · rw [chEn, State.bt, h.rd _ id]
    exact chStopped_en
  · rw [h.run, levelForced_ch, chStopped_ch]
  · rw [h.aq, levelForced_ch, chStopped_ch]
  · rw [h.filt, levelForced_ch, chStopped_ch]
  · rw [h.caps, levelForced_ch, chStopped_ch]
  · rw [h.dec, levelForced_ch]
  · rw [h.rd _ id]
    exact chStopped_own (by decide) (by decide)

/-! ### Shadow writes (R66 to R68) -/

variable {r : Shadow} {v : Word}

theorem shadowOffset_range : CH.PERIOD ≤ shadowOffset r ∧ shadowOffset r ≤ CH.CMPFINE := by
  cases r with
  | period => decide
  | cmp k =>
    have := k.isLt
    simp only [shadowOffset, CH.PERIOD, CH.CMPA, CH.CMPFINE]
    omega
  | cmpFine => decide

/-- The shadow, its active register and CHn_EPOCH lie apart from one another and from CHn_CTRL and CHn_PWM. -/
theorem shadowOffset_ne : shadowOffset r + 0x20 ≠ shadowOffset r ∧ CH.EPOCH ≠ shadowOffset r ∧ CH.EPOCH ≠ shadowOffset r + 0x20
    ∧ CH.CTRL ≠ shadowOffset r ∧ CH.PWM ≠ shadowOffset r := by
  have h := shadowOffset_range (r := r)
  simp only [CH.PERIOD, CH.CMPFINE, CH.EPOCH, CH.CTRL, CH.PWM] at *
  omega

/-- From `s` to `t` the shadow has taken the value `v`, and the channel's active register and CHn_EPOCH may have followed. -/
structure ShadowTaken (n : Fin 96) (r : Shadow) (v : Word) (s t : State) : Prop where
  own : t.rd (chOff n (shadowOffset r)) = v
  rd : ∀ o, o < 0x10000 → t.rd o = s.rd o
  rest : { t with regs := s.regs, pg := s.pg } = s

theorem ShadowTaken.written : ShadowTaken n r v s (s.wr (chOff n (shadowOffset r)) v) := by
  refine ⟨by rw [State.wr_rd, if_pos rfl], fun o ho => ?_, rfl⟩
  rw [State.wr_rd, if_neg (by simp only [chOff]; omega)]

theorem ShadowTaken.updPg {g : Fin 16} {f : Pg → Pg} (h : ShadowTaken n r v s t) : ShadowTaken n r v s (t.updPg g f) :=
  ⟨h.own, h.rd, h.rest⟩

theorem ShadowTaken.upd {x : Nat} {f : Word → Word} (hx : x ≠ shadowOffset r) (h : ShadowTaken n r v s t) :
    ShadowTaken n r v s (t.upd (chOff n x) f) := by
  refine ⟨?_, fun o ho => ?_, h.rest⟩
  · rw [State.upd_rd, if_neg (by simpa using hx.symm), h.own]
  · rw [State.upd_rd, if_neg (by simp only [chOff]; omega), h.rd o ho]

/-- Every shadow write takes the value. -/
theorem writeShadow_taken : ShadowTaken n r v s (writeShadow s n r v) := by
  obtain ⟨hact, hep, -, -, -⟩ := shadowOffset_ne (r := r)
  have h0 : ShadowTaken n r v s (s.wr (chOff n (shadowOffset r)) v) := .written
  unfold writeShadow
  extract_lets o u
  split
  · split
    · exact h0
    · extract_lets w
      have hw : ShadowTaken n r v s w := h0.updPg
      split
      · exact .upd hep (.upd (f := fun _ => v) hact hw)
      · exact .upd hep hw
      · exact .upd hep hw
  · split
    · exact .upd hep (.upd (f := fun _ => v) hact h0)
    · exact .upd hep h0
    · exact .upd hep h0

/-- A landed or pending write is pending. -/
theorem epochPending_pend {w : Word} {landed : Bool} : bit (epochPending w landed) 16 = true := by
  have h : bit (setBit w 16 true) 16 = true := by rw [bit_setBit _ _ _ _ (by decide), if_pos rfl]
  cases landed with
  | false => exact h
  | true => exact (bit_setFld_ne _ _ _ _ _ (by decide)).trans h

section
variable (hm : cntMode s n ≠ 4)
include hm

theorem follows_none : follows s n = none := if_neg hm

/-- Outside follow mode the channel's own update mode decides. -/
theorem writeShadow_alone : writeShadow s n r v = match updMode s n with
    | 2 => ((s.wr (chOff n (shadowOffset r)) v).wr (chOff n (shadowOffset r + 0x20)) v).upd (chOff n CH.EPOCH) (fun w => setFld w 8 8 (fld w 0 8))
    | 1 => (s.wr (chOff n (shadowOffset r)) v).upd (chOff n CH.EPOCH) (fun w => epochPending w s.ch[n].loadArm)
    | _ => (s.wr (chOff n (shadowOffset r)) v).upd (chOff n CH.EPOCH) (fun w => epochPending w true) := by
  obtain ⟨-, -, -, hctrl, hpwm⟩ := shadowOffset_ne (r := r)
  have hrd {x : Nat} (hx : x ≠ shadowOffset r) : (s.wr (chOff n (shadowOffset r)) v).rd (chOff n x) = s.rd (chOff n x) := by
    rw [State.wr_rd, if_neg (by simpa using hx)]
  have hf : follows (s.wr (chOff n (shadowOffset r)) v) n = none := (follows_congr (hrd hctrl) (hrd hpwm)).trans (follows_none hm)
  have hu : updMode (s.wr (chOff n (shadowOffset r)) v) n = updMode s n := by
    simp only [updMode, State.fl, hrd hctrl]
  simp only [writeShadow, hf, hu, State.wr_ch] <;> rfl

theorem writeShadow_immediate (h : s.fl (chOff n CH.CTRL) 4 2 = 2) : (writeShadow s n r v).rd (chOff n (shadowOffset r + 0x20)) = v := by
  obtain ⟨-, -, hep, -, -⟩ := shadowOffset_ne (r := r)
  have hu : updMode s n = 2 := by simp only [updMode, h]
  rw [writeShadow_alone hm, hu]
  simp only [State.upd_rd, State.wr_rd, chOff_inj, if_neg hep.symm, if_true]

theorem writeShadow_pending (h : s.fl (chOff n CH.CTRL) 4 2 ≠ 2) :
    (writeShadow s n r v).rd (chOff n (shadowOffset r + 0x20)) = s.rd (chOff n (shadowOffset r + 0x20))
    ∧ (writeShadow s n r v).bt (chOff n CH.EPOCH) 16 = true := by
  obtain ⟨hact, hep, hepa, -, -⟩ := shadowOffset_ne (r := r)
  have hpend (b : Bool) :
      ((s.wr (chOff n (shadowOffset r)) v).upd (chOff n CH.EPOCH) (fun w => epochPending w b)).rd (chOff n (shadowOffset r + 0x20))
        = s.rd (chOff n (shadowOffset r + 0x20))
      ∧ ((s.wr (chOff n (shadowOffset r)) v).upd (chOff n CH.EPOCH) (fun w => epochPending w b)).bt (chOff n CH.EPOCH) 16 = true := by
    refine ⟨?_, ?_⟩
    · simp only [State.upd_rd, State.wr_rd, chOff_inj, if_neg hepa.symm, if_neg hact]
    · rw [State.bt, State.upd_rd, if_pos rfl, epochPending_pend]
  rw [writeShadow_alone hm]
  split
  · next hu =>
    unfold updMode at hu
    split at hu
    · cases hu
    · exact absurd ‹_› h
    · cases hu
  · exact hpend _
  · exact hpend _
end

/-- The bits that a shadow takes (R11). -/
def shadowMask (r : Shadow) : Word := if r = .cmpFine then 0x1F1F1F1F else 0xFFFFFFFF

/-- The state in which a write of a reserved bit is reported. -/
def shadowChecked (s : State) (a : Agent) (n : Fin 96) (r : Shadow) (v : Word) : State :=
  if v &&& ~~~shadowMask r = 0 then s else s.rsvd a (chOff n (shadowOffset r))

theorem shadowWriteBy_eq {a : Agent} : shadowWriteBy s a n r v = writeShadow (shadowChecked s a n r v) n r (v &&& shadowMask r) := rfl

theorem shadowChecked_reports {a : Agent} : Reports raiseReg s (shadowChecked s a n r v) := .ite .refl (raise_reports ..)

/-- A raise that has reached the Banister stays there while the Banister and FLT_PEND stay. -/
theorem raised_congr {k : Nat} (hk : k < 256) (hf : t.flt = s.flt) (hr : ∀ o, o < 0x10000 → t.rd o = s.rd o) (h : Raised s k) : Raised t k := by
  have hp : t.fltPend k = s.fltPend k := by
    simp only [State.fltPend, State.bt]
    rw [hr _ (by simp only [R.FLT_PEND]; omega)]
  rw [Raised, hp, hf]
  exact h

theorem shadowChecked_raised {a : Agent} (h : v &&& 0xE0E0E0E0 ≠ 0) : Raised (shadowChecked s a n .cmpFine v) FS.RSVD_WRITE := by
  have hr : v &&& ~~~shadowMask .cmpFine ≠ 0 := h
  rw [shadowChecked, if_neg hr]
  exact raise_raised _ (by decide) _

theorem mask_word {w : Word} (h : r ≠ .cmpFine) : w &&& shadowMask r = w := by
  rw [shadowMask, if_neg h]
  exact BitVec.and_allOnes

/-- What `Obligations.ChannelCommands` says of a shadow write. -/
theorem shadowWriteBy_spec {a : Agent} : (shadowWriteBy s a n r v).rd (chOff n (shadowOffset r)) = v &&& shadowMask r
    ∧ (shadowWriteBy s a n r v).ch = s.ch
    ∧ (cntMode s n ≠ 4 → s.fl (chOff n CH.CTRL) 4 2 = 2 → (shadowWriteBy s a n r v).rd (chOff n (shadowOffset r + 0x20)) = v &&& shadowMask r)
    ∧ (cntMode s n ≠ 4 → s.fl (chOff n CH.CTRL) 4 2 ≠ 2 →
        (shadowWriteBy s a n r v).rd (chOff n (shadowOffset r + 0x20)) = s.rd (chOff n (shadowOffset r + 0x20))
        ∧ (shadowWriteBy s a n r v).bt (chOff n CH.EPOCH) 16 = true)
    ∧ (r = .cmpFine → v &&& 0xE0E0E0E0 ≠ 0 → Raised (shadowWriteBy s a n r v) FS.RSVD_WRITE) := by
  rw [shadowWriteBy_eq]
  have hc := shadowChecked_reports (s := s) (a := a) (n := n) (r := r) (v := v)
  have ht := writeShadow_taken (s := shadowChecked s a n r v) (n := n) (r := r) (v := v &&& shadowMask r)
  have hfl : (shadowChecked s a n r v).fl (chOff n CH.CTRL) 4 2 = s.fl (chOff n CH.CTRL) 4 2 := by
    rw [State.fl, hc.rd _ chOff_not_raiseReg]
    rfl
  have hmode : cntMode (shadowChecked s a n r v) n = cntMode s n := by
    unfold cntMode State.fl
    rw [hc.rd _ chOff_not_raiseReg]
  rw [← hmode, ← hfl, ← hc.rd _ (chOff_not_raiseReg (n := n) (x := shadowOffset r + 0x20))]
  refine ⟨ht.own, ?_, fun hm hi => writeShadow_immediate hm hi, fun hm hi => writeShadow_pending hm hi, ?_⟩
  · exact (congrArg State.ch ht.rest :).trans hc.ch
  · rintro rfl h
    exact raised_congr (by decide) (congrArg State.flt ht.rest :) ht.rd (shadowChecked_raised h)

/-! ### LOAD (R66 to R68) -/

/-- What `Obligations.ChannelCommands` says of a LOAD in armed mode. -/
theorem chLoadCmd_armed (hm : cntMode s n ≠ 4) (h : s.fl (chOff n CH.CTRL) 4 2 = 1) : (chLoadCmd s n).ch[n].loadArm = true
    ∧ (s.bt (chOff n CH.EPOCH) 16 = true → (chLoadCmd s n).fl (chOff n CH.EPOCH) 8 8 = (s.fl (chOff n CH.EPOCH) 0 8 + 1) % 256) := by
  have hu : updMode s n = 1 := by simp only [updMode, h]
  have he : chLoadCmd s n = (s.updCh n (fun c => { c with loadArm := true })).upd (chOff n CH.EPOCH)
      (fun w => if bit w 16 then setFld w 8 8 (fld w 0 8 + 1) else w) := if_pos (by rw [follows_none hm, hu]; rfl)
  rw [he]
  refine ⟨?_, fun hb => ?_⟩
  · rw [State.upd_ch, State.updCh_ch, if_pos rfl]
  · have hpend : bit (s.rd (chOff n CH.EPOCH)) 16 = true := hb
    rw [State.fl, State.upd_rd, if_pos rfl, State.updCh_rd, if_pos hpend, fld_setFld _ _ _ _ (by decide)]
    rfl
end

/-- Settles O27, a command at a time. -/
theorem channelCommands : Obligations.ChannelCommands := by
  intro s a n r v o w
  have ho : o = shadowOffset r := by
    cases r with
    | period => rfl
    | cmp k => rfl
    | cmpFine => rfl
  have hw : w = v &&& shadowMask r := by
    cases r with
    | period => exact (mask_word (by decide)).symm
    | cmp k => exact (mask_word (by simp)).symm
    | cmpFine => rfl
  refine ⟨?enable, ?disable, ?start, ⟨_, rfl, rfl⟩, ⟨_, rfl, rfl⟩, ?count, ?countFollows, ?shadow, ?load⟩
  case enable =>
    intro h
    have hd := chEnable_drives (s := s) (n := n)
    refine ⟨chEnable s n, congrArg Host.Outcome.next (if_neg (by rw [h]; decide)), ?_, ?_, ?_, ?_, ?_⟩
    · rw [chEn, State.bt, hd.rd _ id]
      exact chEnabled_en
    · rw [hd.run, chEnabled_ch]
    · rw [hd.level, chEnabled_ch]
    · rw [hd.filt, chEnabled_ch]
    · rw [hd.rd _ id, chEnabled, State.updCh_rd, State.setBt_rd, if_neg (by simp)]
  case disable =>
    obtain ⟨hen, hrun, haq, hfilt, hcaps, hdec, hcnt⟩ := chDisable_spec (s := s) (n := n)
    exact ⟨_, rfl, hen, hrun, haq, hfilt, hcaps, hdec, hcnt, fun hr h => chDisable_out hr h⟩
  case start => exact fun h => ⟨_, congrArg Host.Outcome.next (if_pos h), rfl⟩
  case count => exact fun h => ⟨_, congrArg Host.Outcome.next (if_neg h), rfl⟩
  case countFollows => exact fun h => ⟨_, congrArg Host.Outcome.next (if_pos h), rfl⟩
  case shadow =>
    rw [ho, hw]
    exact ⟨_, rfl, shadowWriteBy_spec⟩
  case load => exact fun hm h => ⟨_, rfl, chLoadCmd_armed hm h⟩

end Sys2Proof.Machine

/-!
# Trips, dead time and moved closing changes (O31)
-/

namespace Sys2Proof.Machine

section
variable {s t u : State} {m : Fin 16} {n k : Fin 96} {o b cause : Nat}

/-! ### Raises that have reached the Banister stay there -/

/-- A merge leaves the raises that wait for their records. -/
theorem mergeRaise_waiting (s : State) (r : Raise) : (s.mergeRaise r).flt.raised = s.flt.raised := by
  unfold State.mergeRaise
  extract_lets k st j s1 log first both s2 real s3 s4 s5
  have hboth (v : State) (f : State → Nat → State) (hf : ∀ w o, (f w o).flt.raised = w.flt.raised) :
      (both v f).flt.raised = v.flt.raised := by
    have hif : (if v.bt st 21 then f v log else v).flt.raised = v.flt.raised := by
      split
      · exact hf v log
      · rfl
    unfold both
    extract_lets w
    split
    · exact (hf _ _).trans hif
    · exact hif
  have h2 : s2.flt.raised = s.flt.raised := hboth s1 (fun s o => s.setFl (o + 12) 0 16 j) fun _ _ => rfl
  have h3 : s3.flt.raised = s.flt.raised := (hboth (s2.setBt st 18 true) (fun s o => s.setBt o 11 true) fun _ _ => rfl).trans h2
  have h5 : s5.flt.raised = s.flt.raised := (hboth s4 (fun s o => (s.setBt o 12 true).wr (o + 8) r.detail) fun _ _ => rfl).trans h2
  split
  · split
    · exact (hboth _ (fun s o => s.setBt o 12 true) fun _ _ => rfl).trans h3
    · exact h3
  · split
    · exact h2
    · exact h5

theorem Raised.mergeRaise {j : Nat} (hj : j < 256) (r : Raise) (h : Raised s j) : Raised (s.mergeRaise r) j := by
  rw [Raised, (mergeRaise_reports s r).fltPend hj, mergeRaise_waiting]
  exact h

/-- Setting PEND of a source keeps that of every other. -/
theorem Raised.setFltPend {i j : Nat} (h : Raised s j) : Raised (s.setFltPend i true) j := by
  refine h.imp (fun hp => ?_) id
  rw [State.fltPend, State.bt, State.setFltPend, State.setBt_rd]
  split
  · next hr =>
    rw [bit_setBit _ _ _ _ (Nat.mod_lt _ (by decide)), ← hr]
    split
    · rfl
    · exact hp
  · exact hp

theorem Raised.raiseWith {j : Nat} (hj : j < 256) (r : Raise) (h : Raised s j) : Raised (s.raiseWith r) j := by
  unfold State.raiseWith
  extract_lets i flt s1
  have h1 : Raised s1 j := h.imp id fun ⟨x, hx, he⟩ => ⟨x, List.mem_append_left _ hx, he⟩
  split
  · exact h.mergeRaise hj r
  · split
    · exact h.setFltPend.mergeRaise hj r
    · split
      · exact h1
      · exact h1

theorem Raised.raiseLevel {i j : Nat} {d : Word} (hi : i < 256) (hj : j < 256) (h : Raised s j) : Raised (s.raiseLevel i d) j := by
  unfold State.raiseLevel
  split
  · exact h
  · refine Raised.raiseWith hj _ (h.imp (fun hp => ?_) id)
    rw [State.fltPend, State.bt, State.setBt_rd, if_neg (by simp only [R.FLT_PEND, fsrcStat, R.FSRC_STAT]; omega)]
    exact hp

/-! ### A trip is asserted (R107, R108) -/

/-- An event of a group sets its bit, and can send a service request. -/
theorem pgEvent_dates : Dates (s.setEv (pgOff m PG.EVT) b) (pgEvent s m b) := .onIf .after

theorem pgEvent_rd : (pgEvent s m b).rd o = if o = pgOff m PG.EVT then setBit (s.rd (pgOff m PG.EVT)) b true else s.rd o := by
  rw [pgEvent_dates.rd, State.setEv_rd]

theorem pgEvent_bt {i : Nat} (hb : b < 32) : (pgEvent s m b).bt (pgOff m PG.EVT) i = (decide (i = b) || s.bt (pgOff m PG.EVT) i) := by
  rw [State.bt, pgEvent_rd, if_pos rfl, bit_setBit _ _ _ _ hb]
  split
  · next h => rw [decide_eq_true h, Bool.true_or]
  · next h =>
    rw [decide_eq_false h, Bool.false_or]
    rfl

theorem pgEvent_pg : (pgEvent s m b).pg = s.pg := (congrArg State.pg pgEvent_dates.rest :)

theorem pgOff_not_raiseReg {x : Nat} : ¬raiseReg (pgOff m x) := by
  simp only [raiseReg, recordReg, pgOff]
  omega

@[simp] theorem pgOff_inj {x y : Nat} : pgOff m x = pgOff m y ↔ x = y := by simp [pgOff]

/-- The state in which EVT.TRIP shows the trip, with NOTICE PG_TRIP when it was 0. -/
def tripShown (s : State) (m : Fin 16) : State :=
  if s.bt (pgOff m PG.EVT) 4 then pgEvent s m 4 else (pgEvent s m 4).raise FS.PG_TRIP (w32 m.val)

/-- … and in which the present period is counted. -/
def tripTotalled (s : State) (m : Fin 16) : State :=
  if (tripShown s m).pg[m].tripTot then tripShown s m
  else ((tripShown s m).satFl (pgOff m PG.TRIPSTAT) 16 16).upd (R.LIFE_TRIP + 4 * m.val) (fun w => w32 (satInc 0xFFFFFFFF w.toNat))

/-- … and the group is tripped. -/
def tripTaken (s : State) (m : Fin 16) : State :=
  (tripTotalled s m).updPg m (fun g => { g with tripped := true, tripNow := true, tripTot := true, assertAt := (tripTotalled s m).now })

/-- Whether the trip latches the group off. -/
def tripLatches (s : State) (m : Fin 16) : Bool :=
  (tripTaken s m).fl (pgOff m PG.TRIP) 16 8 != 0 && !(tripTaken s m).pg[m].latched
    && (tripTaken s m).fl (pgOff m PG.TRIP) 16 8 ≤ tripCount (tripTaken s m) m

/-- The state in which it is latched off. -/
def latchedOff (s : State) (m : Fin 16) : State :=
  (pgEvent ((tripTaken s m).updPg m (fun g => { g with latched := true })) m 5).raiseLevel (FS.PG_LATCHOFF + m.val) (w32 m.val)

/-- The state of the trip, before its members follow at their pins. -/
def tripLatched (s : State) (m : Fin 16) : State := if tripLatches s m then latchedOff s m else tripTaken s m

theorem tripFire_eq : tripFire s m = padMembers (tripLatched s m) m 8 := rfl

theorem latchoff_lt : FS.PG_LATCHOFF + m.val < 256 := by
  have := m.isLt
  simp only [FS.PG_LATCHOFF]
  omega

theorem tripShown_reports : Reports raiseReg (pgEvent s m 4) (tripShown s m) := .ite .refl (raise_reports ..)

theorem latchedOff_reports : Reports raiseReg (pgEvent ((tripTaken s m).updPg m (fun g => { g with latched := true })) m 5) (latchedOff s m) :=
  raiseLevel_reports latchoff_lt _

theorem tripShown_pg : (tripShown s m).pg = s.pg := tripShown_reports.pg.trans pgEvent_pg

theorem tripTotalled_pg : (tripTotalled s m).pg = s.pg := by
  unfold tripTotalled
  split
  · exact tripShown_pg
  · exact tripShown_pg

theorem tripTaken_pg : ∃ x, (tripTaken s m).pg[m] = { s.pg[m] with tripped := true, tripNow := true, tripTot := true, assertAt := x } := by
  refine ⟨(tripTotalled s m).now, ?_⟩
  rw [tripTaken, State.updPg_pg, if_pos rfl, tripTotalled_pg]

theorem latchedOff_pg : (latchedOff s m).pg[m] = { (tripTaken s m).pg[m] with latched := true } := by
  rw [latchedOff_reports.pg, pgEvent_pg, State.updPg_pg, if_pos rfl]

theorem tripLatched_pg : (tripLatched s m).pg[m].tripped = true ∧ (tripLatched s m).pg[m].tripIn = s.pg[m].tripIn
    ∧ (tripLatched s m).pg[m].latched = (tripLatches s m || s.pg[m].latched) := by
  obtain ⟨x, hx⟩ := tripTaken_pg (s := s) (m := m)
  cases hl : tripLatches s m with
  | true =>
    have he : tripLatched s m = latchedOff s m := if_pos hl
    rw [he, latchedOff_pg, hx]
    exact ⟨rfl, rfl, rfl⟩
  | false =>
    have he : tripLatched s m = tripTaken s m := if_neg (by rw [hl]; decide)
    rw [he, hx]
    exact ⟨rfl, rfl, rfl⟩

/-- What stands apart from the events and the totals of trips, and from the records, is not written. -/
theorem tripTaken_rd (hr : ¬raiseReg o) (he : o ≠ pgOff m PG.EVT) (hs : o ≠ pgOff m PG.TRIPSTAT) (hl : o ≠ R.LIFE_TRIP + 4 * m.val) :
    (tripTaken s m).rd o = s.rd o := by
  have h1 : (tripShown s m).rd o = s.rd o := by rw [tripShown_reports.rd _ hr, pgEvent_rd, if_neg he]
  rw [tripTaken, State.updPg_rd, tripTotalled]
  split
  · exact h1
  · rw [State.upd_rd, if_neg hl, State.satFl_rd, if_neg hs, h1]

theorem tripLatched_rd_taken (hr : ¬raiseReg o) (he : o ≠ pgOff m PG.EVT) : (tripLatched s m).rd o = (tripTaken s m).rd o := by
  unfold tripLatched
  split
  · rw [latchedOff_reports.rd _ hr, pgEvent_rd, if_neg he, State.updPg_rd]
  · rfl

theorem lifeTrip_ne {x : Nat} : pgOff m x ≠ R.LIFE_TRIP + 4 * m.val := by
  have := m.isLt
  simp only [pgOff, R.LIFE_TRIP]
  omega

theorem tripLatches_iff : tripLatches s m = true ↔ s.fl (pgOff m PG.TRIP) 16 8 ≠ 0 ∧ s.pg[m].latched = false
    ∧ s.fl (pgOff m PG.TRIP) 16 8 ≤ (s.pg[m].tripHist.take (max 1 (s.fl (pgOff m PG.TRIP) 24 8) - 1)).countP id + 1 := by
  obtain ⟨x, hx⟩ := tripTaken_pg (s := s) (m := m)
  have hr : (tripTaken s m).rd (pgOff m PG.TRIP) = s.rd (pgOff m PG.TRIP) :=
    tripTaken_rd pgOff_not_raiseReg (by simp) (by simp) lifeTrip_ne
  have hfl (lo len : Nat) : (tripTaken s m).fl (pgOff m PG.TRIP) lo len = s.fl (pgOff m PG.TRIP) lo len := by
    rw [State.fl, hr]
    rfl
  rw [tripLatches, tripCount, hfl, hfl, hx, Bool.and_eq_true, Bool.and_eq_true, bne_iff_ne, Bool.not_eq_true', decide_eq_true_eq, and_assoc]
  rfl

/-- EVT keeps the trip, and shows the latch-off. -/
theorem tripLatched_events : (tripLatched s m).bt (pgOff m PG.EVT) 4 = true
    ∧ (tripLatches s m = true → (tripLatched s m).bt (pgOff m PG.EVT) 5 = true) := by
  have h0 : (tripShown s m).bt (pgOff m PG.EVT) 4 = true := by
    rw [State.bt, tripShown_reports.rd _ pgOff_not_raiseReg]
    exact (pgEvent_bt (by decide)).trans (Bool.true_or _)
  have h4 : (tripTaken s m).bt (pgOff m PG.EVT) 4 = true := by
    rw [tripTaken, State.updPg_bt, tripTotalled]
    split
    · exact h0
    · rw [State.bt, State.upd_rd, if_neg lifeTrip_ne, State.satFl_rd, if_neg (by simp)]
      exact h0
  have hoff (i : Nat) : (latchedOff s m).bt (pgOff m PG.EVT) i = (decide (i = 5) || (tripTaken s m).bt (pgOff m PG.EVT) i) := by
    rw [State.bt, latchedOff_reports.rd _ pgOff_not_raiseReg]
    exact pgEvent_bt (by decide)
  unfold tripLatched
  split
  · rw [hoff, hoff, h4]
    exact ⟨rfl, fun _ => rfl⟩
  · exact ⟨h4, fun h => absurd h ‹_›⟩

/-- TOTAL counts a period's first trip, saturating. -/
theorem tripLatched_total : (tripLatched s m).fl (pgOff m PG.TRIPSTAT) 16 16 =
    if s.pg[m].tripTot then s.fl (pgOff m PG.TRIPSTAT) 16 16 else min 65535 (s.fl (pgOff m PG.TRIPSTAT) 16 16 + 1) := by
  have h1 : (tripShown s m).fl (pgOff m PG.TRIPSTAT) 16 16 = s.fl (pgOff m PG.TRIPSTAT) 16 16 := by
    rw [State.fl, tripShown_reports.rd _ pgOff_not_raiseReg, pgEvent_rd, if_neg (by simp)]
    rfl
  rw [State.fl, tripLatched_rd_taken pgOff_not_raiseReg (by simp), tripTaken, State.updPg_rd, tripTotalled, tripShown_pg]
  split
  · exact h1
  · rw [State.upd_rd, if_neg lifeTrip_ne, ← h1]
    exact satFl_fl (by decide)

/-- The notice of a first trip has been raised. -/
theorem tripLatched_raised (h : s.bt (pgOff m PG.EVT) 4 = false) : Raised (tripLatched s m) FS.PG_TRIP := by
  have h1 : Raised (tripShown s m) FS.PG_TRIP := by
    rw [tripShown, if_neg (by rw [h]; decide)]
    exact raise_raised _ (by decide) _
  have h2 : Raised (tripTaken s m) FS.PG_TRIP := by
    have htot : Raised (tripTotalled s m) FS.PG_TRIP := by
      unfold tripTotalled
      split
      · exact h1
      · refine h1.imp (fun hp => ?_) id
        have hpend : R.FLT_PEND + 4 * (FS.PG_TRIP / 32) ≠ R.LIFE_TRIP + 4 * m.val := by
          simp only [R.FLT_PEND, R.LIFE_TRIP, FS.PG_TRIP]
          omega
        have hstat : R.FLT_PEND + 4 * (FS.PG_TRIP / 32) ≠ pgOff m PG.TRIPSTAT := by
          simp only [R.FLT_PEND, pgOff, FS.PG_TRIP]
          omega
        rw [State.fltPend, State.bt, State.upd_rd, if_neg hpend, State.satFl_rd, if_neg hstat]
        exact hp
    exact htot
  unfold tripLatched
  split
  · refine Raised.raiseLevel latchoff_lt (by decide) (h2.imp (fun hp => ?_) fun hw => ?_)
    · have hne : R.FLT_PEND + 4 * (FS.PG_TRIP / 32) ≠ pgOff m PG.EVT := by
        simp only [R.FLT_PEND, pgOff, FS.PG_TRIP]
        omega
      rw [State.fltPend, State.bt, pgEvent_rd, if_neg hne]
      exact hp
    · rw [pgEvent_dates.rest]
      exact hw
  · exact h2

/-! ### The members at their pins (R82) -/

/-- The pin of channel `k` as a forced state drives it. -/
def SafeAt (s : State) (k : Fin 96) (c : Chan) : Prop :=
  c.padDrv = decide (s.fl (chOff k CH.PWM) 8 2 ≠ 2) ∧ (s.fl (chOff k CH.PWM) 8 2 ≠ 2 → c.padLvl = decide (s.fl (chOff k CH.PWM) 8 2 = 1))

/-- A pin that a trip holds takes the safe state that CHn_PWM names. -/
theorem updPad_safe {fine dt : Nat} (hf : follows s k = some m) (ht : s.pg[m].tripped = true) :
    SafeAt s k (updPad s k cause fine dt).ch[k] := by
  have hforced : chForced s k = true := by simp only [chForced, hf, ht, Bool.true_or]
  obtain ⟨x, y, hc⟩ := updPad_ch (s := s) (n := k) (cause := cause) (fine := fine) (dt := dt)
  rw [hc, SafeAt]
  simp only [padOf, hforced, if_true]
  split
  · next h => rw [h]; decide
  · next h => rw [h]; simp
  · next h1 h2 =>
    have h1' : ¬s.fl (chOff k CH.PWM) 8 2 = 1 := h1
    have h2' : s.fl (chOff k CH.PWM) 8 2 ≠ 2 := h2
    exact ⟨(decide_eq_true h2').symm, fun _ => (decide_eq_false h1').symm⟩

theorem padMembers_drives : Drives (fun _ => False) (fun _ => True) s (padMembers s m cause) :=
  List.foldlRecOn _ _ .refl fun _ hu _ _ => .updPad trivial hu

/-- Each member is forced in its turn, and stays so. -/
theorem padMembers_safe (hf : follows s k = some m) (ht : s.pg[m].tripped = true) : SafeAt s k (padMembers s m cause).ch[k] := by
  have hmem : k ∈ members s m := by
    rw [members, List.mem_filter]
    exact ⟨List.mem_finRange k, by rw [hf, beq_self_eq_true]⟩
  obtain ⟨l1, l2, hl⟩ := List.append_of_mem hmem
  have hsafe {v : State} (hv : Drives (fun _ => False) (fun _ => True) s v) : SafeAt s k (updPad v k cause v.fine0 0).ch[k] := by
    have h := updPad_safe (s := v) (k := k) (m := m) (cause := cause) (fine := v.fine0) (dt := 0) ((hv.follows id id).trans hf) (by rw [hv.pg, ht])
    rwa [SafeAt, State.fl, hv.rd _ id] at h
  rw [padMembers, eachMember, hl, List.foldl_append, List.foldl_cons]
  generalize hv : l1.foldl (fun s n => updPad s n cause s.fine0 0) s = v
  have hv' : Drives (fun _ => False) (fun _ => True) s v := by
    rw [← hv]
    exact List.foldlRecOn _ _ .refl fun _ hu _ _ => .updPad trivial hu
  refine (List.foldlRecOn (motive := fun w => Drives (fun _ => False) (fun _ => True) s w ∧ SafeAt s k w.ch[k]) _ _
    ⟨.updPad trivial hv', hsafe hv'⟩ fun w hw c _ => ⟨.updPad trivial hw.1, ?_⟩).2
  by_cases hc : c = k
  · rw [hc]
    exact hsafe hw.1
  · rw [updPad_ch_ne (Ne.symm hc)]
    exact hw.2

/-- What `Obligations.TripsAndOutputs` says of a trip that is asserted. -/
theorem tripFire_spec : (tripFire s m).pg[m].tripIn = s.pg[m].tripIn ∧ (tripFire s m).pg[m].tripped = true
    ∧ (tripFire s m).bt (pgOff m PG.EVT) 4 = true ∧ (s.bt (pgOff m PG.EVT) 4 = false → Raised (tripFire s m) FS.PG_TRIP)
    ∧ (tripFire s m).fl (pgOff m PG.TRIPSTAT) 16 16 =
        (if s.pg[m].tripTot then s.fl (pgOff m PG.TRIPSTAT) 16 16 else min 65535 (s.fl (pgOff m PG.TRIPSTAT) 16 16 + 1))
    ∧ (tripFire s m).pg[m].latched = (tripLatches s m || s.pg[m].latched)
    ∧ (tripLatches s m = true → (tripFire s m).bt (pgOff m PG.EVT) 5 = true ∧ (tripFire s m).bt (fsrcStat (FS.PG_LATCHOFF + m.val)) 17 = true)
    ∧ ∀ k, follows s k = some m → SafeAt s k (tripFire s m).ch[k] := by
  have hd : Drives (fun _ => False) (fun _ => True) (tripLatched s m) (tripFire s m) := by
    rw [tripFire_eq]
    exact padMembers_drives
  obtain ⟨htripped, hin, hlatched⟩ := tripLatched_pg (s := s) (m := m)
  obtain ⟨h4, h5⟩ := tripLatched_events (s := s) (m := m)
  have hrd (o : Nat) : (tripFire s m).rd o = (tripLatched s m).rd o := hd.rd o id
  have hbt (o i : Nat) : (tripFire s m).bt o i = (tripLatched s m).bt o i := by rw [State.bt, hrd]; rfl
  have hch {c : Fin 96} {x : Nat} (hx : x < 0x100) : (tripLatched s m).rd (chOff c x) = s.rd (chOff c x) := by
    have he (y : Nat) (hy : y < 0x100) : chOff c x ≠ pgOff m y := by
      simp only [chOff, pgOff]
      omega
    have hl : chOff c x ≠ R.LIFE_TRIP + 4 * m.val := by
      simp only [chOff, R.LIFE_TRIP]
      omega
    rw [tripLatched_rd_taken chOff_not_raiseReg (he _ (by decide)), tripTaken_rd chOff_not_raiseReg (he _ (by decide)) (he _ (by decide)) hl]
  rw [hd.pg, hbt, hbt]
  refine ⟨hin, htripped, h4, fun h => ?_, ?_, hlatched, fun h => ⟨h5 h, ?_⟩, fun k hk => ?_⟩
  · exact raised_congr (by decide) (congrArg State.flt hd.rest :) (fun o _ => hrd o) (tripLatched_raised h)
  · rw [State.fl, hrd]
    exact tripLatched_total
  · rw [hbt, tripLatched, if_pos h]
    exact raiseLevel_active latchoff_lt _
  · have hs : SafeAt (tripLatched s m) k (tripFire s m).ch[k] :=
      padMembers_safe ((follows_congr (hch (by decide)) (hch (by decide))).trans hk) htripped
    rwa [SafeAt, State.fl, hch (by decide)] at hs

/-! ### A moved closing change (R102) -/

theorem State.updCh_updCh {f g : Chan → Chan} : (s.updCh n f).updCh n g = s.updCh n (fun c => g (f c)) := by
  simp [State.updCh]

variable {lvl : Bool} {at' p : Placement} {dt : Nat}

/-- An output that moves keeps of its channel what is neither its level nor its pin. -/
theorem driveTo_keeps {α : Type} (g : Chan → α)
    (hg : ∀ c o r d l a e, g { c with out := o, riseAt := r, padDrv := d, padLvl := l, padAt := a, edgeAt := e } = g c) :
    g (driveTo s n lvl at' dt cause).ch[n] = g s.ch[n] := by
  have hpad {v : State} {c fine d : Nat} : g (updPad v n c fine d).ch[n] = g v.ch[n] := by
    obtain ⟨x, y, hc⟩ := updPad_ch (s := v) (n := n) (cause := c) (fine := fine) (dt := d)
    rw [hc]
    exact hg ..
  have hupd {v : State} {o : Bool} {r : Option Placement} : g (v.updCh n (fun c => { c with out := o, riseAt := r })).ch[n] = g v.ch[n] := by
    rw [State.updCh_ch, if_pos rfl]
    exact hg ..
  unfold driveTo
  cases lvl with
  | true =>
    rw [if_pos rfl]
    split
    · rfl
    · split
      · rw [hpad, hupd]
      · exact hupd
  | false =>
    rw [if_neg (by decide)]
    extract_lets v w
    have hv : g v.ch[n] = g s.ch[n] := by
      unfold v
      split
      · split
        · rw [hpad, State.updCh_ch, if_pos rfl]
          exact hg ..
        · rfl
      · rfl
    rw [hpad, State.dropDue_ch, hupd, hv]

/-- The channel whose moved close falls, as its next stretch starts. -/
def closeFallen (s : State) (n : Fin 96) : State := s.updCh n (fun c => { c with closeAt := none, dec := !s.ch[n].refLvl })

theorem closeFallen_ch : (closeFallen s n).ch[n] = { s.ch[n] with closeAt := none, dec := !s.ch[n].refLvl } :=
  (State.updCh_ch ..).trans (if_pos rfl)

/-- The state in which that stretch has started, at level `lvl` and placement `p`. -/
def closeReopened (s : State) (n : Fin 96) (lvl : Bool) (p : Placement) : State := openStretch (closeFallen s n) n lvl p 7 true none

theorem execStretchClose_next (h : s.ch[n].closeAt = some p) :
    execStretchClose n s = .next (closeReopened s n (!s.ch[n].refLvl) p) := by
  have hfall : (s.updCh n (fun c => { c with dec := !c.refLvl })).updCh n (fun c => { c with closeAt := none }) = closeFallen s n := by
    rw [State.updCh_updCh]
    rfl
  have href : (s.updCh n (fun c => { c with dec := !c.refLvl })).ch[n].refLvl = s.ch[n].refLvl := by
    rw [State.updCh_ch, if_pos rfl]
  unfold execStretchClose
  rw [h]
  simp only [closeMoved, hfall, href, closeReopened]

theorem setRef_ch : (setRef s n lvl at' cause).ch[n].dec = s.ch[n].dec ∧ (setRef s n lvl at' cause).ch[n].refLvl = lvl
    ∧ (setRef s n lvl at' cause).ch[n].refAt = some at' ∧ (setRef s n lvl at' cause).ch[n].closeAt = s.ch[n].closeAt := by
  rw [setRef_eq, drivePartner_ch]
  generalize hu : s.updCh n (fun c => { c with refLvl := lvl, refAt := some at' }) = u
  have hch : u.ch[n] = { s.ch[n] with refLvl := lvl, refAt := some at' } := by rw [← hu, State.updCh_ch, if_pos rfl]
  refine ⟨?_, ?_, ?_, ?_⟩
  · rw [driveTo_keeps Chan.dec fun _ _ _ _ _ _ _ => rfl, hch]
  · rw [driveTo_keeps Chan.refLvl fun _ _ _ _ _ _ _ => rfl, hch]
  · rw [driveTo_keeps Chan.refAt fun _ _ _ _ _ _ _ => rfl, hch]
  · rw [driveTo_keeps Chan.closeAt fun _ _ _ _ _ _ _ => rfl, hch]

theorem stretchOpened_ch : (stretchOpened s n).ch[n] = { s.ch[n] with counted := false } := (State.updCh_ch ..).trans (if_pos rfl)

/-- What `Obligations.TripsAndOutputs` says of a moved close behind which no short stretch is foreseen. -/
theorem closeFallen_plain (h : foreseeLen (stretchOpened (closeFallen s n) n) n lvl p.fine = none) :
    (closeReopened s n lvl p).ch[n].dec = (!s.ch[n].refLvl) ∧ (closeReopened s n lvl p).ch[n].refLvl = lvl
    ∧ (closeReopened s n lvl p).ch[n].refAt = some p ∧ (closeReopened s n lvl p).ch[n].closeAt = none := by
  have hshort : opensShort (closeFallen s n) n lvl p true none = false := by simp only [opensShort, h, Bool.and_false]
  rw [closeReopened, openStretch_eq, if_pos (by rw [hshort]; rfl)]
  obtain ⟨hdec, href, hat, hclose⟩ := setRef_ch (s := stretchOpened (closeFallen s n) n) (n := n) (lvl := lvl) (at' := p) (cause := 7)
  rw [hdec, href, hat, hclose, stretchOpened_ch, closeFallen_ch]
  exact ⟨rfl, rfl, rfl, rfl⟩

/-- … and behind which a short one is foreseen and swallowed. -/
theorem closeFallen_swallows {r : Nat} (h : foreseeLen (stretchOpened (closeFallen s n) n) n lvl p.fine = some r)
    (hs : isShort r (dtMinpw s n).1 (dtMinpw s n).2 = true) (hp : minPolicy s n (dtMinpw s n).1 = 0) :
    (closeReopened s n lvl p).ch[n].dec = (!s.ch[n].refLvl) ∧ (closeReopened s n lvl p).ch[n].swallow = true
    ∧ (closeReopened s n lvl p).ch[n].refLvl = s.ch[n].refLvl ∧ (closeReopened s n lvl p).ch[n].out = s.ch[n].out
    ∧ (closeReopened s n lvl p).fl (chOff n CH.SHORTCNT) 0 8 = min 255 (s.fl (chOff n CH.SHORTCNT) 0 8 + 1) := by
  have hdt : dtMinpw (closeFallen s n) n = dtMinpw s n := rfl
  have hpol : minPolicy (stretchOpened (closeFallen s n) n) n (dtMinpw (closeFallen s n) n).1 = 0 := hp
  have hshort : opensShort (closeFallen s n) n lvl p true none = true := by simp only [opensShort, h, hdt, hs, Bool.and_true]
  rw [closeReopened, openStretch_eq, if_neg (by rw [hshort]; decide), if_pos hpol]
  have hcount : (shortCounted (closeFallen s n) n).ch[n] = { (closeFallen s n).ch[n] with counted := true } := by
    rw [shortCounted, countShort, State.satFl_ch, State.updCh_ch, if_pos rfl, stretchOpened_ch]
  have hfl : (shortCounted (closeFallen s n) n).fl (chOff n CH.SHORTCNT) 0 8 = min 255 (s.fl (chOff n CH.SHORTCNT) 0 8 + 1) := by
    rw [shortCounted, hpol]
    exact satFl_fl (by decide)
  rw [State.updCh_ch, if_pos rfl, hcount, closeFallen_ch]
  exact ⟨rfl, rfl, rfl, rfl, hfl⟩
end

/-- Settles O31: a trip is shown, counted, taken and latched before its members follow at their pins; a close that falls opens the next stretch. -/
theorem tripsAndOutputs : Obligations.TripsAndOutputs := by
  intro s a m n cnt lim
  refine ⟨?trip, ⟨_, rfl, rfl⟩, ⟨_, rfl, rfl⟩, ?kept, ?clears, ?rises, ?closes⟩
  case trip =>
    obtain ⟨hin, htripped, h4, hraised, htotal, hlatched, hoff, hsafe⟩ := tripFire_spec (s := s.updPg m (fun g => { g with tripIn := true })) (m := m)
    have hpg : (s.updPg m (fun g => { g with tripIn := true })).pg[m] = { s.pg[m] with tripIn := true } := by
      rw [State.updPg_pg, if_pos rfl]
    have hiff := tripLatches_iff (s := s.updPg m (fun g => { g with tripIn := true })) (m := m)
    rw [hpg] at hin htotal hlatched hiff
    refine ⟨_, rfl, hin, htripped, h4, hraised, htotal, fun h0 hl => ?_, fun h0 hl hlat => hoff (hiff.mpr ⟨h0, hlat, hl⟩), hsafe⟩
    rw [hlatched]
    cases hlat : s.pg[m].latched with
    | true => exact Bool.or_true _
    | false => rw [hiff.mpr ⟨h0, hlat, hl⟩, Bool.true_or]
  case kept =>
    intro h
    refine ⟨_, congrArg Host.Outcome.next (if_pos ?_), rfl⟩
    rwa [Bool.or_eq_true, beq_iff_eq]
  case clears =>
    intro hin hf
    refine ⟨_, congrArg Host.Outcome.next (if_neg ?_), rfl⟩
    rw [hin, Bool.false_or, beq_iff_eq]
    exact hf
  case rises =>
    intro p h
    have he : execDeadTimeExpiry n s = .next (updPad (s.updCh n (fun c => { c with out := true, riseAt := none })) n 6 p.fine 0) := by
      unfold execDeadTimeExpiry
      rw [h]
    obtain ⟨x, y, hc⟩ := updPad_ch (s := s.updCh n (fun c => { c with out := true, riseAt := none })) (n := n) (cause := 6) (fine := p.fine) (dt := 0)
    refine ⟨_, he, ?_, ?_, updPad_regs, ?_, fun k hk => ?_⟩
    · rw [hc, State.updCh_ch, if_pos rfl]
    · rw [hc, State.updCh_ch, if_pos rfl]
    · rw [hc]
    · rw [updPad_ch_ne hk, State.updCh_ch, if_neg hk]
  case closes =>
    intro p h s'
    exact ⟨fun hf => ⟨_, execStretchClose_next h, closeFallen_plain hf⟩,
      fun r hf hs hp => ⟨_, execStretchClose_next h, closeFallen_swallows hf hs hp⟩⟩

end Sys2Proof.Machine

/-!
# Angle events: the offers of a Newel (O35)
-/

namespace Sys2Proof.Machine

section
variable {s t u : State} {n : Fin 4} {j k : Fin 512} {c : Fin 96} {o b i x y : Nat} {e : SlotOffer}

/-! ### The registers of a slot (R145) -/

theorem evOff_eq (hx : x < 0x10) (hy : y < 0x10) : evOff n j x = evOff n k y ↔ j = k ∧ x = y := by
  simp only [evOff, Fin.ext_iff]
  omega

theorem evOff_ne_nwlOff (hy : y < 0x400) : evOff n k x ≠ nwlOff n y := by
  simp only [evOff, nwlOff]
  omega

theorem evOff_not_raiseReg : ¬raiseReg (evOff n k x) := by
  simp only [raiseReg, recordReg, evOff]
  omega

theorem nwlOff_not_raiseReg : ¬raiseReg (nwlOff n x) := by
  simp only [raiseReg, recordReg, nwlOff]
  omega

theorem slotState_congr (h : t.rd (evOff n k EV.ANG) = s.rd (evOff n k EV.ANG)) : slotState t n k = slotState s n k := by
  rw [slotState, State.fl, h]
  rfl

theorem slotLive_congr (h : t.rd (evOff n k EV.CFG) = s.rd (evOff n k EV.CFG)) : slotLive t n k = slotLive s n k := by
  rw [slotLive, h]
  rfl

theorem slotState_set : slotState (setSlotState s n k x) n k = x % 8 := by
  rw [slotState, State.fl, setSlotState, State.setFl_rd, if_pos rfl, fld_setFld _ _ _ _ (by decide)]
  rfl

theorem setSlotState_rd (h : o ≠ evOff n k EV.ANG) : (setSlotState s n k x).rd o = s.rd o := by
  rw [setSlotState, State.setFl_rd, if_neg h]

theorem setSlotState_ch : (setSlotState s n k x).ch = s.ch := rfl

/-! ### Events of a Newel's scheduler (R157) -/

theorem Reports.of_dates {p : Nat → Prop} (h : Dates s t) : Reports p s t := by
  refine ⟨fun o _ => congrFun h.rd o, ?_⟩
  rw [h.rest]
  rfl

theorem evEvent_reports : Reports raiseReg (s.setEv (nwlOff n NWL.EVEVT) b) (evEvent s n k b) := by
  unfold evEvent
  extract_lets o was s1 s2
  have h2 : Reports raiseReg s1 s2 := .ite (raise_reports ..) .refl
  exact .ite (h2.trans (.of_dates .after)) h2

theorem evEvent_rd (h : ¬raiseReg o) :
    (evEvent s n k b).rd o = if o = nwlOff n NWL.EVEVT then setBit (s.rd (nwlOff n NWL.EVEVT)) b true else s.rd o := by
  rw [evEvent_reports.rd o h, State.setEv_rd]

theorem evEvent_event (hb : b < 32) : (evEvent s n k b).bt (nwlOff n NWL.EVEVT) b = true := by
  rw [State.bt, evEvent_rd nwlOff_not_raiseReg, if_pos rfl, bit_setBit _ _ _ _ hb, if_pos rfl]

theorem evEvent_slot : (evEvent s n j b).rd (evOff n k x) = s.rd (evOff n k x) := by
  rw [evEvent_rd evOff_not_raiseReg, if_neg (evOff_ne_nwlOff (by decide))]

theorem evEvent_nwl : (evEvent s n k b).nwl = s.nwl := evEvent_reports.nwl
theorem evEvent_ch : (evEvent s n k b).ch = s.ch := evEvent_reports.ch

theorem evEvent_own (hx : x < 0x100) : (evEvent s n k b).rd (chOff c x) = s.rd (chOff c x) := by
  rw [evEvent_rd chOff_not_raiseReg, if_neg (by simp only [chOff, nwlOff, NWL.EVEVT]; omega)]

/-! ### An offer that is made (R75, R147, R153) -/

/-- The Newel has made an offer in this tick. -/
def offerStamped (s : State) (n : Fin 4) : State := s.updNwl n (fun w => { w with offerAt := s.now })

/-- The entry of an offer stands in the queue of the channel of its slot. -/
def offerEntered (s : State) (n : Fin 4) (e : SlotOffer) : State :=
  (offerStamped s n).updCh (slotCh s n e.slot) (fun c => { c with aq := aqInsert s.near (offerEntry s n e) c.aq })

/-- An accepted offer: its slot stands for its instance, and waits for no other offer. -/
def offerPlaced (s : State) (n : Fin 4) (e : SlotOffer) : State :=
  (setInst (setSlotState s n e.slot (if e.frz then 3 else 2)) n e.slot e.inst).updNwl n
    (fun w => { w with reofferQ := w.reofferQ.filter (fun x => x.slot != e.slot) })

/-- … and a late one sets EVEVT.LATE. -/
def offerTaken (s : State) (n : Fin 4) (e : SlotOffer) : State :=
  if e.late then evEvent (offerPlaced s n e) n e.slot 1 else offerPlaced s n e

/-- A refused offer sets EVEVT.REFUSED. -/
def offerDenied (s : State) (n : Fin 4) (e : SlotOffer) : State := evEvent (setSlotState s n e.slot 1) n e.slot 4

/-- A refused offer that is to be made again. -/
def offerKept (s : State) (n : Fin 4) (e : SlotOffer) : State :=
  (offerDenied s n e).updNwl n (fun w => { w with reofferQ := w.reofferQ.filter (fun x => x.slot != e.slot) ++ [e] })

/-- What the Newel does with the answer of the queue of channel `ch`. -/
def offerAnswered (n : Fin 4) (e : SlotOffer) (ch : Fin 96) : State × OfferResult → State
  | (u, .accepted) => offerTaken u n e
  | (u, .absorbed) => u
  | (u, .refused) =>
    if !e.cancel then offerKept u n e
    else if chEn (offerDenied u n e) ch then (offerDenied u n e).updNwl n (fun w => { w with cancelQ := w.cancelQ ++ [e] })
    else countDrop (completeSlot (offerDenied u n e) n e.slot e.inst 3) n

theorem offerEntered_ch : (offerEntered s n e).ch[c] = if c = slotCh s n e.slot then
    { s.ch[slotCh s n e.slot] with aq := aqInsert s.near (offerEntry s n e) s.ch[slotCh s n e.slot].aq } else s.ch[c] := by
  rw [offerEntered, State.updCh_ch]
  rfl

theorem offerEntered_nwl : (offerEntered s n e).nwl[n] = { s.nwl[n] with offerAt := s.now } := by
  rw [offerEntered, State.updCh_nwl, offerStamped, State.updNwl_nwl, if_pos rfl]

theorem offerPlaced_nwl : (offerPlaced s n e).nwl[n] =
    { s.nwl[n] with insts := Store.set (fun _ => 0) s.nwl[n].insts e.slot.val e.inst,
                    reofferQ := s.nwl[n].reofferQ.filter (fun x => x.slot != e.slot) } := by
  rw [offerPlaced, State.updNwl_nwl, if_pos rfl, setInst, State.updNwl_nwl, if_pos rfl]
  rfl

theorem offerPlaced_state : slotState (offerPlaced s n e) n e.slot = if e.frz then 3 else 2 := by
  have h : (if e.frz then 3 else 2) % 8 = if e.frz then 3 else 2 := by
    cases e.frz with
    | true => rfl
    | false => rfl
  calc slotState (offerPlaced s n e) n e.slot
    _ = slotState (setSlotState s n e.slot (if e.frz then 3 else 2)) n e.slot := slotState_congr rfl
    _ = _ := slotState_set.trans h

theorem offerTaken_ch : (offerTaken s n e).ch = s.ch := by
  unfold offerTaken
  split
  · exact evEvent_ch
  · rfl

theorem offerTaken_nwl : (offerTaken s n e).nwl = (offerPlaced s n e).nwl := by
  unfold offerTaken
  split
  · exact evEvent_nwl
  · rfl

theorem offerTaken_state : slotState (offerTaken s n e) n e.slot = if e.frz then 3 else 2 := by
  rw [← offerPlaced_state (s := s) (n := n)]
  refine slotState_congr ?_
  unfold offerTaken
  split
  · exact evEvent_slot
  · rfl

theorem offerTaken_late (h : e.late = true) : (offerTaken s n e).bt (nwlOff n NWL.EVEVT) 1 = true := by
  rw [offerTaken, if_pos h]
  exact evEvent_event (by decide)

/-- An offer of a completed instance is not made (R146). -/
theorem makeOffer_done (h : slotDone s n e.slot e.inst = true) : makeOffer s n e = s := if_pos (by rw [h, Bool.or_true])

/-- The queue of the slot's channel has room for the entry of an ARMED slot. -/
structure SlotFree (s : State) (n : Fin 4) (k : Fin 512) : Prop where
  live : slotLive s n k = true
  armed : slotState s n k = 1
  enabled : chEn s (slotCh s n k) = true
  unfired : s.ch[slotCh s n k].firedAt ≠ s.now
  room : s.ch[slotCh s n k].aq.length < 8
  unnamed : ∀ x ∈ s.ch[slotCh s n k].aq, ¬(x.tagv = true ∧ x.origin = .newel n ∧ x.tag = k.val)

theorem SlotFree.updNwl {f : Nwl → Nwl} (h : SlotFree s n k) : SlotFree (s.updNwl n f) n k :=
  ⟨h.live, h.armed, h.enabled, h.unfired, h.room, h.unnamed⟩

/-- From `s` to `t` the offer `e` has gone into its queue. -/
structure OfferQueued (s : State) (n : Fin 4) (e : SlotOffer) (t : State) : Prop where
  aq : t.ch[slotCh s n e.slot].aq = aqInsert s.near (offerEntry s n e) s.ch[slotCh s n e.slot].aq
  state : slotState t n e.slot = if e.frz then 3 else 2
  offerAt : t.nwl[n].offerAt = s.now
  inst : slotInst t n e.slot = e.inst
  others : ∀ c, c ≠ slotCh s n e.slot → t.ch[c] = s.ch[c]
  conv : t.nwl[n].conv = s.nwl[n].conv
  lateQ : t.nwl[n].lateQ = s.nwl[n].lateQ
  reofferQ : t.nwl[n].reofferQ = s.nwl[n].reofferQ.filter (fun x => x.slot != e.slot)
  late : e.late = true → t.bt (nwlOff n NWL.EVEVT) 1 = true

theorem offerTaken_queued : OfferQueued s n e (offerTaken (offerEntered s n e) n e) := by
  have hnwl : (offerTaken (offerEntered s n e) n e).nwl[n] = (offerPlaced (offerEntered s n e) n e).nwl[n] := by rw [offerTaken_nwl]
  rw [offerPlaced_nwl, offerEntered_nwl] at hnwl
  refine ⟨?_, offerTaken_state, ?_, ?_, fun c hc => ?_, ?_, ?_, ?_, offerTaken_late⟩
  · rw [offerTaken_ch, offerEntered_ch, if_pos rfl]
  · rw [hnwl]
  · rw [slotInst, hnwl]
    exact (Store.get_set ..).trans (if_pos rfl)
  · rw [offerTaken_ch, offerEntered_ch, if_neg hc]
  · rw [hnwl]
  · rw [hnwl]
  · rw [hnwl]

/-- The offer of an open instance of an ARMED slot goes to the queue of the slot's channel. -/
theorem makeOffer_armed (hl : slotLive s n e.slot = true) (hs : slotState s n e.slot = 1) (hd : slotDone s n e.slot e.inst = false) :
    makeOffer s n e = offerAnswered n e (slotCh s n e.slot) (aqOfferEntry (offerStamped s n) (slotCh s n e.slot) (offerEntry s n e)) := by
  have hwd : (if slotState (offerStamped s n) n e.slot == 2 && entryCh (offerStamped s n) n e.slot != some (slotCh s n e.slot) then
      withdraw (offerStamped s n) n e.slot else offerStamped s n) = offerStamped s n := by
    refine if_neg ?_
    rw [show slotState (offerStamped s n) n e.slot = 1 from hs]
    simp
  refine (if_neg (by rw [hl, hs, hd]; decide)).trans ?_
  exact congrArg (fun u => offerAnswered n e (slotCh s n e.slot) (aqOfferEntry u (slotCh s n e.slot) (offerEntry u n e))) hwd

/-- A queue with room accepts it. -/
theorem makeOffer_queued (h : SlotFree s n e.slot) (hd : slotDone s n e.slot e.inst = false) : OfferQueued s n e (makeOffer s n e) := by
  have hact : (offerEntry s n e).act < 10 := by
    have hl := h.live
    simp only [slotLive, Bool.and_eq_true, decide_eq_true_eq] at hl
    exact hl.2
  have habs : ¬Absorbed (offerStamped s n) (slotCh s n e.slot) (offerEntry s n e) := fun ha => h.unfired ha.2.1
  have hnamed : ¬Named (offerStamped s n) (slotCh s n e.slot) (offerEntry s n e) := by
    rintro ⟨-, ha⟩
    obtain ⟨x, hx, hname⟩ := List.any_eq_true.mp ha
    simp only [AqEntry.isNamedBy, Bool.and_eq_true, beq_iff_eq, and_assoc] at hname
    exact h.unnamed x hx hname
  have hq : aqOfferEntry (offerStamped s n) (slotCh s n e.slot) (offerEntry s n e) = (offerEntered s n e, .accepted) :=
    aqOfferEntry_enters (s := offerStamped s n) h.enabled hact habs hnamed h.room
  rw [makeOffer_armed h.live h.armed hd, hq]
  exact offerTaken_queued

/-- A refusal that has been raised stays with the Newel's bookkeeping. -/
theorem Raised.offerKept (h : Raised s FS.AQ_REFUSED) : Raised (offerKept s n e) FS.AQ_REFUSED := by
  have hd : Dates ((setSlotState s n e.slot 1).setEv (nwlOff n NWL.EVEVT) 4) (offerDenied s n e) := evEvent_dates (by decide)
  have hp : (Machine.offerKept s n e).fltPend FS.AQ_REFUSED = s.fltPend FS.AQ_REFUSED := by
    refine congrArg (bit · _) ((congrFun hd.rd _).trans ?_)
    rw [State.setEv_rd, if_neg (by simp only [R.FLT_PEND, nwlOff, FS.AQ_REFUSED, NWL.EVEVT]; omega),
      setSlotState_rd (by simp only [R.FLT_PEND, evOff, FS.AQ_REFUSED, EV.ANG]; omega)]
  have hf : (Machine.offerKept s n e).flt = s.flt := (congrArg State.flt hd.rest :)
  rw [Raised, hp, hf]
  exact h

/-- What a refused offer leaves. -/
structure OfferRefused (s : State) (n : Fin 4) (e : SlotOffer) (t : State) : Prop where
  state : slotState t n e.slot = 1
  waits : e ∈ t.nwl[n].reofferQ
  event : t.bt (nwlOff n NWL.EVEVT) 4 = true
  aqref : t.bt (chOff (slotCh s n e.slot) CH.EVT) 9 = true
  notice : Raised t FS.AQ_REFUSED
  ch : t.ch = s.ch

/-- A disabled channel refuses it. -/
theorem makeOffer_refused (hl : slotLive s n e.slot = true) (hs : slotState s n e.slot = 1) (hd : slotDone s n e.slot e.inst = false)
    (he : chEn s (slotCh s n e.slot) = false) (hc : e.cancel = false) : OfferRefused s n e (makeOffer s n e) := by
  obtain ⟨hch, hevent, hraised⟩ := aqRefuse_spec (s := offerStamped s n) (n := slotCh s n e.slot)
  have hq : aqOfferEntry (offerStamped s n) (slotCh s n e.slot) (offerEntry s n e) = (aqRefuse (offerStamped s n) (slotCh s n e.slot), .refused) :=
    aqOfferEntry_barred (s := offerStamped s n) (.inl he)
  have hm : makeOffer s n e = offerKept (aqRefuse (offerStamped s n) (slotCh s n e.slot)) n e := by
    rw [makeOffer_armed hl hs hd, hq]
    exact if_pos (by rw [hc]; rfl)
  rw [hm]
  refine ⟨(slotState_congr evEvent_slot).trans slotState_set, ?_, evEvent_event (by decide), ?_, hraised.offerKept, evEvent_ch.trans hch⟩
  · rw [offerKept, State.updNwl_nwl, if_pos rfl]
    exact List.mem_append_right _ (List.mem_singleton_self e)
  · refine (congrArg (bit · 9) (evEvent_own (by decide))).trans ?_
    rw [setSlotState_rd (by simp only [chOff, evOff, CH.EVT]; omega)]
    exact hevent
end

end Sys2Proof.Machine

/-!
# Angle events: drops, withdrawals and the passes of a tooth (O35)
-/

namespace Sys2Proof.Machine

section
variable {s t u : State} {n : Fin 4} {j k : Fin 512} {c : Fin 96} {o i x y last tgt : Nat} {e : SlotOffer} {f : Nwl → Nwl}

/-! ### What an operation on a slot changes of the slots -/

/-- From `s` to `t`, of the registers of the slots of Newel `n` only those of slot `k` have changed, and of these not CFG. -/
def TouchesSlot (n : Fin 4) (k : Fin 512) (s t : State) : Prop :=
  ∀ (j : Fin 512) (x : Nat), x < 0x10 → (j = k → x = EV.CFG) → t.rd (evOff n j x) = s.rd (evOff n j x)

theorem TouchesSlot.live (h : TouchesSlot n k s t) : slotLive t n j = slotLive s n j := slotLive_congr (h j _ (by decide) fun _ => rfl)

theorem TouchesSlot.state_ne (h : TouchesSlot n k s t) (hj : j ≠ k) : slotState t n j = slotState s n j :=
  slotState_congr (h j _ (by decide) fun e => absurd e hj)

theorem TouchesSlot.trans (h : TouchesSlot n k s t) (g : TouchesSlot n k t u) : TouchesSlot n k s u :=
  fun j x hx hj => (g j x hx hj).trans (h j x hx hj)

/-! ### A withdrawal (R151) -/

/-- The unfrozen entry of a slot leaves its queue. -/
def entryGone (s : State) (n : Fin 4) (k : Fin 512) : State :=
  match entryCh s n k with
  | some c => s.updCh c (fun x => { x with aq := x.aq.filter (fun e => !(e.origin == .newel n && e.tag == k.val && !e.frz)) })
  | none => s

theorem entryGone_rd : (entryGone s n k).rd o = s.rd o := by
  unfold entryGone
  split
  · rfl
  · rfl

theorem entryGone_nwl : (entryGone s n k).nwl = s.nwl := by
  unfold entryGone
  split
  · rfl
  · rfl

/-- The state that a slot waits in. -/
def slotRest (s : State) (n : Fin 4) (k : Fin 512) : Nat := if slotLive s n k then 1 else 0

theorem slotRest_lt : slotRest s n k < 2 := by
  unfold slotRest
  split
  · decide
  · decide

theorem withdraw_eq : withdraw s n k = if slotState s n k = 2 then setSlotState (entryGone s n k) n k (slotRest s n k) else s := by
  have h : slotLive (entryGone s n k) n k = slotLive s n k := slotLive_congr entryGone_rd
  unfold slotRest
  rw [← h]
  rfl

theorem withdraw_unqueued (h : slotState s n k ≠ 2) : withdraw s n k = s := if_neg h

theorem withdraw_touches : TouchesSlot n k s (withdraw s n k) := by
  intro j x hx hj
  rw [withdraw_eq]
  split
  · rw [setSlotState_rd, entryGone_rd]
    rw [Ne, evOff_eq hx (by decide)]
    rintro ⟨rfl, rfl⟩
    exact absurd (hj rfl) (by decide)
  · rfl

theorem withdraw_nwl : (withdraw s n k).nwl = s.nwl := by
  rw [withdraw_eq]
  split
  · exact entryGone_nwl
  · rfl

theorem withdraw_state : slotState (withdraw s n k) n k = if slotState s n k = 2 then slotRest s n k else slotState s n k := by
  rw [withdraw_eq]
  split
  · exact slotState_set.trans (Nat.mod_eq_of_lt (by have := slotRest_lt (s := s) (n := n) (k := k); omega))
  · rfl

/-- The slots withdrawn one after another. -/
def withdrawn (s : State) (n : Fin 4) (l : List (Fin 512)) : State := l.foldl (fun s k => withdraw s n k) s

theorem withdrawn_nwl {l : List (Fin 512)} : (withdrawn s n l).nwl = s.nwl := by
  induction l generalizing s with
  | nil => rfl
  | cons j l ih => exact ih.trans withdraw_nwl

theorem withdrawn_state {l : List (Fin 512)} :
    slotState (withdrawn s n l) n k = if k ∈ l ∧ slotState s n k = 2 then slotRest s n k else slotState s n k := by
  induction l generalizing s with
  | nil => simp [withdrawn]
  | cons j l ih =>
    have hrest : slotRest (withdraw s n j) n k = slotRest s n k := by rw [slotRest, withdraw_touches.live, slotRest]
    refine (ih (s := withdraw s n j)).trans ?_
    rw [hrest]
    by_cases hj : k = j
    · subst hj
      have hlt := slotRest_lt (s := s) (n := n) (k := k)
      rw [withdraw_state]
      by_cases h2 : slotState s n k = 2
      · rw [if_pos h2, if_neg (by omega), if_pos ⟨List.mem_cons_self, h2⟩]
      · simp only [h2, if_false, and_false]
    · simp only [withdraw_touches.state_ne hj, List.mem_cons, hj, false_or]

/-! ### A completion and a drop (R146, R157) -/

/-- DONECYC and LAST show a completed instance. -/
def instDone (s : State) (n : Fin 4) (k : Fin 512) (i last : Nat) : State :=
  (s.setFl (evOff n k EV.LATE) 22 8 i).setFl (evOff n k EV.ANG) 25 2 last

/-- A Newel without the offers of a completed instance. -/
def Nwl.pruned (w : Nwl) (k : Fin 512) (i : Nat) : Nwl :=
  { w with reofferQ := w.reofferQ.filter (fun o => o.slot != k), lateQ := w.lateQ.filter (fun o => o.slot != k || o.inst != i),
           conv := w.conv.filter (fun o => o.slot != k || o.inst != i) }

theorem completeSlot_eq : completeSlot s n k i last =
    setSlotState ((instDone s n k i last).updNwl n (fun w => w.pruned k i)) n k (slotRest ((instDone s n k i last).updNwl n (fun w => w.pruned k i)) n k) :=
  rfl

theorem evOff_ne (hx : x < 0x10) (hy : y < 0x10) (h : x ≠ y) : evOff n k x ≠ evOff n k y := by
  rw [Ne, evOff_eq hx hy]
  exact fun e => h e.2

theorem instDone_rd : (instDone s n k i last).rd o =
    if o = evOff n k EV.ANG then setFld (s.rd (evOff n k EV.ANG)) 25 2 last
    else if o = evOff n k EV.LATE then setFld (s.rd (evOff n k EV.LATE)) 22 8 i else s.rd o := by
  rw [instDone, State.setFl_rd, State.setFl_rd, State.setFl_rd, if_neg (evOff_ne (by decide) (by decide) (by decide))]

theorem completeSlot_rd : (completeSlot s n k i last).rd o =
    if o = evOff n k EV.ANG then setFld (setFld (s.rd (evOff n k EV.ANG)) 25 2 last) 22 3 (slotRest s n k)
    else if o = evOff n k EV.LATE then setFld (s.rd (evOff n k EV.LATE)) 22 8 i else s.rd o := by
  have hrest : slotRest ((instDone s n k i last).updNwl n (fun w => w.pruned k i)) n k = slotRest s n k := by
    have hl : slotLive ((instDone s n k i last).updNwl n (fun w => w.pruned k i)) n k = slotLive s n k := by
      refine slotLive_congr ?_
      rw [State.updNwl_rd, instDone_rd, if_neg (evOff_ne (by decide) (by decide) (by decide)),
        if_neg (evOff_ne (by decide) (by decide) (by decide))]
    rw [slotRest, hl, slotRest]
  rw [completeSlot_eq, hrest, setSlotState, State.setFl_rd, State.updNwl_rd, State.updNwl_rd, instDone_rd (o := evOff n k EV.ANG), if_pos rfl,
    instDone_rd]
  split
  · rfl
  · rfl

theorem completeSlot_nwl : (completeSlot s n k i last).nwl[n] = s.nwl[n].pruned k i := by
  rw [completeSlot_eq, setSlotState, State.setFl_nwl, State.updNwl_nwl, if_pos rfl]
  rfl

theorem completeSlot_ch : (completeSlot s n k i last).ch = s.ch := rfl

theorem completeSlot_touches : TouchesSlot n k s (completeSlot s n k i last) := by
  intro j x hx hj
  have hne (y : Nat) (hy : y < 0x10) (hcfg : EV.CFG ≠ y) : evOff n j x ≠ evOff n k y := by
    rw [Ne, evOff_eq hx hy]
    rintro ⟨rfl, rfl⟩
    exact hcfg (hj rfl).symm
  rw [completeSlot_rd, if_neg (hne _ (by decide) (by decide)), if_neg (hne _ (by decide) (by decide))]

/-- Slot `k` has completed instance `i` and waits in state `r`. -/
structure SlotCompleted (n : Fin 4) (k : Fin 512) (r i last : Nat) (t : State) : Prop where
  state : slotState t n k = r
  done : t.fl (evOff n k EV.LATE) 22 8 = i
  last : t.fl (evOff n k EV.ANG) 25 2 = last

theorem SlotCompleted.congr {r : Nat} (h : SlotCompleted n k r i last s) (ha : t.rd (evOff n k EV.ANG) = s.rd (evOff n k EV.ANG))
    (hl : t.rd (evOff n k EV.LATE) = s.rd (evOff n k EV.LATE)) : SlotCompleted n k r i last t :=
  ⟨(slotState_congr ha).trans h.state, (congrArg (fld · 22 8) hl).trans h.done, (congrArg (fld · 25 2) ha).trans h.last⟩

theorem completeSlot_completed : SlotCompleted n k (slotRest s n k) (i % 256) (last % 4) (completeSlot s n k i last) := by
  have hlt := slotRest_lt (s := s) (n := n) (k := k)
  refine ⟨?_, ?_, ?_⟩
  · rw [slotState, State.fl, completeSlot_rd, if_pos rfl, fld_setFld _ _ _ _ (by decide), Nat.mod_eq_of_lt (by omega)]
  · rw [State.fl, completeSlot_rd, if_neg (evOff_ne (by decide) (by decide) (by decide)), if_pos rfl, fld_setFld _ _ _ _ (by decide)]
    rfl
  · rw [State.fl, completeSlot_rd, if_pos rfl, fld_setFld_ne _ _ _ _ _ _ (by decide), fld_setFld _ _ _ _ (by decide)]
    rfl

/-- The state in which the drop of a slot is counted and shown. -/
def dropShown (s : State) (n : Fin 4) (k : Fin 512) (i : Nat) : State := evEvent (countDrop (completeSlot (withdraw s n k) n k i 3) n) n k 2

theorem countDrop_ch : (countDrop s n).ch = s.ch := rfl
theorem countDrop_nwl : (countDrop s n).nwl = s.nwl := rfl

theorem dropSlot_eq : ∃ g, dropSlot s n k i tgt = (dropShown s n k i).offer 0 g := ⟨_, rfl⟩

theorem dropSlot_rd : (dropSlot s n k i tgt).rd o = (dropShown s n k i).rd o := by
  obtain ⟨g, h⟩ := dropSlot_eq (s := s) (n := n) (k := k) (i := i) (tgt := tgt)
  rw [h]
  rfl

theorem dropSlot_ch : (dropSlot s n k i tgt).ch = (withdraw s n k).ch := by
  obtain ⟨g, h⟩ := dropSlot_eq (s := s) (n := n) (k := k) (i := i) (tgt := tgt)
  rw [h, State.offer_ch, dropShown, evEvent_ch, countDrop_ch, completeSlot_ch]

theorem dropSlot_slot : (dropSlot s n k i tgt).rd (evOff n j x) = (completeSlot (withdraw s n k) n k i 3).rd (evOff n j x) := by
  rw [dropSlot_rd, dropShown, evEvent_slot, countDrop, State.satFl, State.note_rd, if_neg (evOff_ne_nwlOff (by decide))]

theorem dropSlot_touches : TouchesSlot n k s (dropSlot s n k i tgt) :=
  fun j x hx hj => dropSlot_slot.trans ((withdraw_touches.trans completeSlot_touches) j x hx hj)

theorem dropSlot_completed : SlotCompleted n k (slotRest s n k) (i % 256) 3 (dropSlot s n k i tgt) := by
  have h : slotRest (withdraw s n k) n k = slotRest s n k := by rw [slotRest, withdraw_touches.live, slotRest]
  rw [← h]
  exact (completeSlot_completed (s := withdraw s n k) (last := 3)).congr dropSlot_slot dropSlot_slot

theorem dropSlot_event : (dropSlot s n k i tgt).bt (nwlOff n NWL.EVEVT) 2 = true := by
  rw [State.bt, dropSlot_rd]
  exact evEvent_event (by decide)

theorem dropSlot_reofferQ : (dropSlot s n k i tgt).nwl[n].reofferQ = s.nwl[n].reofferQ.filter (fun x => x.slot != k) := by
  obtain ⟨g, h⟩ := dropSlot_eq (s := s) (n := n) (k := k) (i := i) (tgt := tgt)
  rw [h, State.offer_nwl, dropShown, evEvent_nwl, countDrop_nwl, completeSlot_nwl, withdraw_nwl, Nwl.pruned]

end
end Sys2Proof.Machine

/-!
# Angle events: the late pass, the hold angle and the offers that are made again (O35)
-/

namespace Sys2Proof.Machine

section
variable {s t u : State} {n : Fin 4} {j k : Fin 512} {c : Fin 96} {o i x : Nat} {e : SlotOffer}

/-! ### The late pass (R147, R148) -/

theorem mem_insertBy {α : Type} {f : α → Nat} {x y : α} {l : List α} : y ∈ insertBy f x l ↔ y = x ∨ y ∈ l := by
  induction l with
  | nil => simp [insertBy]
  | cons z l ih =>
    unfold insertBy
    split
    · exact List.mem_cons
    · rw [List.mem_cons, ih, List.mem_cons]
      exact or_left_comm

theorem mem_sortBy {α : Type} {f : α → Nat} {y : α} {l : List α} : y ∈ sortBy f l ↔ y ∈ l := by
  have h (acc : List α) : y ∈ l.foldl (fun acc x => insertBy f x acc) acc ↔ y ∈ l ∨ y ∈ acc := by
    induction l generalizing acc with
    | nil => simp
    | cons z l ih => rw [List.foldl_cons, ih, mem_insertBy, List.mem_cons, or_assoc, or_left_comm]
  exact (h []).trans (or_iff_left List.not_mem_nil)

/-- Whether the late pass lines up the offer of a passed slot. -/
def slotGoes (s : State) (n : Fin 4) (k : Fin 512) : Bool :=
  !s.nwl[n].reofferQ.any (fun o => o.slot == k) && slotBehind s n k ≤ slotLatemax s n k

/-- The offer of a passed slot. -/
def lateOffer (s : State) (n : Fin 4) (k : Fin 512) : SlotOffer :=
  { slot := k, tgt := crossing s n (slotBehind s n k), inst := instPassed s n (slotAng s n k), frz := false, late := true, cancel := false }

/-- The offers that a late pass lines up. -/
def lateOffers (s : State) (n : Fin 4) : List SlotOffer :=
  (sortBy (fun k => nwlC s n - slotBehind s n k) (((slotsOn s n).filter (passedNow s n)).filter (slotGoes s n))).map (lateOffer s n)

/-- The offers that it drops. -/
def lateDrops (s : State) (n : Fin 4) : List SlotOffer :=
  (((slotsOn s n).filter (passedNow s n)).filter (fun k => !slotGoes s n k)).map (lateOffer s n)

/-- Offers dropped one after another. -/
def allDropped (s : State) (n : Fin 4) (l : List SlotOffer) : State := l.foldl (fun s o => dropSlot s n o.slot o.inst o.tgt) s

theorem execLatePass_on (h : schedOn s n = true) :
    ∃ u, Dates (allDropped s n (lateDrops s n)) u ∧ execLatePass n s = .next (u.updNwl n (fun w => { w with lateQ := lateOffers s n })) :=
  ⟨_, .foldl (fun _ _ => .after) _, if_neg (by rw [h]; decide)⟩

theorem mem_lateOffers : e ∈ lateOffers s n ↔ ∃ k ∈ slotsOn s n, passedNow s n k = true ∧ slotGoes s n k = true ∧ lateOffer s n k = e := by
  simp only [lateOffers, List.mem_map, mem_sortBy, List.mem_filter, and_assoc]

theorem mem_lateDrops : e ∈ lateDrops s n ↔ ∃ k ∈ slotsOn s n, passedNow s n k = true ∧ slotGoes s n k = false ∧ lateOffer s n k = e := by
  simp only [lateDrops, List.mem_map, List.mem_filter, and_assoc, Bool.not_eq_true']

theorem slotGoes_iff : slotGoes s n k = true ↔ (¬∃ o ∈ s.nwl[n].reofferQ, o.slot = k) ∧ slotBehind s n k ≤ slotLatemax s n k := by
  simp [slotGoes]

theorem passedNow_live (h : passedNow s n k = true) : slotLive s n k = true := by
  simp only [passedNow, Bool.and_eq_true] at h
  exact h.1.1.1

theorem allDropped_live {l : List SlotOffer} : slotLive (allDropped s n l) n k = slotLive s n k := by
  induction l generalizing s with
  | nil => rfl
  | cons o l ih => exact ih.trans dropSlot_touches.live

theorem allDropped_rest {l : List SlotOffer} : slotRest (allDropped s n l) n k = slotRest s n k := by
  rw [slotRest, allDropped_live, slotRest]

theorem allDropped_concat {l : List SlotOffer} :
    allDropped s n (l ++ [e]) = dropSlot (allDropped s n l) n e.slot e.inst e.tgt := List.foldl_concat ..

/-- A drop shows EVEVT.DROP. -/
theorem allDropped_event {l : List SlotOffer} (h : l ≠ []) : (allDropped s n l).bt (nwlOff n NWL.EVEVT) 2 = true := by
  obtain ⟨l, e, rfl⟩ := (List.eq_nil_or_concat l).resolve_left h
  rw [List.concat_eq_append, allDropped_concat]
  exact dropSlot_event

/-- A slot whose instance `i` is dropped has completed it. -/
theorem allDropped_completed {l : List SlotOffer} (hi : ∀ o ∈ l, o.slot = k → o.inst = i) (hk : ∃ o ∈ l, o.slot = k) :
    SlotCompleted n k (slotRest s n k) (i % 256) 3 (allDropped s n l) := by
  induction l using List.reverseRecOn with
  | nil =>
    obtain ⟨o, ho, -⟩ := hk
    exact absurd ho List.not_mem_nil
  | append_singleton l o ih =>
    rw [allDropped_concat]
    by_cases ho : o.slot = k
    · subst ho
      rw [← hi o (List.mem_append_right _ (List.mem_singleton_self o)) rfl, ← allDropped_rest (l := l)]
      exact dropSlot_completed
    · have hk' : ∃ x ∈ l, x.slot = k := by
        obtain ⟨x, hx, hxk⟩ := hk
        obtain hx | hx := List.mem_append.mp hx
        · exact ⟨x, hx, hxk⟩
        · rw [List.mem_singleton.mp hx] at hxk
          exact absurd hxk ho
      have hne (x : Nat) : k = o.slot → x = EV.CFG := fun e => absurd e.symm ho
      exact (ih (fun x hx => hi x (List.mem_append_left _ hx)) hk').congr (dropSlot_touches k _ (by decide) (hne _))
        (dropSlot_touches k _ (by decide) (hne _))

/-! ### The hold angle (R150) -/

/-- The hold angle has been reached. -/
def holdMarked (s : State) (n : Fin 4) : State := s.updNwl n (fun w => { w with heldDone := true })

theorem holdMarked_nwl : (holdMarked s n).nwl[n] = { s.nwl[n] with heldDone := true } := by
  rw [holdMarked, State.updNwl_nwl, if_pos rfl]

theorem holdMarked_nwlC : nwlC (holdMarked s n) n = nwlC s n := by
  unfold nwlC
  rw [holdMarked_nwl]
  rfl

theorem holdMarked_advLim : advLim (holdMarked s n) n = advLim s n := by
  unfold advLim
  rw [holdMarked_nwl]

theorem holdMarked_slotAng : slotAng (holdMarked s n) n k = slotAng s n k := by
  unfold slotAng
  rw [holdMarked_nwlC]
  rfl

theorem holdMarked_slotAhead : slotAhead (holdMarked s n) n k = slotAhead s n k := by
  unfold slotAhead
  rw [holdMarked_nwlC, holdMarked_slotAng, holdMarked_nwl]

theorem holdMarked_encAngle : encAngle (holdMarked s n) n x = encAngle s n x := by
  unfold encAngle
  rw [holdMarked_nwlC]
  rfl

theorem holdMarked_encAngleAt : encAngleAt (holdMarked s n) n x = encAngleAt s n x := by
  unfold encAngleAt
  simp only [holdMarked_nwlC, holdMarked_encAngle, holdMarked_nwl]
  rfl

theorem holdMarked_angleAt : angleAt (holdMarked s n) n x = angleAt s n x := by
  unfold angleAt
  rw [holdMarked_nwlC, holdMarked_advLim, holdMarked_nwl]
  rfl

theorem holdMarked_angleNow : angleNow (holdMarked s n) n = angleNow s n := by
  unfold angleNow angleOf
  rw [holdMarked_nwlC, holdMarked_encAngleAt, holdMarked_angleAt, holdMarked_nwl]
  rfl

theorem holdMarked_refAngle : refAngle (holdMarked s n) n = refAngle s n := by
  unfold refAngle
  rw [holdMarked_angleNow, holdMarked_nwl]

theorem holdMarked_instGone {a : Nat} : instGone (holdMarked s n) n a i = instGone s n a i := by
  unfold instGone
  rw [holdMarked_refAngle, holdMarked_nwl]

theorem holdMarked_schedOn : schedOn (holdMarked s n) n = schedOn s n := by
  unfold schedOn
  rw [holdMarked_nwl]
  rfl

theorem holdMarked_slotInst : slotInst (holdMarked s n) n k = slotInst s n k := by
  unfold slotInst
  rw [holdMarked_nwl]

/-- The slots whose entries the hold angle withdraws. -/
def heldSlots (s : State) (n : Fin 4) : List (Fin 512) :=
  (List.finRange 512).filter fun k =>
    slotState s n k == 2 && decide (advLim s n < slotAhead s n k) && !instGone s n (slotAng s n k) (slotInst s n k)

theorem mem_heldSlots : k ∈ heldSlots s n ↔
    slotState s n k = 2 ∧ advLim s n < slotAhead s n k ∧ instGone s n (slotAng s n k) (slotInst s n k) = false := by
  simp [heldSlots, and_assoc]

theorem heldSlots_marked : heldSlots (holdMarked s n) n = heldSlots s n := by
  unfold heldSlots
  rw [holdMarked_advLim]
  simp only [holdMarked_slotAhead, holdMarked_slotAng, holdMarked_instGone, holdMarked_slotInst]
  rfl

/-- An angle commit beyond the hold angle waits again. -/
def commitHeld (n : Fin 4) (lim c : Nat) (s : State) (t : Fin 8) : State :=
  if angleCommit s n t && decide (lim < fwd c s.nwl[n].toothang (s.txn[t].at' % c)) then s.updTxn t (fun x => { x with tgt := none }) else s

theorem commitHeld_foldl {lim c : Nat} {l : List (Fin 8)} : ∃ x, l.foldl (commitHeld n lim c) s = { s with txn := x } := by
  induction l generalizing s with
  | nil => exact ⟨_, rfl⟩
  | cons t l ih =>
    obtain ⟨x, hx⟩ := ih (s := commitHeld n lim c s t)
    refine ⟨x, hx.trans ?_⟩
    unfold commitHeld
    split
    · rfl
    · rfl

theorem execHoldAngleReached_on (hr : holdReached s n = true) (hs : schedOn s n = true) : ∃ x,
    execHoldAngleReached n s = .next (if (heldSlots s n).isEmpty then withdrawn { holdMarked s n with txn := x } n (heldSlots s n)
      else evEvent (withdrawn { holdMarked s n with txn := x } n (heldSlots s n)) n 0 3) := by
  obtain ⟨x, hx⟩ := commitHeld_foldl (s := holdMarked s n) (n := n) (lim := advLim (holdMarked s n) n) (c := nwlC (holdMarked s n) n)
    (l := List.finRange 8)
  refine ⟨x, ?_⟩
  rw [← hx, ← heldSlots_marked]
  have hon : ¬(!schedOn (holdMarked s n) n) = true := by
    rw [holdMarked_schedOn, hs]
    decide
  exact (if_neg (by rw [hr]; decide)).trans (if_neg hon)

/-- What the hold angle leaves of a slot. -/
theorem execHoldAngleReached_state (hr : holdReached s n = true) (hs : schedOn s n = true) :
    ∃ t, execHoldAngleReached n s = .next t ∧ t.nwl[n].heldDone = true
      ∧ slotState t n k = (if k ∈ heldSlots s n ∧ slotState s n k = 2 then slotRest s n k else slotState s n k)
      ∧ (k ∈ heldSlots s n → t.bt (nwlOff n NWL.EVEVT) 3 = true) := by
  obtain ⟨x, hx⟩ := execHoldAngleReached_on hr hs
  generalize hu : withdrawn { holdMarked s n with txn := x } n (heldSlots s n) = u at hx
  have hnwl : u.nwl[n].heldDone = true := by
    have h : u.nwl = (holdMarked s n).nwl := by
      rw [← hu, withdrawn_nwl]
    rw [h, holdMarked_nwl]
  have hstate : slotState u n k = if k ∈ heldSlots s n ∧ slotState s n k = 2 then slotRest s n k else slotState s n k := by
    rw [← hu, withdrawn_state]
    rfl
  refine ⟨_, hx, ?_, ?_, fun hk => ?_⟩
  · have hkept : (if (heldSlots s n).isEmpty then u else evEvent u n 0 3).nwl = u.nwl := by
      split
      · rfl
      · exact evEvent_nwl
    rw [hkept, hnwl]
  · rw [← hstate]
    refine slotState_congr ?_
    split
    · rfl
    · exact evEvent_slot
  · have hne : ¬(heldSlots s n).isEmpty = true := by
      rw [List.isEmpty_iff]
      exact List.ne_nil_of_mem hk
    rw [if_neg hne]
    exact evEvent_event (by decide)

/-! ### Commit points (R149) -/

/-- A channel with the entries of a slot frozen. -/
def Chan.withFrozen (c : Chan) (n : Fin 4) (k : Fin 512) : Chan :=
  { c with aq := c.aq.map (fun e => if e.origin == .newel n && e.tag == k.val then { e with frz := true } else e) }

theorem freezeEntry_some (h : entryCh s n k = some c) : freezeEntry s n k = setSlotState (s.updCh c (·.withFrozen n k)) n k 3 := by
  unfold freezeEntry
  rw [h]
  rfl

theorem withFrozen_aq {x : Chan} :
    (x.withFrozen n k).aq = x.aq.map (fun e => if e.origin = .newel n ∧ e.tag = k.val then { e with frz := true } else e) := by
  refine List.map_congr_left fun e _ => ?_
  simp only [Bool.and_eq_true, beq_iff_eq]

/-! ### Refused offers (R153) -/

/-- No offer of the slot waits to be made again. -/
def reofferTaken (s : State) (n : Fin 4) (k : Fin 512) : State :=
  s.updNwl n (fun w => { w with reofferQ := w.reofferQ.filter (fun x => x.slot != k) })

section
variable (hf : s.nwl[n].reofferQ.find? (fun o => o.slot == k) = some e)
include hf

theorem execReoffer_some : execReoffer n k s =
    if !slotLive s n k || slotState s n k != 1 then .next (reofferTaken s n k)
    else if offerGone s n e then .next (dropSlot (reofferTaken s n k) n k e.inst e.tgt)
    else .next (makeOffer (reofferTaken s n k) n { convOffer s n k with inst := e.inst }) := by
  unfold execReoffer
  rw [hf]
  rfl

theorem execReoffer_gone (hl : slotLive s n k = true) (hs : slotState s n k = 1) (hg : offerGone s n e = true) :
    execReoffer n k s = .next (dropSlot (reofferTaken s n k) n k e.inst e.tgt) := by
  rw [execReoffer_some hf, hl, hs, if_neg (by decide), if_pos hg]

theorem execReoffer_made (hl : slotLive s n k = true) (hs : slotState s n k = 1) (hg : offerGone s n e = false) :
    execReoffer n k s = .next (makeOffer (reofferTaken s n k) n { convOffer s n k with inst := e.inst }) := by
  rw [execReoffer_some hf, hl, hs, if_neg (by decide), if_neg (by rw [hg]; decide)]
end

theorem execReoffer_none (h : ¬∃ o ∈ s.nwl[n].reofferQ, o.slot = k) : execReoffer n k s = .next s := by
  have hf : s.nwl[n].reofferQ.find? (fun o => o.slot == k) = none := by
    rw [List.find?_eq_none]
    exact fun o ho he => h ⟨o, ho, by simpa using he⟩
  unfold execReoffer
  rw [hf]

end

/-! ### The offers that are lined up (R148) -/

section
variable {s : State} {n : Fin 4} {k : Fin 512} {e : SlotOffer} {q : List SlotOffer}

theorem execNewelOffer_conv (hq : s.nwl[n].lateQ = []) (hc : s.nwl[n].conv = some e) :
    execNewelOffer n e.slot s = .next (makeOffer (s.updNwl n (fun w => { w with conv := none })) n e) := by
  unfold execNewelOffer
  simp only [hq, hc, beq_self_eq_true, if_true]

theorem execNewelOffer_late (hq : s.nwl[n].lateQ = e :: q) :
    execNewelOffer n e.slot s = .next (makeOffer (s.updNwl n (fun w => { w with lateQ := q, convAt := s.now })) n e) := by
  unfold execNewelOffer
  simp only [hq, beq_self_eq_true, if_true]

end
end Sys2Proof.Machine

/-!
# Angle events: conversion, offer, commit and drop (O35)
-/

namespace Sys2Proof.Machine

section
variable {s : State} {n : Fin 4} {k : Fin 512}

/-- What the late pass does with a passed slot. -/
theorem execLatePass_spec (h : schedOn s n = true) : ∃ t, execLatePass n s = .next t ∧ t.nwl[n].lateQ = lateOffers s n
    ∧ (k ∈ slotsOn s n → passedNow s n k = true → slotGoes s n k = false →
        SlotCompleted n k 1 (instPassed s n (slotAng s n k) % 256) 3 t ∧ t.bt (nwlOff n NWL.EVEVT) 2 = true) := by
  obtain ⟨u, hd, hu⟩ := execLatePass_on h
  refine ⟨_, hu, ?_, fun hk hp hg => ?_⟩
  · rw [State.updNwl_nwl, if_pos rfl]
  · have hmem : lateOffer s n k ∈ lateDrops s n := mem_lateDrops.mpr ⟨k, hk, hp, hg, rfl⟩
    have hinst (o : SlotOffer) (ho : o ∈ lateDrops s n) (hs : o.slot = k) : o.inst = instPassed s n (slotAng s n k) := by
      obtain ⟨j, -, -, -, rfl⟩ := mem_lateDrops.mp ho
      rw [← hs]
      rfl
    have hrest : slotRest s n k = 1 := if_pos (passedNow_live hp)
    have hdone := allDropped_completed (s := s) (n := n) hinst ⟨_, hmem, rfl⟩
    rw [hrest] at hdone
    exact ⟨hdone.congr (congrFun hd.rd _) (congrFun hd.rd _),
      (congrArg (bit · 2) (congrFun hd.rd _)).trans (allDropped_event (List.ne_nil_of_mem hmem))⟩

end

/-- Settles O35: every clause is what the lemma of its operation says, the passes over slots by induction on the list of slots. -/
theorem angleEventOffers : Obligations.AngleEventOffers := by
  intro s n k w ch waits free queued
  have hfree (h : free s) : SlotFree s n k := by
    obtain ⟨hl, hs, he, hf, hq, hn⟩ := h
    exact ⟨hl, hs, he, hf, hq, hn⟩
  refine ⟨fun h => ?passOff, fun h => ?pass, fun hs hp hl hw => ?converts, fun h => ?outside, fun o hq hc ho hf hd => ?offers,
    fun o q hq ho hf hd => ?offersLate, fun o hq hc ho hcan hl hs he hd => ?refused, fun c hs hc => ?freezes, fun o hq hc ho hd => ?completed,
    fun h => ?unqueued, fun hr hs => ?holds, fun h => ?unheld, fun o ho => ⟨fun hf hg hd => ?again, fun hl hs hg => ?gone⟩, fun h => ?none⟩
  case passOff => exact ⟨s, if_pos (by rw [h]; rfl), rfl⟩
  case pass =>
    obtain ⟨t, ht, hlate, hdrop⟩ := execLatePass_spec (k := k) h
    refine ⟨t, ht, fun hk hp hw hb => ?_, fun hk hp hw => ?_, fun o ho => ?_⟩
    · rw [hlate]
      exact ⟨_, mem_lateOffers.mpr ⟨k, hk, hp, slotGoes_iff.mpr ⟨hw, hb⟩, rfl⟩, rfl, rfl, rfl⟩
    · have hg : slotGoes s n k = false := by
        rw [Bool.eq_false_iff, Ne, slotGoes_iff]
        rintro ⟨hno, hle⟩
        exact hw.elim hno fun hlt => absurd hle (Nat.not_le_of_lt hlt)
      obtain ⟨⟨hstate, hdone, hlast⟩, hevent⟩ := hdrop hk hp hg
      exact ⟨hstate, hdone, hlast, hevent⟩
    · rw [hlate] at ho
      obtain ⟨j, -, hp, hg, rfl⟩ := mem_lateOffers.mp ho
      exact ⟨hp, (slotGoes_iff.mp hg).2⟩
  case converts => exact ⟨_, if_pos (by rw [hs, hp, hl, hw]; rfl), rfl⟩
  case outside => exact ⟨s, if_neg (by rw [h, Bool.and_false]; decide), rfl⟩
  case offers =>
    subst ho
    have h := makeOffer_queued (s := s.updNwl n (fun w => { w with conv := none })) (hfree hf).updNwl hd
    refine ⟨_, execNewelOffer_conv hq hc, ⟨h.aq, h.state, h.offerAt, h.inst, h.others⟩, ?_, h.late⟩
    rw [h.conv, State.updNwl_nwl, if_pos rfl]
  case offersLate =>
    subst ho
    have h := makeOffer_queued (s := s.updNwl n (fun w => { w with lateQ := q, convAt := s.now })) (hfree hf).updNwl hd
    refine ⟨_, execNewelOffer_late hq, ⟨h.aq, h.state, h.offerAt, h.inst, h.others⟩, ?_, h.late⟩
    rw [h.lateQ, State.updNwl_nwl, if_pos rfl]
  case refused =>
    subst ho
    have h := makeOffer_refused (s := s.updNwl n (fun w => { w with conv := none })) hl hs hd he hcan
    exact ⟨_, execNewelOffer_conv hq hc, h.state, h.waits, h.event, h.aqref, h.notice, h.ch⟩
  case freezes =>
    refine ⟨_, congrArg Host.Outcome.next ((if_pos hs).trans (freezeEntry_some hc)), slotState_set, ?_, fun d hd => ?_⟩
    · rw [setSlotState_ch, State.updCh_ch, if_pos rfl, withFrozen_aq]
    · rw [setSlotState_ch, State.updCh_ch, if_neg hd]
  case completed =>
    subst ho
    exact ⟨_, execNewelOffer_conv hq hc, makeOffer_done hd⟩
  case unqueued => exact ⟨s, congrArg Host.Outcome.next (if_neg h), rfl⟩
  case holds =>
    obtain ⟨t, ht, hheld, hstate, hevent⟩ := execHoldAngleReached_state (k := k) hr hs
    refine ⟨t, ht, hheld, fun h2 hlim hgone => ?_, fun h => ?_⟩
    · have hk : k ∈ heldSlots s n := mem_heldSlots.mpr ⟨h2, hlim, hgone⟩
      exact ⟨hstate.trans (if_pos ⟨hk, h2⟩), hevent hk⟩
    · refine hstate.trans (if_neg ?_)
      rintro ⟨hk, h2⟩
      exact h.elim (· h2) fun hle => absurd (mem_heldSlots.mp hk).2.1 (Nat.not_lt_of_le hle)
  case unheld => exact ⟨s, if_pos (by rw [h]; rfl), rfl⟩
  case again =>
    have h := makeOffer_queued (s := reofferTaken s n k) (e := { convOffer s n k with inst := o.inst }) (hfree hf).updNwl hd
    refine ⟨_, execReoffer_made ho (hfree hf).live (hfree hf).armed hg, ⟨h.aq, h.state, h.offerAt, h.inst, h.others⟩, fun x hx => ?_⟩
    rw [h.reofferQ] at hx
    exact bne_iff_ne.mp (List.mem_filter.mp hx).2
  case gone =>
    obtain ⟨hstate, hdone, -⟩ := dropSlot_completed (s := reofferTaken s n k) (n := n) (k := k) (i := o.inst) (tgt := o.tgt)
    refine ⟨_, execReoffer_gone ho hl hs hg, hstate.trans (if_pos hl), hdone, dropSlot_event, ?_, fun x hx => ?_⟩
    · have hne : slotState (reofferTaken s n k) n k ≠ 2 := by
        rw [show slotState (reofferTaken s n k) n k = 1 from hs]
        decide
      rw [dropSlot_ch, withdraw_unqueued hne]
      rfl
    · rw [dropSlot_reofferQ] at hx
      exact bne_iff_ne.mp (List.mem_filter.mp hx).2
  case none => exact ⟨s, execReoffer_none h, rfl⟩

end Sys2Proof.Machine

/-!
# What an operation on a group reaches

An operation on a PWM group changes registers, its own group, channels, what the Banister has been told, and what falls due; for O29.
-/

namespace Sys2Proof.Machine

section
variable {s t u : State} {m : Fin 16} {p p' : Nat → Prop} {q : Fin 96 → Prop} {o b k : Nat}

/-- A raise that has reached the Banister stays there while the Banister and its registers stay. -/
theorem Raised.of_rd {j : Nat} (hj : j < 256) (hf : t.flt = s.flt) (hr : ∀ o, raiseReg o → t.rd o = s.rd o) (h : Raised s j) : Raised t j := by
  have hp : t.fltPend j = s.fltPend j := by
    simp only [State.fltPend, State.bt]
    rw [hr _ (.inr (by simp only [R.FLT_PEND]; omega))]
  rw [Raised, hp, hf]
  exact h

/-- The state `t` with the registers, marks, agenda, later happenings, pin activity, channels, groups and Banister of `s`. -/
def State.withGroups (t s : State) : State :=
  { t with regs := s.regs, marks := s.marks, agenda := s.agenda, later := s.later, vest := s.vest, ch := s.ch, pg := s.pg, flt := s.flt }

/-- From `s` to `t` group `m` has been worked on: registers that `p` holds of, channels and the group may have changed, and beside them the
Banister and what falls due. Events of the group and raises that were there still are. -/
structure Works (p : Nat → Prop) (m : Fin 16) (s t : State) : Prop where
  rd : ∀ o, ¬p o → t.rd o = s.rd o
  events : ∀ b, s.bt (pgOff m PG.EVT) b = true → t.bt (pgOff m PG.EVT) b = true
  raised : ∀ j, j < 256 → Raised s j → Raised t j
  others : ∀ k, k ≠ m → t.pg[k] = s.pg[k]
  rest : t.withGroups s = s

theorem Works.refl : Works p m s s := ⟨fun _ _ => rfl, fun _ => id, fun _ _ => id, fun _ _ => rfl, rfl⟩

theorem Works.trans (h : Works p m s t) (g : Works p m t u) : Works p m s u := by
  refine ⟨fun o ho => (g.rd o ho).trans (h.rd o ho), fun b => g.events b ∘ h.events b, fun j hj => g.raised j hj ∘ h.raised j hj,
    fun k hk => (g.others k hk).trans (h.others k hk), ?_⟩
  calc u.withGroups s = (u.withGroups t).withGroups s := rfl
    _ = s := by rw [g.rest, h.rest]

theorem Works.mono (h : Works p m s t) (hp : ∀ o, p o → p' o) : Works p' m s t :=
  ⟨fun o ho => h.rd o fun h' => ho (hp o h'), h.events, h.raised, h.others, h.rest⟩

theorem Works.ite {c : Prop} [Decidable c] (ht : Works p m s t) (hu : Works p m s u) : Works p m s (if c then t else u) := by
  split
  · exact ht
  · exact hu

theorem Works.upd {f : Word → Word} (ho : p o) (hr : ¬raiseReg o) (he : o ≠ pgOff m PG.EVT) (h : Works p m s t) : Works p m s (t.upd o f) := by
  refine h.trans ⟨fun x hx => ?_, fun b hb => ?_, fun j hj => ?_, fun _ _ => rfl, rfl⟩
  · have hne : x ≠ o := fun e => hx (e ▸ ho)
    rw [State.upd_rd, if_neg hne]
  · rwa [State.bt, State.upd_rd, if_neg he.symm]
  · refine Raised.of_rd hj rfl fun x hx => ?_
    have hne : x ≠ o := fun e => hr (e ▸ hx)
    rw [State.upd_rd, if_neg hne]

theorem Works.wr {v : Word} (ho : p o) (hr : ¬raiseReg o) (he : o ≠ pgOff m PG.EVT) (h : Works p m s t) : Works p m s (t.wr o v) :=
  .upd (f := fun _ => v) ho hr he h

/-- Marks are no register. -/
theorem Works.satFl {lo len : Nat} (ho : p o) (hr : ¬raiseReg o) (he : o ≠ pgOff m PG.EVT) (h : Works p m s t) : Works p m s (t.satFl o lo len) := by
  obtain ⟨hrd, hevents, hraised, hothers, hrest⟩ := Works.upd (f := fun w => setFld w lo len (satInc (2 ^ len - 1) (fld w lo len))) ho hr he h
  exact ⟨hrd, hevents, hraised, hothers, hrest⟩

theorem Works.updPg {f : Pg → Pg} (h : Works p m s t) : Works p m s (t.updPg m f) := by
  refine h.trans ⟨fun _ _ => rfl, fun _ => id, fun _ _ => id, fun k hk => ?_, rfl⟩
  rw [State.updPg_pg, if_neg hk]

theorem Works.dates (g : Dates t u) (h : Works p m s t) : Works p m s u := by
  refine h.trans ⟨fun o _ => congrFun g.rd o, fun b hb => ?_, fun j hj => ?_, fun k _ => ?_, ?_⟩
  · rwa [State.bt, g.rd]
  · exact Raised.of_rd hj (congrArg State.flt g.rest :) fun o _ => congrFun g.rd o
  · exact (congrArg (fun x : State => x.pg[k]) g.rest :)
  · rw [g.rest]
    rfl

/-- The registers of the channels lie above those of the groups and of the Banister. -/
theorem Works.acts (hp : ∀ o, p' o → p o ∧ 0x10000 ≤ o) (g : Acts p' q t u) (h : Works p m s t) : Works p m s u := by
  have hlow {o : Nat} (ho : o < 0x10000) : u.rd o = t.rd o := g.rd o fun h' => absurd (hp o h').2 (Nat.not_le_of_lt ho)
  have hm := m.isLt
  refine h.trans ⟨fun o ho => g.rd o fun h' => ho (hp o h').1, fun b hb => ?_, fun j hj => ?_, fun k _ => by rw [g.pg], ?_⟩
  · rwa [State.bt, hlow (by simp only [pgOff, PG.EVT]; omega)]
  · exact Raised.of_rd hj (congrArg State.flt g.rest :) fun o ho => hlow (by simp only [raiseReg, recordReg] at ho; omega)
  · calc u.withGroups t = (u.withChannels t).withGroups t := rfl
      _ = t := by rw [g.rest]; rfl

theorem Works.reports (hp : ∀ o, raiseReg o → p o) (g : Reports raiseReg t u) (hr : ∀ j, j < 256 → Raised t j → Raised u j)
    (h : Works p m s t) : Works p m s u := by
  refine h.trans ⟨fun o ho => g.rd o fun h' => ho (hp o h'), fun b hb => ?_, hr, fun k _ => by rw [g.pg], ?_⟩
  · rwa [State.bt, g.rd _ pgOff_not_raiseReg]
  · calc u.withGroups t = (u.withReports t).withGroups t := rfl
      _ = t := by rw [g.rest]; rfl

theorem Works.raise {d : Word} (hp : ∀ o, raiseReg o → p o) (h : Works p m s t) : Works p m s (t.raise k d) :=
  .reports hp (raise_reports ..) (fun _ hj => .raiseWith hj _) h

theorem Works.raiseLevel {d : Word} (hp : ∀ o, raiseReg o → p o) (hk : k < 256) (h : Works p m s t) : Works p m s (t.raiseLevel k d) :=
  .reports hp (raiseLevel_reports hk d) (fun _ hj => .raiseLevel hk hj) h

theorem Works.pgEvent (hb : b < 32) (hp : p (pgOff m PG.EVT)) (h : Works p m s t) : Works p m s (pgEvent t m b) := by
  refine h.trans (.dates pgEvent_dates ⟨fun x hx => ?_, fun i hi => ?_, fun j hj => ?_, fun _ _ => rfl, rfl⟩)
  · have hne : x ≠ pgOff m PG.EVT := fun e => hx (e ▸ hp)
    rw [State.setEv_rd, if_neg hne]
  · rw [State.bt, State.setEv_rd, if_pos rfl, bit_setBit _ _ _ _ hb]
    split
    · rfl
    · exact hi
  · refine Raised.of_rd hj rfl fun x hx => ?_
    have hne : x ≠ pgOff m PG.EVT := fun e => pgOff_not_raiseReg (e ▸ hx)
    rw [State.setEv_rd, if_neg hne]

section
variable (h : Works p m s t)
include h
theorem Works.now : t.now = s.now := (congrArg State.now h.rest :)
theorem Works.mem : t.mem = s.mem := (congrArg State.mem h.rest :)
end

/-- What one operation on the members leaves, going through all of them leaves. -/
theorem eachMember_acts {f : State → Fin 96 → State} (hf : ∀ v n, Acts p q v (f v n)) : Acts p q s (eachMember s m f) :=
  List.foldlRecOn _ _ .refl fun _ hv n _ => hv.trans (hf _ n)

theorem mem_members {n : Fin 96} : n ∈ members s m ↔ follows s n = some m := by
  rw [members, List.mem_filter, beq_iff_eq]
  exact ⟨And.right, fun h => ⟨List.mem_finRange n, h⟩⟩

/-- The registers of channel `n`. -/
def ofChannel (n : Fin 96) (o : Nat) : Prop := chOff n 0 ≤ o ∧ o < chOff n 0x100

theorem ofChannel_chOff {n : Fin 96} {x : Nat} (hx : x < 0x100) : ofChannel n (chOff n x) := by
  simp only [ofChannel, chOff]
  omega

/-- Channel `n` and its registers stay. -/
def AsideFrom (n : Fin 96) : State → State → Prop := Acts (fun o => 0x10000 ≤ o ∧ ¬ofChannel n o) (· ≠ n)

/-- Each member has its turn, before and after which operations on the others pass it by. -/
theorem eachMember_turn {f : State → Fin 96 → State} {n : Fin 96} (hf : ∀ v k, Acts (ofChannel k) (· = k) v (f v k)) (hn : follows s n = some m) :
    ∃ v, AsideFrom n s v ∧ AsideFrom n (f v n) (eachMember s m f) := by
  have hstep {k : Fin 96} (hk : k ≠ n) (v : State) : AsideFrom n v (f v k) := by
    refine (hf v k).mono (fun o ho => ?_) fun _ e => e ▸ hk
    have hne : k.val ≠ n.val := fun e => hk (Fin.ext e)
    simp only [ofChannel, chOff] at *
    omega
  have hfold (l : List (Fin 96)) (hl : n ∉ l) (v : State) : AsideFrom n v (l.foldl f v) :=
    List.foldlRecOn l f (motive := AsideFrom n v) .refl fun w hw k hk => hw.trans (hstep (fun e => hl (e ▸ hk)) w)
  obtain ⟨l1, l2, hl⟩ := List.append_of_mem (mem_members.mpr hn)
  have hnodup : (members s m).Nodup := (List.nodup_finRange 96).filter _
  rw [hl, List.nodup_append, List.nodup_cons] at hnodup
  obtain ⟨-, ⟨h2, -⟩, hdisj⟩ := hnodup
  refine ⟨l1.foldl f s, hfold l1 (fun h1 => hdisj n h1 n (List.mem_cons_self ..) rfl) s, ?_⟩
  rw [eachMember, hl, List.foldl_append, List.foldl_cons]
  exact hfold l2 h2 _
end

end Sys2Proof.Machine

/-!
# The transfer points of a group (O29)
-/

namespace Sys2Proof.Machine

section
variable {s t u v : State} {m : Fin 16} {n : Fin 96} {o b : Nat} {xfer : Bool}

/-! ### A member's part (R54, R91) -/

/-- A transfer of the shadows brings the compares. -/
theorem copyShadows_compare {withPeriod : Bool} (k : Fin 4) :
    (copyShadows s n withPeriod).rd (chOff n (CH.CMPA_ACT + 4 * k.val)) = s.rd (chOff n (CH.CMPA + 4 * k.val)) := by
  unfold copyShadows
  fin_cases k <;> cases withPeriod <;>
    simp [State.rdCh, CH.PERIOD, CH.CMPA, CH.CMPB, CH.CMPC, CH.CMPD, CH.CMPFINE, CH.CMPA_ACT, CH.EPOCH]

/-- The registers of channel `n` that a transfer point writes are its own. -/
theorem pointReg_ofChannel (h : pointReg n o) : ofChannel n o := by
  simp only [pointReg, activeReg, ofChannel, chOff, CH.PERIOD_ACT, CH.CMPFINE_ACT, CH.EPOCH, CH.EVT] at *
  omega

/-- The state in which a member has counted the transfer point. -/
def memberCounted (s : State) (n : Fin 96) : State :=
  chEvent ((s.upd (chOff n CH.EPOCH) (fun w => setFld w 0 8 (fld w 0 8 + 1))).updCh n (fun c => { c with xferAt := s.now })) n 4

/-- … and in which a transfer held over a freeze has landed. -/
def memberLanded (s : State) (n : Fin 96) : State :=
  if (memberCounted s n).ch[n].xferHeld then (memberCounted s n).upd (chOff n CH.EPOCH) (fun w => setFld w 8 8 (fld w 0 8)) else memberCounted s n

theorem memberXfer_eq (h : s.ch[n].frozen = false) : memberXfer s xfer n =
    if xfer || (memberLanded s n).ch[n].xferHeld then copyShadows ((memberLanded s n).updCh n (fun c => { c with xferHeld := false })) n false
    else memberLanded s n := if_neg (by rw [h]; decide)

theorem memberXfer_frozen (h : s.ch[n].frozen = true) :
    memberXfer s xfer n = if xfer then s.updCh n (fun c => { c with xferHeld := true }) else s := if_pos h

theorem memberLanded_acts : Acts (pointReg n) (· = n) s (memberLanded s n) := by
  have hc : Acts (pointReg n) (· = n) s (memberCounted s n) := .chEvent (.inr rfl) (.updCh rfl (.upd (.inl (.inr rfl)) .refl))
  exact .ite (.upd (.inl (.inr rfl)) hc) hc

theorem memberXfer_acts : Acts (pointReg n) (· = n) s (memberXfer s xfer n) := by
  cases h : s.ch[n].frozen with
  | true =>
    rw [memberXfer_frozen h]
    exact .ite (.updCh rfl .refl) .refl
  | false =>
    rw [memberXfer_eq h]
    exact .ite (.copyShadows (fun _ => .inl) (.updCh rfl memberLanded_acts)) memberLanded_acts

/-- A member that is not frozen counts the point and raises BOUND; its compares transfer with the group. -/
theorem memberXfer_spec (h : s.ch[n].frozen = false) :
    (memberXfer s xfer n).fl (chOff n CH.EPOCH) 0 8 = (s.fl (chOff n CH.EPOCH) 0 8 + 1) % 256 ∧ (memberXfer s xfer n).bt (chOff n CH.EVT) 4 = true
    ∧ (xfer = true → ∀ k : Fin 4, (memberXfer s xfer n).rd (chOff n (CH.CMPA_ACT + 4 * k.val)) = s.rd (chOff n (CH.CMPA + 4 * k.val))) := by
  have hevt (w : State) (f : Word → Word) : (w.upd (chOff n CH.EPOCH) f).rd (chOff n CH.EVT) = w.rd (chOff n CH.EVT) := by
    rw [State.upd_rd, if_neg (by simp)]
  have hcounted : (memberCounted s n).fl (chOff n CH.EPOCH) 0 8 = (s.fl (chOff n CH.EPOCH) 0 8 + 1) % 256 := by
    rw [State.fl, memberCounted, chEvent_rd, if_neg (by simp), State.updCh_rd, State.upd_rd, if_pos rfl, fld_setFld _ _ _ _ (by decide)]
    rfl
  have hepoch : (memberLanded s n).fl (chOff n CH.EPOCH) 0 8 = (s.fl (chOff n CH.EPOCH) 0 8 + 1) % 256 := by
    rw [← hcounted]
    unfold memberLanded
    split
    · rw [State.fl, State.upd_rd, if_pos rfl, fld_setFld_ne _ _ _ _ _ _ (by decide)]
      rfl
    · rfl
  have hevent : (memberLanded s n).bt (chOff n CH.EVT) 4 = true := by
    have h4 : (memberCounted s n).bt (chOff n CH.EVT) 4 = true := chEvent_event (by decide)
    unfold memberLanded
    split
    · rwa [State.bt, hevt]
    · exact h4
  rw [memberXfer_eq h]
  split
  · refine ⟨copyShadows_epoch.trans hepoch, ?_, fun _ k => ?_⟩
    · have ha := Acts.copyShadows (p := activeReg n) (q := fun _ => True) (withPeriod := false) (fun _ => id)
        (.refl (s := (memberLanded s n).updCh n (fun c => { c with xferHeld := false })))
      rw [State.bt, ha.rd _ evt_not_activeReg]
      exact hevent
    · have hcmp : ¬pointReg n (chOff n (CH.CMPA + 4 * k.val)) := by
        have := k.isLt
        refine not_pointReg ?_
        simp only [CH.CMPA, CH.PERIOD_ACT, CH.CMPFINE_ACT, CH.EPOCH, CH.EVT]
        omega
      rw [copyShadows_compare, State.updCh_rd, memberLanded_acts.rd _ hcmp]
  · next hx => exact ⟨hepoch, hevent, fun hx' => absurd (by rw [hx', Bool.true_or]) hx⟩

/-! ### The group's part (R91 to R94) -/

/-- Whether a transfer point finds a period without compares in auto mode (R93). -/
abbrev PointSplits (s : State) (m : Fin 16) : Prop :=
  tMode s m = 0 ∧ s.pg[m].pwrit = true ∧ s.pg[m].cwrit = false ∧ s.pg[m].held = false

/-- Whether HOLDSPLIT holds that period. -/
abbrev PointHolds (s : State) (m : Fin 16) : Prop := PointSplits s m ∧ s.bt (pgOff m PG.CTRL) 6 = true

/-- Whether TMODE allows a transfer (R92). -/
abbrev PointXfers (s : State) (m : Fin 16) : Prop := tMode s m = 0 ∨ (tMode s m = 1 ∧ s.pg[m].loadArm = true)

/-- The state in which the epoch has stepped and what the point answers to is taken. -/
def groupStepped (s : State) (m : Fin 16) : State :=
  (s.upd (pgOff m PG.EPOCH) (fun w => setFld w 0 8 (fld w 0 8 + 1))).updPg m (fun g =>
    { g with pwrit := false, cwrit := false, held := decide (PointHolds s m), xferAt := s.now, loadArm := g.loadArm && !decide (PointXfers s m) })

/-- … in which a split is reported … -/
def groupReported (s : State) (m : Fin 16) : State :=
  if PointSplits s m then (pgEvent (groupStepped s m) m 3).raise FS.SPLIT (w32 m.val) else groupStepped s m

/-- … in which the phases have transferred … -/
def groupPhased (s : State) (m : Fin 16) : State := if PointXfers s m then copyPhases (groupReported s m) m else groupReported s m

/-- … and in which the period has, or is held. -/
def groupLanded (s : State) (m : Fin 16) : State :=
  if PointHolds s m then (groupPhased s m).upd (pgOff m PG.EPOCH) (fun w => setBit (setFld w 8 8 (fld w 0 8 + 1)) 16 true)
  else if PointXfers s m ∨ s.pg[m].held = true then copyPeriod (groupPhased s m) m else groupPhased s m

theorem pgTransferPoint_eq :
    pgTransferPoint s m = eachMember (groupLanded s m) m (fun v n => memberXfer v (decide (PointXfers s m)) n) := by
  have hctrl (f : Word → Word) : (s.upd (pgOff m PG.EPOCH) f).bt (pgOff m PG.CTRL) 6 = s.bt (pgOff m PG.CTRL) 6 := by
    rw [State.bt, State.upd_rd, if_neg (by simp)]
    rfl
  have hsplit : (decide (tMode s m = 0) && s.pg[m].pwrit && !s.pg[m].cwrit && !s.pg[m].held) = decide (PointSplits s m) := by
    simp [PointSplits, Bool.and_assoc]
  have hhold : (decide (PointSplits s m) && s.bt (pgOff m PG.CTRL) 6) = decide (PointHolds s m) := by simp [PointHolds]
  have hxfer : (decide (tMode s m = 0) || (decide (tMode s m = 1) && s.pg[m].loadArm)) = decide (PointXfers s m) := by simp [PointXfers]
  simp only [pgTransferPoint, hctrl, hsplit, hhold, hxfer, Bool.or_eq_true, decide_eq_true_eq]
  rfl

/-- The registers that the group's part writes. -/
def groupReg (m : Fin 16) (o : Nat) : Prop := raiseReg o ∨ o = pgOff m PG.EVT ∨ o = pgOff m PG.EPOCH ∨ o = pgOff m PG.PERIOD_ACT

theorem groupReported_works : Works (groupReg m) m s (groupReported s m) := by
  have hs : Works (groupReg m) m s (groupStepped s m) :=
    .updPg (.upd (.inr (.inr (.inl rfl))) pgOff_not_raiseReg (by simp) .refl)
  exact .ite (.raise (fun _ => .inl) (.pgEvent (by decide) (.inr (.inl rfl)) hs)) hs

/-- What follows the report. -/
theorem groupReported_landed : Works (groupReg m) m (groupReported s m) (groupLanded s m) := by
  have hp : Works (groupReg m) m (groupReported s m) (groupPhased s m) := .ite (.updPg .refl) .refl
  have hepoch {f : Word → Word} {v : State} (h : Works (groupReg m) m (groupReported s m) v) :
      Works (groupReg m) m (groupReported s m) (v.upd (pgOff m PG.EPOCH) f) :=
    .upd (.inr (.inr (.inl rfl))) pgOff_not_raiseReg (by simp) h
  have hcopy : Works (groupReg m) m (groupReported s m) (copyPeriod (groupPhased s m) m) :=
    hepoch (f := fun w => setBit w 16 false) (.wr (.inr (.inr (.inr rfl))) pgOff_not_raiseReg (by simp) hp)
  exact .ite (hepoch hp) (.ite hcopy hp)

theorem groupLanded_works : Works (groupReg m) m s (groupLanded s m) := groupReported_works.trans groupReported_landed

/-- The registers that a transfer point of group `m` writes. -/
def groupPointReg (m : Fin 16) (o : Nat) : Prop := groupReg m o ∨ ∃ n, pointReg n o

theorem pointReg_high (h : pointReg n o) : 0x10000 ≤ o := by
  simp only [pointReg, activeReg, chOff] at h
  omega

theorem chOff_not_groupReg {x : Nat} : ¬groupReg m (chOff n x) := by
  have hm := m.isLt
  simp only [groupReg, raiseReg, recordReg, pgOff, chOff, PG.EVT, PG.EPOCH, PG.PERIOD_ACT]
  omega

theorem pgOff_not_pointReg {x : Nat} (hx : x < 0x100) : ¬pointReg n (pgOff m x) := by
  have hm := m.isLt
  intro h
  have := pointReg_high h
  simp only [pgOff] at this
  omega

/-- The members change channels and their registers alone. -/
theorem pgTransferPoint_members : Acts (fun o => ∃ n, pointReg n o) (fun _ => True) (groupLanded s m) (pgTransferPoint s m) := by
  rw [pgTransferPoint_eq]
  exact eachMember_acts fun v n => memberXfer_acts.mono (fun o ho => ⟨n, ho⟩) fun _ _ => trivial

theorem pgTransferPoint_own {x : Nat} (hx : x < 0x100) : (pgTransferPoint s m).rd (pgOff m x) = (groupLanded s m).rd (pgOff m x) :=
  pgTransferPoint_members.rd _ fun ⟨_, h⟩ => pgOff_not_pointReg hx h

theorem members_works : Works (groupPointReg m) m (groupLanded s m) (pgTransferPoint s m) :=
  .acts (fun _ h => ⟨.inr h, h.elim fun _ => pointReg_high⟩) pgTransferPoint_members .refl

theorem pgTransferPoint_works : Works (groupPointReg m) m s (pgTransferPoint s m) :=
  (groupLanded_works.mono fun _ => .inl).trans members_works

/-- What the report of a split leaves. -/
theorem groupReported_rd (hr : ¬raiseReg o) (he : o ≠ pgOff m PG.EVT) : (groupReported s m).rd o = (groupStepped s m).rd o := by
  unfold groupReported
  split
  · rw [(raise_reports ..).rd _ hr, pgEvent_rd, if_neg he]
  · rfl

theorem groupReported_pg : (groupReported s m).pg = (groupStepped s m).pg := by
  unfold groupReported
  split
  · rw [(raise_reports ..).pg, pgEvent_pg]
  · rfl

theorem groupLanded_ch : (groupLanded s m).ch = s.ch := by
  have hr : (groupReported s m).ch = s.ch := by
    unfold groupReported
    split
    · rw [(raise_reports ..).ch, pgEvent_dates.ch, State.setEv_ch, groupStepped, State.updPg_ch, State.upd_ch]
    · rw [groupStepped, State.updPg_ch, State.upd_ch]
  have hp : (groupPhased s m).ch = s.ch := by
    unfold groupPhased
    split
    · rw [copyPhases, State.updPg_ch, hr]
    · exact hr
  unfold groupLanded
  split
  · rw [State.upd_ch, hp]
  · split
    · rw [copyPeriod, State.setBt_ch, State.wr_ch, hp]
    · exact hp

theorem groupPhased_rd : (groupPhased s m).rd = (groupReported s m).rd := by
  unfold groupPhased
  split
  · rfl
  · rfl

theorem groupPhased_own {x : Nat} (he : x ≠ PG.EVT) : (groupPhased s m).rd (pgOff m x) =
    if x = PG.EPOCH then setFld (s.rd (pgOff m PG.EPOCH)) 0 8 (s.fl (pgOff m PG.EPOCH) 0 8 + 1) else s.rd (pgOff m x) := by
  rw [groupPhased_rd, groupReported_rd pgOff_not_raiseReg (by simpa using he), groupStepped, State.updPg_rd, State.upd_rd]
  simp only [pgOff_inj]
  rfl

/-- The group after a transfer point. -/
def Pg.atPoint (g : Pg) (hold xfer : Bool) (now : Nat) (phases : Vector Word 12) : Pg :=
  { g with pwrit := false, cwrit := false, held := hold, xferAt := now, loadArm := g.loadArm && !xfer,
           mphAct := if xfer then phases else g.mphAct }

/-- The phases that the shadows name. -/
def phaseShadows (s : State) (m : Fin 16) : Vector Word 12 := Vector.ofFn (fun k : Fin 12 => s.rdPg m (PG.MPH + 4 * k.val))

theorem groupReported_phases : phaseShadows (groupReported s m) m = phaseShadows s m := by
  unfold phaseShadows State.rdPg
  congr 1
  funext k
  have hk : PG.MPH + 4 * k.val ≠ PG.EVT ∧ PG.MPH + 4 * k.val ≠ PG.EPOCH := by
    simp only [PG.MPH, PG.EVT, PG.EPOCH]
    omega
  rw [← groupPhased_rd, groupPhased_own hk.1, if_neg hk.2]

theorem pgTransferPoint_pg : (pgTransferPoint s m).pg[m] =
    s.pg[m].atPoint (decide (PointHolds s m)) (decide (PointXfers s m)) s.now (phaseShadows s m) := by
  have hland : (groupLanded s m).pg = (groupPhased s m).pg := by
    unfold groupLanded
    split
    · rfl
    · split
      · rfl
      · rfl
  have hstep : (groupStepped s m).pg[m] = { s.pg[m] with
      pwrit := false, cwrit := false, held := decide (PointHolds s m), xferAt := s.now,
      loadArm := s.pg[m].loadArm && !decide (PointXfers s m) } := (State.updPg_pg ..).trans (if_pos rfl)
  rw [pgTransferPoint_members.pg, hland]
  by_cases h : PointXfers s m
  · have he : groupPhased s m = copyPhases (groupReported s m) m := if_pos h
    have hcopy : (copyPhases (groupReported s m) m).pg[m] =
        { (groupReported s m).pg[m] with mphAct := phaseShadows (groupReported s m) m } := (State.updPg_pg ..).trans (if_pos rfl)
    rw [he, hcopy, groupReported_phases, groupReported_pg, hstep, Pg.atPoint, decide_eq_true h]
    rfl
  · have he : groupPhased s m = groupReported s m := if_neg h
    rw [he, groupReported_pg, hstep, Pg.atPoint, decide_eq_false h]
    rfl

/-- What a transfer point of group `m` in state `s` has done in `t`. -/
structure GroupPoint (m : Fin 16) (s t : State) : Prop where
  xferAt : t.pg[m].xferAt = s.now
  pwrit : t.pg[m].pwrit = false
  cwrit : t.pg[m].cwrit = false
  epoch : t.fl (pgOff m PG.EPOCH) 0 8 = (s.fl (pgOff m PG.EPOCH) 0 8 + 1) % 256
  split : PointSplits s m → t.bt (pgOff m PG.EVT) 3 = true ∧ Raised t FS.SPLIT
  hold : PointHolds s m → t.pg[m].held = true ∧ t.rd (pgOff m PG.PERIOD_ACT) = s.rd (pgOff m PG.PERIOD_ACT)
    ∧ t.bt (pgOff m PG.EPOCH) 16 = true ∧ t.fl (pgOff m PG.EPOCH) 8 8 = (t.fl (pgOff m PG.EPOCH) 0 8 + 1) % 256
  unheld : ¬PointHolds s m → t.pg[m].held = false
  period : PointXfers s m ∨ s.pg[m].held = true → ¬PointHolds s m →
    t.rd (pgOff m PG.PERIOD_ACT) = s.rd (pgOff m PG.PERIOD) ∧ t.bt (pgOff m PG.EPOCH) 16 = false
  phases : PointXfers s m → t.pg[m].loadArm = false ∧ ∀ k : Fin 12, t.pg[m].mphAct[k] = s.rd (pgOff m (PG.MPH + 4 * k.val))
  keptPhases : ¬PointXfers s m → t.pg[m].mphAct = s.pg[m].mphAct
  keptPeriod : ¬PointXfers s m → s.pg[m].held = false → t.rd (pgOff m PG.PERIOD_ACT) = s.rd (pgOff m PG.PERIOD_ACT)
  members : ∀ n, follows s n = some m → s.ch[n].frozen = false →
    t.fl (chOff n CH.EPOCH) 0 8 = (s.fl (chOff n CH.EPOCH) 0 8 + 1) % 256 ∧ t.bt (chOff n CH.EVT) 4 = true
    ∧ (PointXfers s m → ∀ k : Fin 4, t.rd (chOff n (CH.CMPA_ACT + 4 * k.val)) = s.rd (chOff n (CH.CMPA + 4 * k.val)))

/-- The group's registers after the point: the epoch steps, and the period lands, is held or stays. -/
theorem groupLanded_own : (groupLanded s m).fl (pgOff m PG.EPOCH) 0 8 = (s.fl (pgOff m PG.EPOCH) 0 8 + 1) % 256
    ∧ (PointHolds s m → (groupLanded s m).rd (pgOff m PG.PERIOD_ACT) = s.rd (pgOff m PG.PERIOD_ACT)
        ∧ (groupLanded s m).bt (pgOff m PG.EPOCH) 16 = true
        ∧ (groupLanded s m).fl (pgOff m PG.EPOCH) 8 8 = ((groupLanded s m).fl (pgOff m PG.EPOCH) 0 8 + 1) % 256)
    ∧ (PointXfers s m ∨ s.pg[m].held = true → ¬PointHolds s m →
        (groupLanded s m).rd (pgOff m PG.PERIOD_ACT) = s.rd (pgOff m PG.PERIOD) ∧ (groupLanded s m).bt (pgOff m PG.EPOCH) 16 = false)
    ∧ (¬PointXfers s m → s.pg[m].held = false → (groupLanded s m).rd (pgOff m PG.PERIOD_ACT) = s.rd (pgOff m PG.PERIOD_ACT)) := by
  have hepoch : fld ((groupPhased s m).rd (pgOff m PG.EPOCH)) 0 8 = (s.fl (pgOff m PG.EPOCH) 0 8 + 1) % 256 := by
    rw [groupPhased_own (by decide), if_pos rfl]
    exact fld_setFld _ _ _ _ (by decide)
  have hact : (groupPhased s m).rd (pgOff m PG.PERIOD_ACT) = s.rd (pgOff m PG.PERIOD_ACT) := by
    rw [groupPhased_own (by decide), if_neg (by decide)]
  have hperiod : (groupPhased s m).rd (pgOff m PG.PERIOD) = s.rd (pgOff m PG.PERIOD) := by
    rw [groupPhased_own (by decide), if_neg (by decide)]
  have hne : pgOff m PG.PERIOD_ACT ≠ pgOff m PG.EPOCH := by simp
  by_cases hh : PointHolds s m
  · have he : groupLanded s m =
        (groupPhased s m).upd (pgOff m PG.EPOCH) (fun w => setBit (setFld w 8 8 (fld w 0 8 + 1)) 16 true) := if_pos hh
    have h08 : (groupLanded s m).fl (pgOff m PG.EPOCH) 0 8 = (s.fl (pgOff m PG.EPOCH) 0 8 + 1) % 256 := by
      rw [he, State.fl, State.upd_rd, if_pos rfl, fld_setBit_ne _ _ _ _ _ (by decide), fld_setFld_ne _ _ _ _ _ _ (by decide), hepoch]
    have hx : PointXfers s m := .inl hh.1.1
    refine ⟨h08, fun _ => ⟨?_, ?_, ?_⟩, fun _ h => absurd hh h, fun h => absurd hx h⟩
    · rw [he, State.upd_rd, if_neg hne, hact]
    · rw [he, State.bt, State.upd_rd, if_pos rfl, bit_setBit _ _ _ _ (by decide), if_pos rfl]
    · rw [h08, he, State.fl, State.upd_rd, if_pos rfl, fld_setBit_ne _ _ _ _ _ (by decide), ← hepoch]
      exact fld_setFld _ _ _ _ (by decide)
  · by_cases hx : PointXfers s m ∨ s.pg[m].held = true
    · have he : groupLanded s m = copyPeriod (groupPhased s m) m := (if_neg hh).trans (if_pos hx)
      have hwr {y : Nat} (h : y ≠ PG.PERIOD_ACT) (v : Word) : ((groupPhased s m).wr (pgOff m PG.PERIOD_ACT) v).rd (pgOff m y)
          = (groupPhased s m).rd (pgOff m y) := by rw [State.wr_rd, if_neg (by simpa using h)]
      refine ⟨?_, fun h => absurd h hh, fun _ _ => ⟨?_, ?_⟩, fun h h' => ?_⟩
      · rw [he, State.fl, copyPeriod, State.setBt_rd, if_pos rfl, fld_setBit_ne _ _ _ _ _ (by decide), hwr (by decide), hepoch]
      · rw [he, copyPeriod, State.setBt_rd, if_neg hne, State.wr_rd, if_pos rfl]
        exact hperiod
      · rw [he, State.bt, copyPeriod, State.setBt_rd, if_pos rfl, bit_setBit _ _ _ _ (by decide), if_pos rfl]
      · exact absurd hx (not_or.mpr ⟨h, by rw [h']; decide⟩)
    · have he : groupLanded s m = groupPhased s m := (if_neg hh).trans (if_neg hx)
      rw [he]
      exact ⟨hepoch, fun h => absurd h hh, fun h => absurd h hx, fun _ _ => hact⟩

/-- A member's registers reach its turn as they were, and keep what they get there. -/
theorem pgTransferPoint_member (hn : follows s n = some m) (hf : s.ch[n].frozen = false) :
    (pgTransferPoint s m).fl (chOff n CH.EPOCH) 0 8 = (s.fl (chOff n CH.EPOCH) 0 8 + 1) % 256
    ∧ (pgTransferPoint s m).bt (chOff n CH.EVT) 4 = true
    ∧ (PointXfers s m → ∀ k : Fin 4,
        (pgTransferPoint s m).rd (chOff n (CH.CMPA_ACT + 4 * k.val)) = s.rd (chOff n (CH.CMPA + 4 * k.val))) := by
  obtain ⟨v, hv, ht⟩ := eachMember_turn (s := groupLanded s m) (f := fun v n => memberXfer v (decide (PointXfers s m)) n)
    (fun _ _ => memberXfer_acts.mono (fun _ => pointReg_ofChannel) fun _ => id)
    ((follows_congr (groupLanded_works.rd _ chOff_not_groupReg) (groupLanded_works.rd _ chOff_not_groupReg)).trans hn)
  rw [← pgTransferPoint_eq] at ht
  have hchan {w x : State} (h : AsideFrom n w x) {y : Nat} (hy : y < 0x100) : x.rd (chOff n y) = w.rd (chOff n y) :=
    h.rd _ fun h' => h'.2 (ofChannel_chOff hy)
  have hstart {y : Nat} (hy : y < 0x100) : v.rd (chOff n y) = s.rd (chOff n y) :=
    (hchan hv hy).trans (groupLanded_works.rd _ chOff_not_groupReg)
  have hfrozen : v.ch[n].frozen = false := by
    rw [hv.ch_ne n (fun h => h rfl), groupLanded_ch]
    exact hf
  obtain ⟨hepoch, hevent, hcmp⟩ := memberXfer_spec (xfer := decide (PointXfers s m)) hfrozen
  refine ⟨?_, ?_, fun hx k => ?_⟩
  · rw [State.fl, hchan ht (by decide)]
    refine hepoch.trans ?_
    rw [State.fl, hstart (by decide)]
    rfl
  · rw [State.bt, hchan ht (by decide)]
    exact hevent
  · have hk := k.isLt
    rw [hchan ht (by simp only [CH.CMPA_ACT]; omega), hcmp (decide_eq_true hx) k, hstart (by simp only [CH.CMPA]; omega)]

/-- What a transfer point does (R91 to R94). -/
theorem pgTransferPoint_point : GroupPoint m s (pgTransferPoint s m) := by
  have hpg := pgTransferPoint_pg (s := s) (m := m)
  have hown {x : Nat} (hx : x < 0x100) := pgTransferPoint_own (s := s) (m := m) hx
  have hfl (lo len : Nat) : (pgTransferPoint s m).fl (pgOff m PG.EPOCH) lo len = (groupLanded s m).fl (pgOff m PG.EPOCH) lo len :=
    congrArg (fld · lo len) (hown (by decide))
  have hbt : (pgTransferPoint s m).bt (pgOff m PG.EPOCH) 16 = (groupLanded s m).bt (pgOff m PG.EPOCH) 16 :=
    congrArg (bit · 16) (hown (by decide))
  obtain ⟨hepoch, hhold, hperiod, hkept⟩ := groupLanded_own (s := s) (m := m)
  constructor
  case xferAt => rw [hpg]; rfl
  case pwrit => rw [hpg]; rfl
  case cwrit => rw [hpg]; rfl
  case epoch => rw [hfl, hepoch]
  case split =>
    intro h
    have he : groupReported s m = (pgEvent (groupStepped s m) m 3).raise FS.SPLIT (w32 m.val) := if_pos h
    have hafter : Works (groupPointReg m) m (groupReported s m) (pgTransferPoint s m) :=
      (groupReported_landed.mono fun _ => .inl).trans members_works
    refine ⟨hafter.events 3 ?_, hafter.raised _ (by decide) ?_⟩
    · rw [he, State.bt, (raise_reports ..).rd _ pgOff_not_raiseReg]
      exact (pgEvent_bt (by decide)).trans (Bool.true_or _)
    · rw [he]
      exact raise_raised _ (by decide) _
  case hold =>
    intro h
    rw [hpg, hown (by decide), hbt, hfl, hfl]
    exact ⟨decide_eq_true h, hhold h⟩
  case unheld => exact fun h => by rw [hpg]; exact decide_eq_false h
  case period =>
    intro h hh
    rw [hown (by decide), hbt]
    exact hperiod h hh
  case phases =>
    intro h
    rw [hpg, Pg.atPoint, decide_eq_true h]
    exact ⟨Bool.and_false _, fun k => by simp [phaseShadows, State.rdPg]⟩
  case keptPhases => exact fun h => by rw [hpg, Pg.atPoint, decide_eq_false h]; rfl
  case keptPeriod => exact fun h hh => by rw [hown (by decide), hkept h hh]
  case members => exact fun n hn hf => pgTransferPoint_member hn hf
end
end Sys2Proof.Machine

/-!
# What follows a transfer point of a group, and the counting of groups (O29)
-/

namespace Sys2Proof.Machine

section
variable {s t u v : State} {m : Fin 16} {n : Fin 96} {p p' : Nat → Prop} {q : Fin 96 → Prop} {o b k : Nat} {α β : Type} {g : Pg → α}

/-! ### What work on a group leaves of it -/

/-- From `s` to `t` group `m` has been worked on, but `g` of it stays. -/
structure WorksBeside (g : Pg → α) (p : Nat → Prop) (m : Fin 16) (s t : State) : Prop extends Works p m s t where
  group : g t.pg[m] = g s.pg[m]

theorem WorksBeside.refl : WorksBeside g p m s s := ⟨.refl, rfl⟩

theorem WorksBeside.trans (h : WorksBeside g p m s t) (k : WorksBeside g p m t u) : WorksBeside g p m s u :=
  ⟨h.toWorks.trans k.toWorks, k.group.trans h.group⟩

theorem WorksBeside.ite {c : Prop} [Decidable c] (ht : WorksBeside g p m s t) (hu : WorksBeside g p m s u) :
    WorksBeside g p m s (if c then t else u) := by
  split
  · exact ht
  · exact hu

/-- What is read off `g` stays with it. -/
theorem WorksBeside.map {g' : Pg → β} (f : α → β) (hg : ∀ x, f (g x) = g' x) (hp : ∀ o, p o → p' o) (h : WorksBeside g p m s t) :
    WorksBeside g' p' m s t :=
  ⟨h.toWorks.mono hp, by rw [← hg, ← hg, h.group]⟩

theorem WorksBeside.updPg {f : Pg → Pg} (hf : ∀ x, g (f x) = g x) (h : WorksBeside g p m s t) : WorksBeside g p m s (t.updPg m f) := by
  refine ⟨h.toWorks.updPg, ?_⟩
  rw [State.updPg_pg, if_pos rfl, hf, h.group]

theorem WorksBeside.of_pg (hw : Works p m s u) (hpg : u.pg = t.pg) (h : WorksBeside g p m s t) : WorksBeside g p m s u :=
  ⟨hw, by rw [hpg, h.group]⟩

theorem WorksBeside.dates (hd : Dates t u) (h : WorksBeside g p m s t) : WorksBeside g p m s u :=
  .of_pg (t := t) (h.toWorks.dates hd) (congrArg State.pg hd.rest :) h
theorem WorksBeside.acts (hp : ∀ o, p' o → p o ∧ 0x10000 ≤ o) (ha : Acts p' q t u) (h : WorksBeside g p m s t) : WorksBeside g p m s u :=
  .of_pg (h.toWorks.acts hp ha) ha.pg h
theorem WorksBeside.pgEvent (hb : b < 32) (hp : p (pgOff m PG.EVT)) (h : WorksBeside g p m s t) : WorksBeside g p m s (pgEvent t m b) :=
  .of_pg (h.toWorks.pgEvent hb hp) pgEvent_pg h
theorem WorksBeside.raise {d : Word} (hp : ∀ o, raiseReg o → p o) (h : WorksBeside g p m s t) : WorksBeside g p m s (t.raise k d) :=
  .of_pg (h.toWorks.raise hp) (raise_reports ..).pg h
theorem WorksBeside.raiseLevel {d : Word} (hp : ∀ o, raiseReg o → p o) (hk : k < 256) (h : WorksBeside g p m s t) :
    WorksBeside g p m s (t.raiseLevel k d) :=
  .of_pg (h.toWorks.raiseLevel hp hk) (raiseLevel_reports hk d).pg h

/-! ### Trips and counts behind a transfer point -/

/-- The registers that the trips of group `m` and the counts of its members write. -/
def trailReg (m : Fin 16) (o : Nat) : Prop :=
  raiseReg o ∨ o = pgOff m PG.EVT ∨ o = pgOff m PG.TRIPSTAT ∨ o = R.LIFE_TRIP + 4 * m.val ∨ ∃ n, o = chOff n CH.CNT

/-- What of a group a transfer point settles. -/
def Pg.pointed (g : Pg) : Nat × Bool × Bool × Bool × Bool × Vector Word 12 := (g.xferAt, g.pwrit, g.cwrit, g.held, g.loadArm, g.mphAct)

/-- Its count, beside that. -/
def Pg.moved (g : Pg) : Bool × Nat × Nat × Bool × Bool × Bool × Bool × Vector Word 12 := (g.down, g.took, g.pointed)

/-- What of a group trips and counts of its members leave. -/
def Pg.counted (g : Pg) : Nat × Bool × Nat × Nat × Bool × Bool × Bool × Bool × Vector Word 12 := (g.boundAt, g.moved)

/-- From `s` to `t` trips of group `m` and counts of its members have followed. -/
abbrev Trails (m : Fin 16) : State → State → Prop := WorksBeside Pg.counted (trailReg m) m

/-- An asserted trip leaves the counts and the shadows of its group. -/
theorem Trails.tripFire (h : Trails m s t) : Trails m s (tripFire t m) := by
  have hr : ∀ o, raiseReg o → trailReg m o := fun _ => .inl
  have he : trailReg m (pgOff m PG.EVT) := .inr (.inl rfl)
  have hlife : ¬raiseReg (R.LIFE_TRIP + 4 * m.val) := by
    simp only [raiseReg, recordReg, R.LIFE_TRIP]
    omega
  have h1 : Trails m s (tripShown t m) := .ite (.pgEvent (by decide) he h) (.raise hr (.pgEvent (by decide) he h))
  have h2 : Trails m s (tripTotalled t m) :=
    .ite h1 (.of_pg (t := tripShown t m) (.upd (.inr (.inr (.inr (.inl rfl)))) hlife lifeTrip_ne.symm
      (.satFl (.inr (.inr (.inl rfl))) pgOff_not_raiseReg (by simp) h1.toWorks)) rfl h1)
  have h3 : Trails m s (tripTaken t m) := .updPg (fun _ => rfl) h2
  have h4 : Trails m s (latchedOff t m) := .raiseLevel hr latchoff_lt (.pgEvent (by decide) he (.updPg (fun _ => rfl) h3))
  have h5 : Trails m s (tripLatched t m) := .ite h4 h3
  rw [tripFire_eq]
  exact .acts (fun _ => False.elim) padMembers_drives.toActs h5

/-- The members that are released drive their pins. -/
theorem releaseMembers_drives :
    Drives (fun _ => False) (fun _ => True) (s.updPg m (fun g => { g with tripped := false })) (releaseMembers s m) :=
  List.foldlRecOn _ _ .refl fun _ hv _ _ =>
    .ite (.updPad trivial (.afterTicks (.dropDue (.updCh trivial (fun _ => rfl) hv)))) (.updPad trivial hv)

theorem Trails.releaseMembers (h : Trails m s t) : Trails m s (releaseMembers t m) :=
  .acts (fun _ => False.elim) releaseMembers_drives.toActs (.updPg (fun _ => rfl) h)

theorem Trails.tripBoundary (h : Trails m s t) : Trails m s (tripBoundary t m) := by
  have h1 : Trails m s (t.updPg m (fun g => { g with tripHist := (g.tripNow :: g.tripHist).take 254, tripNow := false, tripTot := false })) :=
    .updPg (fun _ => rfl) h
  exact .ite (.ite h1.tripFire h1) (.ite h1.releaseMembers h1)

theorem startFollowers_dates : Dates s (startFollowers s m) := .foldl (fun _ _ => .onIf .after) _

theorem cascadeMembers_dates : Dates s (eachMember s m (fun s n => if memberCounts s n then cascadeFrom s n else s)) :=
  .foldl (fun _ _ => .onIf cascadeFrom_dates) _

theorem countMembers_acts : Acts (fun o => ∃ n, o = chOff n CH.CNT) (fun _ => True) s (countMembers s m) := by
  refine eachMember_acts fun v n => .ite ?_ .refl
  unfold takeCount
  exact .updCh trivial (.wr ⟨n, rfl⟩ .refl)

theorem Trails.countMembers (h : Trails m s t) : Trails m s (countMembers t m) := by
  refine .acts (fun o ho => ⟨.inr (.inr (.inr (.inr ho))), ?_⟩) countMembers_acts h
  obtain ⟨n, rfl⟩ := ho
  simp only [chOff]
  omega

/-! ### A transfer point in its tick -/

/-- The registers written behind a transfer point: besides those of trips and of the members' counts, the group's own count. -/
def afterReg (m : Fin 16) (o : Nat) : Prop := trailReg m o ∨ o = pgOff m PG.CNT

theorem pgOff_not_trailReg {x : Nat} (hx : x < 0x100) (h : x ≠ PG.EVT ∧ x ≠ PG.TRIPSTAT) : ¬trailReg m (pgOff m x) := by
  have hm := m.isLt
  rintro (hr | he | he | he | ⟨n, he⟩)
  · exact pgOff_not_raiseReg hr
  · exact h.1 (pgOff_inj.mp he)
  · exact h.2 (pgOff_inj.mp he)
  · exact lifeTrip_ne he
  · simp only [pgOff, chOff] at he
    omega

theorem chOff_not_trailReg {x : Nat} (hx : x < 0x100) (h : x ≠ CH.CNT) : ¬trailReg m (chOff n x) := by
  have hm := m.isLt
  rintro (hr | he | he | he | ⟨k, he⟩)
  · exact chOff_not_raiseReg hr
  · simp only [pgOff, chOff, PG.EVT] at he
    omega
  · simp only [pgOff, chOff, PG.TRIPSTAT] at he
    omega
  · simp only [R.LIFE_TRIP, chOff] at he
    omega
  · exact h (((chOff_eq_chOff hx (by decide)).mp he).2)

theorem chOff_not_afterReg {x : Nat} (hx : x < 0x100) (h : x ≠ CH.CNT) : ¬afterReg m (chOff n x) := by
  rintro (ht | he)
  · exact chOff_not_trailReg hx h ht
  · have hm := m.isLt
    simp only [pgOff, chOff, PG.CNT] at he
    omega

theorem pgOff_not_afterReg {x : Nat} (hx : x < 0x100) (h : x ≠ PG.EVT ∧ x ≠ PG.TRIPSTAT ∧ x ≠ PG.CNT) : ¬afterReg m (pgOff m x) := by
  rintro (ht | he)
  · exact pgOff_not_trailReg hx ⟨h.1, h.2.1⟩ ht
  · exact h.2.2 (pgOff_inj.mp he)

/-- What follows a transfer point leaves what it has done. -/
theorem GroupPoint.later (h : GroupPoint m s t) (g : WorksBeside Pg.pointed (afterReg m) m t u) : GroupPoint m s u := by
  have hg := g.group
  simp only [Pg.pointed, Prod.mk.injEq] at hg
  obtain ⟨hxfer, hpwrit, hcwrit, hheld, hload, hphases⟩ := hg
  have hepoch : u.rd (pgOff m PG.EPOCH) = t.rd (pgOff m PG.EPOCH) := g.rd _ (pgOff_not_afterReg (by decide) (by decide))
  have hperiod : u.rd (pgOff m PG.PERIOD_ACT) = t.rd (pgOff m PG.PERIOD_ACT) := g.rd _ (pgOff_not_afterReg (by decide) (by decide))
  have hch {n : Fin 96} {x : Nat} (hx : x < 0x100) (hne : x ≠ CH.CNT) : u.rd (chOff n x) = t.rd (chOff n x) :=
    g.rd _ (chOff_not_afterReg hx hne)
  have hfl (lo len : Nat) : u.fl (pgOff m PG.EPOCH) lo len = t.fl (pgOff m PG.EPOCH) lo len := congrArg (fld · lo len) hepoch
  have hbt : u.bt (pgOff m PG.EPOCH) 16 = t.bt (pgOff m PG.EPOCH) 16 := congrArg (bit · 16) hepoch
  constructor
  case xferAt => rw [hxfer, h.xferAt]
  case pwrit => rw [hpwrit, h.pwrit]
  case cwrit => rw [hcwrit, h.cwrit]
  case epoch => rw [hfl, h.epoch]
  case split => exact fun hs => ⟨g.events 3 (h.split hs).1, g.raised _ (by decide) (h.split hs).2⟩
  case hold =>
    intro hh
    rw [hheld, hperiod, hbt, hfl, hfl]
    exact h.hold hh
  case unheld => exact fun hh => by rw [hheld, h.unheld hh]
  case period =>
    intro hx hh
    rw [hperiod, hbt]
    exact h.period hx hh
  case phases =>
    intro hx
    rw [hload, hphases]
    exact h.phases hx
  case keptPhases => exact fun hx => by rw [hphases, h.keptPhases hx]
  case keptPeriod => exact fun hx hh => by rw [hperiod, h.keptPeriod hx hh]
  case members =>
    intro n hn hf
    obtain ⟨h08, h4, hcmp⟩ := h.members n hn hf
    refine ⟨?_, ?_, fun hx k => ?_⟩
    · rw [← h08, State.fl, hch (by decide) (by decide)]
      rfl
    · rw [← h4, State.bt, hch (by decide) (by decide)]
      rfl
    · have hk := k.isLt
      rw [hch (by simp only [CH.CMPA_ACT]; omega) (by simp only [CH.CMPA_ACT, CH.CNT]; omega), hcmp hx k]

/-- The registers of the events of a group and of its members. -/
def eventReg (m : Fin 16) (o : Nat) : Prop := o = pgOff m PG.EVT ∨ ∃ n, o = chOff n CH.EVT

/-- The registers written ahead of a transfer point: the group's count, and events. -/
def aheadReg (m : Fin 16) (o : Nat) : Prop := o = pgOff m PG.CNT ∨ eventReg m o

theorem pgOff_not_aheadReg {x : Nat} (hx : x < 0x100) (h : x ≠ PG.EVT ∧ x ≠ PG.CNT) : ¬aheadReg m (pgOff m x) := by
  have hm := m.isLt
  rintro (he | he | ⟨n, he⟩)
  · exact h.2 (pgOff_inj.mp he)
  · exact h.1 (pgOff_inj.mp he)
  · simp only [pgOff, chOff] at he
    omega

theorem chOff_not_aheadReg {x : Nat} (hx : x < 0x100) (h : x ≠ CH.EVT) : ¬aheadReg m (chOff n x) := by
  have hm := m.isLt
  rintro (he | he | ⟨k, he⟩)
  · simp only [pgOff, chOff, PG.CNT] at he
    omega
  · simp only [pgOff, chOff, PG.EVT] at he
    omega
  · exact h (((chOff_eq_chOff hx (by decide)).mp he).2)

/-- From `s` to `t` group `m` has been worked on, but `g` of it and the channels stay. -/
structure WorksAhead (g : Pg → α) (p : Nat → Prop) (m : Fin 16) (s t : State) : Prop extends WorksBeside g p m s t where
  ch : t.ch = s.ch

/-- A transfer point behind it does what one in the state before it does: it finds the same. -/
theorem GroupPoint.earlier (h : WorksAhead Pg.pointed (aheadReg m) m s t) (g : GroupPoint m t u) : GroupPoint m s u := by
  have hg := h.group
  simp only [Pg.pointed, Prod.mk.injEq] at hg
  obtain ⟨-, hpwrit, hcwrit, hheld, hload, hphases⟩ := hg
  have hpg {x : Nat} (hx : x < 0x100) (hne : x ≠ PG.EVT ∧ x ≠ PG.CNT) : t.rd (pgOff m x) = s.rd (pgOff m x) :=
    h.rd _ (pgOff_not_aheadReg hx hne)
  have hch {n : Fin 96} {x : Nat} (hx : x < 0x100) (hne : x ≠ CH.EVT) : t.rd (chOff n x) = s.rd (chOff n x) :=
    h.rd _ (chOff_not_aheadReg hx hne)
  have hmode : tMode t m = tMode s m := by
    unfold tMode State.fl
    rw [hpg (by decide) (by decide)]
  have hsplit : PointSplits t m = PointSplits s m := by rw [PointSplits, hmode, hpwrit, hcwrit, hheld]
  have hxfer : PointXfers t m = PointXfers s m := by rw [PointXfers, hmode, hload]
  have hhold : PointHolds t m = PointHolds s m := by
    rw [PointHolds, hsplit, State.bt, hpg (by decide) (by decide)]
    rfl
  have hperiod := hpg (x := PG.PERIOD_ACT) (by decide) (by decide)
  have hshadow : t.rd (pgOff m PG.PERIOD) = s.rd (pgOff m PG.PERIOD) := hpg (by decide) (by decide)
  constructor
  case xferAt => rw [g.xferAt, h.now]
  case pwrit => exact g.pwrit
  case cwrit => exact g.cwrit
  case epoch =>
    rw [g.epoch, State.fl, hpg (by decide) (by decide)]
    rfl
  case split => exact fun hs => g.split (hsplit ▸ hs)
  case hold =>
    intro hh
    rw [← hperiod]
    exact g.hold (hhold ▸ hh)
  case unheld => exact fun hh => g.unheld (hhold ▸ hh)
  case period =>
    intro hx hh
    rw [← hshadow]
    rw [← hxfer, ← hheld] at hx
    exact g.period hx (hhold ▸ hh)
  case phases =>
    intro hx
    obtain ⟨hl, hph⟩ := g.phases (hxfer ▸ hx)
    refine ⟨hl, fun k => ?_⟩
    have hk := k.isLt
    rw [hph k, hpg (by simp only [PG.MPH]; omega) (by simp only [PG.MPH, PG.EVT, PG.CNT]; omega)]
  case keptPhases => exact fun hx => (g.keptPhases (hxfer ▸ hx)).trans hphases
  case keptPeriod => exact fun hx hh => (g.keptPeriod (hxfer ▸ hx) (hheld.trans hh)).trans hperiod
  case members =>
    intro n hn hf
    have hn' : follows t n = some m := (follows_congr (hch (by decide) (by decide)) (hch (by decide) (by decide))).trans hn
    obtain ⟨h08, h4, hcmp⟩ := g.members n hn' (by rw [h.ch]; exact hf)
    refine ⟨?_, h4, fun hx k => ?_⟩
    · rw [h08, State.fl, hch (by decide) (by decide)]
      rfl
    · have hk := k.isLt
      rw [hcmp (hxfer ▸ hx) k, hch (by simp only [CH.CMPA]; omega) (by simp only [CH.CMPA, CH.EVT]; omega)]

/-! ### The advance of a group (R88) -/

theorem WorksAhead.refl : WorksAhead g p m s s := ⟨.refl, rfl⟩

theorem WorksAhead.trans (h : WorksAhead g p m s t) (k : WorksAhead g p m t u) : WorksAhead g p m s u :=
  ⟨h.toWorksBeside.trans k.toWorksBeside, k.ch.trans h.ch⟩

theorem WorksAhead.map {g' : Pg → β} (f : α → β) (hg : ∀ x, f (g x) = g' x) (hp : ∀ o, p o → p' o) (h : WorksAhead g p m s t) :
    WorksAhead g' p' m s t :=
  ⟨h.toWorksBeside.map f hg hp, h.ch⟩

theorem WorksAhead.ite {c : Prop} [Decidable c] (ht : WorksAhead g p m s t) (hu : WorksAhead g p m s u) :
    WorksAhead g p m s (if c then t else u) := by
  split
  · exact ht
  · exact hu

theorem WorksAhead.updPg {f : Pg → Pg} (hf : ∀ x, g (f x) = g x) (h : WorksAhead g p m s t) : WorksAhead g p m s (t.updPg m f) :=
  ⟨h.toWorksBeside.updPg hf, h.ch⟩

theorem WorksAhead.pgEvent (hb : b < 32) (hp : p (pgOff m PG.EVT)) (h : WorksAhead g p m s t) : WorksAhead g p m s (pgEvent t m b) :=
  ⟨.pgEvent hb hp h.toWorksBeside, by rw [pgEvent_dates.ch, State.setEv_ch, h.ch]⟩

/-- An event of every member. -/
theorem memberEvents_acts : Acts (fun o => ∃ n, o = chOff n CH.EVT) (fun _ => False) s (eachMember s m (fun s n => chEvent s n b)) :=
  eachMember_acts fun _ n => .chEvent ⟨n, rfl⟩ .refl

theorem WorksAhead.memberEvents (hp : ∀ n, p (chOff n CH.EVT)) (h : WorksAhead g p m s t) :
    WorksAhead g p m s (eachMember t m (fun s n => chEvent s n b)) := by
  refine ⟨.acts (fun o ho => ?_) memberEvents_acts h.toWorksBeside, ?_⟩
  · obtain ⟨n, rfl⟩ := ho
    refine ⟨hp n, ?_⟩
    simp only [chOff]
    omega
  · rw [← h.ch]
    exact Vector.ext fun i hi => memberEvents_acts.ch_ne ⟨i, hi⟩ id

/-! ### The advance of a group (R88) -/

variable {a : Advance}

/-- Whether an advance passes a transfer point: at a boundary, and at a peak under PEAKX. -/
def advancePasses (s : State) (m : Fin 16) (a : Advance) : Bool := a.bound || (a.peak && s.bt (pgOff m PG.CTRL) 5)

/-- The group's own events of an advance. -/
def advanceEvents (s : State) (m : Fin 16) (a : Advance) : State :=
  let v := if a.peak then pgEvent (setGroupCount s m a.cnt a.down) m 1 else setGroupCount s m a.cnt a.down
  if advancePasses s m a then pgEvent v m 0 else v

/-- The state in which the group has counted and its events show it. -/
def advanceShown (s : State) (m : Fin 16) (a : Advance) : State :=
  if a.boundShort || a.peakShort then eachMember (pgEvent (advanceEvents s m a) m 2) m (fun s n => chEvent s n 5) else advanceEvents s m a

/-- … in which the transfer point, where there is one, has passed … -/
def advancePassed (s : State) (m : Fin 16) (a : Advance) : State :=
  if advancePasses s m a then pgTransferPoint (advanceShown s m a) m else advanceShown s m a

/-- … and in which the members count, and the boundary, where there is one, is the group's last. -/
def advanceCounted (s : State) (m : Fin 16) (a : Advance) : State :=
  let v := countMembers (advancePassed s m a) m
  if a.bound then v.updPg m (fun g => { g with boundAt := v.now }) else v

/-- What a boundary brings behind that: trips, waiting groups, and the channels above counting members. -/
def boundaryFollowed (s : State) (m : Fin 16) : State :=
  eachMember (startFollowers (tripBoundary s m) m) m (fun s n => if memberCounts s n then cascadeFrom s n else s)

theorem pgApply_eq : pgApply s m a = if a.bound then boundaryFollowed (advanceCounted s m a) m else advanceCounted s m a := by
  have hctrl : (setGroupCount s m a.cnt a.down).bt (pgOff m PG.CTRL) 5 = s.bt (pgOff m PG.CTRL) 5 := by
    rw [State.bt, setGroupCount, State.updPg_rd, State.wr_rd, if_neg (by simp)]
    rfl
  have he : pgApply s m a =
      let v := countMembers (advancePassed s m a) m
      let w := if a.bound then startFollowers (tripBoundary (v.updPg m (fun g => { g with boundAt := v.now })) m) m else v
      if a.bound then eachMember w m (fun s n => if memberCounts s n then cascadeFrom s n else s) else w := by
    simp only [pgApply, hctrl]
    rfl
  rw [he, advanceCounted]
  by_cases hb : a.bound = true
  · simp only [hb, if_true]
    rfl
  · simp only [hb]
    rfl

/-- Before its transfer point an advance changes the count and shows events. -/
theorem advanceShown_counted : WorksAhead id (eventReg m) m (setGroupCount s m a.cnt a.down) (advanceShown s m a) := by
  have he : eventReg m (pgOff m PG.EVT) := .inl rfl
  have h1 : WorksAhead id (eventReg m) m (setGroupCount s m a.cnt a.down) (advanceEvents s m a) := by
    have hp : WorksAhead id (eventReg m) m (setGroupCount s m a.cnt a.down)
        (if a.peak then pgEvent (setGroupCount s m a.cnt a.down) m 1 else setGroupCount s m a.cnt a.down) :=
      .ite (.pgEvent (by decide) he .refl) .refl
    exact .ite (.pgEvent (by decide) he hp) hp
  exact .ite (.memberEvents (fun n => .inr ⟨n, rfl⟩) (.pgEvent (by decide) he h1)) h1

theorem setGroupCount_ahead {cnt : Nat} {down : Bool} : WorksAhead Pg.pointed (aheadReg m) m s (setGroupCount s m cnt down) := by
  refine ⟨.updPg (fun _ => rfl) (.of_pg (t := s) (.wr (.inl rfl) pgOff_not_raiseReg (by simp) .refl) rfl .refl), ?_⟩
  rw [setGroupCount, State.updPg_ch, State.wr_ch]

theorem setGroupCount_later {cnt : Nat} {down : Bool} : WorksBeside Pg.pointed (afterReg m) m s (setGroupCount s m cnt down) :=
  .updPg (fun _ => rfl) (.of_pg (t := s) (.wr (.inr rfl) pgOff_not_raiseReg (by simp) .refl) rfl .refl)

theorem setGroupCount_pg {cnt : Nat} {down : Bool} : (setGroupCount s m cnt down).pg[m] = { s.pg[m] with down := down, took := s.now } :=
  (State.updPg_pg ..).trans (if_pos rfl)

theorem setGroupCount_rd {cnt : Nat} {down : Bool} :
    (setGroupCount s m cnt down).rd o = if o = pgOff m PG.CNT then BitVec.ofNat 32 cnt else s.rd o := State.wr_rd ..

theorem advanceShown_ahead : WorksAhead Pg.pointed (aheadReg m) m s (advanceShown s m a) :=
  setGroupCount_ahead.trans (advanceShown_counted.map Pg.pointed (fun _ => rfl) fun _ => .inr)

/-- The events that show an advance. -/
theorem advanceShown_events : (a.peak = true → (advanceShown s m a).bt (pgOff m PG.EVT) 1 = true)
    ∧ (advancePasses s m a = true → (advanceShown s m a).bt (pgOff m PG.EVT) 0 = true)
    ∧ (a.boundShort = true ∨ a.peakShort = true → (advanceShown s m a).bt (pgOff m PG.EVT) 2 = true) := by
  have hset {v : State} {i : Nat} (hi : i < 32) : (pgEvent v m i).bt (pgOff m PG.EVT) i = true :=
    (pgEvent_bt hi).trans (by rw [decide_eq_true rfl, Bool.true_or])
  have hkeep {v : State} {i j : Nat} (hj : j < 32) (h : v.bt (pgOff m PG.EVT) i = true) : (pgEvent v m j).bt (pgOff m PG.EVT) i = true :=
    (pgEvent_bt hj).trans (by rw [h, Bool.or_true])
  have hmembers {v : State} {i : Nat} (h : v.bt (pgOff m PG.EVT) i = true) :
      (eachMember v m (fun s n => chEvent s n 5)).bt (pgOff m PG.EVT) i = true :=
    (WorksAhead.memberEvents (g := id) (p := eventReg m) (fun n => .inr ⟨n, rfl⟩) .refl).events i h
  have hshown {i : Nat} (h : (advanceEvents s m a).bt (pgOff m PG.EVT) i = true) : (advanceShown s m a).bt (pgOff m PG.EVT) i = true := by
    unfold advanceShown
    split
    · exact hmembers (hkeep (by decide) h)
    · exact h
  refine ⟨fun h => hshown ?_, fun h => hshown ?_, fun h => ?_⟩
  · rw [advanceEvents, if_pos h]
    split
    · exact hkeep (by decide) (hset (by decide))
    · exact hset (by decide)
  · rw [advanceEvents, if_pos h]
    exact hset (by decide)
  · rw [advanceShown, if_pos (by simpa using h)]
    exact hmembers (hset (by decide))

/-- A transfer point leaves the group's count, and whether it runs. -/
theorem pgTransferPoint_keeps : (pgTransferPoint s m).pg[m].down = s.pg[m].down ∧ (pgTransferPoint s m).pg[m].took = s.pg[m].took
    ∧ (pgTransferPoint s m).pg[m].run = s.pg[m].run ∧ (pgTransferPoint s m).pg[m].armed = s.pg[m].armed := by
  rw [pgTransferPoint_pg]
  exact ⟨rfl, rfl, rfl, rfl⟩

/-- The count that an advance has brought is in place, and its events, when the transfer point has passed. -/
theorem advancePassed_moved : Works (groupPointReg m) m (advanceShown s m a) (advancePassed s m a)
    ∧ (advancePassed s m a).pg[m].down = a.down ∧ (advancePassed s m a).pg[m].took = s.now := by
  have hg : (advanceShown s m a).pg[m] = { s.pg[m] with down := a.down, took := s.now } := advanceShown_counted.group.trans setGroupCount_pg
  unfold advancePassed
  split
  · obtain ⟨hdown, htook, -, -⟩ := pgTransferPoint_keeps (s := advanceShown s m a) (m := m)
    refine ⟨pgTransferPoint_works, ?_, ?_⟩
    · rw [hdown, hg]
    · rw [htook, hg]
  · refine ⟨.refl, ?_, ?_⟩
    · rw [hg]
    · rw [hg]

/-- What follows the transfer point in its tick. -/
theorem pgApply_trails : WorksBeside Pg.moved (trailReg m) m (advancePassed s m a) (pgApply s m a)
    ∧ (a.bound = true → (pgApply s m a).pg[m].boundAt = s.now) := by
  have hcount : Trails m (advancePassed s m a) (countMembers (advancePassed s m a) m) := Trails.countMembers .refl
  have hcounted : WorksBeside Pg.moved (trailReg m) m (advancePassed s m a) (advanceCounted s m a) :=
    .ite (.updPg (fun _ => rfl) (hcount.map Prod.snd (fun _ => rfl) fun _ => id)) (hcount.map Prod.snd (fun _ => rfl) fun _ => id)
  rw [pgApply_eq]
  by_cases hb : a.bound = true
  · have htrips : Trails m (advanceCounted s m a) (boundaryFollowed (advanceCounted s m a) m) :=
      .dates cascadeMembers_dates (.dates startFollowers_dates (Trails.tripBoundary .refl))
    rw [if_pos hb]
    refine ⟨hcounted.trans (htrips.map Prod.snd (fun _ => rfl) fun _ => id), fun _ => ?_⟩
    have hat : (advanceCounted s m a).pg[m].boundAt = s.now := by
      rw [advanceCounted, if_pos hb, State.updPg_pg, if_pos rfl]
      exact (hcount.now.trans advancePassed_moved.1.now).trans advanceShown_ahead.now
    exact (congrArg Prod.fst htrips.group).trans hat
  · rw [if_neg hb]
    exact ⟨hcounted, fun h => absurd h hb⟩

theorem pgOff_not_groupPointReg {x : Nat} (hx : x < 0x100) (h : x ≠ PG.EVT ∧ x ≠ PG.EPOCH ∧ x ≠ PG.PERIOD_ACT) :
    ¬groupPointReg m (pgOff m x) := by
  rintro ((hr | he | he | he) | ⟨n, hn⟩)
  · exact pgOff_not_raiseReg hr
  · exact h.1 (pgOff_inj.mp he)
  · exact h.2.1 (pgOff_inj.mp he)
  · exact h.2.2 (pgOff_inj.mp he)
  · exact pgOff_not_pointReg hx hn

theorem cnt_not_eventReg : ¬eventReg m (pgOff m PG.CNT) := by
  have hm := m.isLt
  rintro (he | ⟨n, he⟩)
  · exact absurd (pgOff_inj.mp he) (by decide)
  · simp only [pgOff, chOff, PG.CNT] at he
    omega

/-- What `Obligations.GroupCounting` says of every advance. -/
theorem pgApply_moved : ((∀ k, k ≠ m → (pgApply s m a).pg[k] = s.pg[k]) ∧ (pgApply s m a).mem = s.mem)
    ∧ (pgApply s m a).rd (pgOff m PG.CNT) = BitVec.ofNat 32 a.cnt ∧ (pgApply s m a).pg[m].down = a.down ∧ (pgApply s m a).pg[m].took = s.now
    ∧ (a.boundShort = true ∨ a.peakShort = true → (pgApply s m a).bt (pgOff m PG.EVT) 2 = true) := by
  obtain ⟨hpass, hdown, htook⟩ := advancePassed_moved (s := s) (m := m) (a := a)
  obtain ⟨htrail, -⟩ := pgApply_trails (s := s) (m := m) (a := a)
  have hgroup := htrail.group
  simp only [Pg.moved, Prod.mk.injEq] at hgroup
  have hall : Works (fun _ => True) m s (pgApply s m a) :=
    (advanceShown_ahead.toWorks.mono fun _ _ => trivial).trans
      ((hpass.mono fun _ _ => trivial).trans (htrail.toWorks.mono fun _ _ => trivial))
  refine ⟨⟨hall.others, hall.mem⟩, ?_, hgroup.1.trans hdown, hgroup.2.1.trans htook, fun h => ?_⟩
  · rw [htrail.rd _ (pgOff_not_trailReg (by decide) (by decide)), hpass.rd _ (pgOff_not_groupPointReg (by decide) (by decide)),
      advanceShown_counted.rd _ cnt_not_eventReg, setGroupCount_rd, if_pos rfl]
  · exact htrail.events 2 (hpass.events 2 (advanceShown_events.2.2 h))

theorem pgApply_peak (h : a.peak = true) : (pgApply s m a).bt (pgOff m PG.EVT) 1 = true :=
  pgApply_trails.1.events 1 (advancePassed_moved.1.events 1 (advanceShown_events.1 h))

/-- … and of one that passes a transfer point. -/
theorem pgApply_point (h : advancePasses s m a = true) : GroupPoint m s (pgApply s m a) ∧ (pgApply s m a).bt (pgOff m PG.EVT) 0 = true := by
  have hpass : advancePassed s m a = pgTransferPoint (advanceShown s m a) m := if_pos h
  obtain ⟨htrail, -⟩ := pgApply_trails (s := s) (m := m) (a := a)
  have hlater : WorksBeside Pg.pointed (afterReg m) m (advancePassed s m a) (pgApply s m a) := htrail.map (fun x => x.2.2) (fun _ => rfl) fun _ => .inl
  rw [hpass] at hlater
  refine ⟨.earlier advanceShown_ahead (pgTransferPoint_point.later hlater), ?_⟩
  exact htrail.events 0 (advancePassed_moved.1.events 0 (advanceShown_events.2.1 h))

/-! ### The start of a group (R89) -/

/-- The state in which an armed group runs and shows it. -/
def startShown (s : State) (m : Fin 16) : State :=
  pgEvent (s.updPg m (fun g => { g with run := true, armed := false, startNext := false })) m 6

/-- The count and direction at which it starts, with PHASE and the period that has transferred. -/
def startCount (s : State) (m : Fin 16) : Nat × Bool :=
  memberAt (pgMode s m) (s.rdPg m PG.PERIOD_ACT).toNat (s.rdPg m PG.PHASE).toNat 0

/-- The state in which the group has passed its transfer point and taken that count. -/
def groupStarted (s : State) (m : Fin 16) : State :=
  let v := pgTransferPoint (startShown s m) m
  countMembers (setGroupCount v m (startCount v m).1 (startCount v m).2) m

theorem execPgGroupStart_armed (he : pgEn s m = true) (ha : s.pg[m].armed = true) (hr : s.pg[m].run = false) :
    execPgGroupStart m s = .next (groupStarted s m) := if_pos (by rw [he, ha, hr]; rfl)

theorem startShown_ahead : WorksAhead Pg.pointed (aheadReg m) m s (startShown s m) :=
  .pgEvent (by decide) (.inr (.inl rfl)) (.updPg (fun _ => rfl) .refl)

/-- What follows the transfer point of a start. -/
theorem groupStarted_later : WorksBeside Pg.pointed (afterReg m) m (pgTransferPoint (startShown s m) m) (groupStarted s m) := by
  have hcount : WorksBeside Pg.pointed (afterReg m) m (pgTransferPoint (startShown s m) m) _ :=
    setGroupCount_later (cnt := (startCount (pgTransferPoint (startShown s m) m) m).1) (down := (startCount (pgTransferPoint (startShown s m) m) m).2)
  exact hcount.trans ((Trails.countMembers .refl).map (fun x => x.2.2.2) (fun _ => rfl) fun _ => .inl)

/-- The starting count is that of the registers after the start. -/
theorem groupStarted_count : startCount (pgTransferPoint (startShown s m) m) m =
    memberAt (pgMode s m) ((groupStarted s m).rd (pgOff m PG.PERIOD_ACT)).toNat (s.rd (pgOff m PG.PHASE)).toNat 0 := by
  have hkept {x : Nat} (hx : x < 0x100) (h : x ≠ PG.EVT ∧ x ≠ PG.EPOCH ∧ x ≠ PG.PERIOD_ACT) (hc : x ≠ PG.CNT) :
      (pgTransferPoint (startShown s m) m).rd (pgOff m x) = s.rd (pgOff m x) :=
    (pgTransferPoint_works.rd _ (pgOff_not_groupPointReg hx h)).trans (startShown_ahead.rd _ (pgOff_not_aheadReg hx ⟨h.1, hc⟩))
  have hmode : pgMode (pgTransferPoint (startShown s m) m) m = pgMode s m := by
    unfold pgMode State.fl
    rw [hkept (by decide) (by decide) (by decide)]
  rw [startCount, hmode, State.rdPg, State.rdPg, hkept (x := PG.PHASE) (by decide) (by decide) (by decide),
    groupStarted_later.rd _ (pgOff_not_afterReg (by decide) (by decide))]

/-- What `Obligations.GroupCounting` says of the start. -/
theorem groupStarted_spec : ((∀ k, k ≠ m → (groupStarted s m).pg[k] = s.pg[k]) ∧ (groupStarted s m).mem = s.mem) ∧ GroupPoint m s (groupStarted s m)
    ∧ (groupStarted s m).pg[m].run = true ∧ (groupStarted s m).pg[m].armed = false ∧ (groupStarted s m).bt (pgOff m PG.EVT) 6 = true
    ∧ (groupStarted s m).rd (pgOff m PG.CNT) = BitVec.ofNat 32 (startCount (pgTransferPoint (startShown s m) m) m).1
    ∧ (groupStarted s m).pg[m].down = (startCount (pgTransferPoint (startShown s m) m) m).2 := by
  have hlater := groupStarted_later (s := s) (m := m)
  have hall : Works (fun _ => True) m s (groupStarted s m) :=
    (startShown_ahead.toWorks.mono fun _ _ => trivial).trans
      ((pgTransferPoint_works.mono fun _ _ => trivial).trans (hlater.toWorks.mono fun _ _ => trivial))
  have hshown : (startShown s m).pg[m] = { s.pg[m] with run := true, armed := false, startNext := false } := by
    rw [startShown, pgEvent_pg, State.updPg_pg, if_pos rfl]
  obtain ⟨-, -, hrun, harmed⟩ := pgTransferPoint_keeps (s := startShown s m) (m := m)
  have hpg : (groupStarted s m).pg[m] = { (pgTransferPoint (startShown s m) m).pg[m] with
      down := (startCount (pgTransferPoint (startShown s m) m) m).2, took := (pgTransferPoint (startShown s m) m).now } := by
    rw [groupStarted, countMembers_acts.pg, setGroupCount_pg]
  refine ⟨⟨hall.others, hall.mem⟩, .earlier startShown_ahead (pgTransferPoint_point.later hlater), ?_, ?_, ?_, ?_, ?_⟩
  · rw [hpg]
    exact hrun.trans (by rw [hshown])
  · rw [hpg]
    exact harmed.trans (by rw [hshown])
  · exact hlater.events 6 (pgTransferPoint_works.events 6 ((pgEvent_bt (by decide)).trans (Bool.true_or _)))
  · have hne : ¬∃ n, pgOff m PG.CNT = chOff n CH.CNT := by
      have hm := m.isLt
      rintro ⟨n, he⟩
      simp only [pgOff, chOff, PG.CNT] at he
      omega
    rw [groupStarted, countMembers_acts.rd _ hne, setGroupCount_rd, if_pos rfl]
  · rw [hpg]
end

/-- Settles O29: an advance counts, shows its events and passes its transfer point, and nothing that follows in the tick touches what the
point has done; so does a start, whose count comes last. -/
theorem groupCounting : Obligations.GroupCounting := by
  intro s m split hold xfer others point
  have hpoint {t : State} (h : GroupPoint m s t) : point t :=
    ⟨h.xferAt, h.pwrit, h.cwrit, h.epoch, h.split, h.hold, h.unheld, h.period, h.phases, h.keptPhases, h.keptPeriod, h.members⟩
  constructor
  · intro a ha moved
    refine ⟨fun hb => ?boundary, fun hp hb => ?peak⟩
    case boundary =>
      have he : execPgBoundary m s = .next (pgApply s m a) := by simp only [execPgBoundary, ha, hb, if_true]
      obtain ⟨hp, hevent⟩ := pgApply_point (s := s) (m := m) (a := a) (by rw [advancePasses, hb, Bool.true_or])
      exact ⟨_, he, pgApply_moved, hpoint hp, hevent, pgApply_trails.2 hb⟩
    case peak =>
      have he : execPgPeak m s = .next (pgApply s m a) := by
        simp only [execPgPeak, ha, hp, hb, Bool.not_false, Bool.and_self, if_true]
      refine ⟨_, he, pgApply_moved, pgApply_peak hp, fun hx => ?_⟩
      obtain ⟨hp', hevent⟩ := pgApply_point (s := s) (m := m) (a := a) (by rw [advancePasses, hp, hx, Bool.and_self, Bool.or_true])
      exact ⟨hpoint hp', hevent⟩
  · intro hen harmed hrun
    obtain ⟨hothers, hp, hrun', harmed', hevent, hcnt, hdown⟩ := groupStarted_spec (s := s) (m := m)
    rw [groupStarted_count] at hcnt hdown
    exact ⟨_, execPgGroupStart_armed hen harmed hrun, hothers, hpoint hp, hrun', harmed', hevent, hcnt, hdown⟩

end Sys2Proof.Machine

/-!
# The commands of a group (O30)
-/

namespace Sys2Proof.Machine

section
variable {s t u : State} {m : Fin 16} {n : Fin 96} {o : Nat} {v : Word}

/-! ### Commits that fail (R317, R320) -/

/-- The registers that a failing commit writes: those of the transactions, and of its report. -/
def failReg (o : Nat) : Prop := raiseReg o ∨ (0x9000 ≤ o ∧ o < 0xA000)

/-- From `s` to `t` commits may have failed: groups and channels stay. -/
structure FailsCommits (s t : State) : Prop where
  rd : ∀ o, ¬failReg o → t.rd o = s.rd o
  ch : t.ch = s.ch
  pg : t.pg = s.pg

theorem FailsCommits.refl : FailsCommits s s := ⟨fun _ _ => rfl, rfl, rfl⟩

theorem FailsCommits.trans (h : FailsCommits s t) (g : FailsCommits t u) : FailsCommits s u :=
  ⟨fun o ho => (g.rd o ho).trans (h.rd o ho), g.ch.trans h.ch, g.pg.trans h.pg⟩

theorem FailsCommits.upd {f : Word → Word} (ho : failReg o) (h : FailsCommits s t) : FailsCommits s (t.upd o f) := by
  refine h.trans ⟨fun x hx => ?_, rfl, rfl⟩
  have hne : x ≠ o := fun e => hx (e ▸ ho)
  rw [State.upd_rd, if_neg hne]

theorem FailsCommits.setFl {lo len x : Nat} (ho : failReg o) (h : FailsCommits s t) : FailsCommits s (t.setFl o lo len x) := .upd ho h

theorem FailsCommits.setEv {i : Nat} (ho : failReg o) (h : FailsCommits s t) : FailsCommits s (t.setEv o i) := by
  obtain ⟨hrd, hch, hpg⟩ := FailsCommits.upd (f := fun w => setBit w i true) ho h
  exact ⟨hrd, hch, hpg⟩

theorem FailsCommits.raise {k : Nat} {d : Word} (h : FailsCommits s t) : FailsCommits s (t.raise k d) := by
  have hr := raise_reports t k d
  exact h.trans ⟨fun o ho => hr.rd o fun h' => ho (.inl h'), hr.ch, hr.pg⟩

theorem txnOff_failReg {x : Fin 8} {y : Nat} (hy : y < 0x20) : failReg (txnOff x y) := by
  refine .inr ?_
  have := x.isLt
  simp only [txnOff]
  omega

theorem endDesc_fails {r : Fin 64} {st : Nat} {w : Word} : FailsCommits s (endDesc s r st w) := by
  unfold endDesc
  split
  · exact ⟨fun _ _ => rfl, rfl, rfl⟩
  · exact .refl

theorem endCommit_fails {x : Fin 8} {st : Nat} {w : Word} : FailsCommits s (endCommit s x st w) := by
  unfold endCommit
  extract_lets s'
  have h : FailsCommits s s' := ⟨fun _ _ => rfl, rfl, rfl⟩
  split
  · exact h.trans endDesc_fails
  · exact h

theorem failCommit_fails {x : Fin 8} : FailsCommits s (failCommit s x) := by
  unfold failCommit txnFailed
  split
  · have hstat : failReg (txnOff x TXN.STAT) := txnOff_failReg (by decide)
    have hstate : FailsCommits s ((s.setFl (txnOff x TXN.STAT) 0 2 1).dropDue (· == .landing x)) := 
      FailsCommits.trans (.setFl hstat .refl) ⟨fun _ _ => rfl, rfl, rfl⟩
    have hevent : failReg R.TXN_EVT := .inr (by decide)
    exact (FailsCommits.raise (.setFl hstat (.setEv hevent hstate))).trans endCommit_fails
  · exact .refl

theorem failCommits_fails {b x : Nat} : FailsCommits s (failCommits s b x) := by
  refine List.foldlRecOn _ _ .refl fun v hv k _ => hv.trans ?_
  dsimp only
  split
  · exact failCommit_fails
  · exact .refl

/-! ### STOP (R89) -/

theorem pgOff_not_failReg {x : Nat} : ¬failReg (pgOff m x) := by
  rintro (h | h)
  · exact pgOff_not_raiseReg h
  · simp only [pgOff] at h
    omega

/-- Group `m` has stopped, with its count held. -/
structure Stopped (m : Fin 16) (s t : State) : Prop where
  run : t.pg[m].run = false
  armed : t.pg[m].armed = false
  regs : ∀ x, t.rd (pgOff m x) = s.rd (pgOff m x)
  others : ∀ k, k ≠ m → t.pg[k] = s.pg[k]
  ch : t.ch = s.ch

theorem pgStopCmd_stopped : Stopped m s (pgStopCmd s m) := by
  have hf : FailsCommits (s.updPg m (fun g => { g with run := false, armed := false, startNext := false })) (pgStopCmd s m) := failCommits_fails
  have hpg : (pgStopCmd s m).pg[m] = { s.pg[m] with run := false, armed := false, startNext := false } := by
    rw [hf.pg, State.updPg_pg, if_pos rfl]
  refine ⟨by rw [hpg], by rw [hpg], fun x => hf.rd _ pgOff_not_failReg, fun k hk => ?_, hf.ch⟩
  rw [hf.pg, State.updPg_pg, if_neg hk]

/-! ### LOAD (R92, R94) -/

/-- The epoch of what waits for the next transfer point (R94). -/
def epochMark (w : Word) : Word := if bit w 16 then setFld w 8 8 (fld w 0 8 + 1) else w

theorem pgLoadCmd_armed (h : tMode s m = 1) : pgLoadCmd s m =
    eachMember ((s.updPg m (fun g => { g with loadArm := true })).upd (pgOff m PG.EPOCH) epochMark) m
      (fun s n => s.upd (chOff n CH.EPOCH) epochMark) := if_pos h

/-- What `Obligations.GroupCommands` says of a LOAD in armed mode. -/
theorem pgLoadCmd_spec (h : tMode s m = 1) : (pgLoadCmd s m).pg[m].loadArm = true ∧ (pgLoadCmd s m).ch = s.ch
    ∧ (s.bt (pgOff m PG.EPOCH) 16 = true → (pgLoadCmd s m).fl (pgOff m PG.EPOCH) 8 8 = (s.fl (pgOff m PG.EPOCH) 0 8 + 1) % 256) := by
  have hmembers : Acts (fun o => 0x10000 ≤ o) (fun _ => False)
      ((s.updPg m (fun g => { g with loadArm := true })).upd (pgOff m PG.EPOCH) epochMark) (pgLoadCmd s m) := by
    rw [pgLoadCmd_armed h]
    exact eachMember_acts fun v n => .upd (by simp only [chOff]; omega) .refl
  refine ⟨?_, ?_, fun hb => ?_⟩
  · rw [hmembers.pg, State.upd_pg, State.updPg_pg, if_pos rfl]
  · exact Vector.ext fun i hi => hmembers.ch_ne ⟨i, hi⟩ id
  · have hm := m.isLt
    have hpend : bit (s.rd (pgOff m PG.EPOCH)) 16 = true := hb
    rw [State.fl, hmembers.rd _ (by simp only [pgOff, PG.EPOCH]; omega), State.upd_rd, if_pos rfl, State.updPg_rd, epochMark, if_pos hpend,
      fld_setFld _ _ _ _ (by decide)]
    rfl

/-! ### STAGGER (R95) -/

/-- The register of phase `k`. -/
abbrev phaseReg (m : Fin 16) (k : Fin 12) : Nat := pgOff m (PG.MPH + 4 * k.val)

theorem phaseReg_inj {k j : Fin 12} : phaseReg m k = phaseReg m j ↔ k = j := by
  rw [pgOff_inj, Fin.ext_iff]
  omega

theorem pgEpochWrite_rd (h : o ≠ pgOff m PG.EPOCH) : (pgEpochWrite s m).rd o = s.rd o := by
  unfold pgEpochWrite
  split
  · rw [State.upd_rd, if_neg h]
  · rw [State.upd_rd, if_neg h]
  · rw [State.upd_rd, if_neg h]

theorem pgEpochWrite_ch : (pgEpochWrite s m).ch = s.ch := by
  unfold pgEpochWrite
  split
  · rw [State.upd_ch]
  · rw [State.upd_ch]
  · rw [State.upd_ch]

/-- A write of a phase is seen there, and at no other one. -/
theorem writePgPhase_spec {k : Fin 12} : (∀ j, (writePgPhase s m k v).rd (phaseReg m j) = if j = k then v else s.rd (phaseReg m j))
    ∧ (writePgPhase s m k v).ch = s.ch := by
  have hne (j : Fin 12) : phaseReg m j ≠ pgOff m PG.EPOCH := by
    simp only [ne_eq, pgOff_inj, PG.MPH, PG.EPOCH]
    omega
  unfold writePgPhase
  refine ⟨fun j => ?_, ?_⟩
  · rw [pgEpochWrite_rd (hne j)]
    split
    · rw [State.updPg_rd, State.wr_rd]
      simp only [phaseReg_inj]
    · rw [State.wr_rd]
      simp only [phaseReg_inj]
  · rw [pgEpochWrite_ch]
    split
    · rfl
    · rfl

/-- Phases written one after another, none of them twice. -/
theorem writePgPhases_spec (f : Nat → Word) (l : List (Fin 12 × Nat)) (hl : (l.map Prod.fst).Nodup) :
    let t := l.foldl (fun s x => writePgPhase s m x.1 (f x.2)) s
    (∀ x ∈ l, t.rd (phaseReg m x.1) = f x.2) ∧ (∀ k, k ∉ l.map Prod.fst → t.rd (phaseReg m k) = s.rd (phaseReg m k)) ∧ t.ch = s.ch := by
  induction l generalizing s with
  | nil => exact ⟨fun _ h => absurd h List.not_mem_nil, fun _ _ => rfl, rfl⟩
  | cons y l ih =>
    rw [List.map_cons, List.nodup_cons] at hl
    obtain ⟨hrd, hch⟩ := writePgPhase_spec (s := s) (m := m) (k := y.1) (v := f y.2)
    obtain ⟨hown, hkept, hch'⟩ := ih (s := writePgPhase s m y.1 (f y.2)) hl.2
    refine ⟨fun x hx => ?_, fun k hk => ?_, hch'.trans hch⟩
    · rcases List.mem_cons.mp hx with rfl | hx
      · exact (hkept x.1 hl.1).trans ((hrd x.1).trans (if_pos rfl))
      · exact hown x hx
    · rw [List.map_cons, List.mem_cons, not_or] at hk
      exact (hkept k hk.2).trans ((hrd k).trans (if_neg hk.1))
end

/-- Settles O30, a command at a time. -/
theorem groupCommands : Obligations.GroupCommands := by
  intro s a m v on l stopped
  have hstopped {u t : State} (hu : u.pg = s.pg) (hc : u.rd (pgOff m PG.CNT) = s.rd (pgOff m PG.CNT)) (hch : u.ch = s.ch) (h : Stopped m u t) :
      stopped t :=
    ⟨h.run, h.armed, (h.regs _).trans hc, fun k hk => by rw [h.others k hk, hu], h.ch.trans hch⟩
  refine ⟨?start, ?idle, ⟨_, rfl, hstopped rfl rfl rfl pgStopCmd_stopped⟩, ?disable, fun h => ⟨_, rfl, pgLoadCmd_spec h⟩,
    fun h => ⟨_, congrArg Host.Outcome.next (if_neg h), rfl⟩, ?stagger, ⟨_, rfl, rfl⟩⟩
  case start =>
    intro he hr
    refine ⟨_, congrArg Host.Outcome.next (if_pos (by rw [he, hr]; rfl)), rfl, ?_, fun hsrc => ?_, fun k hk => ?_⟩
    · rw [State.updPg_pg, if_pos rfl]
    · rw [State.updPg_pg, if_pos rfl]
      simp [hsrc]
    · rw [State.updPg_pg, if_neg hk]
  case idle =>
    intro h
    refine ⟨_, congrArg Host.Outcome.next (if_neg ?_), rfl⟩
    rcases h with h | h
    · rw [h, Bool.false_and]
      decide
    · rw [h, Bool.not_true, Bool.and_false]
      decide
  case disable =>
    have hs := pgStopCmd_stopped (s := s.setBt (pgOff m PG.CTRL) 0 false) (m := m)
    refine ⟨_, rfl, hstopped (u := s.setBt (pgOff m PG.CTRL) 0 false) rfl ?_ rfl hs, ?_⟩
    · rw [State.setBt_rd, if_neg (by simp)]
    · rw [pgEn, State.bt, hs.regs, State.setBt_rd, if_pos rfl, bit_setBit _ _ _ _ (by decide), if_pos rfl]
  case stagger =>
    have hnodup : on.Nodup := (List.nodup_finRange 12).filter _
    have hfst : on.zipIdx.map Prod.fst = on := List.zipIdx_map_fst 0 on
    obtain ⟨hown, hkept, hch⟩ := writePgPhases_spec (s := s) (m := m) (fun i => w32 (min (i * l / on.length) 0xFFFFFFFF)) on.zipIdx
      (by rwa [hfst])
    rw [hfst] at hkept
    exact ⟨_, rfl, fun i k h => hown (k, i) (List.mk_mem_zipIdx_iff_getElem?.mpr h), hkept, hch⟩

end Sys2Proof.Machine

/-!
# The Vestibule

What its grants and refusals reach, and what they leave of its queue; for O49.
-/

namespace Sys2Proof.Machine

section
variable {s t u : State} {k : Heavy}

/-- The registers with a count or a peak of the Vestibule, or with the state of a requester other than BG_REQ. -/
def requesterReg (o : Nat) : Prop := o = R.VEST_CNT ∨ o = R.CHEST_STAT ∨ o = R.MC_STAT ∨ o = feGlobOff FE.GOSTAT ∨ o = R.VEST_PEAK

/-- The registers that change while the Vestibule answers. -/
def serveReg (o : Nat) : Prop :=
  raiseReg o ∨ o = R.VEST_EVT ∨ o = R.BG_STAT ∨ requesterReg o

/-- From `s` to `t` the Vestibule has answered requests: the registers of its requesters may have changed, no request of BG_REQ has been
deferred, and what has been recorded and raised before stays so. -/
structure Serves (s t : State) : Prop where
  rd : ∀ o, ¬serveReg o → t.rd o = s.rd o
  events : ∀ b, s.bt R.VEST_EVT b = true → t.bt R.VEST_EVT b = true
  raised : ∀ j, j < 256 → Raised s j → Raised t j
  levels : KeepsLevels s t
  budget : t.vest.overBudget = s.vest.overBudget
  deferred : bgState t = 1 → bgState s = 1

theorem Serves.refl : Serves s s := ⟨fun _ _ => rfl, fun _ => id, fun _ _ => id, .refl, rfl, id⟩

theorem Serves.trans (h : Serves s t) (g : Serves t u) : Serves s u :=
  ⟨fun o ho => (g.rd o ho).trans (h.rd o ho), fun b => g.events b ∘ h.events b, fun j hj => g.raised j hj ∘ h.raised j hj,
    h.levels.trans g.levels, g.budget.trans h.budget, h.deferred ∘ g.deferred⟩

theorem Serves.ite {c : Prop} [Decidable c] (ht : Serves s t) (hu : Serves s u) : Serves s (if c then t else u) := by
  split
  · exact ht
  · exact hu

theorem Serves.foldl {α : Type} {f : State → α → State} (hf : ∀ v x, Serves v (f v x)) (l : List α) : Serves s (l.foldl f s) :=
  List.foldlRecOn l f .refl fun _ hv x _ => hv.trans (hf _ x)

/-- From 0x2000 on, no register reports. -/
theorem not_raiseReg {o : Nat} (ho : 0x2000 ≤ o) : ¬raiseReg o := by
  simp only [raiseReg, recordReg]
  omega

/-- What lies from 0x2000 on and belongs to no requester is left alone. -/
theorem not_serveReg {o : Nat} (ho : 0x2000 ≤ o)
    (hne : ¬(o = R.VEST_EVT ∨ o = R.BG_STAT ∨ o = R.VEST_CNT ∨ o = R.CHEST_STAT ∨ o = R.MC_STAT ∨ o = feGlobOff FE.GOSTAT
      ∨ o = R.VEST_PEAK)) : ¬serveReg o :=
  not_or_intro (not_raiseReg ho) hne

/-- One register from 0x2000 on has changed, which keeps its events and defers no request. -/
theorem Serves.register {o : Nat} (ho : serveReg o) (hlow : 0x2000 ≤ o) (hrd : ∀ x, x ≠ o → t.rd x = s.rd x) (hf : t.flt = s.flt)
    (hv : t.vest = s.vest) (he : ∀ b, s.bt R.VEST_EVT b = true → t.bt R.VEST_EVT b = true) (hd : bgState t = 1 → bgState s = 1) :
    Serves s t := by
  have hrep (x : Nat) (hx : raiseReg x) : t.rd x = s.rd x := hrd x fun e => not_raiseReg hlow (e ▸ hx)
  refine ⟨fun x hx => hrd x fun e => hx (e ▸ ho), he, fun j hj => .of_rd hj hf hrep, ⟨fun j hj => ?_⟩, by rw [hv], hd⟩
  rw [State.bt, hrep _ (fsrcStat_raiseReg hj)]
  rfl

/-- What is no register and no report does not matter here. -/
theorem Serves.same (hr : t.regs = s.regs) (hf : t.flt = s.flt) (hv : t.vest.overBudget = s.vest.overBudget) : Serves s t := by
  have hrd (o : Nat) : t.rd o = s.rd o := by
    rw [State.rd, hr, State.rd]
  refine ⟨fun o _ => hrd o, fun b hb => ?_, fun j hj => .of_rd hj hf fun o _ => hrd o, ⟨fun j _ => ?_⟩, hv, fun hb => ?_⟩
  · rwa [State.bt, hrd]
  · rw [State.bt, hrd]
    rfl
  · rwa [bgState, State.fl, hrd] at hb

/-- A register is written that neither reports nor tells a state of BG_REQ. -/
theorem Serves.upd {o : Nat} {f : Word → Word} (ho : requesterReg o) : Serves s (s.upd o f) := by
  have hrd (x : Nat) (hx : x ≠ o) : (s.upd o f).rd x = s.rd x := by rw [State.upd_rd, if_neg hx]
  have hoff : R.VEST_EVT ≠ o ∧ R.BG_STAT ≠ o ∧ 0x2000 ≤ o := by
    rcases ho with rfl | rfl | rfl | rfl | rfl <;> decide
  obtain ⟨hevt, hbg, hlow⟩ := hoff
  refine .register (.inr (.inr (.inr ho))) hlow hrd rfl rfl (fun b hb => ?_) fun hb => ?_
  · rwa [State.bt, hrd _ hevt]
  · rwa [bgState, State.fl, hrd _ hbg] at hb

/-- The Vestibule records an event. -/
theorem Serves.setEv {b : Nat} (hb : b < 32) : Serves s (s.setEv R.VEST_EVT b) := by
  have hrd (x : Nat) (hx : x ≠ R.VEST_EVT) : (s.setEv R.VEST_EVT b).rd x = s.rd x := by rw [State.setEv_rd, if_neg hx]
  refine .register (o := R.VEST_EVT) (by simp [serveReg]) (by decide) hrd rfl rfl (fun i hi => ?_) fun hb => ?_
  · rw [State.bt, State.setEv_rd, if_pos rfl, bit_setBit _ _ _ _ hb]
    split
    · rfl
    · exact hi
  · rwa [bgState, State.fl, hrd _ (by decide)] at hb

/-- A request of BG_REQ goes on or ends. -/
theorem Serves.setBg {lo len v : Nat} (hv : lo = 0 ∧ len = 2 ∧ v % 4 ≠ 1 ∨ lo = 4 ∧ len = 4) : Serves s (s.setFl R.BG_STAT lo len v) := by
  have hrd (x : Nat) (hx : x ≠ R.BG_STAT) : (s.setFl R.BG_STAT lo len v).rd x = s.rd x := by rw [State.setFl_rd, if_neg hx]
  refine .register (o := R.BG_STAT) (by simp [serveReg]) (by decide) hrd rfl rfl (fun b hb => ?_) fun hb => ?_
  · rwa [State.bt, hrd _ (by decide)]
  · rw [bgState, State.fl, State.setFl_rd, if_pos rfl] at hb
    rcases hv with ⟨rfl, rfl, hv⟩ | ⟨rfl, rfl⟩
    · exact absurd ((fld_setFld _ 0 2 v (by decide)).symm.trans hb) hv
    · exact (fld_setFld_ne _ 4 4 v 0 2 (.inl (by decide))).symm.trans hb

/-- A report to the Banister. -/
theorem Serves.raise (j : Nat) (d : Word) : Serves s (s.raise j d) := by
  have h := raise_reports s j d
  refine ⟨fun o ho => h.rd o fun hr => ho (.inl hr), fun b hb => ?_, fun i hi hr => hr.raiseWith hi _, raise_keepsLevels s j d,
    (congrArg (fun x : State => x.vest.overBudget) h.rest :), fun hb => ?_⟩
  · rwa [State.bt, h.rd _ (not_raiseReg (by decide))]
  · rwa [bgState, State.fl, h.rd _ (not_raiseReg (by decide))] at hb

/-- Whether the Vestibule refuses stays as it is while it answers (R355). -/
theorem Serves.refusing (h : Serves s t) : vestRefusing t = vestRefusing s := by
  have hctrl : t.rd R.VEST_CTRL = s.rd R.VEST_CTRL := h.rd _ (not_serveReg (by decide) (by decide))
  rw [vestRefusing, h.levels.level _ (by decide), h.levels.level _ (by decide), State.bt.eq_1 t, hctrl]
  rfl

/-! ### What answers a request -/

theorem Serves.setFl {o lo len v : Nat} (ho : requesterReg o) (h : Serves s t) : Serves s (t.setFl o lo len v) := h.trans (.upd ho)
theorem Serves.setBt {o i : Nat} {b : Bool} (ho : requesterReg o) (h : Serves s t) : Serves s (t.setBt o i b) := h.trans (.upd ho)

theorem Serves.updVest {f : Vest → Vest} (hf : (f t.vest).overBudget = t.vest.overBudget) (h : Serves s t) : Serves s (t.updVest f) :=
  h.trans (.same rfl rfl hf)

theorem Serves.chestRefused (h : Serves s t) : Serves s (chestRefused t) := by
  have hctl (c : ChestCtl) : Serves s { t with chestCtl := c } := h.trans (.same rfl rfl rfl)
  have hchest : requesterReg R.CHEST_STAT := .inr (.inl rfl)
  have hmc : Serves s (State.setFl
      { t with chestCtl := { t.chestCtl with op := none, begun := false, cut := false, tries := 0 } } R.MC_STAT 4 4 0xB) :=
    (hctl _).setFl (.inr (.inr (.inl rfl)))
  refine .ite (.setFl hchest ?_) (((hctl _).setFl hchest).setFl hchest)
  exact hmc.trans (.same rfl rfl rfl)

theorem Serves.refuseAct (h : Serves s t) : Serves s (refuseAct t k) := by
  have hbg : Serves s ((t.setFl R.BG_STAT 0 2 0).setFl R.BG_STAT 4 4 4) := (h.trans (.setBg (by decide))).trans (.setBg (by decide))
  cases k with
  | go =>
    have hgo : Serves s (t.setBt (feGlobOff FE.GOSTAT) 0 false) := h.setBt (.inr (.inr (.inr (.inl rfl))))
    exact hgo.trans (.same rfl rfl rfl)
  | chest => exact h.chestRefused
  | recal => exact hbg
  | selfTest => exact hbg
  | gal => exact h
  | dozeExit => exact h

/-- A count of the Vestibule rises. -/
theorem Serves.count {lo : Nat} (h : Serves s t) : Serves s (t.satFl R.VEST_CNT lo 16) := by
  have hcnt : Serves s (t.upd R.VEST_CNT (fun w => setFld w lo 16 (satInc (2 ^ 16 - 1) (fld w lo 16)))) := h.trans (.upd (.inl rfl))
  exact hcnt.trans (.same rfl rfl rfl)

theorem Serves.refuse (h : Serves s t) : Serves s (refuse t k) :=
  ((h.trans (.setEv (b := 0) (by decide))).count.trans (.raise FS.VEST_REFUSED 0)).refuseAct

theorem Serves.grantAct (h : Serves s t) : Serves s (grantAct t k) := by
  cases k with
  | go =>
    unfold Machine.grantAct
    cases t.go with
    | none => exact h
    | some g =>
      have hgo (x : Option Go) : Serves s { t with go := x } := h.trans (.same rfl rfl rfl)
      exact .ite ((hgo _).trans (.setEv (b := 2) (by decide))) (hgo _)
  | chest =>
    have hstat : Serves s (t.setBt R.CHEST_STAT 1 false) := h.setBt (.inr (.inl rfl))
    exact hstat.trans (.same rfl rfl rfl)
  | recal =>
    have hbg : Serves s (t.setFl R.BG_STAT 0 2 3) := h.trans (.setBg (by decide))
    exact hbg.trans (.same rfl rfl rfl)
  | selfTest => exact h.trans (.setBg (by decide))
  | gal => exact h
  | dozeExit => exact h

theorem Serves.grant {n : Nat} (h : Serves s t) : Serves s (grant t k n) := (h.updVest rfl).count.grantAct

theorem Serves.request {n : Nat} (h : Serves s t) : Serves s (request t k n) := by
  unfold Machine.request
  split
  · exact .ite h.grant ((h.updVest rfl).trans (.setEv (b := 3) (by decide)))
  · exact .ite h.refuse (.ite h.grant (.ite h.refuse (h.updVest rfl)))

theorem Serves.bgAsk (h : Serves s t) : Serves s (bgAsk t) := by
  have hbg : Serves s (setBgState t 2) := h.trans (.setBg (by decide))
  exact .ite hbg.request hbg.request

theorem Serves.startRefusing (h : Serves s t) : Serves s (startRefusing t) :=
  .ite ((h.updVest rfl).trans (.foldl (fun _ _ => .refuse .refl) _)) h

theorem Serves.serveQueue : ∀ {n : Nat} {t : State}, Serves s t → Serves s (serveQueue n t)
  | 0, _, h => h
  | n + 1, t, h => by
    unfold Machine.serveQueue
    split
    · exact .ite (h.updVest rfl).grant.serveQueue h
    · exact h

theorem Serves.serveBursts (h : Serves s t) : Serves s (serveBursts t) :=
  .ite h (h.trans (.foldl (fun _ _ => .ite (Serves.updVest rfl .refl).grant .refl) _))

/-! ### What an answer leaves of the Vestibule -/

theorem raise_vest {j : Nat} {d : Word} : (s.raise j d).vest = s.vest := (congrArg State.vest (raise_reports s j d).rest :)

theorem chestRefused_vest : (chestRefused s).vest = s.vest := (apply_ite State.vest _ _ _).trans (ite_self _)

/-- A refusal leaves the Vestibule itself alone. -/
theorem refuse_vest : (refuse s k).vest = s.vest := by
  have hact (v : State) : (refuseAct v k).vest = v.vest := by
    cases k with
    | chest => exact chestRefused_vest
    | _ => rfl
  rw [refuse, hact]
  exact raise_vest

/-- A grant is added to the grants (R351). -/
theorem grant_vest {n : Nat} : ∃ e, (grant s k n).vest = { s.vest with grants := s.vest.grants ++ [⟨k, n, e⟩] } := by
  have hact (v : State) : (grantAct v k).vest = v.vest := by
    cases k with
    | go =>
      unfold grantAct
      cases v.go with
      | none => rfl
      | some g =>
        dsimp only
        split <;> split <;> rfl
    | _ => rfl
  exact ⟨_, hact _⟩

theorem grant_queue {n : Nat} : (grant s k n).vest.queue = s.vest.queue := by
  obtain ⟨e, h⟩ := grant_vest (s := s) (k := k) (n := n)
  rw [h]

/-- The refusals of the queue leave nothing in it (R355). -/
theorem startRefusing_queue (h : vestRefusing s = true) : (startRefusing s).vest.queue = [] := by
  have hfold (l : List VReq) (v : State) (hv : v.vest.queue = []) : (l.foldl (fun s q => refuse s q.kind) v).vest.queue = [] :=
    List.foldlRecOn (motive := fun w : State => w.vest.queue = []) l _ hv fun w hw _ _ => by rw [refuse_vest, hw]
  rw [startRefusing, if_pos h]
  exact hfold _ _ rfl

/-- The queue is served from its head (R354). -/
theorem serveQueue_queue : ∀ (n : Nat) (s : State), (serveQueue n s).vest.queue <:+ s.vest.queue
  | 0, _ => List.suffix_refl _
  | n + 1, s => by
    unfold serveQueue
    split
    · next q qs hq =>
      split
      · have hrest := serveQueue_queue n (grant (s.updVest (fun v => { v with queue := qs })) q.kind q.units)
        rw [grant_queue] at hrest
        exact hrest.trans (hq ▸ List.suffix_cons q qs)
      · exact List.suffix_refl _
    · exact List.suffix_refl _

/-- The bursts that wait pass the queue by. -/
theorem serveBursts_queue : (serveBursts s).vest.queue = s.vest.queue := by
  unfold serveBursts
  split
  · rfl
  · refine List.foldlRecOn (motive := fun w : State => w.vest.queue = s.vest.queue) _ _ rfl fun w hw g _ => ?_
    split
    · exact grant_queue.trans hw
    · exact hw

/-- What asks while the Vestibule refuses is refused (R355). -/
theorem request_refused {n : Nat} (hk : ∀ g, k ≠ .gal g) (h : vestRefusing s = true) : request s k n = refuse s k := by
  cases k with
  | gal g => exact absurd rfl (hk g)
  | _ => exact if_pos h

/-- What fits an empty queue is granted at once (R354). -/
theorem request_granted {n : Nat} (hk : ∀ g, k ≠ .gal g) (h : vestRefusing s = false) (hq : s.vest.queue = [])
    (hf : vestF s + vestG s + n ≤ vestBudget s) : request s k n = grant s k n := by
  have hfits : (s.vest.queue.isEmpty && fits s n) = true := by
    rw [hq, fits]
    exact decide_eq_true hf
  have hnot : ¬vestRefusing s = true := by rw [h]; exact Bool.false_ne_true
  cases k with
  | gal g => exact absurd rfl (hk g)
  | _ => exact (if_neg hnot).trans (if_pos hfits)

/-- What asks for the work on the target of BG_REQ, and its units (R351). -/
def bgKind (n : Nat) : Heavy := if n < 64 then .selfTest n else .recal (Fin.ofNat 8 (n - 64))
def bgUnits (n : Nat) : Nat := if n < 64 then 20 else 6

theorem bgAsk_eq : bgAsk s = request (setBgState s 2) (bgKind s.bg.target) (bgUnits s.bg.target) := by
  unfold bgAsk bgKind bgUnits
  extract_lets n u
  split <;> rfl

/-- What BG_REQ asks for. -/
def Heavy.Background : Heavy → Prop
  | .selfTest _ | .recal _ => True
  | _ => False

theorem bgKind_background (n : Nat) : (bgKind n).Background := by
  unfold bgKind
  split <;> trivial

theorem Heavy.Background.ne_gal (h : k.Background) (g : Fin 16) : k ≠ .gal g := fun e => (e ▸ h :)

theorem bgAsk_vest (h : vestRefusing s = true) : (bgAsk s).vest = s.vest := by
  have hr : vestRefusing (setBgState s 2) = true :=
    (Serves.setBg (s := s) (lo := 0) (len := 2) (v := 2) (by decide)).refusing.trans h
  rw [bgAsk_eq, request_refused (bgKind_background _).ne_gal hr, refuse_vest]
  rfl
end

end Sys2Proof.Machine

/-!
# Background work

Self-test and recalibration on request, the rotation of the delay lines, and the scrubber; for O49.
-/

namespace Sys2Proof.Machine

section
variable {s t : State} {k : Heavy} {n v : Nat}

/-! ### BG_STAT (R372) -/

@[simp] theorem bgState_setBgState : bgState (setBgState s v) = v % 4 := by
  rw [bgState, setBgState, State.fl, State.setFl_rd, if_pos rfl]
  exact fld_setFld _ 0 2 v (by decide)

@[simp] theorem bgState_bgResult : bgState (bgResult s v) = bgState s := by
  rw [bgState, bgResult, State.fl, State.setFl_rd, if_pos rfl]
  exact fld_setFld_ne _ 4 4 v 0 2 (.inl (by decide))

@[simp] theorem result_setBgState : (setBgState s v).fl R.BG_STAT 4 4 = s.fl R.BG_STAT 4 4 := by
  rw [setBgState, State.fl, State.setFl_rd, if_pos rfl]
  exact fld_setFld_ne _ 0 2 v 4 4 (.inr (by decide))

@[simp] theorem result_bgResult : (bgResult s v).fl R.BG_STAT 4 4 = v % 16 := by
  rw [bgResult, State.fl, State.setFl_rd, if_pos rfl]
  exact fld_setFld _ 4 4 v (by decide)

theorem setBgState_rd {o : Nat} (h : o ≠ R.BG_STAT) : (setBgState s v).rd o = s.rd o := by rw [setBgState, State.setFl_rd, if_neg h]
theorem bgResult_rd {o : Nat} (h : o ≠ R.BG_STAT) : (bgResult s v).rd o = s.rd o := by rw [bgResult, State.setFl_rd, if_neg h]

/-- What BG_STAT reads depends on its word only. -/
theorem bgState_of_rd (h : t.rd R.BG_STAT = s.rd R.BG_STAT) : bgState t = bgState s := by rw [bgState, State.fl, h]; rfl

/-! ### Requests of BG_REQ (R362) -/

/-- Whether a target is idle does not depend on BG_STAT. -/
theorem bgIdle_congr (hrd : ∀ o, o ≠ R.BG_STAT → t.rd o = s.rd o) (hgc : t.gc = s.gc) (hland : t.land = s.land) (hnwl : t.nwl = s.nwl)
    (hcal : t.bg.cal = s.bg.cal) : bgIdle t n = bgIdle s n := by
  have hfe (e : Fin 8) : t.rd (feOff e FE.STAT) = s.rd (feOff e FE.STAT) := hrd _ (by simp only [feOff, FE.STAT, R.BG_STAT]; omega)
  have hring (r : Fin 64) : t.rd (ringOff r RING.CFG) = s.rd (ringOff r RING.CFG) :=
    hrd _ (by simp only [ringOff, RING.CFG, R.BG_STAT]; omega)
  have htxn (x : Fin 8) : t.rd (txnOff x TXN.STAT) = s.rd (txnOff x TXN.STAT) := hrd _ (by simp only [txnOff, TXN.STAT, R.BG_STAT]; omega)
  have hstopped : feStopped t = feStopped s := by
    funext e
    simp only [feStopped, feRun, feStopping, State.bt, hfe]
  simp only [bgIdle, hstopped, feHalted, ringType, ringEn, ringGc, hostOwned, landOcc, txnState, nwlEn, State.bt,
    State.fl, hfe, hring, htxn, hgc, hland, hnwl, hcal]

/-- A request taken: its target and DEFER are kept, and the result of the one before goes. -/
def bgTaken (s : State) (n : Nat) (d : Bool) : State := (bgResult s 0).updBg (fun b => { b with target := n, defer := d })

theorem bgTaken_serves {d : Bool} : Serves s (bgTaken s n d) := by
  have hresult : Serves s (bgResult s 0) := .setBg (by decide)
  exact hresult.trans (.same rfl rfl rfl)

theorem bgIdle_bgTaken {d : Bool} : bgIdle (bgTaken s n d) n = bgIdle s n := bgIdle_congr (fun _ ho => bgResult_rd ho) rfl rfl rfl rfl

section
variable {op : Nat} {d : Bool}

theorem bgRequest_busy (h : bgState s ≠ 0) : bgRequest s op n d = bgResult s 3 := if_pos (bne_iff_ne.mpr h)

/-- A request with a target of its own, while no other is under way. -/
theorem bgRequest_free (h : bgState s = 0) (ht : bgTargetOk op n = true) : bgRequest s op n d =
    if bgIdle s n then bgAsk (bgTaken s n d) else if d then setBgState (bgTaken s n d) 1 else bgResult (bgTaken s n d) 3 := by
  have hfree : ¬(bgState s != 0) = true := by simp [h]
  have hok : ¬(!bgTargetOk op n) = true := by simp [ht]
  rw [bgRequest, if_neg hfree, if_neg hok, ← bgIdle_bgTaken (d := d)]
  rfl

theorem bgRequest_foreign (h : bgState s = 0) (ht : bgTargetOk op n = false) : bgRequest s op n d = bgResult s 5 := by
  have hfree : ¬(bgState s != 0) = true := by simp [h]
  have hok : (!bgTargetOk op n) = true := by simp [ht]
  rw [bgRequest, if_neg hfree, if_pos hok]
end

/-- A word of BG_REQ with one of the two operations. -/
theorem writeBgReq_op {op : Nat} {w : Word} (h : op = 1 ∨ op = 2) : writeBgReq s (setFld w 0 2 op) = bgRequest s op (fld w 8 7) (bit w 2) := by
  have hop : fld (setFld w 0 2 op) 0 2 = op := by
    rw [fld_setFld _ _ _ _ (by decide)]
    omega
  rw [writeBgReq, hop, fld_setFld_ne _ _ _ _ _ _ (.inr (by decide)), bit_setFld_ne _ _ _ _ _ (.inr (by decide)), if_pos (by simpa using h)]

/-! ### Leave for background work (R355, R362) -/

/-- What is granted runs, and the grant is counted. -/
theorem grant_background (hk : k.Background) : bgState (grant s k n) = 3 ∧ (grant s k n).fl R.BG_STAT 4 4 = s.fl R.BG_STAT 4 4
    ∧ (grant s k n).bg.target = s.bg.target ∧ (grant s k n).fl R.VEST_CNT 0 16 = min 65535 (s.fl R.VEST_CNT 0 16 + 1) := by
  have hact (u : State) : (grantAct u k).rd = (setBgState u 3).rd ∧ (grantAct u k).bg.target = u.bg.target := by
    cases k with
    | recal => exact ⟨rfl, rfl⟩
    | selfTest => exact ⟨rfl, rfl⟩
    | _ => exact hk.elim
  unfold grant
  extract_lets ends
  generalize hu : s.updVest _ = u
  have hrd : u.rd = s.rd := by rw [← hu]; rfl
  have hbg : u.bg = s.bg := by rw [← hu]; rfl
  obtain ⟨hword, htarget⟩ := hact (u.satFl R.VEST_CNT 0 16)
  refine ⟨?_, ?_, by rw [htarget, State.satFl_bg, hbg], ?_⟩
  · exact (bgState_of_rd (congrFun hword _)).trans bgState_setBgState
  · rw [State.fl, hword]
    refine result_setBgState.trans ?_
    rw [State.fl, State.satFl_rd, if_neg (by decide), hrd]
    rfl
  · rw [State.fl, hword, setBgState_rd (by decide)]
    refine (satFl_fl (by decide)).trans ?_
    rw [State.fl, hrd]
    rfl

/-- What is refused ends with its result, and the refusal is reported. -/
theorem refuse_background (hk : k.Background) : bgState (refuse s k) = 0 ∧ (refuse s k).fl R.BG_STAT 4 4 = 4
    ∧ Raised (refuse s k) FS.VEST_REFUSED ∧ (refuse s k).bt R.VEST_EVT 0 = true := by
  have hact (u : State) : refuseAct u k = bgResult (setBgState u 0) 4 := by
    cases k with
    | recal => rfl
    | selfTest => rfl
    | _ => exact hk.elim
  refine ⟨?_, ?_, ?_, ?_⟩
  · rw [refuse, hact, bgState_bgResult, bgState_setBgState]
  · rw [refuse, hact, result_bgResult]
  · exact (Serves.refuseAct .refl).raised _ (by decide) (raise_raised _ (by decide) _)
  · refine ((Serves.count .refl).trans ((Serves.raise FS.VEST_REFUSED 0).refuseAct)).events 0 ?_
    rw [State.bt, State.setEv_rd, if_pos rfl, bit_setBit_zero]

/-- A target that is idle gets leave at once where its units fit (R354). -/
theorem bgAsk_granted {d : Bool} (hr : vestRefusing s = false) (hq : s.vest.queue = []) (hf : vestF s + vestG s + bgUnits n ≤ vestBudget s) :
    bgAsk (bgTaken s n d) = grant (setBgState (bgTaken s n d) 2) (bgKind n) (bgUnits n) := by
  have hserves : Serves s (setBgState (bgTaken s n d) 2) := bgTaken_serves.trans (.setBg (by decide))
  have hstat : vestF (setBgState (bgTaken s n d) 2) = vestF s := by
    rw [vestF, State.fl, hserves.rd _ (not_serveReg (by decide) (by decide))]
    rfl
  have hbudget : vestBudget (setBgState (bgTaken s n d) 2) = vestBudget s := by
    rw [vestBudget, State.fl, hserves.rd _ (not_serveReg (by decide) (by decide))]
    rfl
  have hg : vestG (setBgState (bgTaken s n d) 2) = vestG s := rfl
  rw [bgAsk_eq]
  exact request_granted (bgKind_background n).ne_gal (hserves.refusing.trans hr) hq (by rw [hstat, hbudget, hg]; exact hf)

/-- It is refused while the Vestibule refuses (R355). -/
theorem bgAsk_refused {d : Bool} (hr : vestRefusing s = true) :
    bgAsk (bgTaken s n d) = refuse (setBgState (bgTaken s n d) 2) (bgKind n) := by
  have hserves : Serves s (setBgState (bgTaken s n d) 2) := bgTaken_serves.trans (.setBg (by decide))
  rw [bgAsk_eq]
  exact request_refused (bgKind_background n).ne_gal (hserves.refusing.trans hr)

/-! ### The end of a self-test (R363) -/

/-- A read of a store of which only the entries whose address `p` holds of are kept. -/
theorem Store.get_filter {α : Type} {d : Nat → α} {p : Nat → Bool} (m : Store α) (j : Nat) :
    Store.get d (m.filter fun c => p c.1) j = if p j = true then Store.get d m j else d j := by
  induction m with
  | nil => exact (ite_self _).symm
  | cons c m ih =>
    obtain ⟨i, x⟩ := c
    by_cases hi : i = j
    · subst hi
      by_cases hp : p i = true <;> simp [Store.get, hp, ih]
    · by_cases hp : p i = true <;> simp [Store.get, hp, hi, ih]

/-- A bank of the RAM windows that is left with zeros reads so, and no other byte changes. -/
theorem zeroMem_byte {lo hi o : Nat} : (zeroMem s lo hi).byte o = if lo ≤ o ∧ o < hi then memDefault o else s.byte o := by
  refine (Store.get_filter (p := fun a => !(decide (lo ≤ a) && decide (a < hi))) s.mem o).trans ?_
  by_cases h : lo ≤ o ∧ o < hi
  · simp [h]
  · have hkept : (!(decide (lo ≤ o) && decide (o < hi))) = true := by
      simp only [Bool.not_eq_true', Bool.and_eq_false_iff, decide_eq_false_iff_not]
      omega
    rw [if_neg h, if_pos hkept]
    rfl

/-- The state in which a self-test of `s` has left its bank and its units. -/
def testEnded (s : State) : State :=
  endGrant (setBgState (zeroBank s s.bg.target) 0) (fun k => match k with | .selfTest _ => true | _ => false)

theorem testEnded_grants : ∀ g ∈ (testEnded s).vest.grants, ∀ x, g.kind ≠ .selfTest x := by
  intro g hg x hx
  have hkept := (List.mem_filter.mp hg).2
  rw [hx] at hkept
  exact Bool.false_ne_true hkept

theorem testEnded_state : bgState (testEnded s) = 0 := bgState_setBgState (s := zeroBank s s.bg.target) (v := 0)

/-- The local RAM of an engine is left with zeros. -/
theorem testEnded_byte {e : Fin 8} (h : s.bg.target = e.val) (o : Nat) : (testEnded s).byte o =
    if 0xA0000 + e.val * 0x8000 ≤ o ∧ o < 0xA8000 + e.val * 0x8000 then 0 else s.byte o := by
  have hbank : zeroBank s s.bg.target = zeroMem s (0xA0000 + e.val * 0x8000) (0xA8000 + e.val * 0x8000) := by
    rw [h, zeroBank, if_pos e.isLt]
  have hbyte : (testEnded s).byte o = (zeroBank s s.bg.target).byte o := rfl
  rw [hbyte, hbank, zeroMem_byte]
  split
  · have hlow : ¬(decide (0x200000 ≤ o) && decide (o < 0x200400) && o % 16 == 12) = true := by
      have := e.isLt
      simp only [Bool.and_eq_true, decide_eq_true_eq]
      omega
    exact if_neg hlow
  · rfl

/-! ### The rotation of the delay lines (R98, R361) -/

variable {fl : Fin 8}

@[simp] theorem updCal_cal {f : Calib → Calib} : (s.updCal fl f).bg.cal[fl] = f s.bg.cal[fl] := Vector.getElem_set_self _

/-- The end of a recalibration on request leaves its mark and BG_STAT. -/
theorem calForcedEnd_spec (r : Nat) : (∃ b, (calForcedEnd s fl r).bg.cal[fl] = { s.bg.cal[fl] with forced := b })
    ∧ (∀ o, o ≠ R.BG_STAT → (calForcedEnd s fl r).rd o = s.rd o) ∧ (calForcedEnd s fl r).flt = s.flt
    ∧ (calForcedEnd s fl r).ch = s.ch := by
  unfold calForcedEnd
  split
  · extract_lets u
    have hu : u.bg.cal[fl] = { s.bg.cal[fl] with forced := false } := updCal_cal
    split
    · exact ⟨⟨false, hu⟩, fun o ho => (bgResult_rd ho).trans (setBgState_rd ho), rfl, rfl⟩
    · exact ⟨⟨false, hu⟩, fun _ _ => rfl, rfl, rfl⟩
  · exact ⟨⟨_, rfl⟩, fun _ _ => rfl, rfl, rfl⟩

theorem Raised.calForcedEnd {j r : Nat} (hj : j < 256) (h : Raised s j) : Raised (calForcedEnd s fl r) j := by
  obtain ⟨-, hrd, hflt, -⟩ := calForcedEnd_spec (s := s) (fl := fl) r
  exact h.of_rd hj hflt fun o ho => hrd o fun e => not_raiseReg (by decide) (e ▸ ho)

theorem raise_bg {j : Nat} {d : Word} : (s.raise j d).bg = s.bg := (congrArg State.bg (raise_reports s j d).rest :)

/-- A count of the rotation that has risen, with its report. -/
theorem counted_raise {o lo j : Nat} (ho : 0x2000 ≤ o) (hlo : lo + 16 ≤ 32) :
    ((s.satFl o lo 16).raise j 0).fl o lo 16 = min 65535 (s.fl o lo 16 + 1) := by
  rw [State.fl, (raise_reports _ _ _).rd _ (not_raiseReg ho)]
  exact satFl_fl hlo

/-! ### The scrubber (R360) -/

theorem scrubFixes_reports : Reports raiseReg { s with free := s.free + 1 } (scrubFixes s) :=
  List.foldlRecOn _ _ .refl fun _ h _ _ => h.trans (raise_reports ..)

/-- A pass that has corrected a word has reported it. -/
theorem scrubFixes_raised (h : Config.scrubErrors s.free ≠ []) : Raised (scrubFixes s) FS.ECC_COR := by
  unfold scrubFixes
  obtain ⟨x, l, hl⟩ := List.exists_cons_of_ne_nil h
  rw [hl, List.foldl_cons]
  exact List.foldlRecOn (motive := fun u => Raised u FS.ECC_COR) l _ (raise_raised _ (by decide) _) fun _ hu _ _ =>
    hu.raiseWith (by decide) _
end

end Sys2Proof.Machine

/-!
# The evaluation of the Vestibule and the temperature levels

For O49.
-/

namespace Sys2Proof.Machine

section
variable {s t u : State}

/-! ### The evaluation (R353, R354, R355, R357) -/

/-- The state with the foreground estimate of `s`, and without the grants that have ended. -/
def estimated (s : State) : State := expireGrants (s.setFl R.VEST_STAT 0 12 (min 4095 (foreground s)))

/-- An estimate that rises above BUDGET has been reported. -/
def overReported (s : State) : State :=
  if decide (vestBudget (estimated s) < min 4095 (foreground s)) && !(estimated s).vest.overBudget
  then ((estimated s).setEv R.VEST_EVT 1).raise FS.VEST_OVER else estimated s

/-- The queue and the bursts that wait have been served, or the queue is refused. -/
def queueServed (s : State) : State := if vestRefusing s then startRefusing s else serveBursts (serveQueue 8 s)

/-- The peak of F + G is kept in VEST_PEAK. -/
def peaked (s : State) (fg : Nat) : State := s.note R.VEST_PEAK (fun w => setFld w 0 12 (max (fld w 0 12) (min 4095 fg)))

/-- A deferred request of BG_REQ whose target has become idle asks for leave. -/
def deferredAsked (s : State) : State := if bgState s = 1 && bgIdle s s.bg.target then bgAsk s else s

/-- The results of an evaluation, in the telemetry and in what pauses. -/
def judged (s : State) (f fg : Nat) (above : Bool) : State :=
  s.updVest (fun v =>
    { v with telF := max v.telF f, telFG := max v.telFG (min 4095 fg), overBudget := above, paused := decide (vestBudget s < fg) })

/-- The state before the last two phases of an evaluation. -/
def evalServed (s : State) : State :=
  peaked (queueServed (overReported s)) (min 4095 (foreground s) + vestG (queueServed (overReported s)))

/-- An evaluation, phase by phase. -/
theorem execEvaluation_eq : execEvaluation s = .next (newWindow (deferredAsked (judged (evalServed s) (min 4095 (foreground s))
    (min 4095 (foreground s) + vestG (queueServed (overReported s))) (decide (vestBudget (estimated s) < min 4095 (foreground s)))))) := rfl

theorem expireGrants_rd {o : Nat} : (expireGrants s).rd o = s.rd o := rfl

theorem estimated_rd {o : Nat} (h : o ≠ R.VEST_STAT) : (estimated s).rd o = s.rd o := by
  rw [estimated, expireGrants_rd, State.setFl_rd, if_neg h]

theorem vestF_estimated : vestF (estimated s) = min 4095 (foreground s) := by
  rw [vestF, State.fl, estimated, expireGrants_rd, State.setFl_rd, if_pos rfl, fld_setFld _ _ _ _ (by decide)]
  omega

theorem vestBudget_estimated : vestBudget (estimated s) = vestBudget s := by
  rw [vestBudget, State.fl, estimated_rd (by decide)]
  rfl

theorem estimated_refusing : vestRefusing (estimated s) = vestRefusing s := by
  have hlevel (k : Nat) (hk : k < 256) : (estimated s).rd (fsrcStat k) = s.rd (fsrcStat k) :=
    estimated_rd (by simp only [fsrcStat, R.FSRC_STAT, R.VEST_STAT]; omega)
  simp only [vestRefusing, State.bt, hlevel FS.SUPPLY_WARN (by decide), hlevel FS.TEMP_CRIT (by decide),
    estimated_rd (s := s) (o := R.VEST_CTRL) (by decide)]

theorem overReported_serves : Serves (estimated s) (overReported s) :=
  .ite ((Serves.setEv (b := 1) (by decide)).trans (.raise FS.VEST_OVER 0)) .refl

theorem overReported_vest : (overReported s).vest = (estimated s).vest := by
  unfold overReported
  split
  · exact raise_vest
  · rfl

/-- The estimate has risen above BUDGET: an event and VEST_OVER (R357). -/
theorem overReported_over (h : vestBudget s < min 4095 (foreground s)) (hv : s.vest.overBudget = false) :
    (overReported s).bt R.VEST_EVT 1 = true ∧ Raised (overReported s) FS.VEST_OVER := by
  have hrise : (decide (vestBudget (estimated s) < min 4095 (foreground s)) && !(estimated s).vest.overBudget) = true := by
    rw [vestBudget_estimated, decide_eq_true h, show (estimated s).vest.overBudget = false from hv]
    rfl
  rw [overReported, if_pos hrise]
  refine ⟨(Serves.raise FS.VEST_OVER 0).events 1 ?_, raise_raised _ (by decide) _⟩
  rw [State.bt, State.setEv_rd, if_pos rfl, bit_setBit _ _ _ _ (by decide), if_pos rfl]

theorem queueServed_serves : Serves s (queueServed s) := .ite (.startRefusing .refl) (Serves.serveQueue .refl).serveBursts

theorem queueServed_queue_refusing (h : vestRefusing s = true) : (queueServed s).vest.queue = [] := by
  rw [queueServed, if_pos h, startRefusing_queue h]

theorem queueServed_queue (h : vestRefusing s = false) : (queueServed s).vest.queue <:+ s.vest.queue := by
  rw [queueServed, if_neg (by simp [h]), serveBursts_queue]
  exact serveQueue_queue 8 s

theorem evalServed_serves : Serves (overReported s) (evalServed s) := by
  have hpeak (v : State) (fg : Nat) : Serves v (peaked v fg) := by
    have hupd : Serves v (v.upd R.VEST_PEAK (fun w => setFld w 0 12 (max (fld w 0 12) (min 4095 fg)))) := .upd (.inr (.inr (.inr (.inr rfl))))
    exact hupd.trans (.same rfl rfl rfl)
  exact queueServed_serves.trans (hpeak _ _)

theorem deferredAsked_serves : Serves s (deferredAsked s) := .ite (.bgAsk .refl) .refl

/-- A request that asks while the Vestibule refuses leaves the queue as it is. -/
theorem deferredAsked_queue_refusing (h : vestRefusing s = true) : (deferredAsked s).vest.queue = s.vest.queue := by
  unfold deferredAsked
  split
  · rw [bgAsk_vest h]
  · rfl

theorem deferredAsked_none (h : bgState s ≠ 1) : deferredAsked s = s := if_neg (by simp [h])

/-- What an evaluation leaves. -/
theorem evaluation_answers : Answers .evaluation s (fun t => vestF t = min 4095 (foreground s) ∧ t.vest.beats = 0 ∧ t.vest.edges = 0
    ∧ (∀ e : Fin 8, t.eng[e].win = 0)
    ∧ t.vest.overBudget = decide (vestBudget s < min 4095 (foreground s))
    ∧ (vestBudget s < min 4095 (foreground s) → s.vest.overBudget = false → t.bt R.VEST_EVT 1 = true ∧ Raised t FS.VEST_OVER)
    ∧ (vestRefusing s = true → t.vest.queue = [])
    ∧ (vestRefusing s = false → t.vest.queue <:+ s.vest.queue ∨ bgState s = 1)) := by
  refine ⟨_, (exec_evaluation s).trans execEvaluation_eq, ?_⟩
  generalize hj : judged (evalServed s) _ _ _ = j
  have hbudget : j.vest.overBudget = decide (vestBudget s < min 4095 (foreground s)) := by
    rw [← hj, vestBudget_estimated]
    rfl
  have hregs : j.regs = (evalServed s).regs := by rw [← hj]; rfl
  have hflt : j.flt = (evalServed s).flt := by rw [← hj]; rfl
  have hqueue : j.vest.queue = (queueServed (overReported s)).vest.queue := by rw [← hj]; rfl
  have hrd (o : Nat) : j.rd o = (evalServed s).rd o := by rw [State.rd, hregs, State.rd]
  have hserved : Serves (estimated s) (evalServed s) := overReported_serves.trans evalServed_serves
  have hrefusing : vestRefusing (overReported s) = vestRefusing s := overReported_serves.refusing.trans estimated_refusing
  have hj_refusing : vestRefusing j = vestRefusing s := by
    have hword : vestRefusing j = vestRefusing (evalServed s) := by simp only [vestRefusing, State.bt, hrd]
    exact hword.trans (hserved.refusing.trans estimated_refusing)
  have hask : Serves j (deferredAsked j) := deferredAsked_serves
  have hrefused : vestRefusing s = true → (deferredAsked j).vest.queue = [] := fun hr => by
    rw [deferredAsked_queue_refusing (hj_refusing.trans hr), hqueue, queueServed_queue_refusing (hrefusing.trans hr)]
  have hsuffix : vestRefusing s = false → (deferredAsked j).vest.queue <:+ s.vest.queue ∨ bgState s = 1 := fun hr => by
    by_cases hb : bgState j = 1
    · have hdeferred : bgState (evalServed s) = 1 := (bgState_of_rd (hrd _)).symm.trans hb
      exact .inr ((bgState_of_rd (estimated_rd (by decide))).symm.trans (hserved.deferred hdeferred))
    · have hq := queueServed_queue (hrefusing.trans hr)
      rw [overReported_vest] at hq
      rw [deferredAsked_none hb, hqueue]
      exact .inl hq
  generalize deferredAsked j = w at *
  refine ⟨?_, rfl, rfl, fun e => ?_, hask.budget.trans hbudget, fun hover hnot => ?_, hrefused, hsuffix⟩
  · have hstat : w.rd R.VEST_STAT = (estimated s).rd R.VEST_STAT := by
      rw [hask.rd _ (not_serveReg (by decide) (by decide)), hrd, hserved.rd _ (not_serveReg (by decide) (by decide))]
    rw [← vestF_estimated]
    exact congrArg (fun x => fld x 0 12) hstat
  · exact congrArg Eng.win (Vector.getElem_map _ e.isLt)
  · obtain ⟨hevt, hraised⟩ := overReported_over hover hnot
    have hevt' : j.bt R.VEST_EVT 1 = true := by
      rw [State.bt, hrd]
      exact evalServed_serves.events 1 hevt
    have hraised' : Raised j FS.VEST_OVER := (evalServed_serves.raised _ (by decide) hraised).of_rd (by decide) hflt fun o _ => hrd o
    exact ⟨hask.events 1 hevt', hask.raised _ (by decide) hraised'⟩

/-! ### The temperature levels (R365) -/

variable {j k : Nat} {thr : Int}

theorem tempLevel_hot (h : ∃ x ∈ sensors s, thr ≤ x) : ∃ d, tempLevel s k thr = s.raiseLevel k d := by
  unfold tempLevel
  extract_lets hot
  rcases hhot : hot with _ | ⟨⟨x, i⟩, l⟩
  · obtain ⟨x, hx, hle⟩ := h
    obtain ⟨i, hi, rfl⟩ := List.mem_iff_getElem.mp hx
    have hmem : ((sensors s)[i], i) ∈ hot :=
      List.mem_filter.mpr ⟨List.mem_zipIdx_iff_getElem?.mpr (List.getElem?_eq_getElem hi), decide_eq_true hle⟩
    rw [hhot] at hmem
    exact absurd hmem List.not_mem_nil
  · exact ⟨_, rfl⟩

theorem tempLevel_cool (h : ∀ x ∈ sensors s, x < thr) :
    tempLevel s k thr = if (sensors s).all (fun x => decide (x ≤ thr - 8)) then s.endLevel k else s := by
  have hhot : (sensors s).zipIdx.filter (fun x => decide (thr ≤ x.1)) = [] := by
    rw [List.filter_eq_nil_iff]
    rintro ⟨x, i⟩ hx
    have hlt := h x (List.fst_mem_of_mem_zipIdx hx)
    simp only [decide_eq_true_eq]
    omega
  unfold tempLevel
  rw [hhot]

/-- A level source that is raised, ended or left keeps what the others have raised, and their levels. -/
theorem tempLevel_cases (s : State) (k : Nat) (thr : Int) :
    (∃ d, tempLevel s k thr = s.raiseLevel k d) ∨ tempLevel s k thr = s.endLevel k ∨ tempLevel s k thr = s := by
  by_cases h : ∃ x ∈ sensors s, thr ≤ x
  · exact .inl (tempLevel_hot h)
  · rw [tempLevel_cool fun x hx => not_le.mp fun hle => h ⟨x, hx, hle⟩]
    split
    · exact .inr (.inl rfl)
    · exact .inr (.inr rfl)

theorem endLevel_raised (hk : k < 256) (hj : j < 256) (h : Raised s j) : Raised (s.endLevel k) j := by
  have hp : (s.endLevel k).fltPend j = s.fltPend j := by
    have hne : R.FLT_PEND + 4 * (j / 32) ≠ fsrcStat k := by
      simp only [R.FLT_PEND, fsrcStat, R.FSRC_STAT]
      omega
    rw [State.fltPend, State.bt, State.endLevel, State.setBt_rd, if_neg hne]
    rfl
  rw [Raised, hp]
  exact h

theorem tempLevel_raised (hk : k < 256) (hj : j < 256) (h : Raised s j) : Raised (tempLevel s k thr) j := by
  rcases tempLevel_cases s k thr with ⟨d, e⟩ | e | e <;> rw [e]
  · exact h.raiseLevel hk hj
  · exact endLevel_raised hk hj h
  · exact h

theorem tempLevel_reports (hk : k < 256) : Reports raiseReg s (tempLevel s k thr) := by
  rcases tempLevel_cases s k thr with ⟨d, e⟩ | e | e <;> rw [e]
  · exact raiseLevel_reports hk d
  · exact .setBt (fsrcStat_raiseReg hk)
  · exact .refl

/-- The level of another source stays. -/
theorem tempLevel_other (hj : j < 256) (h : j ≠ k) : (tempLevel s k thr).bt (fsrcStat j) 17 = s.bt (fsrcStat j) 17 := by
  have hset (b : Bool) : (s.setBt (fsrcStat k) 17 b).bt (fsrcStat j) 17 = s.bt (fsrcStat j) 17 := by
    have hne : fsrcStat j ≠ fsrcStat k := by
      simp only [fsrcStat]
      omega
    rw [State.bt, State.setBt_rd, if_neg hne]
    rfl
  rcases tempLevel_cases s k thr with ⟨d, e⟩ | e | e <;> rw [e]
  · unfold State.raiseLevel
    split
    · rfl
    · exact ((raise_keepsLevels _ k d).level j hj).trans (hset true)
  · exact hset false

/-- From `s` to `t` the level of source `k` has followed the temperatures. -/
def Follows (temps : List Int) (k : Nat) (thr : Int) (s t : State) : Prop :=
  ((∃ x ∈ temps, thr ≤ x) → t.bt (fsrcStat k) 17 = true ∧ (s.bt (fsrcStat k) 17 = false → Raised t k))
  ∧ ((∀ x ∈ temps, x ≤ thr - 8) → t.bt (fsrcStat k) 17 = false)
  ∧ ((∀ x ∈ temps, x < thr) → (∃ x ∈ temps, thr - 8 < x) → t.bt (fsrcStat k) 17 = s.bt (fsrcStat k) 17)

theorem tempLevel_follows (hk : k < 256) : Follows (sensors s) k thr s (tempLevel s k thr) := by
  refine ⟨fun h => ?_, fun h => ?_, fun h hwarm => ?_⟩
  · obtain ⟨d, e⟩ := tempLevel_hot (k := k) h
    rw [e]
    refine ⟨raiseLevel_active hk d, fun hoff => ?_⟩
    rw [State.raiseLevel, if_neg (by simp [hoff])]
    exact raise_raised _ hk _
  · rw [tempLevel_cool fun x hx => by have := h x hx; omega, if_pos (List.all_eq_true.mpr fun x hx => decide_eq_true (h x hx))]
    exact endLevel_inactive
  · obtain ⟨x, hx, hlt⟩ := hwarm
    have hnot : ¬(sensors s).all (fun x => decide (x ≤ thr - 8)) = true := fun h' => by
      have := of_decide_eq_true (List.all_eq_true.mp h' x hx)
      omega
    rw [tempLevel_cool h, if_neg hnot]

/-- Beside the measure of `k` its level stays, and what it has raised. -/
theorem Follows.beside {temps : List Int} {s' t' : State} (h : Follows temps k thr s' t) (hs : s'.bt (fsrcStat k) 17 = s.bt (fsrcStat k) 17)
    (ht : t'.bt (fsrcStat k) 17 = t.bt (fsrcStat k) 17) (hr : Raised t k → Raised t' k) : Follows temps k thr s t' := by
  unfold Follows at *
  rw [ht, ← hs]
  exact ⟨fun hx => ⟨(h.1 hx).1, fun hoff => hr ((h.1 hx).2 hoff)⟩, h.2⟩

/-- Both levels follow one measure; the queue refused after it leaves them and the sensors. -/
theorem tempLevels_follow (s : State) (warn crit : Int) :
    let t := startRefusing (tempLevel (tempLevel s FS.TEMP_WARN warn) FS.TEMP_CRIT crit)
    (∀ o, 0x20C0 ≤ o ∧ o < 0x2100 → t.rd o = s.rd o)
    ∧ Follows (sensors s) FS.TEMP_WARN warn s t ∧ Follows (sensors s) FS.TEMP_CRIT crit s t := by
  intro t
  have hwarn : Reports raiseReg s (tempLevel s FS.TEMP_WARN warn) := tempLevel_reports (by decide)
  have hcrit : Reports raiseReg (tempLevel s FS.TEMP_WARN warn) (tempLevel (tempLevel s FS.TEMP_WARN warn) FS.TEMP_CRIT crit) :=
    tempLevel_reports (by decide)
  have hserves : Serves (tempLevel (tempLevel s FS.TEMP_WARN warn) FS.TEMP_CRIT crit) t := .startRefusing .refl
  have hsensors : sensors (tempLevel s FS.TEMP_WARN warn) = sensors s := by
    rw [sensors, hwarn.rd _ (not_raiseReg (by decide)), hwarn.rd _ (not_raiseReg (by decide))]
    rfl
  refine ⟨fun o ho => ?_, ?_, ?_⟩
  · rw [hserves.rd o (not_serveReg (by omega) ?_), (hwarn.trans hcrit).rd o (not_raiseReg (by omega))]
    simp only [feGlobOff, R.VEST_EVT, R.BG_STAT, R.VEST_CNT, R.CHEST_STAT, R.MC_STAT, FE.GOSTAT, R.VEST_PEAK]
    omega
  · have hlevel := (hserves.levels.level FS.TEMP_WARN (by decide)).trans (tempLevel_other (by decide) (by decide))
    exact (tempLevel_follows (by decide)).beside rfl hlevel fun hr =>
      hserves.raised _ (by decide) (tempLevel_raised (by decide) (by decide) hr)
  · have hcool := tempLevel_follows (s := tempLevel s FS.TEMP_WARN warn) (k := FS.TEMP_CRIT) (thr := crit) (by decide)
    rw [hsensors] at hcool
    exact hcool.beside (tempLevel_other (by decide) (by decide)) (hserves.levels.level _ (by decide)) (hserves.raised _ (by decide))

/-- The state with the temperatures of a measure. -/
def tempRead (s : State) (t01 t23 : Word) : State := (s.wr R.TEL_TEMP01 t01).wr R.TEL_TEMP23 t23

theorem tempRead_rd {t01 t23 : Word} {o : Nat} :
    (tempRead s t01 t23).rd o = if o = R.TEL_TEMP23 then t23 else if o = R.TEL_TEMP01 then t01 else s.rd o := by
  rw [tempRead, State.wr_rd, State.wr_rd]

theorem sensors_tempRead {t01 t23 : Word} : sensors (tempRead s t01 t23) =
    [sext 16 t01.toNat, sext 16 (t01.toNat / 65536), sext 16 t23.toNat, sext 16 (t23.toNat / 65536)] := by
  rw [sensors, tempRead_rd, tempRead_rd, if_neg (by decide), if_pos rfl, if_pos rfl]

theorem tempMeasure_answers (t01 t23 : Word) :
    let temps := [sext 16 t01.toNat, sext 16 (t01.toNat / 65536), sext 16 t23.toNat, sext 16 (t23.toNat / 65536)]
    Answers (.tempMeasure t01 t23) s (fun t => t.rd R.TEL_TEMP01 = t01 ∧ t.rd R.TEL_TEMP23 = t23
      ∧ Follows temps FS.TEMP_WARN (sext 16 (s.rd R.TEL_THR).toNat) s t
      ∧ Follows temps FS.TEMP_CRIT (sext 16 ((s.rd R.TEL_THR).toNat / 65536)) s t) := by
  intro temps
  have hthr : (tempRead s t01 t23).rd R.TEL_THR = s.rd R.TEL_THR := by rw [tempRead_rd, if_neg (by decide), if_neg (by decide)]
  have hlevel (k : Nat) (hk : k < 256) : (tempRead s t01 t23).bt (fsrcStat k) 17 = s.bt (fsrcStat k) 17 := by
    have hoff : fsrcStat k < 0x2000 := by
      simp only [fsrcStat, R.FSRC_STAT]
      omega
    rw [State.bt, tempRead_rd, if_neg (by simp only [R.TEL_TEMP23]; omega), if_neg (by simp only [R.TEL_TEMP01]; omega)]
    rfl
  obtain ⟨hrd, hwarn, hcrit⟩ := tempLevels_follow (tempRead s t01 t23) (sext 16 (s.rd R.TEL_THR).toNat) (sext 16 ((s.rd R.TEL_THR).toNat / 65536))
  rw [sensors_tempRead] at hwarn hcrit
  have hexec : execTempMeasure t01 t23 s = .next (startRefusing (tempLevel (tempLevel (tempRead s t01 t23) FS.TEMP_WARN
      (sext 16 (s.rd R.TEL_THR).toNat)) FS.TEMP_CRIT (sext 16 ((s.rd R.TEL_THR).toNat / 65536)))) := by
    rw [← hthr]
    rfl
  refine ⟨_, hexec, ?_, ?_, ?_, ?_⟩
  · rw [hrd _ (by decide), tempRead_rd, if_neg (by decide), if_pos rfl]
  · rw [hrd _ (by decide), tempRead_rd, if_pos rfl]
  · exact hwarn.beside (hlevel _ (by decide)) rfl id
  · exact hcrit.beside (hlevel _ (by decide)) rfl id
end

end Sys2Proof.Machine

/-!
# Background work, the evaluation, temperature and telemetry (O49)
-/

namespace Sys2Proof.Machine

section
variable {s t : State} {fl : Fin 8}

/-! ### Telemetry (R364) -/

/-- An EVT entry leaves the time and every register but RINGr_LOST and those of a report. -/
theorem evtPost_keeps {r : Fin 64} {kind : Nat} {time : Word} {ws : List Word} {o : Nat} (hr : ¬raiseReg o) (ho : o ≠ ringOff r RING.LOST) :
    (evtPost s r kind time ws).rd o = s.rd o ∧ (evtPost s r kind time ws).ticks = s.ticks := by
  unfold evtPost
  extract_lets x full u
  have hrun (f : Ring → Ring) : (u.updRing r f).rd o = s.rd o ∧ (u.updRing r f).ticks = s.ticks := by
    rw [State.updRing_rd, State.updRing_ticks, State.note_rd, if_neg ho, State.note_ticks]
    exact ⟨rfl, rfl⟩
  split
  · rcases x.lost with _ | ⟨n, first, last⟩
    · obtain ⟨hrd, hticks⟩ := hrun (fun x => { x with lost := some (1, time, time) })
      have h := raise_reports (u.updRing r (fun x => { x with lost := some (1, time, time) })) FS.RING_EVTLOST (w32 r.val)
      exact ⟨(h.rd o hr).trans hrd, h.ticks.trans hticks⟩
    · exact hrun _
  · exact ⟨State.updRing_rd .., State.updRing_ticks ..⟩

theorem telSupplies_rd {o : Nat} (ho : o ≠ R.TEL_SUP0 ∧ o ≠ R.TEL_SUP1 ∧ o ≠ R.TEL_SUP2) : (telSupplies s).rd o = s.rd o := by
  obtain ⟨h0, h1, h2⟩ := ho
  simp only [telSupplies, State.fresh]
  rw [State.wr_rd, if_neg h2, State.wr_rd, if_neg h1, State.wr_rd, if_neg h0]
  rfl

theorem evtEnabled_telSupplies {r : Fin 64} : evtEnabled (telSupplies s) r = evtEnabled s r := by
  have hrd (x : Nat) : (telSupplies s).rd (ringOff r x) = s.rd (ringOff r x) :=
    telSupplies_rd (by simp only [ringOff, R.TEL_SUP0, R.TEL_SUP1, R.TEL_SUP2]; omega)
  simp only [evtEnabled, ringType, ringState, State.fl, hrd]

/-- A sample has been sent to the telemetry ring, or is lost. -/
def sampleSent (s : State) (r : Fin 64) (parts : List (List Word)) : State :=
  if evtEnabled s r then parts.foldl (fun s ws => evtPost s r 2 s.near ws) s else (s.satFl R.TEL_LOST 0 16).raise FS.TELEM_LOST

theorem sampleSent_keeps {r : Fin 64} {parts : List (List Word)} :
    (sampleSent s r parts).rd R.TEL_STAT = s.rd R.TEL_STAT ∧ (sampleSent s r parts).ticks = s.ticks := by
  unfold sampleSent
  split
  · refine List.foldlRecOn (motive := fun u : State => u.rd R.TEL_STAT = s.rd R.TEL_STAT ∧ u.ticks = s.ticks) parts _ ⟨rfl, rfl⟩
      fun u hu ws _ => ?_
    obtain ⟨hrd, hticks⟩ := evtPost_keeps (s := u) (r := r) (kind := 2) (time := u.near) (ws := ws) (o := R.TEL_STAT) (not_raiseReg (by decide))
      (by simp only [R.TEL_STAT, ringOff]; omega)
    exact ⟨hrd.trans hu.1, hticks.trans hu.2⟩
  · have h := raise_reports (s.satFl R.TEL_LOST 0 16) FS.TELEM_LOST 0
    refine ⟨(h.rd _ (not_raiseReg (by decide))).trans ?_, h.ticks⟩
    rw [State.satFl_rd, if_neg (by decide)]

/-- Without an enabled ring the sample counts as lost. -/
theorem sampleSent_lost {r : Fin 64} {parts : List (List Word)} (h : evtEnabled s r = false) :
    (sampleSent s r parts).fl R.TEL_LOST 0 16 = min 65535 (s.fl R.TEL_LOST 0 16 + 1) ∧ Raised (sampleSent s r parts) FS.TELEM_LOST := by
  rw [sampleSent, if_neg (by simp [h])]
  exact ⟨counted_raise (by decide) (by decide), raise_raised _ (by decide) _⟩

/-- The sample is counted. -/
def sampleCounted (s : State) : State := s.setFl R.TEL_STAT 0 16 (s.fl R.TEL_STAT 0 16 + 1)

/-- The period of the next sample starts. -/
def periodStarted (s : State) : State :=
  let u := s.updVest (fun v => { v with telF := 0, telFG := 0, telLand := landOcc s, telAt := s.ticks })
  { u with eng := u.eng.map (fun x => { x with tel := 0 }) }

theorem execTelemetrySample_eq (h : s.bt R.TEL_CTRL 0 = true) : ∃ parts, execTelemetrySample s = .next (periodStarted (sampleCounted
    (sampleSent (telSupplies s) (Fin.ofNat 64 (s.fl R.TEL_CTRL 8 6)) parts))) := by
  have hon : ¬(!s.bt R.TEL_CTRL 0) = true := by simp [h]
  have hring : (telSupplies s).fl R.TEL_CTRL 8 6 = s.fl R.TEL_CTRL 8 6 := by
    rw [State.fl, telSupplies_rd (by decide)]
    rfl
  rw [← hring]
  exact ⟨_, if_neg hon⟩

theorem sampleCounted_rd {o : Nat} (h : o ≠ R.TEL_STAT) : (sampleCounted s).rd o = s.rd o := by
  rw [sampleCounted, State.setFl_rd, if_neg h]

theorem sampleCounted_count : (sampleCounted s).fl R.TEL_STAT 0 16 = (s.fl R.TEL_STAT 0 16 + 1) % 65536 := by
  rw [State.fl, sampleCounted, State.setFl_rd, if_pos rfl]
  exact fld_setFld _ 0 16 _ (by decide)

theorem telemetrySample_answers (hen : s.bt R.TEL_CTRL 0 = true) :
    Answers .telemetrySample s (fun t => t.fl R.TEL_STAT 0 16 = (s.fl R.TEL_STAT 0 16 + 1) % 65536
      ∧ (∀ e : Fin 8, t.eng[e].tel = 0) ∧ t.vest.telAt = s.ticks ∧ t.vest.telF = 0 ∧ t.vest.telFG = 0
      ∧ (evtEnabled s (Fin.ofNat 64 (s.fl R.TEL_CTRL 8 6)) = false →
          t.fl R.TEL_LOST 0 16 = min 65535 (s.fl R.TEL_LOST 0 16 + 1) ∧ Raised t FS.TELEM_LOST)) := by
  obtain ⟨parts, hexec⟩ := execTelemetrySample_eq hen
  obtain ⟨hstat, hticks⟩ := sampleSent_keeps (s := telSupplies s) (r := Fin.ofNat 64 (s.fl R.TEL_CTRL 8 6)) (parts := parts)
  have hlost := sampleSent_lost (s := telSupplies s) (r := Fin.ofNat 64 (s.fl R.TEL_CTRL 8 6)) (parts := parts)
  rw [evtEnabled_telSupplies] at hlost
  refine ⟨_, hexec, ?_⟩
  generalize sampleSent (telSupplies s) _ parts = v at *
  refine ⟨?_, fun e => congrArg Eng.tel (Vector.getElem_map _ e.isLt), hticks, rfl, rfl, fun h => ?_⟩
  · refine sampleCounted_count.trans ?_
    rw [State.fl, hstat, telSupplies_rd (by decide)]
    rfl
  · obtain ⟨hcount, hraised⟩ := hlost h
    have hlater : Raised (sampleCounted v) FS.TELEM_LOST :=
      Raised.of_rd (s := v) (by decide) rfl (fun o ho => sampleCounted_rd fun e => not_raiseReg (by decide) (e ▸ ho)) hraised
    refine ⟨?_, hlater⟩
    have hfl : (sampleCounted v).fl R.TEL_LOST 0 16 = v.fl R.TEL_LOST 0 16 := congrArg (fun y => fld y 0 16) (sampleCounted_rd (by decide))
    refine hfl.trans (hcount.trans ?_)
    rw [State.fl, telSupplies_rd (by decide)]
    rfl

/-! ### Requests of BG_REQ (R362, R363) -/

/-- What a request of BG_REQ comes to: refused by the Vestibule's side or by BG_REQ's own, deferred, or granted. -/
theorem request_answers {c : Instr} {op n u : Nat} {d : Bool} {k : Heavy} (hc : exec c s = .next (bgRequest s op n d))
    (hk : bgTargetOk op n = true → bgKind n = k ∧ bgUnits n = u) :
    (bgState s ≠ 0 → Answers c s (fun t => (bgState t = bgState s ∧ t.fl R.BG_STAT 4 4 = 3) ∧ t.vest = s.vest ∧ t.bg = s.bg))
    ∧ (bgState s = 0 → bgTargetOk op n = false → Answers c s (fun t =>
        (bgState t = 0 ∧ t.fl R.BG_STAT 4 4 = 5) ∧ t.vest = s.vest ∧ t.bg = s.bg))
    ∧ (bgState s = 0 → bgTargetOk op n = true → bgIdle s n = false → Answers c s (fun t => t.bg.target = n ∧ t.vest = s.vest
        ∧ bgState t = (if d then 1 else 0) ∧ t.fl R.BG_STAT 4 4 = if d then 0 else 3))
    ∧ (bgState s = 0 → bgTargetOk op n = true → bgIdle s n = true →
        vestRefusing s = false ∧ s.vest.queue = [] ∧ vestF s + vestG s + u ≤ vestBudget s → Answers c s (fun t => t.bg.target = n
          ∧ (bgState t = 3 ∧ t.fl R.BG_STAT 4 4 = 0) ∧ (∃ g ∈ t.vest.grants, g.kind = k ∧ g.units = u)
          ∧ t.fl R.VEST_CNT 0 16 = min 65535 (s.fl R.VEST_CNT 0 16 + 1)))
    ∧ (bgState s = 0 → bgTargetOk op n = true → bgIdle s n = true → vestRefusing s = true → Answers c s (fun t =>
        (bgState t = 0 ∧ t.fl R.BG_STAT 4 4 = 4) ∧ Raised t FS.VEST_REFUSED ∧ t.vest = s.vest ∧ t.bt R.VEST_EVT 0 = true)) := by
  have htaken : bgState (bgTaken s n d) = bgState s ∧ (bgTaken s n d).fl R.BG_STAT 4 4 = 0 := ⟨bgState_bgResult, result_bgResult⟩
  obtain ⟨hstate, hresult⟩ := htaken
  refine ⟨fun h => ?_, fun h ht => ?_, fun h ht hi => ?_, fun h ht hi hfits => ?_, fun h ht hi hr => ?_⟩
  · exact ⟨_, hc.trans (congrArg _ (bgRequest_busy h)), ⟨bgState_bgResult, result_bgResult⟩, rfl, rfl⟩
  · exact ⟨_, hc.trans (congrArg _ (bgRequest_foreign h ht)), ⟨bgState_bgResult.trans h, result_bgResult⟩, rfl, rfl⟩
  · refine ⟨_, hc.trans (congrArg _ ((bgRequest_free h ht).trans (if_neg (by simp [hi])))), ?_⟩
    cases d with
    | true => exact ⟨rfl, rfl, bgState_setBgState, result_setBgState.trans hresult⟩
    | false => exact ⟨rfl, rfl, bgState_bgResult.trans (hstate.trans h), result_bgResult⟩
  · obtain ⟨hr, hq, hf⟩ := hfits
    obtain ⟨rfl, rfl⟩ := hk ht
    obtain ⟨hrun, hres, htarget, hcount⟩ := grant_background (s := setBgState (bgTaken s n d) 2) (n := bgUnits n) (bgKind_background n)
    refine ⟨_, hc.trans (congrArg _ (((bgRequest_free h ht).trans (if_pos hi)).trans (bgAsk_granted hr hq hf))), htarget, ⟨hrun, ?_⟩, ?_, ?_⟩
    · rw [hres, result_setBgState, hresult]
    · obtain ⟨e, hv⟩ := grant_vest (s := setBgState (bgTaken s n d) 2) (k := bgKind n) (n := bgUnits n)
      rw [hv]
      exact ⟨_, List.mem_append_right _ (List.mem_singleton_self _), rfl, rfl⟩
    · have hcnt : (setBgState (bgTaken s n d) 2).rd R.VEST_CNT = s.rd R.VEST_CNT := (setBgState_rd (by decide)).trans (bgResult_rd (by decide))
      rw [hcount, State.fl, hcnt]
      rfl
  · obtain ⟨hend, hres, hraised, hevt⟩ := refuse_background (s := setBgState (bgTaken s n d) 2) (bgKind_background n)
    exact ⟨_, hc.trans (congrArg _ (((bgRequest_free h ht).trans (if_pos hi)).trans (bgAsk_refused hr))), ⟨hend, hres⟩, hraised,
      refuse_vest, hevt⟩

/-- A request under way is withdrawn, and its result is CANCEL. -/
theorem bgCancel_answers (h : bgState s = 1 ∨ bgState s = 2) :
    Answers .bgCancel s (fun t => (bgState t = 0 ∧ t.fl R.BG_STAT 4 4 = 7) ∧ t.vest.grants = s.vest.grants) := by
  refine ⟨_, congrArg Host.Outcome.next (if_pos (by simpa using h)), ⟨?_, result_bgResult⟩, rfl⟩
  rw [bgState_bgResult, bgState_setBgState]

/-- The state of a self-test that has ended with its result. -/
def testJudged (s : State) (pass : Bool) (ofs : BitVec 20) : State :=
  if pass then bgResult (testEnded s) 1 else ((bgResult (testEnded s) 2).wr R.BG_FAIL (ofs.setWidth 32)).raise FS.BIST_FAIL

theorem testJudged_vest {pass : Bool} {ofs : BitVec 20} : (testJudged s pass ofs).vest = (testEnded s).vest := by
  cases pass with
  | true => rfl
  | false => exact raise_vest

theorem testJudged_byte {pass : Bool} {ofs : BitVec 20} {o : Nat} : (testJudged s pass ofs).byte o = (testEnded s).byte o := by
  have hmem : (testJudged s pass ofs).mem = (testEnded s).mem := by
    cases pass with
    | true => rfl
    | false => exact (raise_reports _ FS.BIST_FAIL 0).mem
  rw [State.byte, hmem]
  rfl

theorem testJudged_result {pass : Bool} {ofs : BitVec 20} :
    bgState (testJudged s pass ofs) = 0 ∧ (testJudged s pass ofs).fl R.BG_STAT 4 4 = if pass then 1 else 2 := by
  cases pass with
  | true => exact ⟨bgState_bgResult.trans testEnded_state, result_bgResult⟩
  | false =>
    have hrd : (testJudged s false ofs).rd R.BG_STAT = (bgResult (testEnded s) 2).rd R.BG_STAT := by
      refine ((raise_reports _ FS.BIST_FAIL 0).rd _ (not_raiseReg (by decide))).trans ?_
      rw [State.wr_rd, if_neg (by decide)]
    refine ⟨(bgState_of_rd hrd).trans (bgState_bgResult.trans testEnded_state), ?_⟩
    rw [State.fl, hrd]
    exact result_bgResult

/-- A self-test that fails tells the first failing offset, and is reported. -/
theorem testJudged_failed {ofs : BitVec 20} :
    (testJudged s false ofs).rd R.BG_FAIL = ofs.setWidth 32 ∧ Raised (testJudged s false ofs) FS.BIST_FAIL := by
  refine ⟨?_, raise_raised _ (by decide) _⟩
  refine ((raise_reports _ FS.BIST_FAIL 0).rd _ (not_raiseReg (by decide))).trans ?_
  rw [State.wr_rd, if_pos rfl]

theorem execSelfTestEnd_eq {pass : Bool} {ofs : BitVec 20} (h : bgState s = 3) (ht : s.bg.target < 64) :
    execSelfTestEnd pass ofs s = .next (testJudged s pass ofs) := if_pos (by simp [h, ht])

/-! ### The delay lines (R98, R361) -/

theorem swapBy_none (h : s.bg.cal[fl].swapBy = none) : ¬s.bg.cal[fl].swapBy.isSome = true := by
  rw [h]
  exact Bool.false_ne_true

theorem calibrationTurn_fails (h : s.bg.cal[fl].swapBy = none) : Answers (.calibrationTurn fl false) s (fun t =>
    t.bg.cal[fl].ends = none ∧ t.bg.cal[fl].swapBy = none ∧ t.bg.cal[fl].pos = s.bg.cal[fl].pos ∧ Raised t FS.CAL_FAIL
    ∧ t.fl R.CAL_CNT 16 16 = min 65535 (s.fl R.CAL_CNT 16 16 + 1)) := by
  refine ⟨_, if_neg (swapBy_none h), ?_⟩
  generalize hu : (s.updVest fun v => { v with bg := true }).updCal fl (fun c => { c with ends := none }) = u
  have hcal : u.bg.cal[fl] = { s.bg.cal[fl] with ends := none } := by rw [← hu]; exact updCal_cal
  have hrd : u.rd R.CAL_CNT = s.rd R.CAL_CNT := by rw [← hu]; rfl
  have hraised : Raised ((u.satFl R.CAL_CNT 16 16).raise FS.CAL_FAIL) FS.CAL_FAIL := raise_raised _ (by decide) _
  obtain ⟨⟨b, hend⟩, hregs, -, -⟩ := calForcedEnd_spec (s := (u.satFl R.CAL_CNT 16 16).raise FS.CAL_FAIL) (fl := fl) 6
  rw [raise_bg, State.satFl_bg, hcal] at hend
  refine ⟨?_, ?_, ?_, hraised.calForcedEnd (by decide), ?_⟩
  · rw [hend]
  · rw [hend]
    exact h
  · rw [hend]
  · rw [State.fl, hregs _ (by decide)]
    refine (counted_raise (by decide) (by decide)).trans ?_
    rw [State.fl, hrd]
    rfl

theorem delayLineSwap_answers (h : s.bg.cal[fl].swapBy.isSome = true) (hq : swapQuiet s fl = true) : Answers (.delayLineSwap fl) s (fun t =>
    t.bg.cal[fl].swapBy = none ∧ t.bg.cal[fl].pos = (s.bg.cal[fl].pos + 1) % (if fl = 0 then 13 else 12) ∧ t.ch = s.ch
    ∧ t.rd R.CAL_STAT = w32 (fl.val + s.bg.cal[fl].pos * 16)) := by
  refine ⟨_, if_pos (by rw [h, hq]; rfl), ?_⟩
  generalize hu : ((s.wr R.CAL_STAT _).updCal fl _).updVest _ = u
  have hcal : u.bg.cal[fl] = { s.bg.cal[fl] with swapBy := none, pos := calNext fl s.bg.cal[fl].pos } := by
    rw [← hu, State.updVest_bg, updCal_cal]
    rfl
  have hstat : u.rd R.CAL_STAT = w32 (fl.val + s.bg.cal[fl].pos * 16) := by
    rw [← hu]
    exact (State.wr_rd ..).trans (if_pos rfl)
  have hchannels : u.ch = s.ch := by rw [← hu]; rfl
  obtain ⟨⟨b, hend⟩, hregs, -, hch⟩ := calForcedEnd_spec (s := u) (fl := fl) 1
  rw [hcal] at hend
  refine ⟨?_, ?_, hch.trans hchannels, (hregs _ (by decide)).trans hstat⟩
  · rw [hend]
  · rw [hend]
    simp only [calNext, Fin.val_eq_zero_iff]

theorem swapSkip_answers {x : Nat} (h : s.bg.cal[fl].swapBy = some x) (hx : x ≤ s.ticks) : Answers (.swapSkip fl) s (fun t =>
    t.bg.cal[fl].swapBy = none ∧ t.bg.cal[fl].pos = s.bg.cal[fl].pos ∧ Raised t FS.CAL_SKIP
    ∧ t.fl R.CAL_CNT 0 16 = min 65535 (s.fl R.CAL_CNT 0 16 + 1)) := by
  have hexec : execSwapSkip fl s = .next (((s.updCal fl (fun c => { c with swapBy := none })).satFl R.CAL_CNT 0 16).raise FS.CAL_SKIP) := by
    unfold execSwapSkip
    rw [h]
    exact if_pos hx
  have hcal : (s.updCal fl (fun c => { c with swapBy := none })).bg.cal[fl] = { s.bg.cal[fl] with swapBy := none } := updCal_cal
  refine ⟨_, hexec, ?_, ?_, raise_raised _ (by decide) _, counted_raise (by decide) (by decide)⟩
  · rw [raise_bg, State.satFl_bg, hcal]
  · rw [raise_bg, State.satFl_bg, hcal]

theorem execSwapSkip_waits (h : ∀ x, s.bg.cal[fl].swapBy = some x → s.ticks < x) : execSwapSkip fl s = .next s := by
  unfold execSwapSkip
  split
  · next x hx => exact if_neg (Nat.not_le_of_lt (h x hx))
  · rfl

/-! ### The scrubber (R360) -/

/-- The end of a pass is counted, with its age. -/
def passCounted (s : State) : State :=
  let u := s.setFl R.SCRUB_STAT 0 16 (min 65535 ((s.ticks - s.bg.scrubAt) / 400000))
  u.setFl R.SCRUB_STAT 16 16 (u.fl R.SCRUB_STAT 16 16 + 1)

theorem passCounted_rd {o : Nat} (h : o ≠ R.SCRUB_STAT) : (passCounted s).rd o = s.rd o := by
  rw [passCounted, State.setFl_rd, if_neg h, State.setFl_rd, if_neg h]

theorem passCounted_age : (passCounted s).fl R.SCRUB_STAT 0 16 = min 65535 ((s.ticks - s.bg.scrubAt) / 400000) := by
  rw [State.fl, passCounted, State.setFl_rd, if_pos rfl, fld_setFld_ne _ _ _ _ _ _ (.inl (by decide)), State.setFl_rd, if_pos rfl,
    fld_setFld _ _ _ _ (by decide)]
  omega

theorem passCounted_count : (passCounted s).fl R.SCRUB_STAT 16 16 = (s.fl R.SCRUB_STAT 16 16 + 1) % 65536 := by
  rw [State.fl, passCounted, State.setFl_rd, if_pos rfl, fld_setFld _ _ _ _ (by decide), State.fl, State.setFl_rd, if_pos rfl,
    fld_setFld_ne _ _ _ _ _ _ (.inr (by decide))]
  rfl

theorem execScrubPassEnd_eq (hon : s.bg.scrubOn = true) (hp : s.vest.paused = false) : execScrubPassEnd s =
    .next ((passCounted (scrubFixes s)).updBg fun b => { b with scrubOn := b.scrubLate, scrubAt := (scrubFixes s).ticks, scrubLate := false }) :=
  if_pos (by rw [hon, hp]; rfl)

theorem scrubPassEnd_answers (hon : s.bg.scrubOn = true) (hp : s.vest.paused = false) : Answers .scrubPassEnd s (fun t =>
    (Config.scrubErrors s.free ≠ [] → Raised t FS.ECC_COR) ∧ t.bg.scrubOn = s.bg.scrubLate ∧ t.bg.scrubLate = false
    ∧ t.fl R.SCRUB_STAT 0 16 = min 65535 ((s.ticks - s.bg.scrubAt) / 400000)
    ∧ t.fl R.SCRUB_STAT 16 16 = (s.fl R.SCRUB_STAT 16 16 + 1) % 65536) := by
  refine ⟨_, execScrubPassEnd_eq hon hp, ?_⟩
  have hfix := scrubFixes_reports (s := s)
  have hraised := scrubFixes_raised (s := s)
  have hbg : (scrubFixes s).bg = s.bg := (congrArg State.bg hfix.rest :)
  have hticks : (scrubFixes s).ticks = s.ticks := hfix.ticks
  have hstat : (scrubFixes s).rd R.SCRUB_STAT = s.rd R.SCRUB_STAT := hfix.rd _ (not_raiseReg (by decide))
  generalize scrubFixes s = u at *
  refine ⟨fun hne => ?_, congrArg Bg.scrubLate hbg, rfl, ?_, ?_⟩
  · have hr : Raised (passCounted u) FS.ECC_COR :=
      Raised.of_rd (s := u) (by decide) rfl (fun o ho => passCounted_rd fun e => not_raiseReg (by decide) (e ▸ ho)) (hraised hne)
    exact hr
  · rw [← hticks, ← hbg]
    exact passCounted_age
  · refine passCounted_count.trans ?_
    rw [State.fl, hstat]
    rfl
end

/-- Settles O49: the Vestibule's answers keep what has been reported and serve its queue from the head; each command of the background
work is then one case of its definition. -/
theorem backgroundWork : Obligations.BackgroundWork := by
  unfold Obligations.BackgroundWork
  intro s a v fl result tgt fitsNow asks
  have hselfTest : bgTargetOk 1 tgt = true → bgKind tgt = .selfTest tgt ∧ bgUnits tgt = 20 := fun h => by
    have hlow : tgt < 64 := by
      simp only [bgTargetOk, if_true, Bool.or_eq_true, Bool.and_eq_true, decide_eq_true_eq] at h
      omega
    exact ⟨if_pos hlow, if_pos hlow⟩
  have hrecal : bgTargetOk 2 tgt = true → bgKind tgt = .recal (Fin.ofNat 8 (tgt - 64)) ∧ bgUnits tgt = 6 := fun h => by
    have hhigh : ¬tgt < 64 := by
      simp only [bgTargetOk, OfNat.ofNat_ne_one, if_false, Bool.and_eq_true, decide_eq_true_eq] at h
      omega
    exact ⟨if_neg hhigh, if_neg hhigh⟩
  refine ⟨request_answers (congrArg _ (writeBgReq_op (.inl rfl))) hselfTest, request_answers (congrArg _ (writeBgReq_op (.inr rfl))) hrecal,
    bgCancel_answers, fun h => ?_, fun pass ofs => ⟨fun h ht => ?_, fun h => ?_⟩, fun ok h => ?_, fun h => ?_, calibrationTurn_fails,
    delayLineSwap_answers, fun h => ?_, fun x => swapSkip_answers, fun h => ⟨_, execSwapSkip_waits h, rfl⟩, fun h => ?_, fun h hd => ?_,
    fun h hd => ?_, scrubPassEnd_answers, fun h => ?_, evaluation_answers, tempMeasure_answers, fun h => ?_, telemetrySample_answers⟩
  · exact ⟨_, congrArg Host.Outcome.next (if_neg (by rcases h with h | h <;> simp [h])), rfl⟩
  · refine ⟨_, execSelfTestEnd_eq h ht, testJudged_result, fun hf => ?_, ?_, fun e he o => ?_⟩
    · subst hf
      exact testJudged_failed
    · rw [testJudged_vest]
      exact testEnded_grants
    · rw [testJudged_byte, testEnded_byte he]
      exact ⟨fun ho => if_pos ho, fun ho => if_neg ho⟩
  · exact ⟨_, if_neg (by simpa using h), rfl⟩
  · exact ⟨_, if_pos h, rfl⟩
  · refine ⟨_, (if_neg (swapBy_none h)).trans (if_pos rfl), ?_⟩
    generalize hu : (s.updVest fun v => { v with bg := true }).updCal fl (fun c => { c with ends := none }) = u
    have hcal : u.bg.cal[fl] = { s.bg.cal[fl] with ends := none } := by rw [← hu]; exact updCal_cal
    refine ⟨?_, ?_, ?_, by rw [← hu]; rfl⟩
    · rw [updCal_cal, hcal]
    · rw [updCal_cal, ← hu]
      rfl
    · rw [updCal_cal, hcal]
  · refine ⟨_, if_neg fun hboth => ?_, rfl⟩
    obtain ⟨hswap, hquiet⟩ := (Bool.and_eq_true ..).mp hboth
    rcases h with h | h
    · exact swapBy_none h hswap
    · exact Bool.false_ne_true (h.symm.trans hquiet)
  · exact ⟨_, if_neg (by simp [h]), rfl, rfl, rfl⟩
  · refine ⟨_, (if_pos h).trans (congrArg Host.Outcome.next (if_pos hd)), ?_, ?_, raise_raised _ (by decide) _⟩
    · rw [raise_bg]
      rfl
    · rw [raise_bg]
      rfl
  · exact ⟨_, (if_pos h).trans (congrArg Host.Outcome.next (if_neg (by simp [hd]))), rfl⟩
  · refine ⟨_, if_neg ?_, rfl⟩
    rcases h with h | h <;> simp [h]
  · exact ⟨_, if_pos (by simp [h]), rfl⟩

end Sys2Proof.Machine

/-!
# What the work of a Newel reaches

An operation on a Newel changes registers, the Newel itself, what the Banister has been told, and what falls due; for O32, O33, O34 and O54.
-/

namespace Sys2Proof.Machine

section
variable {s t u : State} {n m : Fin 4} {p p' : Nat → Prop} {o b k x : Nat} {v : Word} {f g : Nwl → Nwl} {c : Instr}

/-! ### Raises and what falls due -/

/-- A merge into a record in handling dates no command. -/
theorem mergeRaise_agenda (s : State) (r : Raise) : (s.mergeRaise r).agenda = s.agenda := by
  simp only [State.mergeRaise, apply_ite State.agenda, State.setFl_agenda, State.setBt_agenda, State.wr_agenda, State.updRec_agenda,
    State.later'_agenda, ite_self]

/-- A raise dates at most the creation of its record. -/
theorem raise_agenda (s : State) (k : Nat) (v : Word) :
    (s.raise k v).agenda = s.agenda ∨ ∃ y, (s.raise k v).agenda = insertDue ⟨y, .recordCreate⟩ s.agenda := by
  unfold State.raise State.raiseWith
  extract_lets i w s1
  split
  · exact .inl (mergeRaise_agenda ..)
  split
  · exact .inl (mergeRaise_agenda ..)
  split
  · exact .inl rfl
  · exact .inr ⟨_, rfl⟩

theorem raise_due {d : Due} (h : d ∈ s.agenda) : d ∈ (s.raise k v).agenda := by
  rcases raise_agenda s k v with e | ⟨y, e⟩
  · rwa [e]
  · rw [e]
    exact mem_insertDue_of_mem h

theorem eq_or_mem_of_mem_insertDue {d x : Due} {l : List Due} (h : x ∈ insertDue d l) : x = d ∨ x ∈ l := by
  induction l with
  | nil => exact .inl (List.mem_singleton.mp h)
  | cons y l ih =>
    rw [insertDue] at h
    split at h
    · rcases List.mem_cons.mp h with rfl | h
      · exact .inr (List.mem_cons_self ..)
      · exact (ih h).imp id (List.mem_cons_of_mem _)
    · exact List.mem_cons.mp h

/-! ### The relation -/

/-- The state `t` with the registers, marks, agenda, later happenings, Banister and Newels of `s`. -/
def State.withNewels (t s : State) : State :=
  { t with regs := s.regs, marks := s.marks, agenda := s.agenda, later := s.later, flt := s.flt, nwl := s.nwl }

/-- The sources whose level tells of a Newel: NWL_LOST and NWL_PEERLOSS. -/
def newelSource (k : Nat) : Prop := 152 ≤ k ∧ k < 160

/-- No frame of the primary's time is due. -/
def Quiet (s : State) : Prop := ∀ d ∈ s.agenda, d.cmd ≠ .timeFrameSend

/-- From `s` to `t` Newel `n` has been worked on: registers that `p` holds of and the Newel may have changed, and beside them the Banister
and what falls due. Events of the Newel, raises and, but for a late pass, what was due are still there. -/
structure Tracks (p : Nat → Prop) (n : Fin 4) (s t : State) : Prop where
  rd : ∀ o, ¬p o → t.rd o = s.rd o
  events : ∀ b, s.bt (nwlOff n NWL.EVT) b = true → t.bt (nwlOff n NWL.EVT) b = true
  raised : ∀ j, j < 256 → Raised s j → Raised t j
  levels : ∀ j, j < 256 → ¬newelSource j → t.bt (fsrcStat j) 17 = s.bt (fsrcStat j) 17
  others : ∀ m, m ≠ n → t.nwl[m] = s.nwl[m]
  due : ∀ d ∈ s.agenda, d.cmd ≠ .latePass n → d ∈ t.agenda
  quiet : Quiet s → Quiet t
  rest : t.withNewels s = s

theorem Tracks.refl : Tracks p n s s :=
  ⟨fun _ _ => rfl, fun _ => id, fun _ _ => id, fun _ _ _ => rfl, fun _ _ => rfl, fun _ h _ => h, id, rfl⟩

theorem Tracks.trans (h : Tracks p n s t) (g : Tracks p n t u) : Tracks p n s u := by
  refine ⟨fun o ho => (g.rd o ho).trans (h.rd o ho), fun b => g.events b ∘ h.events b, fun j hj => g.raised j hj ∘ h.raised j hj,
    fun j hj hl => (g.levels j hj hl).trans (h.levels j hj hl), fun m hm => (g.others m hm).trans (h.others m hm),
    fun d hd hl => g.due d (h.due d hd hl) hl, g.quiet ∘ h.quiet, ?_⟩
  calc u.withNewels s = (u.withNewels t).withNewels s := rfl
    _ = s := by rw [g.rest, h.rest]

theorem Tracks.mono (h : Tracks p n s t) (hp : ∀ o, p o → p' o) : Tracks p' n s t :=
  ⟨fun o ho => h.rd o fun h' => ho (hp o h'), h.events, h.raised, h.levels, h.others, h.due, h.quiet, h.rest⟩

theorem Tracks.ite {c : Prop} [Decidable c] (ht : Tracks p n s t) (hu : Tracks p n s u) : Tracks p n s (if c then t else u) := by
  split
  · exact ht
  · exact hu

theorem Tracks.foldl {α : Type} {f : State → α → State} (hf : ∀ v x, Tracks p n v (f v x)) (l : List α) : Tracks p n s (l.foldl f s) :=
  List.foldlRecOn l f .refl fun _ hv x _ => hv.trans (hf _ x)

section
variable (h : Tracks p n s t)
include h
theorem Tracks.ticks : t.ticks = s.ticks := (congrArg State.ticks h.rest :)
theorem Tracks.tb : t.tb = s.tb := (congrArg State.tb h.rest :)
theorem Tracks.old : t.old = s.old := (congrArg State.old h.rest :)
theorem Tracks.peer : t.peer = s.peer := (congrArg State.peer h.rest :)
theorem Tracks.now : t.now = s.now := (congrArg State.now h.rest :)

theorem Tracks.fl {lo len : Nat} (ho : ¬p o) : t.fl o lo len = s.fl o lo len := congrArg (Sys2Proof.fld · lo len) (h.rd o ho)
theorem Tracks.bt {i : Nat} (ho : ¬p o) : t.bt o i = s.bt o i := congrArg (bit · i) (h.rd o ho)
theorem Tracks.was (ho : ¬p o) : t.was o = s.was o := by
  rw [State.was, h.old, h.rd o ho, State.was]

theorem Tracks.clock (hp : ∀ o, clockReg o → ¬p o) : SameClock s t :=
  .of_rd h.ticks (congrArg Tb.lclkAt h.tb) (congrArg Tb.lclkFrac h.tb) (h.rd _ (hp _ (.inl rfl))) (h.rd _ (hp _ (.inr rfl)))
end

/-! ### The steps of an operation -/

/-- What is no register, no report and nothing due leaves all this, but for the Newel. -/
theorem Tracks.same (hr : t.regs = s.regs) (hf : t.flt = s.flt) (ha : t.agenda = s.agenda) (ho : ∀ m, m ≠ n → t.nwl[m] = s.nwl[m])
    (hs : t.withNewels s = s) : Tracks p n s t := by
  have hrd (o : Nat) : t.rd o = s.rd o := by
    rw [State.rd, hr, State.rd]
  refine ⟨fun o _ => hrd o, fun b hb => ?_, fun j hj => .of_rd hj hf fun o _ => hrd o, fun j _ _ => ?_, ho, fun d hd _ => ?_, fun hq => ?_, hs⟩
  · rwa [State.bt, hrd]
  · rw [State.bt, hrd, State.bt]
  · rwa [ha]
  · rwa [Quiet, ha]

theorem Tracks.updNwl (h : Tracks p n s t) : Tracks p n s (t.updNwl n f) :=
  h.trans (.same rfl rfl rfl (fun m hm => by rw [State.updNwl_nwl, if_neg hm]) rfl)

/-- A register is written that reports nothing; of the Newel's events it clears none. -/
theorem Tracks.upd {f : Word → Word} (ho : p o) (hr : ¬raiseReg o)
    (he : o = nwlOff n NWL.EVT → ∀ i, bit (t.rd o) i = true → bit (f (t.rd o)) i = true) (h : Tracks p n s t) : Tracks p n s (t.upd o f) := by
  have hrd (x : Nat) (hx : x ≠ o) : (t.upd o f).rd x = t.rd x := by rw [State.upd_rd, if_neg hx]
  have hne (x : Nat) (hx : raiseReg x) : x ≠ o := fun e => hr (e ▸ hx)
  refine h.trans ⟨fun x hx => hrd x fun e => hx (e ▸ ho), fun i hi => ?_,
    fun j hj => .of_rd hj rfl fun x hx => hrd x (hne x hx), fun j hj _ => ?_,
    fun _ _ => rfl, fun _ hd _ => hd, id, rfl⟩
  · rw [State.bt, State.upd_rd]
    split
    · next e => exact he e.symm i (e ▸ hi)
    · exact hi
  · rw [State.bt, hrd _ (hne _ (fsrcStat_raiseReg hj)), State.bt]

/-- Marks are no register. -/
theorem Tracks.note {f : Word → Word} (ho : p o) (hr : ¬raiseReg o)
    (he : o = nwlOff n NWL.EVT → ∀ i, bit (t.rd o) i = true → bit (f (t.rd o)) i = true) (h : Tracks p n s t) : Tracks p n s (t.note o f) := by
  obtain ⟨hrd, hevents, hraised, hlevels, hothers, hdue, hquiet, hrest⟩ := h.upd (f := f) ho hr he
  exact ⟨hrd, hevents, hraised, hlevels, hothers, hdue, hquiet, hrest⟩

theorem Tracks.wr (ho : p o) (hr : ¬raiseReg o) (he : o ≠ nwlOff n NWL.EVT) (h : Tracks p n s t) : Tracks p n s (t.wr o v) :=
  .upd (f := fun _ => v) ho hr (fun e => absurd e he) h
theorem Tracks.setFl {lo len : Nat} (ho : p o) (hr : ¬raiseReg o) (he : o ≠ nwlOff n NWL.EVT) (h : Tracks p n s t) :
    Tracks p n s (t.setFl o lo len x) := .upd ho hr (fun e => absurd e he) h
theorem Tracks.satFl {lo len : Nat} (ho : p o) (hr : ¬raiseReg o) (he : o ≠ nwlOff n NWL.EVT) (h : Tracks p n s t) :
    Tracks p n s (t.satFl o lo len) := .note ho hr (fun e => absurd e he) h

theorem Tracks.setEv (hb : b < 32) (ho : p (nwlOff n NWL.EVT)) (h : Tracks p n s t) : Tracks p n s (t.setEv (nwlOff n NWL.EVT) b) :=
  .note ho nwlOff_not_raiseReg (fun _ i hi => by rw [bit_setBit _ _ _ _ hb, hi, ite_self]) h

/-- A command is dated that is no frame of the primary's time. -/
theorem Tracks.after (hc : c ≠ .timeFrameSend) (h : Tracks p n s t) : Tracks p n s (t.after k c) := by
  refine h.trans ⟨fun _ _ => rfl, fun _ => id, fun j hj => .of_rd hj rfl fun _ _ => rfl, fun _ _ _ => rfl, fun _ _ => rfl,
    fun _ hd _ => mem_insertDue_of_mem hd, fun hq d hd => ?_, rfl⟩
  rcases eq_or_mem_of_mem_insertDue hd with rfl | hd
  · exact hc
  · exact hq d hd

theorem Tracks.dropLatePass (h : Tracks p n s t) : Tracks p n s (t.dropDue (· == .latePass n)) := by
  refine h.trans ⟨fun _ _ => rfl, fun _ => id, fun j hj => .of_rd hj rfl fun _ _ => rfl, fun _ _ _ => rfl, fun _ _ => rfl,
    fun d hd hl => List.mem_filter.mpr ⟨hd, by simpa using hl⟩, fun hq d hd => hq d (List.mem_of_mem_filter hd), rfl⟩

/-- What reports to the Banister leaves the Newels. -/
theorem Tracks.reports (hp : ∀ o, raiseReg o → p o) (g : Reports raiseReg t u) (hr : ∀ j, j < 256 → Raised t j → Raised u j)
    (hl : ∀ j, j < 256 → ¬newelSource j → u.bt (fsrcStat j) 17 = t.bt (fsrcStat j) 17) (hd : ∀ d ∈ t.agenda, d ∈ u.agenda)
    (hq : Quiet t → Quiet u) (h : Tracks p n s t) : Tracks p n s u := by
  refine h.trans ⟨fun o ho => g.rd o fun h' => ho (hp o h'), fun b hb => ?_, hr, hl, fun m _ => by rw [g.nwl], fun d h _ => hd d h, hq, ?_⟩
  · rwa [State.bt, g.rd _ nwlOff_not_raiseReg]
  · calc u.withNewels t = (u.withReports t).withNewels t := rfl
      _ = t := by rw [g.rest]; rfl

theorem Quiet.raise (h : Quiet s) : Quiet (s.raise k v) := by
  rcases raise_agenda s k v with e | ⟨y, e⟩ <;> rw [Quiet, e]
  · exact h
  · intro d hd
    rcases eq_or_mem_of_mem_insertDue hd with rfl | hd
    · nofun
    · exact h d hd

theorem Tracks.raise (hp : ∀ o, raiseReg o → p o) (h : Tracks p n s t) : Tracks p n s (t.raise k v) :=
  .reports hp (raise_reports ..) (fun _ hj => .raiseWith hj _) (fun j hj _ => (raise_keepsLevels t k v).level j hj) (fun _ => raise_due) .raise h

/-- The level of a source is set to `y`. -/
theorem Tracks.setLevel {y : Bool} (hp : ∀ o, raiseReg o → p o) (hk : newelSource k) (h : Tracks p n s t) :
    Tracks p n s (t.setBt (fsrcStat k) 17 y) := by
  have hk' : k < 256 := by
    have := hk.2
    omega
  have hne (j : Nat) (hj : fsrcStat j = fsrcStat k) : j = k := by
    simp only [fsrcStat] at hj
    omega
  refine .reports hp (.setBt (fsrcStat_raiseReg hk')) (fun j hj hr => ?_) (fun j _ hl => ?_) (fun _ => id) id h
  · refine hr.imp (fun e => ?_) id
    rwa [State.fltPend, State.bt, State.setBt_rd, if_neg (by simp only [R.FLT_PEND, fsrcStat, R.FSRC_STAT]; omega)]
  · rw [State.bt, State.setBt_rd, if_neg fun e => hl (hne j e ▸ hk), State.bt]

theorem Tracks.endLevel (hp : ∀ o, raiseReg o → p o) (hk : newelSource k) (h : Tracks p n s t) : Tracks p n s (t.endLevel k) :=
  .setLevel hp hk h

theorem Tracks.raiseLevel (hp : ∀ o, raiseReg o → p o) (hk : newelSource k) (h : Tracks p n s t) : Tracks p n s (t.raiseLevel k v) :=
  .ite h (.raise hp (.setLevel hp hk h))

theorem newelSource_lost : newelSource (FS.NWL_LOST + n.val) := by
  simp only [newelSource, FS.NWL_LOST]
  omega
theorem newelSource_peerLoss : newelSource (FS.NWL_PEERLOSS + n.val) := by
  simp only [newelSource, FS.NWL_PEERLOSS]
  omega

end

end Sys2Proof.Machine

/-!
# Events and states of a Newel

What the shared operations on a Newel (R123, R128, R134, R139) change, for O32, O33, O34 and O54.
-/

namespace Sys2Proof.Machine

section
variable {s t u : State} {n m : Fin 4} {p : Nat → Prop} {o b k x y : Nat} {f g : Nwl → Nwl} {st : Sync} {cls : Cls}

/-! ### Registers of a Newel -/

/-- Registers of one Newel lie apart. -/
@[simp] theorem nwlOff_inj : nwlOff n x = nwlOff n y ↔ x = y := by simp [nwlOff]

theorem nwlOff_ne_evt (hx : x ≠ NWL.EVT) : nwlOff n x ≠ nwlOff n NWL.EVT := fun e => hx (nwlOff_inj.mp e)

/-- The registers that an event of Newel `n` or a change of its state may write: NWLn_EVT, its slots, and those of a report. -/
def shownReg (n : Fin 4) (o : Nat) : Prop := o = nwlOff n NWL.EVT ∨ (0x30000 ≤ o ∧ o < 0x38000) ∨ raiseReg o

theorem shownReg_evt : shownReg n (nwlOff n NWL.EVT) := .inl rfl
theorem shownReg_of_raiseReg (o : Nat) (h : raiseReg o) : shownReg n o := .inr (.inr h)

theorem nwlOff_not_shownReg (hx : x < 0x400) (he : x ≠ NWL.EVT) : ¬shownReg n (nwlOff n x) := by
  rintro (h | h | h)
  · exact he (nwlOff_inj.mp h)
  · simp only [nwlOff] at h
    omega
  · exact nwlOff_not_raiseReg h

theorem updNwl_same : (s.updNwl n f).nwl[n] = f s.nwl[n] := by rw [State.updNwl_nwl, if_pos rfl]

/-! ### Events (R139) -/

theorem Tracks.nwlEvent (hp : ∀ o, shownReg n o → p o) (hb : b < 32) (h : Tracks p n s t) : Tracks p n s (nwlEvent t n b) := by
  unfold Machine.nwlEvent
  extract_lets o was s1 s2
  have h1 : Tracks p n s s1 := h.setEv hb (hp _ shownReg_evt)
  have h2 : Tracks p n s s2 := .ite (h1.raise fun o ho => hp o (shownReg_of_raiseReg o ho)) h1
  exact .ite (h2.after nofun) h2

theorem nwlEvent_reports : Reports raiseReg (s.setEv (nwlOff n NWL.EVT) b) (nwlEvent s n b) := by
  unfold nwlEvent
  extract_lets o was s1 s2
  have h2 : Reports raiseReg s1 s2 := .ite (raise_reports ..) .refl
  exact .ite (h2.trans (.of_dates .after)) h2

@[simp] theorem nwlEvent_nwl : (nwlEvent s n b).nwl = s.nwl := nwlEvent_reports.nwl

theorem nwlEvent_event (hb : b < 32) : (nwlEvent s n b).bt (nwlOff n NWL.EVT) b = true := by
  rw [State.bt, nwlEvent_reports.rd _ nwlOff_not_raiseReg, State.setEv_rd, if_pos rfl, bit_setBit _ _ _ _ hb, if_pos rfl]

/-! ### Records of teeth (R139) -/

theorem toothRecord_dates : Dates s (toothRecord s n k cls) := .onIf .after

@[simp] theorem toothRecord_nwl : (toothRecord s n k cls).nwl = s.nwl := (congrArg State.nwl toothRecord_dates.rest :)

theorem Tracks.toothRecord (h : Tracks p n s t) : Tracks p n s (toothRecord t n k cls) := .ite (h.after nofun) h

/-! ### A cancel in the next tick (R155) -/

/-- A Newel whose passes end. -/
def Nwl.idle (w : Nwl) : Nwl := { w with lateQ := [], convQ := [], conv := none, reofferQ := [], reevalQ := [] }

theorem cancelNext_nwl : (cancelNext s n).nwl[n] = s.nwl[n].idle := by
  unfold cancelNext
  extract_lets s1 s2
  have h2 : s2.nwl[n] = s.nwl[n].idle := updNwl_same
  split
  · exact h2
  · exact h2

theorem Tracks.cancelNext (h : Tracks p n s t) : Tracks p n s (cancelNext t n) := by
  unfold Machine.cancelNext
  extract_lets s1 s2
  have h2 : Tracks p n s s2 := h.dropLatePass.updNwl
  exact .ite h2 (h2.after nofun)

theorem cancelNext_due : (cancelNext s n).hasDue (.cancel n) = true := by
  unfold cancelNext
  extract_lets s1 s2
  split
  · assumption
  · rw [State.hasDue, List.any_eq_true]
    exact ⟨_, mem_insertDue _ _, beq_self_eq_true _⟩

/-! ### SYNC is entered (R146, R155) -/

theorem slotsReset_tracks (hp : ∀ o, shownReg n o → p o) {l : List (Fin 512)} :
    Tracks p n s (l.foldl (fun s k => s.setFl (evOff n k EV.LATE) 22 8 x) s) := by
  refine .foldl (fun v k => .setFl (hp _ (.inr (.inl ?_))) evOff_not_raiseReg (evOff_ne_nwlOff (by decide)) .refl) l
  simp only [evOff, EV.LATE]
  omega

theorem slotsReset_nwl {l : List (Fin 512)} : (l.foldl (fun s k => s.setFl (evOff n k EV.LATE) 22 8 x) s).nwl = s.nwl :=
  List.foldlRecOn l _ (motive := fun v : State => v.nwl = s.nwl) rfl fun _ hv _ _ => hv

theorem Tracks.syncEntered (hp : ∀ o, shownReg n o → p o) (h : Tracks p n s t) : Tracks p n s (syncEntered t n) :=
  .nwlEvent hp (by decide) (.trans h.updNwl (slotsReset_tracks hp))

theorem syncEntered_nwl : (syncEntered s n).nwl[n] = { s.nwl[n] with barred := false } := by
  unfold syncEntered
  extract_lets d s1
  rw [nwlEvent_nwl, slotsReset_nwl]
  exact updNwl_same

theorem syncEntered_event : (syncEntered s n).bt (nwlOff n NWL.EVT) 8 = true := nwlEvent_event (by decide)

/-! ### Changes of state (R123) -/

/-- A Newel that goes to state `st` with its angle at `a`: its passes end where it leaves SYNC, and its slots convert again where it enters SYNC. -/
def Nwl.goes (w : Nwl) (st : Sync) (a : Nat) : Nwl :=
  let leaves := w.state == .sync && st != .sync
  let enters := st == .sync && w.state != .sync
  { w with state := st, fast := w.fast && st == .candidate, frozenAng := a, lateQ := if leaves then [] else w.lateQ,
           convQ := if leaves then [] else w.convQ, conv := if leaves then none else w.conv,
           reofferQ := if leaves then [] else w.reofferQ, reevalQ := if leaves then [] else w.reevalQ, barred := !enters && w.barred }

/-- A Newel that takes state `st`. -/
def Nwl.takes (w : Nwl) (st : Sync) (a : Nat) : Nwl := { w with state := st, fast := w.fast && st == .candidate, frozenAng := a }

/-- The first part of a change of state: what it leaves ends. -/
def gotoLeft (s : State) (n : Fin 4) (st : Sync) : State :=
  let old := s.nwl[n].state
  let s := if old == .sync && st != .sync then cancelNext s n else s
  if old == .lost && st != .lost then s.endLevel (FS.NWL_LOST + n.val) else s

/-- The second part: the state takes its place. -/
def gotoTaken (s : State) (n : Fin 4) (st : Sync) : State :=
  (gotoLeft s n st).updNwl n (fun w => w.takes st (angleNow s n))

/-- The third part: STATECHG, and what entering SYNC brings. -/
def gotoShown (s : State) (n : Fin 4) (st : Sync) : State :=
  let t := nwlEvent (gotoTaken s n st) n 7
  if st == .sync && s.nwl[n].state != .sync then syncEntered t n else t

/-- The fourth part: what entering LOST brings. -/
def gotoLost (s : State) (n : Fin 4) (st : Sync) : State :=
  if st == .lost && s.nwl[n].state != .lost then
    let t := nwlEvent (gotoShown s n st) n 9
    if s.nwl[n].mode != 2 then t.raiseLevel (FS.NWL_LOST + n.val) (w32 n.val) else t
  else gotoShown s n st

theorem goto_eq : goto s n st = if st == .hold && s.nwl[n].mode != 2 then (nwlEvent (gotoLost s n st) n 10).raise FS.NWL_STALL (w32 n.val)
    else gotoLost s n st := rfl

theorem gotoLeft_tracks (hp : ∀ o, shownReg n o → p o) : Tracks p n s (gotoLeft s n st) := by
  unfold gotoLeft
  extract_lets old s1
  have h1 : Tracks p n s s1 := .ite (.cancelNext .refl) .refl
  exact .ite (h1.endLevel (fun o ho => hp o (shownReg_of_raiseReg o ho)) newelSource_lost) h1

theorem gotoShown_tracks (hp : ∀ o, shownReg n o → p o) : Tracks p n s (gotoShown s n st) := by
  have h : Tracks p n s (nwlEvent (gotoTaken s n st) n 7) := .nwlEvent hp (by decide) (.updNwl (gotoLeft_tracks hp))
  exact .ite (h.syncEntered hp) h

theorem gotoLost_tracks (hp : ∀ o, shownReg n o → p o) : Tracks p n s (gotoLost s n st) := by
  have h : Tracks p n s (nwlEvent (gotoShown s n st) n 9) := .nwlEvent hp (by decide) (gotoShown_tracks hp)
  exact .ite (.ite (h.raiseLevel (fun o ho => hp o (shownReg_of_raiseReg o ho)) newelSource_lost) h) (gotoShown_tracks hp)

theorem Tracks.goto (hp : ∀ o, shownReg n o → p o) (h : Tracks p n s t) : Tracks p n s (goto t n st) := by
  have hl : Tracks p n s (gotoLost t n st) := h.trans (gotoLost_tracks hp)
  rw [goto_eq]
  exact .ite (.raise (fun o ho => hp o (shownReg_of_raiseReg o ho)) (.nwlEvent hp (by decide) hl)) hl

theorem goto_tracks : Tracks (shownReg n) n s (goto s n st) := .goto (fun _ => id) .refl

theorem gotoLeft_nwl : (gotoLeft s n st).nwl[n] = if s.nwl[n].state == .sync && st != .sync then s.nwl[n].idle else s.nwl[n] := by
  unfold gotoLeft
  extract_lets old s1
  have h1 : s1.nwl[n] = if old == .sync && st != .sync then s.nwl[n].idle else s.nwl[n] := by
    rw [← cancelNext_nwl]
    exact apply_ite (fun v : State => v.nwl[n]) ..
  rw [← h1]
  split
  · rfl
  · rfl

theorem gotoShown_nwl : (gotoShown s n st).nwl[n] = s.nwl[n].goes st (angleNow s n) := by
  have ht : (nwlEvent (gotoTaken s n st) n 7).nwl[n] = (gotoLeft s n st).nwl[n].takes st (angleNow s n) := by
    rw [nwlEvent_nwl]
    exact updNwl_same
  rw [gotoLeft_nwl] at ht
  unfold gotoShown Nwl.goes
  extract_lets t leaves enters
  by_cases he : enters = true
  · rw [if_pos he, he, syncEntered_nwl, ht]
    by_cases hl : leaves = true
    · rw [if_pos hl, hl]
      rfl
    · rw [if_neg hl, Bool.eq_false_iff.mpr hl]
      rfl
  · rw [if_neg he, Bool.eq_false_iff.mpr he, ht]
    by_cases hl : leaves = true
    · rw [if_pos hl, hl]
      rfl
    · rw [if_neg hl, Bool.eq_false_iff.mpr hl]
      rfl

theorem raise_nwl {v : Word} : (s.raise k v).nwl = s.nwl := (raise_reports s k v).nwl
theorem raiseLevel_nwl {v : Word} : (s.raiseLevel k v).nwl = s.nwl := by
  unfold State.raiseLevel
  split
  · rfl
  · exact raise_nwl

theorem goto_nwl : (goto s n st).nwl[n] = s.nwl[n].goes st (angleNow s n) := by
  have hl : (gotoLost s n st).nwl = (gotoShown s n st).nwl := by
    unfold gotoLost
    extract_lets t
    have ht : t.nwl = (gotoShown s n st).nwl := nwlEvent_nwl
    rw [← ht]
    split
    · split
      · exact raiseLevel_nwl
      · rfl
    · exact ht.symm
  rw [goto_eq, ← gotoShown_nwl, ← hl]
  split
  · exact congrArg (·[n]) (raise_nwl.trans nwlEvent_nwl)
  · rfl

end

end Sys2Proof.Machine

/-!
# The wheel of a Newel, and the teeth that it accepts

The functions of the set-up of a Newel (R114, R115, R118, R120, R127) under its work, and what sync errors (R128), the index (R124) and an
accepted tooth (R134, R139) change, for O32, O33, O34 and O54.
-/

namespace Sys2Proof.Machine

section
variable {s t u : State} {n m : Fin 4} {p : Nat → Prop} {o b k x y d : Nat} {f g : Nwl → Nwl} {st : Sync} {cls : Cls}

/-! ### The set-up of a Newel (R143) -/

/-- The offsets of the registers that set a Newel up: NWLn_CTRL to NWLn_RECCFG without NWLn_EVT, the cam entries and the wheel. -/
abbrev setupOff (x : Nat) : Prop := (x < 0x80 ∧ x ≠ NWL.EVT) ∨ (0x100 ≤ x ∧ x < 0x400)

/-- In `t` Newel `n` is set up as in `s`. -/
structure SameSetup (n : Fin 4) (s t : State) : Prop where
  rd : ∀ x, setupOff x → t.rd (nwlOff n x) = s.rd (nwlOff n x)
  old : t.old = s.old
  mode : t.nwl[n].mode = s.nwl[n].mode
  cyc : t.nwl[n].cyc360 = s.nwl[n].cyc360

theorem SameSetup.trans (h : SameSetup n s t) (g : SameSetup n t u) : SameSetup n s u :=
  ⟨fun x hx => (g.rd x hx).trans (h.rd x hx), g.old.trans h.old, g.mode.trans h.mode, g.cyc.trans h.cyc⟩

theorem Tracks.setup (h : Tracks p n s t) (hp : ∀ x, setupOff x → ¬p (nwlOff n x)) (hm : t.nwl[n].mode = s.nwl[n].mode)
    (hc : t.nwl[n].cyc360 = s.nwl[n].cyc360) : SameSetup n s t :=
  ⟨fun x hx => h.rd _ (hp x hx), h.old, hm, hc⟩

section
variable (h : SameSetup n s t)
include h

theorem SameSetup.fl {lo len : Nat} (hx : setupOff x) : t.fl (nwlOff n x) lo len = s.fl (nwlOff n x) lo len := by
  rw [State.fl, h.rd x hx, State.fl]
theorem SameSetup.was (hx : setupOff x) : t.was (nwlOff n x) = s.was (nwlOff n x) := by
  rw [State.was, h.old, h.rd x hx, State.was]
theorem SameSetup.wasFl {lo len : Nat} (hx : setupOff x) : t.wasFl (nwlOff n x) lo len = s.wasFl (nwlOff n x) lo len := by
  rw [State.wasFl, h.was hx, State.wasFl]
theorem SameSetup.wasBt {i : Nat} (hx : setupOff x) : t.wasBt (nwlOff n x) i = s.wasBt (nwlOff n x) i := by
  rw [State.wasBt, h.was hx, State.wasBt]

theorem SameSetup.nTeeth : nTeeth t n = nTeeth s n := by
  rw [Machine.nTeeth, h.fl (by decide), Machine.nTeeth]
theorem SameSetup.whl : whl t n k = whl s n k := by
  have hk : k % max 1 (Machine.nTeeth s n) < 128 := by
    have : Machine.nTeeth s n ≤ 128 := Nat.min_le_left ..
    exact Nat.lt_of_lt_of_le (Nat.mod_lt _ (by omega)) (by omega)
  rw [Machine.whl, h.nTeeth, h.rd _ (.inr (by simp only [NWL.WHL]; omega)), Machine.whl]
theorem SameSetup.gapEnd : gapEnd t n k = gapEnd s n k := by rw [Machine.gapEnd, h.whl, Machine.gapEnd]
theorem SameSetup.whlPos : whlPos t n k = whlPos s n k := by rw [Machine.whlPos, h.whl, Machine.whlPos]
theorem SameSetup.whlA : whlA t n k = whlA s n k := by
  unfold Machine.whlA
  simp only [h.nTeeth, h.whlPos]
theorem SameSetup.nwlC : nwlC t n = nwlC s n := by
  simp only [Machine.nwlC, encCycle, h.mode, h.cyc, h.fl (x := NWL.CYCLEN) (by decide)]
theorem SameSetup.toothAngle {r : Bool} : toothAngle t n k r = toothAngle s n k r := by
  rw [Machine.toothAngle, h.fl (by decide), h.whlPos, h.nwlC, Machine.toothAngle]
theorem SameSetup.gapRat : gapRat t n = gapRat s n := by rw [Machine.gapRat, h.fl (by decide), Machine.gapRat]
theorem SameSetup.errMax : errMax t n = errMax s n := by rw [Machine.errMax, h.fl (by decide), Machine.errMax]
theorem SameSetup.camVote : camVote t n = camVote s n := by rw [Machine.camVote, h.fl (by decide), Machine.camVote]
theorem SameSetup.aclF : aclF t n = aclF s n := by rw [Machine.aclF, h.wasFl (by decide), Machine.aclF]
theorem SameSetup.rejF : rejF t n = rejF s n := by rw [Machine.rejF, h.wasFl (by decide), Machine.rejF]
theorem SameSetup.ntolF : ntolF t n = ntolF s n := by rw [Machine.ntolF, h.wasFl (by decide), Machine.ntolF]
theorem SameSetup.instolF : instolF t n = instolF s n := by rw [Machine.instolF, h.wasFl (by decide), Machine.instolF]
theorem SameSetup.gapTest {l : List Period} : gapTest t n l = gapTest s n l := by
  unfold Machine.gapTest
  rw [h.gapRat]

/-- A class depends of the Newel on its index, the class of its last tooth and its prediction (R118). -/
theorem SameSetup.classOf (hi : t.nwl[n].idx = s.nwl[n].idx) (ha : t.nwl[n].acls = s.nwl[n].acls)
    (hp : curPpred t.nwl[n] = curPpred s.nwl[n]) (hn : curAnext t.nwl[n] = curAnext s.nwl[n]) : classOf t n d = classOf s n d := by
  unfold Machine.classOf
  simp only [hi, ha, hp, hn, h.whlA, h.instolF, h.rejF, h.ntolF, h.gapEnd]
end

theorem SameSetup.updNwl (hm : (f s.nwl[n]).mode = s.nwl[n].mode) (hc : (f s.nwl[n]).cyc360 = s.nwl[n].cyc360) :
    SameSetup n s (s.updNwl n f) :=
  ⟨fun _ _ => rfl, rfl, (congrArg Nwl.mode updNwl_same).trans hm, (congrArg Nwl.cyc360 updNwl_same).trans hc⟩

/-- The limits that a classification takes (R135). -/
theorem takeLimits_nwl : ∃ a b c, (takeLimits s n).nwl[n] = { s.nwl[n] with holdAng := a, stallK := b, stallMax := c } :=
  ⟨_, _, _, updNwl_same⟩

theorem takeLimits_setup : SameSetup n s (takeLimits s n) := .updNwl rfl rfl

theorem Tracks.takeLimits (h : Tracks p n s t) : Tracks p n s (takeLimits t n) := h.updNwl

/-! ### Sync errors (R128) -/

/-- … and counts in CONFIRM and SYNC, which ERRMAX of them end. -/
def errorCounted (s : State) (n : Fin 4) : State :=
  let w := s.nwl[n]
  if w.state == .confirm || w.state == .sync then
    let e := min 15 (w.errcnt + 1)
    let s := s.updNwl n (fun w => { w with errcnt := e })
    if errMax s n ≤ e then goto s n .lost else s
  else s

/-- A Newel after a sync error, of which it bears `lim`, with its angle at `a`. -/
def Nwl.counted (w : Nwl) (lim a : Nat) : Nwl :=
  if w.state == .confirm || w.state == .sync then
    let w' := { w with errcnt := min 15 (w.errcnt + 1) }
    if lim ≤ min 15 (w.errcnt + 1) then w'.goes .lost a else w'
  else w

theorem errorCounted_nwl : ∃ a, (errorCounted s n).nwl[n] = s.nwl[n].counted (errMax s n) a := by
  unfold errorCounted
  extract_lets w e s1
  have h1 : s1.nwl[n] = { s.nwl[n] with errcnt := e } := updNwl_same
  have hmax : errMax s1 n = errMax s n := rfl
  refine ⟨angleNow s1 n, ?_⟩
  rw [hmax]
  unfold Nwl.counted
  split
  · extract_lets w'
    split
    · rw [goto_nwl, h1]
    · exact h1
  · rfl

theorem Tracks.errorCounted (hp : ∀ o, shownReg n o → p o) (h : Tracks p n s t) : Tracks p n s (errorCounted t n) :=
  .ite (.ite (.goto hp h.updNwl) h.updNwl) h

/-- What neither the count nor a change of state touches. -/
theorem Nwl.counted_of {α : Type} {w : Nwl} {lim a : Nat} (f : Nwl → α) (hc : ∀ (w : Nwl) (e : Nat), f { w with errcnt := e } = f w)
    (hg : ∀ w : Nwl, f (w.goes .lost a) = f w) : f (w.counted lim a) = f w := by
  unfold Nwl.counted
  split
  · extract_lets w'
    split
    · exact (hg _).trans (hc _ _)
    · exact hc _ _
  · rfl

theorem Nwl.counted_sync {w : Nwl} {lim a : Nat} (h : w.state = .sync) : (w.counted lim a).errcnt = min 15 (w.errcnt + 1)
    ∧ (w.counted lim a).state = if lim ≤ min 15 (w.errcnt + 1) then .lost else .sync := by
  have hc : (w.state == .confirm || w.state == .sync) = true := by rw [h]; rfl
  unfold Nwl.counted
  rw [if_pos hc]
  extract_lets w'
  split
  · exact ⟨rfl, rfl⟩
  · exact ⟨rfl, h⟩

/-! ### The index (R122, R124) -/

/-- The registers of an accepted tooth: those of events and states, and NWLn_REVCNT. -/
def stepReg (n : Fin 4) (o : Nat) : Prop := shownReg n o ∨ o = nwlOff n NWL.REVCNT

theorem nwlOff_not_stepReg (hx : x < 0x400) (he : x ≠ NWL.EVT) (hr : x ≠ NWL.REVCNT) : ¬stepReg n (nwlOff n x) :=
  not_or_intro (nwlOff_not_shownReg hx he) fun h => hr (nwlOff_inj.mp h)

theorem setupOff_not_stepReg (x : Nat) (hx : setupOff x) : ¬stepReg n (nwlOff n x) := by
  refine nwlOff_not_stepReg ?_ ?_ ?_ <;> · simp only [setupOff, NWL.EVT, NWL.REVCNT] at *; omega

theorem Tracks.stepIndex (h : Tracks (stepReg n) n s t) : Tracks (stepReg n) n s (stepIndex t n k) := by
  unfold Machine.stepIndex
  extract_lets w nt s1 rev
  have h1 : Tracks (stepReg n) n s s1 := h.upd (.inr rfl) nwlOff_not_raiseReg fun e => absurd (nwlOff_inj.mp e) (by decide)
  exact .ite h.updNwl h1.updNwl

/-- Below the end of the wheel only the index moves. -/
theorem stepIndex_within (h : s.nwl[n].idx + k < max 1 (nTeeth s n)) : stepIndex s n k = s.updNwl n (fun w => { w with idx := s.nwl[n].idx + k }) :=
  if_pos h

/-- With a sync error since the last time, passing the end keeps ERRCNT. -/
theorem stepIndex_nwl : ∃ i r e y, (stepIndex s n k).nwl[n] = { s.nwl[n] with idx := i, rev := r, errcnt := e, errSince := y }
    ∧ (s.nwl[n].errSince = true → e = s.nwl[n].errcnt) := by
  unfold stepIndex
  extract_lets w nt s1 rev
  split
  · exact ⟨_, _, _, _, updNwl_same, fun _ => rfl⟩
  · exact ⟨_, _, _, _, updNwl_same, fun h => if_pos h⟩

/-! ### An accepted tooth (R134, R139) -/

/-- A Newel that accepts a tooth. -/
def Nwl.accepts (w : Nwl) (k : Nat) (cls : Cls) (l : Load) : Nwl :=
  { w with lastcls := cls, acls := cls, seq := (w.seq + 1) % 65536, tooth := some k, heldDone := false, load := some l }

theorem acceptTooth_nwl {an q : Nat} {pred : Bool} :
    ∃ info, (acceptTooth s n k cls d an q pred).nwl[n] = s.nwl[n].accepts k cls ⟨k, an, q, pred, info, d⟩ := by
  unfold acceptTooth
  extract_lets s1 w info s2
  have h1 : s1.nwl[n] = _ := updNwl_same
  have h2 : s2.nwl[n] = _ := updNwl_same
  refine ⟨info, ?_⟩
  rw [toothRecord_nwl, State.after_nwl, nwlEvent_nwl, h2, h1]
  rfl

theorem Tracks.acceptTooth {an q : Nat} {pred : Bool} (hp : ∀ o, shownReg n o → p o) (h : Tracks p n s t) :
    Tracks p n s (acceptTooth t n k cls d an q pred) :=
  .toothRecord (.after nofun (.nwlEvent hp (by decide) h.updNwl.updNwl))

theorem acceptTooth_event {an q : Nat} {pred : Bool} : (acceptTooth s n k cls d an q pred).bt (nwlOff n NWL.EVT) 0 = true := by
  unfold acceptTooth
  extract_lets s1 w info s2
  rw [State.bt, toothRecord_dates.rd, State.after_rd]
  exact nwlEvent_event (by decide)

theorem clockReg_not_shownReg (o : Nat) (h : clockReg o) : ¬shownReg n o := by
  simp only [clockReg, R.CLK_STAT, R.TB_LSTEP] at h
  simp only [shownReg, raiseReg, recordReg, nwlOff]
  omega

theorem acceptTooth_due {an q : Nat} {pred : Bool} :
    ⟨s.ticks + s.samples 2, .predictionLoad n⟩ ∈ (acceptTooth s n k cls d an q pred).agenda := by
  unfold acceptTooth
  extract_lets s1 w info s2
  have h : Tracks (shownReg n) n s (nwlEvent s2 n 0) := .nwlEvent (fun _ => id) (by decide) (.updNwl (.updNwl .refl))
  exact toothRecord_dates.kept _ (h.clock clockReg_not_shownReg).due

/-! ### The pass over the slots opens (R147) -/

/-- A Newel whose pass over its slots opens. -/
def Nwl.opens (w : Nwl) (d a aPrev now : Nat) : Nwl :=
  { w with passD := d, passA := max 1 a, aPrev := aPrev, lateQ := [], convQ := [], conv := none, passAt := now, waitConv := true }

theorem openPass_nwl {a aPrev : Nat} {entry : Bool} : (openPass s n d a aPrev entry).nwl[n] = s.nwl[n].opens d a aPrev s.now := by
  unfold openPass
  extract_lets s1
  have h1 : s1.nwl[n] = s.nwl[n].opens d a aPrev s.now := updNwl_same
  split
  · exact h1
  · exact h1

theorem Tracks.openPass {a aPrev : Nat} {entry : Bool} (h : Tracks p n s t) : Tracks p n s (openPass t n d a aPrev entry) :=
  .ite h.updNwl (h.updNwl.after nofun)

end

end Sys2Proof.Machine

/-!
# Teeth received, classified and loaded (O32)
-/

namespace Sys2Proof.Machine

section
variable {s t u : State} {n : Fin 4} {o b k x d : Nat} {e : EdgeInfo} {q : List EdgeInfo} {cls : Cls}

/-! ### An edge arrives (R113, R134) -/

theorem toothReceive_runs (h : s.nwl[n].on = true) (hm : s.nwl[n].mode = 0) :
    execToothReceive n e s = .next ((s.updNwl n (fun w => { w with inbox := w.inbox ++ [e] })).after 2 (.toothClassify n)) :=
  if_pos (by rw [h, hm]; rfl)

theorem toothReceive_ignored (h : s.nwl[n].on = false ∨ s.nwl[n].mode ≠ 0) : execToothReceive n e s = .next s :=
  if_neg (by rcases h with h | h <;> simp [-Fin.getElem_fin, h])

/-! ### A classification begins (R134) -/

/-- The state in which an edge is classified: it has left the inbox, and the limits act. -/
def classifying (s : State) (n : Fin 4) (q : List EdgeInfo) : State := takeLimits (s.updNwl n (fun w => { w with inbox := q })) n

/-- Whether the Newel tracks its teeth by a prediction. -/
def Nwl.follows (w : Nwl) : Bool :=
  match w.state with
  | .candidate | .confirm | .sync => !(w.fast && w.fastTeeth < 2) && curPred w
  | _ => false

theorem toothClassify_runs (hin : s.nwl[n].inbox = e :: q) (h : s.nwl[n].on = true) (hm : s.nwl[n].mode = 0) :
    execToothClassify n s = .next (if s.nwl[n].follows then trackTooth (classifying s n q) n (e.coarse.toNat * 32 + e.fine.toNat)
      else seekTooth (classifying s n q) n (e.coarse.toNat * 32 + e.fine.toNat)) := by
  have hrun : (!(s.nwl[n].on && s.nwl[n].mode = 0)) = false := by rw [h, hm]; rfl
  unfold execToothClassify
  extract_lets w
  split
  · next h0 => exact absurd (h0.symm.trans hin) nofun
  · next e' q' h1 =>
    obtain ⟨rfl, rfl⟩ := List.cons.inj (h1.symm.trans hin)
    exact if_neg (by rw [hrun]; exact Bool.false_ne_true)

/-- The Newel as it is classified: the edge has left its inbox, and its limits act. -/
def Nwl.classified (w : Nwl) (q : List EdgeInfo) (a b c : Nat) : Nwl := { w with inbox := q, holdAng := a, stallK := b, stallMax := c }

theorem classifying_nwl : ∃ a b c, (classifying s n q).nwl[n] = s.nwl[n].classified q a b c := by
  obtain ⟨a, b, c, h⟩ := takeLimits_nwl (s := s.updNwl n (fun w => { w with inbox := q })) (n := n)
  refine ⟨a, b, c, h.trans ?_⟩
  rw [updNwl_same]
  rfl

theorem classifying_tracks : Tracks (shownReg n) n s (classifying s n q) := .takeLimits (.updNwl .refl)

theorem classifying_setup : SameSetup n s (classifying s n q) :=
  .trans (.updNwl rfl rfl) takeLimits_setup

theorem classifying_classOf : classOf (classifying s n q) n d = classOf s n d := by
  obtain ⟨a, b, c, h⟩ := classifying_nwl (s := s) (n := n) (q := q)
  refine classifying_setup.classOf ?_ ?_ ?_ ?_ <;> rw [h] <;> rfl

/-! ### A rejected edge (R118) -/

theorem rejectTooth_spec : (rejectTooth s n k).nwl[n] = { s.nwl[n] with lastcls := .rejected } ∧ (rejectTooth s n k).bt (nwlOff n NWL.EVT) 1 = true
    ∧ (rejectTooth s n k).fl (nwlOff n NWL.CNT) 0 16 = min 65535 (s.fl (nwlOff n NWL.CNT) 0 16 + 1) := by
  unfold rejectTooth
  extract_lets s1 s2
  have h2 : Tracks (shownReg n) n s1 s2 := .nwlEvent (fun _ => id) (by decide) (.updNwl .refl)
  have hrd : (toothRecord s2 n k .rejected).rd = s2.rd := toothRecord_dates.rd
  refine ⟨?_, ?_, ?_⟩
  · rw [toothRecord_nwl]
    exact (congrArg (·[n]) nwlEvent_nwl).trans updNwl_same
  · rw [State.bt, hrd]
    exact nwlEvent_event (by decide)
  · rw [State.fl, hrd]
    exact (h2.fl (nwlOff_not_shownReg (by decide) (by decide))).trans (satFl_fl (by decide))

theorem trackTooth_rejects (h : classOf s n (k - s.nwl[n].tooth.getD s.nwl[n].tlast) = .rejected) : trackTooth s n k = rejectTooth s n k :=
  if_pos (by rw [h]; rfl)

/-! ### An accepted edge (R120, R122 to R124, R127) -/

/-- The event of the class of an accepted edge. -/
def classShown (s : State) (n : Fin 4) (cls : Cls) : State :=
  match cls with
  | .inserted => (nwlEvent s n 2).satFl (nwlOff n NWL.CNT) 16 16
  | .early => nwlEvent s n 3
  | .late => nwlEvent s n 4
  | _ => s

/-- The period that it ends enters the history. -/
def periodPushed (s : State) (n : Fin 4) (d : Nat) (cls : Cls) : State :=
  (classShown s n cls).updNwl n (fun w => pushPeriod w d (cls == .inserted))

/-- The index moves on, and the angle is that of its tooth. -/
def indexMoved (s : State) (n : Fin 4) (stp : Nat) : State := toToothAngle (stepIndex s n stp) n

/-- The index step of a class. -/
def Cls.step (cls : Cls) : Nat := if cls == .inserted then 2 else 1

/-- What follows the gap test, for a Newel that was `w` before the edge. -/
def toothTaken (w : Nwl) (s : State) (n : Fin 4) (k d a aPrev : Nat) (cls : Cls) : State :=
  let stp := cls.step
  let s := indexMoved s n stp
  let an := whlA s n (s.nwl[n].idx + 1)
  if s.nwl[n].state == .seek || s.nwl[n].state == .lost then acceptTooth s n k cls d an 1 false
  else
    let r := predict s n d a an
    let s := r.1
    let s :=
      if w.state == .candidate && s.nwl[n].state == .candidate && !s.nwl[n].fast then
        if w.candLeft ≤ stp then goto s n (if w.phok || nwlC s n == revLen then .sync else .confirm)
        else s.updNwl n (fun w => { w with candLeft := w.candLeft - stp })
      else s
    let s := acceptTooth s n k cls d an r.2 true
    if s.nwl[n].state == .sync then openPass s n d a aPrev (w.state != .sync) else s

/-- The angle of the interval that the edge ends. -/
def toothAng (s : State) (n : Fin 4) (cls : Cls) : Nat :=
  curAnext s.nwl[n] + (if cls == .inserted then whlA s n (s.nwl[n].idx + 2) else 0)

theorem trackTooth_takes (hd : k - s.nwl[n].tooth.getD s.nwl[n].tlast = d) (hc : classOf s n d = cls) (hcls : cls ≠ .rejected)
    (hg : gapOutcome (periodPushed s n d cls) n (gapTest (periodPushed s n d cls) n (periodPushed s n d cls).nwl[n].hist)
      (gapEnd (periodPushed s n d cls) n s.nwl[n].idx) = (u, none)) :
    trackTooth s n k = toothTaken s.nwl[n] u n k d (toothAng s n cls) (refAngle s n) cls := by
  subst hd hc
  have he : trackTooth s n k =
      let d := k - s.nwl[n].tooth.getD s.nwl[n].tlast
      let cls := classOf s n d
      let v := periodPushed s n d cls
      if cls == .rejected then rejectTooth s n k
      else match gapOutcome v n (gapTest v n v.nwl[n].hist) (gapEnd v n s.nwl[n].idx) with
        | (s, some p) => acceptTooth s n k cls d (whlA s n (s.nwl[n].idx + 1)) p true
        | (u, none) => toothTaken s.nwl[n] u n k d (toothAng s n cls) (refAngle s n) cls := rfl
  rw [he]
  dsimp only
  rw [if_neg (by simpa using hcls), hg]

theorem Cls.step_eq : (if cls = .inserted then 2 else 1) = cls.step := by
  simp only [Cls.step, beq_iff_eq]

theorem indexMoved_nwl : ∃ i r e y g, (indexMoved s n k).nwl[n] =
    { s.nwl[n] with idx := i, rev := r, errcnt := e, errSince := y, toothang := g } ∧ (s.nwl[n].errSince = true → e = s.nwl[n].errcnt) := by
  obtain ⟨i, r, e, y, h, he⟩ := stepIndex_nwl (s := s) (n := n) (k := k)
  refine ⟨i, r, e, y, toothAngle (stepIndex s n k) n (stepIndex s n k).nwl[n].idx (stepIndex s n k).nwl[n].rev, ?_, he⟩
  refine updNwl_same.trans ?_
  rw [h]

theorem indexMoved_tracks : Tracks (stepReg n) n s (indexMoved s n k) := by
  unfold indexMoved toToothAngle
  exact .updNwl (.stepIndex .refl)

/-- A Newel with the prediction of a period `d` over angle `a`, whose ratio is `r`. -/
def Nwl.predicts (w : Nwl) (d a : Nat) (r : Nat × Bool) : Nwl := { w with dprev := d, aprev := a, ratio := r.1, rclamped := r.2 }

/-- The prediction that an accepted tooth brings is noted (R120). -/
def predicted (s : State) (n : Fin 4) (d a : Nat) : State :=
  s.updNwl n (fun w => w.predicts d a (ratioOf (aclF s n) d a s.nwl[n].dprev s.nwl[n].aprev))

/-- The period predicted for the interval `an`. -/
def nextPred (s : State) (n : Fin 4) (d a an : Nat) : Nat := predOf d a an (ratioOf (aclF s n) d a s.nwl[n].dprev s.nwl[n].aprev).1

theorem predicted_nwl {a : Nat} :
    (predicted s n d a).nwl[n] = s.nwl[n].predicts d a (ratioOf (aclF s n) d a s.nwl[n].dprev s.nwl[n].aprev) := updNwl_same

theorem predicted_tracks {p : Nat → Prop} {a : Nat} : Tracks p n s (predicted s n d a) := by
  unfold predicted
  exact .updNwl .refl

/-- In SYNC a tooth is accepted with its prediction, and a pass opens. -/
theorem toothTaken_sync {w : Nwl} {a aPrev : Nat} (hw : w.state = .sync) (h : s.nwl[n].state = .sync) :
    toothTaken w s n k d a aPrev cls =
      let v := indexMoved s n cls.step
      let an := whlA v n (v.nwl[n].idx + 1)
      openPass (acceptTooth (predicted v n d a) n k cls d an (nextPred v n d a an) true) n d a aPrev false := by
  obtain ⟨i, r', e, y, g, hv, -⟩ := indexMoved_nwl (s := s) (n := n) (k := cls.step)
  unfold toothTaken
  extract_lets stp v an r v1 v2 v3
  have hv : v.nwl[n].state = .sync := (congrArg Nwl.state hv).trans h
  have h1 : v1.nwl[n].state = .sync := (congrArg Nwl.state (predicted_nwl (s := v) (n := n) (d := d) (a := a))).trans hv
  have h2 : v2 = v1 := if_neg (by rw [hw]; nofun)
  have h3 : v3 = acceptTooth v1 n k cls d an r.2 true := by rw [← h2]
  have hs : v3.nwl[n].state = .sync := by
    obtain ⟨info, ha⟩ := acceptTooth_nwl (s := v1) (n := n) (k := k) (cls := cls) (d := d) (an := an) (q := r.2) (pred := true)
    rw [h3]
    exact (congrArg Nwl.state ha).trans h1
  rw [if_neg (by rw [hv]; nofun), if_pos (by rw [hs]; rfl), hw, h3]
  rfl

/-- In LOST it is accepted without one. -/
theorem toothTaken_lost {w : Nwl} {a aPrev : Nat} (h : s.nwl[n].state = .lost) :
    toothTaken w s n k d a aPrev cls =
      let v := indexMoved s n cls.step
      acceptTooth v n k cls d (whlA v n (v.nwl[n].idx + 1)) 1 false := by
  obtain ⟨i, r, e, y, g, hv, -⟩ := indexMoved_nwl (s := s) (n := n) (k := cls.step)
  unfold toothTaken
  extract_lets stp v an r v1 v2 v3
  have hv : v.nwl[n].state = .lost := (congrArg Nwl.state hv).trans h
  exact if_pos (by rw [hv]; rfl)

/-! ### What an accepted tooth leaves -/

/-- In `t` Newel `n`, which was `w` before, has accepted a tooth, whose values come into force two ticks after `s`. -/
structure Accepted (s : State) (n : Fin 4) (k : Nat) (cls : Cls) (w : Nwl) (t : State) : Prop where
  inbox : t.nwl[n].inbox = w.inbox
  lastcls : t.nwl[n].lastcls = cls
  seq : t.nwl[n].seq = (w.seq + 1) % 65536
  event : t.bt (nwlOff n NWL.EVT) 0 = true
  tooth : t.nwl[n].tooth = some k
  due : ⟨s.ticks + s.samples 2, .predictionLoad n⟩ ∈ t.agenda

theorem acceptTooth_accepted {an q : Nat} {pred : Bool} (h : SameClock s t) :
    Accepted s n k cls t.nwl[n] (acceptTooth t n k cls d an q pred) := by
  obtain ⟨info, ha⟩ := acceptTooth_nwl (s := t) (n := n) (k := k) (cls := cls) (d := d) (an := an) (q := q) (pred := pred)
  refine ⟨?_, ?_, ?_, acceptTooth_event, ?_, ?_⟩
  iterate 4 rw [ha]; rfl
  rw [← h.ticks, ← h.samples]
  exact acceptTooth_due

theorem Accepted.openPass {w : Nwl} {a aPrev : Nat} {y : Bool} (h : Accepted s n k cls w t) : Accepted s n k cls w (openPass t n d a aPrev y) := by
  have hp : Tracks (shownReg n) n t (Machine.openPass t n d a aPrev y) := .openPass .refl
  refine ⟨?_, ?_, ?_, hp.events _ h.event, ?_, hp.due _ h.due nofun⟩
  all_goals rw [openPass_nwl]
  · exact h.inbox
  · exact h.lastcls
  · exact h.seq
  · exact h.tooth

theorem Accepted.of_nwl {w w' : Nwl} (hi : w.inbox = w'.inbox) (hs : w.seq = w'.seq) (h : Accepted s n k cls w t) : Accepted s n k cls w' t :=
  ⟨h.inbox.trans hi, h.lastcls, by rw [h.seq, hs], h.event, h.tooth, h.due⟩

/-! ### The gap test (R127, R128) -/

/-- Without evidence, and with a tooth where there is no gap, the test leads to nothing. -/
theorem gapOutcome_quiet {g : Option Bool} {ge : Bool} (h : g = none ∨ (g = some false ∧ ge = false)) : gapOutcome s n g ge = (s, none) := by
  rcases h with rfl | ⟨rfl, rfl⟩
  · rfl
  · rfl

end

end Sys2Proof.Machine

/-! # Gaps that do not agree with the wheel (R128), for O32 -/

namespace Sys2Proof.Machine

section
variable {s t u : State} {n : Fin 4} {o b k x d : Nat} {e : EdgeInfo} {q : List EdgeInfo} {cls : Cls}

/-- A sync error of kind 1 or 2 is noted, shown, raised and counted. -/
def gapReported (s : State) (n : Fin 4) : State :=
  ((nwlEvent (s.updNwl n (fun w => { w with errSince := true })) n 5).raise FS.NWL_GAPERR (w32 n.val)).satFl (nwlOff n NWL.ERRS) 0 8

/-- The registers of a sync error. -/
def errorReg (n : Fin 4) (o : Nat) : Prop := shownReg n o ∨ o = nwlOff n NWL.ERRS

/-- From `s` to `t` Newel `n`, in SYNC before, has found a gap that does not agree with its wheel (R128). -/
structure GapError (n : Fin 4) (s t : State) : Prop where
  event : t.bt (nwlOff n NWL.EVT) 5 = true
  raised : Raised t FS.NWL_GAPERR
  errs : t.fl (nwlOff n NWL.ERRS) 0 8 = min 255 (s.fl (nwlOff n NWL.ERRS) 0 8 + 1)
  errcnt : t.nwl[n].errcnt = min 15 (s.nwl[n].errcnt + 1)
  state : t.nwl[n].state = if errMax s n ≤ min 15 (s.nwl[n].errcnt + 1) then .lost else .sync
  since : t.nwl[n].errSince = true
  inbox : t.nwl[n].inbox = s.nwl[n].inbox
  seq : t.nwl[n].seq = s.nwl[n].seq
  tracks : Tracks (errorReg n) n s t

theorem gapReported_nwl : (gapReported s n).nwl[n] = { s.nwl[n] with errSince := true } := by
  refine (congrArg (·[n]) (raise_nwl.trans nwlEvent_nwl)).trans updNwl_same

theorem gapReported_tracks : Tracks (errorReg n) n s (gapReported s n) := by
  refine .satFl (.inr rfl) nwlOff_not_raiseReg (nwlOff_ne_evt (by decide))
    (.raise (fun o ho => .inl (shownReg_of_raiseReg o ho)) (.nwlEvent (fun _ => .inl) (by decide) (.updNwl .refl)))

theorem gapReported_errs : (gapReported s n).fl (nwlOff n NWL.ERRS) 0 8 = min 255 (s.fl (nwlOff n NWL.ERRS) 0 8 + 1) := by
  have h : Tracks (shownReg n) n s ((nwlEvent (s.updNwl n (fun w => { w with errSince := true })) n 5).raise FS.NWL_GAPERR (w32 n.val)) :=
    .raise shownReg_of_raiseReg (.nwlEvent (fun _ => id) (by decide) (.updNwl .refl))
  rw [gapReported, satFl_fl (by decide), h.fl (nwlOff_not_shownReg (by decide) (by decide))]
  rfl

/-- A register other than ERRS is not counted. -/
theorem gapReported_raised : (gapReported s n).bt (nwlOff n NWL.EVT) 5 = true ∧ Raised (gapReported s n) FS.NWL_GAPERR := by
  have hcount {v : State} : Tracks (errorReg n) n v (v.satFl (nwlOff n NWL.ERRS) 0 8) :=
    .satFl (.inr rfl) nwlOff_not_raiseReg (nwlOff_ne_evt (by decide)) .refl
  refine ⟨hcount.events _ ?_, hcount.raised _ (by decide) (raise_raised _ (by decide) _)⟩
  rw [State.bt, (raise_reports ..).rd _ nwlOff_not_raiseReg]
  exact nwlEvent_event (by decide)

theorem gapReported_counted (h : s.nwl[n].state = .sync) : GapError n s (errorCounted (gapReported s n) n) := by
  have ht : Tracks (shownReg n) n (gapReported s n) (errorCounted (gapReported s n) n) := .errorCounted (fun _ => id) .refl
  obtain ⟨hevent, hraised⟩ := gapReported_raised (s := s) (n := n)
  obtain ⟨a, hw⟩ := errorCounted_nwl (s := gapReported s n) (n := n)
  have hmax : errMax (gapReported s n) n = errMax s n :=
    (gapReported_tracks.setup (fun x hx => ?_) (by rw [gapReported_nwl]) (by rw [gapReported_nwl])).errMax
  rw [hmax, gapReported_nwl] at hw
  obtain ⟨herr, hstate⟩ := Nwl.counted_sync (w := { s.nwl[n] with errSince := true }) (lim := errMax s n) (a := a) h
  refine ⟨ht.events _ hevent, ht.raised _ (by decide) hraised, ?_, by rw [hw, herr], by rw [hw, hstate], ?_, ?_, ?_, ?_⟩
  · rw [ht.fl (nwlOff_not_shownReg (by decide) (by decide)), gapReported_errs]
  · rw [hw, Nwl.counted_of (·.errSince) (fun _ _ => rfl) fun _ => rfl]
  · rw [hw, Nwl.counted_of (·.inbox) (fun _ _ => rfl) fun _ => rfl]
  · rw [hw, Nwl.counted_of (·.seq) (fun _ _ => rfl) fun _ => rfl]
  · exact gapReported_tracks.trans (ht.mono fun _ => .inl)
  · refine not_or_intro (nwlOff_not_shownReg ?_ ?_) fun e => ?_
    · simp only [setupOff] at hx
      omega
    · simp only [setupOff, NWL.EVT] at *
      omega
    · have := nwlOff_inj.mp e
      simp only [setupOff, NWL.EVT, NWL.ERRS] at *
      omega

/-- When the gap was found does not matter here. -/
theorem GapError.since_before {g : Nwl → Option Nat} (h : GapError n (s.updNwl n (fun w => { w with sinceGap := g w })) t) : GapError n s t := by
  have hw : (s.updNwl n (fun w => { w with sinceGap := g w })).nwl[n] = { s.nwl[n] with sinceGap := g s.nwl[n] } := updNwl_same
  obtain ⟨hevent, hraised, herrs, herr, hstate, hsince, hinbox, hseq, htracks⟩ := h
  rw [hw] at herr hstate hinbox hseq
  exact ⟨hevent, hraised, herrs, herr, hstate, hsince, hinbox, hseq, .trans (.updNwl .refl) htracks⟩

theorem GapError.since_after {g : Nwl → Option Nat} (h : GapError n s t) : GapError n s (t.updNwl n (fun w => { w with sinceGap := g w })) := by
  have hw : (t.updNwl n (fun w => { w with sinceGap := g w })).nwl[n] = { t.nwl[n] with sinceGap := g t.nwl[n] } := updNwl_same
  obtain ⟨hevent, hraised, herrs, herr, hstate, hsince, hinbox, hseq, htracks⟩ := h
  refine ⟨hevent, hraised, herrs, ?_, ?_, ?_, ?_, ?_, .updNwl htracks⟩
  all_goals rw [hw]
  · exact herr
  · exact hstate
  · exact hsince
  · exact hinbox
  · exact hseq

/-- The teeth since the last gap found are counted no further than the model's limit. -/
def sinceCapped (s : State) (n : Fin 4) : State := s.updNwl n (fun w => { w with sinceGap := w.sinceGap.map (fun k => min 1000 k) })

/-- A gap where the wheel has none, or none where it has one, is a sync error, and the tooth is taken all the same. -/
theorem gapOutcome_error {ge : Bool} (h : s.nwl[n].state = .sync) : ∃ u, gapOutcome s n (some !ge) ge = (u, none) ∧ GapError n s u := by
  cases ge
  · have he : gapOutcome s n (some true) false = if s.nwl[n].state == .candidate then gapFound (syncError (sinceCapped s n) n 1) n
        else ((syncError (sinceCapped s n) n 1).updNwl n (fun w => { w with sinceGap := some 1 }), none) := rfl
    refine ⟨_, he.trans (if_neg (by rw [h]; nofun)), ?_⟩
    exact .since_after (.since_before (gapReported_counted ((congrArg Nwl.state updNwl_same).trans h)))
  · have he : gapOutcome s n (some false) true = if s.nwl[n].state == .candidate then (goto (syncError s n 2) n .seek, none)
        else (syncError s n 2, none) := rfl
    exact ⟨_, he.trans (if_neg (by rw [h]; nofun)), gapReported_counted h⟩

end

end Sys2Proof.Machine

/-! # Accepted teeth, from the class to the values of the next interval (R120, R122), for O32 -/

namespace Sys2Proof.Machine

section
variable {s t u : State} {n : Fin 4} {o b k x d a aPrev : Nat} {e : EdgeInfo} {q : List EdgeInfo} {cls : Cls} {w : Nwl}

/-- The registers of the class of a tooth. -/
def classReg (n : Fin 4) (o : Nat) : Prop := shownReg n o ∨ o = nwlOff n NWL.CNT

theorem setupOff_not_classReg (x : Nat) (hx : setupOff x) : ¬classReg n (nwlOff n x) := by
  refine not_or_intro (nwlOff_not_shownReg ?_ ?_) fun e => ?_
  · simp only [setupOff] at hx
    omega
  · simp only [setupOff, NWL.EVT] at *
    omega
  · have := nwlOff_inj.mp e
    simp only [setupOff, NWL.EVT, NWL.CNT] at *
    omega

theorem classShown_nwl : (classShown s n cls).nwl = s.nwl := by
  cases cls
  case inserted => exact nwlEvent_nwl
  case early => exact nwlEvent_nwl
  case late => exact nwlEvent_nwl
  all_goals rfl

theorem classShown_tracks : Tracks (classReg n) n s (classShown s n cls) := by
  have h (b : Nat) (hb : b < 32) : Tracks (classReg n) n s (nwlEvent s n b) := .nwlEvent (fun _ => .inl) hb .refl
  cases cls
  case inserted => exact .satFl (.inr rfl) nwlOff_not_raiseReg (nwlOff_ne_evt (by decide)) (h 2 (by decide))
  case early => exact h 3 (by decide)
  case late => exact h 4 (by decide)
  all_goals exact .refl

theorem periodPushed_nwl : (periodPushed s n d cls).nwl[n] = pushPeriod s.nwl[n] d (cls == .inserted) := by
  refine updNwl_same.trans ?_
  rw [classShown_nwl]

theorem periodPushed_tracks : Tracks (classReg n) n s (periodPushed s n d cls) := .updNwl classShown_tracks

theorem periodPushed_setup : SameSetup n s (periodPushed s n d cls) :=
  periodPushed_tracks.setup setupOff_not_classReg (by rw [periodPushed_nwl]; rfl) (by rw [periodPushed_nwl]; rfl)

/-! ### The tooth of an accepted edge -/

theorem indexMoved_within (h : s.nwl[n].idx + k < max 1 (nTeeth s n)) : (indexMoved s n k).nwl[n] =
    { s.nwl[n] with idx := s.nwl[n].idx + k, toothang := toothAngle s n (s.nwl[n].idx + k) s.nwl[n].rev } := by
  have hset : SameSetup n s (s.updNwl n (fun w => { w with idx := s.nwl[n].idx + k })) := .updNwl rfl rfl
  rw [indexMoved, stepIndex_within h]
  refine updNwl_same.trans ?_
  rw [hset.toothAngle, updNwl_same]

theorem indexMoved_setup : SameSetup n s (indexMoved s n k) := by
  obtain ⟨i, r, e, y, g, hv, -⟩ := indexMoved_nwl (s := s) (n := n) (k := k)
  exact indexMoved_tracks.setup setupOff_not_stepReg (by rw [hv]) (by rw [hv])

/-- The state `t`, reached from `s`, has the values of the tooth that follows by `cls` in SYNC (R120, R122). -/
structure Reaches (n : Fin 4) (k d a : Nat) (cls : Cls) (s t : State) : Prop where
  state : t.nwl[n].state = .sync
  idx : t.nwl[n].idx = s.nwl[n].idx + cls.step
  toothang : t.nwl[n].toothang = toothAngle s n (s.nwl[n].idx + cls.step) s.nwl[n].rev
  ratio : t.nwl[n].ratio = (ratioOf (aclF s n) d a s.nwl[n].dprev s.nwl[n].aprev).1
  dprev : t.nwl[n].dprev = d
  aprev : t.nwl[n].aprev = a
  load : ∃ l, t.nwl[n].load = some l ∧ l.tlast = k ∧ l.anext = whlA s n (s.nwl[n].idx + cls.step + 1)
    ∧ l.ppred = predOf d a (whlA s n (s.nwl[n].idx + cls.step + 1)) (ratioOf (aclF s n) d a s.nwl[n].dprev s.nwl[n].aprev).1 ∧ l.pred = true

/-- The Newel after an accepted tooth in SYNC. -/
theorem syncTooth_nwl {an q : Nat} : ∃ info, (openPass (acceptTooth (predicted s n d a) n k cls d an q true) n d a aPrev false).nwl[n] =
    ((s.nwl[n].predicts d a (ratioOf (aclF s n) d a s.nwl[n].dprev s.nwl[n].aprev)).accepts k cls
      ⟨k, an, q, true, info, d⟩).opens d a aPrev s.now := by
  obtain ⟨info, ha⟩ := acceptTooth_nwl (s := predicted s n d a) (n := n) (k := k) (cls := cls) (d := d) (an := an) (q := q) (pred := true)
  have hnow : (acceptTooth (predicted s n d a) n k cls d an q true).now = s.now :=
    (Tracks.acceptTooth (fun _ => id) predicted_tracks : Tracks (shownReg n) n s _).now
  exact ⟨info, by rw [openPass_nwl, ha, predicted_nwl, hnow]⟩

theorem toothTaken_reaches (hw : w.state = .sync) (h : s.nwl[n].state = .sync) (hi : s.nwl[n].idx + cls.step < max 1 (nTeeth s n)) :
    Reaches n k d a cls s (toothTaken w s n k d a aPrev cls) := by
  rw [toothTaken_sync hw h]
  extract_lets v an
  have hv : v.nwl[n] = _ := indexMoved_within hi
  have hset : SameSetup n s v := indexMoved_setup
  have han : an = whlA s n (s.nwl[n].idx + cls.step + 1) := by
    unfold an
    rw [hset.whlA, hv]
  clear_value an v
  have hq : nextPred v n d a an = predOf d a an (ratioOf (aclF s n) d a s.nwl[n].dprev s.nwl[n].aprev).1 := by
    rw [← hset.aclF]
    rw [nextPred, hv]
  obtain ⟨info, ht⟩ := syncTooth_nwl (s := v) (n := n) (k := k) (d := d) (a := a) (aPrev := aPrev) (cls := cls)
      (an := an) (q := nextPred v n d a an)
  have hl : Nwl.load _ = _ := congrArg Nwl.load ht
  refine ⟨?_, ?_, ?_, ?_, ?_, ?_, _, hl, rfl, han, ?_, rfl⟩
  · rw [ht, hv]
    exact h
  · rw [ht, hv]
    rfl
  · rw [ht, hv]
    rfl
  · rw [ht, hv, hset.aclF]
    rfl
  · rw [ht]
    rfl
  · rw [ht]
    rfl
  · rw [← han]
    exact hq

theorem toothTaken_tracks (hw : w.state = .sync) (h : s.nwl[n].state = .sync ∨ s.nwl[n].state = .lost) :
    Tracks (stepReg n) n s (toothTaken w s n k d a aPrev cls) := by
  rcases h with h | h
  · rw [toothTaken_sync hw h]
    exact .openPass (.acceptTooth (fun _ => .inl) (indexMoved_tracks.trans predicted_tracks))
  · rw [toothTaken_lost h]
    exact .acceptTooth (fun _ => .inl) indexMoved_tracks

theorem clockReg_not_stepReg (o : Nat) (h : clockReg o) : ¬stepReg n o := by
  refine not_or_intro (clockReg_not_shownReg o h) fun e => ?_
  subst e
  simp only [clockReg, nwlOff, R.CLK_STAT, R.TB_LSTEP] at h
  omega

/-- The tooth is accepted, and what the Newel knows of its errors stays. -/
theorem toothTaken_accepted (hw : w.state = .sync) (h : s.nwl[n].state = .sync ∨ s.nwl[n].state = .lost) (hc : SameClock u s) :
    Accepted u n k cls s.nwl[n] (toothTaken w s n k d a aPrev cls)
    ∧ (toothTaken w s n k d a aPrev cls).nwl[n].state = s.nwl[n].state
    ∧ (s.nwl[n].errSince = true → (toothTaken w s n k d a aPrev cls).nwl[n].errcnt = s.nwl[n].errcnt) := by
  obtain ⟨i, r, e, y, g, hv, he⟩ := indexMoved_nwl (s := s) (n := n) (k := cls.step)
  have hclock : SameClock u (indexMoved s n cls.step) := hc.trans (indexMoved_tracks.clock clockReg_not_stepReg)
  rcases h with h | h
  · rw [toothTaken_sync hw h]
    extract_lets v an
    obtain ⟨info, ht⟩ := syncTooth_nwl (s := v) (n := n) (k := k) (d := d) (a := a) (aPrev := aPrev) (cls := cls)
      (an := an) (q := nextPred v n d a an)
    have hp : (predicted v n d a).nwl[n] = _ := predicted_nwl
    rw [hv] at ht hp
    refine ⟨.openPass ((acceptTooth_accepted ?_).of_nwl (by rw [hp]; rfl) (by rw [hp]; rfl)), ?_, fun hs => ?_⟩
    · exact hclock.trans (predicted_tracks.clock (clockReg_not_stepReg (n := n)))
    · rw [ht]
      rfl
    · rw [ht]
      exact he hs
  · rw [toothTaken_lost h]
    extract_lets v
    obtain ⟨info, ha⟩ := acceptTooth_nwl (s := v) (n := n) (k := k) (cls := cls) (d := d)
      (an := whlA v n (v.nwl[n].idx + 1)) (q := 1) (pred := false)
    refine ⟨(acceptTooth_accepted hclock).of_nwl (by rw [hv]) (by rw [hv]), ?_, fun hs => ?_⟩
    · rw [ha]
      exact (congrArg Nwl.state hv :)
    · rw [ha]
      exact (congrArg Nwl.errcnt hv).trans (he hs)

/-! ### The first edge in SEEK (R119) -/

theorem seekTooth_first (hs : s.nwl[n].state = .seek) (ht : s.nwl[n].tooth = none) (hh : s.nwl[n].hist = []) :
    seekTooth s n k = acceptTooth s n k .normal 0 0 1 false := by
  unfold seekTooth
  extract_lets w d short push s1 s2 s3 s4 s5
  have hw : w.tooth = none := ht
  have hd : d = 0 := by
    unfold d
    rw [hw]
  have hshort : short = false := by
    unfold short
    rw [hw]
    rfl
  have hpush : s5 = s := if_neg (by rw [hw]; nofun)
  rw [if_neg (by rw [hshort]; nofun), show w.state = .seek from hs, hd]
  dsimp only
  rw [hpush, hh]
  rfl

end

end Sys2Proof.Machine

/-! # The prediction load (R122, R134, R143), for O32 -/

namespace Sys2Proof.Machine

section
variable {s t u : State} {n : Fin 4} {o b k x d a aPrev : Nat} {e : EdgeInfo} {q : List EdgeInfo} {cls : Cls} {w : Nwl} {f : Nwl → Nwl} {l : Load}
  {p : Nat → Prop}

/-! ### What the angle does not depend on -/

/-- A change of a Newel that leaves its angle clock: of CYCNUM, and of the conversions under way. -/
def Aside (f : Nwl → Nwl) (w : Nwl) : Prop :=
  f w = { w with convQ := (f w).convQ, convAt := (f w).convAt, cycnum := (f w).cycnum }

theorem updNwl_aside (h : Aside f s.nwl[n]) : (s.updNwl n f).nwl[n] =
    { s.nwl[n] with convQ := (f s.nwl[n]).convQ, convAt := (f s.nwl[n]).convAt, cycnum := (f s.nwl[n]).cycnum } :=
  updNwl_same.trans h

section
variable (h : Aside f s.nwl[n])
include h

theorem nwlC_aside : nwlC (s.updNwl n f) n = nwlC s n := by
  simp only [nwlC, encCycle, updNwl_aside h, State.updNwl_fl]

theorem angleNow_aside : angleNow (s.updNwl n f) n = angleNow s n := by
  simp only [angleNow, angleOf, encAngleAt, angleAt, advRaw, advLim, encAngle, encCpc, encPp, State.eff, updNwl_aside h, nwlC_aside h,
    State.updNwl_fl, State.updNwl_bt, State.updNwl_tb, State.updNwl_fofs]

theorem refAngle_aside : refAngle (s.updNwl n f) n = refAngle s n := by
  simp only [refAngle, updNwl_aside h, angleNow_aside h]

theorem slotAng_aside {k : Fin 512} : slotAng (s.updNwl n f) n k = slotAng s n k := by
  rw [slotAng, nwlC_aside h, State.updNwl_fl, slotAng]

theorem slotAhead_aside : slotAhead (s.updNwl n f) n = slotAhead s n := by
  funext k
  simp only [slotAhead, nwlC_aside h, slotAng_aside h, updNwl_aside h]

theorem setup_aside : SameSetup n s (s.updNwl n f) :=
  .updNwl (by rw [h]) (by rw [h])

theorem windowOf_aside : windowOf (s.updNwl n f) n = windowOf s n := by
  simp only [windowOf, State.wasFl, State.updNwl_was, (setup_aside h).nTeeth, (setup_aside h).whlA, updNwl_aside h, curAnext]
end

/-- Nor do the slots of the pass depend on the conversions under way. -/
theorem passSlots_converting {ks : List (Fin 512)} {y : Nat} :
    passSlots (s.updNwl n (fun w => { w with convQ := ks, convAt := y })) n = passSlots s n := by
  have h : Aside (fun w => { w with convQ := ks, convAt := y }) s.nwl[n] := rfl
  have hin (k : Fin 512) : inWindow (s.updNwl n (fun w => { w with convQ := ks, convAt := y })) n k = inWindow s n k := by
    simp only [inWindow, slotAhead_aside h, windowOf_aside h, instAhead, toothCyc, refAngle_aside h, slotAng_aside h, updNwl_same]
    rfl
  rw [passSlots, slotAhead_aside h, funext hin]
  rfl

/-! ### The values of a tooth come into force (R122, R134, R143) -/

/-- The lifetime counters of speed (R370). -/
def lifeReg (o : Nat) : Prop := 0x3400 ≤ o ∧ o < 0x3440

theorem lifeReg_not_raiseReg (h : lifeReg o) : ¬raiseReg o := by
  simp only [lifeReg, raiseReg, recordReg] at *
  omega

theorem lifeReg_ne_nwlOff (h : lifeReg o) : o ≠ nwlOff n x := by
  simp only [lifeReg, nwlOff] at *
  omega

theorem lifeSpeed_nwl : ∃ y, (lifeSpeed s n k).nwl[n] = { s.nwl[n] with overspeed := y } := by
  unfold lifeSpeed
  extract_lets o s1 thr
  split
  · exact ⟨_, rfl⟩
  split
  · exact ⟨_, updNwl_same⟩
  split
  · exact ⟨_, updNwl_same⟩
  · exact ⟨_, rfl⟩

theorem Tracks.lifeSpeed (hp : ∀ o, lifeReg o → p o) (h : Tracks p n s t) : Tracks p n s (lifeSpeed t n k) := by
  have hrpm : lifeReg (R.LIFE_RPM + 4 * n.val) := by
    simp only [lifeReg, R.LIFE_RPM]
    omega
  have hovspd : lifeReg (R.LIFE_OVSPD + 4 * n.val) := by
    simp only [lifeReg, R.LIFE_OVSPD]
    omega
  unfold Machine.lifeSpeed
  extract_lets o s1 thr
  have h1 : Tracks p n s s1 := h.setFl (hp _ hrpm) (lifeReg_not_raiseReg hrpm) (lifeReg_ne_nwlOff hrpm)
  exact .ite h1 (.ite (.updNwl (h1.satFl (hp _ hovspd) (lifeReg_not_raiseReg hovspd) (lifeReg_ne_nwlOff hovspd))) (.ite h1.updNwl h1))

/-- A Newel with the values of a loaded tooth. -/
def Nwl.loads (w : Nwl) (l : Load) : Nwl := { w with tlast := l.tlast, anext := l.anext, ppred := l.ppred, pred := l.pred, load := none }

/-- The registers of the tooth itself take their values. -/
def toothShown (s : State) (n : Fin 4) (l : Load) : State :=
  (((s.updNwl n (fun w => w.loads l)).wr (nwlOff n NWL.TOOTHT) (w32 (l.tlast / 32))).wr (nwlOff n NWL.TOOTHINFO) l.info).wr
    (nwlOff n NWL.PERIOD) (w32 (min l.d 0xFFFFFFFF))

/-- So does that of its prediction. -/
def predShown (s : State) (n : Fin 4) (l : Load) : State := s.wr (nwlOff n NWL.PRED) (w32 (min l.ppred 0xFFFFFFFF))

/-- What follows the prediction: RATIO, its clamp, and the speed. -/
def ratioShown (s : State) (n : Fin 4) (l : Load) : State :=
  let w := s.nwl[n]
  let s := s.wr (nwlOff n NWL.RATIO) (w32 (w.ratio % 2 ^ 18 + w.rclamped.toNat * 2 ^ 18))
  let s := if w.rclamped && w.mode == 0 then nwlEvent s n 14 else s
  if w.state == .sync then lifeSpeed s n (l.anext * 12800000000 / (l.ppred * 24576)) else s

theorem loadTooth_eq : loadTooth s n l = if l.pred then ratioShown (predShown (toothShown s n l) n l) n l else toothShown s n l := rfl

/-- The registers that follow a prediction. -/
def ratioReg (n : Fin 4) (o : Nat) : Prop := shownReg n o ∨ o = nwlOff n NWL.RATIO ∨ lifeReg o

theorem nwlOff_not_ratioReg (hx : x < 0x400) (he : x ≠ NWL.EVT) (hr : x ≠ NWL.RATIO) : ¬ratioReg n (nwlOff n x) := by
  rintro (h | h | h)
  · exact nwlOff_not_shownReg hx he h
  · exact hr (nwlOff_inj.mp h)
  · exact lifeReg_ne_nwlOff h rfl

theorem ratioShown_tracks : Tracks (ratioReg n) n s (ratioShown s n l) := by
  unfold ratioShown
  extract_lets w s1 s2
  have h1 : Tracks (ratioReg n) n s s1 :=
    .wr (.inr (.inl rfl)) nwlOff_not_raiseReg (nwlOff_ne_evt (by decide)) .refl
  have h2 : Tracks (ratioReg n) n s s2 := .ite (h1.nwlEvent (fun _ => .inl) (by decide)) h1
  exact .ite (h2.lifeSpeed fun _ ho => .inr (.inr ho)) h2

theorem ratioShown_nwl : ∃ y, (ratioShown s n l).nwl[n] = { s.nwl[n] with overspeed := y } := by
  unfold ratioShown
  extract_lets w s1 s2
  have h2 : s2.nwl = s.nwl := by
    unfold s2
    split
    · exact nwlEvent_nwl
    · rfl
  split
  · obtain ⟨y, h⟩ := lifeSpeed_nwl (s := s2) (n := n) (k := l.anext * 12800000000 / (l.ppred * 24576))
    exact ⟨y, h.trans (congrArg (fun v : Vector Nwl 4 => { v[n] with overspeed := y }) h2)⟩
  · exact ⟨s.nwl[n].overspeed, congrArg (·[n]) h2⟩

theorem toothShown_nwl : (toothShown s n l).nwl[n] = s.nwl[n].loads l := by
  have h : (s.updNwl n (fun w => w.loads l)).nwl[n] = s.nwl[n].loads l := updNwl_same
  exact h

theorem predShown_nwl : (predShown s n l).nwl = s.nwl := rfl

theorem loadTooth_nwl : ∃ y, (loadTooth s n l).nwl[n] = { s.nwl[n].loads l with overspeed := y } := by
  rw [loadTooth_eq]
  split
  · obtain ⟨y, hy⟩ := ratioShown_nwl (s := predShown (toothShown s n l) n l) (n := n) (l := l)
    rw [predShown_nwl, toothShown_nwl] at hy
    exact ⟨y, hy⟩
  · exact ⟨_, toothShown_nwl⟩

/-- NWLn_TOOTHT, TOOTHINFO, PERIOD and, with a prediction, PRED read the values of the tooth. -/
structure ToothShown (n : Fin 4) (l : Load) (t : State) : Prop where
  time : t.rd (nwlOff n NWL.TOOTHT) = w32 (l.tlast / 32)
  info : t.rd (nwlOff n NWL.TOOTHINFO) = l.info
  period : t.rd (nwlOff n NWL.PERIOD) = w32 (min l.d 0xFFFFFFFF)
  pred : l.pred = true → t.rd (nwlOff n NWL.PRED) = w32 (min l.ppred 0xFFFFFFFF)

theorem loadTooth_shown : ToothShown n l (loadTooth s n l) := by
  have hr {v : State} {x : Nat} (hx : x < 0x400) (he : x ≠ NWL.EVT) (hr : x ≠ NWL.RATIO) :
      (ratioShown v n l).rd (nwlOff n x) = v.rd (nwlOff n x) := ratioShown_tracks.rd _ (nwlOff_not_ratioReg hx he hr)
  rw [loadTooth_eq]
  split
  · refine ⟨?_, ?_, ?_, fun _ => ?_⟩
    all_goals rw [hr (by decide) (by decide) (by decide)]
    all_goals simp [predShown, toothShown]
  · next hp =>
    refine ⟨?_, ?_, ?_, fun h => absurd h hp⟩
    all_goals simp [toothShown]

theorem toothFrames_eq : ∃ y, toothFrames s n l = { s with peer := y } := by
  unfold toothFrames
  split
  · exact ⟨_, rfl⟩
  · exact ⟨_, rfl⟩

/-- The values of a tooth come into force, and its frames go out. -/
def toothLoaded (s : State) (n : Fin 4) (l : Load) : State := toothFrames (loadTooth s n l) n l

theorem toothLoaded_eq : ∃ y, toothLoaded s n l = { loadTooth s n l with peer := y } := toothFrames_eq

/-- So does its SRQ, and freezing is no longer barred. -/
def loadServed (s : State) (n : Fin 4) : State :=
  (if s.nwl[n].mode != 1 && s.wasBt (nwlOff n NWL.SRQEN) 0 then s.srqVia (nwlOff n NWL.ROUTE) (.nwl n) 0 else s).updNwl n
    (fun w => { w with waitConv := false })

/-- The slots of the pass are lined up where the Newel schedules. -/
def passLined (s : State) (n : Fin 4) : State :=
  if schedOn s n && s.nwl[n].pred then s.updNwl n (fun w => { w with convQ := passSlots s n, convAt := s.now }) else s

theorem loadTooth_mode : (loadTooth s n l).nwl[n].mode = s.nwl[n].mode := by
  obtain ⟨z, hz⟩ := loadTooth_nwl (s := s) (n := n) (l := l)
  exact (congrArg Nwl.mode hz :)

theorem toothLoaded_mode : (toothLoaded s n l).nwl[n].mode = s.nwl[n].mode := by
  obtain ⟨y, hy⟩ := toothLoaded_eq (s := s) (n := n) (l := l)
  rw [hy]
  exact loadTooth_mode

theorem predictionLoad_runs (h : s.nwl[n].on = true) (hl : s.nwl[n].load = some l) :
    execPredictionLoad n s = .next (passLined (loadServed (toothLoaded s n l) n) n) := by
  unfold execPredictionLoad
  extract_lets w s1 s2 s3
  have h1 : s1 = toothLoaded s n l := by
    unfold s1
    rw [show w.load = some l from hl]
    rfl
  have h3 : s3 = loadServed s1 n := by
    have hm : w.mode = s1.nwl[n].mode := by
      rw [h1]
      exact toothLoaded_mode.symm
    unfold s3 s2
    rw [hm]
    rfl
  rw [if_neg (by rw [show w.on = true from h]; nofun), h3, h1]
  rfl

theorem loadServed_dates : Dates (s.updNwl n (fun w => { w with waitConv := false })) (loadServed s n) := by
  unfold loadServed
  split
  · exact .after
  · exact .refl

theorem loadServed_nwl : (loadServed s n).nwl[n] = { s.nwl[n] with waitConv := false } := by
  have h : (loadServed s n).nwl = (s.updNwl n (fun w => { w with waitConv := false })).nwl := (congrArg State.nwl loadServed_dates.rest :)
  rw [h]
  exact updNwl_same

theorem loadServed_now : (loadServed s n).now = s.now := (congrArg State.now loadServed_dates.rest :)

theorem toothShown_tracks {p : Nat → Prop} (hp : ∀ x, x < 0x400 → p (nwlOff n x)) :
    Tracks p n s (toothShown s n l) := by
  have hw {v : State} {x : Nat} {y : Word} (hlt : x < 0x400) (hx : x ≠ NWL.EVT) (h : Tracks p n s v) : Tracks p n s (v.wr (nwlOff n x) y) :=
    h.wr (hp x hlt) nwlOff_not_raiseReg fun e => hx (nwlOff_inj.mp e)
  unfold toothShown
  exact hw (by decide) (by decide) (hw (by decide) (by decide) (hw (by decide) (by decide) (.updNwl .refl)))

theorem loadTooth_now : (loadTooth s n l).now = s.now := by
  have h : (toothShown s n l).now = s.now := (toothShown_tracks (p := fun _ => True) fun _ _ => trivial).now
  rw [loadTooth_eq]
  split
  · exact ratioShown_tracks.now.trans h
  · exact h

theorem toothLoaded_now : (toothLoaded s n l).now = s.now := by
  obtain ⟨y, hy⟩ := toothLoaded_eq (s := s) (n := n) (l := l)
  rw [hy]
  exact loadTooth_now

theorem toothLoaded_nwl : ∃ y, (toothLoaded s n l).nwl[n] = { s.nwl[n].loads l with overspeed := y } := by
  obtain ⟨y, hy⟩ := toothLoaded_eq (s := s) (n := n) (l := l)
  rw [hy]
  exact loadTooth_nwl

theorem ToothShown.of_rd (hr : ∀ o, t.rd o = s.rd o) (h : ToothShown n l s) : ToothShown n l t :=
  ⟨(hr _).trans h.time, (hr _).trans h.info, (hr _).trans h.period, fun hp => (hr _).trans (h.pred hp)⟩

theorem toothLoaded_shown : ToothShown n l (loadServed (toothLoaded s n l) n) := by
  obtain ⟨y, hy⟩ := toothLoaded_eq (s := s) (n := n) (l := l)
  have h : ToothShown n l (toothLoaded s n l) := by
    rw [hy]
    exact .of_rd (s := loadTooth s n l) (fun _ => rfl) loadTooth_shown
  exact .of_rd (fun o => congrFun loadServed_dates.rd o) (.of_rd (s := toothLoaded s n l) (fun _ => rfl) h)

/-- A Newel with slots lined up for conversion. -/
def Nwl.lined (w : Nwl) (ks : List (Fin 512)) (y : Nat) : Nwl := { w with convQ := ks, convAt := y }

theorem passLined_nwl : ∃ ks y, (passLined s n).nwl[n] = s.nwl[n].lined ks y := by
  unfold passLined
  split
  · exact ⟨_, _, updNwl_same⟩
  · exact ⟨s.nwl[n].convQ, s.nwl[n].convAt, rfl⟩

theorem passLined_rd : (passLined s n).rd o = s.rd o := by
  unfold passLined
  split
  · rfl
  · rfl

theorem passLined_passes (h : schedOn (passLined s n) n = true) (hp : s.nwl[n].pred = true) :
    (passLined s n).nwl[n].convQ = passSlots (passLined s n) n ∧ (passLined s n).nwl[n].convAt = s.now := by
  by_cases hc : (schedOn s n && s.nwl[n].pred) = true
  · rw [passLined, if_pos hc, passSlots_converting, updNwl_same]
    exact ⟨rfl, rfl⟩
  · rw [passLined, if_neg hc] at h
    exact absurd (by rw [h, hp]; rfl) hc

end

end Sys2Proof.Machine

/-! # The ways of a tooth edge (O32) -/

namespace Sys2Proof.Machine

section
variable {s t u : State} {n : Fin 4} {o k x d a aPrev : Nat} {e : EdgeInfo} {q : List EdgeInfo} {cls : Cls} {w : Nwl} {l : Load}

/-- The effective time of an edge in fine units. -/
def edgeTime (e : EdgeInfo) : Nat := e.coarse.toNat * 32 + e.fine.toNat

/-- The period of Newel `n` that an edge at `k` ends. -/
def periodAt (s : State) (n : Fin 4) (k : Nat) : Nat := k - s.nwl[n].tooth.getD s.nwl[n].tlast

theorem follows_sync (hs : w.state = .sync) (hp : curPred w = true) (hf : w.fast = false) : w.follows = true := by
  unfold Nwl.follows
  rw [hs, hf, hp]
  rfl

theorem classifying_periodAt : periodAt (classifying s n q) n k = periodAt s n k := by
  obtain ⟨a, b, c, h⟩ := classifying_nwl (s := s) (n := n) (q := q)
  rw [periodAt, h]
  rfl

/-- The angle of the interval that an edge of class `cls` ends. -/
def edgeSpan (s : State) (n : Fin 4) (cls : Cls) : Nat :=
  curAnext s.nwl[n] + (if cls = .inserted then whlA s n (s.nwl[n].idx + 2) else 0)

theorem classifying_toothAng : toothAng (classifying s n q) n cls = edgeSpan s n cls := by
  obtain ⟨a, b, c, h⟩ := classifying_nwl (s := s) (n := n) (q := q)
  simp only [edgeSpan, toothAng, classifying_setup.whlA, h, beq_iff_eq]
  rfl

/-! ### An edge that follows in SYNC, as far as its gap test -/

/-- The edge has left the inbox, and its period is in the history. -/
def periodTaken (s : State) (n : Fin 4) (q : List EdgeInfo) (d : Nat) (cls : Cls) : State := periodPushed (classifying s n q) n d cls

theorem periodTaken_nwl : ∃ a b c, (periodTaken s n q d cls).nwl[n] = pushPeriod (s.nwl[n].classified q a b c) d (cls == .inserted) := by
  obtain ⟨a, b, c, h⟩ := classifying_nwl (s := s) (n := n) (q := q)
  exact ⟨a, b, c, by rw [periodTaken, periodPushed_nwl, h]⟩

theorem periodTaken_setup : SameSetup n s (periodTaken s n q d cls) := classifying_setup.trans periodPushed_setup

theorem periodTaken_tracks : Tracks (classReg n) n s (periodTaken s n q d cls) :=
  (classifying_tracks.mono fun _ => .inl).trans periodPushed_tracks

theorem clockReg_not_classReg (o : Nat) (h : clockReg o) : ¬classReg n o := by
  refine not_or_intro (clockReg_not_shownReg o h) fun e => ?_
  subst e
  simp only [clockReg, nwlOff, R.CLK_STAT, R.TB_LSTEP] at h
  omega

theorem periodTaken_clock : SameClock s (periodTaken s n q d cls) := periodTaken_tracks.clock clockReg_not_classReg

/-- The gap test that the edge is put to, on a history of which it is the newest part. -/
def edgeGap (s : State) (n : Fin 4) (d : Nat) (cls : Cls) : Option Bool :=
  gapTest s n ((⟨d, decide (cls = .inserted)⟩ :: s.nwl[n].hist).take 4)

theorem periodTaken_gapTest : gapTest (periodTaken s n q d cls) n (periodTaken s n q d cls).nwl[n].hist = edgeGap s n d cls := by
  obtain ⟨a, b, c, h⟩ := periodTaken_nwl (s := s) (n := n) (q := q) (d := d) (cls := cls)
  rw [periodTaken_setup.gapTest, h, edgeGap, ← beq_eq_decide]
  rfl

theorem toothClassify_takes (hin : s.nwl[n].inbox = e :: q) (hon : s.nwl[n].on = true) (hm : s.nwl[n].mode = 0)
    (hf : s.nwl[n].follows = true) (hd : periodAt s n (edgeTime e) = d) (hc : classOf s n d = cls) (hcls : cls ≠ .rejected)
    (hg : gapOutcome (periodTaken s n q d cls) n (edgeGap s n d cls) (gapEnd s n s.nwl[n].idx) = (u, none)) :
    ∃ aPrev, execToothClassify n s = .next (toothTaken (classifying s n q).nwl[n] u n (edgeTime e) d
      (edgeSpan s n cls) aPrev cls) := by
  have hidx : (classifying s n q).nwl[n].idx = s.nwl[n].idx := by
    obtain ⟨a, b, c, h⟩ := classifying_nwl (s := s) (n := n) (q := q)
    rw [h]
    rfl
  rw [← periodTaken_gapTest (q := q), ← (periodTaken_setup (q := q) (d := d) (cls := cls)).gapEnd, ← hidx] at hg
  rw [toothClassify_runs hin hon hm, if_pos hf, ← classifying_toothAng (q := q)]
  exact ⟨_, congrArg Host.Outcome.next (trackTooth_takes (classifying_periodAt.trans hd) (classifying_classOf.trans hc) hcls hg)⟩

theorem classifying_state : (classifying s n q).nwl[n].state = s.nwl[n].state := by
  obtain ⟨a, b, c, h⟩ := classifying_nwl (s := s) (n := n) (q := q)
  rw [h]
  rfl

/-! ### The four ways of an edge -/

/-- The first edge in SEEK is accepted as a normal one, without a period. -/
theorem toothClassify_first (hin : s.nwl[n].inbox = e :: q) (hon : s.nwl[n].on = true) (hm : s.nwl[n].mode = 0)
    (hs : s.nwl[n].state = .seek) (ht : s.nwl[n].tooth = none) (hh : s.nwl[n].hist = []) :
    ∃ t, execToothClassify n s = .next t ∧ Accepted s n (edgeTime e) .normal { s.nwl[n] with inbox := q } t ∧ t.nwl[n].state = .seek := by
  obtain ⟨a, b, c, h⟩ := classifying_nwl (s := s) (n := n) (q := q)
  have hf : s.nwl[n].follows = false := by
    unfold Nwl.follows
    rw [hs]
  have hfirst := seekTooth_first (s := classifying s n q) (n := n) (k := edgeTime e) (classifying_state.trans hs)
    (by rw [h]; exact ht) (by rw [h]; exact hh)
  refine ⟨acceptTooth (classifying s n q) n (edgeTime e) .normal 0 0 1 false, ?_,
    (acceptTooth_accepted (classifying_tracks.clock clockReg_not_shownReg)).of_nwl ?_ ?_, ?_⟩
  · rw [toothClassify_runs hin hon hm, if_neg (by rw [hf]; nofun)]
    exact congrArg Host.Outcome.next hfirst
  · rw [h]
    rfl
  · rw [h]
    rfl
  · obtain ⟨info, hw⟩ := acceptTooth_nwl (s := classifying s n q) (n := n) (k := edgeTime e) (cls := .normal)
      (d := 0) (an := 0) (q := 1) (pred := false)
    rw [hw]
    exact classifying_state.trans hs

/-- A rejected edge only counts. -/
theorem toothClassify_rejects (hin : s.nwl[n].inbox = e :: q) (hon : s.nwl[n].on = true) (hm : s.nwl[n].mode = 0)
    (hf : s.nwl[n].follows = true) (hc : classOf s n (periodAt s n (edgeTime e)) = .rejected) :
    ∃ t, execToothClassify n s = .next t
      ∧ (∃ a b c, t.nwl[n] = { s.nwl[n].classified q a b c with lastcls := .rejected })
      ∧ t.bt (nwlOff n NWL.EVT) 1 = true ∧ t.fl (nwlOff n NWL.CNT) 0 16 = min 65535 (s.fl (nwlOff n NWL.CNT) 0 16 + 1) := by
  obtain ⟨a, b, c, h⟩ := classifying_nwl (s := s) (n := n) (q := q)
  obtain ⟨hw, hevent, hcnt⟩ := rejectTooth_spec (s := classifying s n q) (n := n) (k := edgeTime e)
  rw [h] at hw
  rw [classifying_tracks.fl (nwlOff_not_shownReg (by decide) (by decide))] at hcnt
  refine ⟨rejectTooth (classifying s n q) n (edgeTime e), ?_, ⟨a, b, c, hw⟩, hevent, hcnt⟩
  rw [toothClassify_runs hin hon hm, if_pos hf]
  have hrej : classOf (classifying s n q) n (periodAt (classifying s n q) n (edgeTime e)) = .rejected := by
    rw [classifying_periodAt, classifying_classOf, hc]
  exact congrArg Host.Outcome.next (trackTooth_rejects hrej)

/-- An accepted edge in SYNC that shows no gap, below the end of the wheel: the tooth after it is reached and predicted. -/
theorem toothClassify_reaches (hin : s.nwl[n].inbox = e :: q) (hon : s.nwl[n].on = true) (hm : s.nwl[n].mode = 0)
    (hs : s.nwl[n].state = .sync) (hf : s.nwl[n].follows = true) (hd : periodAt s n (edgeTime e) = d) (hc : classOf s n d = cls)
    (hcls : cls ≠ .rejected) (hg : edgeGap s n d cls = none ∨ (edgeGap s n d cls = some false ∧ gapEnd s n s.nwl[n].idx = false))
    (hi : s.nwl[n].idx + cls.step < max 1 (nTeeth s n)) :
    ∃ t, execToothClassify n s = .next t ∧ Accepted s n (edgeTime e) cls { s.nwl[n] with inbox := q } t
      ∧ Reaches n (edgeTime e) d (edgeSpan s n cls) cls s t := by
  obtain ⟨aPrev, hrun⟩ := toothClassify_takes hin hon hm hf hd hc hcls (gapOutcome_quiet hg)
  obtain ⟨x, y, z, h⟩ := periodTaken_nwl (s := s) (n := n) (q := q) (d := d) (cls := cls)
  have hset : SameSetup n s (periodTaken s n q d cls) := periodTaken_setup
  have hstate : (periodTaken s n q d cls).nwl[n].state = .sync := by
    rw [h]
    exact hs
  have hidx : (periodTaken s n q d cls).nwl[n].idx = s.nwl[n].idx := by rw [h]; rfl
  have hrev : (periodTaken s n q d cls).nwl[n].rev = s.nwl[n].rev := by rw [h]; rfl
  have hdprev : (periodTaken s n q d cls).nwl[n].dprev = s.nwl[n].dprev := by rw [h]; rfl
  have haprev : (periodTaken s n q d cls).nwl[n].aprev = s.nwl[n].aprev := by rw [h]; rfl
  have hw : (classifying s n q).nwl[n].state = .sync := classifying_state.trans hs
  obtain ⟨hacc, -, -⟩ := toothTaken_accepted (k := edgeTime e) (d := d) (cls := cls) (aPrev := aPrev)
    (a := edgeSpan s n cls) hw (.inl hstate) periodTaken_clock
  have hr := toothTaken_reaches (k := edgeTime e) (d := d) (cls := cls) (aPrev := aPrev)
    (a := edgeSpan s n cls) hw hstate (by rwa [hidx, hset.nTeeth])
  refine ⟨_, hrun, hacc.of_nwl (by rw [h]; rfl) (by rw [h]; rfl), ?_⟩
  obtain ⟨rstate, ridx, rang, rratio, rdprev, raprev, l, rload, rlast, rnext, rpred, rhas⟩ := hr
  rw [hidx] at ridx
  rw [hidx, hrev, hset.toothAngle] at rang
  rw [hset.aclF, hdprev, haprev] at rratio rpred
  rw [hidx, hset.whlA] at rnext rpred
  exact ⟨rstate, ridx, rang, rratio, rdprev, raprev, l, rload, rlast, rnext, rpred, rhas⟩

/-- An accepted edge in SYNC that shows a gap where there is none, or none where there is one. -/
theorem toothClassify_errs (hin : s.nwl[n].inbox = e :: q) (hon : s.nwl[n].on = true) (hm : s.nwl[n].mode = 0)
    (hs : s.nwl[n].state = .sync) (hf : s.nwl[n].follows = true) (hd : periodAt s n (edgeTime e) = d) (hc : classOf s n d = cls)
    (hcls : cls ≠ .rejected) (hg : edgeGap s n d cls = some (!gapEnd s n s.nwl[n].idx)) :
    ∃ t, execToothClassify n s = .next t ∧ Accepted s n (edgeTime e) cls { s.nwl[n] with inbox := q } t
      ∧ t.bt (nwlOff n NWL.EVT) 5 = true ∧ Raised t FS.NWL_GAPERR
      ∧ t.fl (nwlOff n NWL.ERRS) 0 8 = min 255 (s.fl (nwlOff n NWL.ERRS) 0 8 + 1) ∧ t.nwl[n].errcnt = min 15 (s.nwl[n].errcnt + 1)
      ∧ t.nwl[n].state = if errMax s n ≤ min 15 (s.nwl[n].errcnt + 1) then .lost else .sync := by
  obtain ⟨x, y, z, h⟩ := periodTaken_nwl (s := s) (n := n) (q := q) (d := d) (cls := cls)
  have hset : SameSetup n s (periodTaken s n q d cls) := periodTaken_setup
  have hstate : (periodTaken s n q d cls).nwl[n].state = .sync := by
    rw [h]
    exact hs
  have herrcnt : (periodTaken s n q d cls).nwl[n].errcnt = s.nwl[n].errcnt := by rw [h]; rfl
  have herrs : (periodTaken s n q d cls).fl (nwlOff n NWL.ERRS) 0 8 = s.fl (nwlOff n NWL.ERRS) 0 8 :=
    periodTaken_tracks.fl (not_or_intro (nwlOff_not_shownReg (by decide) (by decide)) fun e => absurd (nwlOff_inj.mp e) (by decide))
  obtain ⟨u, hu, hge⟩ := gapOutcome_error (ge := gapEnd s n s.nwl[n].idx) hstate
  obtain ⟨aPrev, hrun⟩ := toothClassify_takes hin hon hm hf hd hc hcls (by rw [hg]; exact hu)
  have hus : u.nwl[n].state = .sync ∨ u.nwl[n].state = .lost := by
    rw [hge.state]
    split
    · exact .inr rfl
    · exact .inl rfl
  have hclock : SameClock s u := periodTaken_clock.trans (hge.tracks.clock fun o ho => ?_)
  · have hw : (classifying s n q).nwl[n].state = .sync := classifying_state.trans hs
    obtain ⟨hacc, hst, herr⟩ := toothTaken_accepted (k := edgeTime e) (d := d) (cls := cls) (aPrev := aPrev)
      (a := edgeSpan s n cls) hw hus hclock
    have ht := toothTaken_tracks (k := edgeTime e) (d := d) (cls := cls) (aPrev := aPrev)
      (a := edgeSpan s n cls) hw hus
    refine ⟨_, hrun, hacc.of_nwl ?_ ?_, ht.events _ hge.event, ht.raised _ (by decide) hge.raised, ?_, ?_, ?_⟩
    · rw [hge.inbox, h]
      rfl
    · rw [hge.seq, h]
      rfl
    · rw [ht.fl (nwlOff_not_stepReg (by decide) (by decide) (by decide)), hge.errs, herrs]
    · rw [herr hge.since, hge.errcnt, herrcnt]
    · rw [hst, hge.state, herrcnt, hset.errMax]
  · refine not_or_intro (clockReg_not_shownReg o ho) fun e => ?_
    subst e
    simp only [clockReg, nwlOff, R.CLK_STAT, R.TB_LSTEP] at ho
    omega

/-! ### The load -/

theorem predictionLoad_serves (hon : s.nwl[n].on = true) (hl : s.nwl[n].load = some l) :
    ∃ t, execPredictionLoad n s = .next t ∧ (∃ y ks z, t.nwl[n] = Nwl.lined { s.nwl[n].loads l with overspeed := y, waitConv := false } ks z)
      ∧ ToothShown n l t ∧ (schedOn t n = true → l.pred = true → t.nwl[n].convQ = passSlots t n ∧ t.nwl[n].convAt = s.now) := by
  obtain ⟨y, hload⟩ := toothLoaded_nwl (s := s) (n := n) (l := l)
  have hserved := loadServed_nwl (s := toothLoaded s n l) (n := n)
  rw [hload] at hserved
  refine ⟨_, predictionLoad_runs hon hl, ?_, toothLoaded_shown.of_rd fun _ => passLined_rd, fun hsched hpred => ?_⟩
  · obtain ⟨ks, z, h⟩ := passLined_nwl (s := loadServed (toothLoaded s n l) n) (n := n)
    rw [hserved] at h
    exact ⟨y, ks, z, h⟩
  · have hp : (loadServed (toothLoaded s n l) n).nwl[n].pred = true := by
      rw [hserved]
      exact hpred
    obtain ⟨hq, hat⟩ := passLined_passes hsched hp
    exact ⟨hq, hat.trans (loadServed_now.trans toothLoaded_now)⟩

end

/-- Settles O32: the edge goes through the inbox, and its class and the gap test decide which of the four ways it takes. -/
theorem toothTracking : Obligations.ToothTracking := by
  intro s n e w time
  refine ⟨fun hon hm => ?arrives, fun h => ?ignored, fun q hin hon hm => ?classified, fun l hon hl => ?loads⟩
  case arrives => exact ⟨_, toothReceive_runs hon hm, by rw [State.after_nwl, updNwl_same], rfl, SameClock.refl.due⟩
  case ignored => exact ⟨s, toothReceive_ignored h, rfl⟩
  case classified =>
    intro d cls ins stp gap taken
    refine ⟨fun hs ht hh => ?first, fun hs hp hf hc => ?rejects, fun hs hp hf hc hg hi => ?reaches, fun hs hp hf hc hg => ?errs⟩
    case first =>
      obtain ⟨t, hrun, hacc, hstate⟩ := toothClassify_first hin hon hm hs ht hh
      exact ⟨t, hrun, hacc.inbox, hacc.lastcls, hacc.tooth, hstate, hacc.event, hacc.due⟩
    case rejects =>
      obtain ⟨t, hrun, ⟨a, b, c, hw⟩, hevent, hcnt⟩ := toothClassify_rejects hin hon hm (follows_sync hs hp hf) hc
      refine ⟨t, hrun, ?_, ?_, ?_, ?_, ?_, hevent, hcnt⟩ <;> rw [hw] <;> rfl
    case reaches =>
      have hstp : stp = cls.step := Cls.step_eq
      rw [hstp] at hi
      obtain ⟨t, hrun, hacc, hr⟩ := toothClassify_reaches hin hon hm hs (follows_sync hs hp hf) rfl rfl hc hg hi
      rw [hstp]
      exact ⟨t, hrun, ⟨hacc.inbox, hacc.lastcls, hacc.seq, hacc.event, hacc.tooth, hacc.due⟩, hr.state, hr.idx, hr.toothang, hr.ratio, hr.dprev,
        hr.aprev, hr.load⟩
    case errs =>
      obtain ⟨t, hrun, hacc, hevent, hraised, herrs, herrcnt, hstate⟩ := toothClassify_errs hin hon hm hs (follows_sync hs hp hf) rfl rfl hc hg
      exact ⟨t, hrun, ⟨hacc.inbox, hacc.lastcls, hacc.seq, hacc.event, hacc.tooth, hacc.due⟩, hevent, hraised, herrs, herrcnt, hstate⟩
  case loads =>
    obtain ⟨t, hrun, ⟨y, ks, z, hw⟩, hshown, hpass⟩ := predictionLoad_serves hon hl
    refine ⟨t, hrun, ?_, ?_, ?_, ?_, ?_, hshown.time, hshown.info, hshown.period, hshown.pred, hpass⟩ <;> rw [hw] <;> rfl

end Sys2Proof.Machine

/-!
# The states of a Newel and how it leaves each (O33)

The phase decision (R129), the stall guard (R131), the commands of a Newel (R112, R116, R123) and the read of its tooth (R143).
-/

namespace Sys2Proof.Machine

section
variable {s t u : State} {n : Fin 4} {j : Fin 2} {p : Nat → Prop} {o b k x : Nat} {v m0 m1 : Bool} {e : EdgeInfo} {w : Nwl} {st : Sync}

/-! ### What a change of state shows -/

theorem goto_sync_event (h : s.nwl[n].state ≠ .sync) : (goto s n .sync).bt (nwlOff n NWL.EVT) 8 = true := by
  have he : goto s n .sync = syncEntered (nwlEvent (gotoTaken s n .sync) n 7) n := by
    rw [goto_eq, if_neg (by nofun), gotoLost, if_neg (by nofun), gotoShown]
    exact if_pos (by simpa using h)
  rw [he]
  exact syncEntered_event

theorem goto_hold_shown (h : s.nwl[n].mode ≠ 2) :
    (goto s n .hold).bt (nwlOff n NWL.EVT) 10 = true ∧ Raised (goto s n .hold) FS.NWL_STALL := by
  have he : goto s n .hold = (nwlEvent (gotoLost s n .hold) n 10).raise FS.NWL_STALL (w32 n.val) := by
    rw [goto_eq]
    exact if_pos (by simpa using h)
  rw [he]
  refine ⟨?_, raise_raised _ (by decide) _⟩
  rw [State.bt, (raise_reports ..).rd _ nwlOff_not_raiseReg]
  exact nwlEvent_event (by decide)

/-! ### The phase decision (R129) -/

/-- REV takes `r`; where it changes, the angle moves by a revolution, which is no passage. -/
def revSet (s : State) (n : Fin 4) (r : Bool) : State :=
  if r != s.nwl[n].rev then
    s.updNwl n (fun w => { w with rev := r, toothang := (w.toothang + revLen) % nwlC s n, aLast := none })
  else s

/-- REV is decided. -/
def phaseShown (s : State) (n : Fin 4) (r : Bool) : State := nwlEvent ((revSet s n r).updNwl n (fun w => { w with phok := true })) n 11

theorem decidePhase_eq : decidePhase s n v =
    if s.nwl[n].state == .confirm && s.nwl[n].mode == 0 then goto (phaseShown s n (v && nwlC s n == cycle720)) n .sync
    else phaseShown s n (v && nwlC s n == cycle720) := rfl

theorem revSet_nwl {r : Bool} : ∃ a l, (revSet s n r).nwl[n] = { s.nwl[n] with rev := r, toothang := a, aLast := l } := by
  unfold revSet
  split
  · exact ⟨_, _, updNwl_same⟩
  · next h =>
    have hr : r = s.nwl[n].rev := by simpa using h
    subst hr
    exact ⟨_, _, rfl⟩

theorem phaseShown_nwl {r : Bool} : ∃ a l, (phaseShown s n r).nwl[n] = { s.nwl[n] with rev := r, toothang := a, aLast := l, phok := true } := by
  obtain ⟨a, l, h⟩ := revSet_nwl (s := s) (n := n) (r := r)
  refine ⟨a, l, ?_⟩
  rw [phaseShown, nwlEvent_nwl, updNwl_same, h]

theorem phaseShown_event {r : Bool} : (phaseShown s n r).bt (nwlOff n NWL.EVT) 11 = true := nwlEvent_event (by decide)

theorem decidePhase_decides : (decidePhase s n v).nwl[n].phok = true ∧ (decidePhase s n v).nwl[n].rev = (v && nwlC s n == cycle720)
    ∧ (decidePhase s n v).bt (nwlOff n NWL.EVT) 11 = true := by
  obtain ⟨a, l, h⟩ := phaseShown_nwl (s := s) (n := n) (r := v && nwlC s n == cycle720)
  rw [decidePhase_eq]
  split
  · refine ⟨?_, ?_, goto_tracks.events _ phaseShown_event⟩
    · rw [goto_nwl, h]
      rfl
    · rw [goto_nwl, h]
      rfl
  · refine ⟨?_, ?_, phaseShown_event⟩
    · rw [h]
    · rw [h]

/-- A decided phase ends CONFIRM in SYNC (R123). -/
theorem decidePhase_confirms (hs : s.nwl[n].state = .confirm) (hm : s.nwl[n].mode = 0) :
    (decidePhase s n v).nwl[n].state = .sync ∧ (decidePhase s n v).bt (nwlOff n NWL.EVT) 8 = true := by
  obtain ⟨a, l, h⟩ := phaseShown_nwl (s := s) (n := n) (r := v && nwlC s n == cycle720)
  rw [decidePhase_eq, if_pos (by rw [hs, hm]; rfl)]
  refine ⟨by rw [goto_nwl]; rfl, goto_sync_event ?_⟩
  rw [h]
  exact fun e => absurd (hs.symm.trans e) nofun

/-! ### An edge of a phase input (R129) -/

/-- The votes after one for `m`. -/
def Nwl.votesFor (w : Nwl) (m : Bool) : Nat := if w.votes != 0 && w.voteRev == m then w.votes + 1 else 1

theorem Nwl.votesFor_eq {m : Bool} : w.votesFor m = if w.votes ≠ 0 ∧ w.voteRev = m then w.votes + 1 else 1 := by
  simp [Nwl.votesFor]

/-- A vote for `m` of a Newel that was `w` is noted. -/
def voted (s : State) (n : Fin 4) (w : Nwl) (m : Bool) : State := s.updNwl n (fun x => { x with votes := w.votesFor m, voteRev := m })

theorem voted_setup {m : Bool} : SameSetup n s (voted s n w m) := by
  unfold voted
  exact .updNwl rfl rfl

/-- The vote of an edge that matches in the one revolution by `m0` and in the other by `m1`. -/
def phaseVote (s : State) (n : Fin 4) (m0 m1 : Bool) : State :=
  let w := s.nwl[n]
  if !m0 && !m1 then s.satFl (nwlOff n NWL.ERRS) 8 8
  else if m0 == m1 then s
  else
    let s := if w.fast then
        s.updNwl n (fun w => if m1 == w.rev then { w with fastFor := w.fastFor + 1 } else { w with fastAgainst := w.fastAgainst + 1 })
      else s
    if w.phok then s
    else if camVote (voted s n w m1) n ≤ w.votesFor m1 && w.state != .hold then decidePhase (voted s n w m1) n m1 else voted s n w m1

theorem phaseVote_none : phaseVote s n false false = s.satFl (nwlOff n NWL.ERRS) 8 8 := rfl

/-- One revolution alone matches, and the phase is open. -/
theorem phaseVote_one (hm : m0 ≠ m1) (hp : s.nwl[n].phok = false) (hf : s.nwl[n].fast = false) :
    phaseVote s n m0 m1 = if camVote s n ≤ s.nwl[n].votesFor m1 && s.nwl[n].state != .hold then decidePhase (voted s n s.nwl[n] m1) n m1
      else voted s n s.nwl[n] m1 := by
  have hnone : (!m0 && !m1) = false := by
    cases m0
    · simpa using hm.symm
    · rfl
  unfold phaseVote
  extract_lets w s1
  have h1 : s1 = s := if_neg (by rw [show w.fast = false from hf]; nofun)
  rw [if_neg (by rw [hnone]; nofun), if_neg (by simpa using hm), if_neg (by rw [show w.phok = false from hp]; nofun), h1]
  rfl

/-- The angle of an edge, and that a revolution further. -/
def edgeAngle (s : State) (n : Fin 4) (e : EdgeInfo) : Nat := angleAt s n (e.coarse.toNat * 32 + e.fine.toNat)
def otherAngle (s : State) (n : Fin 4) (e : EdgeInfo) : Nat := (edgeAngle s n e + revLen) % nwlC s n

/-- Whether an edge matches in a revolution with REV = 0, and with REV = 1. -/
def matches0 (s : State) (n : Fin 4) (j : Fin 2) (e : EdgeInfo) : Bool :=
  camMatches s n j (if s.nwl[n].rev then otherAngle s n e else edgeAngle s n e) e.level
def matches1 (s : State) (n : Fin 4) (j : Fin 2) (e : EdgeInfo) : Bool :=
  camMatches s n j (if s.nwl[n].rev then edgeAngle s n e else otherAngle s n e) e.level

/-- The state after an edge's vote, with the sync error of an edge that matches nothing where the phase is known. -/
def phaseEdge (s : State) (n : Fin 4) (m0 m1 : Bool) : State :=
  if s.nwl[n].state == .sync && (phaseVote s n m0 m1).wasBt (nwlOff n NWL.CTRL) 6 && !(if s.nwl[n].rev then m1 else m0) then
    syncError (phaseVote s n m0 m1) n 3
  else phaseVote s n m0 m1

/-- Whether a Newel looks at its phase inputs. -/
def Nwl.tracking (w : Nwl) : Prop := w.on = true ∧ w.mode = 0 ∧ w.state ≠ .seek

theorem tracking_iff : (w.on && w.mode = 0 && w.state != .seek) = true ↔ w.tracking := by
  simp [Nwl.tracking, and_assoc]

theorem phaseInputEdge_idle (h : ¬s.nwl[n].tracking) : execPhaseInputEdge n j e s = .next s := by
  unfold execPhaseInputEdge
  extract_lets w
  exact if_pos (by rw [Bool.eq_false_iff.mpr fun h' => h (tracking_iff.mp h')]; rfl)

theorem phaseInputEdge_runs (h : s.nwl[n].tracking) :
    execPhaseInputEdge n j e s = .next (phaseEdge s n (matches0 s n j e) (matches1 s n j e)) := by
  unfold execPhaseInputEdge
  extract_lets w
  rw [if_neg (by rw [tracking_iff.mpr h]; nofun)]
  rfl

theorem phaseEdge_open (h : s.nwl[n].state ≠ .sync) : phaseEdge s n m0 m1 = phaseVote s n m0 m1 := by
  have hs : (s.nwl[n].state == .sync) = false := by simpa using h
  exact if_neg (by rw [hs]; nofun)

/-! ### A cam edge that matches nothing, with the phase known (R128, R133) -/

/-- A sync error of kind 3 is noted, shown and raised. -/
def camMissed (s : State) (n : Fin 4) : State :=
  (nwlEvent (s.updNwl n (fun w => { w with errSince := true })) n 6).raise FS.NWL_CAMERR (w32 n.val)

theorem syncError_cam : syncError s n 3 = errorCounted (camMissed s n) n := rfl

theorem camMissed_nwl : (camMissed s n).nwl[n] = { s.nwl[n] with errSince := true } :=
  (congrArg (·[n]) (raise_nwl.trans nwlEvent_nwl)).trans updNwl_same

theorem camMissed_shown : (camMissed s n).bt (nwlOff n NWL.EVT) 6 = true ∧ Raised (camMissed s n) FS.NWL_CAMERR := by
  refine ⟨?_, raise_raised _ (by decide) _⟩
  rw [State.bt, camMissed, (raise_reports ..).rd _ nwlOff_not_raiseReg]
  exact nwlEvent_event (by decide)

theorem camMissed_setup : SameSetup n s (camMissed s n) := by
  have h : Tracks (shownReg n) n s (camMissed s n) :=
    .raise shownReg_of_raiseReg (.nwlEvent (fun _ => id) (by decide) (.updNwl .refl))
  exact h.setup (fun x hx h => setupOff_not_stepReg x hx (.inl h)) (by rw [camMissed_nwl]) (by rw [camMissed_nwl])

theorem phaseEdge_missed (hs : s.nwl[n].state = .sync) (hc : s.wasBt (nwlOff n NWL.CTRL) 6 = true) :
    (phaseEdge s n false false).bt (nwlOff n NWL.EVT) 6 = true ∧ Raised (phaseEdge s n false false) FS.NWL_CAMERR
    ∧ (phaseEdge s n false false).nwl[n].errcnt = min 15 (s.nwl[n].errcnt + 1)
    ∧ (phaseEdge s n false false).nwl[n].state = if errMax s n ≤ min 15 (s.nwl[n].errcnt + 1) then .lost else .sync := by
  have hcount : Tracks (errorReg n) n s (s.satFl (nwlOff n NWL.ERRS) 8 8) :=
    .satFl (.inr rfl) nwlOff_not_raiseReg (nwlOff_ne_evt (by decide)) .refl
  have hno (x : Nat) (hx : setupOff x) : ¬errorReg n (nwlOff n x) := by
    refine not_or_intro (fun h => setupOff_not_stepReg x hx (.inl h)) fun e => ?_
    have := nwlOff_inj.mp e
    simp only [setupOff, NWL.EVT, NWL.ERRS] at *
    omega
  have hset : SameSetup n s (s.satFl (nwlOff n NWL.ERRS) 8 8) := hcount.setup hno rfl rfl
  have he : phaseEdge s n false false = errorCounted (camMissed (s.satFl (nwlOff n NWL.ERRS) 8 8) n) n := by
    unfold phaseEdge
    rw [← syncError_cam, phaseVote_none, hset.wasBt (by decide), hc, hs]
    exact if_pos (by simp)
  obtain ⟨hevent, hraised⟩ := camMissed_shown (s := s.satFl (nwlOff n NWL.ERRS) 8 8) (n := n)
  obtain ⟨a, hw⟩ := errorCounted_nwl (s := camMissed (s.satFl (nwlOff n NWL.ERRS) 8 8) n) (n := n)
  have ht : Tracks (shownReg n) n _ (errorCounted (camMissed (s.satFl (nwlOff n NWL.ERRS) 8 8) n) n) := .errorCounted (fun _ => id) .refl
  rw [camMissed_nwl, (hset.trans camMissed_setup).errMax] at hw
  obtain ⟨herr, hstate⟩ := Nwl.counted_sync (w := { s.nwl[n] with errSince := true }) (lim := errMax s n) (a := a) hs
  rw [he]
  exact ⟨ht.events _ hevent, ht.raised _ (by decide) hraised, (congrArg Nwl.errcnt hw).trans herr, (congrArg Nwl.state hw).trans hstate⟩

/-! ### The stall guard (R131, R132, R138) -/

/-- A stall is counted. -/
def stallCounted (s : State) (n : Fin 4) : State := s.satFl (nwlOff n NWL.ERRS) 24 8

/-- What a stall does by the state of the Newel. -/
def stalled (s : State) (n : Fin 4) : State :=
  if s.nwl[n].mode = 2 then peerLost s n
  else match s.nwl[n].state with
    | .seek => nwlEvent (goto (s.updNwl n clearHist) n .seek) n 10
    | .lost => goto (s.updNwl n clearHist) n .lost
    | _ => goto s n .hold

theorem stallTimeout_idle (h : stallDue s n = false) : execStallTimeout n s = .next s := if_pos (by rw [h]; rfl)

theorem stallTimeout_runs (h : stallDue s n = true) : execStallTimeout n s = .next (stalled (stallCounted s n) n) := by
  have hrun : execStallTimeout n s = if (stallCounted s n).nwl[n].mode = 2 then .next (peerLost (stallCounted s n) n)
      else match (stallCounted s n).nwl[n].state with
        | .seek => .next (nwlEvent (goto ((stallCounted s n).updNwl n clearHist) n .seek) n 10)
        | .lost => .next (goto ((stallCounted s n).updNwl n clearHist) n .lost)
        | _ => .next (goto (stallCounted s n) n .hold) := if_neg (by rw [h]; nofun)
  rw [hrun, stalled]
  split
  · rfl
  · cases (stallCounted s n).nwl[n].state <;> rfl

theorem Tracks.peerLost (hp : ∀ o, shownReg n o → p o) (h : Tracks p n s t) : Tracks p n s (peerLost t n) :=
  .raiseLevel (fun o ho => hp o (shownReg_of_raiseReg o ho)) newelSource_peerLoss (.updNwl (.goto hp h))

theorem peerLost_nwl : (peerLost s n).nwl[n] = clearHist (s.nwl[n].goes .lost (angleNow s n)) := by
  unfold peerLost
  extract_lets s1
  have h1 : s1.nwl[n] = s.nwl[n].goes .lost (angleNow s n) := goto_nwl
  rw [← h1]
  exact (congrArg (·[n]) raiseLevel_nwl).trans updNwl_same

theorem peerLost_active : (peerLost s n).bt (fsrcStat (FS.NWL_PEERLOSS + n.val)) 17 = true :=
  raiseLevel_active (by simp only [FS.NWL_PEERLOSS]; omega) _

theorem stalled_tracks : Tracks (shownReg n) n s (stalled s n) := by
  unfold stalled
  split
  · exact .peerLost (fun _ => id) .refl
  · split
    · exact .nwlEvent (fun _ => id) (by decide) (.goto (fun _ => id) (.updNwl .refl))
    · exact .goto (fun _ => id) (.updNwl .refl)
    · exact goto_tracks

theorem stalled_lost (hm : s.nwl[n].mode = 2) : stalled s n = peerLost s n := if_pos hm

theorem stalled_hold (hm : s.nwl[n].mode ≠ 2) (hs : s.nwl[n].state ≠ .seek) (hl : s.nwl[n].state ≠ .lost) : stalled s n = goto s n .hold := by
  unfold stalled
  rw [if_neg hm]
  split
  · next h => exact absurd h hs
  · next h => exact absurd h hl
  · rfl

/-- Where the Newel has no index, its history goes. -/
theorem stalled_clears (hm : s.nwl[n].mode ≠ 2) (hs : s.nwl[n].state = .seek ∨ s.nwl[n].state = .lost) :
    (stalled s n).nwl[n].state = s.nwl[n].state ∧ (stalled s n).nwl[n].hist = [] := by
  unfold stalled
  rw [if_neg hm]
  rcases hs with hs | hs
  · rw [hs]
    dsimp only
    rw [nwlEvent_nwl, goto_nwl, updNwl_same]
    exact ⟨rfl, rfl⟩
  · rw [hs]
    dsimp only
    rw [goto_nwl, updNwl_same]
    exact ⟨rfl, rfl⟩

end

end Sys2Proof.Machine

/-! # Enable, disable, commands and reads of a Newel (O33) -/

namespace Sys2Proof.Machine

section
variable {s t u : State} {n : Fin 4} {j : Fin 2} {p : Nat → Prop} {o b k x : Nat} {v : Word} {a : Agent} {e : EdgeInfo} {w : Nwl}

/-! ### Enable and disable (R112, R116, R155) -/

/-- The check of a wheel description reads the set-up. -/
theorem SameSetup.descOk (h : SameSetup n s t) : descOk t n = descOk s n := by
  have hgap : Machine.gapEnd t n = Machine.gapEnd s n := funext fun _ => h.gapEnd
  have hgaps : gapsOf t n = gapsOf s n := by rw [gapsOf, h.nTeeth, hgap, gapsOf]
  have hpos : Machine.whlPos t n = Machine.whlPos s n := funext fun _ => h.whlPos
  have hbefore : teethBefore t n = teethBefore s n := by
    funext g
    simp only [teethBefore, h.nTeeth, hgaps]
  simp only [Machine.descOk, h.nTeeth, hgaps, hpos, hbefore]

theorem newelStop_rd (ho : ¬raiseReg o) : (newelStop s n).rd o = s.rd o := by
  unfold newelStop
  extract_lets s1 s2
  have hne : o ≠ fsrcStat (FS.NWL_LOST + n.val) := fun e => ho (e ▸ fsrcStat_raiseReg (by simp only [FS.NWL_LOST]; omega))
  have h1 : s1.rd o = s.rd o := by
    unfold s1
    rw [State.endLevel, State.setBt_rd, if_neg hne]
  exact h1

/-- A Newel that is enabled while its stop is under way stops first. -/
def stopFirst (s : State) (n : Fin 4) : State := if s.nwl[n].stop then newelStop s n else s

theorem stopFirst_rd (ho : ¬raiseReg o) : (stopFirst s n).rd o = s.rd o := by
  unfold stopFirst
  split
  · exact newelStop_rd ho
  · rfl

theorem stopFirst_descOk : descOk (stopFirst s n) n = descOk s n := by
  unfold stopFirst
  split
  · refine SameSetup.descOk ⟨fun x _ => newelStop_rd nwlOff_not_raiseReg, rfl, ?_, ?_⟩
    · rw [newelStop, updNwl_same]
      rfl
    · rw [newelStop, updNwl_same]
      rfl
  · rfl

/-- MODE as it is sampled. -/
def sampledMode (m : Nat) : Nat := match m with | 1 => 1 | 2 => 2 | _ => 0

theorem sampledMode_zero {m : Nat} : sampledMode m = 0 ↔ m ≠ 1 ∧ m ≠ 2 := by
  unfold sampledMode
  split
  · simp
  · simp
  · next h1 h2 => exact ⟨fun _ => ⟨h1, h2⟩, fun _ => rfl⟩

theorem sampledMode_eq {m : Nat} (h : m < 4) : sampledMode m = if m = 3 then 0 else m := by
  obtain rfl | rfl | rfl | rfl : m = 0 ∨ m = 1 ∨ m = 2 ∨ m = 3 := by omega
  all_goals rfl

/-- The level of the channel with number `k`. -/
def levelOf (s : State) (k : Nat) : Bool := if h : k < 96 then s.ch[(⟨k, h⟩ : Fin 96)].level else false

/-- A Newel of mode `mode` with CYC at `cyc` that starts in `s`. -/
def Nwl.starts (w : Nwl) (s : State) (inp : Word) (mode : Nat) (cyc : Bool) : Nwl :=
  { clearHist w with
    on := true, mode := mode, cyc360 := cyc, state := .seek, fast := false, phok := false, rev := false, dir := false,
    errcnt := if mode = 2 then 0 else w.errcnt, tooth := if mode = 2 then some s.eff else none, votes := 0, errSince := false, inbox := [],
    aLast := none, encA := levelOf s (fld inp 0 7), encB := levelOf s (fld inp 8 7), encT := none, encInt := 0, encSame := none,
    cmd := w.cmd &&& 8, seekGo := mode != 0, actAt := s.now, peerSeen := false, heldDone := false }

/-- Newel `n` as it starts in `s`, with EN read as 1. -/
def startOf (s : State) (n : Fin 4) (w : Nwl) : Nwl :=
  w.starts (s.setBt (nwlOff n NWL.CTRL) 0 true) (s.rd (nwlOff n NWL.INPUT)) (sampledMode (s.fl (nwlOff n NWL.CTRL) 1 2)) (s.bt (nwlOff n NWL.CTRL) 3)

/-- It starts. -/
def newelStarted (s : State) (n : Fin 4) : State := takeLimits ((s.setBt (nwlOff n NWL.CTRL) 0 true).updNwl n (startOf s n)) n

/-- It is refused. -/
def newelRefused (s : State) (n : Fin 4) : State := (nwlEvent s n 15).raise FS.NWL_DESC (w32 n.val)

theorem newelEnable_eq : newelEnable s n =
    if sampledMode (fld ((stopFirst s n).rd (nwlOff n NWL.CTRL)) 1 2) = 0 && !descOk (stopFirst s n) n then newelRefused (stopFirst s n) n
    else newelStarted (stopFirst s n) n := rfl

theorem newelEnable_starts (h : s.fl (nwlOff n NWL.CTRL) 1 2 = 1 ∨ s.fl (nwlOff n NWL.CTRL) 1 2 = 2 ∨ descOk s n = true) :
    newelEnable s n = newelStarted (stopFirst s n) n := by
  rw [newelEnable_eq, stopFirst_rd nwlOff_not_raiseReg, stopFirst_descOk]
  refine if_neg fun hc => ?_
  obtain ⟨hm, hd⟩ : sampledMode (fld (s.rd (nwlOff n NWL.CTRL)) 1 2) = 0 ∧ descOk s n = false := by simpa using hc
  obtain ⟨h1, h2⟩ := sampledMode_zero.mp hm
  rcases h with h | h | h
  · exact h1 h
  · exact h2 h
  · exact absurd (h.symm.trans hd) nofun

theorem newelEnable_refuses (h1 : s.fl (nwlOff n NWL.CTRL) 1 2 ≠ 1) (h2 : s.fl (nwlOff n NWL.CTRL) 1 2 ≠ 2) (hd : descOk s n = false) :
    newelEnable s n = newelRefused (stopFirst s n) n := by
  have hm : sampledMode (fld (s.rd (nwlOff n NWL.CTRL)) 1 2) = 0 := sampledMode_zero.mpr ⟨h1, h2⟩
  rw [newelEnable_eq, stopFirst_rd nwlOff_not_raiseReg, stopFirst_descOk]
  exact if_pos (by rw [hd]; simpa using hm)

theorem newelStarted_nwl : ∃ x y z, (newelStarted s n).nwl[n] = { startOf s n s.nwl[n] with holdAng := x, stallK := y, stallMax := z } := by
  obtain ⟨x, y, z, h⟩ := takeLimits_nwl (s := (s.setBt (nwlOff n NWL.CTRL) 0 true).updNwl n (startOf s n)) (n := n)
  rw [updNwl_same] at h
  exact ⟨x, y, z, h⟩

theorem newelStarted_enabled : (newelStarted s n).bt (nwlOff n NWL.CTRL) 0 = true := by
  have h : (s.setBt (nwlOff n NWL.CTRL) 0 true).bt (nwlOff n NWL.CTRL) 0 = true := by
    rw [State.bt, State.setBt_rd, if_pos rfl, bit_setBit _ _ _ _ (by decide), if_pos rfl]
  exact h

theorem newelRefused_shown : (newelRefused s n).bt (nwlOff n NWL.CTRL) 0 = s.bt (nwlOff n NWL.CTRL) 0
    ∧ (newelRefused s n).bt (nwlOff n NWL.EVT) 15 = true ∧ Raised (newelRefused s n) FS.NWL_DESC := by
  have h : Tracks (shownReg n) n s (newelRefused s n) := .raise shownReg_of_raiseReg (.nwlEvent (fun _ => id) (by decide) .refl)
  refine ⟨h.bt (nwlOff_not_shownReg (by decide) (by decide)), ?_, raise_raised _ (by decide) _⟩
  rw [State.bt, newelRefused, (raise_reports ..).rd _ nwlOff_not_raiseReg]
  exact nwlEvent_event (by decide)

/-- EN reads 0, and a cancel follows. -/
def disabled (s : State) (n : Fin 4) : State := cancelNext (s.setBt (nwlOff n NWL.CTRL) 0 false) n

theorem disabled_bt : (disabled s n).bt (nwlOff n NWL.CTRL) 0 = false := by
  have h : Tracks (shownReg n) n (s.setBt (nwlOff n NWL.CTRL) 0 false) (disabled s n) := .cancelNext .refl
  rw [h.bt (nwlOff_not_shownReg (by decide) (by decide)), State.bt, State.setBt_rd, if_pos rfl, bit_setBit _ _ _ _ (by decide), if_pos rfl]

theorem disabled_on : (disabled s n).nwl[n].on = s.nwl[n].on := by
  rw [disabled, cancelNext_nwl]
  rfl

theorem newelDisable_eq : newelDisable s n =
    if (disabled s n).nwl[n].on then (disabled s n).updNwl n (fun w => { w with stop := true, actAt := (disabled s n).now }) else disabled s n := rfl

theorem newelDisable_stops : (newelDisable s n).bt (nwlOff n NWL.CTRL) 0 = false ∧ (s.nwl[n].on = true → (newelDisable s n).nwl[n].stop = true)
    ∧ (newelDisable s n).hasDue (.cancel n) = true := by
  rw [newelDisable_eq, disabled_on]
  split
  · exact ⟨disabled_bt, fun _ => by rw [updNwl_same], cancelNext_due⟩
  · next h => exact ⟨disabled_bt, fun hon => absurd hon h, cancelNext_due⟩

/-! ### Commands and reads (R123, R143) -/

/-- A command of NWLn_CMD acts in the next tick. -/
theorem writeNwlCmd_eq (h : fld v 0 5 = k) (h8 : fld v 3 1 * 8 = k &&& 8) :
    writeNwlCmd s n v = s.updNwl n (fun w => { w with cmd := w.cmd ||| (if w.on then k else k &&& 8), actAt := s.now }) := by
  rw [writeNwlCmd, h, h8]

theorem keep_nwl {y : Word} : (s.keep a y).nwl = s.nwl := by
  cases a <;> rfl

theorem readToothT_keeps : (readToothT s a n).2.regs = s.regs ∧ (readToothT s a n).2.nwl = s.nwl := by
  unfold readToothT
  extract_lets lat
  exact ⟨by simp only [lat, State.setLat_regs], by simp only [lat, State.setLat_nwl]⟩

theorem readToothT_latches : (readToothT s a n).2.lat? a (nwlOff n NWL.TOOTHINFO) = s.rd (nwlOff n NWL.TOOTHINFO)
    ∧ (readToothT s a n).2.lat? a (nwlOff n NWL.PERIOD) = s.rd (nwlOff n NWL.PERIOD)
    ∧ (readToothT s a n).2.lat? a (nwlOff n NWL.PRED) = s.rd (nwlOff n NWL.PRED)
    ∧ (readToothT s a n).2.lat? a (nwlOff n NWL.RATIO) = s.rd (nwlOff n NWL.RATIO) := by
  unfold readToothT
  extract_lets lat
  simp [lat, State.rd]

end

/-- Settles O33: what an edge of a phase input does (`phaseEdge`), a stall (`stalled`), and a change of EN or a command. -/
theorem newelStates : Obligations.NewelStates := by
  intro s a n j e v w tracking ang other m0 m1 votes mode cmd stops
  have hvotes : w.votesFor m1 = votes := Nwl.votesFor_eq
  have hopen (ht : tracking) (hs : w.state ≠ .sync) : execPhaseInputEdge n j e s = .next (phaseVote s n m0 m1) := by
    rw [phaseInputEdge_runs ht]
    exact congrArg Host.Outcome.next (phaseEdge_open hs)
  refine ⟨fun h => ⟨s, phaseInputEdge_idle h, rfl⟩, fun ht hs h0 h1 => ?unmatched, fun ht hs h0 h1 => ?both,
    fun ht hs hm hp hf => ?votes, fun ht hs hc _ h0 h1 => ?missed, fun h => ⟨s, stallTimeout_idle h, rfl⟩, fun h => ?stalls,
    fun h => ⟨_, congrArg Host.Outcome.next (if_pos h), rfl⟩, ⟨_, rfl, newelDisable_stops⟩, fun h hok => ?starts, fun h h1 h2 hd => ?refuses,
    ⟨_, rfl, writeNwlCmd_eq rfl rfl⟩, ?phset, ⟨_, rfl, writeNwlCmd_eq rfl rfl⟩, ⟨_, rfl, writeNwlCmd_eq rfl rfl⟩, ?reads⟩
  case unmatched =>
    refine ⟨_, hopen ht hs, ?_, ?_⟩
    · rw [h0, h1]
      rfl
    · rw [h0, h1]
      exact satFl_fl (by decide)
  case both =>
    refine ⟨_, hopen ht hs, ?_⟩
    rw [h0, h1]
    rfl
  case votes =>
    have hvote := phaseVote_one hm hp hf
    rw [hvotes] at hvote
    refine ⟨fun hlt => ?_, fun hle hh => ?_, fun hle hh => ?_⟩
    · refine ⟨_, hopen ht hs, hvote.trans ?_⟩
      rw [if_neg (by simp [Nat.not_le_of_lt hlt]), voted, hvotes]
    · refine ⟨_, hopen ht hs, hvote.trans ?_⟩
      rw [if_neg (by rw [show s.nwl[n].state = .hold from hh]; simp), voted, hvotes]
    · have hh' : (s.nwl[n].state != .hold) = true := bne_iff_ne.mpr hh
      have hw : (voted s n s.nwl[n] m1).nwl[n] = { s.nwl[n] with votes := s.nwl[n].votesFor m1, voteRev := m1 } := updNwl_same
      rw [if_pos (by rw [hh']; simpa using hle)] at hvote
      obtain ⟨hphok, hrev, hevent⟩ := decidePhase_decides (s := voted s n s.nwl[n] m1) (n := n) (v := m1)
      refine ⟨_, (hopen ht hs).trans (congrArg Host.Outcome.next hvote), hphok, ?_, hevent, fun hc => decidePhase_confirms ?_ ?_⟩
      · rw [hrev, voted_setup.nwlC]
      · rw [hw]
        exact hc
      · rw [hw]
        exact ht.2.1
  case missed =>
    refine ⟨_, phaseInputEdge_runs ht, ?_⟩
    rw [show matches0 s n j e = false from h0, show matches1 s n j e = false from h1]
    exact phaseEdge_missed hs hc
  case stalls =>
    refine ⟨_, stallTimeout_runs h, ?_, fun hm => ?_, fun hm hs => ?_, fun hm hs => ?_⟩
    · rw [stalled_tracks.fl (nwlOff_not_shownReg (by decide) (by decide))]
      exact satFl_fl (by decide)
    · rw [stalled_lost (s := stallCounted s n) hm]
      exact ⟨by rw [peerLost_nwl]; rfl, peerLost_active⟩
    · have hne : (stallCounted s n).nwl[n].mode ≠ 2 := fun h2 => absurd (hm.symm.trans h2) (by decide)
      rw [stalled_hold hne (fun h0 => ?_) (fun h0 => ?_)]
      · obtain ⟨hevent, hraised⟩ := goto_hold_shown hne
        exact ⟨by rw [goto_nwl]; rfl, hevent, hraised⟩
      all_goals
        have h0 : w.state = _ := h0
        rw [h0] at hs
        simp at hs
    · exact stalled_clears (fun h2 => absurd (hm.symm.trans h2) (by decide)) hs
  case starts =>
    have hexec : execNewelEnable a n s = .next (newelStarted (stopFirst s n) n) := by
      refine congrArg Host.Outcome.next ((if_neg ?_).trans (newelEnable_starts hok))
      rw [h]
      nofun
    obtain ⟨x, y, z, hw⟩ := newelStarted_nwl (s := stopFirst s n) (n := n)
    have hmode : (newelStarted (stopFirst s n) n).nwl[n].mode = sampledMode mode := by
      rw [hw]
      exact congrArg sampledMode (congrArg (fld · 1 2) (stopFirst_rd nwlOff_not_raiseReg))
    have hcyc : (newelStarted (stopFirst s n) n).nwl[n].cyc360 = s.bt (nwlOff n NWL.CTRL) 3 := by
      rw [hw]
      exact congrArg (bit · 3) (stopFirst_rd nwlOff_not_raiseReg)
    refine ⟨_, hexec, newelStarted_enabled, ?_, ?_, hmode.trans (sampledMode_eq (fl_lt ..)), hcyc, ?_, ?_⟩
    all_goals
      rw [hw]
      rfl
  case refuses =>
    have hexec : execNewelEnable a n s = .next (newelRefused (stopFirst s n) n) := by
      refine congrArg Host.Outcome.next ((if_neg ?_).trans (newelEnable_refuses h1 h2 hd))
      rw [h]
      nofun
    obtain ⟨hctrl, hevent, hraised⟩ := newelRefused_shown (s := stopFirst s n) (n := n)
    refine ⟨_, hexec, ?_, hevent, hraised⟩
    rw [hctrl, State.bt, stopFirst_rd nwlOff_not_raiseReg]
    exact h
  case phset =>
    cases v
    · exact ⟨_, rfl, writeNwlCmd_eq rfl rfl⟩
    · exact ⟨_, rfl, writeNwlCmd_eq rfl rfl⟩
  case reads =>
    obtain ⟨hregs, hnwl⟩ := readToothT_keeps (s := s) (a := a) (n := n)
    obtain ⟨hinfo, hperiod, hpred, hratio⟩ := readToothT_latches (s := s) (a := a) (n := n)
    have hkept : a = .host → _ := (keep_kept (s := (readToothT s a n).2) (a := a) (w := (readToothT s a n).1)).1
    exact ⟨_, rfl, hkept, keep_regs.trans hregs, keep_nwl.trans hnwl, keep_lat.trans hinfo, keep_lat.trans hperiod, keep_lat.trans hpred,
      keep_lat.trans hratio⟩

end Sys2Proof.Machine

/-!
# Encoder edges, index edges and the passage of the cycle (O34)

The count step (R136), the errors of an encoder and its index edge (R137), and the passage of the angle through 0 (R146).
-/

namespace Sys2Proof.Machine

section
variable {s t u : State} {n : Fin 4} {p : Nat → Prop} {o b k x : Nat} {up : Bool} {e : EdgeInfo} {w : Nwl}

/-! ### Errors of an encoder (R128, R137) -/

/-- An error of an encoder is shown, counted and, for an illegal transition, raised. -/
def encErrorShown (s : State) (n : Fin 4) (b : Nat) : State :=
  let s := (nwlEvent s n b).satFl (nwlOff n NWL.ERRS) 16 8
  (if b = 12 then s.raise FS.NWL_ENCERR (w32 n.val) else s).updNwl n (fun w => { w with errSince := true })

theorem encError_eq : encError s n b = errorCounted (encErrorShown s n b) n := rfl

theorem encErrorShown_nwl : (encErrorShown s n b).nwl[n] = { s.nwl[n] with errSince := true } := by
  unfold encErrorShown
  extract_lets s1
  have h1 : s1.nwl = s.nwl := nwlEvent_nwl
  have h2 : (if b = 12 then s1.raise FS.NWL_ENCERR (w32 n.val) else s1).nwl = s.nwl := by
    split
    · exact raise_nwl.trans h1
    · exact h1
  refine updNwl_same.trans ?_
  rw [h2]

theorem encErrorShown_tracks (hb : b < 32) : Tracks (errorReg n) n s (encErrorShown s n b) := by
  unfold encErrorShown
  extract_lets s1
  have h1 : Tracks (errorReg n) n s s1 :=
    .satFl (.inr rfl) nwlOff_not_raiseReg (nwlOff_ne_evt (by decide)) (.nwlEvent (fun _ => .inl) hb .refl)
  exact .updNwl (.ite (.raise (fun o ho => .inl (shownReg_of_raiseReg o ho)) h1) h1)

theorem encErrorShown_shown (hb : b < 32) : (encErrorShown s n b).bt (nwlOff n NWL.EVT) b = true
    ∧ (encErrorShown s n b).fl (nwlOff n NWL.ERRS) 16 8 = min 255 (s.fl (nwlOff n NWL.ERRS) 16 8 + 1)
    ∧ (b = 12 → Raised (encErrorShown s n b) FS.NWL_ENCERR) := by
  unfold encErrorShown
  extract_lets s1
  have he : Tracks (shownReg n) n s (nwlEvent s n b) := .nwlEvent (fun _ => id) hb .refl
  have hcount : Tracks (errorReg n) n (nwlEvent s n b) s1 :=
    .satFl (.inr rfl) nwlOff_not_raiseReg (nwlOff_ne_evt (by decide)) .refl
  have h2 : Tracks (shownReg n) n s1 ((if b = 12 then s1.raise FS.NWL_ENCERR (w32 n.val) else s1).updNwl n (fun w => { w with errSince := true })) :=
    .updNwl (.ite (.raise shownReg_of_raiseReg .refl) .refl)
  refine ⟨h2.events _ (hcount.events _ (nwlEvent_event hb)), ?_, fun h => ?_⟩
  · rw [h2.fl (nwlOff_not_shownReg (by decide) (by decide)), ← he.fl (nwlOff_not_shownReg (by decide) (by decide))]
    exact satFl_fl (by decide)
  · rw [if_pos h]
    exact raise_raised _ (by decide) _

theorem encError_tracks (hb : b < 32) : Tracks (errorReg n) n s (encError s n b) := by
  rw [encError_eq]
  exact .errorCounted (fun _ => .inl) (encErrorShown_tracks hb)

/-- What an error of an encoder leaves (R128, R137). -/
structure EncError (n : Fin 4) (b : Nat) (s t : State) : Prop where
  event : t.bt (nwlOff n NWL.EVT) b = true
  errs : t.fl (nwlOff n NWL.ERRS) 16 8 = min 255 (s.fl (nwlOff n NWL.ERRS) 16 8 + 1)
  raised : b = 12 → Raised t FS.NWL_ENCERR
  count : t.fl (nwlOff n NWL.ENCPOS) 0 24 = s.fl (nwlOff n NWL.ENCPOS) 0 24
  same : t.nwl[n].encSame = s.nwl[n].encSame
  lastcls : t.nwl[n].lastcls = s.nwl[n].lastcls

theorem encError_spec (hb : b < 32) : EncError n b s (encError s n b) := by
  obtain ⟨hevent, herrs, hraised⟩ := encErrorShown_shown (s := s) (n := n) hb
  obtain ⟨a, hw⟩ := errorCounted_nwl (s := encErrorShown s n b) (n := n)
  have ht : Tracks (shownReg n) n (encErrorShown s n b) (errorCounted (encErrorShown s n b) n) := .errorCounted (fun _ => id) .refl
  have hcount : ¬errorReg n (nwlOff n NWL.ENCPOS) :=
    not_or_intro (nwlOff_not_shownReg (by decide) (by decide)) fun e => absurd (nwlOff_inj.mp e) (by decide)
  refine ⟨ht.events _ hevent, ?_, fun h => ht.raised _ (by decide) (hraised h), (encError_tracks hb).fl hcount, ?_, ?_⟩
  · rw [encError_eq, ht.fl (nwlOff_not_shownReg (by decide) (by decide)), herrs]
  · rw [encError_eq, hw, Nwl.counted_of (·.encSame) (fun _ _ => rfl) fun _ => rfl, encErrorShown_nwl]
  · rw [encError_eq, hw, Nwl.counted_of (·.lastcls) (fun _ _ => rfl) fun _ => rfl, encErrorShown_nwl]

/-! ### The count step (R136, R159, R160) -/

theorem encCpc_pos : 0 < encCpc s n := by
  rw [encCpc]
  omega
theorem encCpc_lt : encCpc s n < 2 ^ 24 := by
  have := fl_lt s (nwlOff n NWL.ENCCFG) 0 24
  rw [encCpc]
  omega

theorem mod_encCpc_lt : x % encCpc s n < 2 ^ 24 := (Nat.mod_lt _ encCpc_pos).trans encCpc_lt

/-- The count after a step. -/
def nextPos (s : State) (n : Fin 4) (up : Bool) : Nat :=
  if up then (s.fl (nwlOff n NWL.ENCPOS) 0 24 + 1) % encCpc s n
  else (s.fl (nwlOff n NWL.ENCPOS) 0 24 + encCpc s n - 1) % encCpc s n

theorem nextPos_lt : nextPos s n up < 2 ^ 24 := by
  unfold nextPos
  split
  · exact mod_encCpc_lt
  · exact mod_encCpc_lt

theorem encResume_tracks : Tracks (shownReg n) n s (encResume s n) := .ite (.updNwl goto_tracks) .refl

/-- A field of a Newel that neither a change of state nor its commands touch stays when a LOST ends. -/
theorem encResume_of {α : Type} (f : Nwl → α) (hg : ∀ w a, f (Nwl.goes w .seek a) = f w)
    (hc : ∀ (w : Nwl) y, f { w with seekGo := true, actAt := y } = f w) : f (encResume s n).nwl[n] = f s.nwl[n] := by
  unfold encResume
  split
  · rw [updNwl_same, hc, goto_nwl, hg]
  · rfl

/-- In `t` Newel `n` has made a step from the count `k` to `x` at time `o`. -/
structure Stepped (n : Fin 4) (up : Bool) (k x o : Nat) (t : State) : Prop where
  count : t.fl (nwlOff n NWL.ENCPOS) 0 24 = x
  dir : t.nwl[n].dir = !up
  old : t.nwl[n].encOld = k
  time : t.nwl[n].encT = some o

theorem Stepped.keep (h : Stepped n up k x o s) (hr : t.rd (nwlOff n NWL.ENCPOS) = s.rd (nwlOff n NWL.ENCPOS))
    (hd : t.nwl[n].dir = s.nwl[n].dir) (ho : t.nwl[n].encOld = s.nwl[n].encOld) (ht : t.nwl[n].encT = s.nwl[n].encT) : Stepped n up k x o t :=
  ⟨(congrArg (fld · 0 24) hr).trans h.count, hd.trans h.dir, ho.trans h.old, ht.trans h.time⟩

theorem Stepped.updNwl {f : Nwl → Nwl} (h : Stepped n up k x o s) (hd : (f s.nwl[n]).dir = s.nwl[n].dir)
    (ho : (f s.nwl[n]).encOld = s.nwl[n].encOld) (ht : (f s.nwl[n]).encT = s.nwl[n].encT) : Stepped n up k x o (s.updNwl n f) := by
  refine h.keep rfl ?_ ?_ ?_ <;> rw [updNwl_same]
  · exact hd
  · exact ho
  · exact ht

theorem Stepped.lifeSpeed {rpm : Nat} (h : Stepped n up k x o s) : Stepped n up k x o (lifeSpeed s n rpm) := by
  obtain ⟨y, hw⟩ := lifeSpeed_nwl (s := s) (n := n) (k := rpm)
  have ht : Tracks lifeReg n s (Machine.lifeSpeed s n rpm) := .lifeSpeed (fun _ => id) .refl
  exact h.keep (ht.rd _ fun h => lifeReg_ne_nwlOff h rfl) (by rw [hw]) (by rw [hw]) (by rw [hw])

theorem Stepped.openPass {d a aPrev : Nat} {entry : Bool} (h : Stepped n up k x o s) : Stepped n up k x o (openPass s n d a aPrev entry) := by
  have ht : Tracks (fun _ => False) n s (Machine.openPass s n d a aPrev entry) := .openPass .refl
  refine h.keep (ht.rd _ id) ?_ ?_ ?_ <;> rw [openPass_nwl] <;> rfl

theorem withdraw_rdNwl {j : Fin 512} {y : Nat} (hy : y < 0x400) : (withdraw s n j).rd (nwlOff n y) = s.rd (nwlOff n y) := by
  rw [withdraw_eq]
  split
  · rw [setSlotState_rd (evOff_ne_nwlOff hy).symm, entryGone_rd]
  · rfl

theorem Stepped.withdrawAll (h : Stepped n up k x o s) : Stepped n up k x o (withdrawAll s n) := by
  refine List.foldlRecOn (motive := Stepped n up k x o) _ _ h fun v hv j _ => ?_
  split
  · exact hv.keep (withdraw_rdNwl (by decide)) (by rw [withdraw_nwl]) (by rw [withdraw_nwl]) (by rw [withdraw_nwl])
  · exact hv

/-- A Newel after a step from the count `k` at time `o`. -/
def Nwl.steps (w : Nwl) (up : Bool) (k o d : Nat) : Nwl :=
  { w with dir := !up, encOld := k, encT := some o, encInt := if w.dir == !up then d else 0 }

theorem encStep_steps : Stepped n up (s.fl (nwlOff n NWL.ENCPOS) 0 24) (nextPos s n up) k (encStep s n up k) := by
  unfold encStep
  extract_lets off w cpc pos pos' a0 a1 aPrev d wraps s1 s2 s3 s4 s5 s6 s7 s8
  have h3 : Stepped n up pos pos' k s3 := by
    have hw : s3.nwl[n] = s2.nwl[n].steps up pos k d := updNwl_same
    refine ⟨?_, ?_, ?_, ?_⟩
    · have hc : s2.fl (nwlOff n NWL.ENCPOS) 0 24 = pos' := by
        rw [State.fl, State.setFl_rd, if_pos rfl, fld_setFld _ _ _ _ (by decide)]
        exact Nat.mod_eq_of_lt nextPos_lt
      exact hc
    all_goals rw [hw]; rfl
  have h4 : Stepped n up pos pos' k s4 := by
    unfold s4
    split
    · exact h3.updNwl rfl rfl rfl
    · exact h3
  have h5 : Stepped n up pos pos' k s5 := by
    unfold s5
    split
    · exact h4.lifeSpeed
    · exact h4
  split
  · split
    · have h7 : Stepped n up pos pos' k s7 := .openPass (h5.updNwl rfl rfl rfl)
      exact h7.keep rfl rfl rfl rfl
    · have h8 : Stepped n up pos pos' k s8 := h5.updNwl rfl rfl rfl
      split
      · exact h8
      · exact h8.withdrawAll
  · exact h4

end

end Sys2Proof.Machine

/-! # The edges of an encoder, case by case (O34) -/

namespace Sys2Proof.Machine

section
variable {s t u : State} {n : Fin 4} {o b k x y z : Nat} {up : Bool} {e : EdgeInfo} {w : Nwl}

/-! ### Edges of A and B (R135, R136) -/

/-- Whether an edge is one of A. -/
def isEdgeA (s : State) (n : Fin 4) (e : EdgeInfo) : Bool := s.fl (nwlOff n NWL.INPUT) 0 7 == e.ch.val

/-- Whether an edge of the other channel is due in this tick. -/
def edgeAhead (s : State) (n : Fin 4) (e : EdgeInfo) : Bool :=
  s.agenda.any (fun d => d.tick ≤ s.ticks && (match d.cmd with | .encoderEdge m x => m == n && x.ch != e.ch | _ => false))

/-- Whether an edge of the other channel with the same time is due. -/
def edgePartner (s : State) (n : Fin 4) (e : EdgeInfo) : Bool :=
  s.agenda.any (fun d => match d.cmd with | .encoderEdge m x => m == n && x.ch != e.ch && x.coarse == e.coarse | _ => false)

/-- The level of an edge is noted. -/
def edgeNoted (s : State) (n : Fin 4) (e : EdgeInfo) : State :=
  (takeLimits s n).updNwl n (fun w => if isEdgeA s n e then { w with encA := e.level } else { w with encB := e.level })

/-- The direction of its step. -/
def edgeUp (s : State) (n : Fin 4) (e : EdgeInfo) : Bool :=
  if isEdgeA s n e then e.level != s.nwl[n].encB else s.nwl[n].encA == e.level

theorem encoderEdge_idle (h : s.nwl[n].on = false ∨ s.nwl[n].mode ≠ 1) : execEncoderEdge n e s = .next s :=
  if_pos (by rcases h with h | h <;> simp [-Fin.getElem_fin, h])

theorem encoderEdge_waits (hon : s.nwl[n].on = true) (hm : s.nwl[n].mode = 1) (hA : isEdgeA s n e = false) (hf : edgeAhead s n e = true) :
    execEncoderEdge n e s = .next ((takeLimits s n).after 0 (.encoderEdge n e)) := by
  unfold execEncoderEdge
  extract_lets w s1 isA c first
  have hfirst : (!isA && first) = true := by
    rw [show isA = false from hA]
    exact hf
  rw [if_neg (by rw [show w.on = true from hon, show w.mode = 1 from hm]; simp)]
  exact if_pos hfirst

theorem edgeNoted_nwl : ∃ a b c, (edgeNoted s n e).nwl[n] =
    if isEdgeA s n e then { s.nwl[n] with holdAng := a, stallK := b, stallMax := c, encA := e.level }
    else { s.nwl[n] with holdAng := a, stallK := b, stallMax := c, encB := e.level } := by
  obtain ⟨a, b, c, h⟩ := takeLimits_nwl (s := s) (n := n)
  refine ⟨a, b, c, updNwl_same.trans ?_⟩
  rw [h]

theorem edgeNoted_up : (if isEdgeA s n e then (edgeNoted s n e).nwl[n].encA != (edgeNoted s n e).nwl[n].encB
    else (edgeNoted s n e).nwl[n].encA == (edgeNoted s n e).nwl[n].encB) = edgeUp s n e := by
  obtain ⟨a, b, c, h⟩ := edgeNoted_nwl (s := s) (n := n) (e := e)
  unfold edgeUp
  split
  · next hA =>
    rw [h, if_pos hA]
  · next hA =>
    rw [h, if_neg hA]

/-- An edge that does not wait is the second of an illegal pair, the first of a pair, the second of one with the first taken back, or a step. -/
theorem encoderEdge_runs (hon : s.nwl[n].on = true) (hm : s.nwl[n].mode = 1) (hw : (!isEdgeA s n e && edgeAhead s n e) = false) :
    execEncoderEdge n e s = .next (
      if s.nwl[n].encSame == some e.coarse.toNat then encError ((edgeNoted s n e).updNwl n (fun w => { w with encSame := none })) n 12
      else if edgePartner s n e then (edgeNoted s n e).updNwl n (fun w => { w with encSame := some e.coarse.toNat })
      else if s.nwl[n].encT.isSome && (s.nwl[n].encT.getD 0) / 32 == e.coarse.toNat then
        encError ((edgeNoted s n e).setFl (nwlOff n NWL.ENCPOS) 0 24 s.nwl[n].encOld) n 12
      else encStep (edgeNoted s n e) n (edgeUp s n e) (edgeTime e)) := by
  unfold execEncoderEdge
  extract_lets w s1 isA c first t s2 partner w2 up
  rw [if_neg (by rw [show w.on = true from hon, show w.mode = 1 from hm]; simp), if_neg (by rw [show (!isA && first) = false from hw]; nofun)]
  have hup : up = edgeUp s n e := edgeNoted_up (s := s) (n := n) (e := e)
  rw [hup]
  have hn (a b : Bool) (p q r v : State) : (if a then (.next p : Host.Outcome State Fault Refusal) else if partner then .next q
      else if b then .next r else .next v) = .next (if a then p else if partner then q else if b then r else v) := by
    simp only [apply_ite Host.Outcome.next]
  exact hn ..

/-! ### Edges of Z (R137) -/

/-- The count that a Z edge sets. -/
def zCount (s : State) (n : Fin 4) : Nat := s.fl (nwlOff n NWL.ZCFG) 0 24 % encCpc s n

/-- How far the count is from it. -/
def zOff (s : State) (n : Fin 4) : Nat :=
  min (fwd (encCpc s n) (zCount s n) (s.fl (nwlOff n NWL.ENCPOS) 0 24 % encCpc s n))
    (encCpc s n - fwd (encCpc s n) (zCount s n) (s.fl (nwlOff n NWL.ENCPOS) 0 24 % encCpc s n))

/-- A Z edge is the class of a tooth. -/
def zSeen (s : State) (n : Fin 4) : State := s.updNwl n (fun w => { w with lastcls := .normal })

/-- It sets the count. -/
def zSet (s : State) (n : Fin 4) (z y : Nat) (a : Nat) : State :=
  (s.setFl (nwlOff n NWL.ENCPOS) 0 24 z).updNwl n (fun w => { w with cycnum := y, aLast := some a, encInt := 0 })

/-- The count before was off by `x`. -/
def zChecked (s : State) (n : Fin 4) (x : Nat) : State :=
  if s.fl (nwlOff n NWL.ZCFG) 24 8 < x then encError s n 13 else s.updNwl n (fun w => { w with errcnt := 0, errSince := false })

/-- SEEK ends, or a LOST. -/
def zEnds (s : State) (n : Fin 4) (st : Sync) : State :=
  match st with
  | .seek => goto s n .sync
  | .lost => encResume s n
  | _ => s

theorem zEdge_idle (h : s.nwl[n].on = false ∨ s.nwl[n].mode ≠ 1 ∨ e.level = false) : execZEdge n e s = .next s :=
  if_pos (by rcases h with h | h | h <;> simp [-Fin.getElem_fin, h])

section
variable (hon : s.nwl[n].on = true) (hm : s.nwl[n].mode = 1) (hl : e.level = true)
include hon hm hl

theorem zEdge_plain (h : s.wasBt (nwlOff n NWL.CTRL) 7 = false) :
    execZEdge n e s = .next (toothRecord (encResume (zSeen s n) n) n (edgeTime e) .normal) := by
  unfold execZEdge
  extract_lets w t s1 o cpc z d off c a0 s2 a1 ahead cyc s3 s4 s5
  have h5 : s5 = encResume s1 n := if_neg (by rw [show s1.wasBt (nwlOff n NWL.CTRL) 7 = false from h]; nofun)
  rw [if_neg (by rw [show w.on = true from hon, show w.mode = 1 from hm, hl]; simp), h5]
  rfl

theorem zEdge_index (h : s.wasBt (nwlOff n NWL.CTRL) 7 = true) : ∃ y a, execZEdge n e s =
    .next (toothRecord (zEnds (zChecked (zSet (zSeen s n) n (zCount s n) y a) n (zOff s n)) n s.nwl[n].state) n (edgeTime e) .normal) := by
  unfold execZEdge
  extract_lets w t s1 o cpc z d off c a0 s2 a1 ahead cyc s3 s4 s5
  have h5 : s5 = zEnds s4 n w.state := if_pos h
  rw [if_neg (by rw [show w.on = true from hon, show w.mode = 1 from hm, hl]; simp), h5]
  exact ⟨_, _, rfl⟩
end

end

end Sys2Proof.Machine

/-! # The index edge and the passage of the cycle (O34) -/

namespace Sys2Proof.Machine

section
variable {s t u : State} {n : Fin 4} {o b k x y z : Nat} {up : Bool} {e : EdgeInfo} {w : Nwl} {st : Sync}

/-! ### What a Z edge leaves -/

theorem zEnds_tracks : Tracks (shownReg n) n s (zEnds s n st) := by
  unfold zEnds
  cases st
  case seek => exact goto_tracks
  case lost => exact encResume_tracks
  all_goals exact .refl

theorem zEnds_of {α : Type} (f : Nwl → α) (hg : ∀ w st a, f (Nwl.goes w st a) = f w)
    (hc : ∀ (w : Nwl) y, f { w with seekGo := true, actAt := y } = f w) : f (zEnds s n st).nwl[n] = f s.nwl[n] := by
  cases st
  case seek => exact (congrArg f goto_nwl).trans (hg _ _ _)
  case lost => exact encResume_of f (fun w a => hg w _ a) hc
  all_goals rfl

theorem zSet_count (h : z < 2 ^ 24) : (zSet s n z y k).fl (nwlOff n NWL.ENCPOS) 0 24 = z := by
  rw [zSet, State.updNwl_fl, State.fl, State.setFl_rd, if_pos rfl, fld_setFld _ _ _ _ (by decide)]
  exact Nat.mod_eq_of_lt h

theorem zSet_rd (h : o ≠ nwlOff n NWL.ENCPOS) : (zSet s n z y k).rd o = s.rd o := by
  rw [zSet, State.updNwl_rd, State.setFl_rd, if_neg h]

theorem zSet_lastcls : (zSet s n z y k).nwl[n].lastcls = s.nwl[n].lastcls := by
  rw [zSet, updNwl_same]
  rfl

theorem zChecked_keeps : (zChecked s n x).fl (nwlOff n NWL.ENCPOS) 0 24 = s.fl (nwlOff n NWL.ENCPOS) 0 24
    ∧ (zChecked s n x).nwl[n].lastcls = s.nwl[n].lastcls := by
  unfold zChecked
  split
  · have h : EncError n 13 s (encError s n 13) := encError_spec (by decide)
    exact ⟨h.count, h.lastcls⟩
  · exact ⟨rfl, by rw [updNwl_same]⟩

/-- The state after a Z edge that sets the count. -/
def zIndexed (s : State) (n : Fin 4) (y a : Nat) : State := zSet (zSeen s n) n (zCount s n) y a

/-- … once the edge has been checked and has ended SEEK or LOST. -/
def zTaken (s : State) (n : Fin 4) (y a : Nat) : State := zEnds (zChecked (zIndexed s n y a) n (zOff s n)) n s.nwl[n].state

theorem zTaken_count : (zTaken s n y k).fl (nwlOff n NWL.ENCPOS) 0 24 = zCount s n := by
  rw [zTaken, zEnds_tracks.fl (nwlOff_not_shownReg (by decide) (by decide)), zChecked_keeps.1]
  exact zSet_count mod_encCpc_lt

theorem zSeen_lastcls : (zSeen s n).nwl[n].lastcls = .normal := by
  rw [zSeen, updNwl_same]

theorem zTaken_lastcls : (zTaken s n y k).nwl[n].lastcls = .normal := by
  rw [zTaken, zEnds_of (·.lastcls) (fun _ _ _ => rfl) (fun _ _ => rfl), zChecked_keeps.2, zIndexed, zSet_lastcls, zSeen_lastcls]

theorem zTaken_seek (h : s.nwl[n].state = .seek) : (zTaken s n y k).nwl[n].state = .sync := by
  rw [zTaken, h]
  exact congrArg Nwl.state goto_nwl

theorem zIndexed_fl {lo len : Nat} (h : x ≠ NWL.ENCPOS) : (zIndexed s n y k).fl (nwlOff n x) lo len = s.fl (nwlOff n x) lo len :=
  congrArg (fld · lo len) ((zSet_rd fun e => h (nwlOff_inj.mp e)).trans rfl)

theorem zTaken_errs (h : s.fl (nwlOff n NWL.ZCFG) 24 8 < zOff s n) : (zTaken s n y k).bt (nwlOff n NWL.EVT) 13 = true
    ∧ (zTaken s n y k).fl (nwlOff n NWL.ERRS) 16 8 = min 255 (s.fl (nwlOff n NWL.ERRS) 16 8 + 1) := by
  have hc : zChecked (zIndexed s n y k) n (zOff s n) = encError (zIndexed s n y k) n 13 := if_pos (by rwa [zIndexed_fl (by decide)])
  have he : EncError n 13 (zIndexed s n y k) (encError (zIndexed s n y k) n 13) := encError_spec (by decide)
  rw [zTaken, hc]
  refine ⟨zEnds_tracks.events _ he.event, ?_⟩
  rw [zEnds_tracks.fl (nwlOff_not_shownReg (by decide) (by decide)), he.errs, zIndexed_fl (by decide)]

theorem zTaken_agrees (h : zOff s n ≤ s.fl (nwlOff n NWL.ZCFG) 24 8) : (zTaken s n y k).nwl[n].errcnt = 0 := by
  have hc : zChecked (zIndexed s n y k) n (zOff s n) = (zIndexed s n y k).updNwl n (fun w => { w with errcnt := 0, errSince := false }) :=
    if_neg (by rw [zIndexed_fl (by decide)]; omega)
  rw [zTaken, zEnds_of (·.errcnt) (fun _ _ _ => rfl) (fun _ _ => rfl), hc, updNwl_same]

theorem toothRecord_fl {cls : Cls} {lo len : Nat} : (toothRecord s n k cls).fl o lo len = s.fl o lo len := by
  rw [State.fl, toothRecord_dates.rd, State.fl]
theorem toothRecord_bt {cls : Cls} {i : Nat} : (toothRecord s n k cls).bt o i = s.bt o i := by
  rw [State.bt, toothRecord_dates.rd, State.bt]

/-! ### The passage of the angle (R146) -/

theorem updNwl_updNwl {f g : Nwl → Nwl} : (s.updNwl n f).updNwl n g = s.updNwl n (fun w => g (f w)) := by
  simp only [State.updNwl, Vector.set_set, Vector.getElem_set_self, Fin.getElem_fin]

theorem cyclePass_valid {v : Bool} (h : cyclePass s n = some v) : (s.nwl[n].on && s.nwl[n].state.valid) = true := by
  unfold cyclePass at h
  extract_lets w at h
  split at h
  · split at h
    · nomatch h
    · next hv => simpa [w, -Fin.getElem_fin] using hv
  · nomatch h

/-- CYCNUM after a passage. -/
def Nwl.passes (w : Nwl) (v : Bool) : Nwl := { w with cycnum := if v then (w.cycnum + 1) % 256 else (w.cycnum + 255) % 256 }

theorem passCycle_eq {v : Bool} (h : cyclePass s n = some v) : passCycle s n = s.updNwl n (fun x =>
    { x with cycnum := (if v then x.cycnum + 1 else x.cycnum + 255) % 256, aLast := some (angleNow s n) }) := by
  have hp : passCycle s n = takeAngle (s.updNwl n (fun w => w.passes v)) n := by
    unfold passCycle
    rw [h]
    rfl
  rw [hp, takeAngle, updNwl_updNwl, angleNow_aside (f := fun w => w.passes v) rfl]
  have hv := cyclePass_valid h
  simp only [State.updNwl]
  congr 2
  rw [show ((s.nwl[n].passes v).on && (s.nwl[n].passes v).state.valid) = true from hv, if_pos rfl]
  cases v <;> rfl

end

/-- Settles O34: what an edge of A or B does (`encoderEdge_runs`), a Z edge (`zTaken`), and a passage of the angle (`passCycle_eq`). -/
theorem encoderAndCycles : Obligations.EncoderAndCycles := by
  intro s n e w pos cpc isA up partner first waits z off
  have hA : isEdgeA s n e = isA := beq_eq_decide ..
  have hplain (hw : ¬waits) : (!isEdgeA s n e && edgeAhead s n e) = false := by
    rw [hA, Bool.eq_false_iff]
    intro h
    rw [Bool.and_eq_true, Bool.not_eq_true'] at h
    exact hw h
  refine ⟨fun h => ⟨s, encoderEdge_idle h, rfl⟩, fun hon hm hw => ?waits, fun hon hm hw hs hp ht => ?steps, fun hon hm hw hs => ?illegal,
    fun h => ⟨s, zEdge_idle h, rfl⟩, fun hon hm hl => ?index, fun v h => ?passes, fun h => ⟨s, congrArg Host.Outcome.next (if_neg ?_), rfl⟩⟩
  case waits =>
    obtain ⟨hisA, hfirst⟩ := hw
    exact ⟨_, encoderEdge_waits hon hm (hA.trans hisA) hfirst, rfl, due_now⟩
  case steps =>
    have hup : edgeUp s n e = up := by
      rw [edgeUp, hA]
    have hrun := encoderEdge_runs (e := e) hon hm (hplain hw)
    have hstep := encStep_steps (s := edgeNoted s n e) (n := n) (up := up) (k := edgeTime e)
    have hpartner : edgePartner s n e = false := hp
    have hlast : (s.nwl[n].encT.isSome && (s.nwl[n].encT.getD 0) / 32 == e.coarse.toNat) = false := by
      cases h : s.nwl[n].encT with
      | none => rfl
      | some t0 => exact beq_false_of_ne (ht t0 h)
    rw [if_neg (mt beq_iff_eq.mp hs), if_neg (Bool.eq_false_iff.mp hpartner), if_neg (Bool.eq_false_iff.mp hlast), hup] at hrun
    exact ⟨_, hrun, hstep.count, hstep.dir, hstep.old, hstep.time⟩
  case illegal =>
    have hrun := encoderEdge_runs (e := e) hon hm (hplain hw)
    rw [if_pos (by rw [show s.nwl[n].encSame = _ from hs]; exact beq_self_eq_true _)] at hrun
    have he := encError_spec (s := (edgeNoted s n e).updNwl n (fun w => { w with encSame := none })) (n := n) (b := 12) (by decide)
    refine ⟨_, hrun, ?_, he.count, he.event, he.raised rfl, he.errs⟩
    rw [he.same, updNwl_same]
  case index =>
    by_cases h7 : s.wasBt (nwlOff n NWL.CTRL) 7 = true
    · obtain ⟨y, a, hrun⟩ := zEdge_index hon hm hl h7
      have hrun : execZEdge n e s = .next (toothRecord (zTaken s n y a) n (edgeTime e) .normal) := hrun
      refine ⟨_, hrun, ?_, fun h => absurd (h7.symm.trans h) nofun, fun _ => ⟨?_, fun hs => ?_, fun hlt => ?_, fun hle => ?_⟩⟩
      · rw [toothRecord_nwl, zTaken_lastcls]
      · rw [toothRecord_fl, zTaken_count]
        rfl
      · rw [toothRecord_nwl, zTaken_seek hs]
      · rw [toothRecord_fl, toothRecord_bt]
        exact zTaken_errs hlt
      · rw [toothRecord_nwl]
        exact zTaken_agrees hle
    · have h7 : s.wasBt (nwlOff n NWL.CTRL) 7 = false := Bool.eq_false_iff.mpr h7
      refine ⟨_, zEdge_plain hon hm hl h7, ?_, fun _ => ?_, fun h => absurd (h7.symm.trans h) nofun⟩
      · rw [toothRecord_nwl, encResume_of (·.lastcls) (fun _ _ => rfl) (fun _ _ => rfl), zSeen_lastcls]
      · rw [toothRecord_fl, encResume_tracks.fl (nwlOff_not_shownReg (by decide) (by decide))]
        rfl
  case passes =>
    refine ⟨_, congrArg Host.Outcome.next (if_pos ?_), passCycle_eq h⟩
    rw [h]
    rfl
  rw [h]
  nofun

end Sys2Proof.Machine

/-!
# The peer ring and its frames (O54)

How the ring comes up and goes down (R413, R419), and what each kind of frame does (R414 to R418).
-/

namespace Sys2Proof.Machine

section
variable {s t u : State} {n : Fin 4} {p p' : Nat → Prop} {o k x : Nat} {v : Word}

/-! ### Work that leaves the ring's own state -/

/-- From `s` to `t` registers that `p` holds of may have changed; the ring, the levels that tell of no Newel, and the ticks are as before,
and no frame of the primary's time has become due. -/
structure RingKept (p : Nat → Prop) (s t : State) : Prop where
  rd : ∀ o, ¬p o → t.rd o = s.rd o
  levels : ∀ j, j < 256 → ¬newelSource j → t.bt (fsrcStat j) 17 = s.bt (fsrcStat j) 17
  peer : t.peer = s.peer
  ticks : t.ticks = s.ticks
  quiet : Quiet s → Quiet t

theorem RingKept.refl : RingKept p s s := ⟨fun _ _ => rfl, fun _ _ _ => rfl, rfl, rfl, id⟩

theorem RingKept.trans (h : RingKept p s t) (g : RingKept p t u) : RingKept p s u :=
  ⟨fun o ho => (g.rd o ho).trans (h.rd o ho), fun j hj hl => (g.levels j hj hl).trans (h.levels j hj hl), g.peer.trans h.peer,
    g.ticks.trans h.ticks, g.quiet ∘ h.quiet⟩

theorem RingKept.mono (h : RingKept p s t) (hp : ∀ o, p o → p' o) : RingKept p' s t :=
  ⟨fun o ho => h.rd o fun h' => ho (hp o h'), h.levels, h.peer, h.ticks, h.quiet⟩

theorem RingKept.ite {c : Prop} [Decidable c] (ht : RingKept p s t) (hu : RingKept p s u) : RingKept p s (if c then t else u) := by
  split
  · exact ht
  · exact hu

theorem RingKept.foldl {α : Type} {f : State → α → State} (hf : ∀ v x, RingKept p v (f v x)) (l : List α) : RingKept p s (l.foldl f s) :=
  List.foldlRecOn l f .refl fun _ hv x _ => hv.trans (hf _ x)

/-- The work of a Newel is such. -/
theorem Tracks.ring (h : Tracks p n s t) : RingKept p s t := ⟨h.rd, h.levels, h.peer, h.ticks, h.quiet⟩

/-- What changes no register, and dates nothing. -/
theorem RingKept.same (hr : t.regs = s.regs) (hp : t.peer = s.peer) (hk : t.ticks = s.ticks) (ha : ∀ d ∈ t.agenda, d ∈ s.agenda)
    (h : RingKept p u s) : RingKept p u t := by
  have hrd (o : Nat) : t.rd o = s.rd o := by rw [State.rd, hr, State.rd]
  refine h.trans ⟨fun o _ => hrd o, fun j _ _ => ?_, hp, hk, fun hq d hd => hq d (ha d hd)⟩
  rw [State.bt, hrd, State.bt]

theorem RingKept.upd {f : Word → Word} (ho : p o) (hr : ¬raiseReg o) (h : RingKept p s t) : RingKept p s (t.upd o f) := by
  have hrd (x : Nat) (hx : x ≠ o) : (t.upd o f).rd x = t.rd x := by rw [State.upd_rd, if_neg hx]
  refine h.trans ⟨fun x hx => hrd x fun e => hx (e ▸ ho), fun j hj _ => ?_, rfl, rfl, id⟩
  rw [State.bt, hrd _ fun e => hr (e ▸ fsrcStat_raiseReg hj), State.bt]

theorem RingKept.setFl {lo len y : Nat} (ho : p o) (hr : ¬raiseReg o) (h : RingKept p s t) : RingKept p s (t.setFl o lo len y) := .upd ho hr h

theorem RingKept.setEv {i : Nat} (ho : p o) (hr : ¬raiseReg o) (h : RingKept p s t) : RingKept p s (t.setEv o i) := by
  obtain ⟨hrd, hlevels, hpeer, hticks, hquiet⟩ := RingKept.upd (f := fun w => setBit w i true) ho hr h
  exact ⟨hrd, hlevels, hpeer, hticks, hquiet⟩

theorem RingKept.raise (hp : ∀ o, raiseReg o → p o) (h : RingKept p s t) : RingKept p s (t.raise k v) := by
  have hr := raise_reports t k v
  exact h.trans ⟨fun o ho => hr.rd o fun h' => ho (hp o h'), fun j hj _ => (raise_keepsLevels t k v).level j hj, (congrArg State.peer hr.rest :),
    hr.ticks, .raise⟩

/-! ### Rounds that fail (R320, R419) -/

theorem txnOff_not_raiseReg {y : Fin 8} {z : Nat} : ¬raiseReg (txnOff y z) := by
  simp only [raiseReg, recordReg, txnOff]
  omega

theorem endDesc_kept {r : Fin 64} {st : Nat} {w : Word} : RingKept p s (endDesc s r st w) := by
  unfold endDesc
  split
  · exact .same (s := s) rfl rfl rfl (fun _ => id) .refl
  · exact .refl

theorem endDesc_nwl {r : Fin 64} {st : Nat} {w : Word} : (endDesc s r st w).nwl = s.nwl := by
  unfold endDesc
  split <;> rfl

theorem endCommit_kept {y : Fin 8} {st : Nat} {w : Word} : RingKept p s (endCommit s y st w) := by
  unfold endCommit
  extract_lets s'
  have h : RingKept p s s' := .same (s := s) rfl rfl rfl (fun _ => id) .refl
  split
  · exact h.trans endDesc_kept
  · exact h

theorem endCommit_nwl {y : Fin 8} {st : Nat} {w : Word} : (endCommit s y st w).nwl = s.nwl := by
  unfold endCommit
  split
  · exact endDesc_nwl
  · rfl

theorem failCommit_kept {y : Fin 8} : RingKept failReg s (failCommit s y) := by
  unfold failCommit txnFailed
  extract_lets s1 s2
  have hstat : failReg (txnOff y TXN.STAT) := txnOff_failReg (by decide)
  have h1 : RingKept failReg s s1 := .same (s := s.setFl (txnOff y TXN.STAT) 0 2 1) rfl rfl rfl (fun _ => List.mem_of_mem_filter)
    (.setFl hstat txnOff_not_raiseReg .refl)
  have h2 : RingKept failReg s s2 := .setEv (.inr (by decide)) (by simp only [raiseReg, recordReg, R.TXN_EVT]; omega) h1
  exact .ite (.trans (.raise (fun _ => .inl) (.setFl hstat txnOff_not_raiseReg h2)) endCommit_kept) .refl

theorem failCommit_nwl {y : Fin 8} : (failCommit s y).nwl = s.nwl := by
  unfold failCommit txnFailed
  split
  · exact endCommit_nwl.trans raise_nwl
  · rfl

theorem failCommits_kept : RingKept failReg s (failCommits s k x) :=
  .foldl (fun _ _ => .ite failCommit_kept .refl) _

theorem failCommits_nwl : (failCommits s k x).nwl = s.nwl := by
  refine List.foldlRecOn (motive := fun v : State => v.nwl = s.nwl) _ _ rfl fun v hv y _ => ?_
  dsimp only
  split
  · exact failCommit_nwl.trans hv
  · exact hv

theorem snapStat_failReg : failReg R.SNAP_STAT := .inr (by decide)
theorem snapStat_not_raiseReg : ¬raiseReg R.SNAP_STAT := by
  simp only [raiseReg, recordReg, R.SNAP_STAT]
  omega

theorem snapFails_kept : RingKept failReg s (snapFails s) :=
  .setEv snapStat_failReg snapStat_not_raiseReg
    (.foldl (fun _ _ => .ite .refl (.setEv snapStat_failReg snapStat_not_raiseReg .refl)) _)

theorem snapFails_nwl : (snapFails s).nwl = s.nwl := by
  refine List.foldlRecOn (motive := fun v : State => v.nwl = s.nwl) _ _ rfl fun v hv y _ => ?_
  split
  · exact hv
  · exact hv

/-! ### The ring goes down (R419) -/

/-- The ring reads down. -/
def ringMuted (s : State) : State :=
  (((s.upd R.PEER_STAT (fun w => w &&& ~~~ 0x30)).setBt R.TB_SLEW 3 false).raiseLevel FS.PEER_LINK).endLevel FS.PEER_ALIGN

/-- The supervisor is told of a ring that was up. -/
def ringTold (s : State) : State := if ringUp s then (ringMuted s).setEv R.SUP_ISR 3 else ringMuted s

/-- The rounds that this device opened fail. -/
def roundsFailed (s : State) : State :=
  let s := failCommits s 4 0
  if s.peer.opened.any (fun x => x.2.isNone) then snapFails s else s

/-- A ring that is down holds nothing of its own rounds. -/
def Peer.emptied (p : Peer) (dev : Fin 4) : Peer :=
  { p with opened := [], held := [], duties := p.duties.filter (fun d => d.dev != dev), sentAt := none }

/-- They are gone, and no stamp is due. -/
def ringEmptied (s : State) : State := (s.updPeer (fun p => p.emptied (ownHead s).dev)).dropDue (· == .timeFrameSend)

/-- The peer followers are lost. -/
def followerLost (s : State) (n : Fin 4) : State :=
  if s.nwl[n].on && s.nwl[n].mode == 2 && s.nwl[n].state != .lost then peerLost s n else s

/-- The ring is down but for the followers. -/
def ringEnded (s : State) : State := ringEmptied (roundsFailed (ringTold s))

theorem ringDown_eq : ringDown s = (List.finRange 4).foldl followerLost (ringEnded s) := by
  unfold ringDown ringEnded ringEmptied roundsFailed ringTold ringMuted
  rfl

theorem followerLost_tracks : Tracks (shownReg n) n s (followerLost s n) := .ite (.peerLost (fun _ => id) .refl) .refl

/-- A Newel is the same follower as before, or none. -/
structure SameFollower (w w' : Nwl) : Prop where
  on : w'.on = w.on
  mode : w'.mode = w.mode
  lost : w.state = .lost → w'.state = .lost

theorem followerLost_same {m : Fin 4} : SameFollower s.nwl[n] (followerLost s m).nwl[n] := by
  by_cases hn : n = m
  · subst hn
    unfold followerLost
    split
    · rw [peerLost_nwl]
      exact ⟨rfl, rfl, fun _ => rfl⟩
    · exact ⟨rfl, rfl, id⟩
  · rw [followerLost_tracks.others n hn]
    exact ⟨rfl, rfl, id⟩

theorem SameFollower.trans {w w' w'' : Nwl} (h : SameFollower w w') (g : SameFollower w' w'') : SameFollower w w'' :=
  ⟨g.on.trans h.on, g.mode.trans h.mode, g.lost ∘ h.lost⟩

theorem followersLost_same {l : List (Fin 4)} : SameFollower s.nwl[n] (l.foldl followerLost s).nwl[n] :=
  List.foldlRecOn (motive := fun v : State => SameFollower s.nwl[n] v.nwl[n]) l _ ⟨rfl, rfl, id⟩ fun _ hv _ _ => hv.trans followerLost_same

theorem followerLost_lost (hon : s.nwl[n].on = true) (hm : s.nwl[n].mode = 2) : (followerLost s n).nwl[n].state = .lost := by
  unfold followerLost
  by_cases hs : s.nwl[n].state = .lost
  · rw [if_neg (by rw [hs]; simp)]
    exact hs
  · rw [if_pos (by rw [hon, hm]; simpa using hs), peerLost_nwl]
    rfl

/-- Every running follower is lost. -/
theorem followersLost_lost (hon : s.nwl[n].on = true) (hm : s.nwl[n].mode = 2) :
    ((List.finRange 4).foldl followerLost s).nwl[n].state = .lost := by
  obtain ⟨l1, l2, hl⟩ := List.append_of_mem (List.mem_finRange n)
  rw [hl, List.foldl_append, List.foldl_cons]
  have h1 : SameFollower s.nwl[n] (l1.foldl followerLost s).nwl[n] := followersLost_same
  exact followersLost_same.lost (followerLost_lost (h1.on.trans hon) (h1.mode.trans hm))

/-- The registers of Newels and slots. -/
def followReg (o : Nat) : Prop := ∃ n, shownReg n o

theorem followersLost_kept : RingKept followReg s ((List.finRange 4).foldl followerLost s) :=
  .foldl (fun _ n => followerLost_tracks.ring.mono fun _ h => ⟨n, h⟩) _

end

end Sys2Proof.Machine

/-! # The ring goes down (R419), for O54 -/

namespace Sys2Proof.Machine

section
variable {s t u : State} {n : Fin 4} {p p' : Nat → Prop} {o k x : Nat} {v : Word}

/-- The word of PEER_STAT of a ring that is down. -/
theorem mutedStat (w : Word) : bit (w &&& ~~~ 0x30) 4 = false ∧ bit (w &&& ~~~ 0x30) 5 = false
    ∧ fld (w &&& ~~~ 0x30) 0 2 = fld w 0 2 := by
  refine ⟨by simp [bit], by simp [bit], Nat.eq_of_testBit_eq fun i => ?_⟩
  rw [testBit_fld, testBit_fld]
  rcases i with _ | _ | i
  · simp
  · simp
  · rfl

/-- The ring's own registers, before the reports. -/
def statMuted (s : State) : State := (s.upd R.PEER_STAT (fun w => w &&& ~~~ 0x30)).setBt R.TB_SLEW 3 false

theorem ringMuted_reports : Reports raiseReg (statMuted s) (ringMuted s) :=
  (raiseLevel_reports (by decide) _).trans (.setBt (fsrcStat_raiseReg (by decide)))

theorem peerStat_not_raiseReg : ¬raiseReg R.PEER_STAT := by
  simp only [raiseReg, recordReg, R.PEER_STAT]
  omega
theorem tbSlew_not_raiseReg : ¬raiseReg R.TB_SLEW := by
  simp only [raiseReg, recordReg, R.TB_SLEW]
  omega

theorem ringMuted_stat : (ringMuted s).rd R.PEER_STAT = s.rd R.PEER_STAT &&& ~~~ 0x30 := by
  rw [ringMuted_reports.rd _ peerStat_not_raiseReg, statMuted, State.setBt_rd, if_neg (by decide), State.upd_rd, if_pos rfl]

theorem ringMuted_slew : (ringMuted s).bt R.TB_SLEW 3 = false := by
  rw [State.bt, ringMuted_reports.rd _ tbSlew_not_raiseReg, statMuted, State.setBt_rd, if_pos rfl, bit_setBit _ _ _ _ (by decide), if_pos rfl]

theorem ringMuted_rd (hr : ¬raiseReg o) (hs : o ≠ R.PEER_STAT) (ht : o ≠ R.TB_SLEW) : (ringMuted s).rd o = s.rd o := by
  rw [ringMuted_reports.rd _ hr, statMuted, State.setBt_rd, if_neg ht, State.upd_rd, if_neg hs]

theorem ringMuted_link : (ringMuted s).bt (fsrcStat FS.PEER_LINK) 17 = true := by
  rw [ringMuted, State.bt, State.endLevel, State.setBt_rd, if_neg (by decide)]
  exact raiseLevel_active (by decide) _

/-- A ring that reads down, before its rounds fail. -/
structure RingTold (s t : State) : Prop where
  stat : t.rd R.PEER_STAT = s.rd R.PEER_STAT &&& ~~~ 0x30
  slew : t.bt R.TB_SLEW 3 = false
  link : t.bt (fsrcStat FS.PEER_LINK) 17 = true
  rd : ∀ o, ¬raiseReg o → o ≠ R.PEER_STAT → o ≠ R.TB_SLEW → o ≠ R.SUP_ISR → t.rd o = s.rd o
  peer : t.peer = s.peer
  nwl : t.nwl = s.nwl
  ticks : t.ticks = s.ticks

/-- The interrupt of the supervisor leaves all this. -/
theorem RingTold.setEv (h : RingTold s t) : RingTold s (t.setEv R.SUP_ISR 3) := by
  have hrd (o : Nat) (h : o ≠ R.SUP_ISR) : (t.setEv R.SUP_ISR 3).rd o = t.rd o := by rw [State.setEv_rd, if_neg h]
  exact ⟨(hrd _ (by decide)).trans h.stat, (congrArg (bit · 3) (hrd _ (by decide))).trans h.slew,
    (congrArg (bit · 17) (hrd _ (by decide))).trans h.link, fun o hr hs ht hi => (hrd o hi).trans (h.rd o hr hs ht hi), h.peer,
    h.nwl, h.ticks⟩

theorem ringMuted_told : RingTold s (ringMuted s) :=
  ⟨ringMuted_stat, ringMuted_slew, ringMuted_link, fun _ hr hs ht _ => ringMuted_rd hr hs ht,
    (congrArg State.peer ringMuted_reports.rest :), ringMuted_reports.nwl, ringMuted_reports.ticks⟩

theorem ringTold_told : RingTold s (ringTold s) := by
  unfold ringTold
  split
  · exact ringMuted_told.setEv
  · exact ringMuted_told

theorem ringTold_isr (h : ringUp s = true) : (ringTold s).bt R.SUP_ISR 3 = true := by
  rw [ringTold, if_pos h, State.bt, State.setEv_rd, if_pos rfl, bit_setBit _ _ _ _ (by decide), if_pos rfl]

theorem roundsFailed_kept : RingKept failReg s (roundsFailed s) := by
  unfold roundsFailed
  extract_lets s1
  have h1 : RingKept failReg s s1 := failCommits_kept
  split
  · exact h1.trans snapFails_kept
  · exact h1

theorem roundsFailed_nwl : (roundsFailed s).nwl = s.nwl := by
  unfold roundsFailed
  extract_lets s1
  split
  · exact snapFails_nwl.trans failCommits_nwl
  · exact failCommits_nwl

theorem ringEmptied_nwl : (ringEmptied s).nwl = s.nwl := rfl
theorem ringEmptied_rd : (ringEmptied s).rd o = s.rd o := rfl
theorem ringEmptied_ticks : (ringEmptied s).ticks = s.ticks := rfl
theorem ringEmptied_peer : (ringEmptied s).peer = s.peer.emptied (ownHead s).dev := rfl
theorem ringEmptied_bt {i : Nat} : (ringEmptied s).bt o i = s.bt o i := rfl

theorem ringEmptied_quiet : Quiet (ringEmptied s) := fun d hd h => by
  have := (List.mem_filter.mp hd).2
  simp [h] at this

/-- The registers that the end of the rounds, and the loss of the followers, may write. -/
def endReg (o : Nat) : Prop := failReg o ∨ followReg o

theorem not_endReg (h : 0xD000 ≤ o) (h' : o < 0xE000) : ¬endReg o := by
  rintro ((h0 | h0) | ⟨n, h0 | h0 | h0⟩)
  · simp only [raiseReg, recordReg] at h0
    omega
  · omega
  · simp only [nwlOff, NWL.EVT] at h0
    omega
  · omega
  · simp only [raiseReg, recordReg] at h0
    omega

theorem tbSlew_not_endReg : ¬endReg R.TB_SLEW := by
  simp only [endReg, failReg, followReg, shownReg, raiseReg, recordReg, nwlOff, R.TB_SLEW, NWL.EVT]
  rintro ((h | h) | ⟨n, h⟩) <;> omega

/-- From `s` to `t` the ring has gone down (R419). -/
structure RingDown (s t : State) : Prop where
  stat : t.rd R.PEER_STAT = s.rd R.PEER_STAT &&& ~~~ 0x30
  slew : t.bt R.TB_SLEW 3 = false
  link : t.bt (fsrcStat FS.PEER_LINK) 17 = true
  isr : ringUp s = true → t.bt R.SUP_ISR 3 = true
  rd : ∀ o, 0xD000 ≤ o → o < 0xE000 → o ≠ R.PEER_STAT → o ≠ R.SUP_ISR → t.rd o = s.rd o
  peer : t.peer = s.peer.emptied (ownHead s).dev
  ticks : t.ticks = s.ticks
  quiet : Quiet t
  lost : ∀ n : Fin 4, s.nwl[n].on = true → s.nwl[n].mode = 2 → t.nwl[n].state = .lost

theorem ringDown_down : RingDown s (ringDown s) := by
  have htold : RingTold s (ringTold s) := ringTold_told
  have hround : RingKept failReg (ringTold s) (roundsFailed (ringTold s)) := roundsFailed_kept
  have hlost : RingKept followReg (ringEnded s) (ringDown s) := by
    rw [ringDown_eq]
    exact followersLost_kept
  have hrd (o : Nat) (ho : ¬endReg o) : (ringDown s).rd o = (ringTold s).rd o := by
    rw [hlost.rd o fun h => ho (.inr h), ringEnded, ringEmptied_rd, hround.rd o fun h => ho (.inl h)]
  have hown : ownHead (roundsFailed (ringTold s)) = ownHead s := by
    rw [ownHead, State.fl, hround.rd _ fun h => not_endReg (by decide) (by decide) (.inl h), htold.stat, (mutedStat _).2.2]
    rfl
  have hnwl : (ringEnded s).nwl = s.nwl := by rw [ringEnded, ringEmptied_nwl, roundsFailed_nwl, htold.nwl]
  have hstat : ¬endReg R.PEER_STAT := not_endReg (by decide) (by decide)
  have hk : ¬newelSource FS.PEER_LINK := by
    simp only [newelSource, FS.PEER_LINK]
    omega
  refine ⟨(hrd _ hstat).trans htold.stat, (congrArg (bit · 3) (hrd _ tbSlew_not_endReg)).trans htold.slew, ?_,
    fun h => (congrArg (bit · 3) (hrd _ (not_endReg (by decide) (by decide)))).trans (ringTold_isr h),
    fun o h1 h2 hs hi => ?_, ?_, ?_, hlost.quiet ringEmptied_quiet, fun n hon hm => ?_⟩
  · rw [hlost.levels _ (by decide) hk, ringEnded, ringEmptied_bt, hround.levels _ (by decide) hk, htold.link]
  · refine (hrd o (not_endReg h1 h2)).trans (htold.rd o ?_ hs (by simp only [R.TB_SLEW]; omega) hi)
    simp only [raiseReg, recordReg]
    omega
  · rw [hlost.peer, ringEnded, ringEmptied_peer, hown, hround.peer, htold.peer]
  · rw [hlost.ticks, ringEnded, ringEmptied_ticks, hround.ticks, htold.ticks]
  · rw [ringDown_eq]
    exact followersLost_lost (by rw [hnwl]; exact hon) (by rw [hnwl]; exact hm)

section
variable (h : RingDown s t)
include h

theorem RingDown.up : ringUp t = false := (congrArg (bit · 4) h.stat).trans (mutedStat _).1
theorem RingDown.aligned : t.bt R.PEER_STAT 5 = false := (congrArg (bit · 5) h.stat).trans (mutedStat _).2.1
theorem RingDown.number : t.fl R.PEER_STAT 0 2 = s.fl R.PEER_STAT 0 2 := (congrArg (fld · 0 2) h.stat).trans (mutedStat _).2.2
theorem RingDown.ownFrame {h' : FrameHead} : ownFrame t h' = ownFrame s h' := by
  rw [Machine.ownFrame, ownHead, h.number]
  rfl
theorem RingDown.hasDue : t.hasDue .timeFrameSend = false := by
  rw [State.hasDue, List.any_eq_false]
  exact fun d hd he => h.quiet d hd (beq_iff_eq.mp he)
end

end

end Sys2Proof.Machine

/-! # The ring comes up, and its stamps (R413, R417), for O54 -/

namespace Sys2Proof.Machine

section
variable {s t u : State} {n : Fin 4} {p p' : Nat → Prop} {o k x : Nat} {v : Word} {h : FrameHead} {f : PeerFrame}

/-! ### Enable, comma lock and ENUM (R413) -/

/-- PEER_CFG is written, and the steering follows on a ring that is up. -/
def peerCfgWritten (s : State) (v : Word) : State :=
  let s := s.wr R.PEER_CFG (v &&& 0xF7)
  if ringUp s then s.setBt R.TB_SLEW 3 (!bit v 1 && bit v 2) else s

theorem peerCfgWritten_rd : (peerCfgWritten s v).rd R.PEER_CFG = v &&& 0xF7 := by
  have h : (s.wr R.PEER_CFG (v &&& 0xF7)).rd R.PEER_CFG = v &&& 0xF7 := by rw [State.wr_rd, if_pos rfl]
  unfold peerCfgWritten
  extract_lets s1
  split
  · rw [State.setBt_rd, if_neg (by decide), h]
  · exact h

theorem peerCfgWritten_peer : (peerCfgWritten s v).peer = s.peer := by
  unfold peerCfgWritten
  extract_lets s1
  split <;> rfl

theorem peerCfgWritten_ticks : (peerCfgWritten s v).ticks = s.ticks := by
  unfold peerCfgWritten
  extract_lets s1
  split <;> rfl

/-- A link that waits for its lock, and joins. -/
def Peer.joins (p : Peer) : Peer := { p with lock := false, joining := true, filt := 0 }

/-- A link that becomes enabled joins, and is looked at 1 ms later. -/
def peerJoins (s : State) : State :=
  ({ s with later := s.later.filter (fun x => x.2 != Later.peerCheck) }.updPeer Peer.joins).laterTicks 400000 .peerCheck

theorem writePeerCfg_on (hv : bit v 0 = true) : writePeerCfg s v =
    if s.bt R.PEER_CFG 0 then peerCfgWritten s v else peerJoins (peerCfgWritten s v) := by
  have h : writePeerCfg s v = if bit v 0 && !s.bt R.PEER_CFG 0 then peerJoins (peerCfgWritten s v)
      else if !bit v 0 && s.bt R.PEER_CFG 0 then
        (ringDown ((peerCfgWritten s v).updPeer (fun p => { p with lock := false }))).endLevel FS.PEER_LINK
      else peerCfgWritten s v := by
    unfold writePeerCfg peerCfgWritten peerJoins
    rfl
  rw [h, hv]
  cases s.bt R.PEER_CFG 0
  · rfl
  · rfl

/-- The inbound link has locked. -/
def peerLocked (s : State) : State := s.updPeer (fun p => { p with lock := true })

theorem commaLock_runs (hc : s.bt R.PEER_CFG 0 = true) (hl : s.peer.lock = false) : execCommaLock s =
    .next (if s.bt R.PEER_CFG 1 then enumSend ((peerLocked s).setFl R.PEER_STAT 0 2 0) else peerLocked s) :=
  if_pos (by rw [hc, hl]; rfl)

theorem commaLock_idle (h : s.bt R.PEER_CFG 0 = false ∨ s.peer.lock = true) : execCommaLock s = .next s :=
  if_neg (by rcases h with h | h <;> simp [h])

theorem enumSend_lock : (enumSend s).peer.lock = s.peer.lock := by
  unfold enumSend
  extract_lets s1
  split <;> rfl

theorem enumSend_rd : (enumSend s).rd o = s.rd o := by
  unfold enumSend
  extract_lets s1
  split <;> rfl

theorem enumSend_sends (h : numbering s = true) :
    (enumSend s).peer.tx = s.peer.tx ++ [.enum ⟨0, 1⟩] ∧ (s.ticks + 4096, Later.enumSend) ∈ (enumSend s).later := by
  unfold enumSend
  extract_lets s1
  rw [if_pos (show numbering s1 = true from h)]
  exact ⟨rfl, List.mem_append_right _ (List.mem_singleton_self _)⟩

/-- The primary has number 0. -/
def primaryLocked (s : State) : State := (peerLocked s).setFl R.PEER_STAT 0 2 0

theorem primaryLocked_rd (ho : o ≠ R.PEER_STAT) : (primaryLocked s).rd o = s.rd o := by
  rw [primaryLocked, State.setFl_rd, if_neg ho]
  rfl

theorem primaryLocked_stat : (primaryLocked s).rd R.PEER_STAT = setFld (s.rd R.PEER_STAT) 0 2 0 := by
  rw [primaryLocked, State.setFl_rd, if_pos rfl]
  rfl

theorem primaryLocked_numbering (hc : s.bt R.PEER_CFG 0 = true) (hp : s.bt R.PEER_CFG 1 = true) (hr : ringUp s = false) :
    numbering (primaryLocked s) = true := by
  have hcfg {i : Nat} : (primaryLocked s).bt R.PEER_CFG i = s.bt R.PEER_CFG i := congrArg (bit · i) (primaryLocked_rd (by decide))
  have hup : ringUp (primaryLocked s) = false := by
    rw [ringUp, State.bt, primaryLocked_stat, bit_setFld_ne _ _ _ _ _ (by decide)]
    exact hr
  rw [numbering, hcfg, hcfg, hc, hp, hup]
  rfl

theorem primaryLocked_number : (primaryLocked s).fl R.PEER_STAT 0 2 = 0 := by
  rw [State.fl, primaryLocked_stat, fld_setFld _ _ _ _ (by decide)]
  rfl

/-! ### The ring rises (R413, R417) -/

/-- The ring has risen at this device, with `k` the number of its last one. -/
structure RingRisen (k : Nat) (s t : State) : Prop where
  stat : t.rd R.PEER_STAT = setBit (setFld (s.rd R.PEER_STAT) 2 2 k) 4 true
  link : t.bt (fsrcStat FS.PEER_LINK) 17 = false
  rd : ∀ o, o ≠ R.PEER_STAT → o ≠ R.TB_SLEW → o ≠ fsrcStat FS.PEER_LINK → t.rd o = s.rd o
  rest : t = { s with regs := t.regs }

/-- The registers of a ring that has risen. -/
def statRisen (s : State) (k : Nat) : State := ((s.setFl R.PEER_STAT 2 2 k).setBt R.PEER_STAT 4 true).endLevel FS.PEER_LINK

theorem statRisen_risen : RingRisen k s (statRisen s k) := by
  refine ⟨?_, endLevel_inactive, fun o ho _ hl => ?_, rfl⟩
  · rw [statRisen, State.endLevel, State.setBt_rd, if_neg (by decide), State.setBt_rd, if_pos rfl, State.setFl_rd, if_pos rfl]
  · rw [statRisen, State.endLevel, State.setBt_rd, if_neg hl, State.setBt_rd, if_neg ho, State.setFl_rd, if_neg ho]

theorem ringRises_risen : RingRisen k s (ringRises s k) := by
  have hsteer (t : State) (h : RingRisen k s t) : RingRisen k s (t.setBt R.TB_SLEW 3 true) := by
    have hrd (o : Nat) (ho : o ≠ R.TB_SLEW) : (t.setBt R.TB_SLEW 3 true).rd o = t.rd o := by rw [State.setBt_rd, if_neg ho]
    refine ⟨(hrd _ (by decide)).trans h.stat, (congrArg (bit · 17) (hrd _ (by decide))).trans h.link,
      fun o ho hs hl => (hrd o hs).trans (h.rd o ho hs hl), ?_⟩
    calc t.setBt R.TB_SLEW 3 true = { t with regs := (t.setBt R.TB_SLEW 3 true).regs } := rfl
      _ = { s with regs := (t.setBt R.TB_SLEW 3 true).regs } := by rw [h.rest]
  have he : ringRises s k = if (statRisen s k).bt R.PEER_CFG 1 then statRisen s k
      else if (statRisen s k).bt R.PEER_CFG 2 then (statRisen s k).setBt R.TB_SLEW 3 true else statRisen s k := by
    unfold ringRises statRisen
    rfl
  rw [he]
  split
  · exact statRisen_risen
  split
  · exact hsteer _ statRisen_risen
  · exact statRisen_risen

section
variable (hr : RingRisen k s t)
include hr

theorem RingRisen.up : ringUp t = true := by
  rw [ringUp, State.bt, hr.stat, bit_setBit _ _ _ _ (by decide), if_pos rfl]
theorem RingRisen.devices : t.fl R.PEER_STAT 2 2 = k % 4 := by
  rw [State.fl, hr.stat, fld_setBit_ne _ _ _ _ _ (by decide), fld_setFld _ _ _ _ (by decide)]
  rfl
theorem RingRisen.number : t.fl R.PEER_STAT 0 2 = s.fl R.PEER_STAT 0 2 := by
  rw [State.fl, hr.stat, fld_setBit_ne _ _ _ _ _ (by decide), fld_setFld_ne _ _ _ _ _ _ (by decide), State.fl]
theorem RingRisen.peer : t.peer = s.peer := (congrArg State.peer hr.rest :)
theorem RingRisen.ticks : t.ticks = s.ticks := (congrArg State.ticks hr.rest :)
theorem RingRisen.tb : t.tb = s.tb := (congrArg State.tb hr.rest :)
end

/-! ### Frames are heard, and go on (R414) -/

theorem ownFrame_iff : ownFrame s h = true ↔ h.dev.val = s.fl R.PEER_STAT 0 2 := by
  have hlt : s.fl R.PEER_STAT 0 2 < 4 := fl_lt ..
  rw [ownFrame, beq_iff_eq, Fin.ext_iff]
  exact iff_of_eq (congrArg (h.dev.val = ·) (Nat.mod_eq_of_lt hlt))

theorem not_ownFrame (ho : ¬h.dev.val = s.fl R.PEER_STAT 0 2) : ownFrame s h = false :=
  Bool.eq_false_iff.mpr fun h' => ho (ownFrame_iff.mp h')

theorem ownFrame_congr (hs : t.fl R.PEER_STAT 0 2 = s.fl R.PEER_STAT 0 2) : ownFrame t h = ownFrame s h := by
  rw [ownFrame, ownHead, hs]
  rfl

theorem peerHears_iff : peerHears s = true ↔ s.bt R.PEER_CFG 0 = true ∧ s.peer.lock = true := Bool.and_eq_true _ _ ▸ Iff.rfl

theorem unheard (hh : ¬(s.bt R.PEER_CFG 0 = true ∧ s.peer.lock = true)) : peerHears s = false :=
  Bool.eq_false_iff.mpr fun h' => hh (peerHears_iff.mp h')

theorem forward_eq (ho : ownFrame s h = false) : forward s h f = s.laterTicks 26 (.peerSend f) := if_neg (by rw [ho]; nofun)

theorem later_onward (hk : t.ticks = s.ticks) : (s.ticks + 26, Later.peerSend f) ∈ (t.laterTicks 26 (.peerSend f)).later := by
  rw [← hk]
  exact List.mem_append_right _ (List.mem_singleton_self _)

/-- A frame that goes on leaves all but what happens later. -/
theorem forward_rest : ∃ l, forward s h f = { s with later := l } := by
  unfold forward
  split
  · exact ⟨_, rfl⟩
  · exact ⟨_, rfl⟩

/-! ### The stamps of the primary (R417) -/

/-- A stamp has gone out. -/
def stampSent (s : State) : State := s.updPeer (fun p => { p with sentAt := if p.loop = 0 && p.sentAt.isNone then some s.eff else p.sentAt })

theorem stampSent_sentAt : (stampSent s).peer.sentAt = if s.peer.loop = 0 ∧ s.peer.sentAt = none then some s.eff else s.peer.sentAt := by
  simp [stampSent, State.updPeer]

theorem timeFrameSend_runs (hp : s.bt R.PEER_CFG 1 = true) (hr : ringUp s = true) : execTimeFrameSend s = .next
    ((peerSend (stampSent s) (.time (ownHead s) s.tb.tb (BitVec.ofNat 5 s.fofs))).afterTicks 4096 .timeFrameSend) :=
  if_pos (by rw [hp, hr]; rfl)

theorem timeFrameSend_idle (h : ¬s.bt R.PEER_CFG 1 = true ∨ ringUp s = false) : execTimeFrameSend s = .next s :=
  if_neg (by rcases h with h | h <;> simp [h])

/-- What steering leaves: the number of the device and the ring, the difference shown and the joining. -/
structure Steers (s t : State) : Prop where
  number : t.fl R.PEER_STAT 0 2 = s.fl R.PEER_STAT 0 2
  up : ringUp t = ringUp s
  err : t.rd R.PEER_ERR = s.rd R.PEER_ERR
  joining : t.peer.joining = s.peer.joining
  ticks : t.ticks = s.ticks

theorem Steers.refl : Steers s s := ⟨rfl, rfl, rfl, rfl, rfl⟩

theorem Steers.trans (h : Steers s t) (g : Steers t u) : Steers s u :=
  ⟨g.number.trans h.number, g.up.trans h.up, g.err.trans h.err, g.joining.trans h.joining, g.ticks.trans h.ticks⟩

theorem Steers.ite {c : Prop} [Decidable c] (ht : Steers s t) (hu : Steers s u) : Steers s (if c then t else u) := by
  split
  · exact ht
  · exact hu

/-- Registers of the link other than these are not read here. -/
theorem Steers.of_rd (hs : t.rd R.PEER_STAT = s.rd R.PEER_STAT) (he : t.rd R.PEER_ERR = s.rd R.PEER_ERR)
    (hj : t.peer.joining = s.peer.joining) (hk : t.ticks = s.ticks) : Steers s t :=
  ⟨congrArg (fld · 0 2) hs, congrArg (bit · 4) hs, he, hj, hk⟩

theorem Steers.upd {g : Word → Word} (hs : R.PEER_STAT ≠ o) (he : R.PEER_ERR ≠ o) : Steers s (s.upd o g) :=
  .of_rd (by rw [State.upd_rd, if_neg hs]) (by rw [State.upd_rd, if_neg he]) rfl rfl

theorem Steers.wr (hs : R.PEER_STAT ≠ o) (he : R.PEER_ERR ≠ o) : Steers s (s.wr o v) := .upd (g := fun _ => v) hs he

theorem Steers.stat {i : Nat} {y : Bool} (hi : 4 < i) (h32 : i < 32) : Steers s (s.setBt R.PEER_STAT i y) := by
  refine ⟨?_, ?_, by rw [State.setBt_rd, if_neg (by decide)], rfl, rfl⟩
  · rw [State.fl, State.setBt_rd, if_pos rfl, fld_setBit_ne _ _ _ _ _ (by omega), State.fl]
  · rw [ringUp, State.bt, State.setBt_rd, if_pos rfl, bit_setBit _ _ _ _ h32, if_neg (by omega), ringUp, State.bt]

theorem peerErr_not_raiseReg : ¬raiseReg R.PEER_ERR := by
  simp only [raiseReg, recordReg, R.PEER_ERR]
  omega

theorem Steers.reports (hr : Reports raiseReg s t) : Steers s t :=
  .of_rd (hr.rd _ peerStat_not_raiseReg) (hr.rd _ peerErr_not_raiseReg) (congrArg Peer.joining (congrArg State.peer hr.rest :)) hr.ticks

theorem alignEnded_steers : Steers s (s.endLevel FS.PEER_ALIGN) := by
  unfold State.endLevel State.setBt
  exact .upd (by decide) (by decide)

theorem joinStep_steers {d : Int} : Steers s (joinStep s d) := by
  unfold joinStep
  extract_lets k v s1
  have h1 : Steers s s1 := Steers.trans (.wr (by decide) (by decide)) (.wr (by decide) (by decide))
  split
  · exact h1.trans (.of_rd rfl rfl rfl rfl)
  · exact .stat (by decide) (by decide)

theorem setSlew_steers : Steers s (setSlew s v) := by
  unfold setSlew
  extract_lets old s1
  have h1 : Steers s s1 := .wr (by decide) (by decide)
  exact .ite h1 (h1.trans (.of_rd rfl rfl rfl rfl))

/-- The difference of a stamp, in ps. -/
def stampDiff (s : State) (tm : Time) (fine arr : BitVec 5) : Int :=
  ((tm.toNat * 32 + fine.toNat : Nat) - (s.eff + arr.toNat : Nat) : Int) * 625 / 8 + peerDelay s

/-- The difference is shown, and the device has joined. -/
def diffShown (s : State) (d : Int) : State := (s.setFl R.PEER_ERR 0 16 (peerErr d)).updPeer (fun p => { p with joining := false })

theorem peerErr_lt {d : Int} : peerErr d < 2 ^ 16 := by
  unfold peerErr
  omega

theorem align_steers {tm : Time} {fine arr : BitVec 5} : Steers (diffShown s (stampDiff s tm fine arr)) (align s tm fine arr) := by
  unfold align
  extract_lets own stamp d s1 join s2 fl s3 ok s4 s5
  have h2 : diffShown s (stampDiff s tm fine arr) = s2 := rfl
  rw [h2]
  have h4 : Steers s2 s4 := (Steers.of_rd rfl rfl rfl rfl : Steers s2 s3).trans (.stat (by decide) (by decide))
  have h5 : Steers s2 s5 := h4.trans (.ite alignEnded_steers (.reports (raiseLevel_reports (by decide) _)))
  exact .ite joinStep_steers (.ite (h5.trans setSlew_steers) h5)

theorem diffShown_err {d : Int} : (diffShown s d).fl R.PEER_ERR 0 16 = peerErr d := by
  rw [diffShown, State.fl]
  refine (congrArg (fld · 0 16) ((State.setFl_rd ..).trans (if_pos rfl))).trans ?_
  rw [fld_setFld _ _ _ _ (by decide)]
  exact Nat.mod_eq_of_lt peerErr_lt

end

end Sys2Proof.Machine

/-! # Teeth and rounds of other devices (R416, R418), for O54 -/

namespace Sys2Proof.Machine

section
variable {s t u : State} {n m : Fin 4} {p p' : Nat → Prop} {o k x : Nat} {v : Word} {h : FrameHead} {f : PeerFrame} {t0 : Tooth0} {t1 : Tooth1}
  {tm : Time} {fine arr : BitVec 5}

/-! ### TIME off the primary (R417) -/

/-- The ring is up at a device that hears a stamp. -/
def stampHeard (s : State) : State :=
  if ringUp s then s else ringRises s.fresh.2 (max (fld s.fresh.1 0 2) (s.fresh.2.fl R.PEER_STAT 0 2))

theorem timeFrame_runs (hh : peerHears s = true) (hp : s.bt R.PEER_CFG 1 = false) : execTimeFrame h tm fine arr s =
    .next (forward (align (stampHeard s) tm fine arr) h (.time (hop h) tm fine)) := by
  unfold execTimeFrame
  rw [if_neg (by rw [hh]; nofun), if_neg (by rw [hp]; nofun)]
  rfl

/-- What a stamp finds at a device. -/
structure StampHeard (s t : State) : Prop where
  up : ringUp t = true
  number : t.fl R.PEER_STAT 0 2 = s.fl R.PEER_STAT 0 2
  delay : peerDelay t = peerDelay s
  eff : t.eff = s.eff
  ticks : t.ticks = s.ticks

theorem peerDelay_congr (hn : t.fl R.PEER_STAT 0 2 = s.fl R.PEER_STAT 0 2) (hx : t.rd R.PEER_RXDLY = s.rd R.PEER_RXDLY) :
    peerDelay t = peerDelay s := by
  have hd : t.fl R.PEER_RXDLY 0 16 = s.fl R.PEER_RXDLY 0 16 := congrArg (fld · 0 16) hx
  rw [peerDelay, hn, hd, peerDelay]

theorem stampHeard_heard : StampHeard s (stampHeard s) := by
  unfold stampHeard
  split
  · next hu => exact ⟨hu, rfl, rfl, rfl, rfl⟩
  · have hr := ringRises_risen (s := s.fresh.2) (k := max (fld s.fresh.1 0 2) (s.fresh.2.fl R.PEER_STAT 0 2))
    have hrd (o : Nat) (ho : o ≠ R.PEER_STAT) (hs : o ≠ R.TB_SLEW) (hl : o ≠ fsrcStat FS.PEER_LINK) := hr.rd o ho hs hl
    have hfofs := hrd R.TB_FOFS (by decide) (by decide) (by decide)
    have hrx := hrd R.PEER_RXDLY (by decide) (by decide) (by decide)
    refine ⟨hr.up, hr.number, ?_, ?_, hr.ticks⟩
    · exact peerDelay_congr hr.number hrx
    · rw [State.eff, hr.tb, State.fofs, State.fl, hfofs]
      rfl

theorem StampHeard.diff (hs : StampHeard s t) : stampDiff t tm fine arr = stampDiff s tm fine arr := by
  rw [stampDiff, hs.eff, hs.delay, stampDiff]

/-! ### Teeth of other devices (R415, R416, R138) -/

/-- The held TOOTH0 of a source goes. -/
def unheld (s : State) (dev src : Fin 4) : State :=
  s.updPeer (fun p => { p with held := p.held.filter (fun x => !(x.1 == dev && x.2.1 == src)) })

/-- A TOOTH0 is held. -/
def toothHeld (s : State) (h : FrameHead) (t0 : Tooth0) : State :=
  s.updPeer (fun p => { p with held := p.held.filter (fun x => !(x.1 == h.dev && x.2.1 == t0.nwl)) ++ [(h.dev, t0.nwl, t0)] })

theorem mem_unheld {l : List (Fin 4 × Fin 4 × Tooth0)} {y : Fin 4 × Fin 4 × Tooth0} (hy : y ∈ l.filter (fun x => !(x.1 == n && x.2.1 == m))) :
    ¬(y.1 = n ∧ y.2.1 = m) := by
  rintro ⟨h1, h2⟩
  have := (List.mem_filter.mp hy).2
  simp [h1, h2] at this

theorem toothHeld_only {y : Fin 4 × Fin 4 × Tooth0} (hy : y ∈ (toothHeld s h t0).peer.held) (h1 : y.1 = h.dev) (h2 : y.2.1 = t0.nwl) :
    y = (h.dev, t0.nwl, t0) := by
  rcases List.mem_append.mp hy with hy | hy
  · exact absurd ⟨h1, h2⟩ (mem_unheld hy)
  · exact List.mem_singleton.mp hy

theorem takesFrame (hh : peerHears s = true) (ho : ownFrame s h = false) : ¬(!peerHears s || ownFrame s h) = true := by
  rw [hh, ho]
  nofun

theorem dropsFrame (hh : peerHears s = false ∨ ownFrame s h = true) : (!peerHears s || ownFrame s h) = true := by
  rcases hh with hh | hh <;> simp [hh]

theorem tooth0Frame_runs (hh : peerHears s = true) (ho : ownFrame s h = false) :
    execTooth0Frame h t0 s = .next (forward (toothHeld s h t0) h (.tooth0 (hop h) t0)) := if_neg (takesFrame hh ho)

/-- A follower takes the tooth of its source. -/
def toothFollowed (s : State) (n : Fin 4) (t0 : Tooth0) (t1 : Tooth1) : State := passCycle (applyBroadcast s n t0 t1) n

/-- The followers of a source take its tooth, once both its frames are there. -/
def pairFollowed (s : State) (h : FrameHead) (t1 : Tooth1) : State :=
  match s.peer.held.find? (fun x => x.1 == h.dev && x.2.1 == t1.nwl) with
  | some (_, _, t0) => (followersOf s h.dev t1.nwl).foldl (fun s n => toothFollowed s n t0 t1) s
  | none => s

theorem tooth1Frame_runs (hh : peerHears s = true) (ho : ownFrame s h = false) :
    execTooth1Frame h t1 s = .next (forward (unheld (pairFollowed s h t1) h.dev t1.nwl) h (.tooth1 (hop h) t1)) := if_neg (takesFrame hh ho)

/-- The registers that the tooth of a source may write: not those of the ring. -/
def toothReg (o : Nat) : Prop := o ≠ R.PEER_STAT

theorem toothReg_of_shown (o : Nat) (ho : shownReg n o) : toothReg o := by
  rintro rfl
  exact not_endReg (o := R.PEER_STAT) (by decide) (by decide) (.inr ⟨n, ho⟩)

theorem toothReg_nwlOff (hx : x < 0x400) : toothReg (nwlOff n x) := by
  simp only [toothReg, nwlOff, R.PEER_STAT]
  omega

theorem Tracks.loadTooth {l : Load} (hx : Tracks toothReg n s t) : Tracks toothReg n s (loadTooth t n l) := by
  have hr (o : Nat) (ho : ratioReg n o) : toothReg o := by
    rcases ho with ho | rfl | ho
    · exact toothReg_of_shown o ho
    · exact toothReg_nwlOff (by decide)
    · rintro rfl
      simp only [lifeReg, R.PEER_STAT] at ho
      omega
  have hpred : Tracks toothReg n s (predShown (toothShown t n l) n l) :=
    .wr (toothReg_nwlOff (by decide)) nwlOff_not_raiseReg (nwlOff_ne_evt (by decide))
      (hx.trans (toothShown_tracks fun _ => toothReg_nwlOff))
  rw [loadTooth_eq]
  exact .ite (hpred.trans (ratioShown_tracks.mono hr)) (hx.trans (toothShown_tracks fun _ => toothReg_nwlOff))

theorem applyBroadcast_tracks : Tracks toothReg n s (applyBroadcast s n t0 t1) := by
  have hshown (o : Nat) (ho : shownReg n o) : toothReg o := toothReg_of_shown o ho
  unfold applyBroadcast
  extract_lets s1 w s2 tt c aPrev d tooth a cls st track wraps moved s3 s4 s5 s6 s7 s8
  have h1 : Tracks toothReg n s s1 := .endLevel (fun o ho => hshown o (shownReg_of_raiseReg o ho)) newelSource_peerLoss .refl
  have h2 : Tracks toothReg n s s2 := h1.takeLimits
  have h3 : Tracks toothReg n s s3 :=
    .ite (.upd (toothReg_nwlOff (by decide)) nwlOff_not_raiseReg (fun e => absurd e (nwlOff_ne_evt (by decide))) h2) h2
  have h4 : Tracks toothReg n s s4 := .ite h3 (.goto hshown h3)
  have h5 : Tracks toothReg n s s5 := h4.updNwl
  have h6 : Tracks toothReg n s s6 :=
    h5.trans ((classShown_tracks (cls := cls)).mono fun o ho => ho.elim (hshown o) fun e => e ▸ toothReg_nwlOff (by decide))
  have h7 : Tracks toothReg n s s7 := .acceptTooth hshown h6
  have h8 : Tracks toothReg n s s8 := by
    unfold s8
    split
    · exact h7.loadTooth
    · exact h7
  exact .ite h1 (.ite h8.openPass h8)

theorem passCycle_tracks : Tracks p n s (passCycle s n) := by
  unfold passCycle takeAngle
  split
  · exact .updNwl (.updNwl .refl)
  · exact .updNwl .refl

theorem toothFollowed_tracks : Tracks toothReg n s (toothFollowed s n t0 t1) := applyBroadcast_tracks.trans passCycle_tracks

theorem pairFollowed_kept : RingKept toothReg s (pairFollowed s h t1) := by
  unfold pairFollowed
  split
  · exact .foldl (fun _ _ => toothFollowed_tracks.ring) _
  · exact .refl

/-- A Newel that does not follow the source stays. -/
theorem pairFollowed_other (hn : n ∉ followersOf s h.dev t1.nwl) : (pairFollowed s h t1).nwl[n] = s.nwl[n] := by
  unfold pairFollowed
  split
  · refine List.foldlRecOn (motive := fun v : State => v.nwl[n] = s.nwl[n]) _ _ rfl fun v hv m hm => ?_
    exact (toothFollowed_tracks.others n fun e => hn (e ▸ hm)).trans hv
  · rfl

/-- Without a TOOTH0 there is no pair. -/
theorem pairFollowed_alone (hx : ∀ y ∈ s.peer.held, ¬(y.1 = h.dev ∧ y.2.1 = t1.nwl)) : pairFollowed s h t1 = s := by
  have hf : s.peer.held.find? (fun x => x.1 == h.dev && x.2.1 == t1.nwl) = none := by
    rw [List.find?_eq_none]
    intro y hy hc
    rw [Bool.and_eq_true, beq_iff_eq, beq_iff_eq] at hc
    exact hx y hy hc
  rw [pairFollowed, hf]

/-! ### Rounds (R321, R325, R418) -/

/-- The device's answer to a STATUS. -/
def statusBits (s : State) (h : FrameHead) (k : Nat) (m : BitVec 4) : BitVec 4 :=
  if s.peer.acted.contains (h.dev, k) then m ||| BitVec.ofNat 4 (2 ^ s.fl R.PEER_STAT 0 2) else m

/-- A round's STATUS has passed. -/
def statusPassed (s : State) (h : FrameHead) (k : Nat) : State :=
  s.updPeer (fun p => { p with acted := p.acted.filter (fun x => !(x.1 == h.dev && x.2 == k)) })

theorem statusFrame_passes {b : BitVec 4} (hh : peerHears s = true) (ho : ownFrame s h = false) :
    execStatusFrame h k b s = .next (forward (statusPassed s h k) h (.status (hop h) k (statusBits s h k b))) := by
  unfold execStatusFrame
  rw [if_neg (by rw [hh]; nofun), if_neg (by rw [ho]; nofun)]
  rfl

theorem statusFrame_closes {b : BitVec 4} (hh : peerHears s = true) (ho : ownFrame s h = true) :
    execStatusFrame h k b s = .next (statusPassed (closeRound s k b) h k) := by
  unfold execStatusFrame
  rw [if_neg (by rw [hh]; nofun), if_pos ho]
  rfl

theorem statusPassed_acted : (h.dev, k) ∉ (statusPassed s h k).peer.acted := fun hm => by
  simpa using (List.mem_filter.mp hm).2

/-- The devices of the ring whose bits are missing in an answer. -/
def missingOf (s : State) (b : BitVec 4) : List Nat := (List.range (s.fl R.PEER_STAT 2 2 + 1)).filter (fun d => !b.getLsbD d)

/-- Their bits are shown, from bit `x` of the register at `o` on. -/
def missingShown (s : State) (o x : Nat) (l : List Nat) : State := l.foldl (fun s d => s.setEv o (x + d)) s

/-- A round is no longer open. -/
def roundClosed (s : State) (k : Nat) : State := s.updPeer (fun p => { p with opened := p.opened.filter (fun x => x.1 != k) })

theorem setEv_bt {a i : Nat} (hi : i < 32) (hb : s.bt o a = true) : (s.setEv x i).bt o a = true := by
  rw [State.bt, State.setEv_rd]
  split
  · next e =>
    rw [bit_setBit _ _ _ _ hi, ← e]
    exact ite_eq_left_iff.mpr fun _ => hb
  · exact hb

theorem setEv_bt_same {i : Nat} (hi : i < 32) : (s.setEv o i).bt o i = true := by
  rw [State.bt, State.setEv_rd, if_pos rfl, bit_setBit _ _ _ _ hi, if_pos rfl]

theorem missingShown_bt {d : Nat} {l : List Nat} (hl : ∀ y ∈ l, x + y < 32) (hd : d ∈ l) : (missingShown s o x l).bt o (x + d) = true := by
  obtain ⟨l1, l2, rfl⟩ := List.append_of_mem hd
  rw [missingShown, List.foldl_append, List.foldl_cons]
  refine List.foldlRecOn (motive := fun v : State => v.bt o (x + d) = true) l2 _ (setEv_bt_same (hl d hd)) fun v hv y hy => ?_
  exact setEv_bt (hl y (List.mem_append_right _ (List.mem_cons_of_mem _ hy))) hv

theorem missingShown_rest {l : List Nat} : (missingShown s o x l).peer = s.peer ∧ (missingShown s o x l).later = s.later :=
  List.foldlRecOn (motive := fun v : State => v.peer = s.peer ∧ v.later = s.later) l _ ⟨rfl, rfl⟩ fun _ hv _ _ => hv

/-- A round whose answers are missing from bit `x` of the register at `o` on closes. -/
def roundAnswered (s : State) (k o x : Nat) (b : BitVec 4) : State :=
  (missingShown (roundClosed s k) o x (missingOf s b)).setEv R.SNAP_STAT 17

theorem closeRound_txn {b : BitVec 4} {y : Fin 8} (hf : s.peer.opened.find? (fun x => x.1 == k) = some (k, some y)) :
    closeRound s k b = roundAnswered s k R.TXN_EVT 16 b := by
  unfold closeRound
  rw [hf]
  rfl

theorem closeRound_snap {b : BitVec 4} (hf : s.peer.opened.find? (fun x => x.1 == k) = some (k, none)) :
    closeRound s k b = roundAnswered s k R.SNAP_STAT 20 b := by
  unfold closeRound
  rw [hf]
  rfl

theorem closeRound_none {b : BitVec 4} (hf : s.peer.opened.find? (fun x => x.1 == k) = none) : closeRound s k b = s := by
  unfold closeRound
  rw [hf]

/-- What the closing of a round shows. -/
structure RoundAnswered (s : State) (k o x : Nat) (b : BitVec 4) (t : State) : Prop where
  done : t.bt R.SNAP_STAT 17 = true
  missing : ∀ d, d ≤ s.fl R.PEER_STAT 2 2 → b.getLsbD d = false → t.bt o (x + d) = true
  opened : t.peer.opened = s.peer.opened.filter (fun x => x.1 != k)
  later : t.later = s.later

theorem RoundAnswered.closed {b : BitVec 4} (ht : RoundAnswered s k o x b t) (y : Nat × Option (Fin 8)) (hy : y ∈ t.peer.opened) : y.1 ≠ k := by
  rw [ht.opened] at hy
  simpa using (List.mem_filter.mp hy).2

theorem roundAnswered_answered {b : BitVec 4} (hx : x ≤ 20) : RoundAnswered s k o x b (roundAnswered s k o x b) := by
  have hlt : s.fl R.PEER_STAT 2 2 < 4 := fl_lt ..
  have hl (y : Nat) (hy : y ∈ missingOf s b) : x + y < 32 := by
    have := List.mem_range.mp (List.mem_of_mem_filter hy)
    omega
  obtain ⟨hpeer, hlater⟩ := missingShown_rest (s := roundClosed s k) (o := o) (x := x) (l := missingOf s b)
  refine ⟨setEv_bt_same (by decide), fun d hd hb => setEv_bt (by decide) (missingShown_bt hl ?_), congrArg Peer.opened hpeer, hlater⟩
  exact List.mem_filter.mpr ⟨List.mem_range.mpr (by omega), by rw [hb]; rfl⟩

/-- The round's answer is that of the first entry with its number. -/
theorem opened_find {l : List (Nat × Option (Fin 8))} : l.find? (fun x => x.1 == k) = none ∧ (∀ y ∈ l, y.1 ≠ k)
    ∨ ∃ y, l.find? (fun x => x.1 == k) = some (k, y) ∧ (k, y) ∈ l := by
  cases hf : l.find? (fun x => x.1 == k) with
  | none => exact .inl ⟨rfl, fun y hy he => List.find?_eq_none.mp hf y hy (beq_iff_eq.mpr he)⟩
  | some y =>
    obtain ⟨a, y⟩ := y
    have hk : (a == k) = true := List.find?_some (p := fun x : Nat × Option (Fin 8) => x.1 == k) hf
    obtain rfl : a = k := beq_iff_eq.mp hk
    exact .inr ⟨y, rfl, List.mem_of_find?_eq_some hf⟩

end

end Sys2Proof.Machine

/-! # Resets of the link, and the ring as a whole (O54) -/

namespace Sys2Proof.Machine

section
variable {s t u : State} {n : Fin 4} {o k x : Nat} {h : FrameHead} {f : PeerFrame}

/-! ### The link goes down, and resets (R393, R419) -/

/-- The loss of lock is counted, and LINKDN goes out. -/
def lockLost (s : State) : State :=
  let s := (s.updPeer (fun p => { p with lock := false })).satFl R.PEER_CNT 16 16
  peerSend s (.linkdn (ownHead s))

theorem peerLinkDown_runs (hh : peerHears s = true) : execPeerLinkDown s = .next (ringDown (lockLost s)) := if_pos hh

theorem lockLost_rd (ho : o ≠ R.PEER_CNT) : (lockLost s).rd o = s.rd o := by
  have h : (s.satFl R.PEER_CNT 16 16).rd o = s.rd o := by rw [State.satFl_rd, if_neg ho]
  exact h

theorem lockLost_sent : (lockLost s).peer.tx = s.peer.tx ++ [.linkdn (ownHead s)] := by
  have h : ownHead ((s.updPeer (fun p => { p with lock := false })).satFl R.PEER_CNT 16 16) = ownHead s := by
    rw [ownHead, State.fl, State.satFl_rd, if_neg (by decide)]
    rfl
  unfold lockLost
  extract_lets s1
  rw [h]
  rfl

theorem lockLost_count : (lockLost s).fl R.PEER_CNT 16 16 = min 65535 (s.fl R.PEER_CNT 16 16 + 1) := by
  have h : (s.satFl R.PEER_CNT 16 16).fl R.PEER_CNT 16 16 = min 65535 (s.fl R.PEER_CNT 16 16 + 1) := satFl_fl (by decide)
  exact h

theorem resetRegs_rd {p : Nat → Bool} : (resetRegs s p).rd o = if p o then regDefault o else s.rd o := by
  refine (Store.get_filter (p := fun a => !p a) s.regs o).trans ?_
  cases p o <;> rfl

theorem peerStat_default : bit (regDefault R.PEER_STAT) 4 = false := by decide

/-- The registers of the link that a reset returns. -/
def linkReg (o : Nat) : Bool := o == R.PEER_STAT || o == R.PEER_ERR || o == R.PEER_CNT

/-- The link resets once the ring is down. -/
def linkReset (s : State) : State :=
  let s := resetRegs s linkReg
  let s := { s with later := s.later.filter (fun x => match x.2 with | .peerSend _ => false | _ => true) }
  s.updPeer (fun p => { Peer.reset with tx := p.tx, round := p.round, joining := true })

theorem peerReset_runs : execPeerReset s = .next (linkReset (if ringUp s then ringDown s else s)) := rfl

theorem linkReset_rd : (linkReset s).rd o = if linkReg o then regDefault o else s.rd o := resetRegs_rd

theorem linkReset_later {y : Nat} : (y, Later.peerSend f) ∉ (linkReset s).later := fun hm =>
  absurd (List.mem_filter.mp hm).2 nofun

theorem ringDownIf_rd (h1 : 0xD000 ≤ o) (h2 : o < 0xE000) (hs : o ≠ R.PEER_STAT) (hi : o ≠ R.SUP_ISR) :
    (if ringUp s then ringDown s else s).rd o = s.rd o := by
  split
  · exact ringDown_down.rd o h1 h2 hs hi
  · rfl

/-- What LINKDN, or the loss of the own lock, leaves. -/
theorem RingDown.leaves (hd : RingDown u t) (hu : ringUp s = true → ringUp u = true) (hn : u.nwl = s.nwl) :
    ringUp t = false ∧ t.bt R.PEER_STAT 5 = false ∧ t.bt R.TB_SLEW 3 = false ∧ t.bt (fsrcStat FS.PEER_LINK) 17 = true ∧ t.peer.opened = []
    ∧ t.peer.held = [] ∧ t.hasDue .timeFrameSend = false ∧ (ringUp s = true → t.bt R.SUP_ISR 3 = true)
    ∧ ∀ n : Fin 4, s.nwl[n].on = true → s.nwl[n].mode = 2 → t.nwl[n].state = .lost := by
  refine ⟨hd.up, hd.aligned, hd.slew, hd.link, congrArg Peer.opened hd.peer, congrArg Peer.held hd.peer, hd.hasDue, fun h => hd.isr (hu h), ?_⟩
  rw [← hn]
  exact hd.lost

/-- The primary numbers the ring again. -/
def renumbers (s : State) : State := if numbering s then s.laterTicks 4096 .enumSend else s

theorem linkdnFrame_runs (hh : peerHears s = true) (ho : ownFrame s h = false) :
    execLinkdnFrame h s = .next (forward (renumbers (ringDown s)) h (.linkdn (hop h))) := if_neg (takesFrame hh ho)

theorem renumbers_rest : ∃ l, renumbers s = { s with later := l } := by
  unfold renumbers
  split
  · exact ⟨_, rfl⟩
  · exact ⟨_, rfl⟩

/-- What later happenings do not touch stays down. -/
theorem RingDown.later {l : List (Nat × Later)} (hd : RingDown s t) : RingDown s { t with later := l } :=
  ⟨hd.stat, hd.slew, hd.link, hd.isr, hd.rd, hd.peer, hd.ticks, hd.quiet, hd.lost⟩

theorem RingDown.numbering (hd : RingDown s t) (hc : s.bt R.PEER_CFG 0 = true) (hl : s.peer.lock = true) (hp : s.bt R.PEER_CFG 1 = true) :
    numbering t = true := by
  have hcfg {i : Nat} : t.bt R.PEER_CFG i = s.bt R.PEER_CFG i := congrArg (bit · i) (hd.rd _ (by decide) (by decide) (by decide) (by decide))
  have hlock : t.peer.lock = true := (congrArg Peer.lock hd.peer).trans hl
  rw [Machine.numbering, hcfg, hcfg, hc, hp, hlock, hd.up]
  rfl

/-! ### Rounds of other devices (R418) -/

theorem addDuty_later {w : Word} {y : Option (Fin 8)} (ho : ownFrame s h = false) :
    (forward (addDuty s h k y w) h f).peer.duties = s.peer.duties ++ [⟨farTime s w, h.dev, k, y⟩]
    ∧ (s.ticks + 26, Later.peerSend f) ∈ (forward (addDuty s h k y w) h f).later ∧ (forward (addDuty s h k y w) h f).regs = s.regs := by
  rw [forward_eq (s := addDuty s h k y w) ho]
  exact ⟨rfl, List.mem_append_right _ (List.mem_singleton_self _), rfl⟩

end

/-- Settles O54: clause by clause, how the ring comes up (`RingRisen`), goes down (`RingDown`), and what each frame does. -/
theorem peerRing : Obligations.PeerRing := by
  intro s h hears own primary onward down
  have hhear (hh : hears) : peerHears s = true := peerHears_iff.mpr hh
  have hcfg (hp : ¬primary) : s.bt R.PEER_CFG 1 = false := Bool.eq_false_iff.mpr hp
  refine ⟨?enable, fun hc hl => ?locks, fun hc => ⟨s, commaLock_idle hc, rfl⟩, fun hh => ?down, fun hh => ?deaf, ?reset, fun hh => ?unheard,
    fun hh hp hr => ?enumUp, fun hh hp hr => ?enumPrimary, fun hh hp h0 => ?enumNumber, fun hh hp h0 => ?enumZero, fun hp hr => ?stamps,
    fun hr => ⟨s, timeFrameSend_idle hr, rfl⟩, fun tm fi a hh hp => ⟨fun x hx => ?loop, fun hx => ?noLoop⟩, fun tm fi a hh hp => ?steers,
    fun t0 hh ho => ?tooth0, fun t1 hh ho => ?tooth1, fun k x w hh ho => ?round, fun k m hh ho => ?status, fun k m hh ho => ?closes,
    fun ho t0 t1 k x w c hc => ?own, fun hh ho => ?linkdn, fun hh => ?discard⟩
  case enable =>
    have hv : bit (s.rd R.PEER_CFG ||| 1) 0 = true := by simp [bit]
    refine ⟨_, rfl, ?_⟩
    rw [writePeerCfg_on hv]
    cases hc : s.bt R.PEER_CFG 0
    · have ht := peerCfgWritten_ticks (s := s) (v := s.rd R.PEER_CFG ||| 1)
      refine ⟨peerCfgWritten_rd, fun _ => ⟨congrArg Peer.joins peerCfgWritten_peer, ?_⟩, nofun⟩
      rw [← ht]
      exact List.mem_append_right _ (List.mem_singleton_self _)
    · exact ⟨peerCfgWritten_rd, nofun, fun _ => peerCfgWritten_peer⟩
  case locks =>
    refine ⟨_, commaLock_runs hc hl, ?_⟩
    by_cases hp : s.bt R.PEER_CFG 1 = true
    · rw [if_pos hp]
      refine ⟨enumSend_lock, fun _ => ?_, fun _ hr => enumSend_sends (primaryLocked_numbering hc hp hr), fun h' => absurd hp h'⟩
      rw [State.fl, enumSend_rd]
      exact primaryLocked_number
    · rw [if_neg hp]
      exact ⟨rfl, fun h' => absurd h' hp, fun h' => absurd h' hp, fun _ => ⟨rfl, rfl⟩⟩
  case down =>
    have hd : RingDown (lockLost s) (ringDown (lockLost s)) := ringDown_down
    have hup : ringUp s = true → ringUp (lockLost s) = true := fun hr => (congrArg (bit · 4) (lockLost_rd (by decide))).trans hr
    refine ⟨_, peerLinkDown_runs (hhear hh), hd.leaves hup rfl, congrArg Peer.lock hd.peer, (congrArg Peer.tx hd.peer).trans lockLost_sent, ?_⟩
    rw [State.fl, hd.rd _ (by decide) (by decide) (by decide) (by decide)]
    exact lockLost_count
  case deaf => exact ⟨s, if_neg (Bool.eq_false_iff.mp (unheard hh)), rfl⟩
  case reset =>
    refine ⟨_, peerReset_runs, ?_, ?_, ?_, rfl, rfl, rfl, rfl, fun _ _ => linkReset_later⟩
    · rw [ringUp, State.bt, linkReset_rd, if_pos (show linkReg R.PEER_STAT = true by decide)]
      exact peerStat_default
    · rw [linkReset_rd, if_neg (by decide)]
      exact ringDownIf_rd (by decide) (by decide) (by decide) (by decide)
    · rw [linkReset_rd, if_neg (by decide)]
      exact ringDownIf_rd (by decide) (by decide) (by decide) (by decide)
  case unheard =>
    have hno : (!peerHears s) = true := by rw [unheard hh]; rfl
    have hdrop : (!peerHears s || ownFrame s h) = true := dropsFrame (.inl (unheard hh))
    intro t0 t1 tm fi a k x w m c hc
    simp only [List.mem_cons, List.not_mem_nil, or_false] at hc
    obtain rfl | rfl | rfl | rfl | rfl | rfl | rfl | rfl | rfl := hc
    · exact ⟨s, if_pos hno, rfl⟩
    · exact ⟨s, if_pos hno, rfl⟩
    · exact ⟨s, if_pos hdrop, rfl⟩
    · exact ⟨s, if_pos hdrop, rfl⟩
    · exact ⟨s, if_pos hdrop, rfl⟩
    · exact ⟨s, if_pos hdrop, rfl⟩
    · exact ⟨s, if_pos hno, rfl⟩
    · exact ⟨s, if_pos hdrop, rfl⟩
    · exact ⟨s, congrArg Host.Outcome.next (if_neg (Bool.eq_false_iff.mp (unheard hh))), rfl⟩
  case enumUp => exact ⟨s, (if_neg (by rw [hhear hh]; nofun)).trans ((if_pos hp).trans (if_pos hr)), rfl⟩
  case enumPrimary =>
    have hrise : RingRisen ((h.hops.val + 3) % 4) _ _ := ringRises_risen (s := s.updPeer (fun p => { p with loop := 0, sentAt := none }))
    have hrun : execEnumFrame h s = _ :=
      (if_neg (by rw [hhear hh]; nofun)).trans ((if_pos hp).trans (if_neg (by rw [hr]; nofun)))
    refine ⟨_, hrun, hrise.up, congrArg Peer.loop hrise.peer, congrArg Peer.sentAt hrise.peer, ?_, hrise.link, ?_⟩
    · exact hrise.devices.trans (Nat.mod_mod _ _)
    · have hk := hrise.ticks
      rw [show s.ticks = _ from hk.symm]
      exact due_now
  case enumNumber =>
    have hrun : execEnumFrame h s = _ := (if_neg (by rw [hhear hh]; nofun)).trans ((if_neg hp).trans (if_neg fun h' => h0 (congrArg Fin.val h')))
    refine ⟨_, hrun, ?_, List.mem_append_right _ (List.mem_singleton_self _)⟩
    have hset : (s.setFl R.PEER_STAT 0 2 h.hops.val).fl R.PEER_STAT 0 2 = h.hops.val % 4 := by
      rw [State.fl, State.setFl_rd, if_pos rfl, fld_setFld _ _ _ _ (by decide)]
      rfl
    exact hset
  case enumZero =>
    have hrun : execEnumFrame h s = _ := (if_neg (by rw [hhear hh]; nofun)).trans ((if_neg hp).trans (if_pos (Fin.ext h0)))
    refine ⟨_, hrun, raiseLevel_active (by decide) _, ?_⟩
    rw [State.fl, (raiseLevel_reports (by decide) _).rd _ peerStat_not_raiseReg, State.fl]
  case stamps =>
    exact ⟨_, timeFrameSend_runs hp hr, rfl, stampSent_sentAt, mem_insertDue _ _⟩
  case loop =>
    have hrun : execTimeFrame h tm fi a s = _ := (if_neg (by rw [hhear hh]; nofun)).trans (if_pos hp)
    rw [hx] at hrun
    exact ⟨_, hrun, rfl, rfl⟩
  case noLoop =>
    have hrun : execTimeFrame h tm fi a s = _ := (if_neg (by rw [hhear hh]; nofun)).trans (if_pos hp)
    rw [hx] at hrun
    exact ⟨_, hrun, rfl⟩
  case steers =>
    have hheard : StampHeard s (stampHeard s) := stampHeard_heard
    have hsteer := align_steers (s := stampHeard s) (tm := tm) (fine := fi) (arr := a)
    rw [hheard.diff] at hsteer
    obtain ⟨l, hfwd⟩ := forward_rest (s := align (stampHeard s) tm fi a) (h := h) (f := .time (hop h) tm fi)
    have hstat : (diffShown (stampHeard s) (stampDiff s tm fi a)).rd R.PEER_STAT = (stampHeard s).rd R.PEER_STAT := by
      rw [diffShown]
      exact (State.setFl_rd ..).trans (if_neg (by decide))
    refine ⟨_, timeFrame_runs (hhear hh) (hcfg hp), ?_, ?_, ?_, fun ho => ?_⟩
    · rw [hfwd]
      exact hsteer.up.trans ((congrArg (bit · 4) hstat).trans hheard.up)
    · rw [hfwd]
      exact hsteer.joining
    · rw [hfwd]
      exact (congrArg (fld · 0 16) hsteer.err).trans diffShown_err
    · have hk : (align (stampHeard s) tm fi a).ticks = s.ticks := hsteer.ticks.trans hheard.ticks
      have hnum : (align (stampHeard s) tm fi a).fl R.PEER_STAT 0 2 = s.fl R.PEER_STAT 0 2 :=
        hsteer.number.trans ((congrArg (fld · 0 2) hstat).trans hheard.number)
      rw [forward_eq ((ownFrame_congr hnum).trans (not_ownFrame ho))]
      exact later_onward hk
  case tooth0 =>
    have hown : ownFrame (toothHeld s h t0) h = false := not_ownFrame (s := s) ho
    refine ⟨_, tooth0Frame_runs (hhear hh) (not_ownFrame ho), ?_⟩
    rw [forward_eq hown]
    exact ⟨List.mem_append_right _ (List.mem_singleton_self _), List.mem_append_right _ (List.mem_singleton_self _), rfl,
      fun x hx h1 h2 => toothHeld_only hx h1 h2⟩
  case tooth1 =>
    have hpair : RingKept toothReg s (pairFollowed s h t1) := pairFollowed_kept
    have hnum : (unheld (pairFollowed s h t1) h.dev t1.nwl).fl R.PEER_STAT 0 2 = s.fl R.PEER_STAT 0 2 :=
      congrArg (fld · 0 2) (hpair.rd _ fun h' => h' rfl)
    have hown : ownFrame (unheld (pairFollowed s h t1) h.dev t1.nwl) h = false := (ownFrame_congr hnum).trans (not_ownFrame ho)
    refine ⟨_, tooth1Frame_runs (hhear hh) (not_ownFrame ho), ?_⟩
    rw [forward_eq hown]
    have hk : (unheld (pairFollowed s h t1) h.dev t1.nwl).ticks = s.ticks := hpair.ticks
    refine ⟨?_, fun x hx => mem_unheld hx, fun hx => ?_, fun n hn => pairFollowed_other hn⟩
    · exact later_onward hk
    · have hn : (pairFollowed s h t1).nwl = s.nwl := congrArg State.nwl (pairFollowed_alone hx)
      exact hn
  case round =>
    have hown := not_ownFrame (s := s) ho
    cases x with
    | none => exact ⟨_, if_neg (takesFrame (hhear hh) hown), addDuty_later hown⟩
    | some y => exact ⟨_, if_neg (takesFrame (hhear hh) hown), addDuty_later hown⟩
  case status =>
    have hown : ownFrame (statusPassed s h k) h = false := not_ownFrame (s := s) ho
    refine ⟨_, statusFrame_passes (hhear hh) (not_ownFrame ho), ?_⟩
    rw [forward_eq hown]
    refine ⟨statusPassed_acted, fun hm => ?_, fun hm => ?_⟩
    · rw [statusBits, if_pos (List.contains_iff_mem.mpr hm)]
      exact List.mem_append_right _ (List.mem_singleton_self _)
    · rw [statusBits, if_neg fun hc => hm (List.contains_iff_mem.mp hc)]
      exact List.mem_append_right _ (List.mem_singleton_self _)
  case closes =>
    refine ⟨_, statusFrame_closes (hhear hh) (ownFrame_iff.mpr ho), ?_⟩
    rcases opened_find (l := s.peer.opened) (k := k) with ⟨hf, hno⟩ | ⟨y, hf, hy⟩
    · rw [closeRound_none hf]
      exact ⟨rfl, hno, fun hy => absurd rfl (hno _ hy), fun _ hy => absurd rfl (hno _ hy), fun _ => rfl⟩
    · cases y with
      | none =>
        have ht : RoundAnswered s k R.SNAP_STAT 20 m (roundAnswered s k R.SNAP_STAT 20 m) := roundAnswered_answered (by decide)
        rw [closeRound_snap hf]
        exact ⟨ht.later, ht.closed, fun _ _ => ⟨ht.done, ht.missing⟩, fun _ _ hn => absurd hy hn, fun hn => absurd rfl (hn _ hy)⟩
      | some y =>
        have ht : RoundAnswered s k R.TXN_EVT 16 m (roundAnswered s k R.TXN_EVT 16 m) := roundAnswered_answered (by decide)
        rw [closeRound_txn hf]
        exact ⟨ht.later, ht.closed, fun _ hn => absurd hy (hn y), fun _ _ _ => ⟨ht.done, ht.missing⟩, fun hn => absurd rfl (hn _ hy)⟩
  case own =>
    have hdrop : (!peerHears s || ownFrame s h) = true := dropsFrame (.inr (ownFrame_iff.mpr ho))
    simp only [List.mem_cons, List.not_mem_nil, or_false] at hc
    obtain rfl | rfl | rfl | rfl | rfl := hc
    all_goals exact ⟨s, if_pos hdrop, rfl⟩
  case linkdn =>
    have hd : RingDown s (ringDown s) := ringDown_down
    obtain ⟨l, hl⟩ := renumbers_rest (s := ringDown s)
    have hd2 : RingDown s (renumbers (ringDown s)) := by
      rw [hl]
      exact hd.later
    have hown : ownFrame (renumbers (ringDown s)) h = false := hd2.ownFrame.trans (not_ownFrame ho)
    refine ⟨_, linkdnFrame_runs (hhear hh) (not_ownFrame ho), ?_⟩
    rw [forward_eq hown]
    refine ⟨hd2.later.leaves id rfl, ?_, fun hp => ?_⟩
    · exact later_onward hd2.ticks
    · obtain ⟨hc, hlock⟩ := hh
      refine List.mem_append_left _ ?_
      rw [renumbers, if_pos (hd.numbering hc hlock hp), ← hd.ticks]
      exact List.mem_append_right _ (List.mem_singleton_self _)
  case discard =>
    have hcnt : ¬raiseReg R.PEER_CNT := by
      simp only [raiseReg, recordReg, R.PEER_CNT]
      omega
    refine ⟨_, congrArg Host.Outcome.next (if_pos (hhear hh)), ?_, raise_raised _ (by decide) _⟩
    rw [State.fl, (raise_reports ..).rd _ hcnt]
    exact satFl_fl (by decide)

end Sys2Proof.Machine
